-- ==== Sys2Proof/Word.lean ====
section
/-! DEFINITION. The word types of the model: what the manual treats as bits.
Quantities the manual counts (lengths, numbers of units, ticks) are `Nat`. -/
namespace Sys2Proof

/-- One byte. -/
abbrev Byte := BitVec 8
/-- One 32-bit register (R12). -/
abbrev Word := BitVec 32
/-- One 64-bit counter (R223). -/
abbrev DWord := BitVec 64
/-- A SHA-256 digest; byte 0 of the digest is the most significant byte (R59, R60). -/
abbrev Digest := BitVec 256
/-- A 64-byte descriptor read little-endian: descriptor byte `k` is bits `8k+7 … 8k` (R154). -/
abbrev Desc := BitVec 512
/-- A 32-byte almanac entry read little-endian (R642). -/
abbrev Entry := BitVec 256
/-- The error pattern of a block: 64 data bytes, then 8 check bytes, byte `k` in bits `8k+7 … 8k` (R309, R322). -/
abbrev Pattern := BitVec 576

end Sys2Proof
end

