-- ==== Sys2Proof/Syntax.lean ====
section
/-! DEFINITION. The commands of the block: one constructor of `Instr` for each row of the table of operations and events,
with the row's operands, and the records those operands are made of. A command is whole and indivisible. -/
namespace Sys2Proof

/-- A new error in a block of stack memory (R309–R315): column, physical offset of the block, error pattern, and whether
the fault is hard, so that it returns when the block is written. -/
structure Upset where
  col : Nat
  off : Nat
  pat : Pattern
  hard : Bool
  deriving DecidableEq, Repr

/-- A new error in a 64-bit word of a core's local store or, with `cluster`, of a cluster's shared memory (R260): one bit, or
with `double` two. -/
structure SramUpset where
  cluster : Bool
  unit : Nat
  off : Nat
  double : Bool
  deriving DecidableEq, Repr

/-- What the surroundings bring to a command that touches memory: bytes the host CPU has stored since, the host ranges
(start, length) that the IOMMU does not map or that answer with an error, those that answer with a poisoned completion
(R152, R687), new errors in stack memory and in the
stores of cores and clusters, and the size that the host has set for BAR2 through the Resizable BAR capability before an access to it
(R304), none where it has set none. -/
structure Env where
  stores : List Host.Cell
  unmapped : List (Nat × Nat)
  poisoned : List (Nat × Nat)
  upsets : List Upset
  sram : List SramUpset
  bar2 : Option Nat := none
  deriving DecidableEq, Repr

/-- What a start or restart of the module finds: regulator phases that fail the self-test, as (cluster, phase) (R492);
bank columns that fail training (R613); whether the firmware slot reads with an uncorrectable error (R619); whether the
PCIe link partner answers (R611 step 4); and how often each failing column was tried. -/
structure BootIn where
  phases : List (Nat × Nat)
  cols : List Nat
  nvmBad : Bool
  link : Bool
  attempts : Nat
  deriving DecidableEq, Repr

/-- A value an accumulator holds at its drain in place of the sum it should hold: row, column (192 is the checksum
column), FP32 bits (R208–R212). -/
structure Defect where
  row : Nat
  col : Nat
  value : Word
  deriving DecidableEq, Repr

/-- A received Ralwick datagram (R445): the port, the sender's IP address, whether its packet was CE-marked, and the
bytes of header, payload and CRC. -/
structure Rx where
  port : Nat
  src : Nat
  ce : Bool
  bytes : List Byte
  /-- destination address, UDP destination port, and whether the packet carries IP options or extension headers (R442) -/
  dst : Nat
  udp : Nat
  options : Bool
  deriving DecidableEq, Repr

/-- TYPE of a datagram (R445). -/
def Rx.typ (f : Rx) : Nat := (f.bytes.getD 1 0).toNat

/-- A received RoCEv2 request (R467, R468): port, local queue pair number, kind (0 WRITE First, 1 Middle, 2 Last, 3 Only,
4 READ Request), PSN, R_Key, virtual address, length, data, whether its packet was CE-marked, and whether its ICRC is that of its
bits. -/
structure Rdma where
  port : Nat
  qpn : Nat
  kind : Nat
  psn : Nat
  rkey : Nat
  va : Nat
  len : Nat
  data : List Byte
  ce : Bool
  icrc : Bool
  deriving DecidableEq, Repr

/-- The index of the queue pair that a request names: its number is 0x10_0000 + index (R467). -/
def Rdma.qp (q : Rdma) : Nat := q.qpn - 0x100000

/-- One 1 µs power measurement (R501, R502, R507): voltage in 10 mV and current in 10 mA of feeds A and B, P_common in W,
the draw of each polder in W, the current of each regulator group in A, and cores with no work that could take filler
but are at full density (R510). -/
structure PowerReading where
  mvA : Nat
  maA : Nat
  mvB : Nat
  maB : Nat
  common : Nat
  polders : List (Nat × Nat)
  groups : List (Nat × Nat)
  deriving DecidableEq, Repr

/-- One 20 µs reading of the die sensors (R522), in 1/16 °C; sensors not listed read as before: hot spots as (core, diode,
ring oscillator), memory diodes as (16 × layer + i, reading), and the diodes of BD. -/
structure ThermReading where
  cores : List (Nat × Nat × Nat)
  mem : List (Nat × Nat)
  bd : List Nat
  deriving DecidableEq, Repr

/-- One 100 µs reading of a coolant level (R522): inlet and outlet in 1/16 °C, flow in mL/min, pressure in 0.1 kPa. -/
structure CoolantReading where
  tin : Nat
  tout : Nat
  flow : Nat
  dp : Nat
  deriving DecidableEq, Repr

/-- One constructor for each row of the table of operations and events; the docstring of each gives the row and its rule. -/
inductive Instr where
  /-- POWER_ON (R611) -/
  | powerOn (feed : Nat) (b : BootIn)
  /-- PERST_N_ASSERT (R674) -/
  | perstAssert (ns : Nat)
  /-- STRAP_CHANGE (R673) -/
  | strapChange (level : Nat)
  /-- VF_ENABLE (R141) -/
  | vfEnable (vfs : Nat)
  /-- FUNCTION_LEVEL_RESET_VF (R144) -/
  | flrVf (v : Nat)
  /-- D3HOT_ENTRY (R631) -/
  | d3hotEntry (fn : Nat)
  /-- D0_RETURN (R631) -/
  | d0Return (fn : Nat) (env : Env)
  /-- IDE_INTEGRITY_FAILURE (R630) -/
  | ideIntegrityFailure (stream : Nat)
  /-- BAR2_READ (R305) -/
  | bar2Read (off len : Nat) (env : Env)
  /-- BAR2_WRITE (R305) -/
  | bar2Write (off : Nat) (data : List Byte) (env : Env)
  /-- REMAP_NVM_WRITE (R314) -/
  | remapNvmWrite (col entry : Nat)
  /-- COUNTER_LO_READ (R223) -/
  | counterLoRead (fn addr : Nat)
  /-- REGISTER_WRITE (R12) -/
  | registerWrite (fn addr : Nat) (v : Word) (env : Env)
  /-- CTX_BIND (R145) -/
  | ctxBind (fn idx : Nat) (v : Word)
  /-- ENABLE (R153) -/
  | ctxEnable (fn idx : Nat) (irqEn : Bool)
  /-- CTX_DISABLE (R177) -/
  | ctxDisable (fn idx : Nat) (irqEn : Bool)
  /-- CONTEXT_RESET (R563) -/
  | contextReset (fn idx : Nat)
  /-- DB_SQ_TAIL (R149) -/
  | dbSqTail (fn idx : Nat) (v : Word)
  /-- DB_CQ_HEAD (R151) -/
  | dbCqHead (fn idx : Nat) (v : Word)
  /-- DESCRIPTOR_FETCH (R150) -/
  | descriptorFetch (ctx : Nat) (env : Env)
  /-- COMMAND_COMMIT (R160) -/
  | commandCommit (id : Nat) (env : Env)
  /-- IRQ_HOLD_EXPIRY (R163) -/
  | irqHoldExpiry (ctx : Nat)
  /-- GEMM (R185) -/
  | gemm (id : Nat) (env : Env)
  /-- CONV (R194) -/
  | conv (id : Nat) (env : Env)
  /-- ELEMENTWISE (R262) -/
  | elementwise (id : Nat) (env : Env)
  /-- PASS_START (R189) -/
  | passStart (core : Nat) (env : Env)
  /-- DRAIN_COMPLETE (R208) -/
  | drainComplete (core : Nat) (defects : List Defect) (env : Env)
  /-- SHADOW_SAMPLE_END (R245) -/
  | shadowSampleEnd (core : Nat)
  /-- ATTN_FWD (R394) -/
  | attnFwd (id : Nat) (env : Env)
  /-- ATTN_COMBINE (R401) -/
  | attnCombine (id : Nat) (env : Env)
  /-- ATTN_BWD (R396) -/
  | attnBwd (id : Nat) (env : Env)
  /-- REGISTER (R372) -/
  | kvRegister (id : Nat) (env : Env)
  /-- RELEASE (R373) -/
  | kvRelease (id : Nat) (env : Env)
  /-- ACTIVATE (R373) -/
  | kvActivate (id : Nat) (env : Env)
  /-- DEACTIVATE (R373) -/
  | kvDeactivate (id : Nat) (env : Env)
  /-- FORK (R373) -/
  | kvFork (id : Nat) (env : Env)
  /-- TRUNCATE (R382) -/
  | kvTruncate (id : Nat) (env : Env)
  /-- SET_FORMAT (R373) -/
  | kvSetFormat (id : Nat) (env : Env)
  /-- PUBLISH (R388) -/
  | kvPublish (id : Nat) (env : Env)
  /-- EVICT (R373) -/
  | kvEvict (id : Nat) (env : Env)
  /-- REF (R382) -/
  | kvRef (id : Nat) (env : Env)
  /-- FREE (R382) -/
  | kvFree (id : Nat) (env : Env)
  /-- PREFIX_LOOKUP (R389) -/
  | prefixLookup (id : Nat) (env : Env)
  /-- COPY_ON_WRITE_END (R383) -/
  | copyOnWriteEnd (polder new : Nat) (env : Env)
  /-- OPT_STEP (R411) -/
  | optStep (id : Nat) (env : Env)
  /-- ALL_REDUCE (R463) -/
  | allReduce (id : Nat) (env : Env)
  /-- REDUCE_SCATTER (R463) -/
  | reduceScatter (id : Nat) (env : Env)
  /-- ALL_GATHER (R463) -/
  | allGather (id : Nat) (env : Env)
  /-- BROADCAST (R463) -/
  | broadcast (id : Nat) (env : Env)
  /-- SIGN_VOTE (R464) -/
  | signVote (id : Nat) (env : Env)
  /-- NBU_RUN (R334) -/
  | nbuRun (id : Nat) (env : Env)
  /-- NBU_DISPATCH (R338) -/
  | nbuDispatch (id : Nat)
  /-- NBU_SEQUENCE_END (R339) -/
  | nbuSequenceEnd (col bank : Nat)
  /-- END (R341) -/
  | nbuEnd (col bank : Nat)
  /-- LD (R342) -/
  | nbuLd (col bank : Nat) (env : Env)
  /-- ST (R342) -/
  | nbuSt (col bank : Nat) (env : Env)
  /-- FMA (R341) -/
  | nbuFma (col bank : Nat)
  /-- MUL (R341) -/
  | nbuMul (col bank : Nat)
  /-- ADD (R341) -/
  | nbuAdd (col bank : Nat)
  /-- MAX (R341) -/
  | nbuMax (col bank : Nat)
  /-- SCALE (R341) -/
  | nbuScale (col bank : Nat)
  /-- SGN (R341) -/
  | nbuSgn (col bank : Nat)
  /-- CLIP (R341) -/
  | nbuClip (col bank : Nat)
  /-- EXP (R341) -/
  | nbuExp (col bank : Nat)
  /-- HSUM (R341) -/
  | nbuHsum (col bank : Nat)
  /-- HMAX (R341) -/
  | nbuHmax (col bank : Nat)
  /-- ARG (R341) -/
  | nbuArg (col bank : Nat)
  /-- PSET (R341) -/
  | nbuPset (col bank : Nat)
  /-- PADD (R341) -/
  | nbuPadd (col bank : Nat)
  /-- PARG (R341) -/
  | nbuParg (col bank : Nat)
  /-- LSET (R341) -/
  | nbuLset (col bank : Nat)
  /-- LOOP (R341) -/
  | nbuLoop (col bank : Nat)
  /-- BRLT (R341) -/
  | nbuBrlt (col bank : Nat)
  /-- JMP (R341) -/
  | nbuJmp (col bank : Nat)
  /-- DMA (R265) -/
  | dma (id : Nat) (env : Env)
  /-- FENCE (R168) -/
  | fence (id : Nat)
  /-- COUNTER_OP_ADD (R269) -/
  | counterAdd (id : Nat)
  /-- COUNTER_OP_WAIT_GE (R269) -/
  | counterWaitGe (id : Nat)
  /-- HARVEST (R597) -/
  | harvest (id : Nat) (env : Env)
  /-- RESTORE (R598) -/
  | restore (id : Nat) (env : Env)
  /-- PARITY_REBUILD (R592) -/
  | parityRebuild (id : Nat) (env : Env)
  /-- ABORT (R172) -/
  | abort (id : Nat)
  /-- ABORT_OVERRUN (R175) -/
  | abortOverrun (id : Nat)
  /-- ARRAY (R633) -/
  | testArray (id : Nat) (bad : Option (Nat × Nat))
  /-- VECTOR (R633) -/
  | testVector (id : Nat) (bad : Option Nat)
  /-- SRAM_SCRUB (R633) -/
  | testSramScrub (id : Nat) (env : Env)
  /-- MEM_CAL (R634) -/
  | testMemCal (id : Nat)
  /-- FAB_RETRAIN (R635) -/
  | testFabRetrain (id : Nat)
  /-- SELFTEST_DEADLINE (R633) -/
  | selftestDeadline (id : Nat)
  /-- STORE_COMPLETE (R125) -/
  | storeComplete (ok : Bool)
  /-- DRAIN_DEADLINE (R111) -/
  | drainDeadline (polder : Nat)
  /-- POLDER_STOPPED (R112) -/
  | polderStopped (polder : Nat)
  /-- IMG_CTRL_GO (R99) -/
  | imgGo (src : Nat)
  /-- IMG_CTRL_SRC (R100) -/
  | imgSrc (src : Nat)
  /-- IMG_PORT_WRITE (R100) -/
  | imgPortWrite (data : List Byte) (env : Env)
  /-- IMAGE_COPY_DONE (R101) -/
  | imageCopyDone (env : Env)
  /-- IMAGE_VALIDATION_DONE (R92) -/
  | imageValidationDone (env : Env)
  /-- ARM (R323) -/
  | memArm (v : Word)
  /-- CLR_LOG (R327) -/
  | memClrLog (col : Nat)
  /-- CLR_COUNTS (R327) -/
  | memClrCounts (col : Nat)
  /-- RETIRE_APPEND_DONE (R319) -/
  | retireAppendDone (ok : Bool)
  /-- CLR_COUNTERS (R222) -/
  | arrClrCounters (core : Nat)
  /-- CLR (R255) -/
  | precClr (core : Nat)
  /-- CLEAR (R258) -/
  | precClear (polder : Nat)
  /-- PATROL_SCRUB (R307) -/
  | patrolScrub (col : Nat) (env : Env)
  /-- REFRESH_DUE (R306) -/
  | refreshDue (col bank : Nat)
  /-- MEM_CALIBRATION_DUE (R634) -/
  | memCalibrationDue (col : Nat)
  /-- MEM_CALIBRATION_DONE (R634) -/
  | memCalibrationDone (col : Nat)
  /-- VIGIL_EXPIRY (R552) -/
  | vigilExpiry (id : Nat)
  /-- STOP_OVERRUN (R554) -/
  | stopOverrun (id unitKind unit : Nat)
  /-- ENGINE_RESET (R561) -/
  | engineReset (core : Nat)
  /-- POLDER_RESET (R561) -/
  | polderReset (polder : Nat)
  /-- CHIP_RESET (R561) -/
  | chipReset (key : Nat)
  /-- MODULE_RESET (R615) -/
  | moduleReset (key : Nat)
  /-- POWER_CYCLE_REQUEST (R573) -/
  | powerCycleRequest (key : Nat)
  /-- SLUICE_CLOSE (R559) -/
  | sluiceClose (level unit : Nat)
  /-- RESET_COMPLETE (R561) -/
  | resetComplete (level unit : Nat) (b : BootIn)
  /-- RESET_OVERRUN (R555) -/
  | resetOverrun (level unit : Nat)
  /-- FEED_LOST (R485) -/
  | feedLost (feed mv : Nat)
  /-- FEED_REJOIN (R485) -/
  | feedRejoin (feed mv : Nat)
  /-- EV_PWR_PHASE_FAIL (R490) -/
  | pwrPhaseFail (cluster phase : Nat)
  /-- POWER_SAMPLE (R502) -/
  | powerSample (r : PowerReading)
  /-- START (R499) -/
  | rampStart (cluster mask : Nat)
  /-- RAMP_RETRY (R499) -/
  | rampRetry (cluster : Nat)
  /-- RAMP_FORCED_ADMIT (R499) -/
  | rampForcedAdmit (cluster : Nat)
  /-- RAMP_DENSITY_STEP (R499) -/
  | rampDensityStep (cluster : Nat)
  /-- RAMP_TARGET_RAISE (R499) -/
  | rampTargetRaise (cluster : Nat)
  /-- HALF_STANDBY_TIMEOUT (R495) -/
  | halfStandby (half : Nat)
  /-- HALF_ASLEEP_TIMEOUT (R495) -/
  | halfAsleep (half : Nat)
  /-- CEILING_UPDATE (R498) -/
  | ceilingUpdate (core margin : Nat)
  /-- POWER_GRANT (R503) -/
  | powerGrant (binding inst watts leaseMs : Nat)
  /-- GRANT (R504) -/
  | grantFrame (f : Rx)
  /-- SLACK_WINDOW_END (R505) -/
  | slackWindowEnd (slack : Nat)
  /-- SLACK (R505) -/
  | slackFrame (f : Rx)
  /-- THERMAL_SAMPLE (R523) -/
  | thermalSample (r : ThermReading)
  /-- THERMAL_STEP (R529) -/
  | thermalStep (half : Bool) (n : Nat)
  /-- MEM_DUTY_STEP (R531) -/
  | memDutyStep (ml : Nat)
  /-- THERMAL_MODEL_UPDATE (R526) -/
  | thermalModelUpdate (watts : List Nat)
  /-- EV_THM_MODEL (R527) -/
  | thmModel (layer : Nat)
  /-- EV_THM_SUSPECT (R527) -/
  | thmSuspect (layer : Nat)
  /-- MODEL_RELEASE (R527) -/
  | modelRelease (layer : Nat)
  /-- COOLANT_SAMPLE (R535) -/
  | coolantSample (r : List CoolantReading)
  /-- PORT_LINK_UP (R440) -/
  | portLinkUp (port : Nat)
  /-- PORT_LINK_DOWN (R476) -/
  | portLinkDown (port : Nat)
  /-- LANE_RETRAIN_TRIGGER (R635) -/
  | laneRetrainTrigger (port lane : Nat)
  /-- LANE_RETRAIN_STEP_DONE (R635) -/
  | laneRetrainStepDone (port : Nat)
  /-- ARP_REQUEST (R439) -/
  | arpRequest (port target asker mac : Nat)
  /-- ICMP_ECHO (R439) -/
  | icmpEcho (port target asker : Nat) (data : List Byte)
  /-- PAUSE_FRAME (R439) -/
  | pauseFrame (port : Nat)
  /-- RX_DISCARD (R439) -/
  | rxDiscard (port : Nat)
  /-- WRITE (R458) -/
  | fabWrite (f : Rx) (env : Env)
  /-- READ_REQ (R458) -/
  | fabReadReq (f : Rx) (env : Env)
  /-- READ_RSP (R455) -/
  | fabReadRsp (f : Rx) (env : Env)
  /-- ACK (R449) -/
  | fabAck (f : Rx)
  /-- NAK (R453) -/
  | fabNak (f : Rx)
  /-- ACK_TIMER (R449) -/
  | ackTimer (device : Nat)
  /-- RETRANSMIT_TIMEOUT (R450) -/
  | retransmitTimeout (device : Nat)
  /-- PEER_DOWN_RETRANSMIT (R450) -/
  | peerDownRetransmit (device : Nat)
  /-- BUSY_RETRY (R453) -/
  | busyRetry (device psn : Nat)
  /-- RATE_INCREASE_PERIOD (R454) -/
  | rateIncrease (device port entry : Nat)
  /-- COLL_DATA (R465) -/
  | collData (f : Rx) (env : Env)
  /-- BREACH (R470) -/
  | breachFrame (f : Rx)
  /-- BREACH_SEND (R469) -/
  | breachSend (v : Word)
  /-- BREACH_LATCH_CLEAR (R470) -/
  | breachLatchClear (polder : Nat)
  /-- FAB_EP_VALID (R456) -/
  | fabEpValid (ep : Nat) (v : Word)
  /-- RDMA_WRITE (R468) -/
  | rdmaWrite (q : Rdma) (env : Env)
  /-- RDMA_READ_REQUEST (R468) -/
  | rdmaRead (q : Rdma) (env : Env)
  /-- RECKON_REQ (R473) -/
  | reckonReq (f : Rx)
  /-- RECKON_RSP (R473) -/
  | reckonRsp (f : Rx)
  /-- PAR_DELTA (R590) -/
  | parDelta (f : Rx) (env : Env)
  /-- PAR_READ_REQ (R593) -/
  | parReadReq (f : Rx) (env : Env)
  /-- PAR_READ_RSP (R593) -/
  | parReadRsp (f : Rx) (env : Env)
  /-- HARV_REPORT (R602) -/
  | harvReport (f : Rx)
  /-- PAR_GRP_VALID (R585) -/
  | parGrpValid (group : Nat) (v : Word) (env : Env)
  /-- PAR_GRP_LOST (R586) -/
  | parGrpLost (group : Nat) (v : Word)
  /-- PAR_GRP_DEV (R586) -/
  | parGrpDev (group r : Nat) (v : Word)
  /-- SEC_FW_PORT_WRITE (R622) -/
  | fwPortWrite (data : List Byte)
  /-- COMMIT (R622) -/
  | fwCommit (key : Nat)
  /-- RECOVER (R619) -/
  | fwRecover (key : Nat)
  /-- TRANSFER (R625) -/
  | ownerTransfer (env : Env)
  /-- LOCK (R624) -/
  | ownerLock (key : Nat)
  /-- GET_VERSION (R627) -/
  | spdmGetVersion (binding : Nat) (req : List Byte)
  /-- GET_CAPABILITIES (R627) -/
  | spdmGetCapabilities (binding : Nat) (req : List Byte)
  /-- NEGOTIATE_ALGORITHMS (R627) -/
  | spdmNegotiateAlgorithms (binding : Nat) (req : List Byte)
  /-- GET_DIGESTS (R627) -/
  | spdmGetDigests (binding : Nat) (req : List Byte)
  /-- GET_CERTIFICATE (R626) -/
  | spdmGetCertificate (binding slot off len : Nat)
  /-- CHALLENGE (R627) -/
  | spdmChallenge (binding : Nat) (req : List Byte)
  /-- GET_MEASUREMENTS (R628) -/
  | spdmGetMeasurements (binding index : Nat) (req : List Byte)
  /-- KEY_EXCHANGE (R627) -/
  | spdmKeyExchange (binding : Nat) (req : List Byte)
  /-- FINISH (R627) -/
  | spdmFinish (binding session : Nat) (req : List Byte)
  /-- HEARTBEAT (R627) -/
  | spdmHeartbeat (binding session : Nat)
  /-- KEY_UPDATE (R627) -/
  | spdmKeyUpdate (binding session : Nat)
  /-- END_SESSION (R627) -/
  | spdmEndSession (binding session : Nat)
  /-- IDE_KM (R630) -/
  | ideKm (session stream : Nat) (active : Bool)
  /-- SET_ENDPOINT_ID (R654) -/
  | mctpSetEid (binding src eid : Nat)
  /-- GET_ENDPOINT_ID (R655) -/
  | mctpGetEid (binding : Nat)
  /-- GET_ENDPOINT_UUID (R655) -/
  | mctpGetUuid (binding : Nat)
  /-- GET_MCTP_VERSION_SUPPORT (R655) -/
  | mctpGetVersion (binding type : Nat)
  /-- GET_MESSAGE_TYPE_SUPPORT (R655) -/
  | mctpGetTypes (binding : Nat)
  /-- GET_VENDOR_DEFINED_MESSAGE_SUPPORT (R655) -/
  | mctpGetVendor (binding : Nat)
  /-- MAILBOX (R657) -/
  | mctpMailbox (binding inst op a0 a1 a2 : Nat)
  /-- ALM_READ (R657) -/
  | mctpAlmRead (binding inst source first count : Nat)
  /-- ALM_FREEZE (R657) -/
  | mctpAlmFreeze (binding inst : Nat)
  /-- HEAT_REPORT (R659) -/
  | mctpHeatReport (binding inst : Nat)
  /-- GET_TID (R661) -/
  | pldmGetTid (binding inst : Nat)
  /-- GET_PLDM_VERSION (R661) -/
  | pldmGetVersion (binding inst type : Nat)
  /-- GET_PLDM_TYPES (R661) -/
  | pldmGetTypes (binding inst : Nat)
  /-- GET_PLDM_COMMANDS (R661) -/
  | pldmGetCommands (binding inst type : Nat)
  /-- GET_PDR_REPOSITORY_INFO (R661) -/
  | pldmGetPdrInfo (binding inst : Nat)
  /-- GET_PDR (R661) -/
  | pldmGetPdr (binding inst record : Nat)
  /-- GET_SENSOR_READING (R661) -/
  | pldmGetSensor (binding inst sensor : Nat)
  /-- SET_EVENT_RECEIVER (R661) -/
  | pldmSetReceiver (binding inst eid : Nat)
  /-- QUERY_DEVICE_IDENTIFIERS (R662) -/
  | pldmQueryDevice (binding inst : Nat)
  /-- GET_FIRMWARE_PARAMETERS (R662) -/
  | pldmGetFwParams (binding inst : Nat)
  /-- REQUEST_UPDATE (R662) -/
  | pldmRequestUpdate (binding inst : Nat)
  /-- PASS_COMPONENT_TABLE (R662) -/
  | pldmPassComponents (binding inst : Nat)
  /-- UPDATE_COMPONENT (R662) -/
  | pldmUpdateComponent (binding inst length : Nat)
  /-- REQUEST_FIRMWARE_DATA (R662) -/
  | pldmFirmwareData (data : List Byte)
  /-- ACTIVATE_FIRMWARE (R662) -/
  | pldmActivate (binding inst : Nat)
  /-- GET_STATUS (R662) -/
  | pldmGetStatus (binding inst : Nat)
  /-- CANCEL_UPDATE (R662) -/
  | pldmCancel (binding inst : Nat)
  /-- FREEZE (R649) -/
  | almFreeze (key : Nat)
  /-- PERST_N_RELEASE (R611) -/
  | perstRelease (b : BootIn)
  /-- FEED_RISE (R675) -/
  | feedRise (feed mv : Nat)
  /-- HOT_SWAP_CONNECT (R675) -/
  | hotSwapConnect (feed : Nat)
  /-- INVALID_REQUEST (R467) -/
  | rdmaInvalid (q : Rdma)
  /-- OWNER_DONE (R624) -/
  | ownerDone (ok : Bool)
  /-- PCIE_HOT_RESET (R615) -/
  | pcieHotReset
  /-- PCIE_LINK_LOSS (R615) -/
  | pcieLinkLoss
  /-- FUNCTION_LEVEL_RESET_PF (R616) -/
  | flrPf
  /-- SET (R120) -/
  | mbxSet
  /-- GET (R122) -/
  | mbxGet
  /-- STORE (R125) -/
  | mbxStore
  /-- REVERT (R123) -/
  | mbxRevert
  /-- DEFAULTS (R123) -/
  | mbxDefaults
  /-- QUIESCE (R111) -/
  | mbxQuiesce
  /-- RESUME (R116) -/
  | mbxResume
  /-- IMG_CTRL_ABORT (R102) -/
  | imgAbort
  /-- IMAGE_COMMIT (R96) -/
  | imageCommit
  /-- APPEND (R319) -/
  | memAppend
  /-- POWER_CYCLE_REPEAT (R573) -/
  | powerCycleRepeat
  /-- EV_PWR_HOLDUP (R486) -/
  | pwrHoldup
  /-- EV_GRANT_LAPSE (R503) -/
  | grantLapse
  /-- GRANT_REDISTRIBUTION (R506) -/
  | grantRedistribution
  /-- HEAT_METER_UPDATE (R512) -/
  | heatMeterUpdate
  /-- EV_HEAT_MISMATCH (R513) -/
  | heatMismatch
  /-- FLOW_LIMIT_UPDATE (R532) -/
  | flowLimitUpdate
  /-- OUTLET_REDUCTION_STEP (R533) -/
  | outletReductionStep
  /-- EV_CLT_RESTART (R538) -/
  | cltRestart
  /-- BOND_WEAR_SAMPLE (R541) -/
  | bondWearSample
  /-- BOND_WEAR_WRITE (R541) -/
  | bondWearWrite
  /-- ARP_REFRESH (R439) -/
  | arpRefresh
  /-- RECKON_PERIOD (R473) -/
  | reckonPeriod
  /-- NOW (R473) -/
  | reckonNow
  /-- RECKON_DEADLINE (R473) -/
  | reckonDeadline
  /-- EV_CAS_MASTER_LOST (R473) -/
  | casMasterLost
  /-- HARV_REPORT_PERIOD (R602) -/
  | harvReportPeriod
  /-- HARV_ADVISE_UPDATE (R601) -/
  | harvAdviseUpdate
  /-- OPEN (R622) -/
  | fwOpen
  /-- VERIFY (R622) -/
  | fwVerify
  /-- FIRMWARE_VERIFY_DONE (R622) -/
  | fwVerifyDone
  /-- FIRMWARE_COMMIT_DONE (R622) -/
  | fwCommitDone
  /-- CANCEL (R623) -/
  | fwCancel
  /-- ENROLL (R624) -/
  | ownerEnroll
  /-- ALM_FREEZE_COMPLETE (R650) -/
  | almFreezeComplete
  /-- I3C_BUS_RESET (R684) -/
  | i3cBusReset
  deriving DecidableEq, Repr

end Sys2Proof
end

