-- ==== Sys2Proof/Machine/SMap.lean ====
section
/-! DEFINITION. Sparse maps: the one canonical form in which the model keeps memories, registers and tables.
Keys rise strictly and no entry equals what an unlisted key reads as, so equal contents are equal lists. -/
namespace Sys2Proof.Machine

/-- A sparse map from numbers, as a list of entries with rising keys. -/
abbrev SMap (β : Type) := List (Nat × β)

/-- What key `k` reads as; `d k` where no entry lists it. -/
def SMap.get {β : Type} (d : Nat → β) : SMap β → Nat → β
  | [], k => d k
  | (a, v) :: m, k => if k = a then v else SMap.get d m k

/-- The map with every entry of `k` removed: `k` then reads as `d k`. -/
def SMap.erase {β : Type} : SMap β → Nat → SMap β
  | [], _ => []
  | (a, v) :: m, k => if k = a then SMap.erase m k else (a, v) :: SMap.erase m k

/-- The map with `v` stored at `k`, listed even where `v` is what an unlisted key reads as. -/
def SMap.insert {β : Type} : SMap β → Nat → β → SMap β
  | [], k, v => [(k, v)]
  | (a, w) :: m, k, v =>
    if k < a then (k, v) :: (a, w) :: m else if k = a then (k, v) :: m else (a, w) :: SMap.insert m k v

/-- The map with `v` stored at `k`; storing what an unlisted key reads as removes the entry. -/
def SMap.set {β : Type} [DecidableEq β] (d : Nat → β) (m : SMap β) (k : Nat) (v : β) : SMap β :=
  if v = d k then m.erase k else m.insert k v

/-- The map with every listed key that satisfies `p` back at what an unlisted key reads as. -/
def SMap.clear {β : Type} (m : SMap β) (p : Nat → Bool) : SMap β := m.filter (fun e => !p e.1)

/-- Every key of the list is above `k`. -/
def SMap.above {β : Type} (k : Nat) : SMap β → Bool
  | [] => true
  | (a, _) :: m => decide (k < a) && SMap.above k m

/-- The canonical form: keys strictly rising, no entry equal to its default. -/
def SMap.wf {β : Type} [DecidableEq β] (d : Nat → β) : SMap β → Bool
  | [] => true
  | (a, v) :: m => SMap.above a m && decide (v ≠ d a) && SMap.wf d m

/-- Byte memories: unlisted bytes read 0. -/
abbrev Mem := SMap Byte

/-- The byte at `a`. -/
def Mem.byte (m : Mem) (a : Nat) : Byte := SMap.get (fun _ => 0) m a

/-- The memory with `bs` stored from `a` upward. -/
def Mem.write (m : Mem) (a : Nat) : List Byte → Mem
  | [] => m
  | b :: bs => Mem.write (SMap.set (fun _ => 0) m a b) (a + 1) bs

/-- `n` bytes from `a` upward. -/
def Mem.read (m : Mem) (a n : Nat) : List Byte := (List.range n).map (fun i => m.byte (a + i))

/-- Bytes `a … a + n − 1` set to 0. -/
def Mem.zero (m : Mem) (a n : Nat) : Mem := SMap.clear m (fun k => decide (a ≤ k) && decide (k < a + n))

end Sys2Proof.Machine
end

