-- ==== Sys2Proof/Machine/Bytes.lean ====
section
/-! DEFINITION. Bit fields and byte order: the helpers every encoding of the manual is read through. -/
namespace Sys2Proof.Machine

/-- Bits `[hi:lo]` of a number. -/
def bits (w hi lo : Nat) : Nat := (w >>> lo) % 2 ^ (hi + 1 - lo)

/-- One bit of a number. -/
def bit (w i : Nat) : Bool := w.testBit i

/-- 1 or 0. -/
def b2n (b : Bool) : Nat := if b then 1 else 0

/-- Field `[hi:lo]` of a register value. -/
def fld (w : Word) (hi lo : Nat) : Nat := bits w.toNat hi lo

/-- A register value with field `[hi:lo]` replaced by `v` (taken modulo the field's width). -/
def setFld (w : Word) (hi lo v : Nat) : Word :=
  let m := (2 ^ (hi + 1 - lo) - 1) <<< lo
  (w &&& ~~~ (BitVec.ofNat 32 m)) ||| BitVec.ofNat 32 ((v % 2 ^ (hi + 1 - lo)) <<< lo)

/-- A register value with one bit set to `b`. -/
def setBit (w : Word) (i : Nat) (b : Bool) : Word := setFld w i i (b2n b)

/-- Little-endian number of a byte list (R52, R154). -/
def leNat : List Byte → Nat
  | [] => 0
  | b :: bs => b.toNat + 256 * leNat bs

/-- Big-endian number of a byte list (the octet strings of R52). -/
def beNat (bs : List Byte) : Nat := bs.foldl (fun a b => 256 * a + b.toNat) 0

/-- The `n` little-endian bytes of a number. -/
def leBytes : Nat → Nat → List Byte
  | 0, _ => []
  | n + 1, v => BitVec.ofNat 8 v :: leBytes n (v / 256)

/-- The `n` big-endian bytes of a number. -/
def beBytes (n v : Nat) : List Byte := (leBytes n v).reverse

/-- `size` bytes at byte offset `off` of a descriptor, as a little-endian number (R154, R156). -/
def dfld (d : Desc) (off size : Nat) : Nat := bits d.toNat (8 * (off + size) - 1) (8 * off)

/-- One byte of a descriptor. -/
def dbyte (d : Desc) (off : Nat) : Nat := dfld d off 1

/-- Bytes `off … off + size − 1` of a memory, little-endian. -/
def Mem.le (m : Mem) (off size : Nat) : Nat := leNat (m.read off size)

/-- Little-endian number at byte `off` of a byte list; bytes beyond the end read 0. -/
def lsub (l : List Byte) (off size : Nat) : Nat := leNat ((l.drop off).take size)

/-- Byte `off` of a byte list; 0 beyond the end. -/
def lbyte (l : List Byte) (off : Nat) : Nat := (l.getD off 0).toNat

/-- The bytes `off … off + size − 1` of a byte list. -/
def lslice (l : List Byte) (off size : Nat) : List Byte := (l.drop off).take size

/-- Every byte of a list is 0. -/
def allZero (l : List Byte) : Bool := l.all (· == 0)

/-- A two's-complement number of `n` bits. -/
def signed (n v : Nat) : Int := if v % 2 ^ n < 2 ^ (n - 1) then (v % 2 ^ n : Nat) else (v % 2 ^ n : Nat) - (2 ^ n : Nat)

/-- The `n`-bit two's-complement encoding of an integer. -/
def unsigned (n : Nat) (i : Int) : Nat := (i % (2 ^ n : Nat)).toNat

/-- The numbers whose bits are set in a mask of `n` bits, ascending. -/
def bitsOf (n mask : Nat) : List Nat := (List.range n).filter (fun i => mask.testBit i)

/-- Number of bits set in a mask of `n` bits. -/
def popcount (n mask : Nat) : Nat := (bitsOf n mask).length

/-- Smallest multiple count: `⌈a / b⌉`. -/
def cdiv (a b : Nat) : Nat := (a + b - 1) / b

/-- Two half-open ranges `[a, a+n)` and `[b, b+m)` share a number. -/
def overlap (a n b m : Nat) : Bool := decide (a < b + m) && decide (b < a + n) && decide (0 < n) && decide (0 < m)

/-- A list holds a value twice. -/
def hasDup {α : Type} [BEq α] : List α → Bool
  | [] => false
  | x :: xs => xs.contains x || hasDup xs

/-- The `i`-th element replaced. -/
def listSet {α : Type} (l : List α) (i : Nat) (a : α) : List α := l.set i a

/-- A list cut into pieces of `n`. -/
def chunksFuel {α : Type} (n : Nat) : Nat → List α → List (List α)
  | 0, _ => []
  | _, [] => []
  | k + 1, l => l.take n :: chunksFuel n k (l.drop n)

/-- A list cut into pieces of `n` elements, the last possibly shorter. -/
def chunks {α : Type} (n : Nat) (l : List α) : List (List α) := chunksFuel n l.length l

end Sys2Proof.Machine
end

