-- ==== Sys2Proof/Machine/Crypto.lean ====
section
/-! DEFINITION. The standard functions the manual names without restating them: SHA-256, RSASSA-PSS with RSA-3072
(R59), CRC-32 of IEEE 802.3 (R124) and CRC-32C (R447). PRESUMED from the standards, log entry 5. -/
namespace Sys2Proof.Machine

/-- The primes below 312: the first 64. -/
def shaPrimes : List Nat := (List.range 312).filter (fun n => decide (2 ≤ n) && [2, 3, 5, 7, 11, 13, 17].all (fun d => n == d || n % d != 0))

/-- The largest `r` below `2 ^ bits` above a start with `r ^ k ≤ v`, found from its highest bit down. -/
def rootFrom (k v : Nat) : Nat → Nat → Nat
  | 0, r => r
  | b + 1, r => rootFrom k v b (if (r + 2 ^ b) ^ k ≤ v then r + 2 ^ b else r)

/-- The first 32 bits of the fraction of the `k`-th root of a number below 1,024. -/
def rootFraction (k p : Nat) : Nat := rootFrom k (p * 2 ^ (32 * k)) 38 0 % 2 ^ 32

/-- The round constants of SHA-256: of the cube roots of the first 64 primes. -/
def shaK : List Nat := shaPrimes.map (rootFraction 3)

/-- The initial hash value of SHA-256: of the square roots of the first 8 primes. -/
def shaInit : List Nat := (shaPrimes.take 8).map (rootFraction 2)

/-- Rotation right of a 32-bit number. -/
def rotr (x n : Nat) : Nat := (x >>> n) ||| ((x <<< (32 - n)) % 2 ^ 32)

/-- The exclusive or of several rotations of a number, with that of a shift where one is named (0: none). -/
def mixBits (rs : List Nat) (sh x : Nat) : Nat := rs.foldl (fun a r => a ^^^ rotr x r) (if sh = 0 then 0 else x >>> sh)

/-- The message schedule, newest word first; `n` further words. -/
def shaSchedule : Nat → List Nat → List Nat
  | 0, w => w
  | n + 1, w =>
    shaSchedule n (((w.getD 15 0 + w.getD 6 0 + mixBits [7, 18] 3 (w.getD 14 0) + mixBits [17, 19] 10 (w.getD 1 0)) % 2 ^ 32) :: w)

/-- Each bit of `x` picks that of `y` or `z`. -/
def pickBits (x y z : Nat) : Nat := z ^^^ (x &&& (y ^^^ z))

/-- One round of the compression function, on the eight working words, with its constant and its word of the schedule: seven of them move
on by one place, the fourth takes in the round's sum, and the first is made anew. -/
def shaRound (h : List Nat) (kw : Nat × Nat) : List Nat :=
  let w := fun i => h.getD i 0
  let sum := w 7 + kw.1 + kw.2 + mixBits [6, 11, 25] 0 (w 4) + pickBits (w 4) (w 5) (w 6)
  let most := pickBits (w 0 ^^^ w 1) (w 2) (w 0)
  ((sum + most + mixBits [2, 13, 22] 0 (w 0)) % 2 ^ 32) :: ((h.take 7).set 3 ((w 3 + sum) % 2 ^ 32))

/-- The compression of one 64-byte block. -/
def shaBlock (h : List Nat) (blk : List Byte) : List Nat :=
  let w := ((chunks 4 blk).map beNat).reverse
  let ws := (shaSchedule 48 w).reverse
  let r := (shaK.zip ws).foldl shaRound h
  (h.zip r).map (fun p => (p.1 + p.2) % 2 ^ 32)

/-- SHA-256 of a byte string, as its 32 bytes. -/
def sha256 (m : List Byte) : List Byte :=
  let pad := 64 - (m.length + 9) % 64
  let z := if pad = 64 then 0 else pad
  let msg := m ++ [0x80] ++ List.replicate z 0 ++ beBytes 8 (8 * m.length)
  ((chunks 64 msg).foldl shaBlock shaInit).flatMap (beBytes 4)

/-- The digest of a byte string. -/
def digestOf (m : List Byte) : Digest := BitVec.ofNat 256 (beNat (sha256 m))

/-- The 32 bytes of a digest, byte 0 first. -/
def digestBytes (d : Digest) : List Byte := beBytes 32 d.toNat

/-- Word `i` of a digest as a register holds it: bytes 4i … 4i+3, the first in `[7:0]` (R106). -/
def digestWord (d : Digest) (i : Nat) : Word := BitVec.ofNat 32 (leNat (lslice (digestBytes d) (4 * i) 4))

/-- `b ^ e mod n`, by squaring, over the `k` low bits of `e`. -/
def powMod (n : Nat) : Nat → Nat → Nat → Nat
  | 0, _, _ => 1 % n
  | k + 1, b, e =>
    let r := powMod n k (b * b % n) (e / 2)
    if e % 2 = 1 then r * b % n else r

/-- The mask generation function MGF1 with SHA-256: `n` blocks of 32 bytes. -/
def mgf1 (seed : List Byte) (n : Nat) : List Byte :=
  (List.range n).flatMap (fun i => sha256 (seed ++ beBytes 4 i))

/-- RSASSA-PSS verification with RSA-3072, SHA-256, MGF1 with SHA-256 and a 32-byte salt (R59). -/
def pssVerify (modulus : List Byte) (exponent : Nat) (msg sig : List Byte) : Bool :=
  let n := beNat modulus
  let s := beNat sig
  if decide (n ≤ s) || decide (n < 2 ^ 3071) then false else
  let em := beBytes 384 (powMod n 17 s exponent)
  let masked := em.take 351
  let h := lslice em 351 32
  let dbm := (mgf1 h 11).take 351
  let db0 := (masked.zip dbm).map (fun p => p.1 ^^^ p.2)
  let db := match db0 with
    | [] => []
    | b :: r => (b &&& 0x7f) :: r
  let salt := db.drop 319
  (lbyte em 383 == 0xbc) && (lbyte em 0 < 128) && allZero (db.take 318) && (lbyte db 318 == 1) &&
    (sha256 (List.replicate 8 0 ++ sha256 msg ++ salt) == h)

/-- One bit step of a reflected CRC with polynomial `p`. -/
def crcStep (p : Nat) : Nat → Nat → Nat
  | 0, c => c
  | n + 1, c => crcStep p n (if c % 2 = 1 then (c / 2) ^^^ p else c / 2)

/-- A reflected 32-bit CRC with initial and final inversion. -/
def crcWith (p : Nat) (m : List Byte) : Nat :=
  (m.foldl (fun c b => crcStep p 8 (c ^^^ b.toNat)) (2 ^ 32 - 1)) ^^^ (2 ^ 32 - 1)

/-- CRC-32 as used by IEEE 802.3 (R124). -/
def crc32 (m : List Byte) : Nat := crcWith 0xEDB88320 m

/-- CRC-32C, Castagnoli. -/
def crc32c (m : List Byte) : Nat := crcWith 0x82F63B78 m

end Sys2Proof.Machine
end

