-- ==== Sys2Proof/Config.lean ====
section
/-! DEFINITION. What an implementation fixes and the manual leaves open. Every constant here has no body: nothing can be
proved of its value, so a statement that holds, holds for every value. Each is named in the assumption log. -/
namespace Sys2Proof.Config

/-- A fresh word that nothing constrains: the argument is a counter of State (log entry 8). -/
opaque freeWord : Nat → Word
/-- A fresh byte that nothing constrains, by counter and position (log entry 8). -/
opaque freeByte : Nat → Nat → Byte
/-- A fresh number that nothing constrains, by counter; a step uses it below a bound the manual gives (log entry 8). -/
opaque freeNat : Nat → Nat
/-- The random nonces of R625, by the number drawn. -/
opaque nonce : Nat → BitVec 128
/-- Energy in mJ of filler operations over a window, by filler cycles and input power (R512). -/
opaque fillerEnergy : Nat → Nat
/-- SHA-256 of the boot ROM (R628). -/
opaque romDigest : Digest
/-- The DER bytes of certificate slot 0 (R626). -/
opaque certChain : List Byte
/-- A signature of Yaruilvo's identity key over an SPDM transcript (R626, R627). -/
opaque identitySign : List Byte → List Byte
/-- The body of a response whose standard the manual names without restating it: the message type, the command code, the
request and the facts of the state it reports. -/
opaque response : Nat → Nat → List Byte → List Byte
/-- The endpoint of a peer device that a HARVEST or RESTORE reaches: the descriptor has no field for it (R596); taken below the
peer's EP_COUNT. -/
opaque harvestEndpoint : Nat → Nat
/-- The UUID of the MCTP endpoint (R655). -/
opaque uuid : BitVec 128
/-- The module's PCI vendor ID (R655, R656). -/
opaque pciVendor : BitVec 16
/-- The voltage–frequency curve of a core, set in NVM at manufacturing test (R493): the voltage in mV that a frequency in MHz needs. -/
opaque vfCurve : Nat → Nat → Nat

end Sys2Proof.Config
end

