-- ==== Sys2Proof/Machine/Num.lean ====
section
/-! DEFINITION. Numbers: exact dyadic values, the encodings of R224 and R225, rounding (R231, R232, R234, R238) and the
generator of R239. A sum or product is formed exactly and then rounded once, as the manual says of each. -/
namespace Sys2Proof.Machine

/-- A value: NaN, an infinity with its sign, or sign, magnitude `m` and exponent `e`, standing for `± m × 2^e`. -/
inductive Num where
  | nan
  | inf (neg : Bool)
  | fin (neg : Bool) (m : Nat) (e : Int)
  deriving DecidableEq, Repr

/-- 0. -/
abbrev Num.zero : Num := .fin false 0 0

/-- A whole number. -/
def Num.ofInt (i : Int) : Num := .fin (decide (i < 0)) i.natAbs 0

/-- The value times 2^k. -/
def Num.scale (k : Int) : Num → Num
  | .fin s m e => .fin s m (e + k)
  | x => x

/-- The value is NaN. -/
def Num.isNan : Num → Bool
  | .nan => true
  | _ => false
/-- The value is finite. -/
def Num.isFin : Num → Bool
  | .fin _ _ _ => true
  | _ => false
/-- The value is a zero. -/
def Num.isZero : Num → Bool
  | .fin _ 0 _ => true
  | _ => false
/-- The sign bit. -/
def Num.neg? : Num → Bool
  | .nan => false
  | .inf s => s
  | .fin s _ _ => s
/-- The magnitude. -/
def Num.abs : Num → Num
  | .nan => .nan
  | .inf _ => .inf false
  | .fin _ m e => .fin false m e
/-- The value with its sign changed. -/
def Num.flip : Num → Num
  | .nan => .nan
  | .inf s => .inf (!s)
  | .fin s m e => .fin (!s) m e

/-- A signed magnitude at exponent `e`. -/
def signedMag (s : Bool) (m : Nat) : Int := if s then -(m : Int) else m

/-- The exact sum. A zero sum is +0 unless both terms are −0. -/
def Num.add : Num → Num → Num
  | .nan, _ => .nan
  | _, .nan => .nan
  | .inf a, .inf b => if a = b then .inf a else .nan
  | .inf a, _ => .inf a
  | _, .inf b => .inf b
  | .fin s m e, .fin t n f =>
    let g := min e f
    let v := signedMag s (m * 2 ^ (e - g).toNat) + signedMag t (n * 2 ^ (f - g).toNat)
    if v = 0 then .fin (s && t) 0 0 else .fin (decide (v < 0)) v.natAbs g

/-- The exact difference. -/
def Num.sub (a b : Num) : Num := a.add b.flip

/-- The exact product. -/
def Num.mul : Num → Num → Num
  | .nan, _ => .nan
  | _, .nan => .nan
  | .inf a, .inf b => .inf (a ^^ b)
  | .inf a, .fin t n _ => if n = 0 then .nan else .inf (a ^^ t)
  | .fin s m _, .inf b => if m = 0 then .nan else .inf (s ^^ b)
  | .fin s m e, .fin t n f => .fin (s ^^ t) (m * n) (e + f)

/-- Order of two values that are no NaN: `a < b`. -/
def Num.lt : Num → Num → Bool
  | .nan, _ => false
  | _, .nan => false
  | .inf a, .inf b => a && !b
  | .inf a, .fin _ _ _ => a
  | .fin _ _ _, .inf b => !b
  | .fin s m e, .fin t n f =>
    let g := min e f
    decide (signedMag s (m * 2 ^ (e - g).toNat) < signedMag t (n * 2 ^ (f - g).toNat))

/-- `a ≤ b` of two values that are no NaN. -/
def Num.le (a b : Num) : Bool := !a.isNan && !b.isNan && !b.lt a

/-- The larger of two values; NaN when either is NaN (R263, R241). -/
def Num.max (a b : Num) : Num := if a.isNan || b.isNan then .nan else if a.lt b then b else a
/-- The smaller of two values; NaN when either is NaN (R263). -/
def Num.min (a b : Num) : Num := if a.isNan || b.isNan then .nan else if b.lt a then b else a

/-! ### Rounding -/

/-- How a magnitude rounds: to nearest even, upward (R236), or stochastically with the generator's state (R238). -/
inductive Rounding where
  | nearest
  | up
  | stochastic (state : Nat)
  deriving DecidableEq, Repr

/-- `num / den` rounded to a whole number. The discarded bits of R238 are taken to 24 bits, and `u` is as many top bits of
the generator's 32. -/
def roundDiv (r : Rounding) (num den : Nat) : Nat :=
  let q := num / den
  let x := num % den
  match r with
  | .nearest => if 2 * x < den then q else if den < 2 * x then q + 1 else q + q % 2
  | .up => if x = 0 then q else q + 1
  | .stochastic u => if x * 2 ^ 24 / den + u / 2 ^ 8 % 2 ^ 24 < 2 ^ 24 then q else q + 1

/-- `⌊log2 (m × 2^e / d)⌋` for positive `m`, `d`. -/
def ilog2 (m : Nat) (e : Int) (d : Nat) : Int :=
  let k : Int := (m.log2 : Int) - d.log2
  let below := if 0 ≤ k then decide (m < d * 2 ^ k.toNat) else decide (m * 2 ^ (-k).toNat < d)
  (if below then k - 1 else k) + e

/-- The magnitude `m × 2^e / d` rounded to a multiple of `2^t`: the multiple. -/
def roundAt (r : Rounding) (m : Nat) (e : Int) (d : Nat) (t : Int) : Nat :=
  if t ≤ e then roundDiv r (m * 2 ^ (e - t).toNat) d else roundDiv r m (d * 2 ^ (t - e).toNat)

/-- The magnitude `m × 2^e / d` rounded to `p` significant bits, its last bit never below `2^lo`; the exponent range has no
upper bound (R234). -/
def roundMag (r : Rounding) (p : Nat) (lo : Int) (m : Nat) (e : Int) (d : Nat) : Nat × Int :=
  if m = 0 then (0, lo)
  else
    let t := Max.max (ilog2 m e d + 1 - p) lo
    (roundAt r m e d t, t)

/-- A value rounded to FP32 to nearest even as R231 and R232 say: a result of magnitude below 2^−126 becomes a zero of its
sign, an overflow an infinity. -/
def Num.fp32 : Num → Num
  | .fin s m e =>
    let q := roundMag .nearest 24 (-1000000) m e 1
    if q.1 = 0 || ((Num.fin false q.1 q.2).lt (.fin false 1 (-126))) then .fin s 0 0
    else if (Num.fin false 1 128).le (.fin false q.1 q.2) then .inf s
    else .fin s q.1 q.2
  | x => x

/-- FP32 sum, product and difference under R232. -/
def Num.fadd (a b : Num) : Num := (a.add b).fp32
/-- FP32 product under R232. -/
def Num.fmul (a b : Num) : Num := (a.mul b).fp32
/-- FP32 difference under R232. -/
def Num.fsub (a b : Num) : Num := (a.sub b).fp32

/-- FP32 quotient under R232. -/
def Num.fdiv : Num → Num → Num
  | .nan, _ => .nan
  | _, .nan => .nan
  | .inf _, .inf _ => .nan
  | .inf a, .fin t _ _ => .inf (a ^^ t)
  | .fin s _ _, .inf b => .fin (s ^^ b) 0 0
  | .fin s m e, .fin t n f =>
    if n = 0 then (if m = 0 then .nan else .inf (s ^^ t))
    else
      let q := roundMag .nearest 24 (-1000000) m (e - f) n
      (Num.fin (s ^^ t) q.1 q.2).fp32

/-! ### IEEE encodings -/

/-- A binary encoding of `eb` exponent bits and `mb` mantissa bits, as in IEEE 754 (R224). -/
def ieeeDecode (eb mb w : Nat) : Num :=
  let m := w % 2 ^ mb
  let e := w / 2 ^ mb % 2 ^ eb
  let s := decide (w / 2 ^ (mb + eb) % 2 = 1)
  let bias : Int := 2 ^ (eb - 1) - 1
  if e = 2 ^ eb - 1 then (if m = 0 then .inf s else .nan)
  else if e = 0 then .fin s m (1 - bias - mb)
  else .fin s (2 ^ mb + m) ((e : Int) - bias - mb)

/-- Sign, exponent and mantissa of a magnitude `q × 2^t` that the encoding holds exactly. -/
def ieeePack (eb mb : Nat) (s : Bool) (q : Nat) (t : Int) : Nat :=
  let bias : Int := 2 ^ (eb - 1) - 1
  let sg := b2n s * 2 ^ (eb + mb)
  if q = 0 then sg
  else
    let l := ilog2 q t 1
    if l < 1 - bias then sg + q * 2 ^ (t - (1 - bias - mb)).toNat
    else
      let frac := if (t - (l - mb)) ≥ 0 then q * 2 ^ (t - (l - mb)).toNat else q / 2 ^ ((l - mb) - t).toNat
      sg + (l + bias).toNat * 2 ^ mb + frac % 2 ^ mb

/-- FP32 bits as a value. -/
def f32 (w : Word) : Num := ieeeDecode 8 23 w.toNat

/-- The FP32 encoding in which the model keeps an intermediate NaN; what is written for a NaN is free (`nanBits`). -/
def nan32 : Nat := 0x7FC00000

/-- A value that FP32 holds as its bits. -/
def Num.bits32 : Num → Word
  | .nan => BitVec.ofNat 32 nan32
  | .inf s => BitVec.ofNat 32 (b2n s * 2 ^ 31 + 0x7F800000)
  | .fin s m e => BitVec.ofNat 32 (ieeePack 8 23 s m e)

/-- FP32 bits of a value rounded under R232. -/
def Num.word (x : Num) : Word := x.fp32.bits32

/-! ### Element encodings (R224, R225) -/

/-- An E2M1 element. -/
def e2m1 (c : Nat) : Num :=
  let s := decide (c / 8 % 2 = 1)
  let e := c / 2 % 4
  let m := c % 2
  if e = 0 then (if m = 0 then .zero else .fin s 1 (-1)) else .fin s (2 + m) ((e : Int) - 2)

/-- An E4M3 element. -/
def e4m3 (c : Nat) : Num :=
  let s := decide (c / 128 % 2 = 1)
  let e := c / 8 % 16
  let m := c % 8
  if c % 128 = 127 then .nan
  else if e = 0 then .fin s m (-9) else .fin s (8 + m) ((e : Int) - 10)

/-- An E8M0 scale. -/
def e8m0 (c : Nat) : Num := if c = 255 then .nan else .fin false 1 ((c : Int) - 127)

/-- A TW2 element. -/
def tw2 (c : Nat) : Num := if c % 4 = 1 then .fin false 1 0 else if c % 4 = 3 then .fin true 1 0 else .zero

/-- A value as an E2M1 code that holds it; its magnitude is at most 6. -/
def e2m1Code (s : Bool) (q : Nat) (t : Int) : Nat :=
  b2n s * 8 + ((List.range 8).find? (fun c => (e2m1 c).le (.fin false q t) && (Num.fin false q t).le (e2m1 c))).getD 0

/-! ### The generator (R239) -/

/-- One step of the 32-bit xorshift. -/
def xorshift (x : Nat) : Nat :=
  let x := x ^^^ (x * 2 ^ 13 % 2 ^ 32)
  let x := x ^^^ (x / 2 ^ 17)
  x ^^^ (x * 2 ^ 5 % 2 ^ 32)

/-- The generator's state at the start of a command on a core. -/
def genSeed (seed core slot : Nat) : Nat :=
  let x := seed ^^^ (core * 2 ^ 16) ^^^ slot
  if x = 0 then 1 else x

end Sys2Proof.Machine
end

