-- ==== Sys2Proof/Machine/RegTable.lean ====
section
/-! DEFINITION. The register map: one row for each kind of register of the manual's register tables, with its address in
BAR0, its repetition, its reset level (R12, R13), which bits are read-write, write-1-to-clear or locked by an image, and
the value the manual gives it at reset. A reset value that the manual takes from NVM, fuses, straps or another rule is
written here as 0 and stored by the step that loads it. -/
namespace Sys2Proof.Machine

/-- The reset levels of R13, narrowest first. -/
inductive Lvl where
  | context | engine | polder | chip | module | power
  deriving DecidableEq, Repr

/-- The rank of a level; a reset clears every level of its own rank or below (R13). -/
def Lvl.rank : Lvl → Nat
  | .context => 1
  | .engine => 2
  | .polder => 3
  | .chip => 4
  | .module => 5
  | .power => 6

/-- One kind of register. Its instances lie at `base + s1·i + s2·j`, `i < c1`, `j < c2`. -/
structure RegDesc where
  base : Nat
  s1 : Nat
  c1 : Nat
  s2 : Nat
  c2 : Nat
  level : Lvl
  /-- read-write bits -/
  rw : Nat
  /-- bits that writing 1 clears -/
  w1c : Nat
  /-- read-write bits until an image is loaded (R12) -/
  rwl : Nat
  /-- reset value -/
  reset : Nat
  /-- the LO half of a 64-bit counter, whose HI half follows it (R223) -/
  wide : Bool
  /-- reads return 0 -/
  wo : Bool
  deriving DecidableEq, Repr

/-- Rows 0 to 23 of the register map, in address order. -/
def regRows0 : List RegDesc :=
  [ ⟨0x0, 0x0, 1, 0x0, 1, .power, 0x0, 0x0, 0x0, 0x4C39, false, false⟩,   -- ID_DEVICE (R8)
    ⟨0x4, 0x0, 1, 0x0, 1, .power, 0x0, 0x0, 0x0, 0x0, false, false⟩,   -- ID_STEPPING (R638)
    ⟨0x8, 0x0, 1, 0x0, 1, .power, 0x0, 0x0, 0x0, 0x0, false, false⟩,   -- ID_SERIAL_LO (R638)
    ⟨0xC, 0x0, 1, 0x0, 1, .power, 0x0, 0x0, 0x0, 0x0, false, false⟩,   -- ID_SERIAL_HI (R638)
    ⟨0x10, 0x0, 1, 0x0, 1, .power, 0x0, 0x0, 0x0, 0x0, false, false⟩,   -- CAP_UNITS (R9)
    ⟨0x14, 0x0, 1, 0x0, 1, .power, 0x0, 0x0, 0x0, 0x0, false, false⟩,   -- CAP_LIMITS (R638)
    ⟨0x20, 0x0, 1, 0x0, 1, .module, 0x0, 0x0, 0x0, 0x0, false, false⟩,   -- ID_BOOT (R637)
    ⟨0x24, 0x0, 1, 0x0, 1, .module, 0x0, 0x0, 0x0, 0x0, false, false⟩,   -- ID_FW_VERSION (R638)
    ⟨0x28, 0x0, 1, 0x0, 1, .module, 0x0, 0x10000, 0x0, 0x0, false, false⟩,   -- ID_SIDEBAND (R685)
    ⟨0x40, 0x4, 8, 0x0, 1, .power, 0x0, 0x0, 0x0, 0x0, false, false⟩,   -- ID_MEM_FAILED (R638)
    ⟨0x10000, 0x0, 1, 0x0, 1, .module, 0x0, 0x0, 0x0, 0x0, false, false⟩,   -- MBX_CMD (R135)
    ⟨0x10004, 0x0, 1, 0x0, 1, .module, 0x0, 0x6, 0x0, 0x0, false, false⟩,   -- MBX_STATUS (R136)
    ⟨0x10010, 0x4, 4, 0x0, 1, .module, 0xFFFFFFFF, 0x0, 0x0, 0x0, false, false⟩,   -- MBX_ARG (R137)
    ⟨0x10020, 0x4, 2, 0x0, 1, .module, 0x0, 0x0, 0x0, 0x0, false, false⟩,   -- MBX_RESULT (R137)
    ⟨0x10030, 0x0, 1, 0x0, 1, .module, 0x0, 0x0, 0x0, 0x0, false, false⟩,   -- MBX_STOPPING (R137)
    ⟨0x10034, 0x0, 1, 0x0, 1, .module, 0x0, 0x0, 0x0, 0x0, false, false⟩,   -- MBX_STOPPED (R137)
    ⟨0x20000, 0x0, 1, 0x0, 1, .module, 0x6, 0x0, 0x0, 0x0, false, false⟩,   -- IMG_CTRL (R103)
    ⟨0x20004, 0x0, 1, 0x0, 1, .module, 0x0, 0x6, 0x0, 0x0, false, false⟩,   -- IMG_STATUS (R104)
    ⟨0x20008, 0x0, 1, 0x0, 1, .module, 0xFFFFFFFF, 0x0, 0x0, 0x0, false, false⟩,   -- IMG_SRC_ADDR_LO (R106)
    ⟨0x2000C, 0x0, 1, 0x0, 1, .module, 0xFFFF, 0x0, 0x0, 0x0, false, false⟩,   -- IMG_SRC_ADDR_HI (R106)
    ⟨0x20010, 0x0, 1, 0x0, 1, .module, 0xFFFFFFFF, 0x0, 0x0, 0x0, false, false⟩,   -- IMG_LENGTH (R106)
    ⟨0x20014, 0x0, 1, 0x0, 1, .module, 0x0, 0x0, 0x0, 0x0, false, false⟩,   -- IMG_SERIAL (R106)
    ⟨0x20018, 0x0, 1, 0x0, 1, .module, 0x0, 0x0, 0x0, 0x0, false, false⟩,   -- IMG_POLDERS (R106)
    ⟨0x2001C, 0x0, 1, 0x0, 1, .module, 0x0, 0x0, 0x0, 0xFF, false, false⟩ ]  -- IMG_MEMBER (R106)

/-- Rows 24 to 47 of the register map, in address order. -/
def regRows1 : List RegDesc :=
  [ ⟨0x20020, 0x4, 8, 0x0, 1, .module, 0x0, 0x0, 0x0, 0x0, false, false⟩,   -- IMG_DIGEST (R106)
    ⟨0x21000, 0x4, 1024, 0x0, 1, .module, 0x0, 0x0, 0x0, 0x0, false, true⟩,   -- IMG_PORT (R106)
    ⟨0x40000, 0x40, 4096, 0x0, 1, .context, 0x5, 0x0, 0x0, 0x0, false, false⟩,   -- CTX_CTRL (R177)
    ⟨0x40004, 0x40, 4096, 0x0, 1, .chip, 0x39F, 0x0, 0x0, 0x0, false, false⟩,   -- CTX_BIND (R178)
    ⟨0x40008, 0x40, 4096, 0x0, 1, .context, 0xFFFFF000, 0x0, 0x0, 0x0, false, false⟩,   -- CTX_SQ_BASE_LO (R180)
    ⟨0x4000C, 0x40, 4096, 0x0, 1, .context, 0xFFF, 0x0, 0x0, 0x0, false, false⟩,   -- CTX_SQ_BASE_HI (R180)
    ⟨0x40010, 0x40, 4096, 0x0, 1, .context, 0xFFFFF000, 0x0, 0x0, 0x0, false, false⟩,   -- CTX_CQ_BASE_LO (R180)
    ⟨0x40014, 0x40, 4096, 0x0, 1, .context, 0xFFF, 0x0, 0x0, 0x0, false, false⟩,   -- CTX_CQ_BASE_HI (R180)
    ⟨0x40018, 0x40, 4096, 0x0, 1, .context, 0x1F1F, 0x0, 0x0, 0x0, false, false⟩,   -- CTX_RING_SIZE (R180)
    ⟨0x4001C, 0x40, 4096, 0x0, 1, .context, 0x0, 0x0, 0x0, 0x0, false, false⟩,   -- CTX_SQ_HEAD (R180)
    ⟨0x40020, 0x40, 4096, 0x0, 1, .context, 0x0, 0x0, 0x0, 0x0, false, false⟩,   -- CTX_SQ_TAIL (R180)
    ⟨0x40024, 0x40, 4096, 0x0, 1, .context, 0x0, 0x0, 0x0, 0x0, false, false⟩,   -- CTX_CQ_TAIL (R180)
    ⟨0x40028, 0x40, 4096, 0x0, 1, .context, 0x0, 0x0, 0x0, 0x0, false, false⟩,   -- CTX_CQ_HEAD (R180)
    ⟨0x4002C, 0x40, 4096, 0x0, 1, .context, 0xFFFFF, 0x0, 0x0, 0x7D0, false, false⟩,   -- CTX_VIGIL (R180)
    ⟨0x40030, 0x40, 4096, 0x0, 1, .context, 0x0, 0xE0000, 0x0, 0x0, false, false⟩,   -- CTX_STATUS (R179)
    ⟨0x40034, 0x40, 4096, 0x0, 1, .context, 0xFFFFF7FF, 0x0, 0x0, 0x0, false, false⟩,   -- CTX_IRQ (R180)
    ⟨0x40038, 0x40, 4096, 0x0, 1, .context, 0x0, 0x0, 0x0, 0x0, false, false⟩,   -- CTX_ERR_ADDR_LO (R180)
    ⟨0x4003C, 0x40, 4096, 0x0, 1, .context, 0x0, 0x0, 0x0, 0x0, false, false⟩,   -- CTX_ERR_ADDR_HI (R180)
    ⟨0x80000, 0x8, 64, 0x0, 1, .module, 0x1FFF0FFF, 0x0, 0x0, 0x0, false, false⟩,   -- FN_RANGE (R181)
    ⟨0x80004, 0x8, 64, 0x0, 1, .module, 0x7FFF, 0x0, 0x0, 0x0, false, false⟩,   -- FN_QUOTA (R181)
    ⟨0x80200, 0x0, 1, 0x0, 1, .module, 0x0, 0x0, 0x0, 0x0, false, false⟩,   -- CTX_DEV_INFLIGHT (R181)
    ⟨0x80204, 0x0, 1, 0x0, 1, .module, 0x0, 0x1, 0x0, 0x0, false, false⟩,   -- FN_STATUS (R181)
    ⟨0x100000, 0x0, 1, 0x0, 1, .module, 0x0, 0xC00003, 0x0, 0x0, false, false⟩,   -- PWR_STATUS (R516)
    ⟨0x100004, 0x0, 1, 0x0, 1, .module, 0x0, 0x0, 0x0, 0x0, false, false⟩ ]  -- PWR_FEED_A (R517)

/-- Rows 48 to 71 of the register map, in address order. -/
def regRows2 : List RegDesc :=
  [ ⟨0x100008, 0x0, 1, 0x0, 1, .module, 0x0, 0x0, 0x0, 0x0, false, false⟩,   -- PWR_FEED_B (R517)
    ⟨0x10000C, 0x0, 1, 0x0, 1, .module, 0x0, 0x0, 0x0, 0x0, false, false⟩,   -- PWR_IN_W (R517)
    ⟨0x100010, 0x0, 1, 0x0, 1, .module, 0x0, 0x0, 0x0, 0x0, false, false⟩,   -- PWR_CAP (R517)
    ⟨0x100014, 0x0, 1, 0x0, 1, .power, 0x0, 0x0, 0x0, 0x0, false, false⟩,   -- PWR_GRANT (R517)
    ⟨0x100018, 0x0, 1, 0x0, 1, .power, 0x0, 0x0, 0x0, 0x0, false, false⟩,   -- PWR_GRANT_SERIAL (R517)
    ⟨0x10001C, 0x0, 1, 0x0, 1, .module, 0xFFFF, 0x0, 0x0, 0x0, false, false⟩,   -- PWR_HEAT_FLOOR (R517)
    ⟨0x100020, 0x0, 1, 0x0, 1, .module, 0x1FFF, 0x0, 0x0, 0xC8, false, false⟩,   -- PWR_SLEW (R517)
    ⟨0x100024, 0x0, 1, 0x0, 1, .module, 0xFF, 0x0, 0x0, 0xF, false, false⟩,   -- PWR_RAMP_EST (R517)
    ⟨0x100028, 0x0, 1, 0x0, 1, .module, 0x0, 0x0, 0x0, 0x0, false, false⟩,   -- PWR_SLACK (R517)
    ⟨0x10002C, 0x0, 1, 0x0, 1, .module, 0x0, 0x0, 0x0, 0x0, false, false⟩,   -- PWR_COMMON_W (R517)
    ⟨0x100030, 0x0, 1, 0x0, 1, .module, 0x0, 0x0, 0x0, 0x0, false, false⟩,   -- PWR_HEAT_W (R517)
    ⟨0x100040, 0x0, 1, 0x0, 1, .power, 0x0, 0x0, 0x0, 0x0, true, false⟩,   -- PWR_E_IN (R517)
    ⟨0x100048, 0x0, 1, 0x0, 1, .power, 0x0, 0x0, 0x0, 0x0, true, false⟩,   -- PWR_E_HEAT (R517)
    ⟨0x100050, 0x0, 1, 0x0, 1, .power, 0x0, 0x0, 0x0, 0x0, true, false⟩,   -- PWR_E_FILLER (R517)
    ⟨0x100100, 0x4, 32, 0x0, 1, .power, 0x0, 0x0, 0x0, 0x0, false, false⟩,   -- PWR_GROUP (R518)
    ⟨0x100180, 0x4, 32, 0x0, 1, .power, 0x0, 0x0, 0x0, 0x0, false, false⟩,   -- PWR_GROUP_LIFE (R518)
    ⟨0x100200, 0x8, 32, 0x0, 1, .module, 0x0, 0x0, 0x0, 0x0, false, false⟩,   -- PWR_POLDER_BUDGET (R518)
    ⟨0x100204, 0x8, 32, 0x0, 1, .module, 0x0, 0x0, 0x0, 0x0, false, false⟩,   -- PWR_POLDER_DRAW (R518)
    ⟨0x101000, 0x10, 8, 0x0, 1, .module, 0x0, 0x0, 0x0, 0x0, false, false⟩,   -- CLK_HALF (R519)
    ⟨0x101004, 0x10, 8, 0x0, 1, .chip, 0x0, 0x0, 0x0, 0x0, false, false⟩,   -- CLK_HALF_WAKES (R519)
    ⟨0x101100, 0x0, 1, 0x0, 1, .module, 0x3FF03FF, 0x0, 0x0, 0x10002, false, false⟩,   -- CLK_IDLE (R519)
    ⟨0x101104, 0x0, 1, 0x0, 1, .chip, 0x0, 0x0, 0x0, 0x0, false, false⟩,   -- CLK_RAMP (R519)
    ⟨0x101200, 0x8, 256, 0x0, 1, .power, 0x0, 0x0, 0x0, 0x0, false, false⟩,   -- CLK_CORE (R519)
    ⟨0x101204, 0x8, 256, 0x0, 1, .power, 0x0, 0x0, 0x0, 0x0, false, false⟩ ]  -- CLK_CORE_CAP (R519)

/-- Rows 72 to 95 of the register map, in address order. -/
def regRows3 : List RegDesc :=
  [ ⟨0x110000, 0x0, 1, 0x0, 1, .power, 0x0, 0x0, 0x0, 0x0, false, false⟩,   -- THM_STATUS (R545)
    ⟨0x110004, 0x0, 1, 0x0, 1, .power, 0x0, 0x0, 0x0, 0x0, false, false⟩,   -- THM_SUSPECT (R546)
    ⟨0x110008, 0x0, 1, 0x0, 1, .power, 0x0, 0x1F, 0x0, 0x0, false, false⟩,   -- THM_EVENT (R547)
    ⟨0x110040, 0x4, 13, 0x0, 1, .module, 0x0, 0x0, 0x0, 0x0, false, false⟩,   -- THM_LAYER (R547)
    ⟨0x110080, 0x4, 8, 0x0, 1, .module, 0x0, 0x0, 0x0, 0x0, false, false⟩,   -- THM_HALF (R547)
    ⟨0x1100A0, 0x4, 8, 0x0, 1, .module, 0x0, 0x0, 0x0, 0x4, false, false⟩,   -- THM_MEM_DUTY (R547)
    ⟨0x110100, 0x8, 256, 0x0, 1, .module, 0x0, 0x0, 0x0, 0x0, false, false⟩,   -- THM_CORE_T (R547)
    ⟨0x110104, 0x8, 256, 0x0, 1, .power, 0x0, 0x0, 0x0, 0x0, false, false⟩,   -- THM_CORE (R547)
    ⟨0x110900, 0x40, 8, 0x4, 16, .module, 0x0, 0x0, 0x0, 0x0, false, false⟩,   -- THM_MEM_SENSOR (R547)
    ⟨0x110B00, 0x8, 13, 0x0, 1, .power, 0x0, 0x0, 0x0, 0x0, false, false⟩,   -- THM_WEAR_LO (R547)
    ⟨0x110B04, 0x8, 13, 0x0, 1, .power, 0x0, 0x0, 0x0, 0x0, false, false⟩,   -- THM_WEAR_HI (R547)
    ⟨0x110C00, 0x0, 1, 0x0, 1, .chip, 0x0, 0x0, 0x0, 0x0, true, false⟩,   -- THM_CNT_DISAGREE (R547)
    ⟨0x110C08, 0x0, 1, 0x0, 1, .chip, 0x0, 0x0, 0x0, 0x0, true, false⟩,   -- THM_CNT_THROTTLE (R547)
    ⟨0x111000, 0x0, 1, 0x0, 1, .module, 0x0, 0x8, 0x0, 0x0, false, false⟩,   -- CLT_STATUS (R548)
    ⟨0x111004, 0x0, 1, 0x0, 1, .module, 0x0, 0x0, 0x0, 0x0, false, false⟩,   -- CLT_FLOW (R549)
    ⟨0x111008, 0x0, 1, 0x0, 1, .module, 0x0, 0x0, 0x0, 0x0, false, false⟩,   -- CLT_FLOW_LIMIT (R549)
    ⟨0x11100C, 0x0, 1, 0x0, 1, .module, 0x0, 0x0, 0x0, 0x0, false, false⟩,   -- CLT_COOLANT (R549)
    ⟨0x111010, 0x0, 1, 0x0, 1, .power, 0x0, 0x0, 0x0, 0x0, false, false⟩,   -- CLT_STOPS (R549)
    ⟨0x111100, 0x10, 5, 0x0, 1, .module, 0x0, 0x0, 0x0, 0x0, false, false⟩,   -- CLT_T_IN (R549)
    ⟨0x111104, 0x10, 5, 0x0, 1, .module, 0x0, 0x0, 0x0, 0x0, false, false⟩,   -- CLT_T_OUT (R549)
    ⟨0x111108, 0x10, 5, 0x0, 1, .module, 0x0, 0x0, 0x0, 0x0, false, false⟩,   -- CLT_LEVEL_FLOW (R549)
    ⟨0x11110C, 0x10, 5, 0x0, 1, .module, 0x0, 0x0, 0x0, 0x0, false, false⟩,   -- CLT_LEVEL_DP (R549)
    ⟨0x200000, 0x400, 256, 0x0, 1, .module, 0x0, 0x0, 0x0, 0x0, false, false⟩,   -- MEM_COL_STATUS (R326)
    ⟨0x200004, 0x400, 256, 0x0, 1, .module, 0x0, 0x0, 0x0, 0x0, false, false⟩ ]  -- MEM_COL_RETIRED (R327)

/-- Rows 96 to 119 of the register map, in address order. -/
def regRows4 : List RegDesc :=
  [ ⟨0x200008, 0x400, 256, 0x0, 1, .power, 0x0, 0x0, 0x0, 0x0, false, false⟩,   -- MEM_CE_COUNT (R327)
    ⟨0x20000C, 0x400, 256, 0x0, 1, .power, 0x0, 0x0, 0x0, 0x0, false, false⟩,   -- MEM_UE_COUNT (R327)
    ⟨0x200010, 0x400, 256, 0x0, 1, .power, 0x0, 0x0, 0x0, 0x0, false, false⟩,   -- MEM_UE_LOC (R327)
    ⟨0x200014, 0x400, 256, 0x0, 1, .power, 0x0, 0x0, 0x0, 0x0, false, false⟩,   -- MEM_UE_SRC (R327)
    ⟨0x200018, 0x400, 256, 0x0, 1, .power, 0x0, 0x0, 0x0, 0x0, false, false⟩,   -- MEM_CE_LOG_LOST (R327)
    ⟨0x20001C, 0x400, 256, 0x0, 1, .power, 0x0, 0x0, 0x0, 0x0, false, true⟩,   -- MEM_COL_CTRL (R327)
    ⟨0x200040, 0x400, 256, 0x8, 16, .power, 0x0, 0x0, 0x0, 0x0, false, false⟩,   -- MEM_CE_LOG (R327)
    ⟨0x200044, 0x400, 256, 0x8, 16, .power, 0x0, 0x0, 0x0, 0x0, false, false⟩,   -- MEM_CE_INFO (R327)
    ⟨0x2000C0, 0x400, 256, 0x4, 8, .power, 0x0, 0x0, 0x0, 0x0, false, false⟩,   -- MEM_REMAP (R327)
    ⟨0x2000E0, 0x400, 256, 0x0, 1, .chip, 0x0, 0x0, 0x0, 0x0, true, false⟩,   -- MEM_CNT_RD (R327)
    ⟨0x2000E8, 0x400, 256, 0x0, 1, .chip, 0x0, 0x0, 0x0, 0x0, true, false⟩,   -- MEM_CNT_WR (R327)
    ⟨0x200200, 0x0, 1, 0x0, 1, .module, 0xFF00, 0x0, 0x0, 0x8, false, false⟩,   -- MEM_APERTURE (R329)
    ⟨0x200204, 0x0, 1, 0x0, 1, .chip, 0x800000FF, 0x0, 0x0, 0x0, false, false⟩,   -- MEM_FLIPTARGET (R329)
    ⟨0x200208, 0x0, 1, 0x0, 1, .chip, 0x0, 0x0, 0x0, 0x0, false, false⟩,   -- MEM_FLIP_LOC (R329)
    ⟨0x200210, 0x0, 1, 0x0, 1, .module, 0xFFFFFFFF, 0x0, 0x0, 0x0, false, false⟩,   -- MEM_RETIRE_ENTRY (R329)
    ⟨0x200214, 0x0, 1, 0x0, 1, .module, 0x0, 0x0, 0x0, 0x0, false, true⟩,   -- MEM_RETIRE_CTRL (R329)
    ⟨0x200218, 0x0, 1, 0x0, 1, .module, 0x0, 0x6, 0x0, 0x0, false, false⟩,   -- MEM_RETIRE_STATUS (R329)
    ⟨0x20021C, 0x0, 1, 0x0, 1, .power, 0x0, 0x0, 0x0, 0x0, false, false⟩,   -- MEM_RETIRE_COUNT (R329)
    ⟨0x200220, 0x0, 1, 0x0, 1, .module, 0xFFF, 0x0, 0x0, 0x0, false, false⟩,   -- MEM_RETIRE_INDEX (R329)
    ⟨0x200224, 0x0, 1, 0x0, 1, .module, 0x0, 0x0, 0x0, 0x0, false, false⟩,   -- MEM_RETIRE_DATA (R329)
    ⟨0x200240, 0x4, 18, 0x0, 1, .chip, 0xFFFFFFFF, 0x0, 0x0, 0x0, false, false⟩,   -- MEM_FLIPMASK (R329)
    ⟨0x240000, 0x0, 1, 0x0, 1, .module, 0x0, 0x0, 0x0, 0x0, false, false⟩,   -- NBU_STATUS (R360)
    ⟨0x240004, 0x0, 1, 0x0, 1, .power, 0x0, 0xF, 0x0, 0x0, false, false⟩,   -- NBU_EVENT (R361)
    ⟨0x240008, 0x0, 1, 0x0, 1, .power, 0x0, 0x0, 0x0, 0x0, false, false⟩ ]  -- NBU_TORN_LO (R362)

/-- Rows 120 to 143 of the register map, in address order. -/
def regRows5 : List RegDesc :=
  [ ⟨0x24000C, 0x0, 1, 0x0, 1, .power, 0x0, 0x0, 0x0, 0x0, false, false⟩,   -- NBU_TORN_HI (R362)
    ⟨0x240010, 0x0, 1, 0x0, 1, .power, 0x0, 0x0, 0x0, 0x0, false, false⟩,   -- NBU_CLASH_LO (R362)
    ⟨0x240014, 0x0, 1, 0x0, 1, .power, 0x0, 0x0, 0x0, 0x0, false, false⟩,   -- NBU_CLASH_HI (R362)
    ⟨0x240020, 0x0, 1, 0x0, 1, .chip, 0x0, 0x0, 0x0, 0x0, true, false⟩,   -- NBU_CNT_BUSY (R362)
    ⟨0x240028, 0x0, 1, 0x0, 1, .chip, 0x0, 0x0, 0x0, 0x0, true, false⟩,   -- NBU_CNT_BYTES (R362)
    ⟨0x240030, 0x0, 1, 0x0, 1, .chip, 0x0, 0x0, 0x0, 0x0, true, false⟩,   -- NBU_CNT_YIELDS (R362)
    ⟨0x240038, 0x0, 1, 0x0, 1, .chip, 0x0, 0x0, 0x0, 0x0, true, false⟩,   -- NBU_CNT_TORN (R362)
    ⟨0x240040, 0x0, 1, 0x0, 1, .chip, 0x0, 0x0, 0x0, 0x0, true, false⟩,   -- NBU_CNT_CLASH (R362)
    ⟨0x240048, 0x0, 1, 0x0, 1, .chip, 0x0, 0x0, 0x0, 0x0, true, false⟩,   -- NBU_CNT_FORCED (R362)
    ⟨0x241000, 0x10, 256, 0x0, 1, .chip, 0x0, 0x0, 0x0, 0x0, false, false⟩,   -- NBU_COL_BUSY (R363)
    ⟨0x241004, 0x10, 256, 0x0, 1, .chip, 0x0, 0x0, 0x0, 0x0, false, false⟩,   -- NBU_COL_OWED (R363)
    ⟨0x260000, 0x0, 1, 0x0, 1, .module, 0x0, 0x0, 0x0, 0x0, false, false⟩,   -- KVP_STATUS (R407)
    ⟨0x260004, 0x0, 1, 0x0, 1, .module, 0x0, 0x0, 0x0, 0x0, false, false⟩,   -- KVP_ACTIVE (R407)
    ⟨0x260008, 0x0, 1, 0x0, 1, .module, 0x0, 0x80000000, 0x0, 0x0, false, false⟩,   -- KVP_ERR (R406)
    ⟨0x26000C, 0x0, 1, 0x0, 1, .module, 0x0, 0x0, 0x0, 0x0, false, false⟩,   -- KVP_ERR_SEQ (R407)
    ⟨0x260010, 0x0, 1, 0x0, 1, .module, 0x0, 0x0, 0x0, 0x0, false, false⟩,   -- KVP_ERR_PAGE (R407)
    ⟨0x260014, 0x0, 1, 0x0, 1, .module, 0x1FFFFFFF, 0x0, 0x0, 0x0, false, false⟩,   -- KVP_PAGE_QUERY (R407)
    ⟨0x260018, 0x0, 1, 0x0, 1, .module, 0x0, 0x0, 0x0, 0x0, false, false⟩,   -- KVP_PAGE_STATE (R407)
    ⟨0x26001C, 0x0, 1, 0x0, 1, .module, 0x0, 0x0, 0x0, 0x0, false, false⟩,   -- KVP_PAGE_COUNTS (R407)
    ⟨0x260040, 0x0, 1, 0x0, 1, .chip, 0x0, 0x0, 0x0, 0x0, true, false⟩,   -- KVP_CNT_COW (R408)
    ⟨0x260048, 0x0, 1, 0x0, 1, .chip, 0x0, 0x0, 0x0, 0x0, true, false⟩,   -- KVP_CNT_MATCHED (R408)
    ⟨0x260050, 0x0, 1, 0x0, 1, .chip, 0x0, 0x0, 0x0, 0x0, true, false⟩,   -- KVP_CNT_COLLIDE (R408)
    ⟨0x260058, 0x0, 1, 0x0, 1, .chip, 0x0, 0x0, 0x0, 0x0, true, false⟩,   -- KVP_CNT_EVICT (R408)
    ⟨0x260060, 0x0, 1, 0x0, 1, .chip, 0x0, 0x0, 0x0, 0x0, true, false⟩ ]  -- KVP_CNT_INDEX_FULL (R408)

/-- Rows 144 to 167 of the register map, in address order. -/
def regRows6 : List RegDesc :=
  [ ⟨0x260068, 0x0, 1, 0x0, 1, .chip, 0x0, 0x0, 0x0, 0x0, true, false⟩,   -- KVP_CNT_KEY_FORMAT (R408)
    ⟨0x260070, 0x0, 1, 0x0, 1, .chip, 0x0, 0x0, 0x0, 0x0, true, false⟩,   -- KVP_CNT_SCORED (R408)
    ⟨0x260078, 0x0, 1, 0x0, 1, .chip, 0x0, 0x0, 0x0, 0x0, true, false⟩,   -- KVP_CNT_PAGES_READ (R408)
    ⟨0x260100, 0x20, 32, 0x0, 1, .module, 0x0, 0x0, 0x0, 0x0, false, false⟩,   -- KVP_POOL_PAGES (R409)
    ⟨0x260104, 0x20, 32, 0x0, 1, .module, 0x0, 0x0, 0x0, 0x0, false, false⟩,   -- KVP_POOL_FREE (R409)
    ⟨0x260108, 0x20, 32, 0x0, 1, .module, 0x0, 0x0, 0x0, 0x0, false, false⟩,   -- KVP_SEQ_REG (R409)
    ⟨0x26010C, 0x20, 32, 0x0, 1, .module, 0x0, 0x0, 0x0, 0x0, false, false⟩,   -- KVP_SEQ_ACTIVE (R409)
    ⟨0x260110, 0x20, 32, 0x0, 1, .module, 0x0, 0x0, 0x0, 0x0, false, false⟩,   -- KVP_INDEX_USED (R409)
    ⟨0x280000, 0x0, 1, 0x0, 1, .module, 0x0, 0x0, 0x0, 0x0, false, false⟩,   -- OPT_STATUS (R435)
    ⟨0x280008, 0x0, 1, 0x0, 1, .power, 0x0, 0x0, 0x0, 0x0, false, false⟩,   -- OPT_SKEW_SEEN (R436)
    ⟨0x28000C, 0x0, 1, 0x0, 1, .power, 0x0, 0x0, 0x0, 0x0, false, false⟩,   -- OPT_SKEW_STEP (R436)
    ⟨0x280010, 0x0, 1, 0x0, 1, .power, 0x0, 0x80000000, 0x0, 0x0, false, false⟩,   -- OPT_SKEW_CTX (R436)
    ⟨0x280040, 0x0, 1, 0x0, 1, .chip, 0x0, 0x0, 0x0, 0x0, true, false⟩,   -- OPT_CNT_STEPS (R437)
    ⟨0x280048, 0x0, 1, 0x0, 1, .chip, 0x0, 0x0, 0x0, 0x0, true, false⟩,   -- OPT_CNT_NBU_STEPS (R437)
    ⟨0x280050, 0x0, 1, 0x0, 1, .chip, 0x0, 0x0, 0x0, 0x0, true, false⟩,   -- OPT_CNT_ELEMENTS (R437)
    ⟨0x280058, 0x0, 1, 0x0, 1, .chip, 0x0, 0x0, 0x0, 0x0, true, false⟩,   -- OPT_CNT_FROZEN (R437)
    ⟨0x280060, 0x0, 1, 0x0, 1, .chip, 0x0, 0x0, 0x0, 0x0, true, false⟩,   -- OPT_CNT_SKEW (R437)
    ⟨0x280068, 0x0, 1, 0x0, 1, .chip, 0x0, 0x0, 0x0, 0x0, true, false⟩,   -- OPT_CNT_NONFINITE (R437)
    ⟨0x280070, 0x0, 1, 0x0, 1, .chip, 0x0, 0x0, 0x0, 0x0, true, false⟩,   -- OPT_CNT_PARTIAL (R437)
    ⟨0x280400, 0x20, 16, 0x0, 1, .module, 0x0, 0x0, 0x0, 0x0, false, false⟩,   -- OPT_SLOT_CTRL (R438)
    ⟨0x280404, 0x20, 16, 0x0, 1, .module, 0x0, 0x0, 0x0, 0x0, false, false⟩,   -- OPT_SLOT_A1 (R438)
    ⟨0x280408, 0x20, 16, 0x0, 1, .module, 0x0, 0x0, 0x0, 0x0, false, false⟩,   -- OPT_SLOT_A2 (R438)
    ⟨0x28040C, 0x20, 16, 0x0, 1, .module, 0x0, 0x0, 0x0, 0x0, false, false⟩,   -- OPT_SLOT_B1 (R438)
    ⟨0x280410, 0x20, 16, 0x0, 1, .module, 0x0, 0x0, 0x0, 0x0, false, false⟩ ]  -- OPT_SLOT_B2 (R438)

/-- Rows 168 to 191 of the register map, in address order. -/
def regRows7 : List RegDesc :=
  [ ⟨0x280414, 0x20, 16, 0x0, 1, .module, 0x0, 0x0, 0x0, 0x0, false, false⟩,   -- OPT_SLOT_LAMBDA (R438)
    ⟨0x280418, 0x20, 16, 0x0, 1, .module, 0x0, 0x0, 0x0, 0x0, false, false⟩,   -- OPT_SLOT_CLIP (R438)
    ⟨0x281000, 0x0, 1, 0x0, 1, .module, 0x0, 0x100, 0x0, 0x0, false, false⟩,   -- PAR_STATUS (R608)
    ⟨0x281040, 0x0, 1, 0x0, 1, .chip, 0x0, 0x0, 0x0, 0x0, true, false⟩,   -- PAR_CNT_DELTA_TX (R608)
    ⟨0x281048, 0x0, 1, 0x0, 1, .chip, 0x0, 0x0, 0x0, 0x0, true, false⟩,   -- PAR_CNT_DELTA_RX (R608)
    ⟨0x281050, 0x0, 1, 0x0, 1, .chip, 0x0, 0x0, 0x0, 0x0, true, false⟩,   -- PAR_CNT_DUP (R608)
    ⟨0x281058, 0x0, 1, 0x0, 1, .chip, 0x0, 0x0, 0x0, 0x0, true, false⟩,   -- PAR_CNT_POISON (R608)
    ⟨0x281060, 0x0, 1, 0x0, 1, .chip, 0x0, 0x0, 0x0, 0x0, true, false⟩,   -- PAR_CNT_DROPPED (R608)
    ⟨0x281068, 0x0, 1, 0x0, 1, .chip, 0x0, 0x0, 0x0, 0x0, true, false⟩,   -- PAR_CNT_REBUILT (R608)
    ⟨0x282000, 0x80, 64, 0x0, 1, .module, 0x801F1F7F, 0x0, 0x0, 0x0, false, false⟩,   -- PAR_GRP_CTRL (R606)
    ⟨0x282004, 0x80, 64, 0x0, 1, .module, 0x3FFFF, 0x0, 0x0, 0x0, false, false⟩,   -- PAR_GRP_LOST (R607)
    ⟨0x282008, 0x80, 64, 0x0, 1, .module, 0x3FFFFFF, 0x0, 0x0, 0x0, false, false⟩,   -- PAR_GRP_UNITS (R607)
    ⟨0x28200C, 0x80, 64, 0x0, 1, .module, 0x1FFFF, 0x0, 0x0, 0x0, false, false⟩,   -- PAR_GRP_MAP_COUNT (R607)
    ⟨0x282010, 0x80, 64, 0x0, 1, .module, 0xFFFFFFFF, 0x0, 0x0, 0x0, false, false⟩,   -- PAR_GRP_MAP_LO (R607)
    ⟨0x282014, 0x80, 64, 0x0, 1, .module, 0xFFFF, 0x0, 0x0, 0x0, false, false⟩,   -- PAR_GRP_MAP_HI (R607)
    ⟨0x282018, 0x80, 64, 0x0, 1, .module, 0xFFFFFFFF, 0x0, 0x0, 0x0, false, false⟩,   -- PAR_GRP_TAG_LO (R607)
    ⟨0x28201C, 0x80, 64, 0x0, 1, .module, 0xFFFF, 0x0, 0x0, 0x0, false, false⟩,   -- PAR_GRP_TAG_HI (R607)
    ⟨0x282020, 0x80, 64, 0x0, 1, .module, 0x0, 0x0, 0x0, 0x0, false, false⟩,   -- PAR_GRP_STEP (R607)
    ⟨0x282024, 0x80, 64, 0x0, 1, .module, 0x0, 0x0, 0x0, 0x0, false, false⟩,   -- PAR_GRP_PENDING (R607)
    ⟨0x282040, 0x80, 64, 0x4, 9, .module, 0xFFF0FFF, 0x0, 0x0, 0x0, false, false⟩,   -- PAR_GRP_DEV (R607)
    ⟨0x284000, 0x0, 1, 0x0, 1, .module, 0x0, 0x0, 0x0, 0x0, false, false⟩,   -- HARV_ADVISE (R609)
    ⟨0x284004, 0x0, 1, 0x0, 1, .module, 0x0, 0x0, 0x0, 0x0, false, false⟩,   -- HARV_GROUP_ADVISE (R609)
    ⟨0x284008, 0x0, 1, 0x0, 1, .module, 0x0, 0x0, 0x0, 0x0, false, false⟩,   -- HARV_COST_MS (R609)
    ⟨0x28400C, 0x0, 1, 0x0, 1, .module, 0x0, 0x0, 0x0, 0x0, false, false⟩ ]  -- HARV_MTBF_S (R609)

/-- Rows 192 to 215 of the register map, in address order. -/
def regRows8 : List RegDesc :=
  [ ⟨0x284010, 0x0, 1, 0x0, 1, .module, 0x0, 0x0, 0x0, 0x0, false, false⟩,   -- HARV_STEP_US (R609)
    ⟨0x284014, 0x0, 1, 0x0, 1, .power, 0x0, 0x0, 0x0, 0x0, false, false⟩,   -- HARV_LOCAL (R609)
    ⟨0x284018, 0x0, 1, 0x0, 1, .module, 0x0, 0x0, 0x0, 0x0, false, false⟩,   -- HARV_LAST (R609)
    ⟨0x28401C, 0x0, 1, 0x0, 1, .module, 0x0, 0x0, 0x0, 0x0, false, false⟩,   -- HARV_FAIL_OFF_LO (R609)
    ⟨0x284020, 0x0, 1, 0x0, 1, .module, 0x0, 0x0, 0x0, 0x0, false, false⟩,   -- HARV_FAIL_OFF_HI (R609)
    ⟨0x284040, 0x0, 1, 0x0, 1, .chip, 0x0, 0x0, 0x0, 0x0, true, false⟩,   -- HARV_CNT_HARVESTS (R609)
    ⟨0x284048, 0x0, 1, 0x0, 1, .chip, 0x0, 0x0, 0x0, 0x0, true, false⟩,   -- HARV_CNT_RESTORES (R609)
    ⟨0x284050, 0x0, 1, 0x0, 1, .chip, 0x0, 0x0, 0x0, 0x0, true, false⟩,   -- HARV_CNT_BYTES (R609)
    ⟨0x284058, 0x0, 1, 0x0, 1, .chip, 0x0, 0x0, 0x0, 0x0, true, false⟩,   -- HARV_CNT_CHUNK_FAIL (R609)
    ⟨0x300000, 0x1000, 8, 0x0, 1, .power, 0x0, 0x4, 0x0, 0x0, false, false⟩,   -- FAB_PORT_STATUS (R478)
    ⟨0x300008, 0x1000, 8, 0x0, 1, .power, 0x0, 0x0, 0x0, 0x0, false, false⟩,   -- FAB_PORT_MAC_LO (R479)
    ⟨0x30000C, 0x1000, 8, 0x0, 1, .power, 0x0, 0x0, 0x0, 0x0, false, false⟩,   -- FAB_PORT_MAC_HI (R479)
    ⟨0x300040, 0x1000, 8, 0x0, 1, .chip, 0x0, 0x0, 0x0, 0x0, true, false⟩,   -- FAB_PORT_CNT_TX_FRAMES (R479)
    ⟨0x300048, 0x1000, 8, 0x0, 1, .chip, 0x0, 0x0, 0x0, 0x0, true, false⟩,   -- FAB_PORT_CNT_RX_FRAMES (R479)
    ⟨0x300050, 0x1000, 8, 0x0, 1, .chip, 0x0, 0x0, 0x0, 0x0, true, false⟩,   -- FAB_PORT_CNT_TX_BYTES (R479)
    ⟨0x300058, 0x1000, 8, 0x0, 1, .chip, 0x0, 0x0, 0x0, 0x0, true, false⟩,   -- FAB_PORT_CNT_RX_BYTES (R479)
    ⟨0x300060, 0x1000, 8, 0x0, 1, .chip, 0x0, 0x0, 0x0, 0x0, true, false⟩,   -- FAB_PORT_CNT_FEC_CORR (R479)
    ⟨0x300068, 0x1000, 8, 0x0, 1, .chip, 0x0, 0x0, 0x0, 0x0, true, false⟩,   -- FAB_PORT_CNT_FEC_UNCORR (R479)
    ⟨0x300070, 0x1000, 8, 0x0, 1, .chip, 0x0, 0x0, 0x0, 0x0, true, false⟩,   -- FAB_PORT_CNT_RX_DISCARD (R479)
    ⟨0x300078, 0x1000, 8, 0x0, 1, .chip, 0x0, 0x0, 0x0, 0x0, true, false⟩,   -- FAB_PORT_CNT_CE_RX (R479)
    ⟨0x308000, 0x0, 1, 0x0, 1, .module, 0x13F, 0x0, 0x0, 0x100, false, false⟩,   -- FAB_CTRL (R480)
    ⟨0x308004, 0x0, 1, 0x0, 1, .module, 0x0, 0x100, 0x0, 0x0, false, false⟩,   -- FAB_STATUS (R480)
    ⟨0x308008, 0x0, 1, 0x0, 1, .power, 0x0, 0x0, 0x0, 0x0, false, false⟩,   -- FAB_INCARNATION (R480)
    ⟨0x30800C, 0x0, 1, 0x0, 1, .chip, 0x0, 0x80000000, 0x0, 0x0, false, false⟩ ]  -- FAB_SKEW_LAST (R480)

/-- Rows 216 to 239 of the register map, in address order. -/
def regRows9 : List RegDesc :=
  [ ⟨0x308010, 0x0, 1, 0x0, 1, .module, 0xFFF, 0x0, 0x0, 0x0, false, false⟩,   -- FAB_PEER_QUERY (R480)
    ⟨0x308014, 0x0, 1, 0x0, 1, .module, 0x0, 0x0, 0x0, 0x0, false, false⟩,   -- FAB_PEER_STATE (R480)
    ⟨0x308020, 0x0, 1, 0x0, 1, .module, 0x0, 0x0, 0x0, 0x0, false, true⟩,   -- FAB_BREACH_SEND (R480)
    ⟨0x308040, 0x0, 1, 0x0, 1, .chip, 0x0, 0x0, 0x0, 0x0, true, false⟩,   -- FAB_CNT_RETRANSMIT (R480)
    ⟨0x308048, 0x0, 1, 0x0, 1, .chip, 0x0, 0x0, 0x0, 0x0, true, false⟩,   -- FAB_CNT_RTO (R480)
    ⟨0x308050, 0x0, 1, 0x0, 1, .chip, 0x0, 0x0, 0x0, 0x0, true, false⟩,   -- FAB_CNT_NAK_TX (R480)
    ⟨0x308058, 0x0, 1, 0x0, 1, .chip, 0x0, 0x0, 0x0, 0x0, true, false⟩,   -- FAB_CNT_NAK_RX (R480)
    ⟨0x308060, 0x0, 1, 0x0, 1, .chip, 0x0, 0x0, 0x0, 0x0, true, false⟩,   -- FAB_CNT_SKEW (R480)
    ⟨0x308068, 0x0, 1, 0x0, 1, .chip, 0x0, 0x0, 0x0, 0x0, true, false⟩,   -- FAB_CNT_DISCARD (R480)
    ⟨0x308070, 0x0, 1, 0x0, 1, .chip, 0x0, 0x0, 0x0, 0x0, true, false⟩,   -- FAB_CNT_BREACH_TX (R480)
    ⟨0x308078, 0x0, 1, 0x0, 1, .chip, 0x0, 0x0, 0x0, 0x0, true, false⟩,   -- FAB_CNT_BREACH_RX (R480)
    ⟨0x310000, 0x10, 4096, 0x0, 1, .module, 0x9F03FFFF, 0x0, 0x0, 0x0, false, false⟩,   -- FAB_EP_CTRL (R481)
    ⟨0x310004, 0x10, 4096, 0x0, 1, .module, 0xFFFFFFFF, 0x0, 0x0, 0x0, false, false⟩,   -- FAB_EP_BASE_LO (R481)
    ⟨0x310008, 0x10, 4096, 0x0, 1, .module, 0xFFFF, 0x0, 0x0, 0x0, false, false⟩,   -- FAB_EP_BASE_HI (R481)
    ⟨0x31000C, 0x10, 4096, 0x0, 1, .module, 0xFFFFFFFF, 0x0, 0x0, 0x0, false, false⟩,   -- FAB_EP_LENGTH (R481)
    ⟨0x320000, 0x20, 1024, 0x0, 1, .module, 0x9F000000, 0x0, 0x0, 0x0, false, false⟩,   -- FAB_QP_CTRL (R481)
    ⟨0x320004, 0x20, 1024, 0x0, 1, .module, 0xFFFFFF, 0x0, 0x0, 0x0, false, false⟩,   -- FAB_QP_REMOTE (R481)
    ⟨0x320008, 0x20, 1024, 0x0, 1, .module, 0xFFFFFF, 0x0, 0x0, 0x0, false, false⟩,   -- FAB_QP_PSN (R481)
    ⟨0x320010, 0x20, 1024, 0x4, 4, .module, 0xFFFFFFFF, 0x0, 0x0, 0x0, false, false⟩,   -- FAB_QP_GID (R481)
    ⟨0x330000, 0x4, 32, 0x0, 1, .chip, 0x0, 0x80000000, 0x0, 0x0, false, false⟩,   -- FAB_BREACH (R481)
    ⟨0x380000, 0x0, 1, 0x0, 1, .module, 0x0, 0x0, 0x0, 0x0, false, false⟩,   -- CAS_STATUS (R482)
    ⟨0x380004, 0x0, 1, 0x0, 1, .module, 0x0, 0x0, 0x0, 0x0, false, false⟩,   -- CAS_GROUP (R483)
    ⟨0x380008, 0x0, 1, 0x0, 1, .module, 0x0, 0x0, 0x0, 0x0, false, false⟩,   -- CAS_RECKON_ROUND (R483)
    ⟨0x38000C, 0x0, 1, 0x0, 1, .module, 0x0, 0xFFFF, 0x0, 0x0, false, false⟩ ]  -- CAS_RECKON_MISMATCH (R483)

/-- Rows 240 to 263 of the register map, in address order. -/
def regRows10 : List RegDesc :=
  [ ⟨0x380010, 0x0, 1, 0x0, 1, .module, 0x0, 0xFFFF, 0x0, 0x0, false, false⟩,   -- CAS_RECKON_MISSING (R483)
    ⟨0x380014, 0x0, 1, 0x0, 1, .module, 0x0, 0x0, 0x0, 0x0, false, true⟩,   -- CAS_RECKON_CTRL (R483)
    ⟨0x380020, 0x4, 4, 0x0, 1, .module, 0xFFFFFFFF, 0x0, 0x0, 0x0, false, false⟩,   -- CAS_GRANT_SRC (R483)
    ⟨0x380100, 0x20, 16, 0x4, 8, .module, 0x0, 0x0, 0x0, 0x0, false, false⟩,   -- CAS_MEMBER_DIGEST (R483)
    ⟨0x400000, 0x0, 1, 0x0, 1, .module, 0x0, 0x0, 0x0, 0x0, false, false⟩,   -- RST_CTRL (R577)
    ⟨0x400004, 0x0, 1, 0x0, 1, .power, 0x0, 0x10, 0x0, 0x0, false, false⟩,   -- RST_STATUS (R578)
    ⟨0x400008, 0x0, 1, 0x0, 1, .power, 0x0, 0x0, 0x0, 0x0, false, false⟩,   -- RST_LAST_UNIT (R579)
    ⟨0x40000C, 0x0, 1, 0x0, 1, .power, 0x0, 0x0, 0x0, 0x0, false, false⟩,   -- RST_LAST_TICK_LO (R579)
    ⟨0x400010, 0x0, 1, 0x0, 1, .power, 0x0, 0x0, 0x0, 0x0, false, false⟩,   -- RST_LAST_TICK_HI (R579)
    ⟨0x400020, 0x4, 6, 0x0, 1, .power, 0x0, 0x0, 0x0, 0x0, false, false⟩,   -- RST_CNT (R579)
    ⟨0x400040, 0x0, 1, 0x0, 1, .power, 0x0, 0x0, 0x0, 0x0, false, false⟩,   -- RST_DOSSIER (R579)
    ⟨0x400044, 0x0, 1, 0x0, 1, .power, 0x0, 0x0, 0x0, 0x0, false, false⟩,   -- RST_DOSSIER_SEQ (R579)
    ⟨0x400048, 0x0, 1, 0x0, 1, .module, 0xFFFF, 0x0, 0x0, 0x0, false, false⟩,   -- RST_DOSSIER_HOLD (R579)
    ⟨0x401000, 0x0, 1, 0x0, 1, .module, 0xFFFFF, 0x0, 0x0, 0x64, false, false⟩,   -- VIG_REPLAY_MS (R580)
    ⟨0x401004, 0x0, 1, 0x0, 1, .module, 0x0, 0x0, 0x0, 0x0, false, false⟩,   -- VIG_STATUS (R580)
    ⟨0x401008, 0x0, 1, 0x0, 1, .power, 0x0, 0x80000000, 0x0, 0x0, false, false⟩,   -- VIG_GUILTY (R580)
    ⟨0x401010, 0x0, 1, 0x0, 1, .power, 0x0, 0x0, 0x0, 0x0, false, false⟩,   -- VIG_CNT_EXPIRED (R580)
    ⟨0x401014, 0x0, 1, 0x0, 1, .power, 0x0, 0x0, 0x0, 0x0, false, false⟩,   -- VIG_CNT_REPLAYS (R580)
    ⟨0x401018, 0x0, 1, 0x0, 1, .power, 0x0, 0x0, 0x0, 0x0, false, false⟩,   -- VIG_CNT_GUILTY (R580)
    ⟨0x40101C, 0x0, 1, 0x0, 1, .power, 0x0, 0x0, 0x0, 0x0, false, false⟩,   -- VIG_CNT_CLEAN (R580)
    ⟨0x402000, 0x0, 1, 0x0, 1, .module, 0x0, 0x0, 0x0, 0x0, false, false⟩,   -- DIKE_POLDER (R581)
    ⟨0x402004, 0x0, 1, 0x0, 1, .module, 0x3FFF, 0x0, 0x0, 0x64, false, false⟩,   -- DIKE_SLUICE_US (R581)
    ⟨0x402010, 0x4, 8, 0x0, 1, .module, 0x0, 0x0, 0x0, 0x0, false, false⟩,   -- DIKE_ENGINE (R581)
    ⟨0x402040, 0x0, 1, 0x0, 1, .chip, 0x0, 0x0, 0x0, 0x0, true, false⟩ ]  -- DIKE_CNT_FENCED (R581)

/-- Rows 264 to 287 of the register map, in address order. -/
def regRows11 : List RegDesc :=
  [ ⟨0x402048, 0x0, 1, 0x0, 1, .chip, 0x0, 0x0, 0x0, 0x0, true, false⟩,   -- DIKE_CNT_SLUICE (R581)
    ⟨0x402050, 0x0, 1, 0x0, 1, .chip, 0x0, 0x0, 0x0, 0x0, true, false⟩,   -- DIKE_CNT_DISCARD (R581)
    ⟨0x480000, 0x100, 256, 0x0, 1, .engine, 0x0, 0x0, 0x0, 0x0, false, false⟩,   -- CORE_STATUS (R288)
    ⟨0x480008, 0x100, 256, 0x0, 1, .chip, 0x0, 0x0, 0x0, 0x0, false, false⟩,   -- CORE_SRAM_ERR (R289)
    ⟨0x480010, 0x100, 256, 0x0, 1, .power, 0x0, 0x0, 0x0, 0x0, false, false⟩,   -- CORE_SELFTEST (R640)
    ⟨0x480040, 0x100, 256, 0x0, 1, .engine, 0x0, 0x0, 0x0, 0x0, false, false⟩,   -- ARR_STATUS (R219)
    ⟨0x480044, 0x100, 256, 0x0, 1, .power, 0x0, 0x0, 0x0, 0x0, false, false⟩,   -- ARR_HEALTH (R220)
    ⟨0x480048, 0x100, 256, 0x0, 1, .power, 0x0, 0x0, 0x0, 0x0, false, false⟩,   -- ARR_FUSE (R221)
    ⟨0x48004C, 0x100, 256, 0x0, 1, .chip, 0x0, 0x0, 0x0, 0x0, false, false⟩,   -- ARR_ABFT (R222)
    ⟨0x480050, 0x100, 256, 0x0, 1, .engine, 0x0, 0x0, 0x0, 0x0, false, true⟩,   -- ARR_CTRL (R222)
    ⟨0x480058, 0x100, 256, 0x0, 1, .power, 0x0, 0x0, 0x0, 0x0, false, false⟩,   -- ARR_MISMATCH_TICK_LO (R222)
    ⟨0x48005C, 0x100, 256, 0x0, 1, .power, 0x0, 0x0, 0x0, 0x0, false, false⟩,   -- ARR_MISMATCH_TICK_HI (R222)
    ⟨0x480060, 0x100, 256, 0x0, 1, .chip, 0x0, 0x0, 0x0, 0x0, true, false⟩,   -- ARR_CNT_BUSY (R223)
    ⟨0x480068, 0x100, 256, 0x0, 1, .chip, 0x0, 0x0, 0x0, 0x0, true, false⟩,   -- ARR_CNT_FRZ_OPERAND (R223)
    ⟨0x480070, 0x100, 256, 0x0, 1, .chip, 0x0, 0x0, 0x0, 0x0, true, false⟩,   -- ARR_CNT_FRZ_WEIGHT (R223)
    ⟨0x480078, 0x100, 256, 0x0, 1, .chip, 0x0, 0x0, 0x0, 0x0, true, false⟩,   -- ARR_CNT_FRZ_SCALE (R223)
    ⟨0x480080, 0x100, 256, 0x0, 1, .chip, 0x0, 0x0, 0x0, 0x0, true, false⟩,   -- ARR_CNT_FRZ_DRAIN (R223)
    ⟨0x480088, 0x100, 256, 0x0, 1, .chip, 0x0, 0x0, 0x0, 0x0, true, false⟩,   -- ARR_CNT_FILLER (R223)
    ⟨0x480090, 0x100, 256, 0x0, 1, .chip, 0x0, 0x0, 0x0, 0x0, true, false⟩,   -- ARR_CNT_PASSES (R223)
    ⟨0x480098, 0x100, 256, 0x0, 1, .chip, 0x0, 0x0, 0x0, 0x0, true, false⟩,   -- ARR_CNT_RETRY_CYCLES (R223)
    ⟨0x4800A0, 0x100, 256, 0x0, 1, .chip, 0x0, 0x0, 0x0, 0x0, true, false⟩,   -- PREC_CNT_SAT (R255)
    ⟨0x4800A8, 0x100, 256, 0x0, 1, .chip, 0x0, 0x0, 0x0, 0x0, true, false⟩,   -- PREC_CNT_NAN (R255)
    ⟨0x4800B0, 0x100, 256, 0x0, 1, .chip, 0x0, 0x0, 0x0, 0x0, false, false⟩,   -- PREC_SHADOW (R255)
    ⟨0x4800B4, 0x100, 256, 0x0, 1, .engine, 0x0, 0x0, 0x0, 0x0, false, true⟩ ]  -- PREC_CTRL (R255)

/-- Rows 288 to 311 of the register map, in address order. -/
def regRows12 : List RegDesc :=
  [ ⟨0x4800C0, 0x100, 256, 0x0, 1, .chip, 0x0, 0x0, 0x0, 0x0, true, false⟩,   -- CORE_CNT_VEC (R289)
    ⟨0x4800C8, 0x100, 256, 0x0, 1, .chip, 0x0, 0x0, 0x0, 0x0, true, false⟩,   -- CORE_CNT_DMA (R289)
    ⟨0x4800D0, 0x100, 256, 0x0, 1, .chip, 0x0, 0x0, 0x0, 0x0, true, false⟩,   -- CORE_CNT_WAIT (R289)
    ⟨0x490000, 0x4, 4096, 0x0, 1, .chip, 0xFFFFFFFF, 0x0, 0x0, 0x0, false, false⟩,   -- PREC_SEED (R256)
    ⟨0x494000, 0x10, 32, 0x0, 1, .polder, 0x0, 0x0, 0x0, 0x0, false, false⟩,   -- PREC_DRIFT (R258)
    ⟨0x494004, 0x10, 32, 0x0, 1, .polder, 0x0, 0x0, 0x0, 0x0, false, false⟩,   -- PREC_DRIFT_PEAK (R258)
    ⟨0x494008, 0x10, 32, 0x0, 1, .polder, 0x0, 0x0, 0x0, 0x0, false, false⟩,   -- PREC_DRIFT_STATUS (R257)
    ⟨0x49400C, 0x10, 32, 0x0, 1, .polder, 0x0, 0x0, 0x0, 0x0, false, true⟩,   -- PREC_DRIFT_CTRL (R258)
    ⟨0x4A0000, 0x100, 256, 0x4, 64, .engine, 0x0, 0x0, 0x0, 0x0, false, false⟩,   -- CORE_COUNTER (R290)
    ⟨0x4C0000, 0x1000, 32, 0x4, 1024, .polder, 0x0, 0x0, 0x0, 0x0, false, false⟩,   -- CORE_CLUSTER_COUNTER (R290)
    ⟨0x4E0000, 0x100, 8, 0x0, 1, .module, 0x0, 0x0, 0x0, 0x0, false, false⟩,   -- CORE_HALF_CLOCK (R291)
    ⟨0x4E0004, 0x100, 8, 0x0, 1, .module, 0x0, 0x0, 0x0, 0x0, false, false⟩,   -- CORE_SEAM_OCC (R291)
    ⟨0x4E0008, 0x100, 8, 0x0, 1, .chip, 0x0, 0x0, 0x0, 0x0, true, false⟩,   -- CORE_SEAM_FLITS (R291)
    ⟨0x4E0010, 0x100, 8, 0x0, 1, .chip, 0x0, 0x0, 0x0, 0x0, true, false⟩,   -- CORE_SEAM_STALL (R291)
    ⟨0x4E1000, 0x40, 32, 0x0, 1, .polder, 0x0, 0x0, 0x0, 0x0, false, false⟩,   -- CORE_CLUSTER_STATUS (R291)
    ⟨0x4E1004, 0x40, 32, 0x0, 1, .chip, 0x0, 0x0, 0x0, 0x0, false, false⟩,   -- CORE_CLUSTER_SRAM_ERR (R291)
    ⟨0x500000, 0x0, 1, 0x0, 1, .module, 0x0, 0x18, 0x0, 0x0, false, false⟩,   -- NVS_STATUS (R138)
    ⟨0x500004, 0x0, 1, 0x0, 1, .module, 0x0, 0x0, 0x0, 0x0, false, false⟩,   -- NVS_SEQ (R139)
    ⟨0x500008, 0x0, 1, 0x0, 1, .module, 0x0, 0x0, 0x0, 0x0, false, false⟩,   -- NVS_STORE_WAIT (R139)
    ⟨0x50000C, 0x0, 1, 0x0, 1, .power, 0x0, 0x0, 0x0, 0x0, false, false⟩,   -- NVS_STORE_COUNT (R139)
    ⟨0x500020, 0x4, 8, 0x0, 1, .module, 0x0, 0x0, 0x0, 0x0, false, false⟩,   -- NVS_SETTINGS_DIGEST (R139)
    ⟨0x500040, 0x4, 8, 0x0, 1, .module, 0x0, 0x0, 0x0, 0x0, false, false⟩,   -- NVS_FW_DIGEST (R139)
    ⟨0x500060, 0x4, 8, 0x0, 1, .module, 0x0, 0x0, 0x0, 0x0, false, false⟩,   -- NVS_CFG_DIGEST (R139)
    ⟨0x500080, 0x0, 1, 0x0, 1, .module, 0x0, 0x0, 0x0, 0x0, false, false⟩ ]  -- NVS_CFG_TAG (R139)

/-- Rows 312 to 335 of the register map, in address order. -/
def regRows13 : List RegDesc :=
  [ ⟨0x600000, 0x0, 1, 0x0, 1, .power, 0x0, 0x200, 0x0, 0x0, false, false⟩,   -- ALM_STATUS (R665)
    ⟨0x600008, 0x0, 1, 0x0, 1, .power, 0x0, 0x0, 0x0, 0x0, true, false⟩,   -- ALM_COUNT (R666)
    ⟨0x600010, 0x0, 1, 0x0, 1, .power, 0x0, 0x0, 0x0, 0x0, false, false⟩,   -- ALM_LOST (R666)
    ⟨0x600018, 0x0, 1, 0x0, 1, .power, 0x0, 0x0, 0x0, 0x0, true, false⟩,   -- ALM_TICK (R666)
    ⟨0x600020, 0x0, 1, 0x0, 1, .module, 0x0, 0x0, 0x0, 0x0, false, true⟩,   -- ALM_CTRL (R666)
    ⟨0x600024, 0x0, 1, 0x0, 1, .module, 0x7, 0x0, 0x0, 0x0, false, false⟩,   -- ALM_FROZEN_SEL (R666)
    ⟨0x600028, 0x0, 1, 0x0, 1, .power, 0xFF, 0x0, 0x0, 0x0, false, false⟩,   -- ALM_FROZEN_HOLD (R666)
    ⟨0x60002C, 0x0, 1, 0x0, 1, .power, 0x0, 0x0, 0x0, 0x0, false, false⟩,   -- ALM_FROZEN_LOST (R666)
    ⟨0x600030, 0x0, 1, 0x0, 1, .module, 0x7, 0x0, 0x0, 0x2, false, false⟩,   -- ALM_EVENT_SEV (R666)
    ⟨0x610000, 0x4, 32768, 0x0, 1, .power, 0x0, 0x0, 0x0, 0x0, false, false⟩,   -- ALM_RING (R666)
    ⟨0x630000, 0x4, 64, 0x0, 1, .power, 0x0, 0x0, 0x0, 0x0, false, false⟩,   -- ALM_FROZEN_HDR (R666)
    ⟨0x640000, 0x4, 32768, 0x0, 1, .power, 0x0, 0x0, 0x0, 0x0, false, false⟩,   -- ALM_FROZEN_ENTRIES (R666)
    ⟨0x800000, 0x0, 1, 0x0, 1, .module, 0x0, 0x0, 0x0, 0x0, false, true⟩,   -- SEC_FW_CTRL (R639)
    ⟨0x800004, 0x0, 1, 0x0, 1, .module, 0x0, 0x1C, 0x0, 0x0, false, false⟩,   -- SEC_FW_STATUS (R639)
    ⟨0x800008, 0x0, 1, 0x0, 1, .module, 0xFFFFFFFF, 0x0, 0x0, 0x0, false, false⟩,   -- SEC_FW_LENGTH (R639)
    ⟨0x80000C, 0x0, 1, 0x0, 1, .module, 0x0, 0x0, 0x0, 0x0, false, false⟩,   -- SEC_FW_SLOT_VERSION (R639)
    ⟨0x800010, 0x0, 1, 0x0, 1, .power, 0x0, 0x0, 0x0, 0x0, false, false⟩,   -- SEC_SVN (R639)
    ⟨0x800020, 0x4, 8, 0x0, 1, .power, 0x0, 0x0, 0xFFFFFFFF, 0x0, false, false⟩,   -- SEC_OWNER_HASH (R639)
    ⟨0x800040, 0x0, 1, 0x0, 1, .module, 0x0, 0x0, 0x0, 0x0, false, true⟩,   -- SEC_OWNER_CTRL (R639)
    ⟨0x800044, 0x0, 1, 0x0, 1, .power, 0x0, 0x18, 0x0, 0x0, false, false⟩,   -- SEC_OWNER_STATUS (R639)
    ⟨0x800048, 0x0, 1, 0x0, 1, .module, 0xFFFFFFFF, 0x0, 0x0, 0x0, false, false⟩,   -- SEC_XFER_ADDR_LO (R639)
    ⟨0x80004C, 0x0, 1, 0x0, 1, .module, 0xFFFF, 0x0, 0x0, 0x0, false, false⟩,   -- SEC_XFER_ADDR_HI (R639)
    ⟨0x800050, 0x4, 4, 0x0, 1, .module, 0x0, 0x0, 0x0, 0x0, false, false⟩,   -- SEC_NONCE (R639)
    ⟨0x800060, 0x0, 1, 0x0, 1, .power, 0x0, 0x100, 0x0, 0x0, false, false⟩ ]  -- SEC_IDE (R639)

/-- Rows 336 to 336 of the register map, in address order. -/
def regRows14 : List RegDesc :=
  [ ⟨0x801000, 0x4, 1024, 0x0, 1, .power, 0x0, 0x0, 0x0, 0x0, false, true⟩ ]  -- SEC_FW_PORT (R639)

/-- The register map in address order. -/
def regTable : List RegDesc :=
  regRows0 ++ regRows1 ++ regRows2 ++ regRows3 ++ regRows4 ++ regRows5 ++ regRows6 ++
  regRows7 ++ regRows8 ++ regRows9 ++ regRows10 ++ regRows11 ++ regRows12 ++ regRows13 ++ regRows14

/-- A row of the map holds an address: one of its instances lies there. -/
def RegDesc.holds (d : RegDesc) (a : Nat) : Bool :=
  decide (d.base ≤ a) &&
  (let o := a - d.base
   let i := if d.s1 = 0 then 0 else min (o / d.s1) (d.c1 - 1)
   let o2 := o - d.s1 * i
   let j := if d.s2 = 0 then 0 else min (o2 / d.s2) (d.c2 - 1)
   decide (d.s1 * i + d.s2 * j = o))

/-- The row that holds an address; none where the address is reserved. -/
def findReg (a : Nat) : Option RegDesc := regTable.find? (fun d => d.holds a)

/-- What the register at an address reads as when nothing lists it: its reset value, and 0 at a reserved address (R11). -/
def regDefault (a : Nat) : Word :=
  match findReg a with
  | some d => BitVec.ofNat 32 d.reset
  | none => 0

/-- Address of ID_DEVICE (R8). -/
abbrev Reg.idDevice : Nat := 0x0
/-- Address of ID_STEPPING (R638). -/
abbrev Reg.idStepping : Nat := 0x4
/-- Address of ID_SERIAL_LO (R638). -/
abbrev Reg.idSerialLo : Nat := 0x8
/-- Address of ID_SERIAL_HI (R638). -/
abbrev Reg.idSerialHi : Nat := 0xC
/-- Address of CAP_UNITS (R9). -/
abbrev Reg.capUnits : Nat := 0x10
/-- Address of CAP_LIMITS (R638). -/
abbrev Reg.capLimits : Nat := 0x14
/-- Address of ID_BOOT (R637). -/
abbrev Reg.idBoot : Nat := 0x20
/-- Address of ID_FW_VERSION (R638). -/
abbrev Reg.idFwVersion : Nat := 0x24
/-- Address of ID_SIDEBAND (R685). -/
abbrev Reg.idSideband : Nat := 0x28
/-- Address of ID_MEM_FAILED (R638). -/
abbrev Reg.idMemFailed (i : Nat) : Nat := 0x40 + 0x4 * i
/-- Address of MBX_CMD (R135). -/
abbrev Reg.mbxCmd : Nat := 0x10000
/-- Address of MBX_STATUS (R136). -/
abbrev Reg.mbxStatus : Nat := 0x10004
/-- Address of MBX_ARG (R137). -/
abbrev Reg.mbxArg (i : Nat) : Nat := 0x10010 + 0x4 * i
/-- Address of MBX_RESULT (R137). -/
abbrev Reg.mbxResult (i : Nat) : Nat := 0x10020 + 0x4 * i
/-- Address of MBX_STOPPING (R137). -/
abbrev Reg.mbxStopping : Nat := 0x10030
/-- Address of MBX_STOPPED (R137). -/
abbrev Reg.mbxStopped : Nat := 0x10034
/-- Address of IMG_CTRL (R103). -/
abbrev Reg.imgCtrl : Nat := 0x20000
/-- Address of IMG_STATUS (R104). -/
abbrev Reg.imgStatus : Nat := 0x20004
/-- Address of IMG_SRC_ADDR_LO (R106). -/
abbrev Reg.imgSrcAddrLo : Nat := 0x20008
/-- Address of IMG_SRC_ADDR_HI (R106). -/
abbrev Reg.imgSrcAddrHi : Nat := 0x2000C
/-- Address of IMG_LENGTH (R106). -/
abbrev Reg.imgLength : Nat := 0x20010
/-- Address of IMG_SERIAL (R106). -/
abbrev Reg.imgSerial : Nat := 0x20014
/-- Address of IMG_POLDERS (R106). -/
abbrev Reg.imgPolders : Nat := 0x20018
/-- Address of IMG_MEMBER (R106). -/
abbrev Reg.imgMember : Nat := 0x2001C
/-- Address of IMG_DIGEST (R106). -/
abbrev Reg.imgDigest (i : Nat) : Nat := 0x20020 + 0x4 * i
/-- Address of IMG_PORT (R106). -/
abbrev Reg.imgPort (i : Nat) : Nat := 0x21000 + 0x4 * i
/-- Address of CTX_CTRL (R177). -/
abbrev Reg.ctxCtrl (i : Nat) : Nat := 0x40000 + 0x40 * i
/-- Address of CTX_BIND (R178). -/
abbrev Reg.ctxBind (i : Nat) : Nat := 0x40004 + 0x40 * i
/-- Address of CTX_SQ_BASE_LO (R180). -/
abbrev Reg.ctxSqBaseLo (i : Nat) : Nat := 0x40008 + 0x40 * i
/-- Address of CTX_SQ_BASE_HI (R180). -/
abbrev Reg.ctxSqBaseHi (i : Nat) : Nat := 0x4000C + 0x40 * i
/-- Address of CTX_CQ_BASE_LO (R180). -/
abbrev Reg.ctxCqBaseLo (i : Nat) : Nat := 0x40010 + 0x40 * i
/-- Address of CTX_CQ_BASE_HI (R180). -/
abbrev Reg.ctxCqBaseHi (i : Nat) : Nat := 0x40014 + 0x40 * i
/-- Address of CTX_RING_SIZE (R180). -/
abbrev Reg.ctxRingSize (i : Nat) : Nat := 0x40018 + 0x40 * i
/-- Address of CTX_SQ_HEAD (R180). -/
abbrev Reg.ctxSqHead (i : Nat) : Nat := 0x4001C + 0x40 * i
/-- Address of CTX_SQ_TAIL (R180). -/
abbrev Reg.ctxSqTail (i : Nat) : Nat := 0x40020 + 0x40 * i
/-- Address of CTX_CQ_TAIL (R180). -/
abbrev Reg.ctxCqTail (i : Nat) : Nat := 0x40024 + 0x40 * i
/-- Address of CTX_CQ_HEAD (R180). -/
abbrev Reg.ctxCqHead (i : Nat) : Nat := 0x40028 + 0x40 * i
/-- Address of CTX_VIGIL (R180). -/
abbrev Reg.ctxVigil (i : Nat) : Nat := 0x4002C + 0x40 * i
/-- Address of CTX_STATUS (R179). -/
abbrev Reg.ctxStatus (i : Nat) : Nat := 0x40030 + 0x40 * i
/-- Address of CTX_IRQ (R180). -/
abbrev Reg.ctxIrq (i : Nat) : Nat := 0x40034 + 0x40 * i
/-- Address of CTX_ERR_ADDR_LO (R180). -/
abbrev Reg.ctxErrAddrLo (i : Nat) : Nat := 0x40038 + 0x40 * i
/-- Address of CTX_ERR_ADDR_HI (R180). -/
abbrev Reg.ctxErrAddrHi (i : Nat) : Nat := 0x4003C + 0x40 * i
/-- Address of FN_RANGE (R181). -/
abbrev Reg.fnRange (i : Nat) : Nat := 0x80000 + 0x8 * i
/-- Address of FN_QUOTA (R181). -/
abbrev Reg.fnQuota (i : Nat) : Nat := 0x80004 + 0x8 * i
/-- Address of CTX_DEV_INFLIGHT (R181). -/
abbrev Reg.ctxDevInflight : Nat := 0x80200
/-- Address of FN_STATUS (R181). -/
abbrev Reg.fnStatus : Nat := 0x80204
/-- Address of PWR_STATUS (R516). -/
abbrev Reg.pwrStatus : Nat := 0x100000
/-- Address of PWR_FEED_A (R517). -/
abbrev Reg.pwrFeedA : Nat := 0x100004
/-- Address of PWR_FEED_B (R517). -/
abbrev Reg.pwrFeedB : Nat := 0x100008
/-- Address of PWR_IN_W (R517). -/
abbrev Reg.pwrInW : Nat := 0x10000C
/-- Address of PWR_CAP (R517). -/
abbrev Reg.pwrCap : Nat := 0x100010
/-- Address of PWR_GRANT (R517). -/
abbrev Reg.pwrGrant : Nat := 0x100014
/-- Address of PWR_GRANT_SERIAL (R517). -/
abbrev Reg.pwrGrantSerial : Nat := 0x100018
/-- Address of PWR_HEAT_FLOOR (R517). -/
abbrev Reg.pwrHeatFloor : Nat := 0x10001C
/-- Address of PWR_SLEW (R517). -/
abbrev Reg.pwrSlew : Nat := 0x100020
/-- Address of PWR_RAMP_EST (R517). -/
abbrev Reg.pwrRampEst : Nat := 0x100024
/-- Address of PWR_SLACK (R517). -/
abbrev Reg.pwrSlack : Nat := 0x100028
/-- Address of PWR_COMMON_W (R517). -/
abbrev Reg.pwrCommonW : Nat := 0x10002C
/-- Address of PWR_HEAT_W (R517). -/
abbrev Reg.pwrHeatW : Nat := 0x100030
/-- Address of PWR_E_IN (LO half of a 64-bit counter) (R517). -/
abbrev Reg.pwrEIn : Nat := 0x100040
/-- Address of PWR_E_HEAT (LO half of a 64-bit counter) (R517). -/
abbrev Reg.pwrEHeat : Nat := 0x100048
/-- Address of PWR_E_FILLER (LO half of a 64-bit counter) (R517). -/
abbrev Reg.pwrEFiller : Nat := 0x100050
/-- Address of PWR_GROUP (R518). -/
abbrev Reg.pwrGroup (i : Nat) : Nat := 0x100100 + 0x4 * i
/-- Address of PWR_GROUP_LIFE (R518). -/
abbrev Reg.pwrGroupLife (i : Nat) : Nat := 0x100180 + 0x4 * i
/-- Address of PWR_POLDER_BUDGET (R518). -/
abbrev Reg.pwrPolderBudget (i : Nat) : Nat := 0x100200 + 0x8 * i
/-- Address of PWR_POLDER_DRAW (R518). -/
abbrev Reg.pwrPolderDraw (i : Nat) : Nat := 0x100204 + 0x8 * i
/-- Address of CLK_HALF (R519). -/
abbrev Reg.clkHalf (i : Nat) : Nat := 0x101000 + 0x10 * i
/-- Address of CLK_HALF_WAKES (R519). -/
abbrev Reg.clkHalfWakes (i : Nat) : Nat := 0x101004 + 0x10 * i
/-- Address of CLK_IDLE (R519). -/
abbrev Reg.clkIdle : Nat := 0x101100
/-- Address of CLK_RAMP (R519). -/
abbrev Reg.clkRamp : Nat := 0x101104
/-- Address of CLK_CORE (R519). -/
abbrev Reg.clkCore (i : Nat) : Nat := 0x101200 + 0x8 * i
/-- Address of CLK_CORE_CAP (R519). -/
abbrev Reg.clkCoreCap (i : Nat) : Nat := 0x101204 + 0x8 * i
/-- Address of THM_STATUS (R545). -/
abbrev Reg.thmStatus : Nat := 0x110000
/-- Address of THM_SUSPECT (R546). -/
abbrev Reg.thmSuspect : Nat := 0x110004
/-- Address of THM_EVENT (R547). -/
abbrev Reg.thmEvent : Nat := 0x110008
/-- Address of THM_LAYER (R547). -/
abbrev Reg.thmLayer (i : Nat) : Nat := 0x110040 + 0x4 * i
/-- Address of THM_HALF (R547). -/
abbrev Reg.thmHalf (i : Nat) : Nat := 0x110080 + 0x4 * i
/-- Address of THM_MEM_DUTY (R547). -/
abbrev Reg.thmMemDuty (i : Nat) : Nat := 0x1100A0 + 0x4 * i
/-- Address of THM_CORE_T (R547). -/
abbrev Reg.thmCoreT (i : Nat) : Nat := 0x110100 + 0x8 * i
/-- Address of THM_CORE (R547). -/
abbrev Reg.thmCore (i : Nat) : Nat := 0x110104 + 0x8 * i
/-- Address of THM_MEM_SENSOR (R547). -/
abbrev Reg.thmMemSensor (i j : Nat) : Nat := 0x110900 + 0x40 * i + 0x4 * j
/-- Address of THM_WEAR_LO (R547). -/
abbrev Reg.thmWearLo (i : Nat) : Nat := 0x110B00 + 0x8 * i
/-- Address of THM_WEAR_HI (R547). -/
abbrev Reg.thmWearHi (i : Nat) : Nat := 0x110B04 + 0x8 * i
/-- Address of THM_CNT_DISAGREE (LO half of a 64-bit counter) (R547). -/
abbrev Reg.thmCntDisagree : Nat := 0x110C00
/-- Address of THM_CNT_THROTTLE (LO half of a 64-bit counter) (R547). -/
abbrev Reg.thmCntThrottle : Nat := 0x110C08
/-- Address of CLT_STATUS (R548). -/
abbrev Reg.cltStatus : Nat := 0x111000
/-- Address of CLT_FLOW (R549). -/
abbrev Reg.cltFlow : Nat := 0x111004
/-- Address of CLT_FLOW_LIMIT (R549). -/
abbrev Reg.cltFlowLimit : Nat := 0x111008
/-- Address of CLT_COOLANT (R549). -/
abbrev Reg.cltCoolant : Nat := 0x11100C
/-- Address of CLT_STOPS (R549). -/
abbrev Reg.cltStops : Nat := 0x111010
/-- Address of CLT_T_IN (R549). -/
abbrev Reg.cltTIn (i : Nat) : Nat := 0x111100 + 0x10 * i
/-- Address of CLT_T_OUT (R549). -/
abbrev Reg.cltTOut (i : Nat) : Nat := 0x111104 + 0x10 * i
/-- Address of CLT_LEVEL_FLOW (R549). -/
abbrev Reg.cltLevelFlow (i : Nat) : Nat := 0x111108 + 0x10 * i
/-- Address of CLT_LEVEL_DP (R549). -/
abbrev Reg.cltLevelDp (i : Nat) : Nat := 0x11110C + 0x10 * i
/-- Address of MEM_COL_STATUS (R326). -/
abbrev Reg.memColStatus (i : Nat) : Nat := 0x200000 + 0x400 * i
/-- Address of MEM_COL_RETIRED (R327). -/
abbrev Reg.memColRetired (i : Nat) : Nat := 0x200004 + 0x400 * i
/-- Address of MEM_CE_COUNT (R327). -/
abbrev Reg.memCeCount (i : Nat) : Nat := 0x200008 + 0x400 * i
/-- Address of MEM_UE_COUNT (R327). -/
abbrev Reg.memUeCount (i : Nat) : Nat := 0x20000C + 0x400 * i
/-- Address of MEM_UE_LOC (R327). -/
abbrev Reg.memUeLoc (i : Nat) : Nat := 0x200010 + 0x400 * i
/-- Address of MEM_UE_SRC (R327). -/
abbrev Reg.memUeSrc (i : Nat) : Nat := 0x200014 + 0x400 * i
/-- Address of MEM_CE_LOG_LOST (R327). -/
abbrev Reg.memCeLogLost (i : Nat) : Nat := 0x200018 + 0x400 * i
/-- Address of MEM_COL_CTRL (R327). -/
abbrev Reg.memColCtrl (i : Nat) : Nat := 0x20001C + 0x400 * i
/-- Address of MEM_CE_LOG (R327). -/
abbrev Reg.memCeLog (i j : Nat) : Nat := 0x200040 + 0x400 * i + 0x8 * j
/-- Address of MEM_CE_INFO (R327). -/
abbrev Reg.memCeInfo (i j : Nat) : Nat := 0x200044 + 0x400 * i + 0x8 * j
/-- Address of MEM_REMAP (R327). -/
abbrev Reg.memRemap (i j : Nat) : Nat := 0x2000C0 + 0x400 * i + 0x4 * j
/-- Address of MEM_CNT_RD (LO half of a 64-bit counter) (R327). -/
abbrev Reg.memCntRd (i : Nat) : Nat := 0x2000E0 + 0x400 * i
/-- Address of MEM_CNT_WR (LO half of a 64-bit counter) (R327). -/
abbrev Reg.memCntWr (i : Nat) : Nat := 0x2000E8 + 0x400 * i
/-- Address of MEM_APERTURE (R329). -/
abbrev Reg.memAperture : Nat := 0x200200
/-- Address of MEM_FLIPTARGET (R329). -/
abbrev Reg.memFliptarget : Nat := 0x200204
/-- Address of MEM_FLIP_LOC (R329). -/
abbrev Reg.memFlipLoc : Nat := 0x200208
/-- Address of MEM_RETIRE_ENTRY (R329). -/
abbrev Reg.memRetireEntry : Nat := 0x200210
/-- Address of MEM_RETIRE_CTRL (R329). -/
abbrev Reg.memRetireCtrl : Nat := 0x200214
/-- Address of MEM_RETIRE_STATUS (R329). -/
abbrev Reg.memRetireStatus : Nat := 0x200218
/-- Address of MEM_RETIRE_COUNT (R329). -/
abbrev Reg.memRetireCount : Nat := 0x20021C
/-- Address of MEM_RETIRE_INDEX (R329). -/
abbrev Reg.memRetireIndex : Nat := 0x200220
/-- Address of MEM_RETIRE_DATA (R329). -/
abbrev Reg.memRetireData : Nat := 0x200224
/-- Address of MEM_FLIPMASK (R329). -/
abbrev Reg.memFlipmask (i : Nat) : Nat := 0x200240 + 0x4 * i
/-- Address of NBU_STATUS (R360). -/
abbrev Reg.nbuStatus : Nat := 0x240000
/-- Address of NBU_EVENT (R361). -/
abbrev Reg.nbuEvent : Nat := 0x240004
/-- Address of NBU_TORN_LO (R362). -/
abbrev Reg.nbuTornLo : Nat := 0x240008
/-- Address of NBU_TORN_HI (R362). -/
abbrev Reg.nbuTornHi : Nat := 0x24000C
/-- Address of NBU_CLASH_LO (R362). -/
abbrev Reg.nbuClashLo : Nat := 0x240010
/-- Address of NBU_CLASH_HI (R362). -/
abbrev Reg.nbuClashHi : Nat := 0x240014
/-- Address of NBU_CNT_BUSY (LO half of a 64-bit counter) (R362). -/
abbrev Reg.nbuCntBusy : Nat := 0x240020
/-- Address of NBU_CNT_BYTES (LO half of a 64-bit counter) (R362). -/
abbrev Reg.nbuCntBytes : Nat := 0x240028
/-- Address of NBU_CNT_YIELDS (LO half of a 64-bit counter) (R362). -/
abbrev Reg.nbuCntYields : Nat := 0x240030
/-- Address of NBU_CNT_TORN (LO half of a 64-bit counter) (R362). -/
abbrev Reg.nbuCntTorn : Nat := 0x240038
/-- Address of NBU_CNT_CLASH (LO half of a 64-bit counter) (R362). -/
abbrev Reg.nbuCntClash : Nat := 0x240040
/-- Address of NBU_CNT_FORCED (LO half of a 64-bit counter) (R362). -/
abbrev Reg.nbuCntForced : Nat := 0x240048
/-- Address of NBU_COL_BUSY (R363). -/
abbrev Reg.nbuColBusy (i : Nat) : Nat := 0x241000 + 0x10 * i
/-- Address of NBU_COL_OWED (R363). -/
abbrev Reg.nbuColOwed (i : Nat) : Nat := 0x241004 + 0x10 * i
/-- Address of KVP_STATUS (R407). -/
abbrev Reg.kvpStatus : Nat := 0x260000
/-- Address of KVP_ACTIVE (R407). -/
abbrev Reg.kvpActive : Nat := 0x260004
/-- Address of KVP_ERR (R406). -/
abbrev Reg.kvpErr : Nat := 0x260008
/-- Address of KVP_ERR_SEQ (R407). -/
abbrev Reg.kvpErrSeq : Nat := 0x26000C
/-- Address of KVP_ERR_PAGE (R407). -/
abbrev Reg.kvpErrPage : Nat := 0x260010
/-- Address of KVP_PAGE_QUERY (R407). -/
abbrev Reg.kvpPageQuery : Nat := 0x260014
/-- Address of KVP_PAGE_STATE (R407). -/
abbrev Reg.kvpPageState : Nat := 0x260018
/-- Address of KVP_PAGE_COUNTS (R407). -/
abbrev Reg.kvpPageCounts : Nat := 0x26001C
/-- Address of KVP_CNT_COW (LO half of a 64-bit counter) (R408). -/
abbrev Reg.kvpCntCow : Nat := 0x260040
/-- Address of KVP_CNT_MATCHED (LO half of a 64-bit counter) (R408). -/
abbrev Reg.kvpCntMatched : Nat := 0x260048
/-- Address of KVP_CNT_COLLIDE (LO half of a 64-bit counter) (R408). -/
abbrev Reg.kvpCntCollide : Nat := 0x260050
/-- Address of KVP_CNT_EVICT (LO half of a 64-bit counter) (R408). -/
abbrev Reg.kvpCntEvict : Nat := 0x260058
/-- Address of KVP_CNT_INDEX_FULL (LO half of a 64-bit counter) (R408). -/
abbrev Reg.kvpCntIndexFull : Nat := 0x260060
/-- Address of KVP_CNT_KEY_FORMAT (LO half of a 64-bit counter) (R408). -/
abbrev Reg.kvpCntKeyFormat : Nat := 0x260068
/-- Address of KVP_CNT_SCORED (LO half of a 64-bit counter) (R408). -/
abbrev Reg.kvpCntScored : Nat := 0x260070
/-- Address of KVP_CNT_PAGES_READ (LO half of a 64-bit counter) (R408). -/
abbrev Reg.kvpCntPagesRead : Nat := 0x260078
/-- Address of KVP_POOL_PAGES (R409). -/
abbrev Reg.kvpPoolPages (i : Nat) : Nat := 0x260100 + 0x20 * i
/-- Address of KVP_POOL_FREE (R409). -/
abbrev Reg.kvpPoolFree (i : Nat) : Nat := 0x260104 + 0x20 * i
/-- Address of KVP_SEQ_REG (R409). -/
abbrev Reg.kvpSeqReg (i : Nat) : Nat := 0x260108 + 0x20 * i
/-- Address of KVP_SEQ_ACTIVE (R409). -/
abbrev Reg.kvpSeqActive (i : Nat) : Nat := 0x26010C + 0x20 * i
/-- Address of KVP_INDEX_USED (R409). -/
abbrev Reg.kvpIndexUsed (i : Nat) : Nat := 0x260110 + 0x20 * i
/-- Address of OPT_STATUS (R435). -/
abbrev Reg.optStatus : Nat := 0x280000
/-- Address of OPT_SKEW_SEEN (R436). -/
abbrev Reg.optSkewSeen : Nat := 0x280008
/-- Address of OPT_SKEW_STEP (R436). -/
abbrev Reg.optSkewStep : Nat := 0x28000C
/-- Address of OPT_SKEW_CTX (R436). -/
abbrev Reg.optSkewCtx : Nat := 0x280010
/-- Address of OPT_CNT_STEPS (LO half of a 64-bit counter) (R437). -/
abbrev Reg.optCntSteps : Nat := 0x280040
/-- Address of OPT_CNT_NBU_STEPS (LO half of a 64-bit counter) (R437). -/
abbrev Reg.optCntNbuSteps : Nat := 0x280048
/-- Address of OPT_CNT_ELEMENTS (LO half of a 64-bit counter) (R437). -/
abbrev Reg.optCntElements : Nat := 0x280050
/-- Address of OPT_CNT_FROZEN (LO half of a 64-bit counter) (R437). -/
abbrev Reg.optCntFrozen : Nat := 0x280058
/-- Address of OPT_CNT_SKEW (LO half of a 64-bit counter) (R437). -/
abbrev Reg.optCntSkew : Nat := 0x280060
/-- Address of OPT_CNT_NONFINITE (LO half of a 64-bit counter) (R437). -/
abbrev Reg.optCntNonfinite : Nat := 0x280068
/-- Address of OPT_CNT_PARTIAL (LO half of a 64-bit counter) (R437). -/
abbrev Reg.optCntPartial : Nat := 0x280070
/-- Address of OPT_SLOT_CTRL (R438). -/
abbrev Reg.optSlotCtrl (i : Nat) : Nat := 0x280400 + 0x20 * i
/-- Address of OPT_SLOT_A1 (R438). -/
abbrev Reg.optSlotA1 (i : Nat) : Nat := 0x280404 + 0x20 * i
/-- Address of OPT_SLOT_A2 (R438). -/
abbrev Reg.optSlotA2 (i : Nat) : Nat := 0x280408 + 0x20 * i
/-- Address of OPT_SLOT_B1 (R438). -/
abbrev Reg.optSlotB1 (i : Nat) : Nat := 0x28040C + 0x20 * i
/-- Address of OPT_SLOT_B2 (R438). -/
abbrev Reg.optSlotB2 (i : Nat) : Nat := 0x280410 + 0x20 * i
/-- Address of OPT_SLOT_LAMBDA (R438). -/
abbrev Reg.optSlotLambda (i : Nat) : Nat := 0x280414 + 0x20 * i
/-- Address of OPT_SLOT_CLIP (R438). -/
abbrev Reg.optSlotClip (i : Nat) : Nat := 0x280418 + 0x20 * i
/-- Address of PAR_STATUS (R608). -/
abbrev Reg.parStatus : Nat := 0x281000
/-- Address of PAR_CNT_DELTA_TX (LO half of a 64-bit counter) (R608). -/
abbrev Reg.parCntDeltaTx : Nat := 0x281040
/-- Address of PAR_CNT_DELTA_RX (LO half of a 64-bit counter) (R608). -/
abbrev Reg.parCntDeltaRx : Nat := 0x281048
/-- Address of PAR_CNT_DUP (LO half of a 64-bit counter) (R608). -/
abbrev Reg.parCntDup : Nat := 0x281050
/-- Address of PAR_CNT_POISON (LO half of a 64-bit counter) (R608). -/
abbrev Reg.parCntPoison : Nat := 0x281058
/-- Address of PAR_CNT_DROPPED (LO half of a 64-bit counter) (R608). -/
abbrev Reg.parCntDropped : Nat := 0x281060
/-- Address of PAR_CNT_REBUILT (LO half of a 64-bit counter) (R608). -/
abbrev Reg.parCntRebuilt : Nat := 0x281068
/-- Address of PAR_GRP_CTRL (R606). -/
abbrev Reg.parGrpCtrl (i : Nat) : Nat := 0x282000 + 0x80 * i
/-- Address of PAR_GRP_LOST (R607). -/
abbrev Reg.parGrpLost (i : Nat) : Nat := 0x282004 + 0x80 * i
/-- Address of PAR_GRP_UNITS (R607). -/
abbrev Reg.parGrpUnits (i : Nat) : Nat := 0x282008 + 0x80 * i
/-- Address of PAR_GRP_MAP_COUNT (R607). -/
abbrev Reg.parGrpMapCount (i : Nat) : Nat := 0x28200C + 0x80 * i
/-- Address of PAR_GRP_MAP_LO (R607). -/
abbrev Reg.parGrpMapLo (i : Nat) : Nat := 0x282010 + 0x80 * i
/-- Address of PAR_GRP_MAP_HI (R607). -/
abbrev Reg.parGrpMapHi (i : Nat) : Nat := 0x282014 + 0x80 * i
/-- Address of PAR_GRP_TAG_LO (R607). -/
abbrev Reg.parGrpTagLo (i : Nat) : Nat := 0x282018 + 0x80 * i
/-- Address of PAR_GRP_TAG_HI (R607). -/
abbrev Reg.parGrpTagHi (i : Nat) : Nat := 0x28201C + 0x80 * i
/-- Address of PAR_GRP_STEP (R607). -/
abbrev Reg.parGrpStep (i : Nat) : Nat := 0x282020 + 0x80 * i
/-- Address of PAR_GRP_PENDING (R607). -/
abbrev Reg.parGrpPending (i : Nat) : Nat := 0x282024 + 0x80 * i
/-- Address of PAR_GRP_DEV (R607). -/
abbrev Reg.parGrpDev (i j : Nat) : Nat := 0x282040 + 0x80 * i + 0x4 * j
/-- Address of HARV_ADVISE (R609). -/
abbrev Reg.harvAdvise : Nat := 0x284000
/-- Address of HARV_GROUP_ADVISE (R609). -/
abbrev Reg.harvGroupAdvise : Nat := 0x284004
/-- Address of HARV_COST_MS (R609). -/
abbrev Reg.harvCostMs : Nat := 0x284008
/-- Address of HARV_MTBF_S (R609). -/
abbrev Reg.harvMtbfS : Nat := 0x28400C
/-- Address of HARV_STEP_US (R609). -/
abbrev Reg.harvStepUs : Nat := 0x284010
/-- Address of HARV_LOCAL (R609). -/
abbrev Reg.harvLocal : Nat := 0x284014
/-- Address of HARV_LAST (R609). -/
abbrev Reg.harvLast : Nat := 0x284018
/-- Address of HARV_FAIL_OFF_LO (R609). -/
abbrev Reg.harvFailOffLo : Nat := 0x28401C
/-- Address of HARV_FAIL_OFF_HI (R609). -/
abbrev Reg.harvFailOffHi : Nat := 0x284020
/-- Address of HARV_CNT_HARVESTS (LO half of a 64-bit counter) (R609). -/
abbrev Reg.harvCntHarvests : Nat := 0x284040
/-- Address of HARV_CNT_RESTORES (LO half of a 64-bit counter) (R609). -/
abbrev Reg.harvCntRestores : Nat := 0x284048
/-- Address of HARV_CNT_BYTES (LO half of a 64-bit counter) (R609). -/
abbrev Reg.harvCntBytes : Nat := 0x284050
/-- Address of HARV_CNT_CHUNK_FAIL (LO half of a 64-bit counter) (R609). -/
abbrev Reg.harvCntChunkFail : Nat := 0x284058
/-- Address of FAB_PORT_STATUS (R478). -/
abbrev Reg.fabPortStatus (i : Nat) : Nat := 0x300000 + 0x1000 * i
/-- Address of FAB_PORT_MAC_LO (R479). -/
abbrev Reg.fabPortMacLo (i : Nat) : Nat := 0x300008 + 0x1000 * i
/-- Address of FAB_PORT_MAC_HI (R479). -/
abbrev Reg.fabPortMacHi (i : Nat) : Nat := 0x30000C + 0x1000 * i
/-- Address of FAB_PORT_CNT_TX_FRAMES (LO half of a 64-bit counter) (R479). -/
abbrev Reg.fabPortCntTxFrames (i : Nat) : Nat := 0x300040 + 0x1000 * i
/-- Address of FAB_PORT_CNT_RX_FRAMES (LO half of a 64-bit counter) (R479). -/
abbrev Reg.fabPortCntRxFrames (i : Nat) : Nat := 0x300048 + 0x1000 * i
/-- Address of FAB_PORT_CNT_TX_BYTES (LO half of a 64-bit counter) (R479). -/
abbrev Reg.fabPortCntTxBytes (i : Nat) : Nat := 0x300050 + 0x1000 * i
/-- Address of FAB_PORT_CNT_RX_BYTES (LO half of a 64-bit counter) (R479). -/
abbrev Reg.fabPortCntRxBytes (i : Nat) : Nat := 0x300058 + 0x1000 * i
/-- Address of FAB_PORT_CNT_FEC_CORR (LO half of a 64-bit counter) (R479). -/
abbrev Reg.fabPortCntFecCorr (i : Nat) : Nat := 0x300060 + 0x1000 * i
/-- Address of FAB_PORT_CNT_FEC_UNCORR (LO half of a 64-bit counter) (R479). -/
abbrev Reg.fabPortCntFecUncorr (i : Nat) : Nat := 0x300068 + 0x1000 * i
/-- Address of FAB_PORT_CNT_RX_DISCARD (LO half of a 64-bit counter) (R479). -/
abbrev Reg.fabPortCntRxDiscard (i : Nat) : Nat := 0x300070 + 0x1000 * i
/-- Address of FAB_PORT_CNT_CE_RX (LO half of a 64-bit counter) (R479). -/
abbrev Reg.fabPortCntCeRx (i : Nat) : Nat := 0x300078 + 0x1000 * i
/-- Address of FAB_CTRL (R480). -/
abbrev Reg.fabCtrl : Nat := 0x308000
/-- Address of FAB_STATUS (R480). -/
abbrev Reg.fabStatus : Nat := 0x308004
/-- Address of FAB_INCARNATION (R480). -/
abbrev Reg.fabIncarnation : Nat := 0x308008
/-- Address of FAB_SKEW_LAST (R480). -/
abbrev Reg.fabSkewLast : Nat := 0x30800C
/-- Address of FAB_PEER_QUERY (R480). -/
abbrev Reg.fabPeerQuery : Nat := 0x308010
/-- Address of FAB_PEER_STATE (R480). -/
abbrev Reg.fabPeerState : Nat := 0x308014
/-- Address of FAB_BREACH_SEND (R480). -/
abbrev Reg.fabBreachSend : Nat := 0x308020
/-- Address of FAB_CNT_RETRANSMIT (LO half of a 64-bit counter) (R480). -/
abbrev Reg.fabCntRetransmit : Nat := 0x308040
/-- Address of FAB_CNT_RTO (LO half of a 64-bit counter) (R480). -/
abbrev Reg.fabCntRto : Nat := 0x308048
/-- Address of FAB_CNT_NAK_TX (LO half of a 64-bit counter) (R480). -/
abbrev Reg.fabCntNakTx : Nat := 0x308050
/-- Address of FAB_CNT_NAK_RX (LO half of a 64-bit counter) (R480). -/
abbrev Reg.fabCntNakRx : Nat := 0x308058
/-- Address of FAB_CNT_SKEW (LO half of a 64-bit counter) (R480). -/
abbrev Reg.fabCntSkew : Nat := 0x308060
/-- Address of FAB_CNT_DISCARD (LO half of a 64-bit counter) (R480). -/
abbrev Reg.fabCntDiscard : Nat := 0x308068
/-- Address of FAB_CNT_BREACH_TX (LO half of a 64-bit counter) (R480). -/
abbrev Reg.fabCntBreachTx : Nat := 0x308070
/-- Address of FAB_CNT_BREACH_RX (LO half of a 64-bit counter) (R480). -/
abbrev Reg.fabCntBreachRx : Nat := 0x308078
/-- Address of FAB_EP_CTRL (R481). -/
abbrev Reg.fabEpCtrl (i : Nat) : Nat := 0x310000 + 0x10 * i
/-- Address of FAB_EP_BASE_LO (R481). -/
abbrev Reg.fabEpBaseLo (i : Nat) : Nat := 0x310004 + 0x10 * i
/-- Address of FAB_EP_BASE_HI (R481). -/
abbrev Reg.fabEpBaseHi (i : Nat) : Nat := 0x310008 + 0x10 * i
/-- Address of FAB_EP_LENGTH (R481). -/
abbrev Reg.fabEpLength (i : Nat) : Nat := 0x31000C + 0x10 * i
/-- Address of FAB_QP_CTRL (R481). -/
abbrev Reg.fabQpCtrl (i : Nat) : Nat := 0x320000 + 0x20 * i
/-- Address of FAB_QP_REMOTE (R481). -/
abbrev Reg.fabQpRemote (i : Nat) : Nat := 0x320004 + 0x20 * i
/-- Address of FAB_QP_PSN (R481). -/
abbrev Reg.fabQpPsn (i : Nat) : Nat := 0x320008 + 0x20 * i
/-- Address of FAB_QP_GID (R481). -/
abbrev Reg.fabQpGid (i j : Nat) : Nat := 0x320010 + 0x20 * i + 0x4 * j
/-- Address of FAB_BREACH (R481). -/
abbrev Reg.fabBreach (i : Nat) : Nat := 0x330000 + 0x4 * i
/-- Address of CAS_STATUS (R482). -/
abbrev Reg.casStatus : Nat := 0x380000
/-- Address of CAS_GROUP (R483). -/
abbrev Reg.casGroup : Nat := 0x380004
/-- Address of CAS_RECKON_ROUND (R483). -/
abbrev Reg.casReckonRound : Nat := 0x380008
/-- Address of CAS_RECKON_MISMATCH (R483). -/
abbrev Reg.casReckonMismatch : Nat := 0x38000C
/-- Address of CAS_RECKON_MISSING (R483). -/
abbrev Reg.casReckonMissing : Nat := 0x380010
/-- Address of CAS_RECKON_CTRL (R483). -/
abbrev Reg.casReckonCtrl : Nat := 0x380014
/-- Address of CAS_GRANT_SRC (R483). -/
abbrev Reg.casGrantSrc (i : Nat) : Nat := 0x380020 + 0x4 * i
/-- Address of CAS_MEMBER_DIGEST (R483). -/
abbrev Reg.casMemberDigest (i j : Nat) : Nat := 0x380100 + 0x20 * i + 0x4 * j
/-- Address of RST_CTRL (R577). -/
abbrev Reg.rstCtrl : Nat := 0x400000
/-- Address of RST_STATUS (R578). -/
abbrev Reg.rstStatus : Nat := 0x400004
/-- Address of RST_LAST_UNIT (R579). -/
abbrev Reg.rstLastUnit : Nat := 0x400008
/-- Address of RST_LAST_TICK_LO (R579). -/
abbrev Reg.rstLastTickLo : Nat := 0x40000C
/-- Address of RST_LAST_TICK_HI (R579). -/
abbrev Reg.rstLastTickHi : Nat := 0x400010
/-- Address of RST_CNT (R579). -/
abbrev Reg.rstCnt (i : Nat) : Nat := 0x400020 + 0x4 * i
/-- Address of RST_DOSSIER (R579). -/
abbrev Reg.rstDossier : Nat := 0x400040
/-- Address of RST_DOSSIER_SEQ (R579). -/
abbrev Reg.rstDossierSeq : Nat := 0x400044
/-- Address of RST_DOSSIER_HOLD (R579). -/
abbrev Reg.rstDossierHold : Nat := 0x400048
/-- Address of VIG_REPLAY_MS (R580). -/
abbrev Reg.vigReplayMs : Nat := 0x401000
/-- Address of VIG_STATUS (R580). -/
abbrev Reg.vigStatus : Nat := 0x401004
/-- Address of VIG_GUILTY (R580). -/
abbrev Reg.vigGuilty : Nat := 0x401008
/-- Address of VIG_CNT_EXPIRED (R580). -/
abbrev Reg.vigCntExpired : Nat := 0x401010
/-- Address of VIG_CNT_REPLAYS (R580). -/
abbrev Reg.vigCntReplays : Nat := 0x401014
/-- Address of VIG_CNT_GUILTY (R580). -/
abbrev Reg.vigCntGuilty : Nat := 0x401018
/-- Address of VIG_CNT_CLEAN (R580). -/
abbrev Reg.vigCntClean : Nat := 0x40101C
/-- Address of DIKE_POLDER (R581). -/
abbrev Reg.dikePolder : Nat := 0x402000
/-- Address of DIKE_SLUICE_US (R581). -/
abbrev Reg.dikeSluiceUs : Nat := 0x402004
/-- Address of DIKE_ENGINE (R581). -/
abbrev Reg.dikeEngine (i : Nat) : Nat := 0x402010 + 0x4 * i
/-- Address of DIKE_CNT_FENCED (LO half of a 64-bit counter) (R581). -/
abbrev Reg.dikeCntFenced : Nat := 0x402040
/-- Address of DIKE_CNT_SLUICE (LO half of a 64-bit counter) (R581). -/
abbrev Reg.dikeCntSluice : Nat := 0x402048
/-- Address of DIKE_CNT_DISCARD (LO half of a 64-bit counter) (R581). -/
abbrev Reg.dikeCntDiscard : Nat := 0x402050
/-- Address of CORE_STATUS (R288). -/
abbrev Reg.coreStatus (i : Nat) : Nat := 0x480000 + 0x100 * i
/-- Address of CORE_SRAM_ERR (R289). -/
abbrev Reg.coreSramErr (i : Nat) : Nat := 0x480008 + 0x100 * i
/-- Address of CORE_SELFTEST (R640). -/
abbrev Reg.coreSelftest (i : Nat) : Nat := 0x480010 + 0x100 * i
/-- Address of ARR_STATUS (R219). -/
abbrev Reg.arrStatus (i : Nat) : Nat := 0x480040 + 0x100 * i
/-- Address of ARR_HEALTH (R220). -/
abbrev Reg.arrHealth (i : Nat) : Nat := 0x480044 + 0x100 * i
/-- Address of ARR_FUSE (R221). -/
abbrev Reg.arrFuse (i : Nat) : Nat := 0x480048 + 0x100 * i
/-- Address of ARR_ABFT (R222). -/
abbrev Reg.arrAbft (i : Nat) : Nat := 0x48004C + 0x100 * i
/-- Address of ARR_CTRL (R222). -/
abbrev Reg.arrCtrl (i : Nat) : Nat := 0x480050 + 0x100 * i
/-- Address of ARR_MISMATCH_TICK_LO (R222). -/
abbrev Reg.arrMismatchTickLo (i : Nat) : Nat := 0x480058 + 0x100 * i
/-- Address of ARR_MISMATCH_TICK_HI (R222). -/
abbrev Reg.arrMismatchTickHi (i : Nat) : Nat := 0x48005C + 0x100 * i
/-- Address of ARR_CNT_BUSY (LO half of a 64-bit counter) (R223). -/
abbrev Reg.arrCntBusy (i : Nat) : Nat := 0x480060 + 0x100 * i
/-- Address of ARR_CNT_FRZ_OPERAND (LO half of a 64-bit counter) (R223). -/
abbrev Reg.arrCntFrzOperand (i : Nat) : Nat := 0x480068 + 0x100 * i
/-- Address of ARR_CNT_FRZ_WEIGHT (LO half of a 64-bit counter) (R223). -/
abbrev Reg.arrCntFrzWeight (i : Nat) : Nat := 0x480070 + 0x100 * i
/-- Address of ARR_CNT_FRZ_SCALE (LO half of a 64-bit counter) (R223). -/
abbrev Reg.arrCntFrzScale (i : Nat) : Nat := 0x480078 + 0x100 * i
/-- Address of ARR_CNT_FRZ_DRAIN (LO half of a 64-bit counter) (R223). -/
abbrev Reg.arrCntFrzDrain (i : Nat) : Nat := 0x480080 + 0x100 * i
/-- Address of ARR_CNT_FILLER (LO half of a 64-bit counter) (R223). -/
abbrev Reg.arrCntFiller (i : Nat) : Nat := 0x480088 + 0x100 * i
/-- Address of ARR_CNT_PASSES (LO half of a 64-bit counter) (R223). -/
abbrev Reg.arrCntPasses (i : Nat) : Nat := 0x480090 + 0x100 * i
/-- Address of ARR_CNT_RETRY_CYCLES (LO half of a 64-bit counter) (R223). -/
abbrev Reg.arrCntRetryCycles (i : Nat) : Nat := 0x480098 + 0x100 * i
/-- Address of PREC_CNT_SAT (LO half of a 64-bit counter) (R255). -/
abbrev Reg.precCntSat (i : Nat) : Nat := 0x4800A0 + 0x100 * i
/-- Address of PREC_CNT_NAN (LO half of a 64-bit counter) (R255). -/
abbrev Reg.precCntNan (i : Nat) : Nat := 0x4800A8 + 0x100 * i
/-- Address of PREC_SHADOW (R255). -/
abbrev Reg.precShadow (i : Nat) : Nat := 0x4800B0 + 0x100 * i
/-- Address of PREC_CTRL (R255). -/
abbrev Reg.precCtrl (i : Nat) : Nat := 0x4800B4 + 0x100 * i
/-- Address of CORE_CNT_VEC (LO half of a 64-bit counter) (R289). -/
abbrev Reg.coreCntVec (i : Nat) : Nat := 0x4800C0 + 0x100 * i
/-- Address of CORE_CNT_DMA (LO half of a 64-bit counter) (R289). -/
abbrev Reg.coreCntDma (i : Nat) : Nat := 0x4800C8 + 0x100 * i
/-- Address of CORE_CNT_WAIT (LO half of a 64-bit counter) (R289). -/
abbrev Reg.coreCntWait (i : Nat) : Nat := 0x4800D0 + 0x100 * i
/-- Address of PREC_SEED (R256). -/
abbrev Reg.precSeed (i : Nat) : Nat := 0x490000 + 0x4 * i
/-- Address of PREC_DRIFT (R258). -/
abbrev Reg.precDrift (i : Nat) : Nat := 0x494000 + 0x10 * i
/-- Address of PREC_DRIFT_PEAK (R258). -/
abbrev Reg.precDriftPeak (i : Nat) : Nat := 0x494004 + 0x10 * i
/-- Address of PREC_DRIFT_STATUS (R257). -/
abbrev Reg.precDriftStatus (i : Nat) : Nat := 0x494008 + 0x10 * i
/-- Address of PREC_DRIFT_CTRL (R258). -/
abbrev Reg.precDriftCtrl (i : Nat) : Nat := 0x49400C + 0x10 * i
/-- Address of CORE_COUNTER (R290). -/
abbrev Reg.coreCounter (i j : Nat) : Nat := 0x4A0000 + 0x100 * i + 0x4 * j
/-- Address of CORE_CLUSTER_COUNTER (R290). -/
abbrev Reg.coreClusterCounter (i j : Nat) : Nat := 0x4C0000 + 0x1000 * i + 0x4 * j
/-- Address of CORE_HALF_CLOCK (R291). -/
abbrev Reg.coreHalfClock (i : Nat) : Nat := 0x4E0000 + 0x100 * i
/-- Address of CORE_SEAM_OCC (R291). -/
abbrev Reg.coreSeamOcc (i : Nat) : Nat := 0x4E0004 + 0x100 * i
/-- Address of CORE_SEAM_FLITS (LO half of a 64-bit counter) (R291). -/
abbrev Reg.coreSeamFlits (i : Nat) : Nat := 0x4E0008 + 0x100 * i
/-- Address of CORE_SEAM_STALL (LO half of a 64-bit counter) (R291). -/
abbrev Reg.coreSeamStall (i : Nat) : Nat := 0x4E0010 + 0x100 * i
/-- Address of CORE_CLUSTER_STATUS (R291). -/
abbrev Reg.coreClusterStatus (i : Nat) : Nat := 0x4E1000 + 0x40 * i
/-- Address of CORE_CLUSTER_SRAM_ERR (R291). -/
abbrev Reg.coreClusterSramErr (i : Nat) : Nat := 0x4E1004 + 0x40 * i
/-- Address of NVS_STATUS (R138). -/
abbrev Reg.nvsStatus : Nat := 0x500000
/-- Address of NVS_SEQ (R139). -/
abbrev Reg.nvsSeq : Nat := 0x500004
/-- Address of NVS_STORE_WAIT (R139). -/
abbrev Reg.nvsStoreWait : Nat := 0x500008
/-- Address of NVS_STORE_COUNT (R139). -/
abbrev Reg.nvsStoreCount : Nat := 0x50000C
/-- Address of NVS_SETTINGS_DIGEST (R139). -/
abbrev Reg.nvsSettingsDigest (i : Nat) : Nat := 0x500020 + 0x4 * i
/-- Address of NVS_FW_DIGEST (R139). -/
abbrev Reg.nvsFwDigest (i : Nat) : Nat := 0x500040 + 0x4 * i
/-- Address of NVS_CFG_DIGEST (R139). -/
abbrev Reg.nvsCfgDigest (i : Nat) : Nat := 0x500060 + 0x4 * i
/-- Address of NVS_CFG_TAG (R139). -/
abbrev Reg.nvsCfgTag : Nat := 0x500080
/-- Address of ALM_STATUS (R665). -/
abbrev Reg.almStatus : Nat := 0x600000
/-- Address of ALM_COUNT (LO half of a 64-bit counter) (R666). -/
abbrev Reg.almCount : Nat := 0x600008
/-- Address of ALM_LOST (R666). -/
abbrev Reg.almLost : Nat := 0x600010
/-- Address of ALM_TICK (LO half of a 64-bit counter) (R666). -/
abbrev Reg.almTick : Nat := 0x600018
/-- Address of ALM_CTRL (R666). -/
abbrev Reg.almCtrl : Nat := 0x600020
/-- Address of ALM_FROZEN_SEL (R666). -/
abbrev Reg.almFrozenSel : Nat := 0x600024
/-- Address of ALM_FROZEN_HOLD (R666). -/
abbrev Reg.almFrozenHold : Nat := 0x600028
/-- Address of ALM_FROZEN_LOST (R666). -/
abbrev Reg.almFrozenLost : Nat := 0x60002C
/-- Address of ALM_EVENT_SEV (R666). -/
abbrev Reg.almEventSev : Nat := 0x600030
/-- Address of ALM_RING (R666). -/
abbrev Reg.almRing (i : Nat) : Nat := 0x610000 + 0x4 * i
/-- Address of ALM_FROZEN_HDR (R666). -/
abbrev Reg.almFrozenHdr (i : Nat) : Nat := 0x630000 + 0x4 * i
/-- Address of ALM_FROZEN_ENTRIES (R666). -/
abbrev Reg.almFrozenEntries (i : Nat) : Nat := 0x640000 + 0x4 * i
/-- Address of SEC_FW_CTRL (R639). -/
abbrev Reg.secFwCtrl : Nat := 0x800000
/-- Address of SEC_FW_STATUS (R639). -/
abbrev Reg.secFwStatus : Nat := 0x800004
/-- Address of SEC_FW_LENGTH (R639). -/
abbrev Reg.secFwLength : Nat := 0x800008
/-- Address of SEC_FW_SLOT_VERSION (R639). -/
abbrev Reg.secFwSlotVersion : Nat := 0x80000C
/-- Address of SEC_SVN (R639). -/
abbrev Reg.secSvn : Nat := 0x800010
/-- Address of SEC_OWNER_HASH (R639). -/
abbrev Reg.secOwnerHash (i : Nat) : Nat := 0x800020 + 0x4 * i
/-- Address of SEC_OWNER_CTRL (R639). -/
abbrev Reg.secOwnerCtrl : Nat := 0x800040
/-- Address of SEC_OWNER_STATUS (R639). -/
abbrev Reg.secOwnerStatus : Nat := 0x800044
/-- Address of SEC_XFER_ADDR_LO (R639). -/
abbrev Reg.secXferAddrLo : Nat := 0x800048
/-- Address of SEC_XFER_ADDR_HI (R639). -/
abbrev Reg.secXferAddrHi : Nat := 0x80004C
/-- Address of SEC_NONCE (R639). -/
abbrev Reg.secNonce (i : Nat) : Nat := 0x800050 + 0x4 * i
/-- Address of SEC_IDE (R639). -/
abbrev Reg.secIde : Nat := 0x800060
/-- Address of SEC_FW_PORT (R639). -/
abbrev Reg.secFwPort (i : Nat) : Nat := 0x801000 + 0x4 * i

end Sys2Proof.Machine
end

