-- ==== Sys2Proof/Machine/StateCompute.lean ====
section
/-! DEFINITION. The parts of State behind the compute chapters: commands in flight, what each holds while it runs, the
arrays and their shadow lanes, the near-bank units, the KV page manager and the optimizer. -/
namespace Sys2Proof.Machine

/-- One output tile of a GEMM or CONV (R185): for each dimension code of R194 the start and length of its range. -/
abbrev Tile := List (Nat × Nat × Nat)

/-- A drained or running accumulator set (R189): its command and tile, whether it is a re-execution, the FP32
accumulators by row and column, and C[r], M[r] of the checksum column (R207). -/
structure AccSet where
  cmd : Nat
  tile : Tile
  retry : Bool
  acc : List (List Word)
  chkC : List Word
  chkM : List Word
  deriving DecidableEq, Repr

/-- A sampled tile in a core's shadow buffer (R243): its command, the polder, the context and slot of the command, and the error e,
or none where the tile yields no sample. -/
structure Shadow where
  cmd : Nat
  polder : Nat
  ctx : Nat
  slot : Nat
  err : Option Word
  deriving DecidableEq, Repr

/-- A row register or a feeder entry: element codes with the bit position of each in its tensor, one more than it; 0 marks a zero
that is fed in place of an element (R191, R194). -/
abbrev Codes := List (Nat × Nat)

/-- The registers and feeder buffers of an array (R184, R186, R187): the two row-register banks, each by row, and which of them is
in use; the weights that entered last, by column; the entries of the weight feeder and of the scale feeder, at most 8 each, which a
pass uses up. -/
structure ArrayRegs where
  bankA : List Codes
  bankB : List Codes
  inB : Bool
  weights : List Codes
  weightFeed : List (List Codes)
  scaleFeed : List (List Word × List Word)
  deriving DecidableEq, Repr

/-- What the sequencer has brought into the local store for a piece of a command's OUTER loops (R184, R195): the operands and the
weights, by the addresses they came from; a template names no addresses in the local store (R192). -/
structure Staged where
  cmd : Nat
  piece : Tile
  operands : Mem
  weights : Mem
  deriving DecidableEq, Repr

/-- What a core holds beside its registers: accumulator sets oldest first, the tiles to re-execute, oldest first (R210), the
registers of its array, the piece held in the local store, the passes started for each command in flight (R189, R191), the tick from
which the array has had no pass, none where that is long ago, with the tick up to which filler has been counted (R203, R205), eligible tiles counted (R242), the shadow buffer, the generator of each command that drains
on the core (R239), the ticks of the last second's mismatches (R213), the command of the last pass, a self-test that runs on the
core (R633), and the tick from which at least one of its wait slots has been in use (R289). -/
structure CoreState where
  sets : List AccSet
  redo : List (Nat × Tile)
  regs : ArrayRegs
  staged : Option Staged
  passes : SMap Nat
  gapFrom : Option Nat
  filled : Nat
  eligible : Nat
  shadow : Option Shadow
  gens : SMap (Option Nat)
  mismatch : List Nat
  passCmd : Option Nat
  test : Option Nat
  waitFrom : Option Nat
  deriving DecidableEq, Repr

/-- The registers of an array after an engine reset (R217). -/
def ArrayRegs.clear : ArrayRegs := ⟨[], [], false, [], [], []⟩
/-- A core on which nothing has run since an engine reset. -/
def CoreState.clear : CoreState := ⟨[], [], ArrayRegs.clear, none, [], none, 0, 0, none, [], [], none, none, none⟩

/-- One vector register: 16 FP32 lanes (R337). -/
abbrev VReg := List Word

/-- A running NBU sequence (R337, R339): its command, registers, pointers, loop counters, program counter, the program, the
declared source and destination ranges of its column as physical offsets (R334), and the arguments. `deps` names for each
vector register the blocks its values were computed from, `stored` the same for each block stored to, `clashed` the blocks
of the declared ranges that a channel write has met (R351), `row` the row that the NBU last opened while the bank keeps it open
(R349, R353), `linked` says that the sequence stands inside a bundle and `served` how many channel blocks have been served since
its last bundle (R349), `ended` that its END has run, `bad` the blocks that it found uncorrectable and no longer writes (R354), `gen` the generator of a firmware program's stochastic
rounding, seeded at the start (R428). -/
structure NbuSeq where
  cmd : Nat
  col : Nat
  bank : Nat
  deps : List (List Nat)
  stored : SMap (List Nat)
  clashed : List Nat
  row : Option Nat
  linked : Bool
  served : Nat
  ended : Bool
  bad : List Nat
  gen : Nat
  vregs : List VReg
  ptrs : List Nat
  loops : List Nat
  pc : Nat
  prog : List DWord
  srcBase : Nat
  srcLen : Nat
  dstBase : Nat
  dstLen : Nat
  /-- further declared ranges of a firmware program (R431): base, length, and whether it is a destination -/
  extra : List (Nat × Nat × Bool)
  args : List Word
  deriving DecidableEq, Repr

/-- State of a KV page (R381). -/
inductive PageState where
  | free | live | draining
  deriving DecidableEq, Repr

/-- A KV page of a polder's pool: state, references and leases (R381). -/
structure Page where
  state : PageState
  refs : Nat
  leases : Nat
  deriving DecidableEq, Repr

/-- A registered sequence (R371, R372). -/
structure Seq where
  active : Bool
  tableAddr : Nat
  layers : Nat
  kvHeads : Nat
  headDim : Nat
  format : Nat
  maxTokens : Nat
  /-- the command of a KV_APPEND in flight on the sequence, by layer -/
  appending : List (Nat × Nat)
  deriving DecidableEq, Repr

/-- A page copy in progress (R383): polder, source page, destination page, the slots to keep, the writer's sequence, and the
command that asked for it. -/
structure PageCopy where
  polder : Nat
  old : Nat
  new : Nat
  count : Nat
  seq : Nat
  cmd : Nat
  deriving DecidableEq, Repr

/-- The page manager's state of one polder: the carved device pages of its data, header and index areas as internal
addresses (R365), the index entries entered since the index was emptied (an unlisted one is free, whatever stack memory holds at its
place: R96, R403), pages that are not FREE with no lease (an unlisted page is FREE), registered sequences, and the place
the eviction sweep has reached (R390). -/
structure KvPolder where
  data : List Nat
  header : List Nat
  index : List Nat
  entered : SMap Bool
  pages : SMap Page
  seqs : SMap (Option Seq)
  sweep : Nat
  used : Nat
  deriving DecidableEq, Repr

/-- Reserved page slots of a KV_APPEND (R379): for each token the page and slot of its key and value. -/
structure KvReserve where
  polder : Nat
  seq : Nat
  layer : Nat
  first : Nat
  count : Nat
  /-- (page, slot) of token `i` for each KV head -/
  slots : List (List (Nat × Nat))
  /-- the pages newly allocated for each head, which join its table at the commit -/
  fresh : List (List Nat)
  /-- first KV head, address of the token IDs, and address of the drain record -/
  head : Nat
  tokens : Nat
  addr : Nat
  /-- keys written in part, by 256 × row + KV head of the command: the components written, each with its value (R370) -/
  keys : SMap (List (Nat × Num))
  deriving DecidableEq, Repr

/-- The progress of a command, by what runs it. -/
inductive Work where
  | none
  /-- GEMM and CONV: tiles still to run by core, the running tensor maximum (R241), reserved page slots, and the PREC_SEED with
  which the command started (R239) -/
  | array (todo : List (Nat × List Tile)) (tensorMax : Word) (kv : Option KvReserve) (seed : Nat)
  /-- an ABORT and the commands it waits for (R173) -/
  | abort (targets : List Nat)
  /-- an NBU command and the (column, bank) sequences that still run (R339) -/
  | nbu (left : List (Nat × Nat))
  /-- attention: HEAD_DIM, pages leased (R384), for each query position the (page, slot) it attends, and, on the NBU path, the
  (column, bank) partials still to come -/
  | attn (dim : Nat) (leases : List Nat) (plan : List (List (Nat × Nat))) (left : List (Nat × Nat))
  /-- a collective instance (R463): its step, the working data, and the frames received and not yet taken, as step, offset and
  bytes. A broadcast counts the bytes written in place of a step -/
  | coll (step : Nat) (data : List Byte) (early : List (Nat × Nat × List Byte))
  /-- a fabric transfer: its read requests as (request, offset of the data, bytes still to come), a request being named by
  `2^32 × device + PSN`; its frames name it as owner -/
  | fabric (want : List (Nat × Nat × Nat))
  /-- OPT_STEP: (column, bank) parts still to run, the tensor descriptor read at the start (R418), whether it runs on NBUs, and
  the exclusive-or of old and new contents so far by position in the shard (R588) -/
  | opt (left : List (Nat × Nat)) (td : List Byte) (onNbus : Bool) (delta : Mem)
  /-- units to rebuild (R592, R599): those left, the helper units that have arrived as (unit, shard, tag, bytes), the helpers found
  bad as (unit, shard), the tags of the units rebuilt, the units that could not be, and the failed chunks of a RESTORE -/
  | rebuild (left : List Nat) (have' : List (Nat × Nat × Nat × List Byte)) (bad : List (Nat × Nat)) (tags : SMap Nat)
      (failed chunks : List Nat)
  /-- a HARVEST to the fabric (R597): the chunks written, until the header may follow -/
  | harvest (nodes : Option (List Byte))
  /-- a RESTORE from the fabric (R598): the bytes that have come, data from 0 and the record from 2^41, and the requests as in
  `fabric` -/
  | restore (buf : Mem) (want : List (Nat × Nat × Nat))
  /-- a self-test that has started -/
  | test
  /-- a wait for a counter (R272) -/
  | wait
  deriving DecidableEq, Repr

/-- Where a command in flight stands: waiting in the tracker, running on its units, asked to stop with the status it
will then carry and the tick of the request (R554), held for replay (R562), or ended with its status, waiting for its
commit. -/
inductive CmdPhase where
  | waiting
  | running
  | stopping (status : Nat) (since : Nat)
  | held
  | done (status : Nat)
  deriving DecidableEq, Repr

/-- A command in flight (R160, R171): fetch order, context, ring slot, descriptor, fetch tick, the tick its vigil counts
from and the vigil in ms (R550), rounding default at its fetch (R238), phase, warnings, whether a write of it reached
memory, the failing address (R162) and whether stack memory failed there (R647), whether QUIESCE ended it (R115), whether
it is being replayed, and its progress. -/
structure Cmd where
  id : Nat
  ctx : Nat
  slot : Nat
  desc : Desc
  fetched : Nat
  vigilFrom : Nat
  vigilMs : Nat
  roundDefault : Nat
  phase : CmdPhase
  warn : Nat
  wrote : Bool
  errAddr : Option Nat
  errMem : Bool
  quiesced : Bool
  replayed : Bool
  work : Work
  deriving DecidableEq, Repr

end Sys2Proof.Machine
end

