-- ==== Sys2Proof/Machine/StateCore.lean ====
section
/-! DEFINITION. The parts of State that the chapters on images, settings, contexts, memory, resets, bring-up and the
almanac give the module. Registers themselves live in one sparse map (`State.regs`); what stands here is the state the
manual describes outside its register tables. -/
namespace Sys2Proof.Machine

/-- Host memory as the module meets it: its bytes by 44-bit IOVA, and the ranges that the IOMMU does not map or that
answer with an error or a poisoned completion at the present command (R687, R152). -/
structure HostSide where
  mem : Mem
  unmapped : List (Nat × Nat)
  poisoned : List (Nat × Nat)
  deriving DecidableEq, Repr

/-- The fuses (R3, R611 step 2, R619, R620, R624, R638). -/
structure Fuses where
  /-- 9, 8 or 7 (R3) -/
  variant : Nat
  stepping : Nat
  serial : Nat
  /-- the four firmware key hashes of the ROM fuses -/
  fwKeys : List Digest
  /-- bit `k`: the revocation fuse of key `k` is burned -/
  fwRevoked : Nat
  svnFloor : Nat
  ownerLocked : Bool
  /-- ARR_FUSE of a core: the array spares in use (R206) -/
  arrFuse : SMap Word
  /-- FACTORY ceilings by core, in 5 MHz units (R497); an unlisted core has the variant's clock maximum -/
  factory : SMap Nat
  /-- layer θ by layer, in 1/16 K per W (R526) -/
  theta : SMap Nat
  deriving DecidableEq, Repr

/-- A frozen almanac record (R651): its header bytes as one little-endian number and its entries, oldest first. -/
structure FrozenRec where
  hdr : BitVec 2048
  entries : List Entry
  deriving DecidableEq, Repr

/-- What the NVM holds (R23, R124, R128, R129, R318, R451, R541, R617, R651). -/
structure Nvm where
  /-- the bytes of the firmware slot from its start; beyond them the slot reads 0 -/
  fwSlot : List Byte
  /-- settings slots 0 and 1 (R124); beyond the listed bytes a slot reads 0 -/
  slot0 : List Byte
  slot1 : List Byte
  storeCount : Nat
  ownerHash : Digest
  retire : List Word
  /-- MEM_REMAP entries by `8 × column + j`, and REMAP_FULL by column -/
  remap : SMap Word
  remapFull : SMap Bool
  /-- CEILING and ABFT_CAP by core, in 5 MHz units (R497); 0 stands for the core's FACTORY value -/
  ceilings : SMap Nat
  abftCaps : SMap Nat
  /-- hours above 5% by core (R498) -/
  ceilHours : SMap Nat
  phaseLife : SMap Nat
  wear : SMap Nat
  wearCycles : SMap Nat
  fabIncarnation : Nat
  macs : SMap Nat
  flowStops : Nat
  trips : Nat
  powerOns : Nat
  frozen : SMap (Option FrozenRec)
  frozenHold : Nat
  frozenSeq : Nat
  frozenLast : Option Nat
  frozenLost : Nat
  deriving DecidableEq, Repr

/-- A freeze in progress (R650). -/
structure Freeze where
  /-- the record chosen; none when every record was held (R652) -/
  record : Option Nat
  seq : Nat
  tick : Nat
  trigger : Nat
  /-- 0 fatal event, 1 ALM_CTRL, 2 MCTP -/
  origin : Nat
  count : Nat
  entries : List Entry
  late : Entry
  deriving DecidableEq, Repr

/-- The almanac (R641, R645, R650). -/
structure Alm where
  ring : SMap Entry
  count : Nat
  queue : List Entry
  lostBefore : Bool
  freeze : Option Freeze
  deriving DecidableEq, Repr

/-- The settings copies of the running firmware (R119–R121): shadow copy, in-force values and the durable copy read at
boot or stored since, each by key; an unlisted key has its default. -/
structure Settings where
  shadow : SMap Nat
  inforce : SMap Nat
  durable : SMap Nat
  seq : Nat
  /-- entries of the durable record whose keys the firmware does not know, kept by STORE (R128) -/
  unknown : List (Nat × Nat)
  /-- which slot holds the durable record -/
  slot : Nat
  lastStore : Option Nat
  deriving DecidableEq, Repr

/-- A mailbox request: where it came from (`none` BAR0, `some (binding, instance)` MCTP), opcode and arguments (R134). -/
structure MbxReq where
  src : Option (Nat × Nat)
  op : Nat
  a0 : Nat
  a1 : Nat
  a2 : Nat
  deriving DecidableEq, Repr

/-- The mailbox: the STORE that runs with its snapshot, and the commands queued behind it (R125, R134, R688). -/
structure Mailbox where
  running : Option (MbxReq × SMap Nat)
  queue : List MbxReq
  deriving DecidableEq, Repr

/-- POLDERS record (R61). -/
structure PolderRec where
  num : Nat
  seamFree : Bool
  clusters : Nat
  coreMask : Nat
  deriving DecidableEq, Repr

/-- COUNTERS record (R65) with the offset its range was placed at (R66). -/
structure CounterRec where
  cluster : Nat
  /-- 0–31 a polder's counters, 255 device counters -/
  scope : Nat
  first : Nat
  count : Nat
  offset : Nat
  deriving DecidableEq, Repr

/-- MCAST record (R67). -/
structure TreeRec where
  num : Nat
  owner : Nat
  source : Nat
  bdRoot : Bool
  dest : Nat
  deriving DecidableEq, Repr

/-- GRANTS record (R69). -/
structure GrantRec where
  polder : Nat
  access : Nat
  mode : Nat
  offset : Nat
  length : Nat
  columns : Nat
  deriving DecidableEq, Repr

/-- FORMATS record (R72). -/
structure FormatRec where
  polder : Nat
  shadowLog2 : Nat
  mask : Nat
  driftLimit : Nat
  deriving DecidableEq, Repr

/-- A template or microprogram entry (R75): number and body. -/
structure BodyRec where
  num : Nat
  body : List Byte
  deriving DecidableEq, Repr

/-- RULES record (R77), with a preset's fields filled in (R78). -/
structure RuleRec where
  slot : Nat
  preset : Nat
  func : Nat
  biasCorr : Bool
  a1 : Nat
  a2 : Nat
  b1 : Nat
  b2 : Nat
  lambda : Nat
  clip : Nat
  deriving DecidableEq, Repr

/-- ATTN record (R79). -/
structure AttnRec where
  polder : Nat
  prefixLog2 : Nat
  selKMax : Nat
  maxReg : Nat
  maxActive : Nat
  poolPages : Nat
  maxHeadDim : Nat
  deriving DecidableEq, Repr

/-- LOCAL record (R81). -/
structure LocalRec where
  device : Nat
  udpPort : Nat
  ports : Nat
  addrs : List Nat
  deriving DecidableEq, Repr

/-- PEERS record (R82). -/
structure PeerRec where
  polder : Nat
  rights : Nat
  device : Nat
  portMask : Nat
  epFirst : Nat
  epCount : Nat
  addr : Nat
  deriving DecidableEq, Repr

/-- CASCADE record (R84). -/
structure CascadeRec where
  groupId : Nat
  members : Nat
  master : Nat
  roles : Nat
  reckonMs : Nat
  devices : List Nat
  deriving DecidableEq, Repr

/-- POWER record (R87). -/
structure PowerRec where
  polder : Nat
  share : Nat
  deriving DecidableEq, Repr

/-- The tables of the image in force (R56), its digest, serial, group flag and member (R60, R85, R86). -/
structure Image where
  polders : List PolderRec
  counters : List CounterRec
  trees : List TreeRec
  grants : List GrantRec
  formats : List FormatRec
  templates : List BodyRec
  nbuCode : List BodyRec
  rules : List RuleRec
  attn : List AttnRec
  locals : List LocalRec
  peers : List PeerRec
  cascade : List CascadeRec
  power : List PowerRec
  group : Bool
  member : Nat
  digest : Digest
  serial : Nat
  deriving DecidableEq, Repr

/-- Where a load stands (R92, R101). -/
inductive LoadStage where
  | idle | copying | validating | committing
  deriving DecidableEq, Repr

/-- The loader: stage, source and length taken at GO with the source's bytes as they stood then (R98; an unlisted byte is 0), port
position, the overflow mark of R100, and the tables that validation passed on to the commit. -/
structure Loader where
  stage : LoadStage
  srcAddr : Nat
  length : Nat
  snap : Mem
  portPos : Nat
  portOver : Bool
  next : Option Image
  /-- PARTIAL_POLDERS of the image to commit; 0 for a full image -/
  partialMask : Nat
  /-- resets held until the commit completes: level and unit with their trigger (R102) -/
  heldResets : List (Nat × Nat × Nat)
  deriving DecidableEq, Repr

/-- Run state of a polder (R107); a STOPPING polder keeps its deadline tick, its mode, SCRUB, and the commands ended at
step 3 of R111. -/
inductive RunState where
  | running
  | stopping (deadline : Nat) (abort scrub : Bool) (ended : Nat)
  | stopped
  deriving DecidableEq, Repr

/-- What a context holds beside its registers: slots marked before their fetch (R174), records written since the last
message and the tick of the first of them (R163), the guilty mark (R571), and a context reset in progress with its trigger
(R563, R566). A marked slot carries the status its descriptor will complete with. -/
structure CtxAux where
  marked : List (Nat × Nat)
  unsignalled : Nat
  firstUnsig : Option Nat
  guilty : Bool
  resetting : Option Nat
  deriving DecidableEq, Repr

/-- The weighted round-robin of fetching or of one engine queue (R146): the slots left in this round to classes 0 to 3, and for each
class the context from which the next is looked for, one above the last served. -/
structure Arb where
  credits : List Nat
  next : List Nat
  deriving DecidableEq, Repr

/-- A round of R146 that begins: 8, 4, 2 and 1 slots for classes 3, 2, 1 and 0. -/
def Arb.start : Arb := ⟨[1, 2, 4, 8], [0, 0, 0, 0]⟩

/-- The error state of one block: the pattern now over what was written, and the pattern that returns on a write. -/
structure BlockErr where
  now : Pattern
  hard : Pattern
  deriving DecidableEq, Repr

/-- The memories (R46): stack DRAM by `2^30 × column + cell` (the cell
of an offset: `State.cellOf`), cluster shared memory by `2^25 × cluster +
offset`, local stores by `2^22 × core + offset`; the words of
both that hold an error, by an eighth of these (1 one bit, 2 two bits, R260); the block errors by block; the retired units in force (R320); owed
refreshes by `32 × column + bank` (R353); calibration tick and temperature by column (R634). -/
structure Memories where
  dram : Mem
  shared : Mem
  locals : Mem
  sharedErr : SMap Nat
  localErr : SMap Nat
  errs : SMap BlockErr
  retired : List Word
  owed : SMap Nat
  calTick : SMap Nat
  calTemp : SMap Nat
  calPending : SMap Nat
  scrubPos : SMap Nat
  pendingRetire : Option Word
  deriving DecidableEq, Repr

/-- A reset in progress (R561): level 2–5, unit, trigger (R566), triggering context and slot, the dossier snapshotted at
step 2, whether the sluice has closed and when, and the contexts named as suspects (R568). -/
structure ResetJob where
  level : Nat
  unit : Nat
  trigger : Nat
  ctx : Option Nat
  slot : Nat
  dossier : List Byte
  begun : Nat
  closed : Option Nat
  suspects : List Nat
  expired : Option Nat
  deriving DecidableEq, Repr

/-- A suspect replay (R569): the core, the suspects still to come, the one being replayed and its start tick, and how
many there were. -/
structure Replay where
  core : Nat
  todo : List Nat
  current : Option Nat
  started : Nat
  total : Nat
  deriving DecidableEq, Repr

/-- One stay of a context's command on a core's engines (R568); `till` is none while it lasts. -/
structure Span where
  core : Nat
  ctx : Nat
  cmd : Nat
  start : Nat
  till : Option Nat
  deriving DecidableEq, Repr

/-- Resets, replay and the power-cycle request. -/
structure Resets where
  jobs : List ResetJob
  /-- requests queued behind a running reset at their level (R575): level, unit, trigger -/
  queued : List (Nat × Nat × Nat)
  replay : Option Replay
  /-- replays that wait for the one under way: core and suspects -/
  replayQ : List (Nat × List Nat)
  spans : List Span
  /-- code and tick of the event behind a power-cycle request in force (R573, R660) -/
  powerReq : Option (Nat × Nat)
  lastPowerReq : Nat
  deriving DecidableEq, Repr

/-- Who opened a firmware update (R623). -/
inductive FwPath where
  | bar0 | pldm
  deriving DecidableEq, Repr

/-- What the firmware-update unit is doing (R622). -/
inductive FwBusy where
  | idle | verifying | committing
  deriving DecidableEq, Repr

/-- PLDM update state (R662): 0 idle, 1 learning components, 2 ready to transfer, 3 downloading, 4 verifying, 5 applying,
6 activating, 7 ready to transfer after an apply; offset of the next block, component length, and the update agent's binding. -/
structure PldmUpdate where
  state : Nat
  offset : Nat
  length : Nat
  binding : Nat
  deriving DecidableEq, Repr

/-- The owner change being made durable (R624): action 1 enrol, 2 transfer, 3 lock, and the new hash. -/
structure OwnerJob where
  action : Nat
  hash : Digest
  deriving DecidableEq, Repr

/-- An SPDM secure session (R627): id, transport binding, whether FINISH has been received, and key generation. -/
structure Session where
  id : Nat
  binding : Nat
  finished : Bool
  keyGen : Nat
  deriving DecidableEq, Repr

/-- Firmware staging, ownership, SPDM and IDE (R617–R630). -/
structure Sec where
  staging : List Byte
  path : Option FwPath
  stagedOver : Bool
  verifiedLen : Option Nat
  busy : FwBusy
  recoverReq : Bool
  pldm : PldmUpdate
  owner : Option OwnerJob
  /-- firmware digest, version and SVN of the running firmware -/
  fwDigest : Digest
  /-- negotiated SPDM stage: 0 none, 1 version, 2 capabilities, 3 algorithms -/
  spdmStage : Nat
  sessions : List Session
  nextSession : Nat
  /-- how many nonces have been drawn (R625) -/
  nonceNo : Nat
  /-- bit 0 the link stream, bits 1–4 the selective streams: active, insecure -/
  ideActive : Nat
  ideInsecure : Nat
  deriving DecidableEq, Repr

/-- MCTP and PLDM endpoint state (R654–R662): EIDs of the I3C and PCIe VDM bindings (0 none), who assigned them, the
I3C dynamic address (0 none), the event receiver (binding and EID) and the terminus id. -/
structure Mctp where
  eidI3c : Nat
  eidPcie : Nat
  assignerI3c : Nat
  i3cAddr : Nat
  receiver : Option (Nat × Nat)
  tid : Nat
  deriving DecidableEq, Repr

/-- PCIe side: link up, VF Enable with its number, functions in D3hot, and what is held for them (R631): completion
records as (context, address, bytes) and messages as (function, vector); AER errors logged, newest first. -/
structure Pcie where
  linkUp : Bool
  vfs : Nat
  d3 : List Nat
  heldRecords : List (Nat × Nat × List Byte)
  heldMsix : List (Nat × Nat)
  aer : List Nat
  /-- bring-up waits before step 4 of R611 for the release of PERST_N; true in a power-on -/
  bring : Option Bool
  deriving DecidableEq, Repr

/-- An alert condition, which holds ALERT_N low (R672). -/
inductive Alert where
  | feed (n : Nat)
  | flow (percent : Nat)
  | inlet (level : Nat) (high : Bool)
  | suspect (layer : Nat)
  | flowStop
  | trip
  | powerRequest
  deriving DecidableEq, Repr

/-- The pins (R670–R673): PERST_N asserted, MEMBER_ID straps, the alert conditions that hold, and the latched outputs. -/
structure Pins where
  perst : Bool
  straps : Nat
  alerts : List Alert
  thermtrip : Bool
  fault : Bool
  deriving DecidableEq, Repr

end Sys2Proof.Machine
end

