-- ==== Sys2Proof/Machine/StateFabric.lean ====
section
/-! DEFINITION. The parts of State behind the fabric, cascade groups, shard parity and harvests. -/
namespace Sys2Proof.Machine

/-- A sequenced frame sent and not yet acknowledged (R448, R450): PSN, TYPE, FLAGS, MSG, TYPE_AREA, payload, the command
that owns it and that command's context, the tick it was last sent (none while it waits for the window of R448 or for a path), whether it waits for a
BUSY retry (R453), whether a fast retransmission of it has been made, and the path of its last sending. -/
structure TxFrame where
  psn : Nat
  typ : Nat
  flags : Nat
  msg : Nat
  area : List Byte
  payload : List Byte
  owner : Option Nat
  ctx : Option Nat
  sent : Option Nat
  busy : Bool
  fast : Bool
  path : Option (Nat × Nat)
  deriving DecidableEq, Repr

/-- A flow to a peer device (R444, R448–R451). -/
structure Flow where
  gen : Nat
  next : Nat
  unacked : List TxFrame
  expiries : Nat
  /-- present timeout in µs; 0 stands for the base value -/
  timeout : Nat
  down : Bool
  lastRto : Nat
  rr : Nat
  syn : Bool
  deriving DecidableEq, Repr

/-- The receiving side of a source device's flow (R449, R451, R459). -/
structure RxFlow where
  gen : Nat
  next : Nat
  beyond : List Nat
  unacked : Nat
  oldest : Option Nat
  ce : Nat
  /-- frames with ORDERED set that wait for earlier PSNs (R452): their PSN and bytes -/
  waiting : List (Nat × List Byte)
  skewNak : Option Nat
  /-- port and address of the last frame: acknowledgements go there -/
  port : Nat
  src : Nat
  deriving DecidableEq, Repr

/-- The rate of a path (R454): Mb/s, periods without a decrease, tick of the last decrease, and of the last for congestion. -/
structure PathRate where
  rate : Nat
  quiet : Nat
  lastDec : Option Nat
  lastCe : Option Nat
  deriving DecidableEq, Repr

/-- A lane retraining (R635): lane, the step being timed, and the lanes still to come. -/
structure Retrain where
  lane : Nat
  step : Nat
  todo : List Nat
  /-- the FAB_RETRAIN command that asked for it -/
  cmd : Option Nat
  deriving DecidableEq, Repr

/-- Fabric state beside the registers (R439–R471). Paths are listed by `2048 × device + 256 × port + entry`. -/
structure Fab where
  flows : SMap (Option Flow)
  rx : SMap (Option RxFlow)
  /-- READ_REQ frames answered and not yet accepted (R455): device, their PSN, and the PSN of their last READ_RSP in the flow back -/
  reads : List (Nat × Nat × Nat)
  rates : SMap PathRate
  /-- breaches seen, newest first: ORIGIN and SERIAL (R471) -/
  seen : List (Nat × Nat)
  breachSerial : Nat
  /-- resolved addresses: port, IP address, Ethernet address, tick -/
  arp : List (Nat × Nat × Nat × Nat)
  /-- last completed epoch by `65536 × polder + COLL_ID` (R465) -/
  epochs : SMap (Option Nat)
  lastCnp : SMap (Option Nat)
  /-- the RoCEv2 WRITE message in progress of a queue pair: R_Key, next virtual address, bytes still to come (R467) -/
  qps : SMap (Option (Nat × Nat × Nat))
  retrain : SMap (Option Retrain)
  retrainQ : List (Nat × Retrain)
  msg : Nat
  deriving DecidableEq, Repr

/-- Cascade group state (R473). -/
structure Casc where
  answered : List Nat
  mismatched : List Nat
  missedBefore : List Nat
  /-- tick at which the last round began, and whether it still waits for answers -/
  roundAt : Option Nat
  roundOpen : Bool
  lastReq : Option Nat
  deriving DecidableEq, Repr

/-- A parity delta sent and not yet accepted (R589): group, holder shard, unit, holder device, PSN. -/
structure PendDelta where
  group : Nat
  shard : Nat
  unit : Nat
  device : Nat
  psn : Nat
  /-- the OPT_STEP that waits for it; none after it has committed -/
  cmd : Option Nat
  deriving DecidableEq, Repr

/-- Shard parity and harvest advice (R582–R602). -/
structure Parity where
  /-- the extents (address, length) read when a group was enabled (R585) -/
  maps : SMap (List (Nat × Nat))
  pending : List PendDelta
  /-- last reports by member: cost ms, N, H, tick (R602) -/
  reports : SMap (Option (Nat × Nat × Nat × Nat))
  /-- OPT_STEP commits of the last 60 s: tick and STEP, newest first (R601) -/
  steps : List (Nat × Nat)
  /-- powered hour of each local event of the last 720 powered hours (R601), newest first, and powered ticks -/
  events : List Nat
  powered : Nat
  deriving DecidableEq, Repr

end Sys2Proof.Machine
end

