-- ==== Sys2Proof/Machine/StatePower.lean ====
section
/-! DEFINITION. The parts of State behind power, clocks, coolant and thermal control. -/
namespace Sys2Proof.Machine

/-- State of a feed (R485, R675). -/
inductive FeedSt where
  | absent | charging | inRange | marginal | lost
  deriving DecidableEq, Repr

/-- State of a half PLL (R495). -/
inductive PllSt where
  | run | standby | asleep
  deriving DecidableEq, Repr

/-- Where a start of cores stands in the ramp governor (R499): waiting since a tick, admitted (at its target or held at
300 MHz) with the filler density it has reached and the target steps taken, or finished. -/
structure RampStart where
  /-- the starting cores of the cluster, one bit each -/
  mask : Nat
  since : Nat
  admitted : Bool
  forced : Bool
  density : Nat
  raised : Nat
  deriving DecidableEq, Repr

/-- Power delivery, governor, grants and heat meter (R484–R514). -/
structure Power where
  feedA : FeedSt
  feedB : FeedSt
  holdup : Bool
  /-- bit mask of failed phases by cluster (R489) -/
  phases : SMap Nat
  /-- the last ten 1 µs samples, newest first; this and the sums after it in 10^-4 W -/
  last10 : List Nat
  /-- sum, number and highest 10 µs average of the running 10 ms window -/
  winSum : Nat
  winN : Nat
  winMax : Nat
  /-- 10 ms average of the last whole window, and of the one before -/
  avg : Nat
  prevAvg : Nat
  /-- number of the present 1 µs sample, and the samples of the last second above the module limit (R502) -/
  sampleNo : Nat
  excursions : List Nat
  slewCeil : Option Nat
  /-- fraction of its target each polder keeps, in 1/1024 (R509); unlisted 1024 -/
  cut : SMap Nat
  nbuHeld : Nat
  fillerDemand : Nat
  leaseEnd : Option Nat
  groupGrant : Option Nat
  memberGrant : SMap Nat
  /-- slack and the tick of its report by member -/
  slackRep : SMap (Option (Nat × Nat))
  window : Nat
  /-- SERIAL of the last GRANT frame sent (R504) -/
  grantSerial : Nat
  /-- SERIAL of the last GRANT frame accepted (R504) -/
  grantSeen : Option Nat
  /-- sums over the minute (R513) of H in 1/28,800,000 W and of the input power in 10^-4 W, and how many values they hold -/
  heatSum : Int
  inSum : Nat
  sums : Nat
  /-- the HEAT_REPORT values of the last 10 ms window (R659); empty before the first -/
  report : List Byte
  /-- energy not yet in the counters: input in 10^-10 J, heat in 1/2,880,000 mJ -/
  eIn : Nat
  eHeat : Int
  /-- sums of the draws by polder over the running window, in W × samples -/
  polderSum : SMap Nat
  deriving DecidableEq, Repr

/-- The rail of a regulator group (R493): its voltage in 0.1 mV, and since when less has been needed. -/
structure Rail where
  dmv : Nat
  since : Option Nat
  deriving DecidableEq, Repr

/-- Clock state (R493–R499): each half's state with the tick of its last demand, and the starts by cluster. -/
structure Clocks where
  half : SMap PllSt
  idle : SMap Nat
  starts : SMap (Option RampStart)
  /-- target in MHz a ramp holds a core at; unlisted cores are not held -/
  rampTarget : SMap (Option Nat)
  /-- the rail of each cluster's group -/
  rails : SMap Rail
  /-- the present frequency of each clocked core in 1/16 MHz (R493); unlisted cores are not clocked -/
  freq : SMap Nat
  deriving DecidableEq, Repr

/-- A hot spot's disagreement (R524): since when its readings differ, whether this episode has counted, the ticks of the
counted episodes. -/
structure Disagree where
  since : Option Nat
  counted : Bool
  ticks : List Nat
  deriving DecidableEq, Repr

/-- The watch of R527 on a layer: since when the model exceeds the sensors, since when it no longer does, and when the
layer came under the model. -/
structure ModelWatch where
  excess : Option Nat
  under : Option Nat
  governed : Option Nat
  deriving DecidableEq, Repr

/-- Coolant and thermal control (R520–R543). -/
structure Thermal where
  disagree : SMap Disagree
  watch : SMap ModelWatch
  /-- BD's sensors -/
  bd : List Nat
  /-- since when a memory layer has been hot at duty 1/4 (R531) -/
  memHot : SMap (Option Nat)
  /-- BD's duty in quarters, and the tick of its last step (R531) -/
  bdDuty : Nat
  bdStep : Nat
  /-- pressure readings of the last 50 ms by level, newest first (R535), and flow readings of the last 100 ms -/
  dpHist : List (List Nat)
  flowHist : List (List Nat)
  /-- since when the outlet of each level has read above 78 °C (R533) -/
  outletSince : List (Option Nat)
  outletRed : Nat
  /-- P_flow of R532 after R533, once computed -/
  flowLimit : Option Nat
  inletHigh : List (Option Nat)
  inletLow : List (Option Nat)
  flowStop : Option Nat
  restartFrom : Option Nat
  /-- turning points of each layer's temperature not yet closed into cycles, newest first (R541), in 1/16 °C -/
  turns : SMap (List Nat)
  deriving DecidableEq, Repr

end Sys2Proof.Machine
end

