-- ==== Sys2Proof/Machine/State.lean ====
section
/-! DEFINITION. The state of the module, its faults and refusals, and the state after reset. -/
namespace Sys2Proof.Machine

/-- The headers of a Ralwick packet (R441, R442): port, Ethernet destination, IP and UDP fields, and DF of IPv4. -/
structure IpHead where
  port : Nat
  eth : Nat
  src : Nat
  dst : Nat
  udpSrc : Nat
  udpDst : Nat
  dscp : Nat
  ecn : Nat
  hop : Nat
  df : Bool
  deriving DecidableEq, Repr

/-- What leaves the module. The log of outputs is kept newest first. -/
inductive Out where
  /-- an MSI-X message: function and vector (R163) -/
  | msix (fn vec : Nat)
  /-- the completion of a host read: 0 success, 1 Unsupported Request, 2 Completer Abort; its data, and the 64-byte blocks
  of it that are poisoned (R305, R317) -/
  | completion (status : Nat) (data : List Byte) (poisoned : List Nat)
  /-- a Ralwick datagram: its headers and bytes (R442, R445) -/
  | datagram (h : IpHead) (bytes : List Byte)
  /-- another Ethernet packet of the port: kind (1 ARP or neighbor request, 2 its answer, 3 echo answer, 4 CNP,
  5 RoCEv2 acknowledgement, 6 RoCEv2 read response, 7 RoCEv2 NAK with its code; those of RoCEv2 with the ICRC of their bits),
  Ethernet destination, destination and data (R439, R441, R467) -/
  | packet (port kind eth dst : Nat) (data : List Byte)
  /-- an MCTP message: binding (0 I3C, 1 PCIe VDM, 2 PCIe DOE), destination EID, message type and bytes (R654–R662) -/
  | mctp (binding eid typ : Nat) (bytes : List Byte)
  deriving DecidableEq, Repr

/-- Why a command stops the model. -/
inductive Fault where
  /-- Raised by every meaning for a command that is not well formed (`Instr.wf`): an operand names a unit that the module
  does not have, or a received frame is not of its row's type. No such event can occur, so stopping is safe. -/
  | illFormed
  deriving DecidableEq, Repr

/-- Why the model has no meaning for a command. -/
inductive Refusal where
  /-- Raised by the dispatch alone, for a row without a meaning. Safe: the model stops where the module goes on. -/
  | notModelled (mnemonic : String)
  deriving DecidableEq, Repr

/-- The state of the module: plain data. -/
structure State where
  /-- the commands that wait, first in, first out -/
  pending : List Instr
  /-- the local tick of the 25 MHz clock, a 64-bit count (R45) -/
  tick : Nat
  /-- how many free values have been taken: the model's own, log entry 8 -/
  freeCtr : Nat
  /-- the 32-bit registers by BAR0 address; an unlisted register holds its reset value -/
  regs : SMap Word
  /-- the 64-bit counters by the address of their LO half (R223) -/
  cnts : SMap DWord
  /-- HI halves latched by a read of LO (R223) -/
  latches : SMap (Option Word)
  host : HostSide
  fuses : Fuses
  nvm : Nvm
  alm : Alm
  sets : Settings
  mbx : Mailbox
  image : Option Image
  loader : Loader
  runs : SMap RunState
  ctxs : SMap CtxAux
  /-- the arbiters of R146: 0 for fetching, then one for each engine queue -/
  arbs : SMap Arb
  /-- commands in flight, in fetch order (R171) -/
  cmds : List Cmd
  nextId : Nat
  cores : SMap CoreState
  mem : Memories
  /-- running sequences by `32 × column + bank` (R338) -/
  nbus : SMap (Option NbuSeq)
  /-- NBU commands ready to be dispatched, oldest first (R338) -/
  nbuReady : List Nat
  kv : SMap KvPolder
  copies : List PageCopy
  /-- polders whose next command to commit carries W_SENTINEL_DRIFT (R246) -/
  sentinel : SMap Bool
  /-- polders whose D has taken a first sample since it was cleared (R245) -/
  drifted : SMap Bool
  resets : Resets
  sec : Sec
  mctp : Mctp
  pcie : Pcie
  pins : Pins
  power : Power
  clocks : Clocks
  thermal : Thermal
  fab : Fab
  casc : Casc
  parity : Parity
  out : List Out
  deriving DecidableEq, Repr

/-- The firmware image that the slot holds after manufacture: a minimal image of the model's own (log entry 3): version
1.0, SVN 0, an empty body, signed by the key whose hash the fuses hold. -/
def fwImage : List Byte :=
  [0x41, 0x53, 0x4b, 0x46, 0, 0, 0, 1, 0, 8, 0, 0] ++ List.replicate 1012 0 ++
  beBytes 384 0xda40c870de276fa9f7034d59a4cd71b8593dffbf927928eca61908adb74132f240cd83daba82f464a8e03d356c7086d3e11dd279f441efffcc2395d70421db67d6e6254160263ee5fa51579ffc615449b913adeb41e8a6f2e1018916230ff6cc1c1b89b3ed6abeced3ae3c9df663d79330ceed0d11aff3dce1828a24e1c8495dff71d401dee45501acb0c32e4a2d66de1751b8b0a86e6b80c77b2d73a3b16155faa56a743d629f544c0fd2f42e7d8d40bdcc85b6608cfef346472a030792f5effb51db80a964c005dd1d0056f648867f79babae2217a231416aaba4896077a8a1fcd4c57ab58a32047190e450599c41765eab5d33150162f24d724527a76f1e9e8a30a43a4c26078611aa24b1ee3266edf4c3939b8ad8b1991b8b4f88b2dd8df70c4f3f6d5345e8cf2ca98ced1cd00969bf19ff8c1224e1175e089d53321b518b8594695b8446a0a92d7bcfeb0dfb5c2feb2f760af0f4e1e53b52bd3ee9fe76cf2c6473b90e307a53b04af772f4d774425328a0f4cc3227c77158a82e80e7441 ++
  [0, 1, 0, 1] ++ List.replicate 124 0 ++
  beBytes 384 0x517d1c04c670d1ce5176c67330c42caaf5f1cb7223b2d4219c1ec669f2d71a438249c1342c136311e5614d95e37f81e3117ff60929d22709732006fe0e100c6ee615c65ccfbb2824743f76f77c43206d380a022e3dfbf4012e73744ba308b6806a040b2fc8d1dbaad310b28a039c31a8db563a5b6fff15b88785f35953af25f77da62a8bbf6dfea8e73e54741fd1bf6d32d6874789081b3a36cbd61d9c2ebfc5d7d80d27d7daaffaca5d4217244feebb3eb9bfb2e41a9cbefce076c43366446e5a7cb044700dbcc23986c646f3859f8a9853d180b4a4140fa5ccbf8142fa2c0503ee36251f94014bf88eee38f82ef88756aeaa527d3a023531250a720378638083e3b949d014b24d222366aaab1739f5a5586d43b66582e340c81ff7ee1d0965b09075640a7f4da25dd18ec76b7ad5d887ee3a570a1e8dbf8841bd94c4cf1fdbeb89762e96006241ed92d2aa936d6f7665639fd02a5a9686ad9f647eddf085849381773bc5900aeddf7893e027eac91c26ef094baa8cf3292d8202637ac2dc9e ++
  List.replicate 128 0

/-- The fuses of the modelled module: an LH9-S192 (log entry 1). -/
def fusesReset : Fuses :=
  { variant := 9, stepping := 0, serial := 1,
    fwKeys := [0xc7c8da39fcb70a2ffc041d689dc029fefe61986738b582c97e1bc26272e8e127, 0, 0, 0], fwRevoked := 14,
    svnFloor := 0, ownerLocked := false, arrFuse := [], factory := [], theta := [] }

/-- NVM as a new module leaves manufacturing (R128), after its first power-on (log entries 1 and 3). -/
def nvmReset : Nvm :=
  { fwSlot := fwImage,
    slot0 := [0x4e, 0x56, 0x53, 0x31, 0x00, 0x00, 0x00, 0x00, 0x00, 0x00, 0x00, 0x00, 0x00, 0x00, 0x00, 0x00, 0x28, 0xa1, 0xa1, 0xcf],
    slot1 := [], storeCount := 0, ownerHash := 0, retire := [], remap := [], remapFull := [], ceilings := [], abftCaps := [],
    ceilHours := [], phaseLife := [], wear := [], wearCycles := [], fabIncarnation := 1, macs := [], flowStops := 0,
    trips := 0, powerOns := 1, frozen := [], frozenHold := 0, frozenSeq := 0, frozenLast := none, frozenLost := 0 }

/-- The registers that the bring-up of R611 leaves at another value than their entry in the register map: identity,
limits, STAGE READY, the digests of R130–R132, the default grant and 32 phases in service in every group. -/
def regsReset : SMap Word :=
  [(0x0, 0x94C39), (0x8, 0x1), (0x10, 0x3F), (0x14, 0xBB80258), (0x20, 0x6), (0x24, 0x1000000)] ++
  [(0x28, 0xF), (0x100014, 0xBB8), (0x100100, 0x20), (0x100104, 0x20), (0x100108, 0x20), (0x10010C, 0x20)] ++
  [(0x100110, 0x20), (0x100114, 0x20), (0x100118, 0x20), (0x10011C, 0x20), (0x100120, 0x20), (0x100124, 0x20)] ++
  [(0x100128, 0x20), (0x10012C, 0x20), (0x100130, 0x20), (0x100134, 0x20), (0x100138, 0x20), (0x10013C, 0x20)] ++
  [(0x100140, 0x20), (0x100144, 0x20), (0x100148, 0x20), (0x10014C, 0x20), (0x100150, 0x20), (0x100154, 0x20)] ++
  [(0x100158, 0x20), (0x10015C, 0x20), (0x100160, 0x20), (0x100164, 0x20), (0x100168, 0x20), (0x10016C, 0x20)] ++
  [(0x100170, 0x20), (0x100174, 0x20), (0x100178, 0x20), (0x10017C, 0x20), (0x308008, 0x1), (0x500020, 0x588B78B8)] ++
  [(0x500024, 0xF3C82308), (0x500028, 0x838AF107), (0x50002C, 0xE5EAA24F), (0x500030, 0x5BD0EB30), (0x500034, 0xF879463F), (0x500038, 0xABBA351D)] ++
  [(0x50003C, 0x2F1554EC), (0x500040, 0xB0B1C1AF), (0x500044, 0x1C72396A), (0x500048, 0x877F5A3B), (0x50004C, 0xE874D8EA), (0x500050, 0x701CEAE1)] ++
  [(0x500054, 0x3DC67707), (0x500058, 0xB3E33DC5), (0x50005C, 0x18C953C1), (0x500060, 0x4B4475A4), (0x500064, 0xD6D1AAC6), (0x500068, 0x47ABC89F)] ++
  [(0x50006C, 0x11D17C85), (0x500070, 0x2972846E), (0x500074, 0x94EA92E8), (0x500078, 0xD1A209DA), (0x50007C, 0xC0AB06F4), (0x500080, 0x4B4475A4)] ++
  [(0x800004, 0x10000), (0x80000C, 0x1000000)]

/-- The state right after the first power-on has reached READY: no image in force (R1, R611 step 9). -/
def State.reset : State :=
  { pending := [], tick := 0, freeCtr := 0, regs := regsReset, cnts := [], latches := [],
    host := ⟨[], [], []⟩, fuses := fusesReset, nvm := nvmReset,
    alm := { ring := [(0, 0x1000000060100000000000000000001010000000000000000)], count := 1, queue := [], lostBefore := false, freeze := none },
    sets := { shadow := [], inforce := [], durable := [], seq := 0, unknown := [], slot := 0, lastStore := none },
    mbx := ⟨none, []⟩, image := none,
    loader := { stage := .idle, srcAddr := 0, length := 0, snap := [], portPos := 0, portOver := false, next := none,
                partialMask := 0, heldResets := [] },
    runs := [], ctxs := [], arbs := [], cmds := [], nextId := 0, cores := [],
    mem := { dram := [], shared := [], locals := [], sharedErr := [], localErr := [], errs := [], retired := [], owed := [], calTick := [], calTemp := [],
             calPending := [], scrubPos := [], pendingRetire := none },
    nbus := [], nbuReady := [], kv := [], copies := [], sentinel := [], drifted := [],
    resets := { jobs := [], queued := [], replay := none, replayQ := [], spans := [], powerReq := none, lastPowerReq := 0 },
    sec := { staging := [], path := none, stagedOver := false, verifiedLen := none, busy := .idle, recoverReq := false,
             pldm := ⟨0, 0, 0, 0⟩, owner := none,
             fwDigest := 0xafc1b1b06a39721c3b5a7f87ead874e8e1ea1c700777c63dc53de3b3c153c918,
             spdmStage := 0, sessions := [], nextSession := 1, nonceNo := 0, ideActive := 0, ideInsecure := 0 },
    mctp := { eidI3c := 0, eidPcie := 0, assignerI3c := 0, i3cAddr := 0, receiver := none, tid := 0 },
    pcie := { linkUp := true, vfs := 0, d3 := [], heldRecords := [], heldMsix := [], aer := [], bring := none },
    pins := { perst := false, straps := 15, alerts := [], thermtrip := false, fault := false },
    power := { feedA := .inRange, feedB := .inRange, holdup := false, phases := [], last10 := [], winSum := 0, winN := 0,
               winMax := 0, avg := 0, prevAvg := 0, sampleNo := 0, excursions := [], slewCeil := none, cut := [],
               nbuHeld := 0, fillerDemand := 0, leaseEnd := none, groupGrant := none, memberGrant := [], slackRep := [],
               window := 0, grantSerial := 0, grantSeen := none, heatSum := 0, inSum := 0, sums := 0, report := [], eIn := 0, eHeat := 0, polderSum := [] },
    clocks := { half := [], idle := [], starts := [], rampTarget := [], rails := [], freq := [] },
    thermal := { disagree := [], watch := [], bd := [], memHot := [], bdDuty := 4, bdStep := 0, dpHist := [], flowHist := [], outletSince := [],
                 outletRed := 0, flowLimit := none, inletHigh := [], inletLow := [], flowStop := none, restartFrom := none, turns := [] },
    fab := { flows := [], rx := [], reads := [], rates := [], seen := [], breachSerial := 0, arp := [], epochs := [], lastCnp := [], qps := [],
             retrain := [], retrainQ := [], msg := 0 },
    casc := { answered := [], mismatched := [], missedBefore := [], roundAt := none, roundOpen := false, lastReq := none },
    parity := { maps := [], pending := [], reports := [], steps := [], events := [], powered := 0 },
    out := [] }

end Sys2Proof.Machine
end

