-- ==== Sys2Proof/WellFormed.lean ====
section
/-! DEFINITION. Which commands are well formed: the units an operand names exist (R24, R140, R292, R439, R522), and a
received frame carries the type of its row (R446). -/
namespace Sys2Proof

/-- The TYPEs of the frames that a row names (R446, R602). The table has no row for a frame of another TYPE, which R447 discards: the row
of WRITE carries it (log entry 77). -/
def frameTypes : List Nat := [0x01, 0x02, 0x03, 0x10, 0x11, 0x20, 0x30, 0x31, 0x32, 0x33, 0x40, 0x50, 0x51, 0x60, 0x61]

/-- The operands of a command name units that exist. -/
def Instr.wf (i : Instr) : Bool :=
  match i with
  | .powerOn feed _ => decide (feed < 2)
  | .perstAssert _ => true
  | .pcieHotReset => true
  | .pcieLinkLoss => true
  | .strapChange level => decide (level < 16)
  | .vfEnable vfs => decide (1 ≤ vfs ∧ vfs < 64)
  | .flrVf v => decide (1 ≤ v ∧ v < 64)
  | .flrPf => true
  | .d3hotEntry fn => decide (fn < 64)
  | .d0Return fn _ => decide (fn < 64)
  | .ideIntegrityFailure stream => decide (stream < 5)
  | .bar2Read _ _ _ => true
  | .bar2Write _ _ _ => true
  | .remapNvmWrite col entry => decide (col < 256 ∧ entry < 8)
  | .counterLoRead fn _ => decide (fn < 64)
  | .registerWrite fn _ _ _ => decide (fn < 64)
  | .ctxBind fn _ _ => decide (fn < 64)
  | .ctxEnable fn _ _ => decide (fn < 64)
  | .ctxDisable fn _ _ => decide (fn < 64)
  | .contextReset fn _ => decide (fn < 64)
  | .dbSqTail fn _ _ => decide (fn < 64)
  | .dbCqHead fn _ _ => decide (fn < 64)
  | .descriptorFetch ctx _ => decide (ctx < 4096)
  | .commandCommit _ _ => true
  | .irqHoldExpiry ctx => decide (ctx < 4096)
  | .gemm _ _ => true
  | .conv _ _ => true
  | .elementwise _ _ => true
  | .passStart core _ => decide (core < 256)
  | .drainComplete core _ _ => decide (core < 256)
  | .shadowSampleEnd core => decide (core < 256)
  | .attnFwd _ _ => true
  | .attnCombine _ _ => true
  | .attnBwd _ _ => true
  | .kvRegister _ _ => true
  | .kvRelease _ _ => true
  | .kvActivate _ _ => true
  | .kvDeactivate _ _ => true
  | .kvFork _ _ => true
  | .kvTruncate _ _ => true
  | .kvSetFormat _ _ => true
  | .kvPublish _ _ => true
  | .kvEvict _ _ => true
  | .kvRef _ _ => true
  | .kvFree _ _ => true
  | .prefixLookup _ _ => true
  | .copyOnWriteEnd polder _ _ => decide (polder < 32)
  | .optStep _ _ => true
  | .allReduce _ _ => true
  | .reduceScatter _ _ => true
  | .allGather _ _ => true
  | .broadcast _ _ => true
  | .signVote _ _ => true
  | .nbuRun _ _ => true
  | .nbuDispatch _ => true
  | .nbuSequenceEnd col bank => decide (col < 256 ∧ bank < 32)
  | .nbuEnd col bank => decide (col < 256 ∧ bank < 32)
  | .nbuLd col bank _ => decide (col < 256 ∧ bank < 32)
  | .nbuSt col bank _ => decide (col < 256 ∧ bank < 32)
  | .nbuFma col bank => decide (col < 256 ∧ bank < 32)
  | .nbuMul col bank => decide (col < 256 ∧ bank < 32)
  | .nbuAdd col bank => decide (col < 256 ∧ bank < 32)
  | .nbuMax col bank => decide (col < 256 ∧ bank < 32)
  | .nbuScale col bank => decide (col < 256 ∧ bank < 32)
  | .nbuSgn col bank => decide (col < 256 ∧ bank < 32)
  | .nbuClip col bank => decide (col < 256 ∧ bank < 32)
  | .nbuExp col bank => decide (col < 256 ∧ bank < 32)
  | .nbuHsum col bank => decide (col < 256 ∧ bank < 32)
  | .nbuHmax col bank => decide (col < 256 ∧ bank < 32)
  | .nbuArg col bank => decide (col < 256 ∧ bank < 32)
  | .nbuPset col bank => decide (col < 256 ∧ bank < 32)
  | .nbuPadd col bank => decide (col < 256 ∧ bank < 32)
  | .nbuParg col bank => decide (col < 256 ∧ bank < 32)
  | .nbuLset col bank => decide (col < 256 ∧ bank < 32)
  | .nbuLoop col bank => decide (col < 256 ∧ bank < 32)
  | .nbuBrlt col bank => decide (col < 256 ∧ bank < 32)
  | .nbuJmp col bank => decide (col < 256 ∧ bank < 32)
  | .dma _ _ => true
  | .fence _ => true
  | .counterAdd _ => true
  | .counterWaitGe _ => true
  | .harvest _ _ => true
  | .restore _ _ => true
  | .parityRebuild _ _ => true
  | .abort _ => true
  | .abortOverrun _ => true
  | .testArray _ _ => true
  | .testVector _ _ => true
  | .testSramScrub _ _ => true
  | .testMemCal _ => true
  | .testFabRetrain _ => true
  | .selftestDeadline _ => true
  | .mbxSet => true
  | .mbxGet => true
  | .mbxStore => true
  | .storeComplete _ => true
  | .mbxRevert => true
  | .mbxDefaults => true
  | .mbxQuiesce => true
  | .drainDeadline polder => decide (polder < 32)
  | .polderStopped polder => decide (polder < 32)
  | .mbxResume => true
  | .imgGo src => decide (src < 4)
  | .imgAbort => true
  | .imgSrc src => decide (src < 4)
  | .imgPortWrite _ _ => true
  | .imageCopyDone _ => true
  | .imageValidationDone _ => true
  | .imageCommit => true
  | .memArm _ => true
  | .memClrLog col => decide (col < 256)
  | .memClrCounts col => decide (col < 256)
  | .memAppend => true
  | .retireAppendDone _ => true
  | .arrClrCounters core => decide (core < 256)
  | .precClr core => decide (core < 256)
  | .precClear polder => decide (polder < 32)
  | .patrolScrub col _ => decide (col < 256)
  | .refreshDue col bank => decide (col < 256 ∧ bank < 32)
  | .memCalibrationDue col => decide (col < 256)
  | .memCalibrationDone col => decide (col < 256)
  | .vigilExpiry _ => true
  | .stopOverrun _ _ _ => true
  | .engineReset core => decide (core < 256)
  | .polderReset polder => decide (polder < 32)
  | .chipReset key => decide (key < 256)
  | .moduleReset key => decide (key < 256)
  | .powerCycleRequest key => decide (key < 256)
  | .powerCycleRepeat => true
  | .sluiceClose level _ => decide (2 ≤ level ∧ level ≤ 5)
  | .resetComplete level _ _ => decide (2 ≤ level ∧ level ≤ 5)
  | .resetOverrun level _ => decide (2 ≤ level ∧ level ≤ 5)
  | .feedLost feed _ => decide (feed < 2)
  | .feedRejoin feed _ => decide (feed < 2)
  | .pwrHoldup => true
  | .pwrPhaseFail cluster phase => decide (cluster < 32 ∧ phase < 32)
  | .powerSample _ => true
  | .rampStart cluster mask => decide (cluster < 32 ∧ mask < 256)
  | .rampRetry cluster => decide (cluster < 32)
  | .rampForcedAdmit cluster => decide (cluster < 32)
  | .rampDensityStep cluster => decide (cluster < 32)
  | .rampTargetRaise cluster => decide (cluster < 32)
  | .halfStandby half => decide (half < 8)
  | .halfAsleep half => decide (half < 8)
  | .ceilingUpdate core _ => decide (core < 256)
  | .powerGrant binding _ watts leaseMs => decide (binding < 2 ∧ watts < 2 ^ 32 ∧ leaseMs < 2 ^ 16)
  | .grantFrame f => decide (f.port < 8 ∧ f.typ = 0x60)
  | .grantLapse => true
  | .slackWindowEnd slack => decide (slack < 65536)
  | .slackFrame f => decide (f.port < 8 ∧ f.typ = 0x61)
  | .grantRedistribution => true
  | .heatMeterUpdate => true
  | .heatMismatch => true
  | .thermalSample _ => true
  | .thermalStep half n => decide (n < (if half then 8 else 256))
  | .memDutyStep ml => decide (ml < 8)
  | .thermalModelUpdate _ => true
  | .thmModel layer => decide (layer < 13)
  | .thmSuspect layer => decide (layer < 13)
  | .modelRelease layer => decide (layer < 13)
  | .coolantSample _ => true
  | .flowLimitUpdate => true
  | .outletReductionStep => true
  | .cltRestart => true
  | .bondWearSample => true
  | .bondWearWrite => true
  | .portLinkUp port => decide (port < 8)
  | .portLinkDown port => decide (port < 8)
  | .laneRetrainTrigger port lane => decide (port < 8 ∧ lane < 8)
  | .laneRetrainStepDone port => decide (port < 8)
  | .arpRefresh => true
  | .arpRequest port _ _ _ => decide (port < 8)
  | .icmpEcho port _ _ _ => decide (port < 8)
  | .pauseFrame port => decide (port < 8)
  | .rxDiscard port => decide (port < 8)
  | .fabWrite f _ => decide (f.port < 8 ∧ (f.typ = 0x01 ∨ f.typ ∉ frameTypes))
  | .fabReadReq f _ => decide (f.port < 8 ∧ f.typ = 0x02)
  | .fabReadRsp f _ => decide (f.port < 8 ∧ f.typ = 0x03)
  | .fabAck f => decide (f.port < 8 ∧ f.typ = 0x10)
  | .fabNak f => decide (f.port < 8 ∧ f.typ = 0x11)
  | .ackTimer device => decide (device < 4096)
  | .retransmitTimeout device => decide (device < 4096)
  | .peerDownRetransmit device => decide (device < 4096)
  | .busyRetry device _ => decide (device < 4096)
  | .rateIncrease device port entry => decide (device < 4096 ∧ port < 8 ∧ entry < 16)
  | .collData f _ => decide (f.port < 8 ∧ f.typ = 0x20)
  | .breachFrame f => decide (f.port < 8 ∧ f.typ = 0x40)
  | .breachSend _ => true
  | .breachLatchClear polder => decide (polder < 32)
  | .fabEpValid ep _ => decide (ep < 4096)
  | .rdmaWrite q _ => decide (q.qpn < 2 ^ 24 ∧ q.port < 8 ∧ q.kind < 4)
  | .rdmaRead q _ => decide (q.qpn < 2 ^ 24 ∧ q.port < 8 ∧ q.kind = 4)
  | .reckonPeriod => true
  | .reckonNow => true
  | .reckonReq f => decide (f.port < 8 ∧ f.typ = 0x50)
  | .reckonRsp f => decide (f.port < 8 ∧ f.typ = 0x51)
  | .reckonDeadline => true
  | .casMasterLost => true
  | .parDelta f _ => decide (f.port < 8 ∧ f.typ = 0x30)
  | .parReadReq f _ => decide (f.port < 8 ∧ f.typ = 0x31)
  | .parReadRsp f _ => decide (f.port < 8 ∧ f.typ = 0x32)
  | .harvReport f => decide (f.port < 8 ∧ f.typ = 0x33)
  | .harvReportPeriod => true
  | .harvAdviseUpdate => true
  | .parGrpValid group _ _ => decide (group < 64)
  | .parGrpLost group _ => decide (group < 64)
  | .parGrpDev group r _ => decide (group < 64 ∧ r < 9)
  | .fwOpen => true
  | .fwPortWrite _ => true
  | .fwVerify => true
  | .fwVerifyDone => true
  | .fwCommit key => decide (key < 256)
  | .fwCommitDone => true
  | .fwCancel => true
  | .fwRecover key => decide (key < 256)
  | .ownerEnroll => true
  | .ownerTransfer _ => true
  | .ownerLock key => decide (key < 256)
  | .spdmGetVersion binding _ => decide (binding < 3)
  | .spdmGetCapabilities binding _ => decide (binding < 3)
  | .spdmNegotiateAlgorithms binding _ => decide (binding < 3)
  | .spdmGetDigests binding _ => decide (binding < 3)
  | .spdmGetCertificate binding _ _ _ => decide (binding < 3)
  | .spdmChallenge binding _ => decide (binding < 3)
  | .spdmGetMeasurements binding _ _ => decide (binding < 3)
  | .spdmKeyExchange binding _ => decide (binding < 3)
  | .spdmFinish binding _ _ => decide (binding < 3)
  | .spdmHeartbeat binding _ => decide (binding < 3)
  | .spdmKeyUpdate binding _ => decide (binding < 3)
  | .spdmEndSession binding _ => decide (binding < 3)
  | .ideKm _ stream _ => decide (stream < 5)
  | .mctpSetEid binding src eid => decide (binding < 2 ∧ src < 256 ∧ eid < 256)
  | .mctpGetEid binding => decide (binding < 2)
  | .mctpGetUuid binding => decide (binding < 2)
  | .mctpGetVersion binding _ => decide (binding < 2)
  | .mctpGetTypes binding => decide (binding < 2)
  | .mctpGetVendor binding => decide (binding < 2)
  | .mctpMailbox binding _ _ _ _ _ => decide (binding < 2)
  | .mctpAlmRead binding _ _ _ _ => decide (binding < 2)
  | .mctpAlmFreeze binding _ => decide (binding < 2)
  | .mctpHeatReport binding _ => decide (binding < 2)
  | .pldmGetTid binding _ => decide (binding < 2)
  | .pldmGetVersion binding _ _ => decide (binding < 2)
  | .pldmGetTypes binding _ => decide (binding < 2)
  | .pldmGetCommands binding _ _ => decide (binding < 2)
  | .pldmGetPdrInfo binding _ => decide (binding < 2)
  | .pldmGetPdr binding _ _ => decide (binding < 2)
  | .pldmGetSensor binding _ _ => decide (binding < 2)
  | .pldmSetReceiver binding _ _ => decide (binding < 2)
  | .pldmQueryDevice binding _ => decide (binding < 2)
  | .pldmGetFwParams binding _ => decide (binding < 2)
  | .pldmRequestUpdate binding _ => decide (binding < 2)
  | .pldmPassComponents binding _ => decide (binding < 2)
  | .pldmUpdateComponent binding _ _ => decide (binding < 2)
  | .pldmFirmwareData _ => true
  | .pldmActivate binding _ => decide (binding < 2)
  | .pldmGetStatus binding _ => decide (binding < 2)
  | .pldmCancel binding _ => decide (binding < 2)
  | .almFreeze key => decide (key < 256)
  | .almFreezeComplete => true
  | .perstRelease _ => true
  | .feedRise feed _ => decide (feed < 2)
  | .hotSwapConnect feed => decide (feed < 2)
  | .i3cBusReset => true
  | .rdmaInvalid q => decide (q.port < 8)
  | .ownerDone _ => true

end Sys2Proof
end

