-- ==== Sys2Proof/Machine/Ops.lean ====
section
/-! DEFINITION. The operations every meaning is written with: registers, counters, free values, outputs and the almanac
(R11–R13, R223, R641–R652). -/
namespace Sys2Proof.Machine

/-- What a command answers. -/
abbrev Res := Host.Outcome State Fault Refusal

/-- A state with another queue of waiting commands. -/
def State.withQueue (s : State) (q : List Instr) : State := { s with pending := q }

/-- A well-formed command has its effect on everything but the queue of waiting commands; another cannot occur (log entry 6). -/
def guarded (ok : Bool) (s : State) (f : State → State) : Res :=
  if ok then .next ((f s).withQueue s.pending) else .fault .illFormed

/-! ### Registers -/

/-- The stored value of the register at an address. -/
def State.reg (s : State) (a : Nat) : Word := SMap.get regDefault s.regs a

/-- The register at an address set to a value. -/
def State.setReg (s : State) (a : Nat) (v : Word) : State := { s with regs := SMap.set regDefault s.regs a v }

/-- Field `[hi:lo]` of a register. -/
def State.fld (s : State) (a hi lo : Nat) : Nat := Machine.fld (s.reg a) hi lo

/-- Field `[hi:lo]` of a register set to a number, modulo the field's width. -/
def State.setFld (s : State) (a hi lo v : Nat) : State := s.setReg a (Machine.setFld (s.reg a) hi lo v)

/-- One bit of a register. -/
def State.bit (s : State) (a i : Nat) : Bool := (s.reg a).getLsbD i

/-- One bit of a register set. -/
def State.setBit (s : State) (a i : Nat) (b : Bool) : State := s.setReg a (Machine.setBit (s.reg a) i b)

/-- A register set to a number modulo 2^32. -/
def State.setNat (s : State) (a v : Nat) : State := s.setReg a (BitVec.ofNat 32 v)

/-- A register as a number. -/
def State.nat (s : State) (a : Nat) : Nat := (s.reg a).toNat

/-- Field `[hi:lo]` of a register increased by `n`, saturating. -/
def State.bumpFld (s : State) (a hi lo n : Nat) : State :=
  s.setFld a hi lo (min (s.fld a hi lo + n) (2 ^ (hi + 1 - lo) - 1))

/-- A 32-bit saturating counter increased by 1. -/
def State.bump (s : State) (a : Nat) : State := s.bumpFld a 31 0 1

/-- The 64-bit counter whose LO half lies at an address. -/
def State.cnt (s : State) (a : Nat) : DWord := SMap.get (fun _ => 0) s.cnts a

/-- A 64-bit counter increased by `n`; it wraps at 2^64 (R223). -/
def State.addCnt (s : State) (a n : Nat) : State :=
  { s with cnts := SMap.set (fun _ => 0) s.cnts a (s.cnt a + BitVec.ofNat 64 n) }

/-- A 64-bit counter set. -/
def State.setCnt (s : State) (a n : Nat) : State :=
  { s with cnts := SMap.set (fun _ => 0) s.cnts a (BitVec.ofNat 64 n) }

/-- A 64-bit value in a LO and a HI register. -/
def State.pair (s : State) (lo hi : Nat) : Nat := s.nat lo + 2 ^ 32 * s.nat hi

/-- A LO and a HI register set to a 64-bit value. -/
def State.setPair (s : State) (lo hi v : Nat) : State := (s.setNat lo (v % 2 ^ 32)).setNat hi (v / 2 ^ 32)

/-- The level at which a register resets; a reserved address belongs to the widest level. -/
def levelOf (a : Nat) : Lvl :=
  match findReg a with
  | some d => d.level
  | none => .power

/-- Every register that a reset of this level clears, and that satisfies `p`, back at its reset value (R13). -/
def State.clearRegs (s : State) (l : Lvl) (p : Nat → Bool) : State :=
  let q := fun a => p a && decide ((levelOf a).rank ≤ l.rank)
  { s with regs := SMap.clear s.regs q, cnts := SMap.clear s.cnts q, latches := SMap.clear s.latches q }

/-- A register of an array of `n` one-bit flags: register `b + 4·(i / 32)`, bit `i mod 32`. -/
def State.flag (s : State) (b i : Nat) : Bool := s.bit (b + 4 * (i / 32)) (i % 32)

/-- Such a flag set. -/
def State.setFlag (s : State) (b i : Nat) (v : Bool) : State := s.setBit (b + 4 * (i / 32)) (i % 32) v

/-- Digest bytes in eight registers: register 0 holds bytes 0–3, byte 0 in [7:0] (R106, R139, R639). -/
def State.setDigest (s : State) (base : Nat) (d : Digest) : State :=
  (List.range 8).foldl (fun s i => s.setReg (base + 4 * i) (digestWord d i)) s

/-! ### Free values (log entry 8) -/

/-- The state with the counter of free values advanced. -/
def State.fresh (s : State) : State := { s with freeCtr := s.freeCtr + 1 }

/-- `n` free bytes of the present counter. -/
def State.freeBytes (s : State) (n : Nat) : List Byte := (List.range n).map (Config.freeByte s.freeCtr)

/-! ### Stages -/

/-- The module is in recovery mode (R621). -/
def State.recovery (s : State) : Bool := s.bit Reg.idBoot 8

/-- STAGE (R637). -/
def State.stage (s : State) : Nat := s.fld Reg.idBoot 3 0

/-- STAGE reads READY (R611 step 9). -/
def State.ready (s : State) : Bool := decide (s.stage = 6)

/-- The variant: 9, 8 or 7 (R3, R8). -/
def State.variant (s : State) : Nat := s.fld Reg.idDevice 19 16

/-- Requests of a function reach its BARs: the link is up and the function is in D0 (R631). -/
def State.barsOpen (s : State) (fn : Nat) : Bool := s.pcie.linkUp && !s.pins.perst && !s.pcie.d3.contains fn

/-- The physical function reaches every block of BAR0: the module is READY and not in recovery (R612, R621). -/
def State.hostOpen (s : State) : Bool := s.barsOpen 0 && s.ready && !s.recovery

/-- A unit of CAP_UNITS is present (R9). -/
def State.cap (s : State) (i : Nat) : Bool := s.bit Reg.capUnits i

/-- The arithmetic clock maximum in MHz (R3). -/
def clockMax (variant : Nat) : Nat := if variant = 9 then 600 else if variant = 8 then 540 else 450

/-- The module power limit in W (R3). -/
def powerLimit (variant : Nat) : Nat := if variant = 9 then 3000 else if variant = 8 then 2400 else 1800

/-- The fabric ports of the variant (R3, R7). -/
def portCount (variant : Nat) : Nat := if variant = 7 then 4 else 8

/-- ID_SERIAL (R638). -/
def State.serial (s : State) : Nat := s.pair Reg.idSerialLo Reg.idSerialHi

/-! ### Outputs -/

/-- Something leaves the module. -/
def State.emit (s : State) (o : Out) : State := { s with out := o :: s.out }

/-- An MSI-X message of a function; it is held while the function is in D3hot (R631). -/
def State.msix (s : State) (fn vec : Nat) : State :=
  if s.pcie.d3.contains fn then { s with pcie := { s.pcie with heldMsix := s.pcie.heldMsix ++ [(fn, vec)] } }
  else s.emit (.msix fn vec)

/-- An AER error of the physical function is logged (R317). -/
def State.aer (s : State) (code : Nat) : State := { s with pcie := { s.pcie with aer := code :: s.pcie.aer } }

/-- AER Uncorrectable Internal Error (R317). -/
def aerInternal : Nat := 0x400000
/-- AER Poisoned TLP received. -/
def aerPoisoned : Nat := 0x1000
/-- AER Unsupported Request (R305). -/
def aerUnsupported : Nat := 0x100000
/-- AER Completer Abort (R305). -/
def aerCompleterAbort : Nat := 0x8000
/-- AER IDE check failed (R630). -/
def aerIde : Nat := 0x8000000

/-- An alert condition begins to hold (R672). -/
def State.alert (s : State) (c : Alert) : State :=
  if s.pins.alerts.contains c then s else { s with pins := { s.pins with alerts := c :: s.pins.alerts } }

/-- An alert condition ceases to hold (R672). -/
def State.unalert (s : State) (c : Alert) : State :=
  { s with pins := { s.pins with alerts := s.pins.alerts.filter (fun d => decide (d ≠ c)) } }

/-! ### The almanac -/

/-- The severity of an event code (R646). -/
def severityOf (code : Nat) : Nat :=
  if [0x0702, 0x0805, 0x0906].contains code then 4
  else if [0x0102, 0x0104, 0x0204, 0x0303, 0x0404, 0x0502, 0x0503, 0x0603, 0x0604, 0x0701, 0x0704, 0x0706, 0x0804,
           0x0812, 0x0815, 0x0904].contains code then 3
  else if [0x0105, 0x0203, 0x0205, 0x0301, 0x0302, 0x0304, 0x0403, 0x0406, 0x0407, 0x0501, 0x0601, 0x0703, 0x0707,
           0x0708, 0x0709, 0x0802, 0x0803, 0x0811, 0x0813, 0x0814, 0x0901].contains code then 2
  else if [0x0103, 0x0201, 0x0402, 0x0405, 0x0602, 0x0806, 0x0816, 0x0902, 0x0905, 0x0A01].contains code then 1
  else 0

/-- SOURCE kinds (R644). -/
abbrev Src.module : Nat × Nat := (0, 0)
/-- A core as source. -/
abbrev Src.core (n : Nat) : Nat × Nat := (1, n)
/-- A cluster as source. -/
abbrev Src.cluster (n : Nat) : Nat × Nat := (2, n)
/-- A layer as source, numbered as in R522. -/
abbrev Src.layer (n : Nat) : Nat × Nat := (3, n)
/-- A fabric port as source. -/
abbrev Src.port (n : Nat) : Nat × Nat := (4, n)
/-- A bank column as source. -/
abbrev Src.column (n : Nat) : Nat × Nat := (5, n)
/-- A polder as source. -/
abbrev Src.polder (n : Nat) : Nat × Nat := (6, n)
/-- A coolant level as source. -/
abbrev Src.level (n : Nat) : Nat × Nat := (8, n)
/-- A cascade member as source. -/
abbrev Src.member (n : Nat) : Nat × Nat := (9, n)

/-- An entry (R642): tick, code, source, severity, flags, context and DATA as a little-endian number. -/
def mkEntry (tick code : Nat) (src : Nat × Nat) (ctx : Option Nat) (lost : Bool) (data : Nat) : Entry :=
  BitVec.ofNat 256 (tick % 2 ^ 64 + 2 ^ 64 * code + 2 ^ 80 * (src.1 * 4096 + src.2 % 4096) + 2 ^ 96 * severityOf code +
    2 ^ 104 * (b2n ctx.isSome + 2 * b2n lost) + 2 ^ 112 * (ctx.getD 0 % 4096) + 2 ^ 128 * (data % 2 ^ 128))

/-- CODE of an entry. -/
def entryCode (e : Entry) : Nat := bits e.toNat 79 64
/-- SEVERITY of an entry. -/
def entrySev (e : Entry) : Nat := bits e.toNat 103 96
/-- TICK of an entry. -/
def entryTick (e : Entry) : Nat := bits e.toNat 63 0
/-- An entry with LOST_BEFORE set (R645). -/
def entryWithLost (e : Entry) (b : Bool) : Entry := if b then e ||| BitVec.ofNat 256 (2 ^ 105) else e

/-- DATA from fields, each as offset and value. -/
def dataOf (fs : List (Nat × Nat)) : Nat := fs.foldl (fun a f => a + f.2 * 256 ^ f.1) 0

/-- The entries of the ring, oldest first (R641). -/
def Alm.entries (a : Alm) : List Entry :=
  let n := min a.count 4096
  (List.range n).map (fun i => SMap.get (fun _ => 0) a.ring ((a.count - n + i) % 4096))

/-- The record the next freeze takes: the one after the last completed that is not held (R652). -/
def State.nextRecord (s : State) : Option Nat :=
  let first := match s.nvm.frozenLast with
    | some k => k + 1
    | none => 0
  ((List.range 8).map (fun i => (first + i) % 8)).find? (fun k => !s.nvm.frozenHold.testBit k)

/-- A freeze begins with the present ring (R650 steps 1 and 2): the chosen record becomes invalid until it completes; when
every record is held nothing is written and ALM_FROZEN_LOST rises (R652). -/
def State.startFreeze (s : State) (trigger : Entry) (origin : Nat) (rec : Option Nat) : State :=
  let seq := match rec with
    | some _ => s.nvm.frozenSeq + 1
    | none => 0
  let nvm := match rec with
    | some k => { s.nvm with frozen := SMap.set (fun _ => none) s.nvm.frozen k none }
    | none => { s.nvm with frozenLost := s.nvm.frozenLost + 1 }
  { s with
    nvm := nvm
    alm := { s.alm with freeze := some ⟨rec, seq, entryTick trigger, entryCode trigger, origin, s.alm.count,
                                        s.alm.entries, 0⟩ } }

/-- A PlatformEventMessage carries an entry to the event receiver (R661): a PLDM request of type 2, command 0x0A, format version 1, with the
module's TID and OEM event class 0xFA. -/
def State.platformEvent (s : State) (e : Entry) : State :=
  match s.mctp.receiver with
  | some (b, eid) =>
    if s.fld Reg.almEventSev 2 0 ≤ entrySev e then s.emit (.mctp b eid 0x01 ([0x80, 0x02, 0x0A, 1, BitVec.ofNat 8 s.mctp.tid, 0xFA] ++ leBytes 32 e.toNat)) else s
  | none => s

/-- An entry enters the ring (R641). -/
def State.ringPut (s : State) (e : Entry) : State :=
  { s with alm := { s.alm with ring := SMap.set (fun _ => 0) s.alm.ring (s.alm.count % 4096) e, count := s.alm.count + 1 } }.platformEvent e

/-- An entry enters the ring; one of severity FATAL starts a freeze (R643, R649). -/
def State.toRing (s : State) (e : Entry) : State :=
  let s := s.ringPut e
  if entrySev e = 4 && s.alm.freeze.isNone then s.startFreeze e 0 s.nextRecord else s

/-- The event after a lost one has been marked (R645). -/
def State.lossTold (s : State) : State := { s with alm := { s.alm with lostBefore := false } }

/-- An entry waits while a freeze runs; one that finds 256 waiting is lost (R645). -/
def State.toQueue (s : State) (e : Entry) : State :=
  if s.alm.queue.length < 256 then { s with alm := { s.alm with queue := s.alm.queue ++ [e], lostBefore := false } }
  else ({ s with alm := { s.alm with lostBefore := true } }.bump Reg.almLost).setBit Reg.almStatus 9 true

/-- Powered hours over the module's life (R601); one hour is 90,000,000,000 ticks. -/
def State.hours (s : State) : Nat := (s.parity.powered + s.tick) / 90000000000

/-- A local event is counted with its powered hour; those older than 720 powered hours are forgotten (R601). -/
def State.noteLocal (s : State) : State :=
  { s with parity := { s.parity with events := s.hours :: s.parity.events.filter (fun h => decide (s.hours < h + 720)) } }

/-- An event is recorded (R645, R646), with LOST_BEFORE where the one before it was lost; those of R601 are counted. The boot ROM and recovery mode record nothing (R641). EV_PWR_HOLDUP joins a running
freeze as its LATE entry (R664). -/
def State.event (s : State) (code : Nat) (src : Nat × Nat) (ctx : Option Nat) (data : Nat) : State :=
  let s := if [0x0404, 0x0805, 0x0815, 0x0906].contains code then s.noteLocal else s
  if s.recovery || decide (s.stage = 0) then s
  else
    let e := entryWithLost (mkEntry s.tick code src ctx false data) s.alm.lostBefore
    match s.alm.freeze with
    | none => s.lossTold.toRing e
    | some f =>
      let s := if code = 0x0702 then { s with alm := { s.alm with freeze := some { f with late := e } } } else s
      s.toQueue e

/-- Queued entries enter the ring, until one of them starts a freeze (R650 step 5, R664). EV_PWR_HOLDUP has joined the freeze that ran, and
starts none of its own. -/
def State.drainFuel : Nat → State → State
  | 0, s => s
  | n + 1, s =>
    match s.alm.queue, s.alm.freeze with
    | e :: q, none =>
      let s : State := { s with alm := { s.alm with queue := q } }
      State.drainFuel n (if entryCode e = 0x0702 then s.ringPut e else s.toRing e)
    | _, _ => s

/-- A host or MCTP freeze (R649): it records EV_ALM_FREEZE as its own trigger, with the record and SEQ just chosen; it is
ignored while a freeze runs (R664). -/
def State.requestFreeze (s : State) (origin : Nat) : State :=
  match s.alm.freeze with
  | some _ => s
  | none =>
    if s.recovery || decide (s.stage = 0) then s
    else
      let rec' := s.nextRecord
      let seq := match rec' with
        | some _ => s.nvm.frozenSeq + 1
        | none => 0
      let e := entryWithLost (mkEntry s.tick 0x0A01 Src.module none false
        (dataOf [(0, rec'.getD 0xFF), (4, seq), (8, 0x0A01), (10, origin)])) s.alm.lostBefore
      let s := s.lossTold.toRing e
      s.startFreeze e origin rec'

/-- The 256-byte header of a frozen record (R651) as a little-endian number; `magic` only once it is complete. -/
def freezeHeader (s : State) (f : Freeze) : Nat :=
  0x464D4C41 + 2 ^ 32 * f.seq + 2 ^ 64 * f.tick + 2 ^ 128 * f.trigger + 2 ^ 144 * f.entries.length +
  2 ^ 160 * s.nvm.powerOns + 2 ^ 192 * f.count + 2 ^ 256 * s.nat Reg.idFwVersion + 2 ^ 288 * s.nat Reg.nvsCfgTag +
  2 ^ 320 * leNat ((List.range 8).flatMap (fun i => leBytes 4 (s.nat (Reg.imgDigest i)))) + 2 ^ 576 * f.late.toNat

/-- The status register of the almanac as it reads (R665): LAST_RECORD and FROZEN_VALID come from NVM. -/
def State.almStatus (s : State) : Word :=
  let w := s.reg Reg.almStatus &&& 0x200
  let w := Machine.setBit w 8 s.alm.freeze.isSome
  let w := match s.nvm.frozenLast with
    | some k => Machine.setFld w 19 16 (8 + k)
    | none => w
  Machine.setFld w 7 0 ((List.range 8).foldl (fun a k => a + 2 ^ k * b2n (SMap.get (fun _ => none) s.nvm.frozen k).isSome) 0)

end Sys2Proof.Machine
end

