-- ==== Sys2Proof/Machine/Ceilings.lean ====
section
/-! DEFINITION. The frequency-ceiling table (R497), in units of 5 MHz. -/
namespace Sys2Proof.Machine

/-- FACTORY of a core: fused, never above the variant maximum (R497); unlisted it is that maximum (log entry 1). -/
def State.factory (s : State) (core : Nat) : Nat :=
  min (SMap.get (fun _ => clockMax s.fuses.variant / 5) s.fuses.factory core) (clockMax s.fuses.variant / 5)
/-- CEILING of a core; 0 in NVM stands for FACTORY. -/
def State.ceiling (s : State) (core : Nat) : Nat :=
  let v := SMap.get (fun _ => 0) s.nvm.ceilings core
  if v = 0 then s.factory core else v
/-- ABFT_CAP of a core. -/
def State.abftCap (s : State) (core : Nat) : Nat :=
  let v := SMap.get (fun _ => 0) s.nvm.abftCaps core
  if v = 0 then s.factory core else v
/-- CEILING of a core set in NVM. -/
def State.setCeiling (s : State) (core v : Nat) : State :=
  { s with nvm := { s.nvm with ceilings := SMap.set (fun _ => 0) s.nvm.ceilings core v } }
/-- ABFT_CAP of a core set in NVM. -/
def State.setAbftCap (s : State) (core v : Nat) : State :=
  { s with nvm := { s.nvm with abftCaps := SMap.set (fun _ => 0) s.nvm.abftCaps core v } }

/-- The step of R213 in units of 5 MHz. -/
def abftStep (variant : Nat) : Nat := if variant = 9 then 8 else if variant = 8 then 7 else 6

end Sys2Proof.Machine
end

