-- ==== Sys2Proof/Machine/Flags.lean ====
section
/-! DEFINITION. Status codes, warning bits and failure codes, by number (R164, R165, R105). -/
namespace Sys2Proof.Machine

/-- ST_OK (R164). -/
abbrev St.ok : Nat := 0x00
/-- ST_ALREADY_COMPLETE (R164). -/
abbrev St.alreadyComplete : Nat := 0x01
/-- ST_ABORTED (R164). -/
abbrev St.aborted : Nat := 0x02
/-- ST_TIMEOUT (R164). -/
abbrev St.timeout : Nat := 0x03
/-- ST_GUILTY (R164). -/
abbrev St.guilty : Nat := 0x04
/-- ST_RESET_LOST (R164). -/
abbrev St.resetLost : Nat := 0x05
/-- ST_UNCORRECTABLE (R164). -/
abbrev St.uncorrectable : Nat := 0x06
/-- ST_FENCED (R164). -/
abbrev St.fenced : Nat := 0x07
/-- ST_ABSENT_UNIT (R164). -/
abbrev St.absentUnit : Nat := 0x08
/-- ST_NO_IMAGE (R164). -/
abbrev St.noImage : Nat := 0x09
/-- ST_BAD_DESCRIPTOR (R164). -/
abbrev St.badDescriptor : Nat := 0x0A
/-- ST_KEY_FORMAT (R164). -/
abbrev St.keyFormat : Nat := 0x0B
/-- ST_PAGE_STATE (R164). -/
abbrev St.pageState : Nat := 0x0C
/-- ST_CONFIG_SKEW (R164). -/
abbrev St.configSkew : Nat := 0x0D
/-- ST_PEER_ABORT (R164). -/
abbrev St.peerAbort : Nat := 0x0E
/-- ST_DEFERRED (R164). -/
abbrev St.deferred : Nat := 0x0F
/-- ST_NOT_PERMITTED (R164). -/
abbrev St.notPermitted : Nat := 0x10
/-- ST_RETIRED (R164). -/
abbrev St.retired : Nat := 0x11
/-- ST_BUSY (R164). -/
abbrev St.busy : Nat := 0x12

/-- W_SATURATED (R165). -/
abbrev Wn.saturated : Nat := 0
/-- W_SENTINEL_DRIFT (R165). -/
abbrev Wn.sentinelDrift : Nat := 1
/-- W_STEP_SKEW (R165). -/
abbrev Wn.stepSkew : Nat := 2
/-- W_ABFT_RETRY (R165). -/
abbrev Wn.abftRetry : Nat := 3
/-- W_TORN (R165). -/
abbrev Wn.torn : Nat := 4
/-- W_CLASH (R165). -/
abbrev Wn.clash : Nat := 5
/-- W_THROTTLED (R165). -/
abbrev Wn.throttled : Nat := 6
/-- W_PARTIAL (R165). -/
abbrev Wn.isPartial : Nat := 7

/-- A warning mask with bit `b` set. -/
def setWarn (w b : Nat) : Nat := w ||| 2 ^ b

end Sys2Proof.Machine
end

