-- ==== Sys2Proof/Machine/Operands.lean ====
section
/-! DEFINITION. Operand forms: internal addresses (R46–R48), the forms of a region (R292–R295), locators (R328), interleave
modes and grants (R299–R303), retired units (R318–R321), and the units of a polder (R28–R31, R61–R62). -/
namespace Sys2Proof.Machine

/-! ### Internal addresses -/

/-- Bits [47:40] of an internal address: its space (R46). -/
def addrSpace (a : Nat) : Nat := a / 2 ^ 40
/-- The core number field of a stack or local-store address (R46). -/
def addrCore (a : Nat) : Nat := bits a 39 32
/-- The offset of a stack, shared-memory or local-store address (R46). -/
def addrOff (a : Nat) : Nat := bits a 31 0
/-- The IOVA of a host-memory address (R46). -/
def addrIova (a : Nat) : Nat := bits a 43 0
/-- The address lies in host memory, spaces 0x10 to 0x1F (R46). -/
def isHost (a : Nat) : Bool := decide (0x10 ≤ addrSpace a) && decide (addrSpace a ≤ 0x1F)
/-- The device number of a fabric peer address (R46). -/
def addrDevice (a : Nat) : Nat := bits a 39 28
/-- The offset of a fabric peer address (R46). -/
def addrPeerOff (a : Nat) : Nat := bits a 27 0

/-- The end of the valid offsets of a space (R46). -/
def spaceSize (sp : Nat) : Nat :=
  if sp = 0 then 0x30000000 else if sp = 1 then 0x1800000 else if sp = 2 then 0x300000 else 0

/-- A range of `n` bytes from `a` passes R46 and R48: a space that exists, an offset in its valid range, zero where a field
must be 0, and an end that stays in the same unit of the space. -/
def rangeOk (a n : Nat) : Bool :=
  let sp := addrSpace a
  if sp = 0 || sp = 2 then decide (addrOff a < spaceSize sp) && decide (addrOff a + n ≤ spaceSize sp)
  else if sp = 1 then decide (bits a 39 37 = 0) && decide (addrOff a < spaceSize 1) && decide (addrOff a + n ≤ spaceSize 1)
  else if isHost a then decide (addrIova a + n ≤ 2 ^ 44)
  else if sp = 0x20 then decide (addrPeerOff a + n ≤ 2 ^ 28)
  else false

/-- One address passes R48. -/
def addrOk (a : Nat) : Bool := rangeOk a 1

/-! ### Polders -/

/-- The record of a polder (R61). -/
def Image.polder (im : Image) (p : Nat) : Option PolderRec := im.polders.find? (fun r => r.num == p)

/-- The polder that holds a cluster (R28). -/
def Image.clusterPolder (im : Image) (c : Nat) : Option Nat :=
  (im.polders.find? (fun r => r.clusters.testBit c)).map (fun r => r.num)

/-- The polder that holds a core's cluster. -/
def Image.corePolder (im : Image) (n : Nat) : Option Nat := im.clusterPolder (n / 8)

/-- The core takes work: its CORE_MASK bit is set (R62). -/
def PolderRec.takes (r : PolderRec) (n : Nat) : Bool := r.coreMask.testBit n

/-- The participating cores of a polder, ascending (R198). -/
def PolderRec.cores (r : PolderRec) : List Nat := bitsOf 256 r.coreMask

/-- The polder of a context: BOUND with a defined polder (R97, R178). -/
def State.ctxPolder (s : State) (ctx : Nat) : Nat := s.fld (Reg.ctxBind ctx) 4 0

/-- The polder that holds a cluster under the image in force. -/
def State.clusterPolder (s : State) (c : Nat) : Option Nat := s.image.bind (fun im => im.clusterPolder c)

/-- The polder that holds a core under the image in force. -/
def State.corePolder (s : State) (n : Nat) : Option Nat := s.clusterPolder (n / 8)

/-- The record of a polder of the image in force. -/
def State.polderRec (s : State) (p : Nat) : Option PolderRec := s.image.bind (fun im => im.polder p)

/-- FORMATS record of a polder (R72). -/
def State.formatRec (s : State) (p : Nat) : Option FormatRec :=
  s.image.bind (fun im => im.formats.find? (fun r => r.polder == p))

/-- ATTN record of a polder (R79). -/
def State.attnRec (s : State) (p : Nat) : Option AttnRec :=
  s.image.bind (fun im => im.attn.find? (fun r => r.polder == p))

/-! ### Regions, banks and rows -/

/-- A grant covers some byte of region `r` of column `c`. -/
def GrantRec.coversRegion (g : GrantRec) (c r : Nat) : Bool :=
  g.columns.testBit c && overlap g.offset g.length (0x2000000 * r) 0x2000000

/-- Region `r` of column `c` is in rotated form: a grant of BANK, CLUSTER or POLDER mode covers part of it (R294). -/
def State.rotated (s : State) (c r : Nat) : Bool :=
  match s.image with
  | some im => im.grants.any (fun g => decide (g.mode ≠ 0) && g.coversRegion c r)
  | none => false

/-- The cell at which physical offset `p` of column `c` lies, numbered as in linear form: region [29:25], bank [24:21], row
of the region [20:11], byte [10:0] (R293). Both forms place a region in the same cells, so cells keep their contents when
the form changes. -/
def State.cellOf (s : State) (c p : Nat) : Nat :=
  if s.rotated c (bits p 29 25) then
    2 ^ 25 * bits p 29 25 + 2 ^ 21 * bits p 14 11 + 2 ^ 11 * bits p 24 15 + bits p 10 0
  else p

/-- The physical offset of a cell: the inverse of `cellOf`. -/
def State.offOfCell (s : State) (c q : Nat) : Nat :=
  if s.rotated c (bits q 29 25) then
    2 ^ 25 * bits q 29 25 + 2 ^ 15 * bits q 20 11 + 2 ^ 11 * bits q 24 21 + bits q 10 0
  else q

/-- Layer part of a cell: 0 for ML2k, 1 for ML2k+1 (R293). -/
def cellLayer (q : Nat) : Nat := if bits q 29 25 < 12 then 0 else 1
/-- Bank of a cell within its layer part. -/
def cellBank (q : Nat) : Nat := bits q 24 21
/-- Row of a cell within its bank (R293). -/
def cellRow (q : Nat) : Nat := 1024 * (bits q 29 25 % 12) + bits q 20 11
/-- Bank index of a cell: 16 × L + b (R330). -/
def cellBankIdx (q : Nat) : Nat := 16 * cellLayer q + cellBank q

/-- The locator of a cell's block (R328). -/
def locatorOf (q : Nat) : Word :=
  BitVec.ofNat 32 (2 ^ 31 + 2 ^ 30 * cellLayer q + 2 ^ 26 * cellBank q + 2 ^ 12 * cellRow q + 2 ^ 7 * bits q 10 6)

/-- The key of a byte of stack memory. -/
def dramKey (c q : Nat) : Nat := 2 ^ 30 * c + q
/-- The key of a block of stack memory. -/
def blockKey (c q : Nat) : Nat := dramKey c q / 64
/-- The first byte of a block given by its key. -/
def blockByte (k : Nat) : Nat := 64 * k

/-- The column failed training (R613). -/
def State.colFailed (s : State) (c : Nat) : Bool := s.flag (Reg.idMemFailed 0) c

/-! ### Grants and interleave -/

/-- A grant covers address (core number `n`, offset `o`) with every access bit of `need` (R69, R70). -/
def GrantRec.covers (g : GrantRec) (n o need : Nat) : Bool :=
  g.columns.testBit n && decide (g.offset ≤ o) && decide (o < g.offset + g.length) && decide (g.access &&& need = need)

/-- The set of columns over which a CLUSTER or POLDER grant spreads an address (R299). -/
def GrantRec.set (g : GrantRec) (n : Nat) : List Nat :=
  if g.mode = 2 then (List.range 8).map (fun i => 8 * (n / 8) + i) else bitsOf 256 g.columns

/-- The physical column and offset of an address under a grant (R299, R300). -/
def GrantRec.map (g : GrantRec) (n o : Nat) : Nat × Nat :=
  if g.mode < 2 then (n, o)
  else
    let st := g.set n
    let l := st.idxOf n * g.length + (o - g.offset)
    let j := l / 4096
    (st.getD (j % st.length) 0, g.offset + j / st.length * 4096 + l % 4096)

/-- The grant of a polder through which it reaches an address (R303). -/
def State.grantFor (s : State) (p n o need : Nat) : Option GrantRec :=
  s.image.bind (fun im => im.grants.find? (fun g => g.polder == p && g.covers n o need))

/-- Every 2 MiB device page of a range in one column is granted to the polder with the access needed (R30, R303). -/
def State.granted (s : State) (p n o len need : Nat) : Bool :=
  (List.range (cdiv (o % 0x200000 + len) 0x200000)).all (fun i => (s.grantFor p n (max o (o / 0x200000 * 0x200000 + i * 0x200000)) need).isSome)

/-! ### Retired units -/

/-- KIND of a retirement entry (R318). -/
def retKind (e : Word) : Nat := fld e 31 30
/-- COLUMN of a retirement entry. -/
def retCol (e : Word) : Nat := fld e 29 22
/-- PAGE of a page entry. -/
def retPage (e : Word) : Nat := fld e 8 0
/-- LAYER of a bank entry. -/
def retLayer (e : Word) : Nat := fld e 4 4
/-- BANK of a bank entry. -/
def retBank (e : Word) : Nat := fld e 3 0

/-- A retired unit removes physical offset `p` of column `c` (R321, linear form and rotated form in BANK mode). -/
def State.retiredAt (s : State) (c p : Nat) : Bool :=
  let r := bits p 29 25
  let rot := s.rotated c r
  let q := s.cellOf c p
  s.mem.retired.any (fun e => decide (retCol e = c) &&
    (if retKind e = 0 then (if rot then decide (retPage e / 16 = r) else decide (retPage e = 16 * r + cellBank q))
     else decide (retLayer e = cellLayer q) && (rot || decide (retBank e = cellBank q))))

/-- A retired unit removes the device page of an address reached through a grant (R71, R321). -/
def State.retiredVia (s : State) (g : GrantRec) (n o : Nat) : Bool :=
  if g.mode < 2 then s.retiredAt n o
  else
    let st := g.set n
    let r := bits (g.map n (o / 0x200000 * 0x200000)).2 29 25
    s.mem.retired.any (fun e => st.contains (retCol e) &&
      (if retKind e = 0 then decide (retPage e / 16 = r) else decide (retLayer e = if r < 12 then 0 else 1)))

/-! ### Counters -/

/-- A counter reference (R156): scope, unit, the reserved bytes, index. -/
structure CtrRef where
  scope : Nat
  unit : Nat
  resv : Nat
  index : Nat
  deriving DecidableEq, Repr

/-- The counter reference at byte `off` of a descriptor. -/
def ctrRef (d : Desc) (off : Nat) : CtrRef := ⟨dbyte d off, dbyte d (off + 1), dfld d (off + 2) 2, dfld d (off + 4) 4⟩

/-- The counter ranges of a scope: a polder's, or the device counters with 255 (R65). -/
def Image.ranges (im : Image) (scope : Nat) : List CounterRec := im.counters.filter (fun r => r.scope == scope)

/-- How many counters a scope has (R66). -/
def Image.counterCount (im : Image) (scope : Nat) : Nat := (im.ranges scope).foldl (fun a r => a + r.count) 0

/-- The home of a polder or device counter: its cluster and byte offset in the cluster's shared memory (R66). -/
def Image.counterHome (im : Image) (scope idx : Nat) : Option (Nat × Nat) :=
  ((im.ranges scope).find? (fun r => decide (r.first ≤ idx) && decide (idx < r.first + r.count))).map
    (fun r => (r.cluster, r.offset + 4 * (idx - r.first)))

/-- A counter reference is checked (R271): the status of the first rule it breaks, or ST_OK. -/
def State.ctrCheck (s : State) (polder : Nat) (c : CtrRef) : Nat :=
  match s.image, s.polderRec polder with
  | some im, some pr =>
    if c.scope = 0 then
      if 64 ≤ c.index then 0x0A
      else if !pr.takes c.unit then 0x10
      else if c.index < 16 then 0x10 else 0
    else if c.scope = 1 then
      if 32 ≤ c.unit || 1024 ≤ c.index then 0x0A
      else if pr.clusters.testBit c.unit then 0 else 0x10
    else if c.scope = 2 then (if decide (c.unit ≠ 0) || im.counterCount polder ≤ c.index then 0x0A else 0)
    else if c.scope = 3 then (if decide (c.unit ≠ 0) || im.counterCount 255 ≤ c.index then 0x0A else 0)
    else 0x0A
  | _, _ => 0x09

/-- A range of shared memory of a cluster that an image's counters occupy (R34, R66). -/
def State.inCounters (s : State) (cl off n : Nat) : Bool :=
  match s.image with
  | some im => im.counters.any (fun r => r.cluster == cl && overlap off n r.offset (4 * r.count))
  | none => false

end Sys2Proof.Machine
end

