-- ==== Sys2Proof/Machine/RsCode.lean ====
section
/-! DEFINITION. The block code of stack memory (R309, R310): Reed-Solomon over GF(2^8), 64 data and 8 check bytes.
The code is linear, so the decoder's answer depends on the error pattern alone: a stored block is what was written,
exclusive-or a pattern, and decoding works on the pattern. -/
namespace Sys2Proof.Machine

/-- Multiplication by `x` in the field of R309. -/
def gfX (a : Nat) : Nat := if a < 128 then 2 * a else (2 * a) ^^^ 0x11D

/-- Multiplication in GF(2^8) with the polynomial 0x11D. -/
def gfMulFuel : Nat → Nat → Nat → Nat
  | 0, _, _ => 0
  | n + 1, a, b => (if b % 2 = 1 then a else 0) ^^^ gfMulFuel n (gfX a) (b / 2)

/-- Multiplication in GF(2^8). -/
def gfMul (a b : Nat) : Nat := gfMulFuel 8 a b

/-- `a ^ n`. -/
def gfPow (a : Nat) : Nat → Nat
  | 0 => 1
  | n + 1 => gfMul a (gfPow a n)

/-- The inverse, `a ^ 254`. -/
def gfInv (a : Nat) : Nat := gfPow a 254

/-- `α ^ n`, with α = 0x02. -/
def gfAlpha (n : Nat) : Nat := gfPow 2 (n % 255)

/-- Value at `x` of a polynomial given with its highest coefficient first. -/
def polyEval (c : List Nat) (x : Nat) : Nat := c.foldl (fun a b => gfMul a x ^^^ b) 0

/-- The 8 syndromes of a 72-byte word: its values at α^0 … α^7. The byte at position `k` is the coefficient of x^(71−k). -/
def syndromes (w : List Nat) : List Nat := (List.range 8).map (fun i => polyEval w (gfAlpha i))

/-- Multiplication of a polynomial by (x − r); highest coefficient first. -/
def polyMulRoot (c : List Nat) (r : Nat) : List Nat :=
  List.zipWith (fun a b => a ^^^ gfMul r b) (c ++ [0]) (0 :: c)

/-- The generator g(x) = (x − α^0) … (x − α^7), highest coefficient first. -/
def rsGenerator : List Nat := (List.range 8).foldl (fun g i => polyMulRoot g (gfAlpha i)) [1]

/-- One step of the division by the generator: the 8-byte remainder register after data byte `d`. -/
def rsStep (g r : List Nat) (d : Nat) : List Nat :=
  let f := d ^^^ r.headD 0
  List.zipWith (fun a b => a ^^^ gfMul f b) (r.drop 1 ++ [0]) (g.drop 1)

/-- The 8 check bytes of 64 data bytes (R309). -/
def rsCheck (data : List Nat) : List Nat := data.foldl (rsStep rsGenerator) (List.replicate 8 0)

/-- Berlekamp–Massey over the syndromes; polynomials lowest coefficient first. State: C, B, L, m, b. -/
def bmStep (s : List Nat) (st : List Nat × List Nat × Nat × Nat × Nat) (n : Nat) : List Nat × List Nat × Nat × Nat × Nat :=
  let (c, bp, l, m, b) := st
  let d := (List.range (l + 1)).foldl (fun a i => a ^^^ gfMul (c.getD i 0) (if i ≤ n then s.getD (n - i) 0 else 0)) 0
  if d = 0 then (c, bp, l, m + 1, b) else
  let k := gfMul d (gfInv b)
  let sh := List.replicate m 0 ++ bp.map (gfMul k)
  let len := max c.length sh.length
  let c' := (List.range len).map (fun i => c.getD i 0 ^^^ sh.getD i 0)
  if 2 * l ≤ n then (c', c, n + 1 - l, 1, d) else (c', bp, l, m + 1, b)

/-- The error locator of a syndrome list, lowest coefficient first, with its degree. -/
def errLocator (s : List Nat) : List Nat × Nat :=
  let r := (List.range 8).foldl (bmStep s) ([1], [1], 0, 1, 1)
  (r.1, r.2.2.1)

/-- The byte positions (0 … 71) at which the locator says an error lies. -/
def errPositions (c : List Nat) : List Nat :=
  (List.range 72).filter (fun k => polyEval c.reverse (gfInv (gfAlpha (71 - k))) == 0)

/-- Gauss elimination of a square system, fuel-bounded: rows hold coefficients and the right side. -/
def gfSolve : Nat → List (List Nat) → List Nat
  | 0, _ => []
  | n + 1, rows =>
    match rows.find? (fun r => r.headD 0 != 0) with
    | none => []
    | some p =>
      let iv := gfInv (p.headD 1)
      let pn := p.map (gfMul iv)
      let rest := (rows.erase p).map (fun r => ((r.zip pn).map (fun q => q.1 ^^^ gfMul (r.headD 0) q.2)).drop 1)
      let sol := gfSolve n rest
      let x := (((pn.drop 1).zip sol).foldl (fun a q => a ^^^ gfMul q.1 q.2) ((pn.getLast?).getD 0))
      x :: sol

/-- The corrections (position, value) the decoder makes for a 72-byte word, or none when it reports it uncorrectable. -/
def rsDecode (w : List Nat) : Option (List (Nat × Nat)) :=
  let s := syndromes w
  if s.all (· == 0) then some [] else
  let (c, l) := errLocator s
  if 4 < l then none else
  let pos := errPositions c
  if pos.length ≠ l then none else
  let rows := (List.range l).map (fun i => (pos.map (fun k => gfPow (gfAlpha (71 - k)) i)) ++ [s.getD i 0])
  let vals := gfSolve l rows
  let corr := pos.zip vals
  let fixed := (List.range 72).map (fun k => w.getD k 0 ^^^ ((corr.find? (·.1 == k)).map (·.2)).getD 0)
  if vals.length = l && (syndromes fixed).all (· == 0) then some corr else none

/-- The 72 bytes of a pattern. -/
def patBytes (p : Pattern) : List Nat := (List.range 72).map (fun k => bits p.toNat (8 * k + 7) (8 * k))

/-- What a read of a block with error pattern `p` finds: none when uncorrectable, otherwise the number of bytes
corrected and what is left over the written data (0 unless the pattern was miscorrected, R310). -/
def blockDecode (p : Pattern) : Option (Nat × BitVec 512) :=
  if p = 0 then some (0, 0) else
  match rsDecode (patBytes p) with
  | none => none
  | some corr =>
    let e := corr.foldl (fun a q => a ^^^ (q.2 <<< (8 * q.1))) 0
    some (corr.length, BitVec.ofNat 512 (p.toNat ^^^ e))

end Sys2Proof.Machine
end

