-- ==== Sys2Proof/Machine/Blocks.lean ====
section
/-! DEFINITION. Commands in flight, the surroundings of a command, who reaches what (R31), and the blocks of stack memory under the
block code (R309–R317, R323). -/
namespace Sys2Proof.Machine

/-! ### Commands in flight -/

/-- The command in flight with an identity. -/
def State.cmd? (s : State) (id : Nat) : Option Cmd := s.cmds.find? (fun c => c.id == id)

/-- The record of a command in flight changed. -/
def State.updCmd (s : State) (id : Nat) (f : Cmd → Cmd) : State :=
  { s with cmds := s.cmds.map (fun c => if c.id = id then f c else c) }

/-- A warning bit of a command in flight set. -/
def State.warnCmd (s : State) (id b : Nat) : State := s.updCmd id (fun c => { c with warn := setWarn c.warn b })

/-- A write of a command has reached memory. -/
def State.wroteCmd (s : State) (id : Nat) : State := s.updCmd id (fun c => { c with wrote := true })

/-- The units of a command have ended with a status, and with a failing address where there is one (R160, R162). -/
def State.endCmd (s : State) (id status : Nat) (addr : Option Nat) : State :=
  s.updCmd id (fun c => match c.phase with
    | .stopping _ _ => c
    | _ => { c with phase := .done status, errAddr := addr })

/-- The statuses that leave a failing address in CTX_ERR_ADDR (R162). -/
def notesAddr (st : Nat) : Bool := st = St.uncorrectable || st = St.retired || st = St.notPermitted || st = St.badDescriptor

/-- The units of a command have ended at an access that failed (R162, R317). -/
def State.failCmd (s : State) (id : Nat) (e : Nat × Nat) : State :=
  s.updCmd id (fun c => match c.phase with
    | .stopping _ _ => c
    | _ => { c with phase := .done e.1, errAddr := if notesAddr e.1 then some e.2 else none,
                    errMem := decide (e.1 = St.uncorrectable) && decide (addrSpace e.2 = 0) })

/-- What a core holds beside its registers; a core that nothing has run on holds nothing. -/
def State.core (s : State) (n : Nat) : CoreState := SMap.get (fun _ => CoreState.clear) s.cores n
/-- It replaced. -/
def State.setCore (s : State) (n : Nat) (c : CoreState) : State :=
  { s with cores := SMap.set (fun _ => CoreState.clear) s.cores n c }
/-- What every core holds changed. -/
def State.mapCores (s : State) (f : CoreState → CoreState) : State :=
  { s with cores := (s.cores.map (fun e => (e.1, f e.2))).filter (fun e => decide (e.2 ≠ CoreState.clear)) }
/-- The shadow work of a command is discarded (R253). -/
def State.dropShadow (s : State) (id : Nat) : State :=
  s.mapCores (fun k => { k with shadow := k.shadow.filter (fun sh => sh.cmd != id) })

/-- Polder of a command. -/
def State.polderOf (s : State) (c : Cmd) : Nat := s.ctxPolder c.ctx

/-- FLOW_STOP is set, or the module has tripped and stays in that state: nothing is fetched and no engine issues (R537, R540). -/
def State.flowStopped (s : State) : Bool := s.thermal.flowStop.isSome || s.bit Reg.thmStatus 31

/-- A power-cycle request is in force: no descriptor is fetched (R573 step 4). -/
def State.powerRequested (s : State) : Bool := s.resets.powerReq.isSome

/-- The clocks of arrays, NBUs and BD engines stand still (R486, R536, R539, R573). -/
def State.halted (s : State) : Bool := s.flowStopped || s.powerRequested || s.power.holdup

/-! ### The surroundings -/

/-- What the surroundings bring to a command: the host's stores, its present mapping, and new errors in stack memory. -/
def State.arrive (s : State) (env : Env) : State :=
  let errs := env.upsets.foldl (fun m u =>
    let k := blockKey (u.col % 256) (s.cellOf (u.col % 256) (u.off % 2 ^ 30 / 64 * 64))
    let e := SMap.get (fun _ => ⟨0, 0⟩) m k
    SMap.set (fun _ => ⟨0, 0⟩) m k ⟨e.now ^^^ u.pat, if u.hard then e.hard ^^^ u.pat else e.hard⟩) s.mem.errs
  let word := fun (m : SMap Nat) (k : Nat) (u : SramUpset) =>
    SMap.set (fun _ => 0) m k (if u.double then 2 else max 1 (SMap.get (fun _ => 0) m k))
  let sh := env.sram.foldl (fun m u =>
    if u.cluster then word m ((2 ^ 25 * (u.unit % 32) + u.off % 0x1800000) / 8) u else m) s.mem.sharedErr
  let lo := env.sram.foldl (fun m u =>
    if u.cluster then m else word m ((2 ^ 22 * (u.unit % 256) + u.off % 0x300000) / 8) u) s.mem.localErr
  { s with
    host := ⟨env.stores.foldl (fun m c => SMap.set (fun _ => 0) m c.1 c.2) s.host.mem, env.unmapped, env.poisoned⟩
    mem := { s.mem with errs := errs, sharedErr := sh, localErr := lo } }

/-! ### Who asks -/

/-- Which on-die stores an engine reaches (R31): a DMA command all of its polder's, a core's array and vector unit its own
core's local store and the shared memories, a BD engine no local store, and an NBU neither. -/
inductive Reach where
  | dma
  | core (n : Nat)
  | bd
  | nbu
  deriving DecidableEq, Repr

/-- The engine reaches the local store of a core (R31). -/
def Reach.locals : Reach → Nat → Bool
  | .dma, _ => true
  | .core n, m => n == m
  | .bd, _ => false
  | .nbu, _ => false

/-- The engine reaches cluster shared memory (R31). -/
def Reach.shared : Reach → Bool
  | .nbu => false
  | .dma => true
  | .core _ => true
  | .bd => true

/-- A requester of stack memory: its class as MEM_UE_SRC numbers it (R327), the context, the command, and which on-die stores it
reaches. -/
structure Req where
  cls : Nat
  ctx : Option Nat
  cmd : Option Nat
  reach : Reach
  deriving DecidableEq, Repr

/-- The host through BAR2. -/
def Req.host : Req := ⟨2, none, none, .bd⟩
/-- A fabric peer. -/
def Req.peer : Req := ⟨3, none, none, .bd⟩
/-- A BD engine without a command. -/
def Req.bd : Req := ⟨5, none, none, .bd⟩
/-- The patrol scrubber. -/
def Req.scrubber : Req := ⟨6, none, none, .bd⟩

/-- A core's engine serving a command: class 0 in its own column, otherwise 1. -/
def reqCore (c : Cmd) (core col : Nat) : Req := ⟨if core = col then 0 else 1, some c.ctx, some c.id, .core core⟩
/-- A core's DMA engine serving a DMA command. -/
def reqDma (c : Cmd) (core col : Nat) : Req := { reqCore c core col with reach := .dma }
/-- A BD engine serving a command. -/
def reqBd (c : Cmd) : Req := ⟨5, some c.ctx, some c.id, .bd⟩
/-- The transit DMA of BD serving a DMA command, or the DMA path of a HARVEST or RESTORE (R266, R597). -/
def reqBdDma (c : Cmd) : Req := { reqBd c with reach := .dma }
/-- An NBU serving a command. -/
def reqNbu (c : Cmd) : Req := ⟨4, some c.ctx, some c.id, .nbu⟩

/-! ### Blocks -/

/-- A range cut at the boundaries of 64-byte blocks: offset from the start, address, length. -/
def piecesFuel : Nat → Nat → Nat → Nat → List (Nat × Nat × Nat)
  | 0, _, _, _ => []
  | k + 1, i, a, n =>
    if n = 0 then [] else
    let m := min n (64 - a % 64)
    (i, a, m) :: piecesFuel k (i + m) (a + m) (n - m)

/-- The pieces of `n` bytes from `a`, at most one block each. -/
def pieces (a n : Nat) : List (Nat × Nat × Nat) := piecesFuel (n / 64 + 2) 0 a n


/-- An uncorrectable read is counted and recorded (R316). -/
def State.ueRecord (s : State) (rq : Req) (addr col q : Nat) : State :=
  let s := s.bump (Reg.memUeCount col)
  let s := s.setReg (Reg.memUeLoc col) (locatorOf q)
  let s := s.setNat (Reg.memUeSrc col) rq.cls
  s.event 0x0404 (Src.column col) rq.ctx (dataOf [(0, addr % 2 ^ 48), (8, (locatorOf q).toNat), (12, rq.cls)])

/-- The log entry of a block, if the column's log has one (R312). -/
def State.ceEntry (s : State) (col : Nat) (loc : Word) : Option Nat :=
  (List.range 16).find? (fun i => s.reg (Reg.memCeLog col i) == loc)

/-- The first free log entry of a column. -/
def State.ceFree (s : State) (col : Nat) : Option Nat :=
  (List.range 16).find? (fun i => !s.bit (Reg.memCeLog col i) 31)

/-- A corrected read is counted and logged (R312). -/
def State.ceLog (s : State) (col q n : Nat) : State :=
  let loc := locatorOf q
  let s := s.bump (Reg.memCeCount col)
  match s.ceEntry col loc, s.ceFree col with
  | some i, _ => (s.bumpFld (Reg.memCeInfo col i) 31 16 1).setFld (Reg.memCeInfo col i) 2 0 (max n (s.fld (Reg.memCeInfo col i) 2 0))
  | none, some i =>
    let s := s.setReg (Reg.memCeLog col i) loc
    let s := s.setNat (Reg.memCeInfo col i) (2 ^ 16 + n)
    s.event 0x0401 (Src.column col) none (dataOf [(0, loc.toNat), (4, n)])
  | none, none => s.bump (Reg.memCeLogLost col)

/-- The remap entry that serves a block, if there is one (R314). -/
def State.remapOf (s : State) (col : Nat) (loc : Word) : Option Nat :=
  (List.range 8).find? (fun j => s.reg (Reg.memRemap col j) == loc)

/-- A hard fault (R314, R315): its log entry is marked; the block moves to a free spare block, whose cells hold no fault; with
all eight entries in use the column is marked REMAP_FULL; a spare block with a hard fault is not remapped again. -/
def State.hardFault (s : State) (col q : Nat) : State :=
  let loc := locatorOf q
  let s := match s.ceEntry col loc with
    | some i => s.setBit (Reg.memCeInfo col i) 3 true
    | none => s
  match s.remapOf col loc, (List.range 8).find? (fun j => !s.bit (Reg.memRemap col j) 31) with
  | some _, _ => s
  | none, some j =>
    let s := s.setReg (Reg.memRemap col j) loc
    let s := s.setFld (Reg.memColStatus col) 23 20 (s.fld (Reg.memColStatus col) 23 20 + 1)
    { s with mem := { s.mem with errs := s.mem.errs.erase (blockKey col q) } }
  | none, none =>
    let s := { s with nvm := { s.nvm with remapFull := SMap.set (fun _ => false) s.nvm.remapFull col true } }
    (s.setBit (Reg.memColStatus col) 1 true).event 0x0403 (Src.column col) none (dataOf [(0, loc.toNat)])

/-- The bytes of a stored block as they were written. -/
def State.blockData (s : State) (col q : Nat) : List Byte := s.mem.dram.read (dramKey col (q / 64 * 64)) 64

/-- The error state of a block. -/
def State.blockErr (s : State) (col q : Nat) : BlockErr := SMap.get (fun _ => ⟨0, 0⟩) s.mem.errs (blockKey col q)

/-- A block written with whole contents; `over` is the error pattern laid over them. -/
def State.putBlock (s : State) (col q : Nat) (bs : List Byte) (excess : Pattern) : State :=
  { s with mem := { s.mem with
    dram := s.mem.dram.write (dramKey col (q / 64 * 64)) bs
    errs := SMap.set (fun _ => ⟨0, 0⟩) s.mem.errs (blockKey col q) ⟨excess, (s.blockErr col q).hard⟩ } }

/-- The NBU sequence running on the bank of a cell, if any. -/
def State.seqAt (s : State) (col q : Nat) : Option NbuSeq := SMap.get (fun _ => none) s.nbus (32 * col + cellBankIdx q)

/-- A range meets a declared range of a sequence. -/
def NbuSeq.meetsDst (q : NbuSeq) (p n : Nat) : Bool := overlap p n q.dstBase q.dstLen || q.extra.any (fun e => e.2.2 && overlap p n e.1 e.2.1)
/-- A range meets the declared source range of a sequence. -/
def NbuSeq.meetsSrc (q : NbuSeq) (p n : Nat) : Bool := overlap p n q.srcBase q.srcLen || q.extra.any (fun e => !e.2.2 && overlap p n e.1 e.2.1)

/-- The block lies in a declared range of a running sequence (R313). -/
def State.inDeclared (s : State) (col q : Nat) : Bool :=
  match s.seqAt col q with
  | some sq => sq.meetsDst (s.offOfCell col (q / 64 * 64)) 64 || sq.meetsSrc (s.offOfCell col (q / 64 * 64)) 64
  | none => false

/-- A read of a whole block: its corrected bytes, or none when it is uncorrectable, and what the read leaves behind
(R310–R316, R613). `writing` says that a write to the block is queued, so that no write-back is made. -/
def State.readBlock (s : State) (rq : Req) (addr col q : Nat) (writing : Bool) : Option (List Byte) × State :=
  if s.colFailed col then (none, s.ueRecord rq addr col q)
  else
    match blockDecode (s.blockErr col q).now with
    | none => (none, s.ueRecord rq addr col q)
    | some (n, left) =>
      let bs := leBytes 64 (leNat (s.blockData col q) ^^^ left.toNat)
      if n = 0 then (some bs, s)
      else
        let s := s.ceLog col q n
        let hardLogged := match s.ceEntry col (locatorOf q) with
          | some i => s.bit (Reg.memCeInfo col i) 3
          | none => false
        if writing || hardLogged || s.inDeclared col q then (some bs, s)
        else
          let s := s.putBlock col q bs (s.blockErr col q).hard
          match blockDecode (s.blockErr col q).now with
          | some (0, _) => (some bs, s)
          | some _ => (some bs, s.hardFault col q)
          | none => (some bs, s.ueRecord rq addr col q)

/-- The armed flip target names this column (R323). -/
def State.flipArmed (s : State) (col : Nat) : Bool := s.bit Reg.memFliptarget 31 && decide (s.fld Reg.memFliptarget 7 0 = col)

/-- MEM_FLIPMASK (R322). -/
def State.flipMask (s : State) : Pattern :=
  BitVec.ofNat 576 ((List.range 18).foldl (fun a i => a + 2 ^ (32 * i) * s.nat (Reg.memFlipmask i)) 0)

/-- The flip takes place: the locator is noted, ARM and the mask are cleared, and the event is recorded (R323). -/
def State.flipDone (s : State) (col q : Nat) : State :=
  let s := s.setReg Reg.memFlipLoc (locatorOf q)
  let s := s.setBit Reg.memFliptarget 31 false
  let s := (List.range 18).foldl (fun s i => s.setReg (Reg.memFlipmask i) 0) s
  s.event 0x0405 (Src.column col) none (dataOf [(0, (locatorOf q).toNat)])

/-- A block write of any writer: stored with new check bytes, so that only a returning hard fault stays over it; an armed flip
corrupts it (R311, R323). -/
def State.storeBlock (s : State) (col q : Nat) (bs : List Byte) : State :=
  let hard := (s.blockErr col q).hard
  if s.flipArmed col then (s.putBlock col q bs (hard ^^^ s.flipMask)).flipDone col q else s.putBlock col q bs hard

/-- A write of `bs` at byte `off` of a block. Less than a whole block is merged into it by read-modify-write; an
uncorrectable block is not written (R311). The answer says whether the write was made. -/
def State.writeBlock (s : State) (rq : Req) (addr col q off : Nat) (bs : List Byte) : Bool × State :=
  if s.colFailed col then (false, s.ueRecord rq addr col q)
  else if bs.length = 64 then (true, s.storeBlock col q bs)
  else
    match s.readBlock rq addr col q true with
    | (some old, s) => (true, s.storeBlock col q (old.take off ++ bs ++ old.drop (off + bs.length)))
    | (none, s) => (false, s)

end Sys2Proof.Machine
end

