-- ==== Sys2Proof/Machine/Approx.lean ====
section
/-! DEFINITION. The functions that the manual gives by formula and bounds by units in the last place (R263, R345, R394–R401): the
value of the formula to far more bits than FP32 holds, and the choice of a result within the bound. -/
namespace Sys2Proof.Machine

/-- Bits after the point in the fixed-point work below. -/
abbrev fixBits : Nat := 96
/-- ln 2 in fixed point. -/
def fixLn2 : Nat := 0xB17217F7D1CF79ABC9E3B398

/-- The exponential series of a fixed-point argument below 1, from its last term inwards. -/
def expSeries (r : Nat) : Nat → Nat → Nat
  | 0, acc => acc
  | k + 1, acc => expSeries r k (2 ^ fixBits + r * acc / ((k + 1) * 2 ^ fixBits))

/-- e^x, unrounded, to a relative error below 2^−80; beyond the range of FP32 a power of two beyond it. -/
def Num.exp : Num → Num
  | .nan => .nan
  | .inf s => if s then .zero else .inf false
  | .fin s m e =>
    if (Num.fin false 128 0).le (.fin false m e) then .fin false 1 (if s then -400 else 400)
    else
      let x : Int := signedMag s (if 0 ≤ e + fixBits then m * 2 ^ (e + fixBits).toNat else m / 2 ^ (-(e + fixBits)).toNat)
      .fin false (expSeries (x % fixLn2).toNat 32 (2 ^ fixBits)) (x / fixLn2 - fixBits)

/-- The quotient, unrounded, to at least 100 significant bits. -/
def Num.quot : Num → Num → Num
  | .fin s m e, .fin t n f =>
    if n = 0 then (if m = 0 then .nan else .inf (s ^^ t))
    else
      let k := 100 + n.log2 - m.log2
      .fin (s ^^ t) (m * 2 ^ k / n) (e - f - k)
  | a, b => a.fdiv b

/-- The integer square root, bit by bit from bit `k − 1`. -/
def sqrtBits (n : Nat) : Nat → Nat → Nat
  | 0, r => r
  | k + 1, r => sqrtBits n k (if (r + 2 ^ k) * (r + 2 ^ k) ≤ n then r + 2 ^ k else r)

/-- The square root of a value that is not negative, unrounded, to at least 80 significant bits. -/
def Num.sqrt : Num → Num
  | .fin _ m e =>
    let k := (200 - m.log2) + ((e - (200 - m.log2 : Nat)) % 2).toNat
    .fin false (sqrtBits (m * 2 ^ k) ((m.log2 + k) / 2 + 1) 0) ((e - k) / 2)
  | x => x

/-- ln of a positive value, unrounded: ln m = 2 artanh((m − 1) / (m + 1)) for the mantissa in `[1, 2)`, and ln 2 for each doubling. -/
def lnSeries (y y2 : Nat) : Nat → Nat → Nat
  | 0, acc => acc * y / 2 ^ fixBits
  | k + 1, acc => lnSeries y y2 k (2 ^ fixBits / (2 * k + 1) + acc * y2 / 2 ^ fixBits)

/-- ln x, unrounded. -/
def Num.ln : Num → Num
  | .fin s m e =>
    if m = 0 then .inf true
    else if s then .nan
    else
      let l := m.log2
      let x := m * 2 ^ fixBits / 2 ^ l
      let y := (x - 2 ^ fixBits) * 2 ^ fixBits / (x + 2 ^ fixBits)
      let frac : Int := 2 * lnSeries y (y * y / 2 ^ fixBits) 40 0
      let v : Int := frac + (e + l) * fixLn2
      .fin (decide (v < 0)) v.natAbs (-fixBits)
  | .inf s => if s then .nan else .inf false
  | .nan => .nan

/-- A result within 2 units in the last place of FP32 of an unrounded value, under R232; `pick` says which (R263, R345; log entry
16). -/
def Num.nearUlp (pick : Nat) : Num → Num
  | .fin s m e =>
    if m = 0 then .fin s 0 0
    else
      let v := Num.fin s m e
      let w := v.fp32
      let t := Max.max (ilog2 m e 1 - 23) (-149)
      let o : Int := pick % 5 - 2
      let y := w.add (.fin (decide (o < 0)) o.natAbs t)
      if (y.sub v).abs.le (.fin false 2 t) then y.fp32 else w
  | x => x

end Sys2Proof.Machine
end

