-- ==== Sys2Proof/Machine/Convert.lean ====
section
/-! DEFINITION. Formats: format codes (R73), elements and block scales (R224–R227), and the conversion of the drain (R234–R238). -/
namespace Sys2Proof.Machine

/-- Format codes (R73). -/
abbrev Fm.tw2 : Nat := 0
/-- MXFP4. -/
abbrev Fm.mxfp4 : Nat := 1
/-- G16. -/
abbrev Fm.g16 : Nat := 2
/-- MXFP8 E4M3. -/
abbrev Fm.mxE4m3 : Nat := 3
/-- MXFP8 E5M2. -/
abbrev Fm.mxE5m2 : Nat := 4
/-- MXINT8. -/
abbrev Fm.mxint8 : Nat := 5
/-- FP8 E4M3. -/
abbrev Fm.e4m3 : Nat := 6
/-- FP8 E5M2. -/
abbrev Fm.e5m2 : Nat := 7
/-- INT8. -/
abbrev Fm.int8 : Nat := 8
/-- BF16. -/
abbrev Fm.bf16 : Nat := 9
/-- FP16. -/
abbrev Fm.fp16 : Nat := 10
/-- FP32. -/
abbrev Fm.fp32 : Nat := 11

/-- Elements of a block; 1 for a format without blocks (R226). -/
def fmtBlock (f : Nat) : Nat := if f = Fm.g16 then 16 else if f ≤ Fm.mxint8 then 32 else 1
/-- A block format. -/
def fmtBlocked (f : Nat) : Bool := decide (f ≤ Fm.mxint8)
/-- Bits of an element (R224, R225). -/
def fmtBits (f : Nat) : Nat := if f = 0 then 2 else if f ≤ 2 then 4 else if f ≤ 8 then 8 else if f ≤ 10 then 16 else 32
/-- Width class of a format in R183: 2, 4, 8 or 16 bits. -/
def fmtWidth (f : Nat) : Nat := if f = 0 then 2 else if f ≤ 2 then 4 else if f ≤ 8 then 8 else 16

/-- Lane count of a weight and an operand format (R183). -/
def laneCount (weight operand : Nat) : Nat :=
  let w := fmtWidth weight
  let o := fmtWidth operand
  if w = 16 || o = 16 then 1
  else if w = 2 && o = 4 then 16
  else if w = 4 && o = 4 then 8
  else 4

/-- The factor f of R209 for a source format. -/
def tolFactor (f : Nat) : Nat := if f = Fm.g16 then 3 else if f = Fm.bf16 || f = Fm.fp16 then 2 else 1

/-- An element code of a format as a value, before its block scale (R224–R226). -/
def elemValue (f c : Nat) : Num :=
  if f = Fm.tw2 then tw2 c
  else if f = Fm.mxfp4 || f = Fm.g16 then e2m1 c
  else if f = Fm.mxE4m3 || f = Fm.e4m3 then e4m3 c
  else if f = Fm.mxE5m2 || f = Fm.e5m2 then ieeeDecode 5 2 c
  else if f = Fm.mxint8 then (Num.ofInt (signed 8 c)).scale (-6)
  else if f = Fm.int8 then Num.ofInt (signed 8 c)
  else if f = Fm.bf16 then ieeeDecode 8 7 c
  else if f = Fm.fp16 then ieeeDecode 5 10 c
  else ieeeDecode 8 23 c

/-- A block scale code of a format as a value (R226, R227). -/
def scaleValue (f c : Nat) : Num := if f = Fm.g16 then e4m3 c else if fmtBlocked f then e8m0 c else .fin false 1 0

/-! ### Conversion (R234–R238) -/

/-- Significant bits and lowest exponent of the last bit of an element encoding. -/
def elemPrec (f : Nat) : Nat × Int :=
  if f = Fm.mxfp4 || f = Fm.g16 then (2, -1)
  else if f = Fm.mxE4m3 || f = Fm.e4m3 then (4, -9)
  else if f = Fm.mxE5m2 || f = Fm.e5m2 then (3, -16)
  else if f = Fm.mxint8 then (64, -6)
  else if f = Fm.int8 then (64, 0)
  else if f = Fm.bf16 then (8, -133)
  else if f = Fm.fp16 then (11, -24)
  else (24, -149)

/-- Largest finite element as a value (R224). -/
def elemMax (f : Nat) : Num :=
  if f = Fm.mxfp4 || f = Fm.g16 then .fin false 6 0
  else if f = Fm.mxE4m3 || f = Fm.e4m3 then .fin false 448 0
  else if f = Fm.mxE5m2 || f = Fm.e5m2 then .fin false 57344 0
  else if f = Fm.mxint8 then .fin false 127 (-6)
  else if f = Fm.int8 then .fin false 127 0
  else if f = Fm.bf16 then .fin false 255 120
  else if f = Fm.fp16 then .fin false 2047 5
  else .fin false 0xFFFFFF 104

/-- The code of a magnitude `q × 2^t` that the format holds exactly, with its sign. -/
def elemPack (f : Nat) (s : Bool) (q : Nat) (t : Int) : Nat :=
  if f = Fm.mxfp4 || f = Fm.g16 then e2m1Code s q t
  else if f = Fm.mxE4m3 || f = Fm.e4m3 then ieeePack 4 3 s q t
  else if f = Fm.mxE5m2 || f = Fm.e5m2 then ieeePack 5 2 s q t
  else if f = Fm.mxint8 || f = Fm.int8 then
    unsigned 8 (signedMag s (roundAt .nearest q t 1 (elemPrec f).2))
  else if f = Fm.bf16 then ieeePack 8 7 s q t
  else if f = Fm.fp16 then ieeePack 5 10 s q t
  else ieeePack 8 23 s q t

/-- The code of ± the largest finite element. -/
def elemMaxCode (f : Nat) (s : Bool) : Nat := match elemMax f with
  | .fin _ m e => elemPack f s m e
  | _ => 0

/-- A NaN of a format: its sign, and its payload where the format has one, are free (log entry 15). -/
def nanBits (f : Nat) (free : Word) : Nat :=
  let sg := b2n (free.getLsbD 31)
  let pay := fun n => let p := free.toNat % 2 ^ n
                      if p = 0 then 1 else p
  if f = Fm.e4m3 then sg * 128 + 127
  else if f = Fm.e5m2 then sg * 128 + 124 + pay 2
  else if f = Fm.bf16 then sg * 2 ^ 15 + 0x7F80 + pay 7
  else if f = Fm.fp16 then sg * 2 ^ 15 + 0x7C00 + pay 10
  else sg * 2 ^ 31 + 0x7F800000 + pay 23

/-- What a conversion writes: element codes, scale codes, elements counted as saturated and as NaN written as 0, whether one
of them sets W_SATURATED, and the generator's next state. -/
structure Conv where
  codes : List Nat
  scale : Nat
  sat : Nat
  nan : Nat
  warn : Bool
  gen : Nat
  deriving DecidableEq, Repr

/-- The rounding of step 5 (R238). -/
def modeOf (stoch : Bool) (gen : Nat) : Rounding := if stoch then .stochastic gen else .nearest

/-- The generator steps for each element written under stochastic rounding, but for an FP32 destination (R238). -/
def genStep (f : Nat) (stoch : Bool) (gen : Nat) : Nat := if stoch && decide (f ≠ Fm.fp32) then xorshift gen else gen

/-- A magnitude `m × 2^e / d` rounded to an element of the format; beyond the largest it takes the largest (R234, R235). The
second part says whether it did. -/
def elemRound (f : Nat) (r : Rounding) (s : Bool) (m : Nat) (e : Int) (d : Nat) : Nat × Bool :=
  let q := roundMag r (elemPrec f).1 (elemPrec f).2 m e d
  if (elemMax f).lt (.fin false q.1 q.2) then (elemMaxCode f s, true) else (elemPack f s q.1 q.2, false)

/-- One value converted to a format without blocks (R234, R237). -/
def convPlain (f : Nat) (stoch : Bool) (gen : Nat) (free : Word) (x : Num) : Conv :=
  let g := genStep f stoch gen
  match x with
  | .nan => if f = Fm.int8 then ⟨[0], 0, 0, 1, true, g⟩ else ⟨[nanBits f free], 0, 0, 0, false, g⟩
  | .inf s =>
    if f = Fm.int8 || f = Fm.e4m3 then ⟨[elemMaxCode f s], 0, 1, 0, true, g⟩
    else if f = Fm.e5m2 then ⟨[b2n s * 128 + 124], 0, 0, 0, false, g⟩
    else if f = Fm.bf16 then ⟨[b2n s * 2 ^ 15 + 0x7F80], 0, 0, 0, false, g⟩
    else if f = Fm.fp16 then ⟨[b2n s * 2 ^ 15 + 0x7C00], 0, 0, 0, false, g⟩
    else ⟨[b2n s * 2 ^ 31 + 0x7F800000], 0, 0, 0, false, g⟩
  | .fin s m e =>
    if f = Fm.fp32 then ⟨[ieeePack 8 23 s m e], 0, 0, 0, false, g⟩
    else
      let c := elemRound f (modeOf stoch gen) s m e 1
      ⟨[c.1], 0, b2n c.2, 0, c.2, g⟩

/-- The largest magnitude of a list: NaN when one is NaN (R235, R241). -/
def absMax (xs : List Num) : Num := xs.foldl (fun a x => a.max x.abs) .zero

/-- emax of an MX format (R235). -/
def mxEmax (f : Nat) : Int := if f = Fm.mxfp4 then 2 else if f = Fm.mxE4m3 then 8 else if f = Fm.mxE5m2 then 15 else 0

/-- `amax / 6` rounded upward to an E4M3 code, and whether it exceeds 448 (R236). -/
def g16Scale (m : Nat) (e : Int) : Nat × Bool :=
  if (Num.fin false 2688 0).lt (.fin false m e) then (0x7E, true)
  else
    let q := roundMag .up 4 (-9) m e 6
    (ieeePack 4 3 false q.1 q.2, false)

/-- The elements of a block in order, each rounded with the generator's state of its turn. -/
def convElems (f : Nat) (stoch excess : Bool) (frac : Num → Option (Bool × Nat × Int × Nat)) :
    List Num → Nat → List Nat × Nat × Nat
  | [], gen => ([], 0, gen)
  | x :: xs, gen =>
    let r := match frac x with
      | none => (elemMaxCode f x.neg?, true)
      | some (s, m, e, d) => elemRound f (modeOf stoch gen) s m e d
    let beyond := match frac x with
      | none => true
      | some (_, m, e, d) => excess && (elemMax f).lt (.fin false (roundAt .up m e d (-200)) (-200))
    let t := convElems f stoch excess frac xs (genStep f stoch gen)
    (r.1 :: t.1, t.2.1 + b2n (excess && beyond), t.2.2)

/-- The values of one block converted to a block format (R235–R237). -/
def convBlock (f : Nat) (stoch : Bool) (gen : Nat) (xs : List Num) : Conv :=
  let after := xs.foldl (fun g _ => genStep f stoch g) gen
  let zeros := xs.map (fun _ => 0)
  match absMax xs with
  | .nan => ⟨zeros, if f = Fm.g16 then 0x7F else 0xFF, 0, xs.countP Num.isNan, false, after⟩
  | .fin _ 0 _ => ⟨zeros, 0, 0, 0, false, after⟩
  | a =>
    let sc : Nat × Bool := match a with
      | .fin _ m e =>
        if f = Fm.g16 then g16Scale m e
        else
          let x := ilog2 m e 1 - mxEmax f + 127
          if 254 < x then (254, true) else (x.toNat, false)
      | _ => (if f = Fm.g16 then 0x7E else 254, true)
    let frac : Num → Option (Bool × Nat × Int × Nat) := fun x => match x, scaleValue f sc.1 with
      | .fin s m e, .fin _ n k => some (s, m, e - k, n)
      | _, _ => none
    let r := convElems f stoch sc.2 frac xs gen
    ⟨r.1, sc.1, r.2.1, 0, decide (0 < r.2.1), r.2.2⟩

end Sys2Proof.Machine
end

