-- ==== Sys2Proof/Machine/NbuMicro.lean ====
section
/-! DEFINITION. The near-bank units: streams (R336), micro-ops (R340–R346), bundles (R349), what a clash leaves (R351), refreshes
(R353), and the stop of a command's units at their bundle boundaries (R354, R356). -/
namespace Sys2Proof.Machine

/-- The NBU of a column and bank. -/
def State.nbu (s : State) (col bank : Nat) : Option NbuSeq :=
  (SMap.get (fun _ => none) s.nbus (32 * col + bank)).filter (fun q => decide (q.col = col) && decide (q.bank = bank) && decide (col < 256) && decide (bank < 32))
/-- Its sequence replaced. -/
def State.setNbu (s : State) (col bank : Nat) (q : Option NbuSeq) : State :=
  { s with nbus := SMap.set (fun _ => none) s.nbus (32 * col + bank) q }

/-- The NBU is in a sequence (R339, R363). -/
def State.inSeq (s : State) (col bank : Nat) : Bool := match s.nbu col bank with
  | some q => !q.ended
  | none => false

/-! ### Streams (R336) -/

/-- The 2,048-byte units of a range of a column that lie in a bank, ascending. -/
def State.streamUnits (s : State) (col bank base len : Nat) : List Nat :=
  ((List.range (len / 2048)).map (fun i => base + 2048 * i)).filter (fun p => cellBankIdx (s.cellOf col p) == bank)

/-- Units of a sequence's stream: 0 source, 1 destination. -/
def State.seqUnits (s : State) (q : NbuSeq) (dst : Bool) : List Nat :=
  if dst then s.streamUnits q.col q.bank q.dstBase q.dstLen else s.streamUnits q.col q.bank q.srcBase q.srcLen

/-! ### Micro-ops (R340) -/

/-- OP of a micro-op. -/
def uOp (u : DWord) : Nat := bits u.toNat 63 58
/-- VD. -/
def uVd (u : DWord) : Nat := bits u.toNat 57 54
/-- VA. -/
def uVa (u : DWord) : Nat := bits u.toNat 53 50
/-- VB. -/
def uVb (u : DWord) : Nat := bits u.toNat 49 46
/-- CNT. -/
def uCnt (u : DWord) : Nat := bits u.toNat 45 42
/-- PTR. -/
def uPtr (u : DWord) : Nat := bits u.toNat 41 39
/-- FMT. -/
def uFmt (u : DWord) : Nat := bits u.toNat 38 36
/-- STREAM: the destination stream. -/
def uDst (u : DWord) : Bool := bit u.toNat 35
/-- HOLDB. -/
def uHoldb (u : DWord) : Bool := bit u.toNat 33
/-- IMM. -/
def uImm (u : DWord) : Nat := bits u.toNat 31 0

/-- Group size g of a memory format (R342). -/
def uGroup (f : Nat) : Nat := if f = 0 then 64 else if f = 1 then 32 else if f = 4 then 2 else 16
/-- The format code of R73 of a memory format, SIGN1 apart. -/
def uFormat (f : Nat) : Nat := if f = 0 then Fm.fp32 else if f = 1 then Fm.bf16 else if f = 2 then Fm.e4m3 else Fm.e5m2

/-- The 16 elements of a group as FP32 (R342). -/
def loadGroup (f : Nat) (bs : List Byte) : VReg :=
  if f = 4 then (List.range 16).map (fun i => (Num.fin ((leNat bs).testBit i) 1 0).bits32)
  else
    let n := uGroup f / 16
    (List.range 16).map (fun i => (elemValue (uFormat f) (lsub bs (n * i) n)).bits32)

/-- A register converted to a memory format (R342): its bytes, and whether a value saturated. -/
def storeGroup (f free : Nat) (v : VReg) : List Byte × Bool :=
  if f = 4 then
    (leBytes 2 (v.zipIdx.foldl (fun a x =>
      let neg := if (f32 x.1).isNan then (Config.freeWord (free + x.2)).getLsbD 31 else x.1.getLsbD 31
      a + 2 ^ x.2 * b2n neg) 0), false)
  else
    let cs := v.zipIdx.map (fun x => convPlain (uFormat f) false 0 (Config.freeWord (free + x.2)) (f32 x.1))
    (cs.flatMap (fun c => leBytes (uGroup f / 16) (c.codes.getD 0 0)), cs.any (fun c => c.warn))

/-- A vector register. -/
def NbuSeq.v (q : NbuSeq) (i : Nat) : VReg := q.vregs.getD i []
/-- What a vector register was computed from. -/
def NbuSeq.dep (q : NbuSeq) (i : Nat) : List Nat := q.deps.getD i []
/-- A vector register set. -/
def NbuSeq.setV (q : NbuSeq) (i : Nat) (v : VReg) (dep : List Nat) : NbuSeq :=
  { q with vregs := q.vregs.set i v, deps := q.deps.set i dep.eraseDups }
/-- The next micro-op. -/
def NbuSeq.next (q : NbuSeq) : NbuSeq := { q with pc := q.pc + 1 }
/-- A jump to the target of a micro-op. -/
def NbuSeq.jump (q : NbuSeq) (u : DWord) : NbuSeq := { q with pc := uImm u % 512 }
/-- A pointer. -/
def NbuSeq.ptr (q : NbuSeq) (i : Nat) : Nat := q.ptrs.getD i 0
/-- A pointer set. -/
def NbuSeq.setPtr (q : NbuSeq) (i v : Nat) : NbuSeq := { q with ptrs := q.ptrs.set i (v % 2 ^ 32) }
/-- An argument as bits. -/
def NbuSeq.arg (q : NbuSeq) (i : Nat) : Word := q.args.getD i 0

/-- A register operation for j = 0 to CNT (R341): each lane of VD + j from the lanes of VA + j, of VB + j (VB with HOLDB) and of
VD + j. -/
def NbuSeq.lanes (q : NbuSeq) (u : DWord) (two three : Bool) (f : Num → Num → Num → Num) : NbuSeq :=
  ((List.range (uCnt u + 1)).foldl (fun q j =>
    let a := q.v (uVa u + j)
    let bi := if uHoldb u then uVb u else uVb u + j
    let b := q.v bi
    let d := q.v (uVd u + j)
    let out := (List.range 16).map (fun i => (f (f32 (a.getD i 0)) (f32 (b.getD i 0)) (f32 (d.getD i 0))).bits32)
    q.setV (uVd u + j) out (q.dep (uVa u + j) ++ (if two then q.dep bi else []) ++ (if three then q.dep (uVd u + j) else []))) q).next

/-- A reduction of the lanes of VA + j into lane 0 of VD + j (R341). -/
def NbuSeq.reduce (q : NbuSeq) (u : DWord) (f : Num → Num → Num) : NbuSeq :=
  ((List.range (uCnt u + 1)).foldl (fun q j =>
    let a := (q.v (uVa u + j)).map f32
    let r := match a with
      | x :: xs => xs.foldl f x
      | [] => Num.zero
    q.setV (uVd u + j) (r.bits32 :: List.replicate 15 0) (q.dep (uVa u + j))) q).next

/-- The sign of a value: −1, 0 or +1; NaN stays NaN (R341). -/
def signOf (x : Num) : Num := if x.isNan then .nan else if x.isZero then .zero else .fin x.neg? 1 0

/-- A value clamped to `[−m, +m]` (R341). -/
def clampTo (m x : Num) : Num := ((x.min m).max m.flip).fp32

/-- FMA (R341): VD + j takes VA + j × VB + VD + j, rounded once. -/
def uFma (q : NbuSeq) (u : DWord) : NbuSeq := q.lanes u true true (fun a b d => ((a.mul b).add d).fp32)
/-- MUL (R341): VD + j takes VA + j × VB. -/
def uMul (q : NbuSeq) (u : DWord) : NbuSeq := q.lanes u true false (fun a b _ => a.fmul b)
/-- ADD (R341): VD + j takes VA + j + VB. -/
def uAdd (q : NbuSeq) (u : DWord) : NbuSeq := q.lanes u true false (fun a b _ => a.fadd b)
/-- MAX (R341): VD + j takes the larger of VA + j and VB, NaN if either is NaN. -/
def uMax (q : NbuSeq) (u : DWord) : NbuSeq := q.lanes u true false (fun a b _ => (a.max b).fp32)
/-- SCALE (R341): VD + j takes VA + j × IMM, with IMM read as FP32. -/
def uScale (q : NbuSeq) (u : DWord) : NbuSeq := q.lanes u false false (fun a _ _ => a.fmul (f32 (BitVec.ofNat 32 (uImm u))))
/-- SGN (R341): VD + j takes −1, 0 or +1 by the sign of VA + j. -/
def uSgn (q : NbuSeq) (u : DWord) : NbuSeq := q.lanes u false false (fun a _ _ => signOf a)
/-- CLIP (R341): VD + j takes VA + j clamped to [−IMM, +IMM]. -/
def uClip (q : NbuSeq) (u : DWord) : NbuSeq := q.lanes u false false (fun a _ _ => clampTo (f32 (BitVec.ofNat 32 (uImm u))) a)
/-- EXP (R341): VD + j takes e^(VA + j), a value within 2 units in the last place (R345); `pick` says which for each lane (log entry
16). -/
def uExp (pick : Nat → Nat) (q : NbuSeq) (u : DWord) : NbuSeq :=
  ((List.range (uCnt u + 1)).foldl (fun (q : NbuSeq) j =>
    let a := q.v (uVa u + j)
    q.setV (uVd u + j) ((List.range 16).map (fun i => ((f32 (a.getD i 0)).exp.nearUlp (pick (16 * j + i))).bits32)) (q.dep (uVa u + j))) q).next
/-- HSUM (R341): lane 0 of VD + j takes the sum of the lanes of VA + j in ascending order. -/
def uHsum (q : NbuSeq) (u : DWord) : NbuSeq := q.reduce u Num.fadd
/-- HMAX (R341): lane 0 of VD + j takes the largest lane of VA + j. -/
def uHmax (q : NbuSeq) (u : DWord) : NbuSeq := q.reduce u (fun a b => (a.max b).fp32)
/-- ARG (R341): every lane of VD + j takes ARG[IMM[1:0]]. -/
def uArg (q : NbuSeq) (u : DWord) : NbuSeq :=
  ((List.range (uCnt u + 1)).foldl (fun (q : NbuSeq) j => q.setV (uVd u + j) (List.replicate 16 (q.arg (uImm u % 4))) []) q).next
/-- PSET (R341): ptr[PTR] takes IMM. -/
def uPset (q : NbuSeq) (u : DWord) : NbuSeq := (q.setPtr (uPtr u) (uImm u)).next
/-- PADD (R341): ptr[PTR] rises by IMM modulo 2^32. -/
def uPadd (q : NbuSeq) (u : DWord) : NbuSeq := (q.setPtr (uPtr u) (q.ptr (uPtr u) + uImm u)).next
/-- PARG (R341): ptr[PTR] takes ARG[IMM[1:0]]. -/
def uParg (q : NbuSeq) (u : DWord) : NbuSeq := (q.setPtr (uPtr u) (q.arg (uImm u % 4)).toNat).next
/-- LSET (R341): the loop counter takes IMM. -/
def uLset (q : NbuSeq) (u : DWord) : NbuSeq := ({ q with loops := q.loops.set (uPtr u % 4) (uImm u) }).next
/-- LOOP (R341): a nonzero loop counter is decremented, and the program jumps. -/
def uLoop (q : NbuSeq) (u : DWord) : NbuSeq :=
  let n := q.loops.getD (uPtr u % 4) 0
  if n ≠ 0 then ({ q with loops := q.loops.set (uPtr u % 4) (n - 1) }).jump u else q.next
/-- JMP (R341): the program jumps. -/
def uJmp (q : NbuSeq) (u : DWord) : NbuSeq := q.jump u
/-- BRLT (R341): the program jumps while ptr[PTR] is below the length of the stream. -/
def uBrlt (len : Nat) (q : NbuSeq) (u : DWord) : NbuSeq := if q.ptr (uPtr u) < len then q.jump u else q.next

/-- What a micro-op other than END, LD and ST does to its NBU; `len` is the length of its stream, `pick` chooses the results of EXP. -/
def uStep (len : Nat) (pick : Nat → Nat) (q : NbuSeq) (u : DWord) : NbuSeq :=
  match uOp u with
  | 0x08 => uFma q u
  | 0x09 => uMul q u
  | 0x0A => uAdd q u
  | 0x0B => uMax q u
  | 0x0C => uScale q u
  | 0x0D => uSgn q u
  | 0x0E => uClip q u
  | 0x0F => uExp pick q u
  | 0x10 => uHsum q u
  | 0x11 => uHmax q u
  | 0x18 => uArg q u
  | 0x20 => uPset q u
  | 0x21 => uPadd q u
  | 0x22 => uParg q u
  | 0x28 => uLset q u
  | 0x29 => uLoop q u
  | 0x2A => uBrlt len q u
  | 0x2B => uJmp q u
  | _ => q

/-! ### Issue -/

/-- The column is being calibrated: its queues and NBUs pause (R634). -/
def State.calibrating (s : State) (col : Nat) : Bool := decide (SMap.get (fun _ => 0) s.mem.calPending col = 2)

/-- Memory layer of a bank, as THM_MEM_DUTY numbers them (R15). -/
def bankLayer (col bank : Nat) : Nat := 2 * (col / 64) + bank / 16

/-- The duty of a memory layer below 4/4 (R531). -/
def State.dutyCut (s : State) (col bank : Nat) : Bool := decide (s.fld (Reg.thmMemDuty (bankLayer col bank)) 2 0 < 4)

/-- The memory layer's duty lets an NBU issue (R357, R531): it runs in the first part of each microsecond, which is 25 ticks (log
entry 70). -/
def State.dutyOpen (s : State) (col bank : Nat) : Bool :=
  decide (4 * (s.tick % 25) < 25 * s.fld (Reg.thmMemDuty (bankLayer col bank)) 2 0) || !s.dutyCut col bank

/-- An NBU of a command may issue: nothing holds it (R357, R536, R634). -/
def State.nbuIssues (s : State) (c : Cmd) (col bank : Nat) : Bool :=
  !s.calibrating col && !s.halted && !s.power.nbuHeld.testBit (s.polderOf c) && s.dutyOpen col bank

/-- A command on NBUs whose layer's duty is cut carries W_THROTTLED (R357). -/
def State.warnDuty (s : State) (q : NbuSeq) : State := if s.dutyCut q.col q.bank then s.warnCmd q.cmd Wn.throttled else s

/-- R357, R531: a memory layer's duty below 4/4 marks every command whose sequence runs on a unit of that layer. -/
def State.warnLayer (s : State) (ml : Nat) : State :=
  (s.nbus.filterMap (·.2)).foldl (fun s q => if bankLayer q.col q.bank = ml && !q.ended then s.warnDuty q else s) s

/-- Cycles of a micro-op (R343); opening a row takes 14 ns, which is 9 cycles begun. -/
def uCycles (u : DWord) (opens : Bool) : Nat :=
  let n := uCnt u + 1
  let op := uOp u
  if op = 0x01 || op = 0x02 then cdiv (n * uGroup (uFmt u)) 64 + (if opens then 9 else 0)
  else if op = 0x0F || op = 0x10 || op = 0x11 then 4 * n
  else if (0x08 ≤ op && op ≤ 0x0E) || op = 0x18 then n
  else 1

/-- An NBU after a micro-op: it stands inside a bundle when LINK is set, and its cycles are counted with those it has waited, which the
manual leaves to the surroundings (R349, R362; log entry 8). -/
def State.putMicro (s : State) (q : NbuSeq) (u : DWord) (opens : Bool) : State :=
  let s := (s.setNbu q.col q.bank (some { q with linked := Machine.bit u.toNat 34, served := 0 })).addCnt Reg.nbuCntBusy (uCycles u opens + Config.freeNat s.freeCtr)
  s.fresh

/-- The sequence of an NBU and its micro-op, when the micro-op at its program counter has this OP, its command runs and nothing holds
its issue (R357). -/
def State.microOp (s : State) (col bank op : Nat) : Option (NbuSeq × DWord) :=
  match s.nbu col bank with
  | none => none
  | some q =>
    match s.cmd? q.cmd, q.prog[q.pc]? with
    | some c, some u => if c.phase = .running && decide (uOp u = op) && !q.ended && s.nbuIssues c col bank then some (q, u) else none
    | _, _ => none

/-- A micro-op that touches only the NBU's own state. -/
def State.microStep (s : State) (col bank op : Nat) (f : NbuSeq → DWord → NbuSeq) : State :=
  match s.microOp col bank op with
  | none => s
  | some (q, u) => (s.warnDuty q).putMicro (f q u) u false

/-! ### Rows and refreshes (R353) -/

/-- Every owed refresh of a bank runs (R353). -/
def State.runOwed (s : State) (col bank : Nat) : State :=
  { s with mem := { s.mem with owed := SMap.set (fun _ => 0) s.mem.owed (32 * col + bank) 0 } }

/-- An NBU opens the row of its next access: owed refreshes run first when the bank has another row open (R353 step 2). -/
def State.openRow (s : State) (q : NbuSeq) (row : Nat) : State × NbuSeq :=
  if q.row = some row then (s, q) else (s.runOwed q.col q.bank, { q with row := some row })

/-- The same for a firmware program's access to a block (R353). -/
def State.openFor (s : State) (col cell : Nat) : State :=
  match s.nbu col (cellBankIdx cell) with
  | some q => let x := s.openRow q (cellRow cell)
              x.1.setNbu col (cellBankIdx cell) (some x.2)
  | none => s

/-! ### LD, ST and END -/

/-- What a clash leaves when a sequence ends: the written blocks, and the blocks stored from values computed from them, hold
undefined contents (R351). -/
def State.resolveClash (s : State) (q : NbuSeq) : State :=
  let hit := (q.stored.filter (fun e => e.2.any (fun b => q.clashed.contains b))).map (fun e => e.1)
  (q.clashed ++ hit).eraseDups.foldl (fun s k =>
    let col := 64 * k / 2 ^ 30
    let cell := 64 * k % 2 ^ 30
    (s.putBlock col cell (s.freeBytes 64) (s.blockErr col cell).hard).fresh) s

/-- The command of a sequence fails at an address, unless it has ended already (R346, R354). -/
def State.nbuFail (s : State) (q : NbuSeq) (status addr : Nat) : State :=
  let s := if status = St.uncorrectable then s.setBit Reg.nbuEvent 3 true else s
  match s.cmd? q.cmd with
  | some c => if c.phase = .running then s.failCmd q.cmd (status, addr) else s
  | none => s

/-- The stream access of an LD or ST: its physical offset and length, or the address at which R346 stops the command. -/
def State.streamAccess (s : State) (q : NbuSeq) (u : DWord) : Except Nat (Nat × Nat) :=
  let g := uGroup (uFmt u)
  let o := q.ptr (uPtr u) + uImm u
  let n := (uCnt u + 1) * g
  let units := s.seqUnits q (uDst u)
  let a := 2 ^ 32 * q.col
  let first := units.headD (if uDst u then q.dstBase else q.srcBase)
  if 2048 * units.length < o + n then .error (a + first)
  else
    let p := units.getD (o / 2048) 0 + o % 2048
    if o % g ≠ 0 || 2048 < o % 2048 + n then .error (a + p) else .ok (p, n)

/-- An access that R346 refuses: nothing of it is done, and its NBU stops. -/
def State.badAccess (s : State) (q : NbuSeq) (addr : Nat) : State :=
  (s.nbuFail q St.badDescriptor addr).setNbu q.col q.bank (some { q with linked := false, ended := true })

/-- LD (R342). A load that meets an uncorrectable block fails its command (R354): its registers are free, and the sequence goes on to its
bundle boundary without writing that block. -/
def State.nbuLoad (s : State) (q : NbuSeq) (u : DWord) : State :=
  match s.streamAccess q u, s.cmd? q.cmd with
  | .error a, _ => s.badAccess q a
  | .ok _, none => s
  | .ok (p, n), some c =>
    let g := uGroup (uFmt u)
    let row := cellRow (s.cellOf q.col p)
    let x := s.openRow q row
    let r := (pieces p n).foldl (fun (a : List Byte × Option Nat × State) y => match a.2.1 with
      | some _ => a
      | none =>
        let cell := a.2.2.cellOf q.col y.2.1
        match a.2.2.readBlock (reqNbu c) (2 ^ 32 * q.col + y.2.1 / 64 * 64) q.col cell false with
        | (some bs, s) => (a.1 ++ lslice bs (cell % 64) y.2.2, none, s)
        | (none, s) => (a.1, some (y.2.1 / 64 * 64), s)) ([], none, x.1)
    match r.2.1 with
    | some b =>
      let s := r.2.2.nbuFail q St.uncorrectable (2 ^ 32 * q.col + b)
      let q := (List.range (uCnt u + 1)).foldl (fun (q : NbuSeq) j =>
        q.setV (uVd u + j) ((List.range 16).map (fun i => Config.freeWord (s.freeCtr + 16 * j + i))) []) x.2
      ({ s with freeCtr := s.freeCtr + 16 * (uCnt u + 1) }).putMicro { q.next with bad := blockKey q.col (s.cellOf q.col b) :: q.bad } u (decide (some row ≠ q.row))
    | none =>
      let s := r.2.2.addCnt Reg.nbuCntBytes n
      let y := (List.range (uCnt u + 1)).foldl (fun (q : NbuSeq) j =>
        let blocks := (pieces (p + j * g) g).map (fun y => blockKey q.col (s.cellOf q.col y.2.1))
        let dep := blocks ++ blocks.flatMap (fun k => SMap.get (fun _ => []) q.stored k)
        q.setV (uVd u + j) (loadGroup (uFmt u) (lslice r.1 (j * g) g)) dep) x.2
      s.putMicro y.next u (decide (some row ≠ q.row))

/-- ST (R342, R354): a store of less than a block is merged into it; a merge that meets an uncorrectable block fails the command, and
that block is not written. -/
def State.nbuStore (s : State) (q : NbuSeq) (u : DWord) : State :=
  match s.streamAccess q u, s.cmd? q.cmd with
  | .error a, _ => s.badAccess q a
  | .ok _, none => s
  | .ok (p, n), some c =>
    let g := uGroup (uFmt u)
    let row := cellRow (s.cellOf q.col p)
    let x := s.openRow q row
    let gs := (List.range (uCnt u + 1)).map (fun j => storeGroup (uFmt u) (s.freeCtr + 16 * j) (q.v (uVd u + j)))
    let bs := gs.flatMap (fun y => y.1)
    let s0 := { x.1 with freeCtr := s.freeCtr + 16 * (uCnt u + 1) }
    let r := (pieces p n).foldl (fun (a : List Nat × State) y =>
        let cell := a.2.cellOf q.col y.2.1
        if q.bad.contains (blockKey q.col cell) then a
        else match a.2.writeBlock (reqNbu c) (2 ^ 32 * q.col + y.2.1 / 64 * 64) q.col cell (cell % 64) (lslice bs y.1 y.2.2) with
          | (true, s) => (a.1, s.wroteCmd c.id)
          | (false, s) => (blockKey q.col cell :: a.1, s.nbuFail q St.uncorrectable (2 ^ 32 * q.col + y.2.1 / 64 * 64))) ([], s0)
    let s := r.2.addCnt Reg.nbuCntBytes n
    let s := if gs.any (fun y => y.2) then s.warnCmd c.id Wn.saturated else s
    let y := (List.range (uCnt u + 1)).foldl (fun (q : NbuSeq) j =>
      (pieces (p + j * g) g).foldl (fun (q : NbuSeq) y =>
        let k := blockKey q.col (s.cellOf q.col y.2.1)
        { q with stored := SMap.set (fun _ => []) q.stored k ((SMap.get (fun _ => []) q.stored k ++ q.dep (uVd u + j)).eraseDups) }) q) x.2
    s.putMicro { y.next with bad := r.1 ++ y.bad } u (decide (some row ≠ q.row))

/-- END (R341): the sequence on this NBU ends; its window of R350 closes, and refreshes that it owes run (R353 step 4). -/
def State.nbuEnd (s : State) (q : NbuSeq) : State :=
  ((s.resolveClash q).runOwed q.col q.bank).setNbu q.col q.bank
    (some { q with pc := q.prog.length, ended := true, linked := false, srcLen := 0, dstLen := 0, extra := [], clashed := [], stored := [] })

/-- The micro-op at an NBU's program counter runs, whichever it is. -/
def State.runMicro (s : State) (q : NbuSeq) (u : DWord) : State :=
  if uOp u = 0x00 then s.nbuEnd q
  else if uOp u = 0x01 then s.nbuLoad q u
  else if uOp u = 0x02 then s.nbuStore q u
  else
    let free := s.freeCtr
    ({ s with freeCtr := free + 256 }).putMicro (uStep (2048 * (s.seqUnits q (uDst u)).length) (fun i => Config.freeNat (free + i)) q u) u false

/-! ### Bundles and stops (R349, R354, R356) -/

/-- An NBU that stands inside a bundle runs to its boundary: at most two micro-ops more. -/
def State.toBoundary : Nat → State → Nat → Nat → State
  | 0, s, _, _ => s
  | k + 1, s, col, bank =>
    match s.nbu col bank with
    | some q => if q.linked then (match q.prog[q.pc]? with
        | some u => State.toBoundary k (s.runMicro q u) col bank
        | none => s) else s
    | none => s

/-- The sequences of a command, as column and bank. -/
def State.seqsOf (s : State) (id : Nat) : List (Nat × Nat) :=
  s.nbus.filterMap (fun e => match e.2 with
    | some q => if q.cmd = id then some (q.col, q.bank) else none
    | none => none)

/-- An NBU of a command is released: what a clash leaves, and the refreshes it owes (R351, R353 step 4). -/
def State.dropSeq (s : State) (col bank : Nat) : State :=
  match s.nbu col bank with
  | some q => ((s.resolveClash q).runOwed col bank).setNbu col bank none
  | none => s

/-- The NBUs of a command are released. -/
def State.releaseNbus (s : State) (id : Nat) : State :=
  let s := (s.seqsOf id).foldl (fun (s : State) n => s.dropSeq n.1 n.2) s
  { s with nbuReady := s.nbuReady.filter (· != id) }

/-- Every NBU of a command stops at its next bundle boundary, and is released (R354, R356). -/
def State.stopSeqs (s : State) (id : Nat) : State :=
  ((s.seqsOf id).foldl (fun (s : State) n => State.toBoundary 2 s n.1 n.2) s).releaseNbus id

/-- A command that has failed at a micro-op stops its other NBUs. -/
def State.afterMicro (s : State) (id : Nat) : State :=
  match s.cmd? id with
  | some c => if c.phase = .running then s else s.stopSeqs id
  | none => s

/-- A channel block waits for the bundle boundary of the bank's NBU; after four blocks served at one boundary the next bundle runs
first, when nothing holds it (R349). -/
def State.yieldTo (s : State) (col q : Nat) : State :=
  let bank := cellBankIdx q
  match s.nbu col bank with
  | none => s
  | some sq =>
    if sq.ended then s
    else
      let s := State.toBoundary 2 s col bank
      let s := match s.nbu col bank, s.cmd? sq.cmd with
        | some sq, some c => (match sq.prog[sq.pc]? with
          | some u => if 4 ≤ sq.served && decide (c.phase = CmdPhase.running) && s.nbuIssues c col bank && !sq.ended then
              State.toBoundary 2 (s.runMicro sq u) col bank else s
          | none => s)
        | _, _ => s
      s.afterMicro sq.cmd

end Sys2Proof.Machine
end

