-- ==== Sys2Proof/Machine/MemOps.lean ====
section
/-! DEFINITION. Accesses to memory: channel accesses beside running NBU sequences (R349–R352), the cluster and core stores, host
memory (R687), and the accesses of commands under their polder's grants (R30, R303). -/
namespace Sys2Proof.Machine

/-! ### Channel accesses -/

/-- A channel block served while the bank's NBU runs a sequence (R349): it waits for the bundle boundary, is counted, and leaves its own
row open. -/
def State.countYield (s : State) (col q : Nat) : State :=
  let s := s.yieldTo col q
  match s.seqAt col q with
  | some sq =>
    if sq.ended then s
    else (s.addCnt Reg.nbuCntYields 1).setNbu col (cellBankIdx q) (some { sq with served := sq.served + 1, row := some (cellRow q) })
  | none => s

/-- The first torn read or clashing write is noted (R350, R351): address, context of the NBU command, and the event. -/
def State.firstNote (s : State) (evBit lo hi code addr col : Nat) (ctx : Option Nat) : State :=
  if s.bit Reg.nbuEvent evBit then s
  else
    let s := s.setNat lo (addr % 2 ^ 32)
    let s := s.setNat hi (bits addr 47 32 + 2 ^ 16 * (ctx.getD 0) + 2 ^ 31)
    let s := s.setBit Reg.nbuEvent evBit true
    s.event code (Src.column col) ctx (dataOf [(0, addr % 2 ^ 48)])

/-- A channel read of a byte in a running destination range (R350). -/
def State.noteTorn (s : State) (rq : Req) (addr col q n : Nat) : State :=
  match s.seqAt col q with
  | some sq =>
    if decide (rq.cmd ≠ some sq.cmd) && decide (rq.cls ≠ 6) && sq.meetsDst (s.offOfCell col q) n then
      let s := (s.warnCmd sq.cmd Wn.torn).addCnt Reg.nbuCntTorn 1
      s.firstNote 0 Reg.nbuTornLo Reg.nbuTornHi 0x0406 addr col ((s.cmd? sq.cmd).map (fun c => c.ctx))
    else s
  | none => s

/-- A channel write to a byte in a running declared range: the block is remembered, and its contents are undefined after the
command (R351). -/
def State.noteClash (s : State) (rq : Req) (addr col q n : Nat) : State :=
  match s.seqAt col q with
  | some sq =>
    if decide (rq.cmd ≠ some sq.cmd) && (sq.meetsDst (s.offOfCell col q) n || sq.meetsSrc (s.offOfCell col q) n) then
      let s := (s.warnCmd sq.cmd Wn.clash).addCnt Reg.nbuCntClash 1
      let sq' := { sq with clashed := blockKey col q :: sq.clashed }
      let s := { s with nbus := SMap.set (fun _ => none) s.nbus (32 * col + cellBankIdx q) (some sq') }
      s.firstNote 1 Reg.nbuClashLo Reg.nbuClashHi 0x0407 addr col ((s.cmd? sq.cmd).map (fun c => c.ctx))
    else s
  | none => s

/-- A channel read of bytes `off … off + n − 1` of the block of cell `q`. -/
def State.chanRead (s : State) (rq : Req) (addr col q n : Nat) : Option (List Byte) × State :=
  let s := (s.countYield col q).noteTorn rq addr col q n
  let s := s.addCnt (Reg.memCntRd col) 64
  let r := s.readBlock rq (addr / 64 * 64) col q false
  (r.1.map (fun bs => lslice bs (q % 64) n), r.2)

/-- A channel write of `bs` from cell `q` on, within one block. -/
def State.chanWrite (s : State) (rq : Req) (addr col q : Nat) (bs : List Byte) : Bool × State :=
  let s := (s.countYield col q).noteClash rq addr col q bs.length
  let s := s.addCnt (Reg.memCntWr col) 64
  s.writeBlock rq (addr / 64 * 64) col q (q % 64) bs

/-! ### Ranges -/

/-- What an access answers: the bytes read so far, the failure with its address, and the state. -/
structure Acc where
  data : List Byte
  err : Option (Nat × Nat)
  st : State

/-- Where an address of a command leads: the column and cell with the retired mark, or the status that stops it. -/
def State.route (s : State) (polder addr need : Nat) : Option (Nat × Nat × Bool) :=
  (s.grantFor polder (addrCore addr) (addrOff addr) need).map (fun g =>
    let m := g.map (addrCore addr) (addrOff addr)
    (m.1, s.cellOf m.1 m.2, s.retiredVia g (addrCore addr) (addrOff addr)))

/-- A core's stores meet a raised dike: its own, or its polder's (R19, R557). -/
def State.fencedCore (s : State) (n : Nat) : Bool :=
  s.flag (Reg.dikeEngine 0) n ||
  (match s.corePolder n with
   | some p => s.bit Reg.dikePolder p
   | none => false) || s.resets.jobs.any (fun j => decide (4 ≤ j.level))

/-- A cluster's counters meet its polder's dike (R557). -/
def State.fencedCluster (s : State) (c : Nat) : Bool :=
  (match s.clusterPolder c with
   | some p => s.bit Reg.dikePolder p
   | none => false) || s.resets.jobs.any (fun j => decide (4 ≤ j.level))

/-- Host memory is reached at every byte of a range (R687). -/
def State.hostMapped (s : State) (iova n : Nat) : Bool := s.host.unmapped.all (fun r => !overlap iova n r.1 r.2)
/-- No byte of a range answers with a poisoned completion. -/
def State.hostClean (s : State) (iova n : Nat) : Bool := s.host.poisoned.all (fun r => !overlap iova n r.1 r.2)

/-- The words of a store that a range touches. -/
def wordsOf (k n : Nat) : List Nat := (List.range (cdiv (k % 8 + n) 8)).map (fun i => k / 8 + i)

/-- A read of a core's local store (R260): a one-bit error is corrected and counted; a two-bit error fails the read. -/
def State.localRead (s : State) (core off n : Nat) : Option (List Byte) × State :=
  let k := 2 ^ 22 * core + off
  let es := (wordsOf k n).map (SMap.get (fun _ => 0) s.mem.localErr)
  let s := s.bumpFld (Reg.coreSramErr core) 15 0 (es.countP (· == 1))
  let s := s.bumpFld (Reg.coreSramErr core) 31 16 (es.countP (· == 2))
  (if es.contains 2 then none else some (s.mem.locals.read k n), s)

/-- A read of a cluster's shared memory (R260). -/
def State.sharedRead (s : State) (cl off n : Nat) : Option (List Byte) × State :=
  let k := 2 ^ 25 * cl + off
  let es := (wordsOf k n).map (SMap.get (fun _ => 0) s.mem.sharedErr)
  let s := s.bumpFld (Reg.coreClusterSramErr cl) 15 0 (es.countP (· == 1))
  let s := s.bumpFld (Reg.coreClusterSramErr cl) 31 16 (es.countP (· == 2))
  (if es.contains 2 then none else some (s.mem.shared.read k n), s)

/-- The words that a write covers whole hold no error afterwards. -/
def clearWords (m : SMap Nat) (k n : Nat) : SMap Nat :=
  SMap.clear m (fun w => decide (k ≤ 8 * w) && decide (8 * w + 8 ≤ k + n))

/-- A write of a core's local store. -/
def State.localWrite (s : State) (core off : Nat) (bs : List Byte) : State :=
  let k := 2 ^ 22 * core + off
  { s with mem := { s.mem with locals := s.mem.locals.write k bs, localErr := clearWords s.mem.localErr k bs.length } }

/-- A write of a cluster's shared memory. -/
def State.sharedWrite (s : State) (cl off : Nat) (bs : List Byte) : State :=
  let k := 2 ^ 25 * cl + off
  { s with mem := { s.mem with shared := s.mem.shared.write k bs, sharedErr := clearWords s.mem.sharedErr k bs.length } }

/-- Bytes of host memory written. -/
def State.hostPut (s : State) (iova : Nat) (bs : List Byte) : State := { s with host := { s.host with mem := s.host.mem.write iova bs } }

/-- A range of shared memory that the polder's commands may not touch: it holds counters (R34), which a DMA command alone reads,
those of the polder and the device counters (R290; log entry 64). -/
def State.counterBarred (s : State) (rc : Reach) (polder cl off n need : Nat) : Bool :=
  s.inCounters cl off n && !(decide (rc = .dma) && decide (need = 1) && (match s.image with
    | some im => im.counters.all (fun r => !(r.cluster == cl && overlap off n r.offset (4 * r.count)) || r.scope == polder || r.scope == 255)
    | none => false))

/-- The status with which an access of a command to a piece fails, before memory is reached (R30, R31, R34, R49, R71). -/
def State.pieceCheck (s : State) (rc : Reach) (polder addr n need : Nat) : Nat :=
  let sp := addrSpace addr
  if !rangeOk addr n then St.badDescriptor
  else if sp = 0 then
    match s.route polder addr need with
    | none => St.notPermitted
    | some (_, _, ret) => if ret then St.retired else St.ok
  else if sp = 1 then
    let cl := bits addr 36 32
    if s.clusterPolder cl ≠ some polder || !rc.shared || s.counterBarred rc polder cl (addrOff addr) n need then St.notPermitted
    else if s.resets.jobs.any (fun j => decide (4 ≤ j.level)) then St.fenced else St.ok
  else if sp = 2 then
    if s.corePolder (addrCore addr) ≠ some polder || !rc.locals (addrCore addr) then St.notPermitted
    else if s.fencedCore (addrCore addr) then St.fenced else St.ok
  else if isHost addr then (if s.hostMapped (addrIova addr) n then St.ok else St.notPermitted)
  else St.notPermitted

/-- A command reads one piece of a range (R30, R303, R317, R687). `col` gives the requester for a column. -/
def State.readPiece (s : State) (rq : Nat → Req) (polder addr n : Nat) : Acc :=
  let st := s.pieceCheck (rq 0).reach polder addr n 1
  if st ≠ St.ok then ⟨[], some (st, addr), s⟩
  else
    let sp := addrSpace addr
    if sp = 0 then
      match s.route polder addr 1 with
      | none => ⟨[], some (St.notPermitted, addr), s⟩
      | some (c, q, _) =>
        match s.chanRead (rq c) addr c q n with
        | (some bs, s) => ⟨bs, none, s⟩
        | (none, s) => ⟨[], some (St.uncorrectable, addr), s⟩
    else if sp = 1 || sp = 2 then
      match (if sp = 1 then s.sharedRead (bits addr 36 32) (addrOff addr) n else s.localRead (addrCore addr) (addrOff addr) n) with
      | (some bs, s) => ⟨bs, none, s⟩
      | (none, s) => ⟨[], some (St.uncorrectable, addr), s⟩
    else if !s.hostClean (addrIova addr) n then ⟨[], some (St.uncorrectable, addr), s⟩
    else ⟨s.host.mem.read (addrIova addr) n, none, s⟩

/-- A command writes one piece of a range. -/
def State.writePiece (s : State) (rq : Nat → Req) (polder addr : Nat) (bs : List Byte) : Acc :=
  let st := s.pieceCheck (rq 0).reach polder addr bs.length 2
  if st ≠ St.ok then ⟨[], some (st, addr), s⟩
  else
    let sp := addrSpace addr
    if sp = 0 then
      match s.route polder addr 2 with
      | none => ⟨[], some (St.notPermitted, addr), s⟩
      | some (c, q, _) =>
        match s.chanWrite (rq c) addr c q bs with
        | (true, s) => ⟨[], none, s⟩
        | (false, s) => ⟨[], some (St.uncorrectable, addr), s⟩
    else if sp = 1 then ⟨[], none, s.sharedWrite (bits addr 36 32) (addrOff addr) bs⟩
    else if sp = 2 then ⟨[], none, s.localWrite (addrCore addr) (addrOff addr) bs⟩
    else ⟨[], none, s.hostPut (addrIova addr) bs⟩

/-- A command reads a range; it stops at the first access that fails (R49, R687). -/
def State.readRange (s : State) (rq : Nat → Req) (polder addr n : Nat) : Acc :=
  (pieces addr n).foldl (fun a p =>
    match a.err with
    | some _ => a
    | none => let r := a.st.readPiece rq polder p.2.1 p.2.2
              ⟨a.data ++ r.data, r.err, r.st⟩) ⟨[], none, s⟩

/-- A command writes a range; `data` of the answer is empty, and `wroteCmd` is set once a write has reached memory. -/
def State.writeRange (s : State) (rq : Nat → Req) (id polder addr : Nat) (bs : List Byte) : Acc :=
  (pieces addr bs.length).foldl (fun a p =>
    match a.err with
    | some _ => a
    | none =>
      let r := a.st.writePiece rq polder p.2.1 (lslice bs p.1 p.2.2)
      match r.err with
      | some e => ⟨[], some e, r.st⟩
      | none => ⟨[], none, r.st.wroteCmd id⟩) ⟨[], none, s⟩

/-- A range checked at fetch (R157 steps 3 and 5): R48, then the polder's rights and the engine's reach (R30, R31). Where a peer
may be named the command checks that itself; everywhere else the peer space is not permitted. -/
def State.rangeCheck (s : State) (rc : Reach) (polder addr n need : Nat) : Nat :=
  let sp := addrSpace addr
  let cl := bits addr 36 32
  if !rangeOk addr n then St.badDescriptor
  else if sp = 0 then (if s.granted polder (addrCore addr) (addrOff addr) n need then St.ok else St.notPermitted)
  else if sp = 1 then
    (if s.clusterPolder cl ≠ some polder || !rc.shared || s.counterBarred rc polder cl (addrOff addr) n need then St.notPermitted else St.ok)
  else if sp = 2 then (if s.corePolder (addrCore addr) ≠ some polder || !rc.locals (addrCore addr) then St.notPermitted else St.ok)
  else if isHost addr then St.ok else St.notPermitted

/-! ### Physical accesses of the host, of peers and of the module itself -/

/-- Bytes of a column by physical offset, whoever reads, without an access taking place: the contents as written. -/
def State.peek (s : State) (col p n : Nat) : List Byte :=
  (List.range n).map (fun i => s.mem.dram.byte (dramKey col (s.cellOf col (p + i))))

/-- A read by physical address (core number, offset) (R303): pieces in order; a failed piece yields its zero bytes and its
block's index in the list of failed pieces. -/
def State.physRead (s : State) (rq : Req) (col p n : Nat) : List Byte × List Nat × State :=
  (pieces p n).foldl (fun a x =>
    match a.2.2.chanRead rq (2 ^ 32 * col + x.2.1) col (a.2.2.cellOf col x.2.1) x.2.2 with
    | (some bs, s) => (a.1 ++ bs, a.2.1, s)
    | (none, s) => (a.1 ++ List.replicate x.2.2 0, a.2.1 ++ [x.2.1 / 64 - p / 64], s)) ([], [], s)

/-- A write by physical address; the answer says how many pieces were not written. -/
def State.physWrite (s : State) (rq : Req) (col p : Nat) (bs : List Byte) : Nat × State :=
  (pieces p bs.length).foldl (fun a x =>
    match a.2.chanWrite rq (2 ^ 32 * col + x.2.1) col (a.2.cellOf col x.2.1) (lslice bs x.1 x.2.2) with
    | (true, s) => (a.1, s)
    | (false, s) => (a.1 + 1, s)) (0, s)

/-- An address that names its column and offset directly lies in a retired unit in force, or in a device page of a grant that
holds a byte of one (R71, R320, R321). -/
def State.pageRetired (s : State) (col p : Nat) : Bool :=
  s.retiredAt col p ||
  (match s.image with
   | some im => im.grants.any (fun g => g.covers col p 0 && s.retiredVia g col p)
   | none => false)

/-- Some byte of a physical range lies in a retired page or bank in force (R305, R321). -/
def State.physRetired (s : State) (col p n : Nat) : Bool := (pieces p n).any (fun x => s.pageRetired col x.2.1)

end Sys2Proof.Machine
end

