-- ==== Sys2Proof/Machine/FabOps.lean ====
section
/-! DEFINITION. Sending on the fabric: paths (R440–R444), frames (R445, R446), sequenced sending (R448), acknowledgements
(R449) and breaches (R469). -/
namespace Sys2Proof.Machine

/-- LOCAL record of the image in force (R81, R83). -/
def State.local? (s : State) : Option LocalRec := s.image.bind (fun im => im.locals.head?)

/-- The module's own device number. -/
def State.device (s : State) : Nat := ((s.local?).map (fun l => l.device)).getD 0

/-- A port is in service (R440). -/
def State.inService (s : State) (i : Nat) : Bool :=
  s.bit (Reg.fabPortStatus i) 0 && decide (i < portCount s.variant) &&
  (match s.local? with
   | some l => l.ports.testBit i
   | none => false)

/-- PEERS entries of a device, over every polder that names it. -/
def State.peerEntries (s : State) (d : Nat) : List PeerRec :=
  ((s.image.map (fun im => im.peers)).getD []).filter (fun r => r.device == d)

/-- The peer record of a device in a polder's table (R82, R443). -/
def State.peer (s : State) (polder d : Nat) : Option PeerRec :=
  (s.peerEntries d).find? (fun r => r.polder == polder)

/-- A polder may use a right of a peer: 0 read, 1 write, 2 collective, 3 parity (R82). -/
def State.peerRight (s : State) (polder d right : Nat) : Bool :=
  match s.peer polder d with
  | some r => r.rights.testBit right
  | none => false

/-- A device that is reached by ports 4 to 7 alone, which the module lacks (R5, R83, R93): its PORT_MASKs, within LOCAL's PORTS, name
none of ports 0 to 3. -/
def State.needsHigh (s : State) (d : Nat) : Bool :=
  match s.local? with
  | none => false
  | some l =>
    let masks := (s.peerEntries d).map (fun r => r.portMask &&& l.ports)
    !s.cap 4 && masks.any (fun m => decide (16 ≤ m)) && masks.all (fun m => decide (m % 16 = 0))

/-- The peer devices of a polder, ascending. -/
def State.peersOf (s : State) (polder : Nat) : List Nat :=
  (((s.image.map (fun im => im.peers)).getD []).filter (fun r => r.polder == polder)).foldl
    (fun l r => if l.contains r.device then l else (l.filter (· < r.device)) ++ r.device :: l.filter (r.device < ·)) []

/-- The addresses of a device, in table order; a path's entry is a position in this list (R442, R443). -/
def State.peerAddrs (s : State) (d : Nat) : List Nat :=
  (s.peerEntries d).foldl (fun l r => if l.contains r.addr then l else l ++ [r.addr]) []

/-- The paths to a device: local port in service and entry whose PORT_MASK holds it (R443). -/
def State.paths (s : State) (d : Nat) : List (Nat × Nat) :=
  (List.range 8).flatMap (fun p => if s.inService p then
    ((s.peerAddrs d).zipIdx.filter (fun a => (s.peerEntries d).any (fun r => r.addr == a.1 && r.portMask.testBit p))).map
      (fun a => (p, a.2)) else [])

/-- The flow to a device; a new one starts at generation FAB_INCARNATION with PSN 0 (R448, R451). -/
def State.flow (s : State) (d : Nat) : Flow :=
  (SMap.get (fun _ => none) s.fab.flows d).getD
    ⟨s.fld Reg.fabIncarnation 15 0, 0, [], 0, 0, false, 0, 0, true⟩

/-- The flow to a device replaced. -/
def State.setFlow (s : State) (d : Nat) (f : Flow) : State :=
  { s with fab := { s.fab with flows := SMap.set (fun _ => none) s.fab.flows d (some f) } }

/-- Header, type area and payload of a datagram with its CRC-32C (R445); the CRC is sent big-endian. -/
def datagramBytes (typ flags tag src dst gen psn msg : Nat) (area payload : List Byte) : List Byte :=
  let h := [0x10, BitVec.ofNat 8 typ] ++ beBytes 2 flags ++ leBytes 4 tag ++ beBytes 2 src ++ beBytes 2 dst ++
    beBytes 2 gen ++ beBytes 2 payload.length ++ beBytes 4 psn ++ beBytes 4 msg ++
    (area ++ List.replicate (16 - area.length) 0) ++ payload
  h ++ beBytes 4 (crc32c h)

/-- Ethernet header and FCS, IP header and UDP or ICMP header around a payload: IPv4 for an IPv4-mapped address, else IPv6 (R442). -/
def ipOver (ip : Nat) : Nat := if ip / 2 ^ 32 = 0xFFFF then 46 else 66

/-- The address of a port (R81). -/
def State.portAddr (s : State) (port : Nat) : Nat := match s.local? with
  | some l => l.addrs.getD port 0
  | none => 0

/-- LOCAL.UDP_PORT. -/
def State.udpPort (s : State) : Nat := ((s.local?).map (fun l => l.udpPort)).getD 0

/-! #### Ethernet addresses (R439, R441) -/

/-- Bytes of an ARP frame, or of a neighbor solicitation or advertisement with its link-layer option. -/
def arpSize (ip : Nat) : Nat := if ip / 2 ^ 32 = 0xFFFF then 64 else 90

/-- Where an ARP request or a neighbor solicitation goes: to every station, or to the solicited node's group. -/
def askEth (ip : Nat) : Nat := if ip / 2 ^ 32 = 0xFFFF then 2 ^ 48 - 1 else 0x3333FF000000 + ip % 2 ^ 24

/-- Another packet leaves by a port, to an Ethernet address. -/
def State.putEther (s : State) (port kind eth dst size : Nat) (data : List Byte) : State :=
  ((s.addCnt (Reg.fabPortCntTxFrames port) 1).addCnt (Reg.fabPortCntTxBytes port) size).emit (.packet port kind eth dst data)

/-- The resolved address of a port and an IP address replaced, with the tick of its last exchange. -/
def State.setArp (s : State) (port ip eth : Nat) : State :=
  { s with fab := { s.fab with arp := (port, ip, eth, s.tick) :: s.fab.arp.filter (fun x => !(x.1 == port && x.2.1 == ip)) } }

/-- The Ethernet address that ARP or Neighbor Discovery gave a port for an IP address. -/
def State.ethOf (s : State) (port ip : Nat) : Option Nat :=
  (s.fab.arp.find? (fun e => e.1 == port && e.2.1 == ip)).map (fun e => e.2.2.1)

/-- A port asks for an address, and takes in the answer (R439): the Ethernet address in it is the other side's, a free value (log
entry 77). -/
def State.askArp (s : State) (port ip : Nat) : State :=
  ((s.putEther port 1 (askEth ip) ip (arpSize ip) (beBytes 16 ip)).setArp port ip (Config.freeNat s.freeCtr % 2 ^ 48)).fresh

/-- An address is resolved before the first packet to it (R441). -/
def State.resolve (s : State) (port ip : Nat) : State := if (s.ethOf port ip).isSome then s else s.askArp port ip

/-- An IP packet that is not a Ralwick datagram leaves by a port. -/
def State.putPacket (s : State) (port kind dst size : Nat) (data : List Byte) : State :=
  let s := s.resolve port dst
  s.putEther port kind ((s.ethOf port dst).getD 0) dst size data

/-- The IP and UDP fields of a Ralwick packet (R442); ECT(0) is binary 10. -/
def State.ipHead (s : State) (port entry dst : Nat) : IpHead :=
  { port := port, eth := (s.ethOf port dst).getD 0, src := s.portAddr port, dst := dst, udpSrc := 49152 + 16 * port + entry,
    udpDst := s.udpPort, dscp := s.fld Reg.fabCtrl 5 0, ecn := 2, hop := 64, df := decide (dst / 2 ^ 32 = 0xFFFF) }

/-- A datagram leaves by a port (R442): FAB_CNT_TX_FRAMES and FAB_CNT_TX_BYTES count its Ethernet frame. -/
def State.putDatagram (s : State) (port entry dst : Nat) (bytes : List Byte) : State :=
  let s := s.resolve port dst
  let s := s.addCnt (Reg.fabPortCntTxFrames port) 1
  let s := s.addCnt (Reg.fabPortCntTxBytes port) (bytes.length + ipOver dst)
  s.emit (.datagram (s.ipHead port entry dst) bytes)

/-- The bytes of a sequenced frame of a flow. -/
def State.frameBytes (s : State) (d : Nat) (f : Flow) (t : TxFrame) : List Byte :=
  datagramBytes t.typ t.flags (s.nat Reg.nvsCfgTag) s.device d f.gen t.psn t.msg t.area t.payload

/-- Where in a flow's paths a frame goes out: the next in round-robin order, and for one sent before, another than last time where
there is one (R444, R450). -/
def pathIndex (f : Flow) (ps : List (Nat × Nat)) (t : TxFrame) : Nat :=
  let i := f.rr % max ps.length 1
  if t.path.isSome && decide (ps[i]? = t.path) then (i + 1) % max ps.length 1 else i

/-- A frame of a flow goes out on its path; without a path it waits (R444). A BREACH counts when it is first sent (R480). -/
def State.putFrame (s : State) (d : Nat) (t : TxFrame) : State :=
  let f := s.flow d
  let ps := s.paths d
  let i := pathIndex f ps t
  match ps[i]? with
  | none => s
  | some (p, e) =>
    let s := s.putDatagram p e ((s.peerAddrs d).getD e 0) (s.frameBytes d f t)
    let s := if t.typ = 0x40 && t.path.isNone then s.addCnt Reg.fabCntBreachTx 1 else s
    s.setFlow d { f with rr := (i + 1) % ps.length,
                         unacked := f.unacked.map (fun u => if u.psn = t.psn then { u with sent := some s.tick, path := some (p, e) } else u) }

/-! #### The receiving side of a flow (R449, R455) -/

/-- The receiving side of a source device's flow. -/
def State.rxOf (s : State) (d : Nat) : Option RxFlow := SMap.get (fun _ => none) s.fab.rx d

/-- It replaced. -/
def State.setRx (s : State) (d : Nat) (r : RxFlow) : State :=
  { s with fab := { s.fab with rx := SMap.set (fun _ => none) s.fab.rx d (some r) } }

/-- Consecutive PSNs accepted beyond a gap close it. -/
def closeGap : Nat → Nat → List Nat → Nat × List Nat
  | 0, next, beyond => (next, beyond)
  | n + 1, next, beyond => if beyond.contains next then closeGap n ((next + 1) % 2 ^ 32) (beyond.filter (· ≠ next)) else (next, beyond)

/-- A PSN of a flow is accepted (R449). -/
def State.acceptPsn (s : State) (d psn : Nat) : State :=
  match s.rxOf d with
  | none => s
  | some r =>
    let g := closeGap (r.beyond.length + 1) r.next (psn :: r.beyond)
    s.setRx d { r with next := g.1, beyond := g.2, unacked := r.unacked + 1, oldest := some (r.oldest.getD s.tick) }

/-- A frame of the flow to a device has been sent. -/
def State.wasSent (s : State) (d psn : Nat) : Bool := match (s.flow d).unacked.find? (fun t => t.psn == psn) with
  | some t => t.path.isSome
  | none => true

/-- READ_REQ frames of a device whose last READ_RSP frame has been sent are accepted (R455). -/
def State.settleReads (s : State) (d : Nat) : State :=
  let due := s.fab.reads.filter (fun x => x.1 == d && s.wasSent d x.2.2)
  due.foldl (fun (s : State) x => s.acceptPsn d x.2.1) { s with fab := { s.fab with reads := s.fab.reads.filter (fun x => !due.contains x) } }

/-- Frames that wait go out, in order, while fewer than 1,024 are unacknowledged (R448) and the peer is not DOWN (R450, R476). -/
def State.pump (s : State) (d : Nat) : State :=
  if (s.paths d).isEmpty || (s.flow d).down then s
  else
    let f := s.flow d
    let room := 1024 - f.unacked.countP (fun t => t.sent.isSome)
    (((f.unacked.filter (fun t => t.sent.isNone && !t.busy)).take room).foldl (fun s t => s.putFrame d t) s).settleReads d

/-- A sequenced frame is added to the flow to a device and sent as soon as the window and the paths allow (R448). -/
def State.sendSeq (s : State) (d typ flags msg : Nat) (area payload : List Byte) (owner : Option Nat) : State :=
  let f := s.flow d
  let t : TxFrame := ⟨f.next, typ, if f.syn then flags ||| 8 else flags, msg, area, payload, owner, (owner.bind s.cmd?).map (fun c => c.ctx), none, false, false, none⟩
  (s.setFlow d { f with next := (f.next + 1) % 2 ^ 32, unacked := f.unacked ++ [t], syn := false }).pump d

/-- An unsequenced answer goes back to a port and an address; the peer port index is the address's place among the peer's. -/
def State.sendBack (s : State) (d port dst typ gen : Nat) (area payload : List Byte) : State :=
  s.putDatagram port (((s.peerAddrs d).findIdx? (· == dst)).getD 0) dst (datagramBytes typ 0 (s.nat Reg.nvsCfgTag) s.device d gen 0 0 area payload)

/-- A NAK (R446, R453). -/
def State.sendNak (s : State) (d port dst gen psn status : Nat) (resync : Bool) : State :=
  (s.sendBack d port dst 0x11 gen (beBytes 4 psn ++ [BitVec.ofNat 8 status, BitVec.ofNat 8 (b2n resync)]) []).addCnt
    Reg.fabCntNakTx 1

/-- A BREACH frame for each peer device given (R469). -/
def State.breachTo (s : State) (devs : List Nat) (origin serial status : Nat) : State :=
  devs.foldl (fun s d => s.sendSeq d 0x40 4 0
    (beBytes 2 origin ++ [0, 0] ++ beBytes 4 serial ++ [BitVec.ofNat 8 status]) [] none) s

/-- FAB_STATUS shows how many peers are DOWN (R480). -/
def State.showDown (s : State) : State :=
  s.setFld Reg.fabStatus 31 16 (s.fab.flows.countP (fun e => match e.2 with
    | some f => f.down
    | none => false))

/-- The module remembers the last 256 breaches (R471). -/
def State.seeBreach (s : State) (origin serial : Nat) : State :=
  { s with fab := { s.fab with seen := ((origin, serial) :: s.fab.seen).take 256 } }

/-- A breach of a polder that has peers originates here (R469). -/
def State.originBreach (s : State) (polder status : Nat) : State :=
  if (s.peersOf polder).isEmpty then s
  else
    let n := s.fab.breachSerial
    let s := { s with fab := { s.fab with breachSerial := (n + 1) % 2 ^ 32 } }
    (s.seeBreach s.device n).breachTo (s.peersOf polder) s.device n status

/-- The frames of a command that has ended stay in their flows without an owner. -/
def State.disownFrames (s : State) (id : Nat) : State :=
  { s with fab := { s.fab with flows := s.fab.flows.map (fun e => (e.1, e.2.map (fun f =>
    { f with unacked := f.unacked.map (fun t => if t.owner = some id then { t with owner := none } else t) }))) } }

end Sys2Proof.Machine
end

