-- ==== Sys2Proof/Machine/Settings.lean ====
section
/-! DEFINITION. Persistent settings: the table of R119, the three copies (R120–R123), the durable record (R124, R128) and
the digests (R130–R133). -/
namespace Sys2Proof.Machine

/-- Keys of R119. -/
abbrev Key.minImageSerial : Nat := 0x0001
/-- ROUND_DEFAULT (R119). -/
abbrev Key.roundDefault : Nat := 0x0002
/-- VOTE_MARGIN (R119). -/
abbrev Key.voteMargin : Nat := 0x0003
/-- RALWICK_RTO_US (R119). -/
abbrev Key.rto : Nat := 0x0004
/-- RALWICK_ECN_BETA (R119). -/
abbrev Key.ecnBeta : Nat := 0x0005
/-- RECKON_ACTION (R119). -/
abbrev Key.reckonAction : Nat := 0x0006
/-- HEAT_FLOOR_W (R119). -/
abbrev Key.heatFloor : Nat := 0x0101
/-- SLEW_W_S (R119). -/
abbrev Key.slew : Nat := 0x0102
/-- GRANT_DEFAULT_W (R119). -/
abbrev Key.grantDefault : Nat := 0x0103
/-- VIGIL_DEFAULT_MS (R119). -/
abbrev Key.vigilDefault : Nat := 0x0104
/-- SLUICE_US (R119). -/
abbrev Key.sluice : Nat := 0x0105
/-- FLEET_MTBF_H (R119). -/
abbrev Key.fleetMtbf : Nat := 0x0106
/-- GLYCOL_PCT (R119). -/
abbrev Key.glycol : Nat := 0x0107
/-- QUIESCE_MS (R119). -/
abbrev Key.quiesceMs : Nat := 0x0108

/-- The settings the module knows: key, lowest and highest value, default (R119); `lim` is the module power limit. -/
def settingsTable (lim : Nat) : List (Nat × Nat × Nat × Nat) :=
  [(Key.minImageSerial, 0, 0xFFFFFFFF, 0), (Key.roundDefault, 0, 1, 0), (Key.voteMargin, 0, 127, 0),
   (Key.rto, 10, 10000, 50), (Key.ecnBeta, 1, 255, 128), (Key.reckonAction, 0, 1, 0),
   (Key.heatFloor, 0, lim, 0), (Key.slew, 10, 5000, 200), (Key.grantDefault, 0, lim, lim),
   (Key.vigilDefault, 1, 600000, 2000), (Key.sluice, 10, 10000, 100), (Key.fleetMtbf, 0, 1000000, 0),
   (Key.glycol, 0, 30, 0), (Key.quiesceMs, 1, 60000, 1000)]

/-- The row of a key. -/
def State.setting? (s : State) (k : Nat) : Option (Nat × Nat × Nat × Nat) :=
  (settingsTable (powerLimit s.fuses.variant)).find? (fun r => r.1 == k)

/-- The default of a key (R119). -/
def State.settingDefault (s : State) (k : Nat) : Nat := ((s.setting? k).map (fun r => r.2.2.2)).getD 0

/-- A key is of class COMMON (R119). -/
def isCommon (k : Nat) : Bool := decide (k < 0x100)

/-- The in-force value of a setting. -/
def State.inforce (s : State) (k : Nat) : Nat := SMap.get s.settingDefault s.sets.inforce k
/-- The shadow value of a setting. -/
def State.shadowVal (s : State) (k : Nat) : Nat := SMap.get s.settingDefault s.sets.shadow k
/-- The durable value of a setting. -/
def State.durableVal (s : State) (k : Nat) : Nat := SMap.get s.settingDefault s.sets.durable k

/-- The COMMON keys, ascending (R131). -/
def commonKeys : List Nat := [1, 2, 3, 4, 5, 6]
/-- The LOCAL keys, ascending. -/
def localKeys : List Nat := [0x101, 0x102, 0x103, 0x104, 0x105, 0x106, 0x107, 0x108]

/-- A copy with one value set. -/
def State.putSetting (s : State) (m : SMap Nat) (k v : Nat) : SMap Nat := SMap.set s.settingDefault m k v

/-- NVS_STATUS.DIRTY and COMMON_PENDING follow the copies (R121, R138). -/
def State.nvsFlags (s : State) : State :=
  let s := s.setBit Reg.nvsStatus 1 (decide (s.sets.shadow ≠ s.sets.durable))
  s.setBit Reg.nvsStatus 2 (commonKeys.any (fun k => decide (s.durableVal k ≠ s.inforce k)))

/-- The runtime register of a LOCAL setting takes its in-force value (R120). -/
def State.applySetting (s : State) (k : Nat) : State :=
  if k = Key.heatFloor then s.setFld Reg.pwrHeatFloor 15 0 (s.inforce Key.heatFloor)
  else if k = Key.slew then s.setFld Reg.pwrSlew 12 0 (s.inforce Key.slew)
  else if k = Key.sluice then s.setFld Reg.dikeSluiceUs 13 0 (s.inforce Key.sluice)
  else s

/-- The runtime registers of every LOCAL setting take their values (R120, R123). -/
def State.applyLocal (s : State) : State := localKeys.foldl State.applySetting s

/-- The LOCAL values of the shadow copy come into force (R123). -/
def State.forceLocal (s : State) : State :=
  let m := localKeys.foldl (fun m k => s.putSetting m k (s.shadowVal k)) s.sets.inforce
  ({ s with sets := { s.sets with inforce := m } }).applyLocal

/-- The COMMON values of the durable copy come into force (R121). -/
def State.forceCommon (s : State) : State :=
  { s with sets := { s.sets with inforce := commonKeys.foldl (fun m k => s.putSetting m k (s.durableVal k)) s.sets.inforce } }

/-! ### The durable record -/

/-- The 8-byte encoding of an entry (R124). -/
def settingBytes (e : Nat × Nat) : List Byte := leBytes 2 e.1 ++ [0, 0] ++ leBytes 4 e.2

/-- A list of entries in ascending key order. -/
def sortEntries (es : List (Nat × Nat)) : List (Nat × Nat) :=
  es.foldl (fun l e => (l.filter (fun x => x.1 < e.1)) ++ e :: (l.filter (fun x => e.1 < x.1))) []

/-- A durable record (R124). -/
def settingsRecord (seq : Nat) (es : List (Nat × Nat)) : List Byte :=
  let b := [0x4E, 0x56, 0x53, 0x31] ++ leBytes 4 seq ++ leBytes 2 es.length ++ List.replicate 6 0 ++
    (sortEntries es).flatMap settingBytes
  b ++ leBytes 4 (crc32 b)

/-- Whether a slot holds a valid record, and its SEQ and entries (R124, R128). -/
def readSettings (slot : List Byte) : Option (Nat × List (Nat × Nat)) :=
  let n := lsub slot 8 2
  if lslice slot 0 4 = [0x4E, 0x56, 0x53, 0x31] && decide (16 + 8 * n + 4 ≤ 4096) &&
      decide (lsub slot (16 + 8 * n) 4 = crc32 (slot.take (16 + 8 * n))) then
    some (lsub slot 4 4, (List.range n).map (fun i => (lsub slot (16 + 8 * i) 2, lsub slot (20 + 8 * i) 4)))
  else none

/-- The durable copy is taken from NVM at boot, and the other copies from it (R128). Unlisted values are defaults. Of two valid slots with
equal SEQ slot 0 is taken, and where neither is valid the next STORE writes slot 0 (R125; log entry 69). -/
def State.loadSettings (s : State) : State :=
  let r0 := readSettings s.nvm.slot0
  let r1 := readSettings s.nvm.slot1
  let pick : Option (Nat × Nat × List (Nat × Nat)) := match r0, r1 with
    | some a, some b => if a.1 < b.1 then some (1, b) else some (0, a)
    | some a, none => some (0, a)
    | none, some b => some (1, b)
    | none, none => none
  let es : List (Nat × Nat) := (pick.map (fun (p : Nat × Nat × List (Nat × Nat)) => p.2.2)).getD []
  let known := es.filter (fun e => (s.setting? e.1).isSome)
  let m := known.foldl (fun m e => s.putSetting m e.1 e.2) []
  let s := { s with sets := ⟨m, m, m, (pick.map (fun (p : Nat × Nat × List (Nat × Nat)) => p.2.1)).getD 0, es.filter (fun e => (s.setting? e.1).isNone),
                             (pick.map (fun (p : Nat × Nat × List (Nat × Nat)) => p.1)).getD 1, none⟩ }
  let s := s.setNat Reg.nvsSeq s.sets.seq
  let s := s.setNat Reg.nvsStoreCount s.nvm.storeCount
  let s := (s.setBit Reg.nvsStatus 4 pick.isNone).applyLocal.nvsFlags
  if pick.isNone then s.event 0x0203 Src.module none 0 else s

/-! ### Digests -/

/-- The settings digest (R131). -/
def State.settingsDigest (s : State) : Digest := digestOf (commonKeys.flatMap (fun k => settingBytes (k, s.inforce k)))

/-- The bytes of the image digest: IMG_DIGEST, or 32 zero bytes with no image in force (R130). -/
def State.imageDigest (s : State) : Digest := match s.image with
  | some im => im.digest
  | none => 0

/-- The configuration digest (R132). -/
def State.cfgDigest (s : State) : Digest :=
  digestOf (digestBytes s.sec.fwDigest ++ digestBytes s.imageDigest ++ digestBytes s.settingsDigest)

/-- The settings digest, the configuration digest and the tag are recomputed (R133). -/
def State.recomputeDigests (s : State) : State :=
  let s := s.setDigest (Reg.nvsSettingsDigest 0) s.settingsDigest
  let s := s.setDigest (Reg.nvsFwDigest 0) s.sec.fwDigest
  let d := s.cfgDigest
  let s := s.setDigest (Reg.nvsCfgDigest 0) d
  s.setReg Reg.nvsCfgTag (digestWord d 0)

end Sys2Proof.Machine
end

