-- ==== Sys2Proof/Machine/Tracker.lean ====
section
/-! DEFINITION. Contexts and the command tracker: functions and their ranges (R140–R143), fields of a context entry
(R177–R181), what holds a fetch back (R146–R151, R170), and the ways a command is stopped (R173, R175, R554). -/
namespace Sys2Proof.Machine

/-- FN_RANGE FIRST and COUNT of a virtual function (R141, R181). -/
def State.fnRange (s : State) (v : Nat) : Nat × Nat := (s.fld (Reg.fnRange v) 11 0, s.fld (Reg.fnRange v) 28 16)

/-- A context lies in the range of virtual function `v`, which VF Enable has brought into being. -/
def State.inRange (s : State) (v ctx : Nat) : Bool :=
  let r := s.fnRange v
  decide (1 ≤ v) && decide (v ≤ s.pcie.vfs) && decide (r.1 ≤ ctx) && decide (ctx < r.1 + r.2)

/-- The function that owns a context (R140). -/
def State.fnOf (s : State) (ctx : Nat) : Nat := ((List.range 64).find? (fun v => s.inRange v ctx)).getD 0

/-- The context that a function addresses with a local index (R143). -/
def State.localCtx (s : State) (fn idx : Nat) : Option Nat :=
  if fn = 0 then (if idx < 4096 then some idx else none)
  else
    let r := s.fnRange fn
    if decide (fn ≤ s.pcie.vfs) && decide (idx < r.2) then some (r.1 + idx) else none

/-- What a context holds beside its registers. -/
def State.aux (s : State) (ctx : Nat) : CtxAux := SMap.get (fun _ => ⟨[], 0, none, false, none⟩) s.ctxs ctx

/-- It replaced. -/
def State.setAux (s : State) (ctx : Nat) (a : CtxAux) : State :=
  { s with ctxs := SMap.set (fun _ => ⟨[], 0, none, false, none⟩) s.ctxs ctx a }

/-- CTX_CTRL.ENABLE. -/
def State.enabled (s : State) (ctx : Nat) : Bool := s.bit (Reg.ctxCtrl ctx) 0
/-- Slots of the submission ring (R147). -/
def State.sqSize (s : State) (ctx : Nat) : Nat := 2 ^ s.fld (Reg.ctxRingSize ctx) 4 0
/-- Slots of the completion ring (R147). -/
def State.cqSize (s : State) (ctx : Nat) : Nat := 2 ^ s.fld (Reg.ctxRingSize ctx) 12 8
/-- IOVA of the submission ring. -/
def State.sqBase (s : State) (ctx : Nat) : Nat :=
  2 ^ 32 * s.fld (Reg.ctxSqBaseHi ctx) 11 0 + 2 ^ 12 * s.fld (Reg.ctxSqBaseLo ctx) 31 12
/-- IOVA of the completion ring. -/
def State.cqBase (s : State) (ctx : Nat) : Nat :=
  2 ^ 32 * s.fld (Reg.ctxCqBaseHi ctx) 11 0 + 2 ^ 12 * s.fld (Reg.ctxCqBaseLo ctx) 31 12
/-- Index of the next descriptor to fetch. -/
def State.sqHead (s : State) (ctx : Nat) : Nat := s.fld (Reg.ctxSqHead ctx) 15 0
/-- Last accepted DB_SQ_TAIL. -/
def State.sqTail (s : State) (ctx : Nat) : Nat := s.fld (Reg.ctxSqTail ctx) 15 0
/-- Next record slot. -/
def State.cqTail (s : State) (ctx : Nat) : Nat := s.fld (Reg.ctxCqTail ctx) 15 0
/-- Last accepted DB_CQ_HEAD. -/
def State.cqHead (s : State) (ctx : Nat) : Nat := s.fld (Reg.ctxCqHead ctx) 15 0

/-- Commands of a context in flight. -/
def State.inflight (s : State) (ctx : Nat) : Nat := s.cmds.countP (fun c => c.ctx == ctx)
/-- Commands of a function in flight. -/
def State.fnInflight (s : State) (fn : Nat) : Nat := s.cmds.countP (fun c => s.fnOf c.ctx == fn)
/-- Commands of a polder in flight. -/
def State.polderCmds (s : State) (p : Nat) : List Cmd :=
  s.cmds.filter (fun c => s.bit (Reg.ctxBind c.ctx) 7 && decide (s.ctxPolder c.ctx = p))

/-- A record slot is free: commands in flight and unconsumed records stay below the ring size minus one (R151). -/
def State.cqRoom (s : State) (ctx : Nat) : Bool :=
  let n := s.cqSize ctx
  decide (s.inflight ctx + (s.cqTail ctx + n - s.cqHead ctx) % n < n - 1)

/-- CQ_STALL reads 1 while no slot can be reserved for an enabled context (R151). -/
def State.stallFlag (s : State) (ctx : Nat) : State := s.setBit (Reg.ctxStatus ctx) 20 (s.enabled ctx && !s.cqRoom ctx)

/-! ### Priority classes (R146) -/

/-- CTX_BIND.PRIORITY. -/
def State.priority (s : State) (ctx : Nat) : Nat := s.fld (Reg.ctxBind ctx) 9 8

/-- Slots left to a class in this round. -/
def Arb.credit (a : Arb) (k : Nat) : Nat := a.credits.getD k 0

/-- A class has a context waiting and slots left in the round. -/
def Arb.mayServe (a : Arb) (cls : Nat → Nat) (waiting : List Nat) (k : Nat) : Bool :=
  decide (0 < a.credit k) && waiting.any (fun x => decide (cls x = k))

/-- The turn of a context among those waiting: its class has slots left, or no waiting class has any and a new round begins, and within
the class it is the next in round-robin. The order of the classes within a round is open (log entry 24). -/
def Arb.turn (a : Arb) (cls : Nat → Nat) (waiting : List Nat) (ctx : Nat) : Bool :=
  let mine := waiting.filter (fun x => decide (cls x = cls ctx))
  let after := mine.filter (fun x => decide (a.next.getD (cls ctx) 0 ≤ x))
  waiting.contains ctx && (a.mayServe cls waiting (cls ctx) || !(List.range 4).any (a.mayServe cls waiting)) &&
  (if after.isEmpty then mine else after).all (fun x => decide (ctx ≤ x))

/-- A context is served: a slot of its class is used, in a new round where no waiting class had one left. -/
def Arb.serve (a : Arb) (cls : Nat → Nat) (waiting : List Nat) (ctx : Nat) : Arb :=
  let c := if (List.range 4).any (a.mayServe cls waiting) then a.credits else Arb.start.credits
  ⟨c.set (cls ctx) (c.getD (cls ctx) 0 - 1), a.next.set (cls ctx) (ctx + 1)⟩

/-- An arbiter. -/
def State.arb (s : State) (q : Nat) : Arb := SMap.get (fun _ => Arb.start) s.arbs q

/-- Run state of a polder (R107). -/
def State.runState (s : State) (p : Nat) : RunState := SMap.get (fun _ => .running) s.runs p

/-- A polder is RUNNING. -/
def State.running (s : State) (p : Nat) : Bool := decide (s.runState p = .running)

/-- A command whose units must be stopped before it can end: something of it runs on engines, NBUs, DMA or BD units (R552). -/
def Cmd.holdsUnits (c : Cmd) : Bool :=
  match c.phase with
  | .running => (match c.work with
    | .none => false
    | .abort _ => false
    | .wait => false
    | .nbu left => !left.isEmpty
    | .opt left _ onNbus _ => !left.isEmpty || !onNbus
    | .attn _ _ _ left => !left.isEmpty
    | _ => true)
  | _ => false

/-- A command in flight whose status a stop may still decide: no stop has decided it already. -/
def Cmd.stoppable (c : Cmd) : Bool :=
  match c.phase with
  | .stopping _ _ => false
  | .done st => !([St.aborted, St.timeout, St.guilty, St.resetLost, St.fenced, St.peerAbort].contains st)
  | _ => true

/-- A command is asked to stop with a status: one that holds no unit ends at once, another when its units have stopped
(R173, R175, R552, R554). Its shadow work is discarded (R253), its re-executions are abandoned (R217), and its NBUs stop at their bundle
boundaries (R356). A completion reported since has no effect (R176). -/
def State.stopCmd (s : State) (id status : Nat) : State :=
  match s.cmd? id with
  | none => s
  | some c =>
    if !c.stoppable then s
    else
      let s := (s.dropShadow id).mapCores (fun k => { k with redo := k.redo.filter (fun r => r.1 != id) })
      let s := match c.work with
        | .nbu _ => s.stopSeqs id
        | _ => s
      s.updCmd id (fun c => if c.holdsUnits then { c with phase := .stopping status s.tick, errAddr := none }
        else { c with phase := .done status, errAddr := none })

/-- The commands of a list are asked to stop. -/
def State.stopAll (s : State) (ids : List Nat) (status : Nat) : State := ids.foldl (fun s i => s.stopCmd i status) s

/-- Every command of a polder in flight has been held below its frequency ceiling (R165). -/
def State.throttlePolder (s : State) (p : Nat) : State :=
  { s with cmds := s.cmds.map (fun c => if s.ctxPolder c.ctx = p && c.holdsUnits then { c with warn := setWarn c.warn Wn.throttled } else c) }

/-- The contexts bound to a polder. -/
def State.ctxsOf (s : State) (p : Nat) : List Nat :=
  (List.range 4096).filter (fun c => s.bit (Reg.ctxBind c) 7 && decide (s.ctxPolder c = p))

/-- Slots of a context that hold submitted descriptors not yet fetched. -/
def State.submitted (s : State) (ctx : Nat) : List Nat :=
  let n := s.sqSize ctx
  (List.range ((s.sqTail ctx + n - s.sqHead ctx) % n)).map (fun i => (s.sqHead ctx + i) % n)

/-- Slots marked before their fetch with the status their descriptors will complete with. -/
def State.markSlots (s : State) (ctx : Nat) (slots : List Nat) (status : Nat) : State :=
  let a := s.aux ctx
  let new := slots.filter (fun x => a.marked.all (fun m => m.1 != x))
  if new.isEmpty then s else s.setAux ctx { a with marked := a.marked ++ new.map (fun x => (x, status)) }

/-- The VIGIL of a command runs out at this tick (R550); one millisecond is 25,000 ticks. -/
def Cmd.vigilEnd (c : Cmd) : Nat := c.vigilFrom + 25000 * c.vigilMs

end Sys2Proof.Machine
end

