-- ==== Sys2Proof/Machine/Run.lean ====
section
/-! DEFINITION. How a command in flight starts (R166–R168), runs and ends: a run carries the state along and stops at the first
access or check that fails (R49, R162). -/
namespace Sys2Proof.Machine

/-- Why a run stops: its status, the failing address where R162 gives one, and for a page operation the reason and page of
R376. -/
structure Fail where
  status : Nat
  addr : Option Nat
  reason : Nat
  page : Option Nat
  deriving DecidableEq, Repr

/-- A run over the state that may stop. What it changed before it stopped stays. -/
abbrev Run := EStateM Fail State

/-- The run stops with a status. -/
def Run.stop {α : Type} (status : Nat) : Run α := throw ⟨status, none, 0, none⟩
/-- The run stops at an address. -/
def Run.stopAt {α : Type} (status addr : Nat) : Run α := throw ⟨status, some addr, 0, none⟩
/-- The run stops with a status unless a condition holds. -/
def Run.need (ok : Bool) (status : Nat) : Run Unit := if ok then pure () else Run.stop status

/-- What an access answers, as a run. -/
def Run.ofAcc (f : State → Acc) : Run (List Byte) := fun s =>
  let a := f s
  match a.err with
  | some e => .error ⟨e.1, some e.2, 0, none⟩ a.st
  | none => .ok a.data a.st

/-- Bytes read under the polder's rights. -/
def Run.read (rq : Nat → Req) (polder addr n : Nat) : Run (List Byte) := Run.ofAcc (fun s => s.readRange rq polder addr n)
/-- Bytes written under the polder's rights for a command. -/
def Run.write (rq : Nat → Req) (id polder addr : Nat) (bs : List Byte) : Run Unit := do
  let _ ← Run.ofAcc (fun s => s.writeRange rq id polder addr bs)
/-- A range that the polder may touch throughout (R30, R157 step 5): checked before anything is written, where the range is known only
at the start; the run stops at its first byte that may not be touched. -/
def Run.mayTouch (rc : Reach) (polder addr n need : Nat) : Run Unit := do
  let s ← get
  match (pieces addr n).find? (fun x => s.rangeCheck rc polder x.2.1 x.2.2 need != St.ok) with
  | some x => Run.stopAt (s.rangeCheck rc polder x.2.1 x.2.2 need) x.2.1
  | none => pure ()
/-- Bytes of a report or result record written: not a write of the command (R165, R375). -/
def Run.report (rq : Nat → Req) (polder addr : Nat) (bs : List Byte) : Run Unit := do
  let _ ← Run.ofAcc (fun s => s.writeRange rq (2 ^ 64) polder addr bs)

/-- The run of a command applied: it ends with ST_OK, or as the run stopped. -/
def State.runEnd (s : State) (id : Nat) (r : Run Unit) : State :=
  match r s with
  | .ok _ s => s.endCmd id St.ok none
  | .error e s => match e.addr with
    | some a => s.failCmd id (e.status, a)
    | none => s.endCmd id e.status none

/-- The run of a command that goes on after it: only a stop ends it. -/
def State.runOn (s : State) (id : Nat) (r : Run Unit) : State :=
  match r s with
  | .ok _ s => s
  | .error e s => match e.addr with
    | some a => s.failCmd id (e.status, a)
    | none => s.endCmd id e.status none

/-- OPCODE of a descriptor (R154). -/
def Cmd.op (c : Cmd) : Nat := dbyte c.desc 0
/-- ORDERED of a descriptor. -/
def Cmd.ordered (c : Cmd) : Bool := bit (dbyte c.desc 1) 0
/-- REPLAYABLE of a descriptor. -/
def Cmd.replayable (c : Cmd) : Bool := bit (dbyte c.desc 1) 1
/-- An ADDR field of a descriptor (R156). -/
def Cmd.addr (c : Cmd) (off : Nat) : Nat := dfld c.desc off 6
/-- Stochastic drain rounding (R154, R238). -/
def Cmd.stochastic (c : Cmd) : Bool :=
  let r := bits (dbyte c.desc 1) 4 3
  if r = 0 then decide (c.roundDefault = 1) else decide (r = 2)

/-- The commands of the same context fetched earlier and still in flight. -/
def State.earlier (s : State) (c : Cmd) : List Cmd := (s.cmds.takeWhile (fun d => d.id != c.id)).filter (fun d => d.ctx == c.ctx)

/-- A command names host memory, by its opcode's ADDR fields (R156). -/
def Cmd.touchesHost (c : Cmd) : Bool :=
  let fields := if c.op = 0x12 then [0x20, 0x28] else if c.op = 0x13 || c.op = 0x30 || c.op = 0x50 then [0x10, 0x18]
    else if c.op = 0x70 || c.op = 0x71 then [0x10, 0x18, 0x28] else if c.op = 0x72 then [0x18] else if c.op ≤ 0x03 || c.op = 0x10 || c.op = 0x11 then [0x10, 0x18, 0x20] else []
  fields.any (fun o => isHost (c.addr o))

/-- What engines on a set of cores reach together: a local store only where it is theirs alone (R31). -/
def coresReach : List Nat → Reach
  | [n] => .core n
  | _ => .bd

/-- Participating cores of a template with its CORES field (R198). -/
def State.partCores (s : State) (polder cores : Nat) : List Nat :=
  match s.polderRec polder with
  | some r => if cores = 0 then r.cores else r.cores.take cores
  | none => []

/-! ### The cores of a command -/

/-- LENGTH of a DMA. -/
def dmaLen (d : Desc) : Nat := dfld d 0x20 8
/-- TREE. -/
def dmaTree (d : Desc) : Nat := dfld d 0x28 2
/-- Segments of a transfer: offset and length (R265). -/
def dmaSegs (n : Nat) : List (Nat × Nat) := (List.range (cdiv n 65536)).map (fun i => (65536 * i, min 65536 (n - 65536 * i)))

/-- The core whose DMA engine runs a segment: the owner of a source local store, otherwise round-robin from rank SQ_INDEX modulo
P (R265). -/
def State.dmaCore (s : State) (c : Cmd) (seg : Nat) : Nat :=
  let src := c.addr 0x10
  let cores := s.partCores (s.polderOf c) 0
  if addrSpace src = 2 then addrCore src else cores.getD ((c.slot + seg) % max 1 cores.length) 0

/-- A tree of the image. -/
def State.tree? (s : State) (n : Nat) : Option TreeRec := s.image.bind (fun im => im.trees.find? (fun t => t.num == n))

/-- CORES of the template that a descriptor names (R76, R192). -/
def State.tmplCores (s : State) (c : Cmd) : Nat :=
  ((s.image.bind (fun im => im.templates.find? (fun t => t.num == dfld c.desc 0x28 2))).map (fun t => lbyte t.body 4)).getD 0

/-- The cores that a command needs: its participating cores (R198), those of attention on the cores and of a vector OPT_STEP, the
DMA engines of its segments or the root of its tree (R265, R266), the core a self-test names (R633), and the core whose wait slot
holds it (R264). -/
def State.cmdCores (s : State) (c : Cmd) : List Nat :=
  let p := s.polderOf c
  if 0x01 ≤ c.op && decide (c.op ≤ 0x03) then s.partCores p (s.tmplCores c)
  else if c.op = 0x11 || (c.op = 0x10 && (Machine.bit (dbyte c.desc 0x2F) 2 || !s.cap 0 || decide (32 < dfld c.desc 0x38 2 * dbyte c.desc 0x2D))) then s.partCores p 0
  else if c.op = 0x20 then (match c.work with
    | .opt _ _ false _ => s.partCores p 0
    | .none => if s.cap 0 then [] else s.partCores p 0
    | _ => [])
  else if c.op = 0x50 then
    (if dmaTree c.desc ≠ 0xFFFF then (match s.tree? (dmaTree c.desc) with
      | some t => if t.bdRoot then [] else [t.source]
      | none => [])
     else ((dmaSegs (dmaLen c.desc)).zipIdx.map (fun x => s.dmaCore c x.2)).eraseDups)
  else if c.op = 0x61 then (if dbyte c.desc 0x10 = 0 && decide (dbyte c.desc 0x18 = 1) then [dbyte c.desc 0x11] else [])
  else if c.op = 0x80 then (if dbyte c.desc 0x10 ≤ 2 then [dbyte c.desc 0x11] else [])
  else []

/-- A core that a command needs is kept for the replay of a suspect (R570): the command is not one that is replayed. -/
def State.replayBlocks (s : State) (c : Cmd) : Bool :=
  match s.resets.replay with
  | some r => r.current.isSome && !c.replayed && (s.cmdCores c).contains r.core
  | none => false

/-- A self-test has started on a core (R633). -/
def State.coreTesting (s : State) (n : Nat) : Bool :=
  (s.core n).test.isSome

/-- A core that a command needs lies behind a raised dike, which refuses its work (R557, R558). -/
def State.meetsDike (s : State) (c : Cmd) : Bool :=
  decide (c.op ≠ 0x61) && (s.cmdCores c).any s.fencedCore

/-- The collective, parity and hash engines of BD may issue at this tick, in their duty's part of each microsecond (R531). -/
def State.bdIssues (s : State) : Bool := decide (4 ≤ s.thermal.bdDuty) || decide (4 * (s.tick % 25) < 25 * s.thermal.bdDuty)

/-- A command of one of these engines. -/
def Cmd.onBdEngine (c : Cmd) : Bool := c.op = 0x30 || c.op = 0x70 || c.op = 0x71 || c.op = 0x72

/-- A waiting command may start: ORDERED and FENCE wait for every earlier command of the context, and every command waits for
an earlier FENCE (R167, R168). Host memory is held back from a function in D3hot (R631), nothing starts while the clocks stand
still, and a core kept for a replay or a self-test is waited for (R570, R633). -/
def State.startable (s : State) (c : Cmd) : Bool :=
  !s.halted && decide (c.phase = .waiting) && (!c.onBdEngine || s.bdIssues) && !(c.touchesHost && s.pcie.d3.contains (s.fnOf c.ctx)) &&
  !s.replayBlocks c && !(s.cmdCores c).any s.coreTesting && (s.earlier c).all (fun d => !c.ordered && decide (c.op ≠ 0x60) && decide (d.op ≠ 0x60))

/-- The engine queue of a command (R146): the cores of its polder and their DMA engines, one queue each, and one each for the NBU
dispatcher, the page manager, the collective engine and the harvest and parity engine; none for what needs no engine (log entry 24). -/
def State.queueOf (s : State) (c : Cmd) : Option Nat :=
  let p := s.polderOf c
  if c.op ≤ 0x03 || c.op = 0x11 || ((c.op = 0x10 || c.op = 0x20) && !(s.cmdCores c).isEmpty) then some (64 + p)
  else if c.op = 0x10 || c.op = 0x20 || c.op = 0x40 then some 1
  else if c.op = 0x12 || c.op = 0x13 then some 2
  else if c.op = 0x50 then some (128 + p)
  else if c.op = 0x30 then some 3
  else if 0x70 ≤ c.op && decide (c.op ≤ 0x72) then some 4
  else none

/-- A command that could start waits for something of its own: attention for a page copy (R383), a collective for one of the 256 places
(R465), a rebuild for an earlier one (R592). It holds no turn. -/
def State.standsAside (s : State) (c : Cmd) : Bool :=
  ((c.op = 0x10 || c.op = 0x11) && s.copies.any (fun x => x.polder == s.polderOf c)) ||
  (c.op = 0x30 && decide (256 ≤ s.cmds.countP (fun x => decide (x.op = 0x30) && decide (x.phase = .running)))) ||
  (c.op = 0x72 && (s.cmds.takeWhile (fun x => x.id != c.id)).any (fun x => x.op = 0x72 && decide (dfld x.desc 0x10 2 = dfld c.desc 0x10 2)))

/-- The contexts with a command that may start in an engine queue. -/
def State.queueWaiting (s : State) (q : Nat) : List Nat :=
  ((s.cmds.filter (fun c => decide (s.queueOf c = some q) && s.startable c && !s.standsAside c)).map (fun c => c.ctx)).eraseDups

/-- It is a command's turn at its engine queue (R146). -/
def State.myTurn (s : State) (c : Cmd) : Bool :=
  match s.queueOf c with
  | none => true
  | some q => s.standsAside c || (s.arb q).turn s.priority (s.queueWaiting q) c.ctx

/-- The arbiters once a command has been dispatched. -/
def State.arbServed (s : State) (id : Nat) : SMap Arb :=
  match s.cmd? id with
  | none => s.arbs
  | some c => match s.queueOf c with
    | none => s.arbs
    | some q => SMap.set (fun _ => Arb.start) s.arbs q ((s.arb q).serve s.priority (s.queueWaiting q) c.ctx)

/-- The host-memory accesses of a command are held: its function is in D3hot (R631). -/
def State.hostHeld (s : State) (c : Cmd) : Bool := c.touchesHost && s.pcie.d3.contains (s.fnOf c.ctx)

/-- So are those of a command in flight by its identity. -/
def State.idHeld (s : State) (id : Nat) : Bool := match s.cmd? id with
  | some c => s.hostHeld c
  | none => false

/-- The command that starts, when it has this opcode, may start, and it is its turn. -/
def State.starts (s : State) (id op : Nat) : Option Cmd :=
  match s.cmd? id with
  | some c => if c.op = op && s.startable c && s.myTurn c then some c else none
  | none => none

/-- What a command does that starts: a core behind a dike refuses it (R558). -/
def State.launch (s : State) (c : Cmd) (f : Cmd → State) : State :=
  if s.meetsDike c then (s.endCmd c.id St.fenced none).addCnt Reg.dikeCntFenced 1 else f c

/-- A command begins to run with its progress, which uses its context's turn (R146). -/
def State.beginCmd (s : State) (id : Nat) (w : Work) : State :=
  { s.updCmd id (fun c => { c with
      phase := .running, work := w, warn := if c.onBdEngine && decide (s.thermal.bdDuty < 4) then setWarn c.warn Wn.throttled else c.warn }) with
    arbs := s.arbServed id }

/-- The progress of a command replaced. -/
def State.setWork (s : State) (id : Nat) (w : Work) : State := s.updCmd id (fun c => { c with work := w })

/-- A core is held below its ceiling: by its thermal steps or its half's (R529, R530), by a start admitted at 300 MHz (R500), or by
a cut of its polder (R509). -/
def State.coreSlow (s : State) (n : Nat) : Bool :=
  decide (s.fld (Reg.thmCore n) 23 20 ≠ 0) || decide (s.fld (Reg.thmHalf (n / 32)) 3 0 ≠ 0) ||
  (SMap.get (fun _ => none) s.clocks.rampTarget n).isSome ||
  (match s.corePolder n with
   | some p => decide (SMap.get (fun _ => 1024) s.power.cut p ≠ 1024)
   | none => false)

/-- State of a half's PLL. -/
def State.half (s : State) (h : Nat) : PllSt := SMap.get (fun _ => .asleep) s.clocks.half h

/-- The state of a half replaced, at this tick. -/
def State.setHalf (s : State) (h : Nat) (p : PllSt) : State :=
  { s with clocks := { s.clocks with half := SMap.set (fun _ => .asleep) s.clocks.half h p, idle := SMap.set (fun _ => 0) s.clocks.idle h s.tick } }

/-- A half wakes to RUN, and the wake is counted (R495, R519). -/
def State.wakeHalf (s : State) (h : Nat) : State :=
  match s.half h with
  | .run => s
  | .standby => (s.bumpFld (Reg.clkHalfWakes h) 31 16 1).setHalf h .run
  | .asleep => (s.bumpFld (Reg.clkHalfWakes h) 15 0 1).setHalf h .run

/-- A stay of a command on a core's engines begins (R568); its half wakes (R495); on a core held below its ceiling it carries W_THROTTLED (R165). -/
def State.spanStart (s : State) (core : Nat) (c : Cmd) : State :=
  if s.resets.spans.any (fun x => decide (x.core = core) && decide (x.cmd = c.id) && x.till.isNone) then s
  else
    let s := (if s.coreSlow core then s.warnCmd c.id Wn.throttled else s).wakeHalf (core / 32)
    { s with resets := { s.resets with spans := ⟨core, c.ctx, c.id, s.tick, none⟩ :: s.resets.spans } }

/-- The flits that a half has sent across the seam while a command ran on a core of it, and the cycles in which one was held: what the
routes and their timing make of them is open (R291, log entry 19). -/
def State.countSeam (s : State) (core : Nat) : State :=
  { (s.addCnt (Reg.coreSeamFlits (core / 32)) (Config.freeNat s.freeCtr)).addCnt (Reg.coreSeamStall (core / 32)) (Config.freeNat (s.freeCtr + 1)) with
    freeCtr := s.freeCtr + 2 }

/-- The stays of a command on every core end. -/
def State.spanEnd (s : State) (id : Nat) : State :=
  let own := s.resets.spans.filter (fun x => decide (x.cmd = id) && x.till.isNone)
  let s := own.foldl (fun (s : State) x => s.countSeam x.core) s
  { s with resets := { s.resets with spans := s.resets.spans.map (fun x =>
      if x.cmd = id && x.till.isNone then { x with till := some s.tick } else x) } }

end Sys2Proof.Machine
end

