-- ==== Sys2Proof/Machine/CoreClock.lean ====
section
/-! DEFINITION. The clocks of the cores: regulator groups (R488, R489), targets and PLLs (R495, R496), and filler operations
(R203–R205). -/
namespace Sys2Proof.Machine

/-! ### Regulator groups -/

/-- Failed phases of a cluster's group, one bit each. -/
def State.failedPhases (s : State) (c : Nat) : Nat := SMap.get (fun _ => 0) s.power.phases c
/-- How many have failed. -/
def State.phasesFailed (s : State) (c : Nat) : Nat := popcount 32 (s.failedPhases c)
/-- Rating of the group in A: 5 A a phase in service. -/
def State.groupRating (s : State) (c : Nat) : Nat := 5 * (32 - s.phasesFailed c)
/-- The cluster is held clock-stopped (R490). -/
def State.clusterHeld (s : State) (c : Nat) : Bool := s.bit (Reg.pwrGroup c) 16

/-- The cluster's frequency cap in MHz, rounded down to 5 MHz (R489). -/
def State.clusterCap (s : State) (c : Nat) : Nat :=
  let m := clockMax s.variant
  match s.phasesFailed c with
  | 0 => m
  | 1 => m * 95 / 500 * 5
  | _ => m * 88 / 500 * 5

/-! ### Core targets (R495, R496) -/

/-- A start of a cluster that waits or runs (R499). -/
def State.rampOf (s : State) (c : Nat) : Option RampStart := SMap.get (fun _ => none) s.clocks.starts c
/-- It replaced. -/
def State.setRamp (s : State) (c : Nat) (r : Option RampStart) : State :=
  { s with clocks := { s.clocks with starts := SMap.set (fun _ => none) s.clocks.starts c r } }

/-- A core takes part in work: a core of a defined polder whose cluster is not held. -/
def State.coreUsable (s : State) (n : Nat) : Bool :=
  (match s.clusterPolder (n / 8) with
   | some p => (match s.polderRec p with
     | some r => r.takes n
     | none => false)
   | none => false) && !s.clusterHeld (n / 8)

/-- The core's polder is STOPPED. -/
def State.polderStopped (s : State) (n : Nat) : Bool := match s.corePolder n with
  | some p => decide (s.runState p = .stopped)
  | none => false

/-- A clocked core: usable, its half in RUN, and its polder not STOPPED unless the heat floor has it run filler (R107). -/
def State.clocked (s : State) (n : Nat) : Bool :=
  s.coreUsable n && decide (s.half (n / 32) = .run) && !s.halted && (!s.polderStopped n || decide (0 < s.power.fillerDemand))

/-- Thermal limit of a core in MHz (R529, R530). -/
def State.thermalLimit (s : State) (n : Nat) : Nat :=
  clockMax s.variant * (16 - max (s.fld (Reg.thmCore n) 23 20) (s.fld (Reg.thmHalf (n / 32)) 3 0)) / 16

/-- Target of a core in MHz (R496). -/
def State.coreTarget (s : State) (n : Nat) : Nat :=
  let cut := match s.corePolder n with
    | some p => SMap.get (fun _ => 1024) s.power.cut p
    | none => 1024
  let t := min (min (5 * s.ceiling n) (s.clusterCap (n / 8))) (s.thermalLimit n)
  let t := t * cut / 1024
  match SMap.get (fun _ => none) s.clocks.rampTarget n with
  | some r => min t r
  | none => t

/-- The density that the power controller demands of a core: the floor's, which spares a core with a thermal step (R529), or the ramp's
(R203, R499, R510). -/
def State.fillDemand (s : State) (n : Nat) : Nat :=
  max (if s.fld (Reg.thmCore n) 23 20 = 0 then s.power.fillerDemand else 0) (match s.rampOf (n / 8) with
    | some r => if r.admitted && r.mask.testBit (n % 8) then r.density else 0
    | none => 0)

/-- A core that its half's PLL serves: one of the clocked cores with work, a filler demand or a start (R496). -/
def State.coreActive (s : State) (n : Nat) : Bool :=
  s.coreUsable n && (s.resets.spans.any (fun x => decide (x.core = n) && x.till.isNone) || decide (0 < s.fillDemand n) ||
    (match s.rampOf (n / 8) with
     | some r => r.admitted && r.mask.testBit (n % 8)
     | none => false))

/-- PLL frequency of a half in MHz: 0 unless it is locked (R495, R496). It is the highest target among the cores with work; while none
has work, among all that could take some (log entry 72). -/
def State.halfPll (s : State) (h : Nat) : Nat :=
  if s.half h = .asleep || s.halted then 0
  else
    let cores := (List.range 32).map (fun i => 32 * h + i)
    let on := cores.filter s.coreActive
    let m := (if on.isEmpty then cores.filter s.coreUsable else on).foldl (fun a n => max a (s.coreTarget n)) 0
    min (clockMax s.variant) (max 300 (m / 5 * 5))

/-- n of a core: the largest with PLL × n / 16 not above its target, and at least 1 (R496). -/
def State.coreN (s : State) (n : Nat) : Nat :=
  let p := s.halfPll (n / 32)
  if p = 0 then 1 else max 1 (min 16 (16 * s.coreTarget n / p))

/-! ### Freeboard (R493) -/

/-- The rail of a group; at 0.50 V where no core is clocked. -/
def State.rail (s : State) (c : Nat) : Rail := SMap.get (fun _ => ⟨5000, none⟩) s.clocks.rails c

/-- The present frequency of a core in 1/16 MHz; 0 while it is not clocked. -/
def State.freq (s : State) (n : Nat) : Nat := SMap.get (fun _ => 0) s.clocks.freq n

/-- The frequency in 1/16 MHz that R496 gives a core; 0 while it is not clocked. -/
def State.freqWant (s : State) (n : Nat) : Nat := if s.clocked n then s.halfPll (n / 32) * s.coreN n else 0

/-- The rail in 0.1 mV that one core's frequency asks for: its curve's voltage and 45 mV. -/
def railFor (n f : Nat) : Nat := if f = 0 then 0 else 10 * (Config.vfCurve n (f / 16) + 45)

/-- The rail for the frequencies of a cluster's cores, clamped to 0.50–0.75 V. -/
def railNeed (fs : List (Nat × Nat)) : Nat := max 5000 (min 7500 (fs.foldl (fun a x => max a (railFor x.1 x.2)) 0))

/-- A core's frequency before the rail moves: a lower one takes effect at once; a core whose clock starts takes the highest that the rail
as it stands carries (log entry 78). -/
def State.freqNow (s : State) (n : Nat) : Nat :=
  let want := s.freqWant n
  if s.freq n = 0 then
    let p := s.halfPll (n / 32)
    (((List.range 17).filter (fun k => decide (railFor n (p * k) ≤ (s.rail (n / 8)).dmv) && decide (p * k ≤ want))).map (fun k => p * k)).foldl max 0
      |> max (min p want)
  else min (s.freq n) want

/-- One tick of a group's rail (R493): it rises by 10 mV per µs, and the frequencies rise once it has settled; where less is needed it
follows 5 µs later. -/
def State.railTick (s : State) (c : Nat) : State :=
  let cores := (List.range 8).map (fun i => 8 * c + i)
  let goal := railNeed (cores.map (fun n => (n, s.freqWant n)))
  let r := s.rail c
  let up := min goal (r.dmv + 4)
  let r' : Rail := if r.dmv < goal then ⟨up, none⟩
    else if r.dmv = goal then ⟨goal, none⟩
    else match r.since with
      | none => ⟨r.dmv, some s.tick⟩
      | some t => if t + 125 ≤ s.tick then ⟨goal, none⟩ else r
  let freq := cores.foldl (fun m n => SMap.set (fun _ => 0) m n (if goal ≤ r.dmv then s.freqWant n else s.freqNow n)) s.clocks.freq
  { s with clocks := { s.clocks with rails := SMap.set (fun _ => ⟨5000, none⟩) s.clocks.rails c r', freq := freq } }

/-- n in use (R519): that of the present frequency; that of R496 for a core whose clock has not started. -/
def State.nNow (s : State) (n : Nat) : Nat :=
  if s.freq n = 0 then s.coreN n else max 1 (min 16 (s.freq n / max 1 (s.halfPll (n / 32))))

/-- A free number of this tick, for what a read shows of work under way (log entry 19). -/
def State.nowFree (s : State) (k : Nat) : Nat := Config.freeNat (s.freeCtr + k + 2 ^ 200 * (s.tick + 1))

/-! ### Filler (R203–R205) -/

/-- The density d in a cycle of a gap without a demand (R203): 16 for 256 cycles, then one less every 4 cycles (log entry 71). -/
def gapDensity (i : Nat) : Nat := if i < 256 then 16 else 16 - (i - 256) / 4

/-- Cycles with d above 0 from cycle `a` of a gap up to cycle `b`. -/
def fillCycles (demand a b : Nat) : Nat := if 0 < demand then b - a else min b 320 - min a 320

/-- Core cycles in a number of ticks at a core's present frequency. -/
def State.cyclesIn (s : State) (n ticks : Nat) : Nat := ticks * (s.halfPll (n / 32) * s.nNow n) / 400

/-- Ticks that a number of core cycles takes at a core's present frequency. -/
def State.ticksFor (s : State) (n cycles : Nat) : Nat := cdiv (400 * cycles) (max 1 (s.halfPll (n / 32) * s.nNow n))

/-- Core cycles with a wait slot in use that CORE_CNT_WAIT does not yet hold (R289). -/
def State.waitPending (s : State) (n : Nat) : Nat := match (s.core n).waitFrom with
  | some t => s.cyclesIn n (s.tick - t)
  | none => 0

/-- A wait slot of a core comes into use. -/
def State.waitOpens (s : State) (n : Nat) : State :=
  if (s.core n).waitFrom.isSome then s else s.setCore n { s.core n with waitFrom := some s.tick }

/-- The last wait slot of a core is free again. -/
def State.waitCloses (s : State) (n : Nat) : State :=
  if (s.core n).waitFrom.isNone then s
  else (s.addCnt (Reg.coreCntWait n) (s.waitPending n)).setCore n { s.core n with waitFrom := none }

/-- The cycle of its gap that an array has reached; a gap whose start is long ago stands beyond the last one that counts. -/
def State.gapCycle (s : State) (n : Nat) : Nat := match (s.core n).gapFrom with
  | some t => s.cyclesIn n (s.tick - t)
  | none => 320

/-- d of an array now: 0 while it works or is excluded (R203, R205). -/
def State.fillDensity (s : State) (n : Nat) : Nat :=
  if !s.coreUsable n then 0 else if 0 < s.fillDemand n then s.fillDemand n else gapDensity (s.gapCycle n)

/-- Filler cycles of a core's gap that ARR_CNT_FILLER does not yet hold. -/
def State.fillPending (s : State) (n : Nat) : Nat :=
  if !s.coreUsable n then 0
  else
    let k := s.core n
    match k.gapFrom with
    | some t => fillCycles (s.fillDemand n) (s.cyclesIn n (max t k.filled - t)) (s.cyclesIn n (s.tick - t))
    | none => if 0 < s.fillDemand n then s.cyclesIn n (s.tick - k.filled) else 0

/-- ARR_CNT_FILLER brought up to date, before the demand changes or a pass ends the gap. -/
def State.settleFill (s : State) (n : Nat) : State :=
  let m := s.fillPending n
  (if m = 0 then s else s.addCnt (Reg.arrCntFiller n) m).setCore n { s.core n with filled := s.tick }

/-! ### Starts (R499) -/

/-- An array is idle without filler, or its half is not in RUN: work on it needs a start. -/
def State.arrayCold (s : State) (n : Nat) : Bool := !s.clocked n || decide (s.fillDensity n = 0)

/-- No start that takes the core in is still short of density 16. -/
def State.rampDone (s : State) (n : Nat) : Bool := match s.rampOf (n / 8) with
  | some r => !r.mask.testBit (n % 8) || (r.admitted && decide (16 ≤ r.density))
  | none => true

/-- Array or vector work may begin on a core: it needs no start, or its start has reached density 16 (R499 steps 1 to 6). -/
def State.warm (s : State) (n : Nat) : Bool := !s.arrayCold n && s.rampDone n

/-- The same of every core of a list. -/
def State.coresWarm (s : State) (ns : List Nat) : Bool := ns.all s.warm

/-- The last demand on a half is now (R495). -/
def State.touchHalf (s : State) (h : Nat) : State :=
  { s with clocks := { s.clocks with idle := SMap.set (fun _ => 0) s.clocks.idle h s.tick } }

/-- A start has ended: its cores have run filler up to now, and their gap begins. -/
def State.rampEnd (s : State) (c : Nat) (r : RampStart) : State :=
  let cores := (bitsOf 8 r.mask).map (fun i => 8 * c + i)
  let s := cores.foldl State.settleFill s
  let s := cores.foldl (fun (s : State) n => s.setCore n { s.core n with gapFrom := some s.tick, filled := s.tick }) s
  (s.setRamp c none).touchHalf (c / 4)

end Sys2Proof.Machine
end

