-- ==== Sys2Proof/Machine/Clock.lean ====
section
/-! DEFINITION. The always-on clock (R45): the one thing that goes on without a command. -/
namespace Sys2Proof.Machine

/-- One period of the 25 MHz clock: the rails and the core frequencies follow their targets (R493), and the local tick, a 64-bit count,
advances by 1 (R45). -/
def clockTick (s : State) : State :=
  let s := (List.range 32).foldl State.railTick s
  { s with tick := (s.tick + 1) % 2 ^ 64 }

end Sys2Proof.Machine
end

