-- ==== Sys2Proof/Machine/Formats.lean ====
section
/-! DEFINITION. Tensors: where elements, scales and statistics lie (R228–R230, R240), their fetching and dequantisation. -/
namespace Sys2Proof.Machine

/-! ### Tensors (R229, R230, R240) -/

/-- Where a tensor lies: address, format, extents in storage order with the contiguous dimension last, and the position of the
block dimension among them. -/
structure Tensor where
  addr : Nat
  fmt : Nat
  exts : List Nat
  blk : Nat
  deriving DecidableEq, Repr

/-- Extents with the block dimension rounded up to whole blocks. -/
def Tensor.padded (t : Tensor) : List Nat :=
  t.exts.zipIdx.map (fun e => if e.2 = t.blk then cdiv e.1 (fmtBlock t.fmt) * fmtBlock t.fmt else e.1)
/-- Bytes of one run of the contiguous dimension. -/
def Tensor.runBytes (t : Tensor) : Nat := cdiv (t.padded.getLastD 1 * fmtBits t.fmt) 8
/-- Number of runs. -/
def Tensor.runs (t : Tensor) : Nat := t.padded.dropLast.foldl (· * ·) 1
/-- Bytes of the element region. -/
def Tensor.elemBytes (t : Tensor) : Nat := t.runs * t.runBytes
/-- Offset of the scale region. -/
def Tensor.scaleOff (t : Tensor) : Nat := cdiv t.elemBytes 256 * 256
/-- Offset of the first block scale. -/
def Tensor.scale0 (t : Tensor) : Nat := t.scaleOff + (if t.fmt = Fm.g16 then 64 else 0)
/-- Extents counted in blocks. -/
def Tensor.blocks (t : Tensor) : List Nat :=
  t.padded.zipIdx.map (fun e => if e.2 = t.blk then e.1 / fmtBlock t.fmt else e.1)
/-- Bytes of a tensor with its scale region. -/
def Tensor.size (t : Tensor) : Nat :=
  if fmtBlocked t.fmt then t.scale0 + t.blocks.foldl (· * ·) 1 else t.elemBytes
/-- Number of an index in row-major order. -/
def flatIndex (exts idx : List Nat) : Nat := (exts.zip idx).foldl (fun a e => a * e.1 + e.2) 0
/-- Bit position of an element from the tensor's address; its index is in storage order. -/
def Tensor.bitPos (t : Tensor) (idx : List Nat) : Nat :=
  8 * t.runBytes * flatIndex t.padded.dropLast idx.dropLast + idx.getLastD 0 * fmtBits t.fmt
/-- The index of the block that holds an element. -/
def Tensor.blockIdx (t : Tensor) (idx : List Nat) : List Nat :=
  idx.zipIdx.map (fun e => if e.2 = t.blk then e.1 / fmtBlock t.fmt else e.1)
/-- Offset of the scale byte of an element's block. -/
def Tensor.scalePos (t : Tensor) (idx : List Nat) : Nat := t.scale0 + flatIndex t.blocks (t.blockIdx idx)
/-- The block of R240 for statistics: 16 for G16, 32 otherwise. -/
def statBlock (f : Nat) : Nat := if f = Fm.g16 then 16 else 32
/-- Offset of the statistics region. -/
def Tensor.statOff (t : Tensor) : Nat := cdiv t.size 256 * 256
/-- Block maxima of the tensor. -/
def Tensor.statCount (t : Tensor) : Nat :=
  (t.exts.zipIdx.map (fun e => if e.2 = t.blk then cdiv e.1 (statBlock t.fmt) else e.1)).foldl (· * ·) 1
/-- Offset of the block maximum of an element's block. -/
def Tensor.statPos (t : Tensor) (idx : List Nat) : Nat :=
  t.statOff + 64 + 4 * flatIndex
    (t.exts.zipIdx.map (fun e => if e.2 = t.blk then cdiv e.1 (statBlock t.fmt) else e.1))
    (idx.zipIdx.map (fun e => if e.2 = t.blk then e.1 / statBlock t.fmt else e.1))
/-- Bytes of a destination with its statistics region when ABSMAX is set. -/
def Tensor.fullSize (t : Tensor) (absmax : Bool) : Nat := if absmax then t.statOff + 64 + 4 * t.statCount else t.size

/-- The bytes of memory that an element needs: its own and its block's scale. -/
def Tensor.needs (t : Tensor) (idx : List Nat) : List Nat :=
  let b := t.bitPos idx
  (List.range (cdiv (b % 8 + fmtBits t.fmt) 8)).map (fun i => t.addr + b / 8 + i) ++
    (if fmtBlocked t.fmt then [t.addr + t.scalePos idx] else [])

/-- Code of an element in fetched bytes. -/
def Tensor.code (t : Tensor) (m : Mem) (idx : List Nat) : Nat :=
  let b := t.bitPos idx
  m.le (t.addr + b / 8) (cdiv (b % 8 + fmtBits t.fmt) 8) / 2 ^ (b % 8) % 2 ^ fmtBits t.fmt

/-- Value of an element without its block scale. -/
def Tensor.elem (t : Tensor) (m : Mem) (idx : List Nat) : Num := elemValue t.fmt (t.code m idx)
/-- Block scale of an element. -/
def Tensor.scale (t : Tensor) (m : Mem) (idx : List Nat) : Num :=
  if fmtBlocked t.fmt then scaleValue t.fmt (m.byte (t.addr + t.scalePos idx)).toNat else .fin false 1 0
/-- Value of an element with its block scale and a per-tensor scale (R226). -/
def Tensor.value (t : Tensor) (m : Mem) (st : Num) (idx : List Nat) : Num :=
  ((t.elem m idx).mul (t.scale m idx)).mul (if t.fmt = Fm.g16 then st else .fin false 1 0)

/-! ### Fetching -/

/-- The bytes of a list of addresses, fetched with one access to each 64-byte block that holds some of them, from the first to
the last of them. -/
def State.gather (s : State) (rq : Nat → Req) (polder : Nat) (addrs : List Nat) : Mem × Option (Nat × Nat) × State :=
  let blocks := addrs.foldl (fun (m : SMap (Nat × Nat)) a =>
    let r := SMap.get (fun _ => (64, 0)) m (a / 64)
    SMap.set (fun _ => (64, 0)) m (a / 64) (min r.1 (a % 64), max r.2 (a % 64))) []
  blocks.foldl (fun acc b => match acc.2.1 with
    | some _ => acc
    | none =>
      let r := acc.2.2.readPiece rq polder (64 * b.1 + b.2.1) (b.2.2 + 1 - b.2.1)
      (acc.1.write (64 * b.1 + b.2.1) r.data, r.err, r.st)) ([], none, s)

/-- A G16 per-tensor scale is finite and greater than 0 (R227). -/
def scaleOk (x : Num) : Bool := x.isFin && !x.isZero && !x.neg?

/-- The per-tensor scale of a tensor: 1 unless it is G16. A scale that R227 refuses fails the read with ST_BAD_DESCRIPTOR. -/
def State.tensorScale (s : State) (rq : Nat → Req) (polder : Nat) (t : Tensor) : Num × Option (Nat × Nat) × State :=
  if t.fmt ≠ Fm.g16 then (.fin false 1 0, none, s)
  else
    let a := t.addr + t.scaleOff
    let r := s.readRange rq polder a 4
    match r.err with
    | some e => (.nan, some e, r.st)
    | none =>
      let x := f32 (BitVec.ofNat 32 (leNat r.data))
      if scaleOk x then (x, none, r.st) else (x, some (St.badDescriptor, a), r.st)

end Sys2Proof.Machine
end

