-- ==== Sys2Proof/Machine/Pages.lean ====
section
/-! DEFINITION. The page manager: pools (R364–R368), page states (R381–R383), sequences and their tables (R371, R372), the page
digest (R369, R370), the index and the eviction sweep (R386–R390), and the admission and commit of an append (R377–R380). -/
namespace Sys2Proof.Machine

/-- Reasons of R376. -/
abbrev Pr.seqUnknown : Nat := 1
/-- SEQ_EXISTS. -/
abbrev Pr.seqExists : Nat := 2
/-- REG_LIMIT. -/
abbrev Pr.regLimit : Nat := 3
/-- NOT_ACTIVE. -/
abbrev Pr.notActive : Nat := 4
/-- ACTIVE_LIMIT. -/
abbrev Pr.activeLimit : Nat := 5
/-- IN_USE. -/
abbrev Pr.inUse : Nat := 6
/-- POSITION. -/
abbrev Pr.position : Nat := 7
/-- POOL_EMPTY. -/
abbrev Pr.poolEmpty : Nat := 8
/-- TABLE_FULL. -/
abbrev Pr.tableFull : Nat := 9
/-- UNDERFLOW. -/
abbrev Pr.underflow : Nat := 10
/-- PAGE_FREE. -/
abbrev Pr.pageFree : Nat := 11
/-- REF_OVERFLOW. -/
abbrev Pr.refOverflow : Nat := 12
/-- GEOMETRY. -/
abbrev Pr.geometry : Nat := 13
/-- ALIGN. -/
abbrev Pr.align : Nat := 14

/-! ### Pools and pages -/

/-- Element size of a page format in half bytes (R364); 0 for a code that cannot tag a page. -/
def pageElem (f : Nat) : Nat :=
  if f = 1 then 1 else if f = 3 || f = 4 || f = 5 || f = 6 || f = 7 then 2 else if f = 9 || f = 10 then 4 else 0
/-- An MX page format, with block scales. -/
def pageMx (f : Nat) : Bool := f = 1 || f = 3 || f = 4 || f = 5
/-- A head dimension is valid for a format (R364). -/
def dimOk (d f : Nat) : Bool :=
  decide (16 ≤ d) && decide (d ≤ 256) && decide (d % 16 = 0) && (!pageMx f || decide (d % 32 = 0))
/-- Token capacity T of a page (R364): the largest power of two at most 8,192 / (d × e), at most 256. -/
def pageCap (d f : Nat) : Nat := min 256 (2 ^ (16384 / max 1 (d * pageElem f)).log2)

/-- The page manager's state of a polder. -/
def State.kvp (s : State) (p : Nat) : KvPolder := SMap.get (fun _ => ⟨[], [], [], [], [], [], 0, 0⟩) s.kv p
/-- It replaced. -/
def State.setKv (s : State) (p : Nat) (k : KvPolder) : State :=
  { s with kv := SMap.set (fun _ => ⟨[], [], [], [], [], [], 0, 0⟩) s.kv p k }
/-- A page. -/
def KvPolder.page (k : KvPolder) (n : Nat) : Page := SMap.get (fun _ => ⟨.free, 0, 0⟩) k.pages n
/-- A page replaced. -/
def KvPolder.setPage (k : KvPolder) (n : Nat) (p : Page) : KvPolder :=
  { k with pages := SMap.set (fun _ => ⟨.free, 0, 0⟩) k.pages n p }
/-- A registered sequence. -/
def KvPolder.seq (k : KvPolder) (n : Nat) : Option Seq := SMap.get (fun _ => none) k.seqs n
/-- It replaced. -/
def KvPolder.setSeq (k : KvPolder) (n : Nat) (q : Option Seq) : KvPolder :=
  { k with seqs := SMap.set (fun _ => none) k.seqs n q }
/-- Registered sequences (R407, R409). -/
def KvPolder.registered (k : KvPolder) : Nat := k.seqs.length
/-- Active sequences. -/
def KvPolder.activeSeqs (k : KvPolder) : Nat := k.seqs.countP (fun e => match e.2 with
  | some q => q.active
  | none => false)
/-- POOL_PAGES of a polder (R79, R409). -/
def State.poolPages (s : State) (p : Nat) : Nat := ((s.attnRec p).map (fun r => r.poolPages)).getD 0
/-- The FREE pages of a pool, ascending. -/
def State.freePages (s : State) (p : Nat) : List Nat :=
  (List.range (s.poolPages p)).filter (fun n => decide (((s.kvp p).page n).state = .free))

/-- Internal address of the data of page `n` (R365). -/
def KvPolder.dataAddr (k : KvPolder) (n : Nat) : Nat := k.data.getD (n / 124) 0 + n % 124 * 0x4000
/-- Internal address of the header of page `n`. -/
def KvPolder.hdrAddr (k : KvPolder) (n : Nat) : Nat := k.header.getD (n / 512) 0 + n % 512 * 0x1000
/-- Internal address of index entry `i`. -/
def KvPolder.idxAddr (k : KvPolder) (i : Nat) : Nat := k.index.getD (32 * i / 0x200000) 0 + 32 * i % 0x200000

/-- The device pages of the grants that carry a pool, in the order of the carve (R365). -/
def State.carvePages (s : State) (im : Image) (p : Nat) : List Nat :=
  ((im.grants.filter (fun g => g.polder == p && g.access.testBit 3)).flatMap (fun g =>
    (bitsOf 256 g.columns).flatMap (fun c =>
      ((List.range (g.length / 0x200000)).map (fun i => g.offset + 0x200000 * i)).filterMap (fun o =>
        if s.retiredAt c o then none else some (2 ^ 32 * c + o))))).foldl (fun l a => if l.contains a then l else l ++ [a]) []

/-- Device pages of the three areas of a pool: data, header and index (R365). -/
def poolNeeds (r : AttnRec) : Nat × Nat × Nat :=
  (cdiv r.poolPages 124, cdiv r.poolPages 512, if r.prefixLog2 = 0 then 0 else cdiv (2 ^ r.prefixLog2 * 32) 0x200000)

/-- The pool of a polder carved anew, with every page FREE and no sequence (R365, R403). -/
def State.carve (s : State) (im : Image) (p : Nat) : State :=
  match im.attn.find? (fun r => r.polder == p) with
  | none => s.setKv p ⟨[], [], [], [], [], [], 0, 0⟩
  | some r =>
    let n := poolNeeds r
    let ps := s.carvePages im p
    s.setKv p ⟨ps.take n.1, (ps.drop n.1).take n.2.1, (ps.drop (n.1 + n.2.1)).take n.2.2, [], [], [], 0, 0⟩

/-- A reference added (R382). -/
def KvPolder.refAdd (k : KvPolder) (n : Nat) : Except Nat KvPolder :=
  let p := k.page n
  if p.state ≠ .live then .error Pr.pageFree
  else if p.refs = 65535 then .error Pr.refOverflow
  else .ok (k.setPage n { p with refs := p.refs + 1 })
/-- A reference dropped (R382). -/
def KvPolder.refDrop (k : KvPolder) (n : Nat) : Except Nat KvPolder :=
  let p := k.page n
  if p.state ≠ .live then .error Pr.underflow
  else if 1 < p.refs then .ok (k.setPage n { p with refs := p.refs - 1 })
  else if p.leases = 0 then .ok (k.setPage n ⟨.free, 0, 0⟩)
  else .ok (k.setPage n ⟨.draining, 0, p.leases⟩)
/-- A lease taken. -/
def KvPolder.lease (k : KvPolder) (n : Nat) : Except Nat KvPolder :=
  let p := k.page n
  if p.state ≠ .live then .error Pr.pageFree else .ok (k.setPage n { p with leases := p.leases + 1 })
/-- A lease released. -/
def KvPolder.unlease (k : KvPolder) (n : Nat) : KvPolder :=
  let p := k.page n
  if p.state = .draining && decide (p.leases ≤ 1) then k.setPage n ⟨.free, 0, 0⟩
  else k.setPage n { p with leases := p.leases - 1 }

/-- A list of page operations applied to all pages or to none; the first that fails is answered with its page (R374). -/
def KvPolder.forAll (k : KvPolder) (f : KvPolder → Nat → Except Nat KvPolder) : List Nat → Except (Nat × Nat) KvPolder
  | [] => .ok k
  | n :: ns => match f k n with
    | .ok k => k.forAll f ns
    | .error r => .error (r, n)

/-- Leases of a command released. -/
def State.unleaseAll (s : State) (p : Nat) (ns : List Nat) : State :=
  s.setKv p (ns.foldl KvPolder.unlease (s.kvp p))

/-! ### Runs of the page manager -/

/-- The run stops with ST_PAGE_STATE (R376). -/
def Run.pageStop {α : Type} (reason : Nat) (page : Option Nat) : Run α := throw ⟨St.pageState, none, reason, page⟩
/-- Such a stop unless a condition holds. -/
def Run.pageNeed (ok : Bool) (reason : Nat) (page : Option Nat) : Run Unit := if ok then pure () else Run.pageStop reason page

/-- Bytes at an internal address of stack memory, read by the page manager; an uncorrectable block stops the run (R404). -/
def Run.pread (rq : Req) (addr n : Nat) : Run (List Byte) := fun s =>
  let r := (pieces addr n).foldl (fun (a : List Byte × Option Nat × State) x => match a.2.1 with
    | some _ => a
    | none => match a.2.2.chanRead rq x.2.1 (addrCore addr) (a.2.2.cellOf (addrCore addr) (addrOff x.2.1)) x.2.2 with
      | (some bs, s) => (a.1 ++ bs, none, s)
      | (none, s) => (a.1, some x.2.1, s)) ([], none, s)
  match r.2.1 with
  | some a => .error ⟨St.uncorrectable, some a, 0, none⟩ r.2.2
  | none => .ok r.1 r.2.2

/-- Bytes written there for a command. -/
def Run.pwrite (rq : Req) (id addr : Nat) (bs : List Byte) : Run Unit := fun s =>
  let r := (pieces addr bs.length).foldl (fun (a : Option Nat × State) x => match a.1 with
    | some _ => a
    | none => match a.2.chanWrite rq x.2.1 (addrCore addr) (a.2.cellOf (addrCore addr) (addrOff x.2.1)) (lslice bs x.1 x.2.2) with
      | (true, s) => (none, s.wroteCmd id)
      | (false, s) => (some x.2.1, s)) (none, s)
  match r.1 with
  | some a => .error ⟨St.uncorrectable, some a, 0, none⟩ r.2
  | none => .ok () r.2

/-- The page manager's state of a polder, in a run. -/
def Run.kvp (p : Nat) : Run KvPolder := do return (← get).kvp p
/-- It replaced, in a run. -/
def Run.setKv (p : Nat) (k : KvPolder) : Run Unit := modify (fun s => s.setKv p k)
/-- A page operation on every page of a list, or on none. -/
def Run.forAll (p : Nat) (f : KvPolder → Nat → Except Nat KvPolder) (ns : List Nat) : Run Unit := do
  match (← Run.kvp p).forAll f ns with
  | .ok k => Run.setKv p k
  | .error e => Run.pageStop e.1 (some e.2)

/-- A registered sequence, or SEQ_UNKNOWN. -/
def Run.seq (p n : Nat) : Run Seq := do
  match (← Run.kvp p).seq n with
  | some q => pure q
  | none => Run.pageStop Pr.seqUnknown none

/-- Entries of each table of a sequence: E (R372). -/
def Seq.entries (q : Seq) : Nat := cdiv q.maxTokens 16
/-- Address of entry `x` of the table of layer `l` and head `h`. -/
def Seq.entryAddr (q : Seq) (l h x : Nat) : Nat := q.tableAddr + (l * q.kvHeads + h) * 4 * q.entries + 4 * x
/-- The layers that a LAYER field names: one, or every one with 0xFFFF (R373). -/
def Seq.layersOf (q : Seq) (layer : Nat) : List Nat := if layer = 0xFFFF then List.range q.layers else [layer]
/-- The tables (layer, head) of the named layers. -/
def Seq.tables (q : Seq) (layer : Nat) : List (Nat × Nat) :=
  (q.layersOf layer).flatMap (fun l => (List.range q.kvHeads).map (fun h => (l, h)))

/-- A header field of a page. -/
def Run.hdr (rq : Req) (p page off n : Nat) : Run Nat := do
  return leNat (← Run.pread rq ((← Run.kvp p).hdrAddr page + off) n)
/-- A header field of a page written. -/
def Run.setHdr (rq : Req) (id p page off n v : Nat) : Run Unit := do
  Run.pwrite rq id ((← Run.kvp p).hdrAddr page + off) (leBytes n v)

/-- The pages of a table, up to its first entry that is not VALID. -/
def Run.tableFrom (rq : Req) (q : Seq) (l h : Nat) : Nat → Nat → Run (List Nat)
  | 0, _ => pure []
  | n + 1, x => do
    let e := leNat (← Run.pread rq (q.entryAddr l h x) 4)
    if bit e 31 then return (e % 2 ^ 24) :: (← Run.tableFrom rq q l h n (x + 1)) else return []

/-- The pages of a table; one that is not LIVE stops the run with PAGE_FREE (R372). -/
def Run.table (rq : Req) (p : Nat) (q : Seq) (l h : Nat) : Run (List Nat) := do
  let t ← Run.tableFrom rq q l h q.entries 0
  let k ← Run.kvp p
  match t.find? (fun n => decide ((k.page n).state ≠ .live)) with
  | some n => Run.pageStop Pr.pageFree (some n)
  | none => pure t

/-- The length of a table (R372). -/
def Run.tableLen (rq : Req) (p : Nat) (t : List Nat) : Run Nat := do
  match t.getLast? with
  | none => pure 0
  | some n => return (← Run.hdr rq p n 8 4) + (← Run.hdr rq p n 6 2)

/-- An entry of a table written: VALID with a page, or 0. -/
def Run.setEntry (rq : Req) (id : Nat) (q : Seq) (l h x : Nat) (page : Option Nat) : Run Unit :=
  Run.pwrite rq id (q.entryAddr l h x) (leBytes 4 (match page with
    | some n => n + 2 ^ 31
    | none => 0))

/-- A freshly allocated page's header (R367, R369): the fields before the tokens, and the empty digest. -/
def Run.initHdr (rq : Req) (id p page fmt d start seq layer head count flags ds : Nat) (digest : List Byte) : Run Unit := do
  let a := (← Run.kvp p).hdrAddr page
  Run.pwrite rq id a (leBytes 1 fmt ++ leBytes 1 flags ++ leBytes 2 d ++ leBytes 2 (pageCap d fmt) ++ leBytes 2 count ++
    leBytes 4 start ++ leBytes 2 seq ++ leBytes 2 layer ++ leBytes 1 head ++ leBytes 1 ds ++ List.replicate 46 0)
  Run.pwrite rq id (a + 0x440) digest

/-- The digest of a freshly allocated page. -/
def emptyDigest (d : Nat) : List Byte := List.replicate d 0x0F ++ List.replicate (256 - d) 0

/-! ### The index (R386, R387) -/

/-- `mix` of R386. -/
def mix64 (x : Nat) : Nat :=
  let x := (x ^^^ (x / 2 ^ 33)) * 0xff51afd7ed558ccd % 2 ^ 64
  let x := (x ^^^ (x / 2 ^ 33)) * 0xc4ceb9fe1a85ec53 % 2 ^ 64
  x ^^^ (x / 2 ^ 33)
/-- The chain hash continued over token IDs. -/
def chainOver (h : Nat) (tokens : List Nat) : Nat := tokens.foldl (fun h w => mix64 (h ^^^ w)) h
/-- Its start. -/
def chain0 : Nat := 0x9e3779b97f4a7c15
/-- key[j]. -/
def blockKeyOf (chain fmt head layer dim : Nat) : Nat :=
  mix64 (chain ^^^ (fmt * 2 ^ 56) ^^^ (head * 2 ^ 48) ^^^ (layer * 2 ^ 32) ^^^ dim)

/-- 2^PREFIX_LOG2 entries; 0 without an index. -/
def State.indexSize (s : State) (p : Nat) : Nat := match s.attnRec p with
  | some r => if r.prefixLog2 = 0 then 0 else 2 ^ r.prefixLog2
  | none => 0

/-- An index entry, as its 32 bytes; one that has not been entered since the index was emptied is free (R403). -/
def Run.entry (rq : Req) (p i : Nat) : Run (List Byte) := do
  let k ← Run.kvp p
  if SMap.get (fun _ => false) k.entered i then Run.pread rq (k.idxAddr i) 32 else pure (List.replicate 32 0)

/-- An index entry written. -/
def Run.putEntry (rq : Req) (id p i : Nat) (e : List Byte) : Run Unit := do
  let k ← Run.kvp p
  Run.pwrite rq id (k.idxAddr i) e
  Run.setKv p { k with entered := SMap.set (fun _ => false) k.entered i true }
/-- PAGE word of an entry. -/
def ixWord (e : List Byte) : Nat := lsub e 8 4
/-- VALID of an entry. -/
def ixValid (e : List Byte) : Bool := bit (ixWord e) 31
/-- DELETED of an entry. -/
def ixDeleted (e : List Byte) : Bool := bit (ixWord e) 30
/-- Page of an entry. -/
def ixPage (e : List Byte) : Nat := ixWord e % 2 ^ 24
/-- PARENT of an entry. -/
def ixParent (e : List Byte) : Nat := lsub e 12 4 % 2 ^ 24

/-- The VALID entries among some of the index, with their numbers. -/
def Run.entriesAt (rq : Req) (p : Nat) : List Nat → Run (List (Nat × List Byte))
  | [] => pure []
  | i :: is => do
    let e ← Run.entry rq p i
    let rest ← Run.entriesAt rq p is
    return if ixValid e then (i, e) :: rest else rest

/-- The VALID entries of the index. -/
def Run.entries (rq : Req) (p : Nat) : Run (List (Nat × List Byte)) := do
  Run.entriesAt rq p ((← Run.kvp p).entered.map (fun e => e.1))

/-- An entry removed: it becomes DELETED, its page loses INDEXED, CHAIN and PARENT and one reference (R373, R387, R390). -/
def Run.removeEntry (rq : Req) (id p i : Nat) (e : List Byte) : Run Unit := do
  Run.forAll p KvPolder.refDrop [ixPage e]
  Run.pwrite rq id ((← Run.kvp p).idxAddr i + 8) (leBytes 4 (ixPage e + 2 ^ 30))
  let fl ← Run.hdr rq p (ixPage e) 1 1
  Run.setHdr rq id p (ixPage e) 1 1 (fl / 2 * 2)
  Run.setHdr rq id p (ixPage e) 0x14 12 0
  let k ← Run.kvp p
  Run.setKv p { k with used := k.used - 1 }

/-- One sweep (R390): the first entry from the sweep's place whose page has one reference and no lease and is nobody's parent
is removed. -/
def Run.sweep (rq : Req) (id p : Nat) : Run Unit := do
  let n := (← get).indexSize p
  let es ← Run.entries rq p
  let k ← Run.kvp p
  let order := es.filter (fun e => decide (k.sweep ≤ e.1)) ++ es.filter (fun e => decide (e.1 < k.sweep))
  match order.find? (fun e => let g := k.page (ixPage e.2)
      decide (g.state = .live) && decide (g.refs = 1) && decide (g.leases = 0) && !es.any (fun f => decide (ixParent f.2 = ixPage e.2))) with
  | none => Run.pageStop Pr.poolEmpty none
  | some e => do
    Run.removeEntry rq id p e.1 e.2
    let k ← Run.kvp p
    Run.setKv p { k with sweep := (e.1 + 1) % max n 1 }
    modify (fun s => s.addCnt Reg.kvpCntEvict 1)

/-- Sweeps until `n` pages are FREE, or POOL_EMPTY (R382, R390). -/
def Run.makeRoomFuel (rq : Req) (id p n : Nat) : Nat → Run Unit
  | 0 => Run.pageStop Pr.poolEmpty none
  | k + 1 => do
    if n ≤ ((← get).freePages p).length then pure ()
    else do
      Run.sweep rq id p
      Run.makeRoomFuel rq id p n k

/-- `n` FREE pages are made available. -/
def Run.makeRoom (rq : Req) (id p n : Nat) : Run Unit := Run.makeRoomFuel rq id p n (n + 1)

/-- A FREE page is taken and becomes LIVE with one reference; which one is the page manager's choice (R382), a free value. -/
def Run.alloc (p : Nat) : Run Nat := do
  let s ← get
  let fs := s.freePages p
  if fs.isEmpty then Run.pageStop Pr.poolEmpty none
  else do
    let n := fs.getD (Config.freeNat s.freeCtr % fs.length) 0
    set (s.fresh.setKv p ((s.kvp p).setPage n ⟨.live, 1, 0⟩))
    return n

/-! ### Copy-on-write (R383) -/

/-- Copy-on-write of entry `x` of a table, to keep `count` slots: a page is allocated, the entry points to it, the old page
loses the writer's reference and holds a lease for the copy, which begins. The new header holds what the old one says of
the page. -/
def Run.copyOnWrite (rq : Req) (id p seq : Nat) (q : Seq) (l h x old count : Nat) : Run Nat := do
  let new ← Run.alloc p
  let fmt ← Run.hdr rq p old 0 1
  let fl ← Run.hdr rq p old 1 1
  let d ← Run.hdr rq p old 2 2
  let start ← Run.hdr rq p old 8 4
  let ds ← Run.hdr rq p old 0x11 1
  let dg ← Run.pread rq ((← Run.kvp p).hdrAddr old + 0x440) 256
  Run.initHdr rq id p new fmt d start seq l h count (fl / 2 * 2) ds dg
  Run.forAll p KvPolder.lease [old]
  Run.setEntry rq id q l h x (some new)
  Run.forAll p KvPolder.refDrop [old]
  modify (fun s => { s.addCnt Reg.kvpCntCow 1 with copies := s.copies ++ [⟨p, old, new, count, seq, id⟩] })
  return new

/-- A page is still being copied to. -/
def State.copying (s : State) (p page : Nat) : Bool := s.copies.any (fun c => c.polder == p && c.new == page)

/-- The bytes that a page holds of its slots below `count`, as (in the header, offset, length). -/
def slotRanges (fmt d count : Nat) : List (Bool × Nat × Nat) :=
  [(false, 0, cdiv (count * d * pageElem fmt) 2), (false, 8192, cdiv (count * d * pageElem fmt) 2), (true, 0x40, 4 * count)] ++
  (if pageMx fmt then [(true, 0x540, count * (d / 32)), (true, 0x740, count * (d / 32))] else [])

/-- The copy itself: slots below the new COUNT with their tokens and scales. The page manager writes it, not the command (log entry 21). -/
def Run.copyPage (rq : Req) (c : PageCopy) : Run Unit := do
  let fmt ← Run.hdr rq c.polder c.old 0 1
  let d ← Run.hdr rq c.polder c.old 2 2
  for r in slotRanges fmt d c.count do
    let k ← Run.kvp c.polder
    let src := if r.1 then k.hdrAddr c.old else k.dataAddr c.old
    let dst := if r.1 then k.hdrAddr c.new else k.dataAddr c.new
    let bs ← Run.pread rq (src + r.2.1) r.2.2
    Run.pwrite rq (2 ^ 64) (dst + r.2.1) bs

/-! ### The digest (R369, R370) -/

/-- `⌊a × 2^k⌋`. -/
def floorScaled (a : Int) (k : Int) : Int := if 0 ≤ k then a * 2 ^ k.toNat else a / (2 ^ (-k).toNat : Nat)
/-- `⌊(a × 2^k + 15) / 2⌋` clamped to 0–15. -/
def digFloor (a k : Int) : Nat :=
  let v := if 0 ≤ k then (a * 2 ^ k.toNat + 15) / 2 else (a + 15 * (2 ^ (-k).toNat : Nat)) / (2 ^ ((-k).toNat + 1) : Nat)
  (max 0 (min 15 v)).toNat
/-- `⌈(a × 2^k + 15) / 2⌉` clamped to 0–15. -/
def digCeil (a k : Int) : Nat :=
  let v := if 0 ≤ k then -((-(a * 2 ^ k.toNat) - 15) / 2) else -((-a - 15 * (2 ^ (-k).toNat : Nat)) / (2 ^ ((-k).toNat + 1) : Nat))
  (max 0 (min 15 v)).toNat

/-- The code of the smallest power of two at or above a magnitude (R369). -/
def sigmaCode (x : Num) : Nat := match x with
  | .fin _ m e =>
    if m = 0 then 0
    else
      let l := ilog2 m e 1
      let up := if (Num.fin false 1 l).lt (.fin false m e) then l + 1 else l
      (max 0 (min 254 (up + 127))).toNat
  | _ => 254

/-- A digest byte requantised from σ to a larger σ′ (R370); an empty range stays empty. -/
def digRequant (code code' b : Nat) : Nat :=
  let lo := b % 16
  let hi := b / 16
  if hi < lo then b
  else
    let k : Int := (code : Int) - code'
    digFloor (2 * (lo : Int) - 15) k + 16 * digCeil (2 * (hi : Int) - 15) k

/-- A digest byte widened to take in a component. -/
def digWiden (code b : Nat) (x : Num) : Nat := match x with
  | .fin s m e =>
    let a := 15 * signedMag s m
    let k := e - ((code : Int) - 127)
    min (b % 16) (digFloor a k) + 16 * max (b / 16) (digCeil a k)
  | _ => b

/-- Flags, DIGEST_SCALE and digest after a key with its components by dimension (R370). -/
def digestFold (flags code : Nat) (dig : List Byte) (key : List (Nat × Num)) : Nat × Nat × List Byte :=
  if bit flags 2 then (flags, code, dig)
  else if key.any (fun c => !c.2.isFin) then (flags ||| 4, code, dig)
  else
    let need := sigmaCode (absMax (key.map (fun c => c.2)))
    let code' := max code need
    let dig := if code' = code then dig else dig.map (fun b => BitVec.ofNat 8 (digRequant code code' b.toNat))
    (flags, code', key.foldl (fun d c => d.set c.1 (BitVec.ofNat 8 (digWiden code' (d.getD c.1 0).toNat c.2))) dig)

/-! ### Failures of page operations -/

/-- KVP_ERR, KVP_ERR_SEQ and KVP_ERR_PAGE take the first failure since VALID was cleared (R406). -/
def State.kvErr (s : State) (p status reason seq : Nat) (page : Option Nat) : State :=
  if s.bit Reg.kvpErr 31 then s
  else
    let s := s.setNat Reg.kvpErr (2 ^ 31 + 2 ^ 24 * p + 2 ^ 16 * status + reason)
    let s := s.setNat Reg.kvpErrSeq seq
    s.setNat Reg.kvpErrPage (page.getD 0xFFFFFF)

/-- A failure of a page operation is noted. -/
def State.noteKv (s : State) (p seq : Nat) (e : Fail) : State :=
  if e.status = St.pageState then s.kvErr p e.status e.reason seq e.page else s

/-! ### Append (R377–R380) -/

/-- One table is admitted: the length must be POS; the free slots of its last page, a copy of it, and new pages. It answers the
page and slot of each row and the new pages. -/
def Run.admitTable (rq : Req) (id p seq : Nat) (q : Seq) (l h pos m : Nat) (t : List Nat) : Run (List (Nat × Nat) × List Nat) := do
  let cap := pageCap q.headDim q.format
  let last := t.getLast?
  let (cur, used, room) ← (match last with
    | none => pure (none, 0, 0)
    | some n => do
      let fl ← Run.hdr rq p n 1 1
      let c ← Run.hdr rq p n 6 2
      let t ← Run.hdr rq p n 4 2
      pure (some n, c, if bit fl 1 then 0 else t - c) : Run (Option Nat × Nat × Nat))
  let inLast := min room m
  let cur ← (match cur with
    | some n => do
      let k ← Run.kvp p
      if 0 < inLast && decide (1 < (k.page n).refs) then do
        let new ← Run.copyOnWrite rq id p seq q l h (t.length - 1) n used
        pure (some new)
      else pure (some n)
    | none => pure none : Run (Option Nat))
  let first := (List.range inLast).map (fun i => (cur.getD 0, used + i))
  let mut slots := first
  let mut fresh : List Nat := []
  for j in List.range (cdiv (m - inLast) cap) do
    let n ← Run.alloc p
    Run.initHdr rq id p n q.format q.headDim (pos + inLast + j * cap) seq l h 0 0 0 (emptyDigest q.headDim)
    slots := slots ++ (List.range (min cap (m - inLast - j * cap))).map (fun i => (n, i))
    fresh := fresh ++ [n]
  return (slots, fresh)

/-- What a table needs: pages to allocate, and entries in all (R379). -/
def Run.appendNeeds (rq : Req) (p : Nat) (q : Seq) (m : Nat) (t : List Nat) : Run (Nat × Nat) := do
  let cap := pageCap q.headDim q.format
  match t.getLast? with
  | none => return (cdiv m cap, cdiv m cap)
  | some n => do
    let fl ← Run.hdr rq p n 1 1
    let c ← Run.hdr rq p n 6 2
    let tt ← Run.hdr rq p n 4 2
    let room := if bit fl 1 then 0 else tt - c
    let k ← Run.kvp p
    let copy := b2n (decide (0 < min room m) && decide (1 < (k.page n).refs))
    let new := cdiv (m - min room m) cap
    return (copy + new, t.length + new)

/-- The admission of an append (R377–R379): the drain record is read and checked, then every named table, then all is
reserved. -/
def Run.admission (rq : Req) (c : Cmd) (p m n fmt : Nat) (rowMajor : Bool) : Run KvReserve := do
  let a := c.addr 0x20
  let r ← Run.read (fun _ => rq) p a 64
  let seq := lsub r 0 2
  let layer := lsub r 2 2
  let first := lbyte r 4
  let heads := lbyte r 5 + (if lbyte r 5 = 0 then 256 else 0)
  let pos := lsub r 8 4
  Run.need (allZero (lslice r 6 2) && allZero (lslice r 0xC 4) && allZero (lslice r 0x16 42) && rowMajor) St.badDescriptor
  let q ← Run.seq p seq
  Run.need (decide (n = 2 * heads * q.headDim) && decide (fmt = q.format) && decide (first + heads ≤ q.kvHeads) &&
    decide (layer < q.layers)) St.badDescriptor
  Run.mayTouch rq.reach p (lsub r 0x10 6) (4 * m) 1
  Run.pageNeed q.active Pr.notActive none
  Run.pageNeed q.appending.isEmpty Pr.inUse none
  let hs := (List.range heads).map (fun i => first + i)
  let mut ts : List (List Nat) := []
  let mut need := 0
  for h in hs do
    let t ← Run.table rq p q layer h
    let len ← Run.tableLen rq p t
    Run.pageNeed (decide (len = pos)) Pr.position none
    let x ← Run.appendNeeds rq p q m t
    Run.pageNeed (decide (pos + m ≤ q.maxTokens) && decide (x.2 ≤ q.entries)) Pr.tableFull none
    ts := ts ++ [t]
    need := need + x.1
  Run.makeRoom rq c.id p need
  let mut slots : List (List (Nat × Nat)) := []
  let mut fresh : List (List Nat) := []
  for x in hs.zip ts do
    let y ← Run.admitTable rq c.id p seq q layer x.1 pos m x.2
    slots := slots ++ [y.1]
    fresh := fresh ++ [y.2]
  let k ← Run.kvp p
  Run.setKv p (k.setSeq seq (some { q with appending := [(layer, c.id)] }))
  return ⟨p, seq, layer, pos, m, slots, fresh, first, lsub r 0x10 6, a, []⟩

/-- COUNT of the pages and the tables of an append advance (R380). -/
def Run.appendOk (rq : Req) (id : Nat) (r : KvReserve) : Run Unit := do
  match (← Run.kvp r.polder).seq r.seq with
  | none => pure ()
  | some q =>
    for x in (r.slots.zip r.fresh).zipIdx do
      let h := r.head + x.2
      let t ← Run.tableFrom rq q r.layer h q.entries 0
      for n in x.1.2.zipIdx do
        Run.setEntry rq id q r.layer h (t.length + n.2) (some n.1)
      let pages := x.1.1.foldl (fun (m : SMap Nat) y => SMap.set (fun _ => 0) m y.1 (max (SMap.get (fun _ => 0) m y.1) (y.2 + 1))) []
      for y in pages do
        Run.setHdr rq id r.polder y.1 6 2 y.2

/-- The commit of an append that is to end with ST_OK: COUNTs and lengths advance together; where the page manager meets an
uncorrectable block none does, and the command ends with ST_UNCORRECTABLE (R380, R404). -/
def State.appendFinish (s : State) (c : Cmd) : State :=
  match c.work, c.phase with
  | .array _ _ (some r) _, .done st =>
    if st ≠ St.ok then s
    else match Run.appendOk (reqBd c) c.id r s with
      | .ok _ s' => s'
      | .error e s' =>
        ({ s' with kv := s.kv, mem := { s'.mem with dram := s.mem.dram } }).failCmd c.id (e.status, e.addr.getD 0)
  | _, _ => s

/-- An operation that fails changes nothing (R374, R379, R382): pages, tables and the index stand as before it. -/
def State.undoKv (before after : State) (id : Nat) : State :=
  let s := { after with kv := before.kv, copies := before.copies, mem := { after.mem with dram := before.mem.dram } }
  let s := s.setCnt Reg.kvpCntCow (before.cnt Reg.kvpCntCow).toNat
  let s := s.setCnt Reg.kvpCntEvict (before.cnt Reg.kvpCntEvict).toNat
  s.updCmd id (fun c => { c with wrote := false })

/-- The end of an append: unless it ends with ST_OK, the new pages return to FREE (R380). -/
def State.appendEnd (s : State) (c : Cmd) (r : KvReserve) (ok : Bool) : State :=
  let s := if ok then s
    else s.setKv r.polder (r.fresh.flatten.foldl (fun k n => k.setPage n ⟨.free, 0, 0⟩) (s.kvp r.polder))
  let k := s.kvp r.polder
  match k.seq r.seq with
  | some q => s.setKv r.polder (k.setSeq r.seq (some { q with appending := q.appending.filter (fun x => x.2 != c.id) }))
  | none => s

end Sys2Proof.Machine
end

