-- ==== Sys2Proof/Machine/Templates.lean ====
section
/-! DEFINITION. Dataflow templates (R192–R199): how a command's shape is cut over cores, passes and the array, where its
tensors lie, and the checks of a descriptor against its template (R183, R188, R197, R248, R261, R686). -/
namespace Sys2Proof.Machine

/-- A loop entry (R193). -/
structure LoopEntry where
  dim : Nat
  place : Nat
  tile : Nat
  deriving DecidableEq, Repr

/-- A template (R192). -/
structure Tmpl where
  kind : Nat
  tree : Nat
  cores : Nat
  xflags : Nat
  vop : Nat
  lay0 : Nat
  lay1 : Nat
  layD : Nat
  loops : List LoopEntry
  deriving DecidableEq, Repr

/-- A template body read (R192, R193). -/
def parseTmpl (b : List Byte) : Tmpl :=
  ⟨lbyte b 0, lsub b 2 2, lbyte b 4, lbyte b 5, lbyte b 6, lbyte b 8, lbyte b 9, lbyte b 10,
   (List.range (lbyte b 1)).map (fun i => ⟨lbyte b (32 + 16 * i), lbyte b (33 + 16 * i), lsub b (36 + 16 * i) 4⟩)⟩

/-- XFLAGS.SHIFT (R192). -/
def Tmpl.shift (t : Tmpl) : Bool := t.xflags.testBit 1

/-- The template that a descriptor names (R76). -/
def State.template (s : State) (c : Cmd) : Option Tmpl :=
  s.image.bind (fun im => (im.templates.find? (fun t => t.num == dfld c.desc 0x28 2)).map (fun t => parseTmpl t.body))

/-! ### Shapes (R156, R194) -/

/-- PAD, DILATION and the two strides of a CONV descriptor. -/
def convPad (d : Desc) : Nat := dbyte d 0x3D
/-- DILATION. -/
def convDil (d : Desc) : Nat := dbyte d 0x3E
/-- Vertical stride, STRIDE[3:0]. -/
def strideV (d : Desc) : Nat := dbyte d 0x3C % 16
/-- Horizontal stride, STRIDE[7:4]. -/
def strideH (d : Desc) : Nat := dbyte d 0x3C / 16

/-- An output extent of a convolution (R194); 0 where the window does not fit. -/
def convOut (n pad dil k stride : Nat) : Nat :=
  if stride = 0 || n + 2 * pad < dil * (k - 1) + 1 then 0 else (n + 2 * pad - dil * (k - 1) - 1) / stride + 1

/-- The extent of a dimension (R194). -/
def extent (d : Desc) (dim : Nat) : Nat :=
  if dim = 0 then dfld d 0x30 4
  else if dim = 1 then dfld d 0x34 4
  else if dim = 2 then dfld d 0x38 4
  else if dim = 3 then dfld d 0x38 2
  else if dim = 4 then convOut (dfld d 0x30 2) (convPad d) (convDil d) (dbyte d 0x3A) (strideV d)
  else if dim = 5 then convOut (dfld d 0x32 2) (convPad d) (convDil d) (dbyte d 0x3B) (strideH d)
  else if dim = 6 then dfld d 0x34 2
  else if dim = 7 then dfld d 0x36 2
  else if dim = 8 then dbyte d 0x3A
  else if dim = 9 then dbyte d 0x3B
  else dfld d 0x30 4

/-- The dimensions of a KIND. -/
def kindDims (kind : Nat) : List Nat := if kind = 1 then [0, 1, 2] else if kind = 2 then [3, 4, 5, 6, 7, 8, 9] else [10]
/-- A reduction dimension. -/
def isReduction (dim : Nat) : Bool := dim = 2 || dim = 6 || dim = 8 || dim = 9
/-- The block dimension of the sources of a KIND (R228). -/
def srcBlockDim (kind : Nat) : Nat := if kind = 1 then 2 else if kind = 2 then 6 else 10
/-- The block dimension of the destination of a KIND. -/
def dstBlockDim (kind : Nat) : Nat := if kind = 1 then 1 else if kind = 2 then 7 else 10
/-- ROW_LEN of an ELEMENTWISE descriptor (R261). -/
def rowLen (d : Desc) : Nat := dfld d 0x34 3
/-- The reduction length K of a pass (R194, R209). -/
def reductionLen (kind : Nat) (d : Desc) : Nat :=
  if kind = 1 then extent d 2 else extent d 6 * extent d 8 * extent d 9

/-! ### Fields of the descriptor -/

/-- FMT_SRC0. -/
def fmtSrc0 (d : Desc) : Nat := dbyte d 0x2A
/-- FMT_SRC1. -/
def fmtSrc1 (d : Desc) : Nat := dbyte d 0x2B
/-- FMT_DST. -/
def fmtDst (d : Desc) : Nat := dbyte d 0x2C
/-- TFLAGS.ACCUMULATE. -/
def tfAccumulate (d : Desc) : Bool := bit (dbyte d 0x2D) 0
/-- TFLAGS.ABSMAX. -/
def tfAbsmax (d : Desc) : Bool := bit (dbyte d 0x2D) 1
/-- TFLAGS.KV_APPEND. -/
def tfAppend (d : Desc) : Bool := bit (dbyte d 0x2D) 2

/-- The first source. -/
def tensorSrc0 (t : Tmpl) (d : Desc) : Tensor :=
  let a := dfld d 0x10 6
  if t.kind = 1 then (if t.lay0 = 1 then ⟨a, fmtSrc0 d, [extent d 2, extent d 0], 0⟩ else ⟨a, fmtSrc0 d, [extent d 0, extent d 2], 1⟩)
  else if t.kind = 2 then ⟨a, fmtSrc0 d, [extent d 3, dfld d 0x30 2, dfld d 0x32 2, extent d 6], 3⟩
  else ⟨a, fmtSrc0 d, [extent d 10], 0⟩
/-- The second source. -/
def tensorSrc1 (t : Tmpl) (d : Desc) : Tensor :=
  let a := dfld d 0x18 6
  if t.kind = 1 then (if t.lay1 = 1 then ⟨a, fmtSrc1 d, [extent d 1, extent d 2], 1⟩ else ⟨a, fmtSrc1 d, [extent d 2, extent d 1], 0⟩)
  else if t.kind = 2 then ⟨a, fmtSrc1 d, [extent d 8, extent d 9, extent d 6, extent d 7], 2⟩
  else ⟨a, fmtSrc1 d, [if t.vop = 11 then rowLen d else extent d 10], 0⟩
/-- The destination. -/
def tensorDst (t : Tmpl) (d : Desc) : Tensor :=
  let a := dfld d 0x20 6
  if t.kind = 1 then (if t.layD = 1 then ⟨a, fmtDst d, [extent d 1, extent d 0], 0⟩ else ⟨a, fmtDst d, [extent d 0, extent d 1], 1⟩)
  else if t.kind = 2 then ⟨a, fmtDst d, [extent d 3, extent d 4, extent d 5, extent d 7], 3⟩
  else ⟨a, fmtDst d, [extent d 10], 0⟩

/-- Storage index of an output element, its value of each dimension given. -/
def dstIndex (t : Tmpl) (v : Nat → Nat) : List Nat :=
  if t.kind = 1 then (if t.layD = 1 then [v 1, v 0] else [v 0, v 1])
  else if t.kind = 2 then [v 3, v 4, v 5, v 7] else [v 10]
/-- Storage index of the operand element that a product takes, or none in the padding of a convolution (R194). -/
def src0Index (t : Tmpl) (d : Desc) (v : Nat → Nat) : Option (List Nat) :=
  if t.kind = 1 then some (if t.lay0 = 1 then [v 2, v 0] else [v 0, v 2])
  else if t.kind = 2 then
    let h := v 4 * strideV d + v 8 * convDil d
    let w := v 5 * strideH d + v 9 * convDil d
    let p := convPad d
    if p ≤ h && decide (h < p + dfld d 0x30 2) && decide (p ≤ w) && decide (w < p + dfld d 0x32 2) then
      some [v 3, h - p, w - p, v 6] else none
  else some [v 10]
/-- Storage index of the weight element that a product takes. -/
def src1Index (t : Tmpl) (v : Nat → Nat) : List Nat :=
  if t.kind = 1 then (if t.lay1 = 1 then [v 1, v 2] else [v 2, v 1])
  else if t.kind = 2 then [v 8, v 9, v 6, v 7] else [v 10]

/-! ### Cutting (R195, R198) -/

/-- The range of a dimension in a tile: start and length. -/
def rangeOf (t : Tile) (dim : Nat) : Nat × Nat := ((t.find? (fun r => r.1 == dim)).map (fun r => r.2)).getD (0, 1)
/-- The range of a dimension replaced. -/
def setRange (t : Tile) (dim : Nat) (r : Nat × Nat) : Tile := t.map (fun x => if x.1 = dim then (dim, r) else x)
/-- A tile cut along a dimension into pieces of `n` (0: one piece), the last possibly shorter. -/
def cut (t : Tile) (dim n : Nat) : List Tile :=
  let r := rangeOf t dim
  if n = 0 then [t]
  else (List.range (cdiv r.2 n)).map (fun i => setRange t dim (r.1 + i * n, min n (r.2 - i * n)))
/-- A multiple. -/
def roundUp (a n : Nat) : Nat := if n = 0 then a else cdiv a n * n

/-- The block that every piece of the destination's block dimension must respect: 1 where R686 asks nothing. -/
def dstAlign (d : Desc) : Nat := if fmtBlocked (fmtDst d) || tfAbsmax d then statBlock (fmtDst d) else 1

/-- The piece of a CORE entry with TILE 0: `⌈e / P⌉`, rounded up as R261 and R686 say. -/
def coreTile (t : Tmpl) (d : Desc) (dim e p : Nat) : Nat :=
  let b := if dim = dstBlockDim t.kind then dstAlign d else 1
  let r := if t.kind = 3 && decide (0 < rowLen d) then rowLen d else 1
  roundUp (cdiv e p) (b.lcm r)

/-- The whole output of a command. -/
def wholeTile (t : Tmpl) (d : Desc) : Tile := ((kindDims t.kind).filter (fun x => !isReduction x)).map (fun x => (x, 0, extent d x))

/-- The combinations of pieces of the CORE entries, in the order of the loop nest. -/
def corePieces (t : Tmpl) (d : Desc) (p : Nat) : List Tile :=
  (t.loops.filter (fun e => e.place == 0)).foldl (fun l e => l.flatMap (fun x =>
    cut x e.dim (if e.tile = 0 then coreTile t d e.dim (rangeOf x e.dim).2 p else e.tile))) [wholeTile t d]

/-- A piece cut by the OUTER and LOCAL entries of a template, in order (R195). -/
def innerTiles (t : Tmpl) (piece : Tile) : List Tile :=
  (t.loops.filter (fun e => (e.place == 1 || e.place == 2) && !isReduction e.dim)).foldl
    (fun l e => l.flatMap (fun x => cut x e.dim e.tile)) [piece]

/-- The pieces that OUTER loops bring into the local store one after another (R195): a core's pieces cut by the OUTER entries. -/
def outerPieces (t : Tmpl) (d : Desc) (cores : Nat) : List Tile :=
  (t.loops.filter (fun e => e.place == 1 && !isReduction e.dim)).foldl (fun l e => l.flatMap (fun x => cut x e.dim e.tile)) (corePieces t d cores)

/-- A tile lies in a piece. -/
def tileIn (piece tile : Tile) : Bool := tile.all (fun r =>
  let p := rangeOf piece r.1
  decide (p.1 ≤ r.2.1) && decide (r.2.1 + r.2.2 ≤ p.1 + p.2))

/-- The tiles of one piece, one for each pass (R185): cut by every OUTER, LOCAL, ROWS and COLS entry in order; a dimension that
these leave wider than one value is taken value by value before the array's own two. -/
def passTiles (t : Tmpl) (piece : Tile) : List Tile :=
  let grid := t.loops.filter (fun e => e.place == 4 || e.place == 5)
  let own := grid.map (fun e => e.dim)
  let l := (piece.filter (fun r => !own.contains r.1)).foldl (fun l r => l.flatMap (fun x => cut x r.1 1)) (innerTiles t piece)
  grid.foldl (fun l e => l.flatMap (fun x => cut x e.dim e.tile)) l

/-- The tiles of a command by core (R198): the core of rank i takes combinations i, i + P, i + 2P and so on; without a CORE
entry rank 0 takes all. Cores without a piece take no part. -/
def coreTiles (t : Tmpl) (d : Desc) (cores : List Nat) (f : Tile → List Tile) : List (Nat × List Tile) :=
  let ps := corePieces t d (max 1 cores.length)
  (cores.zipIdx.map (fun c => (c.1, ((ps.zipIdx.filter (fun x => x.2 % cores.length == c.2)).flatMap (fun x => f x.1))))).filter
    (fun c => !c.2.isEmpty)

/-- The chunks of the reduction, in the order of the STREAM entries (R188, R195). -/
def streamChunks (t : Tmpl) (d : Desc) : List Tile :=
  (t.loops.filter (fun e => e.place == 3)).foldl (fun l e => l.flatMap (fun x => cut x e.dim e.tile))
    [((kindDims t.kind).filter isReduction).map (fun x => (x, 0, extent d x))]

/-- Elements that are summed exactly before a rounding (R231): a block of the sources, or the lanes of one cycle. -/
def groupSize (d : Desc) : Nat :=
  match fmtBlocked (fmtSrc0 d), fmtBlocked (fmtSrc1 d) with
  | true, true => min (fmtBlock (fmtSrc0 d)) (fmtBlock (fmtSrc1 d))
  | true, false => fmtBlock (fmtSrc0 d)
  | false, true => fmtBlock (fmtSrc1 d)
  | false, false => laneCount (fmtSrc1 d) (fmtSrc0 d)

/-- The chunks that the row registers take in turn (R186, R188): KH, KW and the range of the block dimension. -/
def reductionLoads (t : Tmpl) (d : Desc) : List (Nat × Nat × Nat × Nat) :=
  (streamChunks t d).flatMap (fun ch =>
    let kh := rangeOf ch 8
    let kw := rangeOf ch 9
    let k := rangeOf ch (srcBlockDim t.kind)
    (List.range kh.2).flatMap (fun i => (List.range kw.2).map (fun j => (kh.1 + i, kw.1 + j, k.1, k.2))))

/-- The groups of a chunk in order: first index and length (R187, R188). -/
def loadGroups (d : Desc) (l : Nat × Nat × Nat × Nat) : List (Nat × Nat) :=
  let g := groupSize d
  (List.range (cdiv l.2.2.2 g)).map (fun n => (l.2.2.1 + n * g, min g (l.2.2.2 - n * g)))

/-- The groups of the reduction in order: KH, KW and the range of the block dimension. -/
def reductionGroups (t : Tmpl) (d : Desc) : List (Nat × Nat × Nat × Nat) :=
  (reductionLoads t d).flatMap (fun l => (loadGroups d l).map (fun g => (l.1, l.2.1, g.1, g.2)))

/-- Compute cycles of a pass (R183, R187, R191): each cycle takes the lanes of one group, a padded block whole. -/
def passCycles (t : Tmpl) (d : Desc) : Nat :=
  let lanes := laneCount (fmtSrc1 d) (fmtSrc0 d)
  let blocked := fmtBlocked (fmtSrc0 d) || fmtBlocked (fmtSrc1 d)
  (reductionGroups t d).foldl (fun a g => a + cdiv (if blocked then groupSize d else g.2.2.2) lanes) 0

/-! ### Checks -/

/-- The extent that a row-register chunk carries: TILE of the innermost STREAM entry, or what the enclosing entries of its
dimension leave (R188). -/
def streamTile (t : Tmpl) (d : Desc) : Nat :=
  match (t.loops.filter (fun e => e.place == 3)).getLast? with
  | none => 0
  | some e => if e.tile ≠ 0 then e.tile
    else
      let b := extent d e.dim
      let b := if e.dim = srcBlockDim t.kind then roundUp b ((fmtBlock (fmtSrc0 d)).lcm (fmtBlock (fmtSrc1 d))) else b
      (t.loops.filter (fun x => x.place == 3 && x.dim == e.dim && decide (0 < x.tile))).foldl (fun m x => min m x.tile) b

/-- Bank capacity of an operand format in elements (R186). -/
def bankCap (f : Nat) : Nat := if fmtBits f ≤ 4 then 1024 else if fmtBits f = 8 then 512 else 256

/-- R188 holds of a template and a descriptor. -/
def streamOk (t : Tmpl) (d : Desc) : Bool :=
  decide (streamTile t d ≤ bankCap (fmtSrc0 d)) &&
  t.loops.all (fun e => !(e.place == 3 && e.dim == srcBlockDim t.kind) ||
    (decide (e.tile % fmtBlock (fmtSrc0 d) = 0) && decide (e.tile % fmtBlock (fmtSrc1 d) = 0)))

/-- R686 holds: every nonzero TILE on the destination's block dimension is a multiple of its block. -/
def dstOk (t : Tmpl) (d : Desc) : Bool :=
  t.loops.all (fun e => !(e.dim == dstBlockDim t.kind) || decide (e.tile % dstAlign d = 0))

/-- A row operation of R262. -/
def isRowOp (vop : Nat) : Bool := vop = 10 || vop = 11
/-- An operation of R262 that reads SRC1. -/
def readsSrc1 (vop : Nat) : Bool := (1 ≤ vop && vop ≤ 4) || vop = 11

/-- R261 holds of an ELEMENTWISE descriptor. -/
def rowsOk (t : Tmpl) (d : Desc) : Bool :=
  decide (dbyte d 0x37 = 0) &&
  (if isRowOp t.vop then
    decide (0 < rowLen d) && decide (extent d 10 % rowLen d = 0) && t.loops.all (fun e => decide (e.tile % rowLen d = 0))
   else decide (rowLen d = 0))

/-- The field rules of GEMM, CONV and ELEMENTWISE (R156, R183, R188, R197, R234, R248, R261, R686), step 3 of R157. -/
def arrayFields (t : Tmpl) (kind : Nat) (d : Desc) : Bool :=
  let f0 := fmtSrc0 d
  let f1 := fmtSrc1 d
  let fd := fmtDst d
  let src1 := decide (dfld d 0x18 6 ≠ 0)
  decide (t.kind = kind) && decide (fd ≤ Fm.fp32) && decide (fd ≠ Fm.tw2) && decide (f0 ≤ Fm.fp32) &&
  decide (dbyte d 0x2D < (if kind = 1 then 8 else 4)) &&
  (kindDims kind).all (fun x => decide (extent d x ≠ 0) &&
    (decide (extent d x = 1) || t.loops.any (fun e => e.dim == x))) &&
  dstOk t d &&
  (if kind = 3 then
    rowsOk t d && (if src1 then decide (f1 ≤ Fm.fp32) else decide (f1 = 0xFF) && !readsSrc1 t.vop)
   else
    src1 && decide (f1 < Fm.fp32) && decide (f0 ≠ Fm.tw2) && decide (f0 < Fm.fp32) && streamOk t d &&
    (kind = 1 || (decide (strideV d ≠ 0) && decide (strideH d ≠ 0) && decide (convDil d ≠ 0)))) &&
  (!tfAppend d || (decide (t.layD = 0) && !tfAccumulate d && !tfAbsmax d))

/-- Every format of the command is permitted in the polder (R74, R248). -/
def State.formatOk (s : State) (polder f : Nat) : Bool := match s.formatRec polder with
  | some r => r.mask.testBit f
  | none => false

/-- The ranges that a GEMM, CONV or ELEMENTWISE descriptor names: address, bytes and the access needed (1 read, 2 write). -/
def arrayRanges (t : Tmpl) (d : Desc) : List (Nat × Nat × Nat) :=
  let dst := tensorDst t d
  [(dfld d 0x10 6, (tensorSrc0 t d).size, 1)] ++
  (if dfld d 0x18 6 ≠ 0 then [(dfld d 0x18 6, (tensorSrc1 t d).size, 1)] else []) ++
  (if tfAppend d then [(dfld d 0x20 6, 64, 1)]
   else [(dfld d 0x20 6, dst.fullSize (tfAbsmax d), if tfAccumulate d || decide (fmtDst d = Fm.g16) then 3 else 2)])

/-- The tree and the cores that a template names are the polder's (R197); a tree reaches its root core, where its routes begin
(R278), and its destinations. DEDUCED (log entry 20). -/
def State.treeOk (s : State) (polder : Nat) (t : Tmpl) : Bool :=
  let cores := s.partCores polder t.cores
  match s.polderRec polder with
  | none => false
  | some r =>
    decide (t.cores ≤ r.cores.length) &&
    (t.tree = 0xFFFF ||
      (match s.image.bind (fun im => im.trees.find? (fun x => x.num == t.tree)) with
       | some x => decide (x.owner = polder) && cores.all (fun n => x.dest.testBit n || (!x.bdRoot && n == x.source))
       | none => false))

/-- The cores that take part in a GEMM, CONV or ELEMENTWISE: those with a piece of the output (R198). -/
def State.arrayCores (s : State) (polder : Nat) (t : Tmpl) (d : Desc) : List Nat :=
  let cores := s.partCores polder t.cores
  cores.take (corePieces t d (max 1 cores.length)).length

/-- The engine that brings in the weights: the tree's root where the template names a tree, otherwise the core itself (R195, R266). -/
def State.weightReach (s : State) (t : Tmpl) (own : Reach) : Reach :=
  if t.tree = 0xFFFF then own
  else match s.tree? t.tree with
    | some x => if x.bdRoot then .bd else .core x.source
    | none => own

/-- The ranges with the engines that reach them (R31; log entry 65): the weights of a GEMM or CONV come by the template's tree, everything
else is reached by the cores that take part; the drain record of an append and the appended tokens by the page manager in BD. -/
def State.arrayReaches (s : State) (polder : Nat) (t : Tmpl) (d : Desc) : List (Nat × Nat × Nat × Reach) :=
  let own := coresReach (s.arrayCores polder t d)
  (arrayRanges t d).zipIdx.map (fun x =>
    let r := x.1
    (r.1, r.2.1, r.2.2, if x.2 = 1 && decide (dfld d 0x18 6 ≠ 0) && decide (t.kind ≠ 3) then s.weightReach t own
      else if tfAppend d && decide (r.1 = dfld d 0x20 6) && decide (r.2.1 = 64) then .bd else own))

/-- The first failing address check of a list of ranges. -/
def State.rangesCheck (s : State) (polder : Nat) (rs : List (Nat × Nat × Nat × Reach)) : Nat :=
  let st := rs.map (fun r => s.rangeCheck r.2.2.2 polder r.1 r.2.1 r.2.2.1)
  if st.contains St.badDescriptor then St.badDescriptor
  else if st.contains St.notPermitted then St.notPermitted else St.ok

/-- The checks of GEMM, CONV and ELEMENTWISE at fetch (R157 steps 3 to 5). -/
def State.arrayCheck (s : State) (polder kind : Nat) (c : Cmd) : Nat :=
  let d := c.desc
  match s.template c with
  | none => St.badDescriptor
  | some t =>
    let rs := arrayRanges t d
    if !arrayFields t kind d || !rs.all (fun r => rangeOk r.1 r.2.1) then St.badDescriptor
    else if (fmtSrc0 d = Fm.tw2 || (decide (dfld d 0x18 6 ≠ 0) && fmtSrc1 d = Fm.tw2)) && !s.cap 3 then St.absentUnit
    else if !(s.formatOk polder (fmtSrc0 d) && s.formatOk polder (fmtDst d) &&
              (decide (dfld d 0x18 6 = 0) || s.formatOk polder (fmtSrc1 d))) ||
            !s.treeOk polder t || (tfAppend d && (s.attnRec polder).isNone) then St.notPermitted
    else s.rangesCheck polder (s.arrayReaches polder t d)

end Sys2Proof.Machine
end

