-- ==== Sys2Proof/Machine/Array.lean ====
section
/-! DEFINITION. The matrix arrays and the vector units: passes and their checksum column (R185–R217), the drain (R233–R241),
the shadow lanes (R242–R247), and ELEMENTWISE (R261–R263). The rows built on it stand in Compute. -/
namespace Sys2Proof.Machine

/-- Everything a command has on the arrays is given back: its sets, re-executions, staged pieces, generators and pass counts (R160,
R217). Its shadow work goes on (R243). -/
def State.clearArray (s : State) (id : Nat) : State :=
  s.mapCores (fun k => { k with
    sets := k.sets.filter (fun a => a.cmd != id)
    redo := k.redo.filter (fun r => r.1 != id)
    staged := k.staged.filter (fun g => g.cmd != id)
    passes := SMap.set (fun _ => 0) k.passes id 0
    gens := SMap.set (fun _ => none) k.gens id none
    passCmd := if k.passCmd = some id then none else k.passCmd
    test := if k.test = some id then none else k.test })

/-- A command on the arrays ends (R160, R217). -/
def State.endArray (s : State) (id status : Nat) (addr : Option Nat) : State := ((s.clearArray id).endCmd id status addr).spanEnd id

/-! ### GEMM and CONV start -/

/-- GEMM or CONV is laid onto its cores (R185, R198); an append is admitted first (R379). -/
def State.startArray (s : State) (c : Cmd) : State :=
  let p := s.polderOf c
  match s.template c with
  | none => s.endCmd c.id St.badDescriptor none
  | some t =>
    let go := fun (s : State) (kv : Option KvReserve) =>
      let tiles := coreTiles t c.desc (s.partCores p t.cores) (passTiles t)
      let s := s.beginCmd c.id (.array tiles 0 kv (s.nat (Reg.precSeed c.ctx)))
      tiles.foldl (fun (s : State) (x : Nat × List Tile) => s.spanStart x.1 c) s
    if tfAppend c.desc then
      match Run.admission (reqBd c) c p (extent c.desc 0) (extent c.desc 1) (fmtDst c.desc) (decide (t.layD = 0)) s with
      | .ok r s' => go (s'.updCmd c.id (fun x => { x with wrote := false })) (some r)
      | .error e s' =>
        let s' := (s.undoKv s' c.id).noteKv p (match (Run.read (fun _ => reqBd c) p (c.addr 0x20) 2 s') with
          | .ok bs _ => leNat bs
          | .error _ _ => 0) e
        (match e.addr with
         | some a => s'.failCmd c.id (e.status, a)
         | none => s'.endCmd c.id e.status none)
    else go s none

/-! ### Passes -/

/-- The value that a dimension takes at a place of a tile: row, column, and a reduction index. -/
def valueAt (t : Tmpl) (tile : Tile) (row col kh kw k : Nat) (dim : Nat) : Nat :=
  if dim = 8 then kh
  else if dim = 9 then kw
  else if dim = srcBlockDim t.kind then k
  else
    let r := rangeOf tile dim
    if t.loops.any (fun e => e.place == 4 && e.dim == dim) then r.1 + row
    else if t.loops.any (fun e => e.place == 5 && e.dim == dim) then r.1 + col
    else r.1

/-- Rows and columns of a tile. -/
def tileDims (t : Tmpl) (tile : Tile) : Nat × Nat :=
  (((t.loops.find? (fun e => e.place == 4)).map (fun e => (rangeOf tile e.dim).2)).getD 1,
   ((t.loops.find? (fun e => e.place == 5)).map (fun e => (rangeOf tile e.dim).2)).getD 1)

/-- The sum of one group under R188 and R231: the exact sum of exact products, times the block scales, rounded once, and added
to the accumulator. -/
def accGroup (acc : Num) (terms : List (Num × Num)) (scale : Num) : Num :=
  acc.fadd ((terms.foldl (fun a x => a.add (x.1.mul x.2)) Num.zero).mul scale).fp32

/-- What a pass has formed so far: accumulators by row and column, C[r] and M[r]. -/
structure PassAcc where
  acc : List (List Num)
  chkC : List Num
  chkM : List Num

/-- The operand elements that row `r` needs of a chunk: their places, 0 where a zero is fed (R191, R194). -/
def rowPlaces (t : Tmpl) (d : Desc) (tile : Tile) (l : Nat × Nat × Nat × Nat) (r : Nat) : List (Option (List Nat)) :=
  (List.range l.2.2.2).map (fun i => src0Index t d (valueAt t tile r 0 l.1 l.2.1 (l.2.2.1 + i)))

/-- Codes of elements by their places. -/
def codesAt (a : Tensor) (m : Mem) (idx : List (Option (List Nat))) : Codes :=
  idx.map (fun i => match i with
    | some x => (a.bitPos x + 1, a.code m x)
    | none => (0, 0))

/-- The bank that the operand feeder fills for a chunk (R186, R190): with SHIFT, a row whose chunk row `r + STRIDE` held before takes it
from there (log entry 73); every other row is loaded. -/
def fillBank (t : Tmpl) (d : Desc) (a : Tensor) (m : Mem) (rows : Nat) (prev : List Codes) (places : Nat → List (Option (List Nat))) : List Codes :=
  (List.range rows).map (fun r =>
    let moved := if t.shift then prev.getD (r + strideH d) [] else []
    if !moved.isEmpty && moved.map (fun e => e.1) == (codesAt a [] (places r)).map (fun e => e.1) then moved else codesAt a m (places r))

/-- The value of an entry of a row register or of a weight register. -/
def entryValue (f : Nat) (e : Nat × Nat) : Num := if e.1 = 0 then Num.zero else elemValue f e.2

/-- One group of a chunk: the weights of every column enter, every cell and every checksum cell adds its group (R187, R188, R207, R231). -/
def passGroup (a w : Tensor) (blocked : Bool) (rows : List Codes) (first : Nat) (g : Nat × Nat) (wts : List Codes)
    (scales : List Num × List Num) (x : PassAcc) : PassAcc :=
  let ops := rows.map (fun r => ((r.drop (g.1 - first)).take g.2).map (entryValue a.fmt))
  let ws := wts.map (fun c => c.map (entryValue w.fmt))
  let sum := fun (pick : Num → Num) => (List.range g.2).map (fun k =>
    ((ws.zip scales.2).foldl (fun y c => y.add (pick ((c.1.getD k .zero).mul c.2))) Num.zero).fp32)
  let s := sum id
  let t := sum Num.abs
  let chk := fun (f : Num → Num) (old : List Num) (by' : List Num) => ((old.zip ops).zip scales.1).map (fun y =>
    accGroup y.1.1 ((y.1.2.map f).zip by') (if blocked then f y.2 else .fin false 1 0))
  { acc := ((x.acc.zip ops).zip scales.1).map (fun r => ((r.1.1.zip ws).zip scales.2).map (fun c =>
      accGroup c.1.1 (r.1.2.zip c.1.2) (if blocked then r.2.mul c.2 else .fin false 1 0)))
    chkC := chk id x.chkC s
    chkM := chk Num.abs x.chkM t }

/-- A pass computed (R185–R188, R207): the row registers take chunk after chunk, one bank in use while the other fills; weight groups and
scales pass through their feeders, at most eight entries at a time. It answers the array's registers, the accumulators, C[r] and
M[r]. -/
def computePass (t : Tmpl) (d : Desc) (tile : Tile) (m0 m1 : Mem) (regs : ArrayRegs) : ArrayRegs × List (List Word) × List Word × List Word :=
  let a := tensorSrc0 t d
  let w := tensorSrc1 t d
  let dims := tileDims t tile
  let blocked := fmtBlocked a.fmt || fmtBlocked w.fmt
  let one : Num := .fin false 1 0
  let wIdx := fun (l : Nat × Nat × Nat × Nat) c k => src1Index t (valueAt t tile 0 c l.1 l.2.1 k)
  let entry := fun (l : Nat × Nat × Nat × Nat) (g : Nat × Nat) =>
    ((List.range dims.2).map (fun c => codesAt w m1 ((List.range g.2).map (fun k => some (wIdx l c (g.1 + k))))),
     ((List.range dims.1).map (fun r => match src0Index t d (valueAt t tile r 0 l.1 l.2.1 g.1) with
        | some i => a.scale m0 i
        | none => one),
      (List.range dims.2).map (fun c => w.scale m1 (wIdx l c g.1))))
  let start : PassAcc := ⟨List.replicate dims.1 (List.replicate dims.2 .zero), List.replicate dims.1 .zero, List.replicate dims.1 .zero⟩
  let x := (reductionLoads t d).foldl (fun (x : ArrayRegs × PassAcc) l =>
    let r := x.1
    let bank := fillBank t d a m0 (if t.shift then 128 else dims.1) (if r.inB then r.bankB else r.bankA) (rowPlaces t d tile l)
    let r := if r.inB then { r with bankA := bank, inB := false } else { r with bankB := bank, inB := true }
    (chunks 8 (loadGroups d l)).foldl (fun (x : ArrayRegs × PassAcc) gs =>
      let es := gs.map (entry l)
      let r := { x.1 with weightFeed := es.map (fun (e : List Codes × List Num × List Num) => e.1),
                          scaleFeed := es.map (fun (e : List Codes × List Num × List Num) => (e.2.1.map Num.bits32, e.2.2.map Num.bits32)) }
      let y := (gs.zip es).foldl (fun (y : PassAcc) (e : (Nat × Nat) × List Codes × List Num × List Num) => passGroup a w blocked (bank.take dims.1) l.2.2.1 e.1 e.2.1 e.2.2 y) x.2
      ({ r with weights := (es.getLast?.map (fun (e : List Codes × List Num × List Num) => e.1)).getD r.weights, weightFeed := [], scaleFeed := [] }, y)) (r, x.2)) (regs, start)
  (x.1, x.2.acc.map (fun r => r.map Num.bits32), x.2.chkC.map Num.bits32, x.2.chkM.map Num.bits32)

/-- The addresses of the operands and of the weights that a pass reads. -/
def passNeeds (t : Tmpl) (d : Desc) (tile : Tile) : List Nat × List Nat :=
  let dims := tileDims t tile
  let gs := reductionGroups t d
  let ks := fun (g : Nat × Nat × Nat × Nat) => (List.range g.2.2.2).map (fun i => g.2.2.1 + i)
  ((List.range dims.1).flatMap (fun r => gs.flatMap (fun g => (ks g).flatMap (fun k =>
     match src0Index t d (valueAt t tile r 0 g.1 g.2.1 k) with
     | some i => (tensorSrc0 t d).needs i
     | none => []))),
   (List.range dims.2).flatMap (fun c => gs.flatMap (fun g => (ks g).flatMap (fun k =>
     (tensorSrc1 t d).needs (src1Index t (valueAt t tile 0 c g.1 g.2.1 k))))))

/-- The tiles that a core has still to run of a command. -/
def todoOf (todo : List (Nat × List Tile)) (n : Nat) : List Tile :=
  match todo.find? (fun (x : Nat × List Tile) => x.1 == n) with
  | some x => x.2
  | none => []
/-- The first of them taken. -/
def takeTodo (todo : List (Nat × List Tile)) (n : Nat) : List (Nat × List Tile) :=
  (todo.map (fun (x : Nat × List Tile) => if x.1 = n then (x.1, x.2.drop 1) else x)).filter
    (fun (x : Nat × List Tile) => !x.2.isEmpty)

/-- The command whose pass a core starts next (R210, R216): the oldest tile to re-execute; else the command it is running, else the
first in fetch order that has a tile for it. -/
def State.nextPass (s : State) (n : Nat) : Option (Nat × Tile × Bool) :=
  let k := s.core n
  let tilesOf := fun (c : Cmd) => match c.phase, c.work with
    | .running, .array todo _ _ _ => todoOf todo n
    | _, _ => []
  match k.redo with
  | r :: _ => some (r.1, r.2, true)
  | [] =>
    let own := s.cmds.find? (fun c => k.passCmd == some c.id && !(tilesOf c).isEmpty)
    let any := s.cmds.find? (fun c => !(tilesOf c).isEmpty)
    ((own <|> any).bind (fun c => (tilesOf c).head?.map (fun x => (c.id, x, false))))

/-- Passes that a core has started for a command. -/
def CoreState.passesOf (k : CoreState) (id : Nat) : Nat := SMap.get (fun _ => 0) k.passes id

/-- The cycles in which an array stood still around a pass (R200–R205): the drain's are known (R189); those that the feeders cost depend
on memory and are free (log entry 19); filler runs in them as in any gap. -/
def State.countFreezes (s : State) (n drain : Nat) : State :=
  let o := Config.freeNat s.freeCtr
  let w := Config.freeNat (s.freeCtr + 1)
  let sc := Config.freeNat (s.freeCtr + 2)
  let fill := Config.freeNat (s.freeCtr + 3) % (o + w + sc + 1)
  let s := { s with freeCtr := s.freeCtr + 4 }
  let s := (((s.addCnt (Reg.arrCntFrzOperand n) o).addCnt (Reg.arrCntFrzWeight n) w).addCnt (Reg.arrCntFrzScale n) sc).addCnt (Reg.arrCntFrzDrain n) drain
  if s.coreUsable n then s.addCnt (Reg.arrCntFiller n) (fill + drain) else s

/-- The sequencer brings the operands and weights of the piece that holds a tile into the local store, unless it holds them already
(R195). A failed read answers its failure. -/
def State.stagePiece (s : State) (n : Nat) (c : Cmd) (t : Tmpl) (tile : Tile) : Except (Nat × Nat) Staged × State :=
  let p := s.polderOf c
  let held := (s.core n).staged.filter (fun g => g.cmd == c.id && tileIn g.piece tile)
  match held with
  | some g => (.ok g, s)
  | none =>
    let piece := ((outerPieces t c.desc (max 1 (s.partCores p t.cores).length)).find? (fun x => tileIn x tile)).getD tile
    let needs := (passTiles t piece).map (passNeeds t c.desc)
    match s.gather (reqCore c n) p (needs.flatMap (fun x => x.1)) with
    | (_, some e, s) => (.error e, s)
    | (m0, none, s) =>
      match s.gather (fun col => { reqCore c n col with reach := s.weightReach t (.core n) }) p (needs.flatMap (fun x => x.2)) with
      | (_, some e, s) => (.error e, s)
      | (m1, none, s) =>
        let g : Staged := ⟨c.id, piece, m0, m1⟩
        (.ok g, s.setCore n { s.core n with staged := some g })

/-- A pass begins: the next tile of its command is taken, the core has one pass more of the command, and the cycles in which it stands still are counted
(R189, R200, R210). -/
def State.beginPass (s : State) (n : Nat) (c : Cmd) (retry : Bool) (l : Nat) : State :=
  let s := s.settleFill n
  let k := s.core n
  let passes := k.passesOf c.id
  let s := s.setCore n { k with redo := if retry then k.redo.drop 1 else k.redo, passCmd := some c.id,
                                passes := SMap.set (fun _ => 0) k.passes c.id (passes + 1) }
  let s := match c.work with
    | .array todo m kv seed => if retry then s else s.setWork c.id (.array (takeTodo todo n) m kv seed)
    | _ => s
  let s := s.countFreezes n (if 2 ≤ passes && l < 193 then 193 - l else 0)
  if retry then s.bumpFld (Reg.arrAbft n) 31 16 1 else s

/-- A pass whose operands or weights cannot be read is abandoned (R217); how long it had computed is free. -/
def State.dropPass (s : State) (n : Nat) (c : Cmd) (retry : Bool) (l fill : Nat) (e : Nat × Nat) : State :=
  let part := Config.freeNat s.freeCtr % (l + 1)
  let s := (s.fresh).addCnt (Reg.arrCntBusy n) (part + fill)
  let s := if retry then s.addCnt (Reg.arrCntRetryCycles n) part else s
  (s.clearArray c.id).failCmd c.id e

/-- A pass computes and hands its set to the drain (R185, R189): the activity counters rise, and the accumulator set is full. -/
def State.fillSet (s : State) (n : Nat) (c : Cmd) (t : Tmpl) (tile : Tile) (retry : Bool) (l fill : Nat) (g : Staged) : State :=
  let s := (s.addCnt (Reg.arrCntBusy n) (l + fill)).addCnt (Reg.arrCntPasses n) 1
  let s := if retry then s.addCnt (Reg.arrCntRetryCycles n) l else s
  let k := s.core n
  let r := computePass t c.desc tile g.operands g.weights k.regs
  s.setCore n { k with sets := k.sets ++ [(⟨c.id, tile, retry, r.2.1, r.2.2.1, r.2.2.2⟩ : AccSet)], regs := r.1,
                       gapFrom := some (s.tick + s.ticksFor n (l + fill)), filled := s.tick }

/-- The cycles that fill the array before a command's first pass on a core (R191). -/
def State.fillCycles (s : State) (n id : Nat) : Nat := if (s.core n).passesOf id = 0 then 320 else 0

/-- A pass: it begins, its piece is brought into the local store, and it fills a set (R185, R189, R191). -/
def State.runPass (s : State) (n : Nat) (id : Nat) (tile : Tile) (retry : Bool) : State :=
  match s.cmd? id with
  | none => s
  | some c =>
    match s.template c with
    | none => s
    | some t =>
      let l := passCycles t c.desc
      let fill := s.fillCycles n c.id
      match (s.beginPass n c retry l).stagePiece n c t tile with
      | (.error e, s) => s.dropPass n c retry l fill e
      | (.ok g, s) => s.fillSet n c t tile retry l fill g

/-! ### The drain -/

/-- What a drain has made of its values so far: element codes by bit position, bytes beside them by offset, words of the
statistics, the largest block maximum, the counts of R237, the generator and how many free words have been taken. -/
structure Drained where
  elems : List (Nat × Nat)
  bytes : List (Nat × Byte)
  stats : List (Nat × Word)
  top : Num
  sat : Nat
  nan : Nat
  warn : Bool
  gen : Nat
  free : Nat

/-- Nothing drained yet. -/
def Drained.start (gen free : Nat) : Drained := ⟨[], [], [], .zero, 0, 0, false, gen, free⟩

/-- What a conversion writes is added to what has been drained. -/
def Drained.put (x : Drained) (c : Conv) (elems : List (Nat × Nat)) (bytes : List (Nat × Byte)) : Drained :=
  { x with elems := x.elems ++ elems, bytes := x.bytes ++ bytes, sat := x.sat + c.sat, nan := x.nan + c.nan,
           warn := x.warn || c.warn, gen := c.gen }

/-- FP32 bits of a statistic; a NaN is a free one. -/
def statWord (x : Num) (free : Nat) : Word := match x with
  | .nan => BitVec.ofNat 32 (nanBits Fm.fp32 (Config.freeWord free))
  | y => y.bits32

/-- A line of values along the destination's block dimension from `start` is converted (R234–R241). `mk` gives the storage
index of a position of the line. -/
def drainLine (t : Tensor) (absmax stoch : Bool) (st : Num) (mk : Nat → List Nat) (start : Nat) (xs : List Num) (x : Drained) : Drained :=
  let b := fmtBlock t.fmt
  let x := if fmtBlocked t.fmt then
      (chunks b xs).zipIdx.foldl (fun x ch =>
        let vs := if t.fmt = Fm.g16 then ch.1.map (fun v => v.fdiv st) else ch.1
        let c := convBlock t.fmt stoch x.gen vs
        let at0 := start + b * ch.2
        x.put c (((c.codes ++ List.replicate (b - ch.1.length) 0).zipIdx).map
            (fun (e : Nat × Nat) => (t.bitPos (mk (at0 + e.2)), e.1)))
          [(t.scalePos (mk at0), BitVec.ofNat 8 c.scale)]) x
    else
      xs.zipIdx.foldl (fun x v =>
        let c := convPlain t.fmt stoch x.gen (Config.freeWord x.free) v.1
        { x.put c [(t.bitPos (mk (start + v.2)), c.codes.getD 0 0)] [] with free := x.free + 1 }) x
  if absmax then
    (chunks (statBlock t.fmt) xs).zipIdx.foldl (fun x ch =>
      let m := absMax ch.1
      { x with stats := x.stats ++ [(t.statPos (mk (start + statBlock t.fmt * ch.2)), statWord m x.free)],
               top := x.top.max m, free := x.free + 1 }) x
  else x

/-- The bytes of drained elements: by offset the mask of bits written and their value. The bits of a run's last byte beyond its
extent are padding, written as zero (R229). -/
def elemBytesOf (t : Tensor) (es : List (Nat × Nat)) : SMap (Nat × Nat) :=
  let w := fmtBits t.fmt
  let valid := t.padded.getLastD 1 * w
  es.foldl (fun m e =>
    (List.range (cdiv (e.1 % 8 + w) 8)).foldl (fun m i =>
      let off := e.1 / 8 + i
      let old := SMap.get (fun _ => (0, 0)) m off
      let part := (e.2 * 2 ^ (e.1 % 8)) / 2 ^ (8 * i) % 256
      let mask := ((2 ^ w - 1) * 2 ^ (e.1 % 8)) / 2 ^ (8 * i) % 256
      let runBit := 8 * (off % max 1 t.runBytes)
      let tail := if valid < runBit + 8 then 256 - 2 ^ (valid - runBit) else 0
      SMap.set (fun _ => (0, 0)) m off (old.1 ||| mask ||| tail, old.2 ||| part)) m) []

/-- Bytes by address written in runs of consecutive addresses. -/
def Run.writeBytes (rq : Nat → Req) (id polder : Nat) (bs : List (Nat × Byte)) : Run Unit := do
  let sorted := bs.foldl (fun (m : SMap (Option Byte)) b => SMap.set (fun _ => none) m b.1 (some b.2)) []
  let runs : List (Nat × List Byte) := sorted.foldl (fun l e => match l with
    | (a, x) :: r => if a + x.length = e.1 then (a, x ++ [e.2.getD 0]) :: r else (e.1, [e.2.getD 0]) :: l
    | [] => [(e.1, [e.2.getD 0])]) []
  for r in runs.reverse do
    Run.write rq id polder r.1 r.2

/-- Bytes gathered, as a run. -/
def Run.gather (rq : Nat → Req) (polder : Nat) (addrs : List Nat) : Run Mem := fun s =>
  match s.gather rq polder addrs with
  | (m, none, s) => .ok m s
  | (_, some e, s) => .error ⟨e.1, some e.2, 0, none⟩ s

/-- A per-tensor scale, as a run (R227). -/
def Run.tensorScale (rq : Nat → Req) (polder : Nat) (t : Tensor) : Run Num := fun s =>
  match s.tensorScale rq polder t with
  | (x, none, s) => .ok x s
  | (_, some e, s) => .error ⟨e.1, some e.2, 0, none⟩ s

/-- What has been drained is written (R233 step 6, R240): every read of a byte partly kept comes first (R253). -/
def Run.putDrained (rq : Nat → Req) (id polder : Nat) (t : Tensor) (x : Drained) : Run Unit := do
  let eb := elemBytesOf t x.elems
  let old ← Run.gather rq polder ((eb.filter (fun e => decide (e.2.1 ≠ 255))).map (fun e => t.addr + e.1))
  let elems := eb.map (fun e =>
    (t.addr + e.1, BitVec.ofNat 8 (((old.byte (t.addr + e.1)).toNat &&& (255 - e.2.1)) + e.2.2)))
  Run.writeBytes rq id polder (elems ++ x.bytes.map (fun b => (t.addr + b.1, b.2)) ++
    x.stats.flatMap (fun w => (leBytes 4 w.2.toNat).zipIdx.map (fun b => (t.addr + w.1 + b.2, b.1))))

/-- The counts of R237 on a core, and the warning (R165). -/
def Run.countDrained (id core : Nat) (x : Drained) : Run Unit :=
  modify (fun s =>
    let s := (s.addCnt (Reg.precCntSat core) x.sat).addCnt (Reg.precCntNan core) x.nan
    let s := { s with freeCtr := max s.freeCtr x.free }
    if x.warn then s.warnCmd id Wn.saturated else s)

/-- Step 3 of R233: the existing destination elements are added when ACCUMULATE is set. -/
def Run.accumulate (rq : Nat → Req) (polder : Nat) (t : Tensor) (st : Num) (lines : List ((Nat → List Nat) × Nat × List Num)) :
    Run (List ((Nat → List Nat) × Nat × List Num)) := do
  let m ← Run.gather rq polder (lines.flatMap (fun l => (List.range l.2.2.length).flatMap (fun i => t.needs (l.1 (l.2.1 + i)))))
  return lines.map (fun l => (l.1, l.2.1, l.2.2.zipIdx.map (fun v => v.1.fadd (t.value m st (l.1 (l.2.1 + v.2))))))

/-- Steps 3 to 6 of R233 on lines of step-2 values, to an ordinary destination. It answers the step-4 values and what was
drained. -/
def Run.drainTo (rq : Nat → Req) (c : Cmd) (core polder : Nat) (t : Tensor) (gen : Nat) (lines : List ((Nat → List Nat) × Nat × List Num)) :
    Run (List (List Num) × Drained) := do
  let st ← Run.tensorScale rq polder t
  let lines ← if tfAccumulate c.desc then Run.accumulate rq polder t st lines else pure lines
  let x := lines.foldl (fun x l => drainLine t (tfAbsmax c.desc) c.stochastic st l.1 l.2.1 l.2.2 x) (Drained.start gen (← get).freeCtr)
  Run.putDrained rq c.id polder t x
  Run.countDrained c.id core x
  return (lines.map (fun l => l.2.2), x)

/-- The running tensor maximum with a tile's (R241). -/
def maxWord (a : Word) (x : Num) : Word := ((f32 a).max x).bits32

/-- The tensor maximum with the rest of the first 64 bytes of the statistics region (R240, R241). -/
def Run.tensorMax (rq : Nat → Req) (id polder : Nat) (t : Tensor) (m : Word) : Run Unit := do
  let s ← get
  Run.write rq id polder (t.addr + t.statOff) (leBytes 4 (statWord (f32 m) s.freeCtr).toNat ++ List.replicate 60 0)
  set (← get).fresh

/-- The generator of a core for a command: seeded at the command's start (R239). -/
def State.coreGen (s : State) (n : Nat) (c : Cmd) (seed : Nat) : Nat :=
  (SMap.get (fun _ => none) (s.core n).gens c.id).getD (genSeed seed n c.slot)

/-- It kept after a drain. -/
def State.setGen (s : State) (n id gen : Nat) : State :=
  s.setCore n { s.core n with gens := SMap.set (fun _ => none) (s.core n).gens id (some gen) }

/-! #### Drain of an append (R366, R377, R380) -/

/-- Key or value of an append that a line holds: head, whether it is the key, and its columns: (first component, first position
in the line, length). -/
def headParts (d start len : Nat) : List (Nat × Bool × Nat × Nat × Nat) :=
  (List.range (2 * ((start + len) / (2 * d) + 1))).filterMap (fun i =>
    let lo := max start (i * d)
    let hi := min (start + len) ((i + 1) * d)
    if lo < hi then some (i / 2, i % 2 == 0, lo - i * d, lo - start, hi - lo) else none)

/-- The reserved slots of an append. -/
def Cmd.reserve (c : Cmd) : Option KvReserve := match c.work with
  | .array _ _ kv _ => kv
  | _ => none

/-- Components of a key noted for the digest, at `at'`: 256 × row + head of the command. All of them once the last one is written. -/
def Run.noteKey (id d at' : Nat) (vals : List (Nat × Num)) : Run (Option (List (Nat × Num))) := do
  let s ← get
  match (s.cmd? id).bind Cmd.reserve with
  | some r =>
    let all := SMap.get (fun _ => []) r.keys at' ++ vals
    let whole := decide (d ≤ all.length)
    modify (fun s => s.updCmd id (fun c => match c.work with
      | .array todo m (some r) seed =>
        { c with work := .array todo m (some { r with keys := SMap.set (fun _ => []) r.keys at' (if whole then [] else all) }) seed }
      | _ => c))
    return if whole then some all else none
  | none => return none

/-- One key or value, or the part of one that a tile holds, is written to its slot with its scales; a whole key widens the digest once
its last part is written (R370). -/
def Run.putPart (rq : Req) (c : Cmd) (polder fmt d page slot at' : Nat) (key : Bool) (comp : Nat) (xs : List Num) (x : Drained) :
    Run (Drained × List Num) := do
  let k ← Run.kvp polder
  let half := if key then 0 else 8192
  let b := fmtBlock fmt
  let bitOf := fun i => 8 * half + (slot * d + comp + i) * fmtBits fmt
  let y := if pageMx fmt then
      (chunks b xs).zipIdx.foldl (fun (x : Drained) ch =>
        let cv := convBlock fmt c.stochastic x.gen ch.1
        x.put cv (cv.codes.zipIdx.map (fun e => (bitOf (b * ch.2 + e.2), e.1)))
          [((if key then 0x540 else 0x740) + slot * (d / 32) + comp / 32 + ch.2, BitVec.ofNat 8 cv.scale)])
        { x with elems := [], bytes := [] }
    else
      xs.zipIdx.foldl (fun (x : Drained) v =>
        let cv := convPlain fmt c.stochastic x.gen (Config.freeWord x.free) v.1
        { x.put cv [(bitOf v.2, cv.codes.getD 0 0)] [] with free := x.free + 1 }) { x with elems := [], bytes := [] }
  let eb := elemBytesOf ⟨0, fmt, [2 ^ 20], 0⟩ y.elems
  for e in eb do
    let old ← (if e.2.1 = 255 then pure 0 else do return leNat (← Run.pread rq (k.dataAddr page + e.1) 1) : Run Nat)
    Run.pwrite rq c.id (k.dataAddr page + e.1) [BitVec.ofNat 8 ((old &&& (255 - e.2.1)) + e.2.2)]
  for w in y.bytes do
    Run.pwrite rq c.id (k.hdrAddr page + w.1) [w.2]
  let sc := fun i => if pageMx fmt then e8m0 (lbyte (y.bytes.map (fun w => w.2)) (i / b)) else .fin false 1 0
  let vals := y.elems.zipIdx.map (fun (e : (Nat × Nat) × Nat) => (comp + e.2, (elemValue fmt e.1.2).mul (sc e.2)))
  if key then
    match ← Run.noteKey c.id d at' vals with
    | none => pure ()
    | some whole =>
      let fl ← Run.hdr rq polder page 1 1
      let ds ← Run.hdr rq polder page 0x11 1
      let dg ← Run.pread rq (k.hdrAddr page + 0x440) d
      let r := digestFold fl ds dg whole
      Run.setHdr rq c.id polder page 1 1 r.1
      Run.setHdr rq c.id polder page 0x11 1 r.2.1
      Run.pwrite rq c.id (k.hdrAddr page + 0x440) r.2.2
  return (y, vals.map (fun v => v.2))

/-- Address of component `i` of the key or value of an append's row (R366). -/
def State.slotAddr (s : State) (r : KvReserve) (fmt d row col : Nat) : Nat :=
  let h := col / (2 * d)
  let pl := ((r.slots.getD h []).getD row (0, 0))
  (s.kvp r.polder).dataAddr pl.1 + (if col / d % 2 = 0 then 0 else 8192) +
    (pl.2 * d + col % d) * fmtBits fmt / 8

/-- HEAD_DIM of the sequence of an append. -/
def State.appendDim (s : State) (r : KvReserve) : Nat := (((s.kvp r.polder).seq r.seq).map (fun q => q.headDim)).getD 16

/-- The drain of an append writes its lines of step-4 values (R380). -/
def Run.drainAppend (c : Cmd) (core : Nat) (r : KvReserve) (gen : Nat) (lines : List (Nat × Nat × List Num)) :
    Run (Drained × List Num) := do
  let rq := reqBd c
  let fmt := fmtDst c.desc
  let d := (← get).appendDim r
  let mut x := Drained.start gen (← get).freeCtr
  let mut q : List Num := []
  for l in lines do
    for h in headParts d l.2.1 l.2.2.length do
      let pl := (r.slots.getD h.1 []).getD l.1 (0, 0)
      let y ← Run.putPart rq c r.polder fmt d pl.1 pl.2 (256 * l.1 + h.1) h.2.1 h.2.2.1 (lslice' l.2.2 h.2.2.2.1 h.2.2.2.2) x
      x := y.1
      q := q ++ y.2
      let tok ← Run.read (fun _ => rq) r.polder (r.tokens + 4 * l.1) 4
      Run.pwrite rq c.id ((← Run.kvp r.polder).hdrAddr pl.1 + 0x40 + 4 * pl.2) tok
  Run.countDrained c.id core x
  return (x, q)
where
  /-- A slice of a list of values. -/
  lslice' (l : List Num) (off n : Nat) : List Num := (l.drop off).take n

/-- Some page that the append writes in this tile is still being copied to (R383). -/
def State.appendWaits (s : State) (r : KvReserve) (rows : List Nat) : Bool :=
  r.slots.any (fun l => rows.any (fun m => s.copying r.polder (l.getD m (0, 0)).1))

/-! #### The checksum (R208–R214) -/

/-- Accumulator values of a row replaced as a failing cell leaves them (R208). -/
def applyDefects (ds : List Defect) (row : Nat) (xs : List Word) : List Word :=
  ds.foldl (fun l d => if d.row = row && d.col < 192 then l.set d.col d.value else l) xs

/-- The checksum value of a row, or what replaces it. -/
def defectC (ds : List Defect) (row : Nat) (c : Word) : Word :=
  ((ds.find? (fun d => d.row == row && d.col == 192)).map (fun d => d.value)).getD c

/-- The verdict on a row: 0 passes, 1 fails, 2 takes no part (R208, R209). -/
def rowVerdict (f k : Nat) (acc : List Word) (c m : Word) : Nat :=
  let d := acc.foldl (fun x w => x.fadd (f32 w)) Num.zero
  let cc := f32 c
  let mm := f32 m
  if !(d.isFin && cc.isFin && mm.isFin) then 2
  else
    let tol := (mm.mul (.fin false (f * (k + 194)) (-24))).add (.fin false k (-126))
    if (d.sub cc).abs.le tol then 0 else 1

/-- A core is marked suspect (R214). -/
def State.suspectCore (s : State) (n : Nat) : State :=
  if s.bit (Reg.arrHealth n) 31 then s
  else (s.setBit (Reg.arrHealth n) 31 true).event 0x0303 (Src.core n) none (dataOf [(0, s.fld (Reg.arrHealth n) 7 0)])

/-- A mismatch is counted, recorded and escalated (R212–R214). -/
def State.mismatch (s : State) (n : Nat) (addr : Nat) (retry : Bool) : State :=
  let s := s.bumpFld (Reg.arrHealth n) 7 0 1
  let s := s.setPair (Reg.arrMismatchTickLo n) (Reg.arrMismatchTickHi n) (s.tick % 2 ^ 64)
  let s := s.event 0x0301 (Src.core n) none (dataOf [(0, addr % 2 ^ 48), (8, b2n retry)])
  let k := s.core n
  let kept := s.tick :: k.mismatch.filter (fun t => decide (s.tick < t + 25000000))
  let s := if kept.length < 3 then s.setCore n { k with mismatch := kept }
    else
      let s := s.setCore n { k with mismatch := [] }
      let old := s.ceiling n
      let step := abftStep s.fuses.variant
      if old < 60 + step then s.suspectCore n
      else
        let s := (s.setCeiling n (old - step)).setAbftCap n (old - step)
        let s := s.bumpFld (Reg.arrHealth n) 23 16 1
        s.event 0x0302 (Src.core n) none (dataOf [(0, 5 * old), (2, 5 * (old - step))])
  if 8 ≤ s.fld (Reg.arrHealth n) 7 0 then s.suspectCore n else s

/-! #### The shadow lane (R242–R246) -/

/-- The dequantised values as written (R243 q), from the drained codes of a line. -/
def writtenValues (t : Tensor) (st : Num) (x : Drained) (idx : List (List Nat)) : List Num :=
  idx.map (fun i =>
    let code := ((x.elems.find? (fun e => e.1 == t.bitPos i)).map (fun e => e.2)).getD 0
    let sc := ((x.bytes.find? (fun b => b.1 == t.scalePos i)).map (fun b => b.2.toNat)).getD 0
    ((elemValue t.fmt code).mul (scaleValue t.fmt sc)).mul (if t.fmt = Fm.g16 then st else .fin false 1 0))

/-- The reference r of R243: the values as MXFP8 E4M3. -/
def referenceValues (start : Nat) (xs : List Num) : List Num :=
  let head := (32 - start % 32) % 32
  (([xs.take head].filter (fun x => !x.isEmpty)) ++ chunks 32 (xs.drop head)).flatMap (fun b =>
    let c := convBlock Fm.mxE4m3 false 0 b
    c.codes.map (fun e => (elemValue Fm.mxE4m3 e).mul (scaleValue Fm.mxE4m3 c.scale)))

/-- e from q and r (R243). -/
def sampleError (q r : List Num) : Option Word :=
  let pairs := q.zip r
  if pairs.any (fun p => !p.1.isFin || !p.2.isFin) then none
  else
    let sr := pairs.foldl (fun a p => a.fadd p.2.abs) Num.zero
    if sr.isZero then none
    else some ((pairs.foldl (fun a p => a.fadd (p.1.fsub p.2).abs) Num.zero).fdiv sr).bits32

/-! ### DRAIN_COMPLETE -/

/-- Internal address of the first output element of a tile (R210, R212). -/
def State.tileAddr (s : State) (t : Tmpl) (c : Cmd) (tile : Tile) : Nat :=
  let v := valueAt t tile 0 0 0 0 0
  match c.work with
  | .array _ _ (some r) _ => s.slotAddr r (fmtDst c.desc) (s.appendDim r) (v 0) (v 1)
  | _ => (tensorDst t c.desc).addr + (tensorDst t c.desc).bitPos (dstIndex t v) / 8

/-- Whether the tile that a core drains next is eligible and sampled (R242). -/
def State.sampled (s : State) (n polder : Nat) (c : Cmd) : Bool :=
  let f := fmtDst c.desc
  let g := 2 ^ ((s.formatRec polder).map (fun r => r.shadowLog2)).getD 0
  (f = Fm.mxfp4 || f = Fm.g16) && decide ((s.core n).eligible % g = n % g)

/-- The tile count of R242, and the shadow buffer of a sampled tile (R243). -/
def State.shadowTile (s : State) (n polder : Nat) (c : Cmd) (sampled : Bool) (q r : List Num) : State :=
  let f := fmtDst c.desc
  if f = Fm.mxfp4 || f = Fm.g16 then
    let k := s.core n
    s.setCore n { k with eligible := k.eligible + 1,
                         shadow := if sampled then some ⟨c.id, polder, c.ctx, c.slot, sampleError q r⟩ else k.shadow }
  else s

/-- The step-2 values of a set (R233): each accumulator times the product of the G16 per-tensor scales. -/
def stepTwo (t0 t1 : Num) (acc : List (List Word)) : List (List Num) :=
  let st := t0.fmul t1
  acc.map (fun row => row.map (fun w => if t0 = .fin false 1 0 ∧ t1 = .fin false 1 0 then f32 w else (f32 w).fmul st))

/-- A tile that has passed is converted and written (R233). -/
def Run.writeTile (n : Nat) (t : Tmpl) (c : Cmd) (set : AccSet) (acc : List (List Word)) : Run Unit := do
  let s ← get
  let p := s.polderOf c
  let rq := reqCore c n
  let sampled := s.sampled n p c
  let t0 ← Run.tensorScale rq p (tensorSrc0 t c.desc)
  let t1 ← Run.tensorScale rq p (tensorSrc1 t c.desc)
  let rows := (stepTwo t0 t1 acc).zipIdx
  match c.work with
  | .array _ _ (some r) seed => do
    let c0 := valueAt t set.tile 0 0 0 0 0 1
    let lines := rows.map (fun x => (valueAt t set.tile x.2 0 0 0 0 0, c0, x.1))
    let y ← Run.drainAppend c n r (s.coreGen n c seed) lines
    modify (fun s => (s.setGen n c.id y.1.gen).shadowTile n p c sampled y.2
      (lines.flatMap (fun l => referenceValues l.2.1 l.2.2)))
  | .array _ _ none seed => do
    let dst := tensorDst t c.desc
    let line := fun (x : List Num × Nat) =>
      (fun j => dstIndex t (fun dim => if dim = dstBlockDim t.kind then j else valueAt t set.tile x.2 0 0 0 0 dim),
       valueAt t set.tile x.2 0 0 0 0 (dstBlockDim t.kind), x.1)
    let lines := rows.map line
    let y ← Run.drainTo rq c n p dst (s.coreGen n c seed) lines
    let st ← (if dst.fmt = Fm.g16 && sampled then Run.tensorScale rq p dst else pure (.fin false 1 0) : Run Num)
    let idx := lines.flatMap (fun l => (List.range l.2.2.length).map (fun i => l.1 (l.2.1 + i)))
    modify (fun s =>
      let s := (s.setGen n c.id y.2.gen).shadowTile n p c sampled (if sampled then writtenValues dst st y.2 idx else [])
        ((lines.zip y.1).flatMap (fun l => referenceValues l.1.2.1 l.2))
      s.updCmd c.id (fun c => match c.work with
        | .array todo m kv seed => { c with work := .array todo (maxWord m y.2.top) kv seed }
        | _ => c))
  | _ => pure ()

/-- Every tile of a command has passed and been written. -/
def State.arrayDone (s : State) (id : Nat) : Bool :=
  (match s.cmd? id with
   | some c => (match c.work with
     | .array todo _ _ _ => todo.isEmpty
     | _ => false)
   | none => false) &&
  s.cores.all (fun e => e.2.sets.all (fun a => a.cmd != id) && e.2.redo.all (fun r => r.1 != id))

/-- A command whose tiles are all written takes its end: the tensor maximum first (R216, R241). -/
def State.finishArray (s : State) (t : Tmpl) (id : Nat) : State :=
  match s.cmd? id with
  | none => s
  | some c =>
    if !s.arrayDone id then s
    else
      let p := s.polderOf c
      let m := match c.work with
        | .array _ m _ _ => m
        | _ => 0
      let run : Run Unit := if tfAbsmax c.desc then Run.tensorMax (fun _ => reqBd c) id p (tensorDst t c.desc) m else pure ()
      (s.runEnd id run).spanEnd id

/-- A drain waits while a page that it writes is still being copied to (R383), and a sampled tile while the shadow lane works (R243). -/
def State.drainWaits (s : State) (n : Nat) (t : Tmpl) (c : Cmd) (set : AccSet) : Bool :=
  (match c.work with
   | .array _ _ (some r) _ => s.appendWaits r ((List.range set.acc.length).map (fun i => valueAt t set.tile i 0 0 0 0 0))
   | _ => false) || (s.sampled n (s.polderOf c) c && (s.core n).shadow.isSome)

/-- The 192 accumulators of each row of a set as they drain, with what failing cells make of them (R208). -/
def drainRows (defects : List Defect) (set : AccSet) : List (List Word) :=
  set.acc.zipIdx.map (fun (x : List Word × Nat) => applyDefects defects x.2 (x.1 ++ List.replicate (192 - x.1.length) 0))

/-- The verdict on each row (R208, R209). -/
def drainVerdicts (t : Tmpl) (d : Desc) (defects : List Defect) (set : AccSet) : List Nat :=
  ((drainRows defects set).zip (set.chkC.zip set.chkM)).zipIdx.map (fun (x : (List Word × Word × Word) × Nat) =>
    rowVerdict (max (tolFactor (fmtSrc0 d)) (tolFactor (fmtSrc1 d))) (reductionLen t.kind d) x.1.1 (defectC defects x.2 x.1.2.1) x.1.2.2)

/-- A set leaves its core, and its rows that take no part in the comparison are counted (R209). -/
def State.popSet (s : State) (n : Nat) (rest : List AccSet) (verdicts : List Nat) : State :=
  (s.setCore n { s.core n with sets := rest }).bumpFld (Reg.arrAbft n) 15 0 (verdicts.countP (· == 2))

/-- A tile that does not pass is re-executed, or ends its command when it was one already (R210). -/
def State.redoTile (s : State) (n : Nat) (t : Tmpl) (c : Cmd) (set : AccSet) : State :=
  let addr := s.tileAddr t c set.tile
  let s := (s.mismatch n addr set.retry).warnCmd c.id Wn.abftRetry
  if set.retry then s.endArray c.id St.uncorrectable (some addr)
  else s.setCore n { s.core n with redo := (s.core n).redo ++ [(c.id, set.tile)] }

/-- A tile that passes is written (R233); its command ends with its last one, or with the failure of the write. -/
def State.passTile (s : State) (n : Nat) (t : Tmpl) (c : Cmd) (set : AccSet) (acc : List (List Word)) : State :=
  let s := s.runOn c.id (Run.writeTile n t c set acc)
  let on : Bool := match s.cmd? c.id with
    | some c => decide (c.phase = .running)
    | none => false
  if on then s.finishArray t c.id
  else (s.clearArray c.id).spanEnd c.id

/-- A drained set is compared, and then written, re-executed, or the end of its command (R208–R210). -/
def State.drainSet (s : State) (n : Nat) (defects : List Defect) (set : AccSet) (rest : List AccSet) : State :=
  match s.cmd? set.cmd with
  | none => s.setCore n { s.core n with sets := rest }
  | some c =>
    match s.template c, c.phase with
    | some t, .running =>
      if s.drainWaits n t c set then s
      else
        let vs := drainVerdicts t c.desc defects set
        let s := s.popSet n rest vs
        if vs.contains 1 then s.redoTile n t c set
        else s.passTile n t c set (((drainRows defects set).zip set.acc).map (fun x => x.1.take x.2.length))
    | _, _ => s.setCore n { s.core n with sets := rest }

/-! ### The drift value (R245, R246) -/

/-- A completed sample updates D of its polder; a crossing of DRIFT_LIMIT is counted and recorded, and flags the next command of
the polder to commit. -/
def State.driftUpdate (s : State) (p : Nat) (sh : Shadow) (e : Word) : State :=
  let old := s.reg (Reg.precDrift p)
  let new := if SMap.get (fun _ => false) s.drifted p then
      ((f32 old).fadd (((f32 e).fsub (f32 old)).fmul (.fin false 1 (-4)))).bits32
    else e
  let s := { s with drifted := SMap.set (fun _ => false) s.drifted p true }
  let s := s.setReg (Reg.precDrift p) new
  let s := if (f32 (s.reg (Reg.precDriftPeak p))).lt (f32 new) then s.setReg (Reg.precDriftPeak p) new else s
  let limit := BitVec.ofNat 32 (((s.formatRec p).map (fun r => r.driftLimit)).getD 0)
  let above := s.bit (Reg.precDriftStatus p) 0
  let limitN := f32 limit
  if (f32 old).le limitN && limitN.lt (f32 new) && !above then
    let s := (s.setBit (Reg.precDriftStatus p) 0 true).bumpFld (Reg.precDriftStatus p) 31 16 1
    let s := { s with sentinel := SMap.set (fun _ => false) s.sentinel p true }
    s.event 0x0304 (Src.polder p) (some sh.ctx) (dataOf [(0, new.toNat), (4, limit.toNat), (8, sh.slot)])
  else if (f32 new).le (limitN.mul (.fin false 3 (-2))) then s.setBit (Reg.precDriftStatus p) 0 false
  else s

/-- D, its peak and ABOVE of a polder cleared (R247, R258). -/
def State.clearDrift (s : State) (p : Nat) : State :=
  let s := (s.setReg (Reg.precDrift p) 0).setReg (Reg.precDriftPeak p) 0
  let s := s.setBit (Reg.precDriftStatus p) 0 false
  { s with drifted := SMap.set (fun _ => false) s.drifted p false }

/-! ### ELEMENTWISE (R261–R263) -/

/-- x / (1 + e^−y), unrounded. -/
def sigmoidTimes (x y : Num) : Num := x.quot ((Num.fin false 1 0).add y.flip.exp)
/-- The argument y of GELU's x / (1 + e^−y), which is 0.5 x (1 + tanh(y / 2)): y = 2 × 0.797885 (x + 0.044715 x³). -/
def geluArg (x : Num) : Num :=
  let x3 := (x.mul (x.mul x)).mul ((Num.fin false 44715 0).quot (.fin false 1000000 0))
  (x.add x3).mul ((Num.fin false 1595770 0).quot (.fin false 1000000 0))

/-- One element of an operation that works element by element. `pick` says which value within 2 units in the last place it takes (log
entry 16); where the formula gives no value, −∞ for SILU and GELU, it is a free one. -/
def vecElem (vop : Nat) (pick : Nat) (x y : Num) : Num :=
  if vop = 0 then x.fp32
  else if vop = 1 then x.fadd y
  else if vop = 2 then x.fmul y
  else if vop = 3 then (x.max y).fp32
  else if vop = 4 then (x.min y).fp32
  else if vop = 5 then (if Num.zero.lt x then x.fp32 else Num.zero)
  else if x.isNan then .nan
  else if vop = 8 then x.exp.nearUlp (Config.freeNat pick)
  else if vop = 9 then
    (if x.isZero then .inf x.neg?
     else if x.neg? then .nan
     else if x.isFin then ((Num.fin false 1 0).quot x.sqrt).nearUlp (Config.freeNat pick) else .zero)
  else if x.isFin then (sigmoidTimes x (if vop = 6 then x else geluArg x)).nearUlp (Config.freeNat pick)
  else if x.neg? then f32 (Config.freeWord pick)
  else x

/-- e^(x − m) / Σ e^(x − m) over a row, the sum formed in FP32 in ascending order (R262, R263); a row whose largest element is infinite
has no such value, and its results are free. -/
def softmaxRow (ctr : Nat) (xs : List Num) : List Num :=
  let m := xs.foldl Num.max (.inf true)
  if !m.isFin then xs.zipIdx.map (fun x => f32 (Config.freeWord (ctr + x.2)))
  else
    let es := xs.map (fun x => (x.sub m).exp)
    let sum := es.zipIdx.foldl (fun (a : Num) e => a.fadd (e.1.nearUlp (Config.freeNat (ctr + xs.length + e.2)))) Num.zero
    es.zipIdx.map (fun e => (e.1.quot sum).nearUlp (Config.freeNat (ctr + e.2)))

/-- x × g / √(Σx² / ROW_LEN + 2^−20) (R262, R263): the sum is formed in FP32 in ascending order; whether a square is rounded before it is
added is open (log entry 16). A NaN gain touches its own element alone; an infinity over an infinity is a free value. -/
def rmsnormRow (ctr : Nat) (xs gs : List Num) : List Num :=
  let fused := Config.freeNat (ctr + xs.length) % 2 = 0
  let sum := xs.foldl (fun (a : Num) x => if fused then (a.add (x.mul x)).fp32 else a.fadd (x.fmul x)) Num.zero
  let root := ((sum.quot (.fin false xs.length 0)).add (.fin false 1 (-20))).sqrt
  (xs.zip gs).zipIdx.map (fun x =>
    let y := x.1.1.mul x.1.2
    if x.1.2.isNan then .nan
    else if !root.isFin then (if y.isFin then .fin y.neg? 0 0 else f32 (Config.freeWord (ctr + x.2)))
    else if y.isNan then f32 (Config.freeWord (ctr + x.2))
    else if !y.isFin then y
    else (y.quot root).nearUlp (Config.freeNat (ctr + x.2)))

/-- One row of a row operation; a NaN in the row makes all of it NaN (R263). -/
def vecRow (vop ctr : Nat) (xs gs : List Num) : List Num :=
  if xs.any Num.isNan then xs.map (fun _ => Num.nan)
  else if vop = 10 then softmaxRow ctr xs else rmsnormRow ctr xs gs

/-- Elements per core cycle of an operation (R262). -/
def vecRate (vop : Nat) : Nat := if vop < 6 then 64 else 16

/-- One piece of an ELEMENTWISE command on a core: its sources are read and dequantised in full, and its results pass through
steps 3 to 6 of R233. -/
def Run.vecPiece (t : Tmpl) (c : Cmd) (n polder : Nat) (t0 t1 : Num) (start len gen : Nat) : Run (Nat × Num) := do
  let d := c.desc
  let rq := reqCore c n
  let a := tensorSrc0 t d
  let b := tensorSrc1 t d
  let idx := (List.range len).map (fun i => start + i)
  let m0 ← Run.gather rq polder (idx.flatMap (fun i => a.needs [i]))
  let yIdx := fun i => if t.vop = 11 then i % max 1 (rowLen d) else i
  let m1 ← (if readsSrc1 t.vop then Run.gather rq polder (idx.flatMap (fun i => b.needs [yIdx i])) else pure [] : Run Mem)
  let xs := idx.map (fun i => a.value m0 t0 [i])
  let ys := idx.map (fun i => if readsSrc1 t.vop then b.value m1 t1 [yIdx i] else Num.zero)
  let ctr := (← get).freeCtr
  modify (fun s => { s with freeCtr := ctr + 4 * len + 4 })
  let out := if isRowOp t.vop then
      (((chunks (rowLen d) xs).zip (chunks (rowLen d) ys)).zipIdx).flatMap (fun r => vecRow t.vop (ctr + 3 * rowLen d * r.2) r.1.1 r.1.2)
    else (xs.zip ys).zipIdx.map (fun p => vecElem t.vop (ctr + p.2) p.1.1 p.1.2)
  let y ← Run.drainTo rq c n polder (tensorDst t d) gen [((fun j => [j]), start, out)]
  modify (fun s => s.addCnt (Reg.coreCntVec n) (cdiv len (vecRate t.vop)))
  return (y.2.gen, y.2.top)

/-- ELEMENTWISE on every participating core (R198, R262), then the tensor maximum. -/
def Run.elementwise (t : Tmpl) (c : Cmd) (polder : Nat) : Run Unit := do
  let s ← get
  let pieces := coreTiles t c.desc (s.partCores polder t.cores) (innerTiles t)
  let seed := s.nat (Reg.precSeed c.ctx)
  let rq := reqBd c
  let t0 ← Run.tensorScale (fun _ => rq) polder (tensorSrc0 t c.desc)
  let t1 ← (if readsSrc1 t.vop then Run.tensorScale (fun _ => rq) polder (tensorSrc1 t c.desc) else pure (.fin false 1 0) : Run Num)
  let mut top := Num.zero
  for x in pieces do
    let mut gen := genSeed seed x.1 c.slot
    for tile in x.2 do
      let r := rangeOf tile 10
      let y ← Run.vecPiece t c x.1 polder t0 t1 r.1 r.2 gen
      gen := y.1
      top := top.max y.2
    modify (fun s => s.setGen x.1 c.id gen)
  if tfAbsmax c.desc then Run.tensorMax (fun _ => rq) c.id polder (tensorDst t c.desc) top.bits32

end Sys2Proof.Machine
end

