-- ==== Sys2Proof/Machine/AttnMath.lean ====
section
/-! DEFINITION. What attention computes (R394, R396, R401). The manual fixes the formulas and that keys are taken in any order with
online rescaling; the order of keys and of partial sums, the tiles between two rescalings and the last places of exponentials,
logarithms and quotients are choices that `pick` makes (log entry 17). -/
namespace Sys2Proof.Machine

/-- A list in an order that `pick` chooses; the number is the length of the list. -/
def shuffle {α : Type} (pick : Nat → Nat) : Nat → List α → List α
  | 0, l => l
  | k + 1, l =>
    let i := pick k % max 1 l.length
    match l[i]? with
    | some x => x :: shuffle pick k (l.eraseIdx i)
    | none => []

/-- d^−1/2 in FP32, rounded once (log entry 18). -/
def rsqrtDim (d : Nat) : Num :=
  let n := 2 ^ 100 / d
  let r := sqrtBits n 51 0
  (Num.fin false (2 * r + b2n (r * r * d != 2 ^ 100)) (-51)).fp32

/-- A sum of products in FP32, in an order that `pick` chooses. -/
def dotFree (pick : Nat → Nat) (a b : List Num) : Num :=
  (shuffle pick (min a.length b.length) (a.zip b)).foldl (fun s x => (s.add (x.1.mul x.2)).fp32) Num.zero

/-- The scaled score of a query row and a key (R394). -/
def scoreOf (pick : Nat → Nat) (q k : List Num) : Num := (rsqrtDim q.length).fmul (dotFree pick q k)

/-- A value rounded to BF16 to nearest even, as probabilities enter the arrays (R394). -/
def toBf16 (x : Num) : Num := if x.isNan then .nan else elemValue Fm.bf16 ((convPlain Fm.bf16 false 0 0 x).codes.getD 0 0)

/-- e^(x − m) in FP32 (R263, R345). -/
def expDiff (pick : Nat) (x m : Num) : Num := (x.fsub m).exp.nearUlp pick

/-- The running maximum, sum and weighted values of a row (R394). -/
structure Online where
  m : Num
  l : Num
  o : List Num
  deriving DecidableEq, Repr

/-- Before any key. -/
def Online.start (dim : Nat) : Online := ⟨.inf true, .zero, List.replicate dim .zero⟩

/-- A tile of keys, each as its score and its value, taken in: what has been summed is rescaled to the new maximum. -/
def Online.take (a : Online) (pick : Nat → Nat) (arrays : Bool) (tile : List (Num × List Num)) : Online :=
  let m := tile.foldl (fun x t => x.max t.1) a.m
  let f := expDiff (pick 0) a.m m
  let ps := tile.zipIdx.map (fun t => (expDiff (pick (t.2 + 1)) t.1.1 m, t.1.2))
  ⟨m, ps.foldl (fun s p => s.fadd p.1) (a.l.fmul f),
   a.o.zipIdx.map (fun x => ps.foldl (fun s p =>
     (s.add ((if arrays then toBf16 p.1 else p.1).mul (p.2.getD x.2 .zero))).fp32) (x.1.fmul f))⟩

/-- Keys taken in tile by tile; `pick` says how long each tile is. The number bounds the tiles. -/
def Online.takeAll (pick : Nat → Nat) (arrays : Bool) : Nat → Online → List (Num × List Num) → Online
  | 0, a, _ => a
  | k + 1, a, keys =>
    if keys.isEmpty then a
    else
      let n := 1 + pick (2 ^ 40 * k) % keys.length
      Online.takeAll pick arrays k (a.take (fun i => pick (2 ^ 40 * k + 1 + i)) arrays (keys.take n)) (keys.drop n)

/-- A row's keys and values attended: the score of each and the online sums. NaN scores make the whole row NaN (R394). -/
def attendRow (pick : Nat → Nat) (arrays : Bool) (dim : Nat) (q : List Num) (kv : List (List Num × List Num)) : Online :=
  let scored := kv.zipIdx.map (fun x => (scoreOf (fun i => pick (2 ^ 60 + 512 * x.2 + i)) q x.1.1, x.1.2))
  if scored.any (fun x => x.1.isNan) then ⟨.nan, .nan, List.replicate dim .nan⟩
  else Online.takeAll pick arrays kv.length (Online.start dim) (shuffle (fun i => pick (2 ^ 61 + i)) kv.length scored)

/-- m, lse and O of a row from its sums (R394, R401); a row without a key has m and lse −∞ and O 0. -/
def Online.finish (a : Online) (pick : Nat → Nat) : Num × Num × List Num :=
  if a.m = .inf true && a.l.isZero then (.inf true, .inf true, a.o.map (fun _ => Num.zero))
  else if a.m.isNan then (.nan, .nan, a.o.map (fun _ => Num.nan))
  else (a.m, a.m.fadd (a.l.ln.nearUlp (pick 0)), a.o.zipIdx.map (fun x => (x.1.quot a.l).nearUlp (pick (x.2 + 1))))

/-- The combiner of a decode (R401): m = max m_x, l = Σ l_x e^(m_x − m), and Σ o_x e^(m_x − m), over partials in an order that `pick`
chooses. -/
def Online.combine (pick : Nat → Nat) (dim : Nat) (ps : List Online) : Online :=
  let m := ps.foldl (fun x p => x.max p.m) (.inf true)
  if m = .inf true && ps.all (fun p => p.l.isZero) then Online.start dim
  else
    let xs := (shuffle (fun i => pick (2 ^ 40 + i)) ps.length ps.zipIdx).map (fun p => (p.1, expDiff (pick p.2) p.1.m m))
    ⟨m, xs.foldl (fun s p => s.fadd (p.1.l.fmul p.2)) .zero,
     (List.range dim).map (fun i => xs.foldl (fun s p => s.fadd ((p.1.o.getD i .zero).fmul p.2)) .zero)⟩

/-! ### The backward pass (R396) -/

/-- What one row and one key it attends give: P and dS. -/
structure BackTerm where
  row : Nat
  key : Nat × Nat
  p : Num
  ds : Num
  deriving DecidableEq, Repr

/-- P and dS of a row and a key (R396): s and P are recomputed, D is the row's Σ dO × O. -/
def backTerm (pick : Nat → Nat) (row : Nat) (key : Nat × Nat) (q dO k v : List Num) (lse d : Num) : BackTerm :=
  let p := expDiff (pick 0) (scoreOf (fun i => pick (1024 + i)) q k) lse
  ⟨row, key, p, p.fmul ((dotFree (fun i => pick (2048 + i)) dO v).fsub d)⟩

/-- An accumulation of `w × x` over terms, lane by lane, in FP32 from a starting row (R396). -/
def accumRow (start : List Num) (terms : List (Num × List Num)) : List Num :=
  start.zipIdx.map (fun x => terms.foldl (fun s t => (s.add (t.1.mul (t.2.getD x.2 .zero))).fp32) x.1)

end Sys2Proof.Machine
end

