-- ==== Sys2Proof/Machine/NbuOps.lean ====
section
/-! DEFINITION. Near-bank units: the checks of NBU_RUN (R334, R335) and the dispatcher's names (R338, R355). -/
namespace Sys2Proof.Machine

/-! ### NBU_RUN (R334, R335) -/

/-- Columns that an NBU_RUN names. -/
def nbuCols (d : Desc) : List Nat := (List.range (dfld d 0x14 2)).map (fun i => dbyte d 0x12 + i)
/-- NBUs that an NBU_RUN names: (column, bank). -/
def nbuNamed (d : Desc) : List (Nat × Nat) := (nbuCols d).flatMap (fun c => (bitsOf 32 (dfld d 0x18 4)).map (fun b => (c, b)))

/-- The program of the image that a descriptor names, as micro-ops. -/
def State.program (s : State) (n : Nat) : Option (List DWord) :=
  s.image.bind (fun im => (im.nbuCode.find? (fun b => b.num == n)).map (fun b => (chunks 8 b.body).map (fun x => BitVec.ofNat 64 (leNat x))))

/-- The field rules of NBU_RUN (R335 step 3). -/
def State.nbuFields (s : State) (d : Desc) : Bool :=
  let so := dfld d 0x1C 4
  let sl := dfld d 0x20 4
  let dof := dfld d 0x24 4
  let dl := dfld d 0x28 4
  (s.program (dfld d 0x10 2)).isSome && decide (1 ≤ dfld d 0x14 2) && decide (dbyte d 0x12 + dfld d 0x14 2 ≤ 256) &&
  decide (dfld d 0x18 4 ≠ 0) && [so, sl, dof, dl].all (fun x => x % 2048 == 0) &&
  decide (so + sl ≤ 0x30000000) && decide (dof + dl ≤ 0x30000000) && decide (dl ≠ 0)

/-- The checks of NBU_RUN at fetch (R335, R358). -/
def State.nbuCheck (s : State) (polder : Nat) (d : Desc) : Nat :=
  if !s.nbuFields d then St.badDescriptor
  else if !s.cap 0 then St.absentUnit
  else if (nbuCols d).all (fun c => s.granted polder c (dfld d 0x1C 4) (dfld d 0x20 4) 5 &&
      s.granted polder c (dfld d 0x24 4) (dfld d 0x28 4) 7) then St.ok else St.notPermitted

/-! ### Dispatch (R338, R355) -/

/-- NBU commands that run: each holds NBUs. -/
def State.nbuRunning (s : State) : Nat := s.cmds.countP (fun c => s.nbus.any (fun e => match e.2 with
  | some q => q.cmd == c.id
  | none => false))

/-- The first retired byte of the declared ranges of an NBU_RUN (R355): its internal address. -/
def State.nbuRetired (s : State) (d : Desc) : Option Nat :=
  let bytes : Nat → Nat → Nat → List Nat := fun c base len => (List.range (len / 2048)).filterMap (fun i =>
    let p := base + 2048 * i
    let b := cellBankIdx (s.cellOf c p)
    if (dfld d 0x18 4).testBit b && s.retiredAt c p then some (2 ^ 32 * c + p) else none)
  (((nbuCols d).flatMap (fun c => bytes c (dfld d 0x1C 4) (dfld d 0x20 4) ++ bytes c (dfld d 0x24 4) (dfld d 0x28 4)))).head?

/-- The state of an NBU at the start of a sequence (R337). -/
def newSeq (id col bank : Nat) (prog : List DWord) (sb sl db dl : Nat) (args : List Word) : NbuSeq :=
  { cmd := id, col := col, bank := bank, deps := List.replicate 16 [], stored := [], clashed := [], row := none,
    linked := false, served := 0, ended := false, bad := [], gen := 0,
    vregs := List.replicate 16 (List.replicate 16 0), ptrs := List.replicate 8 0, loops := List.replicate 4 0, pc := 0,
    prog := prog, srcBase := sb, srcLen := sl, dstBase := db, dstLen := dl, extra := [], args := args }

/-- Sequences begin on the named NBUs. -/
def State.beginSeqs (s : State) (names : List (Nat × Nat)) (f : Nat → Nat → NbuSeq) : State :=
  names.foldl (fun s n => s.setNbu n.1 n.2 (some (f n.1 n.2))) s

end Sys2Proof.Machine
end

