-- ==== Sys2Proof/Machine/AttnOps.lean ====
section
/-! DEFINITION. Attention: fields and checks (R391), the keys attended and the page selector (R393, R397, R398), leases (R384),
and the results, whose order of keys and rounding the manual leaves open (R394, R396, R401; log entry 17). -/
namespace Sys2Proof.Machine

/-- SEQ of an attention descriptor. -/
def atSeq (d : Desc) : Nat := dfld d 0x28 2
/-- LAYER. -/
def atLayer (d : Desc) : Nat := dfld d 0x2A 2
/-- KV_HEAD. -/
def atHead (d : Desc) : Nat := dbyte d 0x2C
/-- Q_PER_KV. -/
def atPer (d : Desc) : Nat := dbyte d 0x2D
/-- FMT_Q. -/
def atFmt (d : Desc) : Nat := dbyte d 0x2E
/-- AFLAGS.SELECT. -/
def atSelect (d : Desc) : Bool := bit (dbyte d 0x2F) 0
/-- AFLAGS.CAUSAL. -/
def atCausal (d : Desc) : Bool := bit (dbyte d 0x2F) 1
/-- AFLAGS.CORE_PATH. -/
def atCorePath (d : Desc) : Bool := bit (dbyte d 0x2F) 2
/-- KEY_FORMATS. -/
def atKeyFormats (d : Desc) : Nat := dfld d 0x30 2
/-- SEL_K. -/
def atSelK (d : Desc) : Nat := dfld d 0x32 2
/-- Q_POS. -/
def atPos (d : Desc) : Nat := dfld d 0x34 4
/-- Q_COUNT. -/
def atCount (d : Desc) : Nat := dfld d 0x38 2
/-- SINKS. -/
def atSinks (d : Desc) : Nat := dfld d 0x3A 2
/-- WINDOW. -/
def atWindow (d : Desc) : Nat := dfld d 0x3C 4
/-- R: query rows. -/
def atRows (d : Desc) : Nat := atCount d * atPer d
/-- The bits of KEY_FORMATS that R364 lets a page carry. -/
def pageFormats : Nat := 0x6FA

/-- The field rules of R391 that need no sequence, and the checks of its formats and rights (R371, R399). -/
def State.attnCheck (s : State) (polder : Nat) (bwd : Bool) (d : Desc) : Nat :=
  let sel := ((s.attnRec polder).map (fun r => r.selKMax)).getD 0
  if !(atFmt d = Fm.bf16 || atFmt d = Fm.fp16) || decide (atKeyFormats d = 0) || decide (atKeyFormats d ||| pageFormats ≠ pageFormats) ||
      decide (atCount d = 0) || decide (atPer d = 0) || decide (64 < atPer d) ||
      ((s.attnRec polder).isSome && decide (sel < atSelK d)) || (!atSelect d && decide (atSelK d ≠ 0)) ||
      (bwd && (atSelect d || decide (dfld d 0x20 8 = 0))) then St.badDescriptor
  else if atSelect d && !s.cap 1 then St.absentUnit
  else if (s.attnRec polder).isNone then St.notPermitted
  else if s.formatOk polder (atFmt d) && (bitsOf 16 (atKeyFormats d)).all (s.formatOk polder) then St.ok else St.notPermitted

/-! ### Pages as attention meets them -/

/-- A page of a table at the command's start: its number, format, first position, COUNT, HFLAGS and DIGEST_SCALE (R384). -/
structure PageView where
  page : Nat
  fmt : Nat
  start : Nat
  count : Nat
  flags : Nat
  scale : Nat
  deriving DecidableEq, Repr

/-- The view of a page. -/
def Run.pageView (rq : Req) (p n : Nat) : Run PageView := do
  let f ← Run.hdr rq p n 0 1
  let fl ← Run.hdr rq p n 1 1
  let ct ← Run.hdr rq p n 6 2
  let st ← Run.hdr rq p n 8 4
  let sc ← Run.hdr rq p n 0x11 1
  return ⟨n, f, st, ct, fl, sc⟩

/-- The views of a table. -/
def Run.pageViews (rq : Req) (p : Nat) : List Nat → Run (List PageView)
  | [] => pure []
  | n :: ns => do
    let v ← Run.pageView rq p n
    return v :: (← Run.pageViews rq p ns)

/-- Bytes read without the channels, as an NBU reads its bank (R348). -/
def Run.nread (rq : Req) (addr n : Nat) : Run (List Byte) := fun s =>
  let col := addrCore addr
  let r := (pieces addr n).foldl (fun (a : List Byte × Option Nat × State) x => match a.2.1 with
    | some _ => a
    | none =>
      let cell := a.2.2.cellOf col (addrOff x.2.1)
      match (a.2.2.openFor col cell).readBlock rq (x.2.1 / 64 * 64) col cell false with
      | (some bs, s) => (a.1 ++ lslice bs (cell % 64) x.2.2, none, s.addCnt Reg.nbuCntBytes x.2.2)
      | (none, s) => (a.1, some (x.2.1 / 64 * 64), s.setBit Reg.nbuEvent 3 true)) ([], none, s)
  match r.2.1 with
  | some a => .error ⟨St.uncorrectable, some a, 0, none⟩ r.2.2
  | none => .ok r.1 r.2.2

/-- Bytes written so. -/
def Run.nwrite (rq : Req) (id addr : Nat) (bs : List Byte) : Run Unit := fun s =>
  let col := addrCore addr
  let r := (pieces addr bs.length).foldl (fun (a : Option Nat × State) x => match a.1 with
    | some _ => a
    | none =>
      let cell := a.2.cellOf col (addrOff x.2.1)
      match (a.2.openFor col cell).writeBlock rq (x.2.1 / 64 * 64) col cell (cell % 64) (lslice bs x.1 x.2.2) with
      | (true, s) => (none, (s.wroteCmd id).addCnt Reg.nbuCntBytes x.2.2)
      | (false, s) => (some (x.2.1 / 64 * 64), s.setBit Reg.nbuEvent 3 true)) (none, s)
  match r.1 with
  | some a => .error ⟨St.uncorrectable, some a, 0, none⟩ r.2
  | none => .ok () r.2

/-- The key or value of a slot, dequantised to FP32 (R226, R366, R394), read through `get`. -/
def Run.pageVec (get : Nat → Nat → Run (List Byte)) (p d page fmt slot : Nat) (key : Bool) : Run (List Num) := do
  let k ← Run.kvp p
  let w := fmtBits fmt
  let half := if key then 0 else 8192
  let bs ← get (k.dataAddr page + half + slot * d * w / 8) (d * w / 8)
  let sc ← (if pageMx fmt then get (k.hdrAddr page + (if key then 0x540 else 0x740) + slot * (d / 32)) (d / 32) else pure [] : Run (List Byte))
  let n := leNat bs
  return (List.range d).map (fun i =>
    let x := elemValue fmt (n / 2 ^ (w * i) % 2 ^ w)
    (if pageMx fmt then x.mul (e8m0 (lbyte sc (i / 32))) else x).fp32)

/-! ### The keys attended (R393, R398) -/

/-- L(q) in FP32 (R369). -/
def digLevel (scale q : Nat) : Num :=
  (Num.fin (decide (2 * q < 15)) (if 2 * q < 15 then 15 - 2 * q else 2 * q - 15) ((scale : Int) - 127)).fdiv (.fin false 15 0)

/-- The bound of a page for one query row (R397). -/
def rowBound (d scale : Nat) (dig : List Byte) (q : List Num) : Num :=
  (rsqrtDim d).fmul ((q.zip dig).foldl (fun a x =>
    a.fadd ((x.1.fmul (digLevel scale (x.2.toNat % 16))).max (x.1.fmul (digLevel scale (x.2.toNat / 16))))) Num.zero)

/-- The bound of a page for one query position: the largest over its rows; +∞ for an UNBOUNDED page. A bound that is NaN ranks
anywhere: a free value stands for it. -/
def pageBound (d : Nat) (v : PageView) (dig : List Byte) (rows : List (List Num)) (free : Word) : Num :=
  if bit v.flags 2 then .inf false
  else
    let b := match rows.map (rowBound d v.scale (dig.take d)) with
      | x :: xs => xs.foldl Num.max x
      | [] => .zero
    if b.isNan then (match f32 free with
      | .nan => .inf false
      | x => x) else b

/-- A page before another in the selector's ranking: larger bound, then lower START_POS (R398). -/
def rankBefore (a b : PageView × Num) : Bool := b.2.lt a.2 || (!a.2.lt b.2 && decide (a.1.start ≤ b.1.start))

/-- The views ranked by an insertion sort. -/
def rankPages (l : List (PageView × Num)) : List (PageView × Num) :=
  l.foldl (fun acc x => acc.takeWhile (fun y => rankBefore y x) ++ x :: acc.dropWhile (fun y => rankBefore y x)) []

/-- A page holds some position of `[lo, hi]`. -/
def PageView.meets (v : PageView) (lo hi : Nat) : Bool := decide (v.start ≤ hi) && decide (lo < v.start + v.count)

/-- The slots of a page whose positions pass a test. -/
def PageView.slots (v : PageView) (f : Nat → Bool) : List (Nat × Nat) :=
  ((List.range v.count).filter (fun t => f (v.start + t))).map (fun t => (v.page, t))

/-- Whether position `k` is attended from `p` without selection (R393). -/
def attends (d : Desc) (p k : Nat) : Bool :=
  if atCausal d && decide (p < k) then false
  else if atWindow d = 0 then true
  else decide (k < atSinks d) || (decide (p < k + atWindow d) && decide (k < p + atWindow d))

/-- The pages selected for position `p` (R398): those of the sinks, those of the window, and the SEL_K best of the rest. -/
def selectPages (d : Desc) (p : Nat) (vs : List (PageView × Num)) : List Nat :=
  let forced := fun (v : PageView) => (decide (0 < atSinks d) && v.meets 0 (atSinks d - 1)) ||
    (decide (0 < atWindow d) && v.meets (p + 1 - atWindow d) p)
  let rest := vs.filter (fun x => !forced x.1 && (!atCausal d || decide (x.1.start ≤ p)))
  let best := (rankPages rest).take (atSelK d)
  (vs.filter (fun x => forced x.1)).map (fun x => x.1.page) ++ best.map (fun x => x.1.page)

/-- One query row, from the bytes of Q. -/
def queryRow (d : Desc) (dim : Nat) (q : List Byte) (r : Nat) : List Num :=
  (List.range dim).map (fun i => elemValue (atFmt d) (lsub q (2 * (r * dim + i)) 2))

/-- Digests of a list of pages. -/
def Run.digests (rq : Req) (p : Nat) : List PageView → Run (List (List Byte))
  | [] => pure []
  | v :: vs => do
    let b ← Run.pread rq ((← Run.kvp p).hdrAddr v.page + 0x440) 256
    return b :: (← Run.digests rq p vs)

/-- For each query position the (page, slot) it attends (R393, R398). -/
def Run.attended (rq : Req) (p dim : Nat) (d : Desc) (q : List Byte) (vs : List PageView) : Run (List (List (Nat × Nat))) := do
  if atSelect d then
    let digs ← Run.digests rq p vs
    modify (fun s => s.addCnt Reg.kvpCntScored (vs.length * atCount d))
    let s ← get
    set { s with freeCtr := s.freeCtr + vs.length * atCount d }
    return (List.range (atCount d)).map (fun i =>
      let pos := atPos d + i
      let rows := (List.range (atPer d)).map (fun h => queryRow d dim q (i * atPer d + h))
      let scored := (vs.zip digs).zipIdx.map (fun x =>
        (x.1.1, pageBound dim x.1.1 x.1.2 rows (Config.freeWord (s.freeCtr + i * vs.length + x.2))))
      let sel := selectPages d pos scored
      (vs.filter (fun v => sel.contains v.page)).flatMap (fun v => v.slots (fun k => !(atCausal d && decide (pos < k)))))
  else
    return (List.range (atCount d)).map (fun i => vs.flatMap (fun v => v.slots (attends d (atPos d + i))))

/-- The pages of a plan, in table order. -/
def planPages (vs : List PageView) (plan : List (List (Nat × Nat))) : List PageView :=
  vs.filter (fun v => plan.any (fun l => l.any (fun x => x.1 == v.page)))

/-- What the start of an attention command settles: the sequence, the plan, and the pages it reads. -/
structure AttnStart where
  q : Seq
  plan : List (List (Nat × Nat))
  pages : List PageView
  deriving DecidableEq, Repr

/-- The start of an attention command (R384, R391, R392): tables resolved, pages selected, formats compared, leases taken. -/
def Run.attnStart (rq : Req) (c : Cmd) (p : Nat) : Run AttnStart := do
  let d := c.desc
  let q ← Run.seq p (atSeq d)
  Run.need (decide (atLayer d < q.layers) && decide (atHead d < q.kvHeads)) St.badDescriptor
  Run.pageNeed q.active Pr.notActive none
  let back := decide (dbyte d 0 = 0x11)
  Run.mayTouch rq.reach p (c.addr 0x10) (2 * atRows d * q.headDim) 1
  if !back then Run.mayTouch rq.reach p (c.addr 0x18) (2 * atRows d * q.headDim) 2
  if dfld d 0x20 8 ≠ 0 then Run.mayTouch rq.reach p (c.addr 0x20) (8 * atRows d) (if back then 1 else 2)
  let t ← Run.table rq p q (atLayer d) (atHead d)
  let vs ← Run.pageViews rq p t
  let qs ← (if atSelect d then Run.read (fun _ => rq) p (c.addr 0x10) (2 * atRows d * q.headDim) else pure [] : Run (List Byte))
  let plan ← Run.attended rq p q.headDim d qs vs
  let pages := planPages vs plan
  match pages.find? (fun v => !(atKeyFormats d).testBit v.fmt) with
  | some v => throw ⟨St.keyFormat, none, 0, some v.page⟩
  | none => do
    Run.forAll p KvPolder.lease (pages.map (fun v => v.page))
    modify (fun s => s.addCnt Reg.kvpCntPagesRead pages.length)
    return ⟨q, plan, pages⟩

/-! ### Results -/

/-- The choices of one command's row, or of what stands in its place, from the free values (log entry 17). -/
def rowPick (ctr r : Nat) (i : Nat) : Nat := Config.freeNat (ctr + 2 ^ 80 * r + i)

/-- The free values of a command's rows are used up. -/
def Run.usePicks (rows : Nat) : Run Unit := modify (fun s => { s with freeCtr := s.freeCtr + 2 ^ 80 * (rows + 2) })

/-- The keys and values of a plan's entry, through `get`. -/
def Run.pairs (get : Nat → Nat → Run (List Byte)) (p dim : Nat) (pages : List PageView) : List (Nat × Nat) → Run (List (List Num × List Num))
  | [] => pure []
  | x :: xs => do
    let f := ((pages.find? (fun v => v.page == x.1)).map (fun v => v.fmt)).getD Fm.bf16
    let k ← Run.pageVec get p dim x.1 f x.2 true
    let v ← Run.pageVec get p dim x.1 f x.2 false
    return (k, v) :: (← Run.pairs get p dim pages xs)

/-- O and STATS of rows written (R391, R394): O rounded to FMT_Q under R238, its NaNs and its rounding bits free. -/
def Run.attnWrite (rq : Nat → Req) (c : Cmd) (p : Nat) (rows : List (Num × Num × List Num)) : Run Unit := do
  let d := c.desc
  let base := (← get).freeCtr
  let os := rows.flatMap (fun r => r.2.2)
  let cs := os.zipIdx.map (fun x => convPlain (atFmt d) c.stochastic (Config.freeWord (base + 2 * x.2)).toNat (Config.freeWord (base + 2 * x.2 + 1)) x.1)
  let ms := rows.flatMap (fun r => [r.1, r.2.1])
  modify (fun s => { s with freeCtr := base + 2 * os.length + ms.length + 1 })
  if cs.any (fun x => x.warn) then modify (fun s => s.warnCmd c.id Wn.saturated)
  Run.write rq c.id p (c.addr 0x18) (cs.flatMap (fun x => leBytes 2 (x.codes.getD 0 0)))
  if dfld d 0x20 8 ≠ 0 then
    Run.write rq c.id p (c.addr 0x20)
      (ms.zipIdx.flatMap (fun x => leBytes 4 (match x.1 with
        | .nan => nanBits Fm.fp32 (Config.freeWord (base + 2 * os.length + x.2))
        | y => y.bits32.toNat)))

/-- The query rows' sums over the keys they attend, position by position (R394); `arrays` says that they are formed in the arrays. -/
def Run.attnRows (get' : Nat → Nat → Run (List Byte)) (ctr : Nat) (arrays : Bool) (c : Cmd) (p dim : Nat) (pages : List PageView) (qs : List Byte) :
    List (List (Nat × Nat)) → Nat → Run (List Online)
  | [], _ => pure []
  | l :: ls, i => do
    let kv ← Run.pairs get' p dim pages l
    let rows := (List.range (atPer c.desc)).map (fun h =>
      let r := i * atPer c.desc + h
      attendRow (rowPick ctr r) arrays dim (queryRow c.desc dim qs r) kv)
    return rows ++ (← Run.attnRows get' ctr arrays c p dim pages qs ls (i + 1))

/-- ATTN_FWD on the cores (R394). -/
def Run.attnCore (rq : Req) (c : Cmd) (p : Nat) (a : AttnStart) : Run Unit := do
  let dim := a.q.headDim
  let qs ← Run.read (fun _ => rq) p (c.addr 0x10) (2 * atRows c.desc * dim)
  let ctr := (← get).freeCtr
  Run.usePicks (2 * atRows c.desc)
  let rows ← Run.attnRows (fun x n => Run.pread rq x n) ctr true c p dim a.pages qs a.plan 0
  Run.attnWrite (fun _ => rq) c p (rows.zipIdx.map (fun x => x.1.finish (rowPick ctr (atRows c.desc + x.2))))

/-! ### The NBU path (R400, R401) -/

/-- ATTN_FWD runs on the NBUs (R400). -/
def State.nbuPath (s : State) (d : Desc) : Bool := s.cap 0 && !atCorePath d && decide (atRows d ≤ 32)

/-- The NBU that a page's data lies under: (column, bank). -/
def State.pageNbu (s : State) (k : KvPolder) (page : Nat) : Nat × Nat :=
  let a := k.dataAddr page
  (addrCore a, cellBankIdx (s.cellOf (addrCore a) (addrOff a)))

/-- The NBUs of a decode: those of the pages it reads. -/
def State.attnNbus (s : State) (p : Nat) (pages : List Nat) : List (Nat × Nat) := (pages.map (s.pageNbu (s.kvp p))).eraseDups

/-- Where an NBU's partial lies: the decode scratch of the lowest data device page of the command in its bank. -/
def State.partialAddr (s : State) (p : Nat) (pages : List Nat) (n : Nat × Nat) : Nat :=
  let k := s.kvp p
  let ds := (pages.filter (fun x => s.pageNbu k x == n)).map (fun x => k.dataAddr x / 0x200000 * 0x200000)
  match ds with
  | a :: as => as.foldl min a + 0x1F0000
  | [] => 0x1F0000

/-- FP32 words of values; the NaNs among them are free. -/
def wordsFree (ctr : Nat) (xs : List Num) : List Byte :=
  xs.zipIdx.flatMap (fun x => leBytes 4 (match x.1 with
    | .nan => nanBits Fm.fp32 (Config.freeWord (ctr + x.2))
    | y => y.bits32.toNat))

/-- One NBU's partial (R401): every row's m_x, l_x and lanes over the pages in its bank. It reads its own bank alone (R330): Q, page
headers and block scales come to it through BD. -/
def Run.attnPartial (rq : Req) (c : Cmd) (p dim : Nat) (leases : List Nat) (plan : List (List (Nat × Nat))) (n : Nat × Nat) : Run Unit := do
  let s ← get
  let k := s.kvp p
  let qs ← Run.read (fun _ => reqBd c) p (c.addr 0x10) (2 * atRows c.desc * dim)
  let mine := leases.filter (fun x => s.pageNbu k x == n)
  let vs ← Run.pageViews (reqBd c) p mine
  let ctr := (← get).freeCtr
  Run.usePicks (atRows c.desc)
  let get' := fun x m => if mine.any (fun g => k.dataAddr g ≤ x && decide (x < k.dataAddr g + 16384)) then Run.nread rq x m else Run.pread (reqBd c) x m
  let rows ← Run.attnRows get' ctr false c p dim vs qs (plan.map (fun l => l.filter (fun x => mine.contains x.1))) 0
  let base := (← get).freeCtr
  modify (fun s => { s with freeCtr := base + rows.length * (dim + 2) })
  Run.nwrite rq c.id (s.partialAddr p leases n) (wordsFree base (rows.flatMap (fun a => a.m :: a.l :: a.o)))

/-- The combiner in BD (R401). -/
def Run.attnCombine (rq : Req) (c : Cmd) (p dim : Nat) (leases : List Nat) (nbus : List (Nat × Nat)) : Run Unit := do
  let s ← get
  let mut recs : List (List Num) := []
  for n in nbus do
    let bs ← Run.pread rq (s.partialAddr p leases n) (atRows c.desc * (8 + 4 * dim))
    recs := recs ++ [(chunks 4 bs).map (fun w => f32 (BitVec.ofNat 32 (leNat w)))]
  let ctr := (← get).freeCtr
  Run.usePicks (2 * atRows c.desc)
  let rows := (List.range (atRows c.desc)).map (fun r =>
    let ps := recs.map (fun x =>
      let y := x.drop (r * (dim + 2))
      (⟨y.headD .nan, (y.drop 1).headD .nan, (y.drop 2).take dim⟩ : Online))
    (Online.combine (rowPick ctr r) dim ps).finish (rowPick ctr (atRows c.desc + r)))
  Run.attnWrite (fun _ => rq) c p rows

/-! ### The backward pass (R395, R396) -/

/-- FP32 rows read. -/
def Run.rows32 (rq : Req) (p addr n : Nat) : Run (List Word) := do
  let bs ← Run.read (fun _ => rq) p addr (4 * n)
  return (chunks 4 bs).map (fun w => BitVec.ofNat 32 (leNat w))

/-- ATTN_BWD: dQ, dK and dV (R396). Whether P and dS enter the arrays in FP32 or in BF16 the manual does not say: a free value decides
(log entry 17). -/
def Run.attnBack (rq : Req) (c : Cmd) (p : Nat) (a : AttnStart) : Run Unit := do
  let d := c.desc
  let dim := a.q.headDim
  let arg ← Run.read (fun _ => rq) p (c.addr 0x18) 64
  let first := lsub arg 0x28 4
  let count := lsub arg 0x2C 4
  let accum := bit (lbyte arg 0x30) 0
  Run.need (decide (count ≠ 0) && decide (lbyte arg 0x30 < 2) && allZero (arg.drop 0x31) &&
    [0x00, 0x08, 0x10, 0x18, 0x20].all (fun o => decide (lsub arg (o + 6) 2 = 0))) St.badDescriptor
  let n := atRows d * dim
  Run.mayTouch rq.reach p (lsub arg 0x10 6) (4 * n) 2
  Run.mayTouch rq.reach p (lsub arg 0x18 6) (4 * dim * count) (if accum then 3 else 2)
  Run.mayTouch rq.reach p (lsub arg 0x20 6) (4 * dim * count) (if accum then 3 else 2)
  let qs ← Run.read (fun _ => rq) p (c.addr 0x10) (2 * n)
  let dos ← Run.read (fun _ => rq) p (lsub arg 0x00 6) (2 * n)
  let os ← Run.read (fun _ => rq) p (lsub arg 0x08 6) (2 * n)
  let stats ← Run.rows32 rq p (c.addr 0x20) (2 * atRows d)
  let lse := fun r => f32 (stats.getD (2 * r + 1) 0)
  let keys := (a.plan.flatten).eraseDups
  let kv ← Run.pairs (fun x m => Run.pread rq x m) p dim a.pages keys
  let ctr := (← get).freeCtr
  Run.usePicks (3 * atRows d)
  let bf := decide (rowPick ctr (3 * atRows d) 0 % 2 = 1)
  let enter := fun (x : Num) => if bf then toBf16 x else x
  let row := fun bs r => queryRow d dim bs r
  let terms := (List.range (atRows d)).flatMap (fun r =>
    if lse r = .inf true then []
    else
      let dd := dotFree (fun i => rowPick ctr (atRows d + r) i) (row dos r) (row os r)
      let mine := shuffle (fun i => rowPick ctr (atRows d + r) (2 ^ 40 + i)) (a.plan.getD (r / max 1 (atPer d)) []).length (a.plan.getD (r / max 1 (atPer d)) [])
      mine.zipIdx.filterMap (fun k => ((keys.zip kv).find? (fun x => x.1 == k.1)).map (fun x =>
        backTerm (fun i => rowPick ctr r (2 ^ 40 * k.2 + i)) r x.1 (row qs r) (row dos r) x.2.1 x.2.2 (lse r) dd)))
  let keyOf := fun (x : Nat × Nat) => (((keys.zip kv).find? (fun y => y.1 == x)).map (fun y => y.2.1)).getD []
  let posOf := fun (x : Nat × Nat) => ((a.pages.find? (fun v => v.page == x.1)).map (fun v => v.start)).getD 0 + x.2
  let dq := (List.range (atRows d)).flatMap (fun r => accumRow (List.replicate dim .zero)
    ((terms.filter (fun t => t.row == r)).map (fun t => ((rsqrtDim dim).fmul (enter t.ds), keyOf t.key))))
  let base := (← get).freeCtr
  modify (fun s => { s with freeCtr := base + dq.length })
  Run.write (fun _ => rq) c.id p (lsub arg 0x10 6) (wordsFree base dq)
  for side in [0, 1] do
    let at' := lsub arg (0x18 + 8 * side) 6
    for i in List.range count do
      let mine := terms.filter (fun t => posOf t.key == first + i)
      let mine := shuffle (fun k => rowPick ctr (2 * atRows d) (2 ^ 40 * (2 * i + side) + k)) mine.length mine
      if !mine.isEmpty then
        let old ← (if accum then Run.rows32 rq p (at' + 4 * dim * i) dim else pure (List.replicate dim 0) : Run (List Word))
        let out := accumRow (old.map f32) (mine.map (fun t =>
          if side = 0 then ((rsqrtDim dim).fmul (enter t.ds), row qs t.row) else (enter t.p, row dos t.row)))
        let base := (← get).freeCtr
        modify (fun s => { s with freeCtr := base + dim })
        Run.write (fun _ => rq) c.id p (at' + 4 * dim * i) (wordsFree base out)
      else if !accum then
        Run.write (fun _ => rq) c.id p (at' + 4 * dim * i) (List.replicate (4 * dim) 0)

/-! ### Starting -/

/-- The requester of an attention command: the first participating core on the core path, BD otherwise; several cores reach no
local store together (R31). -/
def State.attnReq (s : State) (c : Cmd) (core : Bool) : Req :=
  let cs := s.partCores (s.polderOf c) 0
  if core then { reqCore c (cs.headD 0) 256 with reach := coresReach cs } else reqBd c

/-- A start that fails (R376, R392): no lease is held. -/
def State.attnFail (s : State) (c : Cmd) (e : Fail) : State :=
  let p := s.polderOf c
  let s := if e.status = St.keyFormat then (s.addCnt Reg.kvpCntKeyFormat 1).kvErr p e.status 0 (atSeq c.desc) e.page
    else s.noteKv p (atSeq c.desc) e
  match e.addr with
  | some a => s.failCmd c.id (e.status, a)
  | none => s.endCmd c.id e.status none

/-- The participating cores have had their start (R499). -/
def State.partWarm (s : State) (c : Cmd) : Bool := s.coresWarm (s.partCores (s.polderOf c) 0)

/-- A page that the command would read is still being copied (R383): its start waits. -/
def State.attnWaits (s : State) (p : Nat) (a : AttnStart) : Bool := a.pages.any (fun v => s.copying p v.page)

/-- The stays of a command on every participating core begin. -/
def State.spanAll (s : State) (c : Cmd) : State := (s.partCores (s.polderOf c) 0).foldl (fun (s : State) n => s.spanStart n c) s

/-- The vector units of the participating cores are busy for a command's attention; the manual does not say for how long (R289, log entry
19). -/
def State.countVec (s : State) (c : Cmd) : State :=
  (s.partCores (s.polderOf c) 0).foldl (fun (s : State) n => (s.addCnt (Reg.coreCntVec n) (Config.freeNat s.freeCtr)).fresh) s

/-- ATTN_FWD starts: on the NBUs it waits for its dispatch, on the cores it runs to its end. -/
def State.attnForward (s : State) (c : Cmd) : State :=
  let p := s.polderOf c
  let nbu := s.nbuPath c.desc
  let rq := s.attnReq c (!nbu)
  match Run.attnStart rq c p s with
  | .error e s => s.attnFail c e
  | .ok a s' =>
    if s'.attnWaits p a || (!nbu && !s.partWarm c) then s
    else
      let s' := s'.beginCmd c.id (.attn a.q.headDim (a.pages.map (fun v => v.page)) a.plan [])
      if nbu then { s' with nbuReady := s'.nbuReady ++ [c.id] }
      else (((s'.spanAll c).countVec c).runEnd c.id (Run.attnCore rq c p a)).spanEnd c.id

/-- ATTN_BWD starts and runs to its end on the cores. -/
def State.attnBackward (s : State) (c : Cmd) : State :=
  let p := s.polderOf c
  let rq := s.attnReq c true
  match Run.attnStart rq c p s with
  | .error e s => s.attnFail c e
  | .ok a s' =>
    if s'.attnWaits p a || !s.partWarm c then s
    else
      let s' := s'.beginCmd c.id (.attn a.q.headDim (a.pages.map (fun v => v.page)) a.plan [])
      (((s'.spanAll c).countVec c).runEnd c.id (Run.attnBack rq c p a)).spanEnd c.id

end Sys2Proof.Machine
end

