-- ==== Sys2Proof/Machine/ParityOps.lean ====
section
/-! DEFINITION. Shard parity: a group's entry (R606, R607), places in a shard (R584), and the deltas a source sends (R583, R588,
R589). -/
namespace Sys2Proof.Machine

/-- PAR_GRP_CTRL.VALID of a group. -/
def State.parValid (s : State) (g : Nat) : Bool := decide (g < 64) && s.bit (Reg.parGrpCtrl g) 31
/-- K of a group. -/
def State.parK (s : State) (g : Nat) : Nat := s.fld (Reg.parGrpCtrl g) 3 0
/-- M of a group. -/
def State.parM (s : State) (g : Nat) : Nat := s.fld (Reg.parGrpCtrl g) 6 4
/-- SHARD of a group. -/
def State.parShard (s : State) (g : Nat) : Nat := s.fld (Reg.parGrpCtrl g) 12 8
/-- POLDER of a group. -/
def State.parPolder (s : State) (g : Nat) : Nat := s.fld (Reg.parGrpCtrl g) 20 16
/-- Device of a shard. -/
def State.parDev (s : State) (g i : Nat) : Nat := s.fld (Reg.parGrpDev g (i / 2)) (16 * (i % 2) + 11) (16 * (i % 2))
/-- A shard is marked lost. -/
def State.parLost (s : State) (g i : Nat) : Bool := s.bit (Reg.parGrpLost g) i
/-- UNITS of a group. -/
def State.parUnits (s : State) (g : Nat) : Nat := s.fld (Reg.parGrpUnits g) 25 0
/-- The shard map in force. -/
def State.parMap (s : State) (g : Nat) : List (Nat × Nat) := SMap.get (fun _ => []) s.parity.maps g
/-- Holders of a group that are not marked lost. -/
def State.parHolders (s : State) (g : Nat) : List Nat :=
  ((List.range (s.parM g)).map (fun j => s.parK g + j)).filter (fun r => !s.parLost g r)

/-- Position of an address in a shard. -/
def shardPos : List (Nat × Nat) → Nat → Nat → Option Nat
  | [], _, _ => none
  | (a, n) :: m, base, x => if a ≤ x && decide (x < a + n) then some (base + (x - a)) else shardPos m (base + n) x

/-- Address of a position of a shard. -/
def shardAddr : List (Nat × Nat) → Nat → Nat
  | [], _ => 0
  | (a, n) :: m, x => if x < n then a + x else shardAddr m (x - n)

/-- c(j, i) (R583). -/
def parCoeff (j i : Nat) : Nat := gfInv (j ^^^ (i + 4))

/-- Deltas not yet accepted of a group, by unit (R607). -/
def State.parPending (s : State) (g : Nat) : Nat := (((s.parity.pending.filter (fun x => x.group == g)).map (fun x => x.unit)).eraseDups).length

/-- PAR_GRP_PENDING follows the deltas. -/
def State.parShow (s : State) (g : Nat) : State := s.setFld (Reg.parGrpPending g) 25 0 (s.parPending g)

/-- One PAR_DELTA frame (R588, R603). -/
def State.sendDelta (s : State) (g r unit step : Nat) (bytes : List Byte) (cmd : Option Nat) : State :=
  let d := s.parDev g r
  let psn := (s.flow d).next
  let i := s.parShard g
  let k := parCoeff (r - s.parK g) i
  let area := beBytes 2 g ++ [BitVec.ofNat 8 i, BitVec.ofNat 8 r] ++ beBytes 4 step ++ beBytes 4 unit
  let s := s.sendSeq d 0x30 0 0 area (bytes.map (fun b => BitVec.ofNat 8 (gfMul k b.toNat))) none
  let s := s.addCnt Reg.parCntDeltaTx 4096
  { s with parity := { s.parity with pending := s.parity.pending ++ [⟨g, r, unit, d, psn, cmd⟩] } }

/-- The deltas of every unit with a nonzero δ go to every holder (R588). -/
def State.sendDeltas (s : State) (g step : Nat) (delta : Mem) (cmd : Option Nat) : State :=
  let units := (delta.map (fun e => e.1 / 4096)).eraseDups
  let s := units.foldl (fun (s : State) u =>
    (s.parHolders g).foldl (fun (s : State) r => s.sendDelta g r u step (delta.read (4096 * u) 4096) cmd) s) s
  if g < 64 then s.parShow g else s

/-- Pending deltas that satisfy `p` are dropped and counted (R589, R604). -/
def State.dropDeltas (s : State) (p : PendDelta → Bool) : State :=
  let n := s.parity.pending.countP p
  let gs := ((s.parity.pending.filter p).map (fun x => x.group)).eraseDups
  let s := { s with parity := { s.parity with pending := s.parity.pending.filter (fun x => !p x) } }
  gs.foldl State.parShow (s.addCnt Reg.parCntDropped n)

/-- Deltas that satisfy `p` have been accepted (R589). -/
def State.acceptDeltas (s : State) (p : PendDelta → Bool) : State :=
  let gs := ((s.parity.pending.filter p).map (fun x => x.group)).eraseDups
  gs.foldl State.parShow { s with parity := { s.parity with pending := s.parity.pending.filter (fun x => !p x) } }

end Sys2Proof.Machine
end

