-- ==== Sys2Proof/Machine/OptOps.lean ====
section
/-! DEFINITION. The parameter update: the recurrence (R411–R413), the step and tensor descriptors (R417–R419), placement (R420,
R421), and the elements of a step on vector units and near-bank units (R422–R429, R431, R432). -/
namespace Sys2Proof.Machine

/-! ### The rule (R412, R413) -/

/-- A field of a rule as a value. -/
def ruleNum (n : Nat) : Num := f32 (BitVec.ofNat 32 n)
/-- A momentum-free slot (R416). -/
def RuleRec.free (r : RuleRec) : Bool := (ruleNum r.a1).isZero && (ruleNum r.b2).isZero
/-- The record of a slot. -/
def State.rule (s : State) (slot : Nat) : Option RuleRec := s.image.bind (fun im => im.rules.find? (fun r => r.slot == slot))

/-- b1^t by square-and-multiply from the most significant bit (R413). -/
def powFrom (b : Num) (t : Nat) : Nat → Num → Num
  | 0, x => x
  | n + 1, x => powFrom b t n (if t.testBit n then (x.fmul x).fmul b else x.fmul x)

/-- k(t) (R413). -/
def biasK (r : RuleRec) (t : Nat) : Num :=
  let b := ruleNum r.b1
  if !r.biasCorr || b.isZero then .fin false 1 0
  else (Num.fin false 1 0).fdiv ((Num.fin false 1 0).fsub (powFrom b t (t.log2 + 1) (.fin false 1 0)))

/-- The values formed once (R412): c and d. -/
structure StepConst where
  c : Num
  d : Num
  eta : Num
  deriving DecidableEq, Repr

/-- c and d of a step number. -/
def stepConst (r : RuleRec) (eta : Num) (t : Nat) : StepConst :=
  ⟨(ruleNum r.a1).fmul (biasK r t), (Num.fin false 1 0).fsub (eta.fmul (ruleNum r.lambda)), eta⟩

/-- fma, rounded once. -/
def fma (a b c : Num) : Num := ((a.mul b).add c).fp32

/-- F(u) (R413). -/
def ruleF (r : RuleRec) (u : Num) : Num :=
  if r.func = 0 then signOf u else if r.func = 1 then u else clampTo (ruleNum r.clip) u

/-- w′ in FP32 (R412). -/
def stepW (r : RuleRec) (k : StepConst) (w m s : Num) : Num :=
  let u := fma k.c m ((ruleNum r.a2).mul s)
  fma k.eta.flip (ruleF r u) (w.fmul k.d)

/-- m′ before its conversion (R412). -/
def stepM (r : RuleRec) (m s : Num) : Num := fma (ruleNum r.b1) m ((ruleNum r.b2).mul s)

/-! ### Descriptors (R417, R418) -/

/-- STEP of an OPT_STEP. -/
def opStep (d : Desc) : Nat := dfld d 0x30 4
/-- ETA. -/
def opEta (d : Desc) : Num := f32 (BitVec.ofNat 32 (dfld d 0x34 4))
/-- SLOT. -/
def opSlot (d : Desc) : Nat := dbyte d 0x38
/-- OFLAGS.SPARSE. -/
def opSparse (d : Desc) : Bool := bit (dbyte d 0x39) 0
/-- OFLAGS.ROW_LAZY. -/
def opLazy (d : Desc) : Bool := bit (dbyte d 0x39) 1
/-- OFLAGS.W_BF16. -/
def opBf16 (d : Desc) : Bool := bit (dbyte d 0x39) 2
/-- Bytes of a weight. -/
def opW (d : Desc) : Nat := if opBf16 d then 2 else 4
/-- An address of the descriptor, without its reserved bits. -/
def opAddr (d : Desc) (off : Nat) : Nat := dfld d off 6

/-- COUNT of a tensor descriptor. -/
def tdCount (t : List Byte) : Nat := lsub t 0 8
/-- LAST_STEP. -/
def tdLast (t : List Byte) : Nat := lsub t 8 4
/-- UNITS. -/
def tdUnits (t : List Byte) : Nat := lsub t 0xC 4
/-- UNIT_KIND is channel. -/
def tdChannel (t : List Byte) : Bool := bit (lbyte t 0x10) 0
/-- BANKED. -/
def tdBanked (t : List Byte) : Bool := bit (lbyte t 0x10) 1
/-- PAR_GROUP. -/
def tdGroup (t : List Byte) : Nat := lsub t 0x12 2
/-- INDEX_COUNT. -/
def tdIndexCount (t : List Byte) : Nat := lsub t 0x14 4
/-- FREEZE_ADDR. -/
def tdFreeze (t : List Byte) : Nat := lsub t 0x18 8
/-- INDEX_ADDR. -/
def tdIndex (t : List Byte) : Nat := lsub t 0x20 8
/-- ZERO_ADDR. -/
def tdZero (t : List Byte) : Nat := lsub t 0x28 8
/-- ROWSTEP_ADDR. -/
def tdRowstep (t : List Byte) : Nat := lsub t 0x30 8
/-- COL_FIRST. -/
def tdCol (t : List Byte) : Nat := lbyte t 0x38
/-- COL_COUNT. -/
def tdCols (t : List Byte) : Nat := lsub t 0x3A 2
/-- BANK_MASK. -/
def tdMask (t : List Byte) : Nat := lsub t 0x3C 4
/-- Elements of a unit of kind row. -/
def tdRow (t : List Byte) : Nat := tdCount t / max 1 (tdUnits t)
/-- The unit of an element (R418). -/
def tdUnitOf (t : List Byte) (e : Nat) : Nat := if tdChannel t then e % max 1 (tdUnits t) else e / max 1 (tdRow t)
/-- Banks of each column, ascending. -/
def tdBanks (t : List Byte) : List Nat := bitsOf 32 (tdMask t)
/-- B: the slots. -/
def tdSlots (t : List Byte) : Nat := tdCols t * (tdBanks t).length
/-- Chunks: C. -/
def tdChunks (t : List Byte) : Nat := cdiv (tdCount t) 16384
/-- (column, bank) of slot `j`. -/
def tdSlot (t : List Byte) (j : Nat) : Nat × Nat :=
  let n := max 1 (tdBanks t).length
  (tdCol t + j / n, (tdBanks t).getD (j % n) 0)

/-- The physical offset of a bank-local address (R421). -/
def bankPhys (bank b : Nat) : Nat :=
  bank / 16 * 0x18000000 + b / 0x200000 * 0x2000000 + bank % 16 * 0x200000 + b % 0x200000

/-- The tensors of a step: 0 w, 1 m, 2 s, 3 zero mask. Base address; none when the step has no such tensor. -/
def opBase (r : RuleRec) (d : Desc) (t : List Byte) (k : Nat) : Option Nat :=
  if k = 0 then some (opAddr d 0x10)
  else if k = 1 then (if r.free then none else some (opAddr d 0x18))
  else if k = 2 then some (opAddr d 0x20)
  else if tdZero t = 0 then none else some (tdZero t)

/-- Chunk size of a tensor (R421). -/
def opChunk (d : Desc) (k : Nat) : Nat := if k = 0 then 16384 * opW d else if k = 1 then 32768 else 2048

/-- Bytes of a FLAT tensor: elements, or bits of the sign and zero masks (R420, R425). -/
def opFlatLen (d : Desc) (t : List Byte) (k : Nat) : Nat :=
  if k = 0 then tdCount t * opW d else if k = 1 then 2 * tdCount t
  else if opLazy d then cdiv (tdIndexCount t * tdRow t) 8 else cdiv (tdCount t) 8

/-- The address of byte `b` of a tensor, counted as in FLAT placement: in BANKED placement, of its chunk (R420, R421). -/
def opByte (d : Desc) (t : List Byte) (base k b : Nat) : Nat :=
  if tdBanked t then
    let c := b / opChunk d k
    let sl := tdSlot t (c % max 1 (tdSlots t))
    2 ^ 32 * sl.1 + bankPhys sl.2 (addrOff base + c / max 1 (tdSlots t) * opChunk d k + b % opChunk d k)
  else base + b

/-- Rights that a tensor needs: read, and for w and m write. -/
def opNeed (k : Nat) : Nat := if k < 2 then 3 else 1

/-- An address in space 0x00, 0x01 or 0x02 that is a multiple of 64. -/
def flatOk (a : Nat) : Bool := decide (a < 2 ^ 48) && decide (addrSpace a ≤ 2) && decide (a % 64 = 0) && addrOk a

/-- Bank-local ranges of the tensors (R421): start and used bytes. -/
def bankRanges (r : RuleRec) (d : Desc) (t : List Byte) : List (Nat × Nat × Nat) :=
  (List.range 4).filterMap (fun k => (opBase r d t k).map (fun a => (k, addrOff a, cdiv (tdChunks t) (max 1 (tdSlots t)) * opChunk d k)))

/-- The checks of BANKED placement (R421). -/
def bankedOk (r : RuleRec) (d : Desc) (t : List Byte) : Bool :=
  let rs := bankRanges r d t
  !opSparse d && !opLazy d &&
  (List.range 4).all (fun k => match opBase r d t k with
    | none => true
    | some a => decide (a < 2 ^ 40) && decide (addrCore a = tdCol t) && decide (addrOff a % 2048 = 0)) &&
  rs.all (fun x => decide (x.2.1 + x.2.2 ≤ 0x1800000)) &&
  rs.all (fun x => rs.all (fun y => x.1 == y.1 || !overlap x.2.1 x.2.2 y.2.1 y.2.2)) &&
  (tdFreeze t == 0 || (!tdChannel t && decide (tdRow t % 16384 = 0)))

/-- The field rules of the tensor descriptor (R418, R419, R421). -/
def tensorOk (r : RuleRec) (d : Desc) (t : List Byte) : Bool :=
  let listed := opSparse d || opLazy d
  decide (1 ≤ tdCount t) && decide (tdCount t ≤ 2 ^ 32) && decide (1 ≤ tdUnits t) && decide (tdCount t % max 1 (tdUnits t) = 0) &&
  decide (lbyte t 0x10 < 4) && decide (lbyte t 0x11 = 0) && decide (lbyte t 0x39 = 0) &&
  (if listed then decide (1 ≤ tdIndexCount t) && decide (tdIndexCount t ≤ 2 ^ 24) else decide (tdIndexCount t = 0)) &&
  (listed || decide (tdIndex t = 0)) && (opLazy d == decide (tdRowstep t ≠ 0)) && !(opLazy d && tdChannel t) &&
  (if tdBanked t then decide (1 ≤ tdCols t) && decide (tdCols t ≤ 256) && decide (tdCol t + tdCols t ≤ 256) && decide (tdMask t ≠ 0)
   else decide (tdCol t = 0) && decide (tdCols t = 0) && decide (tdMask t = 0)) &&
  [tdFreeze t, tdIndex t, tdRowstep t].all (fun a => a == 0 || flatOk a) &&
  (if tdBanked t then bankedOk r d t
   else (List.range 4).all (fun k => match opBase r d t k with
     | none => true
     | some a => flatOk a && rangeOk a (opFlatLen d t k))) &&
  (tdFreeze t == 0 || rangeOk (tdFreeze t) (cdiv (tdUnits t) 8)) && (!listed || rangeOk (tdIndex t) (4 * tdIndexCount t)) &&
  (tdRowstep t == 0 || rangeOk (tdRowstep t) (4 * tdUnits t))

/-- The fields of the descriptor itself (R417). -/
def State.optFields (s : State) (d : Desc) : Bool :=
  let eta := opEta d
  eta.isFin && !eta.isZero && !eta.neg? && decide (opStep d ≠ 0) && decide (opSlot d ≤ 15) &&
  (match s.rule (opSlot d) with
   | none => false
   | some r => r.free == decide (dfld d 0x18 8 = 0)) &&
  !(opSparse d && opLazy d) && decide (dbyte d 0x39 < 8) && !Machine.bit (dbyte d 1) 1 &&
  decide (dfld d 0x28 8 ≠ 0) && flatOk (dfld d 0x28 8) && rangeOk (dfld d 0x28 8) 64

/-- A bank-local range is covered in a slot by LINEAR grants of the polder with the access needed (R421). -/
def State.linearGranted (s : State) (p : Nat) (sl : Nat × Nat) (b n need : Nat) : Bool :=
  match s.image with
  | none => false
  | some im =>
    let gs := im.grants.filter (fun g => g.polder == p && decide (g.mode = 0))
    (List.range (cdiv (b % 0x200000 + n) 0x200000)).all (fun i =>
      let x := max b (b / 0x200000 * 0x200000 + i * 0x200000)
      gs.any (fun g => g.covers sl.1 (bankPhys sl.2 x) need))

/-- The core that a chunk runs on (R422). -/
def State.optCore (s : State) (p : Nat) (t : List Byte) (chunk : Nat) : Nat :=
  let cores := s.partCores p 0
  let col := (tdSlot t (chunk % max 1 (tdSlots t))).1
  if tdBanked t && cores.contains col then col else cores.getD (chunk % max 1 cores.length) 0

/-- The cores that a step's chunks run on. -/
def State.optCores (s : State) (p : Nat) (t : List Byte) : List Nat :=
  ((List.range (tdChunks t)).map (s.optCore p t)).eraseDups

/-- The engine that reads or writes the tensor descriptor, a list, a bitmap or a count: BD's, and in a local store its own core's (R31;
log entry 65). -/
def optReach (a : Nat) : Reach := if addrSpace a = 2 then .core (addrCore a) else .bd
/-- A requester of that kind. -/
def optReq (c : Cmd) (a col : Nat) : Req := if addrSpace a = 2 then reqCore c (addrCore a) col else reqBd c

/-- Rights of the tensors (R419, R421). A FLAT tensor in a local store is reached by its own core's vector unit alone (R31). -/
def State.optRights (s : State) (p : Nat) (r : RuleRec) (d : Desc) (t : List Byte) : Bool :=
  let beside := fun a n need => decide (s.rangeCheck (optReach a) p a n need = St.ok)
  (tdFreeze t == 0 || beside (tdFreeze t) (cdiv (tdUnits t) 8) 1) &&
  (!(opSparse d || opLazy d) || beside (tdIndex t) (4 * tdIndexCount t) 1) &&
  (!opLazy d || beside (tdRowstep t) (4 * tdUnits t) 3) &&
  (if tdBanked t then
     (bankRanges r d t).all (fun x => (List.range (tdSlots t)).all (fun j =>
       s.linearGranted p (tdSlot t j) x.2.1 x.2.2 (4 + opNeed x.1)))
   else (List.range 4).all (fun k => match opBase r d t k with
     | none => true
     | some a => decide (s.rangeCheck (coresReach (s.optCores p t)) p a (opFlatLen d t k) (opNeed k) = St.ok)))

/-- The checks of an OPT_STEP (R417–R421), with its tensor descriptor as it stands: the descriptor and the rule. -/
def Run.optCheck (c : Cmd) (p : Nat) : Run (List Byte × RuleRec) := do
  let d := c.desc
  let s ← get
  Run.need (s.optFields d) St.badDescriptor
  match s.rule (opSlot d) with
  | none => Run.stop St.badDescriptor
  | some r => do
    let a := opAddr d 0x28
    Run.need (decide (s.rangeCheck (optReach a) p a 64 3 ≠ St.badDescriptor)) St.badDescriptor
    Run.need (decide (s.rangeCheck (optReach a) p a 64 3 = St.ok)) St.notPermitted
    let t ← Run.read (optReq c a) p a 64
    Run.need (tensorOk r d t) St.badDescriptor
    Run.need (decide (tdGroup t = 0xFFFF) || s.cap 2) St.absentUnit
    Run.need (s.optRights p r d t) St.notPermitted
    return (t, r)

/-! ### Elements -/

/-- How the elements of a step reach memory: reads by address, writes, the core whose counters take what is saturated, none for an NBU,
and whether a stop may fall between any two stores (at a bundle boundary) or only between blocks of 64 elements (R433). -/
structure OptPort where
  get : List Nat → Run Mem
  put : List (Nat × Byte) → Run Unit
  core : Option Nat
  byStore : Bool

/-- A core's vector unit. -/
def corePort (c : Cmd) (core p : Nat) : OptPort :=
  ⟨fun as => Run.gather (reqCore c core) p as, fun bs => Run.writeBytes (reqCore c core) c.id p bs, some core, false⟩

/-- Bytes of a list of addresses through an NBU: one access to each 64-byte block. -/
def Run.ngather (rq : Req) (as : List Nat) : Run Mem := do
  let blocks := as.foldl (fun (m : SMap (Nat × Nat)) a =>
    let r := SMap.get (fun _ => (64, 0)) m (a / 64)
    SMap.set (fun _ => (64, 0)) m (a / 64) (min r.1 (a % 64), max r.2 (a % 64))) []
  let mut m : Mem := []
  for b in blocks do
    let bs ← Run.nread rq (64 * b.1 + b.2.1) (b.2.2 + 1 - b.2.1)
    m := m.write (64 * b.1 + b.2.1) bs
  return m

/-- Bytes written through an NBU in runs of consecutive addresses. -/
def Run.nscatter (rq : Req) (id : Nat) (bs : List (Nat × Byte)) : Run Unit := do
  let sorted := bs.foldl (fun (m : SMap (Option Byte)) b => SMap.set (fun _ => none) m b.1 (some b.2)) []
  let runs : List (Nat × List Byte) := sorted.foldl (fun l e => match l with
    | (a, x) :: r => if a + x.length = e.1 then (a, x ++ [e.2.getD 0]) :: r else (e.1, [e.2.getD 0]) :: l
    | [] => [(e.1, [e.2.getD 0])]) []
  for r in runs.reverse do
    Run.nwrite rq id r.1 r.2

/-- An NBU. -/
def nbuPort (c : Cmd) : OptPort := ⟨fun as => Run.ngather (reqNbu c) as, fun bs => Run.nscatter (reqNbu c) c.id bs, none, true⟩

/-- Where the elements of a unit stand: the generator, and how much a stop still lets through, none where nothing stops the step: stores
of 64-byte blocks on an NBU, blocks of elements on a vector unit (R433). -/
structure OptAt where
  gen : Nat
  cut : Option Nat
  deriving DecidableEq, Repr

/-- Addresses of the bytes of element `e` of a tensor of `n`-byte elements. -/
def elemAddrs (d : Desc) (t : List Byte) (base k n e : Nat) : List Nat := (List.range n).map (fun i => opByte d t base k (n * e + i))

/-- The unit of a step that elements belong to is frozen (R423). -/
def Run.frozen (get' : List Nat → Run Mem) (t : List Byte) (e : Nat) : Run Bool := do
  if tdFreeze t = 0 then return false
  let u := tdUnitOf t e
  let m ← get' [tdFreeze t + u / 8]
  return bit (m.byte (tdFreeze t + u / 8)).toNat (u % 8)

/-- The frozen ones among elements, with one read for each unit's byte. -/
def Run.frozenAmong (get' : List Nat → Run Mem) (t : List Byte) (es : List Nat) : Run (List Nat) := do
  if tdFreeze t = 0 then return []
  let a := fun e => tdFreeze t + tdUnitOf t e / 8
  let m ← get' ((es.map a).eraseDups)
  return es.filter (fun e => bit (m.byte (a e)).toNat (tdUnitOf t e % 8))

/-- The command's δ takes in what a write changes (R432, R588): a block outside the shard map stops the step. -/
def Run.optDelta (c : Cmd) (t : List Byte) (old : Mem) (bs : List (Nat × Byte)) : Run Unit := do
  let g := tdGroup t
  if g ≠ 0xFFFF then
    let s ← get
    let map := if s.parValid g && decide (s.parShard g < s.parK g) then s.parMap g else []
    match bs.find? (fun b => (shardPos map 0 b.1).isNone) with
    | some b => Run.stopAt St.badDescriptor (b.1 / 64 * 64)
    | none =>
      modify (fun s => s.updCmd c.id (fun x => match x.work with
        | .opt l td n delta => { x with work := .opt l td n (bs.foldl (fun m b =>
            let p := (shardPos map 0 b.1).getD 0
            SMap.set (fun _ => 0) m p (m.byte p ^^^ (b.2 ^^^ old.byte b.1))) delta) }
        | _ => x))

/-- One store of an element: its bytes, whether it is w′, and whether it is written infinite or NaN or was saturated (R429). -/
structure OptStore where
  bytes : List (Nat × Byte)
  weight : Bool
  nonfinite : Bool
  sat : Bool

/-- The 64-byte block of a store. -/
def OptStore.block (x : OptStore) : Nat := (x.bytes.headD (0, 0)).1 / 64

/-- Elements updated together: each with the place of its sign bit (R423–R425). The generator goes on through them (R428); a stop may
let only the first stores through (R433). -/
def Run.optElems (io : OptPort) (c : Cmd) (r : RuleRec) (t : List Byte) (k : StepConst) (els : List (Nat × Nat)) (at0 : OptAt) : Run OptAt := do
  let d := c.desc
  let w := opW d
  let wa := opAddr d 0x10
  let ma := opAddr d 0x18
  let sa := opAddr d 0x20
  let at' := fun (base kk b : Nat) => opByte d t base kk (b / 8)
  let addrs := els.flatMap (fun x => elemAddrs d t wa 0 w x.1 ++ (if r.free then [] else elemAddrs d t ma 1 2 x.1) ++
    [at' sa 2 x.2] ++ (if tdZero t = 0 then [] else [at' (tdZero t) 3 x.2]))
  let m ← io.get addrs
  let base := (← get).freeCtr
  let val := fun (as : List Nat) => leNat (as.map m.byte)
  let step := fun (acc : List OptStore × Nat × Nat) (x : Nat × Nat) =>
    let s : Num :=
      if tdZero t ≠ 0 && bit (m.byte (at' (tdZero t) 3 x.2)).toNat (x.2 % 8) then Num.zero
      else .fin (bit (m.byte (at' sa 2 x.2)).toNat (x.2 % 8)) 1 0
    let wv := elemValue (if w = 4 then Fm.fp32 else Fm.bf16) (val (elemAddrs d t wa 0 w x.1))
    let mv := if r.free then Num.zero else elemValue Fm.bf16 (val (elemAddrs d t ma 1 2 x.1))
    let w' := stepW r k wv mv s
    let mn := stepM r mv s
    let cw := convPlain (if w = 4 then Fm.fp32 else Fm.bf16) true acc.2.1 (Config.freeWord (base + acc.2.2)) w'
    let cm := convPlain Fm.bf16 false 0 (Config.freeWord (base + acc.2.2 + 1)) mn
    let ws : OptStore := ⟨(elemAddrs d t wa 0 w x.1).zip (leBytes w (cw.codes.getD 0 0)), true, !w'.isFin, cw.warn⟩
    let ms : OptStore := ⟨(elemAddrs d t ma 1 2 x.1).zip (leBytes 2 (cm.codes.getD 0 0)), false, !mn.isFin, cm.warn⟩
    (acc.1 ++ (if r.free then [ws] else [ws, ms]), cw.gen, acc.2.2 + 2)
  let out := els.foldl step ([], at0.gen, 0)
  let blocks := (out.1.map OptStore.block).eraseDups
  let kept := if io.byStore then (match at0.cut with
    | some n => out.1.filter (fun x => (blocks.take n).contains x.block)
    | none => out.1) else out.1
  let bs := kept.flatMap (fun x => x.bytes)
  let sat := kept.countP (fun x => x.sat)
  Run.optDelta c t m bs
  io.put bs
  modify (fun s =>
    let s := { s with freeCtr := base + out.2.2 }
    let s := (s.addCnt Reg.optCntElements (kept.countP (fun x => x.weight))).addCnt Reg.optCntNonfinite (kept.countP (fun x => x.nonfinite))
    let s := match io.core with
      | some n =>
        let s := s.addCnt (Reg.coreCntVec n) (cdiv ((if r.free then 3 else 6) * kept.countP (fun x => x.weight)) 64)
        if sat = 0 then s else s.addCnt (Reg.precCntSat n) sat
      | none => s
    if 0 < sat then s.warnCmd c.id Wn.saturated else s)
  return ⟨out.2.1, at0.cut.map (fun n => n - (if io.byStore then blocks.length else 1))⟩

/-- One chunk updated in groups of 64 elements, the frozen ones left out (R423), up to where a stop lets it go (R433). -/
def Run.optChunk (io : OptPort) (fz : List Nat → Run Mem) (c : Cmd) (r : RuleRec) (t : List Byte) (k : StepConst) (chunk : Nat) (at0 : OptAt) : Run OptAt := do
  let last := min (tdCount t) (16384 * (chunk + 1))
  let mut g := at0
  for i in List.range (cdiv (last - 16384 * chunk) 64) do
    if g.cut ≠ some 0 then
      let lo := 16384 * chunk + 64 * i
      let es := (List.range (min 64 (last - lo))).map (fun j => lo + j)
      let fr ← Run.frozenAmong fz t es
      modify (fun s => s.addCnt Reg.optCntFrozen fr.length)
      let live := es.filter (fun e => !fr.contains e)
      if !live.isEmpty then
        g ← Run.optElems io c r t k (live.map (fun e => (e, e))) g
  return g

/-- Work on a core with its generator, which is kept (R239, R428), up to where a stop lets it go. -/
def Run.withGen (c : Cmd) (core : Nat) (cut : Option Nat) (f : OptAt → Run OptAt) : Run (Option Nat) := do
  if cut = some 0 then return cut
  let s ← get
  let g ← f ⟨s.coreGen core c (s.nat (Reg.precSeed c.ctx)), cut⟩
  modify (fun s => s.setGen core c.id g.gen)
  return g.cut

/-- A dense step on the vector units (R422). -/
def Run.optDense (c : Cmd) (p : Nat) (r : RuleRec) (t : List Byte) (cut : Option Nat) : Run Unit := do
  let k := stepConst r (opEta c.desc) (opStep c.desc)
  let mut left := cut
  for chunk in List.range (tdChunks t) do
    let n := (← get).optCore p t chunk
    let io := corePort c n p
    left ← Run.withGen c n left (fun g => Run.optChunk io (fun as => Run.gather (optReq c (tdFreeze t)) p as) c r t k chunk g)

/-- Entry `i` of the index list, checked against its predecessor and its bound (R424–R426). -/
def Run.indexEntry (c : Cmd) (p : Nat) (t : List Byte) (i : Nat) (prev : Option Nat) (bound : Nat) : Run Nat := do
  let a := tdIndex t + 4 * i
  let bs ← Run.read (optReq c a) p a 4
  let x := leNat bs
  if x < bound && (match prev with
    | some y => decide (y < x)
    | none => true) then return x
  else Run.stopAt St.badDescriptor a

/-- A SPARSE step (R424). -/
def Run.optSparse (c : Cmd) (p : Nat) (r : RuleRec) (t : List Byte) (cut : Option Nat) : Run Unit := do
  let k := stepConst r (opEta c.desc) (opStep c.desc)
  let mut prev : Option Nat := none
  let mut left := cut
  for i in List.range (tdIndexCount t) do
    if left ≠ some 0 then
      let e ← Run.indexEntry c p t i prev (tdCount t)
      prev := some e
      let n := (← get).optCore p t (e / 16384)
      if ← Run.frozen (fun as => Run.gather (optReq c (tdFreeze t)) p as) t e then modify (fun s => s.addCnt Reg.optCntFrozen 1)
      else left ← Run.withGen c n left (fun g => Run.optElems (corePort c n p) c r t k [(e, e)] g)

/-- The elements of a row, in groups of 64 on the core of the chunk that holds each. -/
def Run.optRow (c : Cmd) (p : Nat) (r : RuleRec) (t : List Byte) (k : StepConst) (row i : Nat) (cut : Option Nat) : Run (Option Nat) := do
  let l := tdRow t
  let mut left := cut
  for j in List.range (cdiv l 64) do
    for part in ((List.range (min 64 (l - 64 * j))).map (fun x => row * l + 64 * j + x)).foldl (fun (acc : List (List Nat)) e => match acc with
        | (y :: ys) :: rest => if y / 16384 = e / 16384 then (e :: y :: ys) :: rest else [e] :: (y :: ys) :: rest
        | _ => [[e]]) [] |>.reverse do
      let es := part.reverse
      let n := (← get).optCore p t (es.headD 0 / 16384)
      left ← Run.withGen c n left (fun g => Run.optElems (corePort c n p) c r t k (es.map (fun e => (e, i * l + (e - row * l)))) g)
  return left

/-- A ROW_LAZY step (R425): each listed row with its own step number, which is written back with it; a row that a stop cuts short keeps
its count (log entry 74). -/
def Run.optLazy (c : Cmd) (p : Nat) (r : RuleRec) (t : List Byte) (cut : Option Nat) : Run Unit := do
  let mut prev : Option Nat := none
  let mut left := cut
  for i in List.range (tdIndexCount t) do
    if left ≠ some 0 then
      let u ← Run.indexEntry c p t i prev (tdUnits t)
      prev := some u
      if ← Run.frozen (fun as => Run.gather (optReq c (tdFreeze t)) p as) t (u * tdRow t) then modify (fun s => s.addCnt Reg.optCntFrozen (tdRow t))
      else do
        let a := tdRowstep t + 4 * u
        let bs ← Run.read (optReq c a) p a 4
        let step := min (leNat bs + 1) 0xFFFFFFFF
        left ← Run.optRow c p r t (stepConst r (opEta c.desc) step) u i left
        if left ≠ some 0 then Run.write (optReq c a) c.id p a (leBytes 4 step)

/-- The elements of a step on the vector units, up to where a stop lets them go. -/
def Run.optVector (c : Cmd) (p : Nat) (r : RuleRec) (t : List Byte) (cut : Option Nat) : Run Unit :=
  if opSparse c.desc then Run.optSparse c p r t cut else if opLazy c.desc then Run.optLazy c p r t cut else Run.optDense c p r t cut

/-! ### The NBU path -/

/-- The NBUs of a BANKED step: its slots. -/
def optNbus (t : List Byte) : List (Nat × Nat) := (List.range (tdSlots t)).map (tdSlot t)

/-- The seed of an NBU's generator (R428). -/
def nbuSeed (seed col bank slot : Nat) : Nat :=
  let x := (seed ^^^ 0x80000000 ^^^ ((32 * col + bank) * 65536 % 2 ^ 32) ^^^ slot) % 2 ^ 32
  if x = 0 then 1 else x

/-- The declared ranges of a slot (R431): the used bytes of its tensors as physical ranges, cut at 2 MiB. -/
def optDeclared (r : RuleRec) (d : Desc) (t : List Byte) (bank : Nat) : List (Nat × Nat × Bool) :=
  (bankRanges r d t).flatMap (fun x => (List.range (cdiv (x.2.1 % 0x200000 + x.2.2) 0x200000)).map (fun i =>
    let lo := max x.2.1 (x.2.1 / 0x200000 * 0x200000 + i * 0x200000)
    let hi := min (x.2.1 + x.2.2) (x.2.1 / 0x200000 * 0x200000 + (i + 1) * 0x200000)
    (bankPhys bank lo, hi - lo, decide (x.1 < 2))))

/-- The first retired byte of the used bytes of a step (R355, R433). -/
def State.optRetired (s : State) (r : RuleRec) (d : Desc) (t : List Byte) : Option Nat :=
  ((optNbus t).flatMap (fun n => (optDeclared r d t n.2).flatMap (fun x =>
    ((List.range (cdiv x.2.1 2048)).map (fun i => x.1 + 2048 * i)).filterMap (fun p =>
      if s.retiredAt n.1 p then some (2 ^ 32 * n.1 + p) else none)))).head?

/-- The chunks of one slot on its NBU, with the generator that its sequence was seeded with (R428); a chunk of a frozen row is not issued
(R423). -/
def Run.optSlotRun (c : Cmd) (r : RuleRec) (t : List Byte) (p : Nat) (q : NbuSeq) (cut : Option Nat) : Run Unit := do
  let k := stepConst r (opEta c.desc) (opStep c.desc)
  let mut g : OptAt := ⟨q.gen, cut⟩
  for chunk in (List.range (tdChunks t)).filter (fun x => tdSlot t (x % max 1 (tdSlots t)) == (q.col, q.bank)) do
    g ← Run.optChunk (nbuPort c) (fun as => Run.gather (optReq c (tdFreeze t)) p as) c r t k chunk g

/-! ### Starting and ending -/

/-- A step number that does not follow the last one is recorded (R427). -/
def State.optSkew (s : State) (c : Cmd) (p : Nat) (t : List Byte) : State :=
  let last := tdLast t
  if (last + 1) % 2 ^ 32 = opStep c.desc then s
  else
    let s := (s.warnCmd c.id Wn.stepSkew).addCnt Reg.optCntSkew 1
    let s := s.event 0x0501 (Src.polder p) (some c.ctx) (dataOf [(0, last), (4, opStep c.desc)])
    if s.bit Reg.optSkewCtx 31 then s
    else ((s.setNat Reg.optSkewSeen last).setNat Reg.optSkewStep (opStep c.desc)).setNat Reg.optSkewCtx (c.ctx + 2 ^ 16 * p + 2 ^ 31)

/-- The deltas of a step are sent when it has ended (R588); `waits` says that the command waits for them (R589). -/
def State.optSend (s : State) (id : Nat) (waits : Bool) : State :=
  match s.cmd? id with
  | none => s
  | some c => match c.work with
    | .opt l td n delta =>
      let s := s.updCmd id (fun x => { x with work := .opt l td n [] })
      if tdGroup td = 0xFFFF then s
      else s.sendDeltas (tdGroup td) (opStep c.desc) delta (if waits then some id else none)
    | _ => s

/-- Every delta of a command has been accepted (R432, R589). -/
def State.optAccepted (s : State) (id : Nat) : Bool := s.parity.pending.all (fun x => decide (x.cmd ≠ some id))

/-- A command has ended with ST_OK and waits only for its commit. -/
def State.endedOk (s : State) (id : Nat) : Bool := match s.cmd? id with
  | some c => decide (c.phase = .done St.ok)
  | none => false

/-- What a run leaves, whether it stopped or not. -/
def State.afterRun (s : State) (r : Run Unit) : State := match r s with
  | .ok _ s => s
  | .error _ s => s

/-- A step that is stopped, or that has failed on one of its NBUs: each unit that has not ended has gone to some block of 64 elements or
some bundle boundary, which the manual leaves open (R433; log entry 74). -/
def State.optCut (s : State) (c : Cmd) : State :=
  match c.work, s.rule (opSlot c.desc) with
  | .opt left td onNbus _, some r =>
    let p := s.polderOf c
    let s := if onNbus then left.foldl (fun (s : State) n => match s.nbu n.1 n.2 with
        | some q =>
          let s := s.resolveClash q
          s.fresh.afterRun (Run.optSlotRun c r td p q (some (Config.freeNat s.freeCtr)))
        | none => s) s
      else s.fresh.afterRun (Run.optVector c p r td (some (Config.freeNat s.freeCtr)))
    s.updCmd c.id (fun x => match x.work with
      | .opt _ l n delta => { x with work := .opt [] l n delta }
      | _ => x)
  | _, _ => s

/-- A step on the vector units has run to its end by the time of its commit; one that was stopped has gone part of the way (R422,
R433). -/
def State.optFinish (s : State) (c : Cmd) : State :=
  match c.work, c.phase with
  | .opt _ td onNbus _, .running =>
    if onNbus || s.halted || !s.coresWarm (s.optCores (s.polderOf c) td) then s
    else match s.rule (opSlot c.desc) with
      | some r =>
        let s := (s.runEnd c.id (Run.optVector c (s.polderOf c) r td none)).spanEnd c.id
        s.optSend c.id (s.endedOk c.id)
      | none => s
  | .opt _ _ _ _, .stopping _ _ => s.optCut c
  | _, _ => s

/-- OPT_STEP starts (R422, R427): on NBUs it waits for its dispatch; on the vector units each participating core's generator is seeded
(R239), and the elements are updated up to the commit. -/
def State.optStart (s : State) (c : Cmd) : State :=
  let p := s.polderOf c
  match Run.optCheck c p s with
  | .error e s => match e.addr with
    | some a => s.failCmd c.id (e.status, a)
    | none => s.endCmd c.id e.status none
  | .ok (t, _) s =>
    let nbu := tdBanked t && s.cap 0
    let s := (s.beginCmd c.id (.opt [] t nbu [])).optSkew c p t
    if nbu then { s with nbuReady := s.nbuReady ++ [c.id] }
    else
      let seed := s.nat (Reg.precSeed c.ctx)
      (s.optCores p t).foldl (fun (s : State) n => s.setGen n c.id (s.coreGen n c seed)) (s.spanAll c)

end Sys2Proof.Machine
end

