-- ==== Sys2Proof/Machine/NbuDispatch.lean ====
section
/-! DEFINITION. The dispatcher of the near-bank units (R338, R339, R355) and the end of a sequence, for NBU_RUN, OPT_STEP and
decode attention. -/
namespace Sys2Proof.Machine

/-- The NBUs that a command waiting for the dispatcher names (R334, R401, R422). -/
def State.nbusOf (s : State) (c : Cmd) : List (Nat × Nat) := match c.work with
  | .attn _ leases _ _ => s.attnNbus (s.polderOf c) leases
  | .opt _ td _ _ => optNbus td
  | _ => nbuNamed c.desc

/-- A ready command may be dispatched: fewer than 64 run, every NBU it names is idle, and none of them is reserved by an
earlier one (R338). -/
def State.mayDispatch (s : State) (c : Cmd) : Bool :=
  let names := s.nbusOf c
  let before := (s.nbuReady.takeWhile (· != c.id)).flatMap (fun i => ((s.cmd? i).map s.nbusOf).getD [])
  !s.halted && s.nbuReady.contains c.id && decide (c.phase = .running) && decide (s.nbuRunning < 64) &&
  names.all (fun n => (s.nbu n.1 n.2).isNone && !before.contains n && !s.calibrating n.1)

/-- The first retired byte that a command's declared ranges touch (R355). -/
def State.retiredOf (s : State) (c : Cmd) : Option Nat := match c.work with
  | .attn _ _ _ _ => none
  | .opt _ td _ _ => (s.rule (opSlot c.desc)).bind (fun r => s.optRetired r c.desc td)
  | _ => s.nbuRetired c.desc

/-- The dispatcher starts a command: its NBUs begin their sequences. -/
def State.dispatch (s : State) (c : Cmd) : State :=
  match s.retiredOf c with
  | some a => { s.failCmd c.id (St.retired, a) with nbuReady := s.nbuReady.filter (· != c.id) }
  | none =>
    let names := s.nbusOf c
    let s := { s with nbuReady := s.nbuReady.filter (· != c.id) }
    match c.work with
    | .attn dim l plan _ => (s.beginSeqs names (fun col bank => newSeq c.id col bank [] 0 0 0 0 [])).setWork c.id (.attn dim l plan names)
    | .opt _ td n delta =>
      let extra := fun bank => ((s.rule (opSlot c.desc)).map (fun r => optDeclared r c.desc td bank)).getD []
      let seed := s.nat (Reg.precSeed c.ctx)
      (s.beginSeqs names (fun col bank =>
        { newSeq c.id col bank [] 0 0 0 0 [] with extra := extra bank, gen := nbuSeed seed col bank c.slot })).setWork c.id (.opt names td n delta)
    | _ =>
      let d := c.desc
      let args := (List.range 4).map (fun i => BitVec.ofNat 32 (dfld d (0x30 + 4 * i) 4))
      let prog := (s.program (dfld d 0x10 2)).getD []
      (s.beginSeqs names (fun col bank =>
        newSeq c.id col bank prog (dfld d 0x1C 4) (dfld d 0x20 4) (dfld d 0x24 4) (dfld d 0x28 4) args)).setWork c.id (.nbu names)

/-- A firmware program's NBU may go on to its end: its command runs and nothing holds the NBU (R357, R536). -/
def State.firmwareIssues (s : State) (q : NbuSeq) : Bool := match s.cmd? q.cmd with
  | some c => decide (c.phase = .running) && s.nbuIssues c q.col q.bank
  | none => true

/-- An NBU program of the firmware does its work on one NBU; a run that stops ends the command (R354). Its cycles are counted; the manual
does not give them (R362, log entry 19). -/
def State.firmwareWork (s : State) (q : NbuSeq) (c : Cmd) : State :=
  let p := s.polderOf c
  let run : Run Unit := match c.work with
    | .attn dim leases plan _ => Run.attnPartial (reqNbu c) c p dim leases plan (q.col, q.bank)
    | .opt _ td _ _ => match s.rule (opSlot c.desc) with
      | some r => Run.optSlotRun c r td p q none
      | none => pure ()
    | _ => pure ()
  let s := ((s.warnDuty q).addCnt Reg.nbuCntBusy (Config.freeNat s.freeCtr)).fresh
  s.runOn c.id run

/-- The sequence of an NBU ends: a clash takes its effect, a firmware program its own, and with the last of its sequences the
command's units have ended (R339, R351). The NBUs of a decode stay reserved until its commit (R401). -/
def State.sequenceEnd (s : State) (q : NbuSeq) : State :=
  match s.cmd? q.cmd with
  | none => s.setNbu q.col q.bank none
  | some c =>
    if c.phase ≠ .running then s
    else
      let s := s.runOwed q.col q.bank
      let here := (q.col, q.bank)
      match c.work with
      | .nbu left =>
        let left := left.filter (· != here)
        let s := (s.setNbu q.col q.bank none).setWork c.id (.nbu left)
        if left.isEmpty then s.endCmd c.id St.ok none else s
      | .attn dim l plan left =>
        if left.contains here then
          let s := (s.firmwareWork q c).updCmd c.id (fun x => { x with work := .attn dim l plan (left.filter (· != here)) })
          s.setNbu q.col q.bank ((s.nbu q.col q.bank).map (fun x => { x with ended := true }))
        else s
      | .opt left _ _ _ =>
        if !left.contains here then s
        else
          let s := s.resolveClash q
          let s := s.firmwareWork q c
          let s := s.resolveClash { q with stored := [] }
          let s := s.updCmd c.id (fun x => match x.work with
            | .opt l td n delta => { x with work := .opt (l.filter (· != here)) td n delta }
            | _ => x)
          let s := s.setNbu q.col q.bank none
          match s.cmd? c.id with
          | some x =>
            if x.phase ≠ .running then (s.optCut x).releaseNbus c.id
            else if left = [here] then
              let s := s.endCmd c.id St.ok none
              s.optSend c.id (s.endedOk c.id)
            else s
          | none => s
      | _ => s

/-- The combiner of a decode runs once every partial has been written (R401). -/
def State.combine (s : State) (c : Cmd) : State :=
  match c.work with
  | .attn dim leases _ [] =>
    if decide (c.phase = .running) && !s.nbuReady.contains c.id then
      let p := s.polderOf c
      let names := s.attnNbus p leases
      s.runEnd c.id (Run.attnCombine (reqBd c) c p dim leases names)
    else s
  | _ => s

end Sys2Proof.Machine
end

