-- ==== Sys2Proof/Machine/Attention.lean ====
section
/-! DEFINITION. The rows of attention and of the parameter update: ATTN_FWD, ATTN_COMBINE, ATTN_BWD and OPT_STEP. -/
namespace Sys2Proof.Machine

/-- ATTN_FWD (R384, R391–R394, R397–R401). -/
def doAttnFwd (id : Nat) (env : Env) (s : State) : State :=
  match s.starts id 0x10 with
  | none => s
  | some c => s.launch c (fun c => (s.arrive env).attnForward c)
/-- ATTN_FWD. -/
def execAttnFwd (id : Nat) (env : Env) (s : State) : Res := guarded (Instr.attnFwd id env).wf s (doAttnFwd id env)

/-- ATTN_COMBINE (R401). -/
def doAttnCombine (id : Nat) (env : Env) (s : State) : State :=
  match s.cmd? id with
  | none => s
  | some c => if c.op = 0x10 then (s.arrive env).combine c else s
/-- ATTN_COMBINE. -/
def execAttnCombine (id : Nat) (env : Env) (s : State) : Res := guarded (Instr.attnCombine id env).wf s (doAttnCombine id env)

/-- ATTN_BWD (R384, R391–R393, R395, R396). -/
def doAttnBwd (id : Nat) (env : Env) (s : State) : State :=
  match s.starts id 0x11 with
  | none => s
  | some c => s.launch c (fun c => (s.arrive env).attnBackward c)
/-- ATTN_BWD. -/
def execAttnBwd (id : Nat) (env : Env) (s : State) : Res := guarded (Instr.attnBwd id env).wf s (doAttnBwd id env)

/-- OPT_STEP (R411–R429, R432). -/
def doOptStep (id : Nat) (env : Env) (s : State) : State :=
  match s.starts id 0x20 with
  | none => s
  | some c => (s.arrive env).optStart c
/-- OPT_STEP. -/
def execOptStep (id : Nat) (env : Env) (s : State) : Res := guarded (Instr.optStep id env).wf s (doOptStep id env)

end Sys2Proof.Machine
end

