-- ==== Sys2Proof/Machine/NetOps.lean ====
section
/-! DEFINITION. Counters (R269–R272), the DMA engine (R265–R267) and its transfers to fabric peers (R457). -/
namespace Sys2Proof.Machine

/-! ### Counters -/

/-- Which counter a reference of a polder names, where it exists: scope, unit or polder, and index. -/
def ctrKey (polder : Nat) (c : CtrRef) : Nat × Nat × Nat := (c.scope, if c.scope = 2 then polder else if c.scope = 3 then 255 else c.unit, c.index)

/-- The place of a polder or device counter. -/
def State.ctrHome (s : State) (polder : Nat) (c : CtrRef) : Option (Nat × Nat) :=
  s.image.bind (fun im => im.counterHome (if c.scope = 2 then polder else 255) c.index)

/-- The value of a counter; none where its place in shared memory cannot be read (R260). -/
def State.ctrGet (s : State) (polder : Nat) (c : CtrRef) : Option Nat × State :=
  if c.scope = 0 then (some (s.nat (Reg.coreCounter c.unit c.index)), s)
  else if c.scope = 1 then (some (s.nat (Reg.coreClusterCounter c.unit c.index)), s)
  else match s.ctrHome polder c with
    | none => (none, s)
    | some (cl, off) =>
      let r := s.sharedRead cl off 4
      (r.1.map leNat, r.2)

/-- A counter set. -/
def State.ctrSet (s : State) (polder : Nat) (c : CtrRef) (v : Nat) : State :=
  if c.scope = 0 then s.setNat (Reg.coreCounter c.unit c.index) v
  else if c.scope = 1 then s.setNat (Reg.coreClusterCounter c.unit c.index) v
  else match s.ctrHome polder c with
    | none => s
    | some (cl, off) => s.sharedWrite cl off (leBytes 4 v)

/-- WAIT_GE holds of a counter's value (R269). -/
def waitHolds (counter value : Nat) : Bool := decide ((counter + 2 ^ 32 - value % 2 ^ 32) % 2 ^ 32 < 2 ^ 31)

/-- VALUE of a COUNTER_OP. -/
def ctrValue (d : Desc) : Nat := dfld d 0x1C 4

/-- The waits on a counter that its new value satisfies are woken (R272). -/
def State.wake (s : State) (key : Nat × Nat × Nat) (v : Nat) : State :=
  let ids := (s.cmds.filter (fun c => decide (c.phase = .running) && decide (c.work = .wait) &&
    decide (ctrKey (s.polderOf c) (ctrRef c.desc 0x10) = key) && waitHolds v (ctrValue c.desc))).map (fun c => c.id)
  ids.foldl (fun (s : State) i => s.endCmd i St.ok none) s

/-- The home of a counter refuses operations from outside (R287): the core's dike, or the polder's for what lies in it; device
counters are served. -/
def State.ctrFenced (s : State) (c : CtrRef) (polder : Nat) : Bool :=
  if c.scope = 0 then s.fencedCore c.unit
  else if c.scope = 1 then s.fencedCluster c.unit
  else if c.scope = 2 then s.bit Reg.dikePolder polder || s.resets.jobs.any (fun j => decide (4 ≤ j.level))
  else s.resets.jobs.any (fun j => decide (4 ≤ j.level))

/-- The internal address of a polder or device counter; a register's counter has none. -/
def State.ctrAddr (s : State) (polder : Nat) (c : CtrRef) : Nat :=
  match s.ctrHome polder c with
  | some (cl, off) => 2 ^ 40 + 2 ^ 32 * cl + off
  | none => 0

/-- A command whose counter operation has answered a status ends (R260, R162): a counter word that cannot be read leaves its
address. -/
def State.ctrEnd (s : State) (id polder : Nat) (c : CtrRef) (st : Nat) : State :=
  if st = St.uncorrectable then s.failCmd id (st, s.ctrAddr polder c) else s.endCmd id st none

/-- An ADD at its home (R269, R272): the status with which it ends. -/
def State.ctrAdd (s : State) (polder : Nat) (c : CtrRef) (v : Nat) : Nat × State :=
  if s.ctrFenced c polder then (St.fenced, s)
  else match s.ctrGet polder c with
    | (none, s) => (St.uncorrectable, s)
    | (some x, s) =>
      let y := (x + v) % 2 ^ 32
      (St.ok, (s.ctrSet polder c y).wake (ctrKey polder c) y)

/-! ### DMA -/

/-- ENDPOINT. -/
def dmaEp (d : Desc) : Nat := dfld d 0x2A 2
/-- XFLAGS.SIGNAL. -/
def dmaSignal (d : Desc) : Bool := Machine.bit (dbyte d 0x2C) 0

/-- The cores on whose DMA engines a local transfer runs, with the bytes each writes. -/
def State.dmaShares (s : State) (c : Cmd) : List (Nat × Nat) := (dmaSegs (dmaLen c.desc)).zipIdx.map (fun x => (s.dmaCore c x.2, x.1.2))

/-- The bytes to write at the destination: those of the source, but undefined where the ranges overlap (R265). -/
def dmaBytes (src dst n : Nat) (bs : List Byte) (free : List Byte) : List Byte :=
  if overlap src n dst n then
    bs.zipIdx.map (fun b => if src ≤ dst + b.2 && decide (dst + b.2 < src + n) then free.getD b.2 0 else b.1)
  else bs

/-- A segment of a DMA inside the module: the engine's core, its place in the transfer, and its length. -/
def State.dmaParts (s : State) (c : Cmd) : List (Nat × Nat × Nat) :=
  (dmaSegs (dmaLen c.desc)).zipIdx.map (fun x => (s.dmaCore c x.2, x.1.1, x.1.2))

/-- A segment read. -/
def Run.dmaRead (c : Cmd) (p : Nat) (x : Nat × Nat × Nat) : Run (List Byte) :=
  Run.read (reqDma c x.1) p (c.addr 0x10 + x.2.1) x.2.2
/-- A segment written. -/
def Run.dmaPut (c : Cmd) (p : Nat) (x : Nat × Nat × Nat) (bs : List Byte) : Run Unit := do
  Run.write (reqDma c x.1) c.id p (c.addr 0x18 + x.2.1) bs
  modify (fun s => s.addCnt (Reg.coreCntDma x.1) x.2.2)

/-- A DMA inside the module (R265): segment by segment; where the ranges overlap, all is read before anything is written, and the bytes
of the overlap are free. -/
def Run.dmaLocal (c : Cmd) (p : Nat) : Run Unit := do
  let parts := (← get).dmaParts c
  let n := dmaLen c.desc
  if overlap (c.addr 0x10) n (c.addr 0x18) n then
    let data ← parts.mapM (Run.dmaRead c p)
    let out := dmaBytes (c.addr 0x10) (c.addr 0x18) n data.flatten ((← get).freeBytes n)
    modify State.fresh
    for x in parts do Run.dmaPut c p x (lslice out x.2.1 x.2.2)
  else
    for x in parts do Run.dmaPut c p x (← Run.dmaRead c p x)

/-- A multicast (R266): the source is read once, and every destination core receives the data; a destination that refuses does
not keep the others from it (R287). -/
def Run.dmaTree (c : Cmd) (p : Nat) (t : TreeRec) : Run Unit := do
  let rq := fun col => if t.bdRoot then reqBdDma c else reqDma c t.source col
  let off := addrOff (c.addr 0x18)
  let bs ← Run.read rq p (c.addr 0x10) (dmaLen c.desc)
  let mut bad : Option Fail := none
  for n in bitsOf 256 t.dest do
    let s ← get
    match Run.write rq c.id p (2 * 2 ^ 40 + n * 2 ^ 32 + off) bs s with
    | .ok _ s => set (if t.bdRoot then s else s.addCnt (Reg.coreCntDma t.source) (dmaLen c.desc))
    | .error e s => do
      set s
      if bad.isNone then bad := some e
  match bad with
  | some e => throw e
  | none => pure ()

/-- The signal at the end of a DMA, and its status (R267). -/
def State.dmaEnd (s : State) (c : Cmd) : State :=
  if dmaSignal c.desc then
    let r := s.ctrAdd (s.polderOf c) (ctrRef c.desc 0x30) 1
    r.2.ctrEnd c.id (s.polderOf c) (ctrRef c.desc 0x30) r.1
  else s.endCmd c.id St.ok none

/-- WRITE frames of a segment (R446, R457): at most 4,096 bytes each; the last of the message carries LAST, and with SIGNAL
the last of the transfer ORDERED (R452). -/
def State.sendWrites (s : State) (c : Cmd) (base : Nat) (data : List Byte) (final : Bool) : State :=
  let dst := c.addr 0x18
  let ps := chunks 4096 data
  let s := { s with fab := { s.fab with msg := (s.fab.msg + 1) % 2 ^ 32 } }
  ps.zipIdx.foldl (fun (s : State) x =>
    let last := decide (x.2 + 1 = ps.length)
    let fl := b2n last + (if last && final && dmaSignal c.desc then 4 else 0)
    s.sendSeq (addrDevice dst) 0x01 fl s.fab.msg
      (beBytes 2 (dmaEp c.desc) ++ [0, 0] ++ beBytes 4 (addrPeerOff dst + base + 4096 * x.2)) x.1 (some c.id)) s

/-- A DMA to a fabric peer (R457): its segments as WRITE frames. -/
def Run.dmaOut (c : Cmd) (p : Nat) : Run Unit := do
  let segs := dmaSegs (dmaLen c.desc)
  for x in segs.zipIdx do
    let n := (← get).dmaCore c x.2
    let bs ← Run.read (reqDma c n) p (c.addr 0x10 + x.1.1) x.1.2
    modify (fun s => (s.sendWrites c x.1.1 bs (decide (x.2 + 1 = segs.length))).addCnt (Reg.coreCntDma n) x.1.2)

/-- A DMA from a fabric peer (R457): one READ_REQ for each segment; with SIGNAL the last carries ORDERED (R452). -/
def State.dmaIn (s : State) (c : Cmd) : State :=
  let src := c.addr 0x10
  let n := (dmaSegs (dmaLen c.desc)).length
  (dmaSegs (dmaLen c.desc)).zipIdx.foldl (fun (s : State) x =>
    let final := decide (x.2 + 1 = n) && dmaSignal c.desc
    let x := x.1
    let d := addrDevice src
    let psn := (s.flow d).next
    let s := { s with fab := { s.fab with msg := (s.fab.msg + 1) % 2 ^ 32 } }
    let s := s.sendSeq d 0x02 (if final then 5 else 1) s.fab.msg
      (beBytes 2 (dmaEp c.desc) ++ [0, 0] ++ beBytes 4 (addrPeerOff src + x.1) ++ beBytes 4 x.2) [] (some c.id)
    s.updCmd c.id (fun k => match k.work with
      | .fabric w => { k with work := .fabric (w ++ [(2 ^ 32 * d + psn, x.1, x.2)]) }
      | _ => k)) s

/-- Segments of a transfer with a fabric peer that have not ended (R265, R457): a request whose data is to come, or a WRITE frame that is
not acknowledged. -/
def State.openSegs (s : State) (c : Cmd) : List Nat :=
  match c.work with
  | .fabric want =>
    let reads := (want.filter (fun w => decide (w.2.2 ≠ 0))).map (fun w => w.2.1 / 65536)
    let writes := s.fab.flows.flatMap (fun e => match e.2 with
      | some f => (f.unacked.filter (fun t => t.owner == some c.id && t.typ == 0x01)).map
          (fun t => (beNat (lslice t.area 4 4) - addrPeerOff (c.addr 0x18)) / 65536)
      | none => [])
    (reads ++ writes).eraseDups
  | _ => []

/-- The stays of a transfer on cores whose segments have all ended come to their end. -/
def State.closeSegs (s : State) (c : Cmd) : State :=
  let busy := (s.openSegs c).map (s.dmaCore c)
  { s with resets := { s.resets with spans := s.resets.spans.map (fun x =>
      if x.cmd = c.id && x.till.isNone && !busy.contains x.core then { x with till := some s.tick } else x) } }

/-- Frames of a command that have not been acknowledged (R455). -/
def State.unackedOf (s : State) (id : Nat) : Nat :=
  s.fab.flows.foldl (fun n e => n + (match e.2 with
    | some f => f.unacked.countP (fun t => t.owner == some id)
    | none => 0)) 0

/-- A transfer whose frames are acknowledged and whose data has come ends (R455, R267). -/
def State.fabricCheck (s : State) (id : Nat) : State :=
  match s.cmd? id with
  | none => s
  | some c => match c.phase, c.work with
    | .running, .fabric want =>
      if s.unackedOf id = 0 && want.all (fun w => decide (w.2.2 = 0)) then (s.dmaEnd c).spanEnd id else s.closeSegs c
    | _, _ => s

/-- The stays of a DMA on its cores' engines begin. -/
def State.dmaSpans (s : State) (c : Cmd) : State :=
  (((s.dmaShares c).map (fun x => x.1)).eraseDups).foldl (fun (s : State) n => s.spanStart n c) s

/-- A DMA runs (R265–R267, R457). -/
def State.dmaRun (s : State) (c : Cmd) : State :=
  let p := s.polderOf c
  let ended := fun (r : Run Unit) (s : State) => match r s with
    | .ok _ s => (s.dmaEnd c).spanEnd c.id
    | .error e s => (match e.addr with
      | some a => s.failCmd c.id (e.status, a)
      | none => s.endCmd c.id e.status none).spanEnd c.id
  if addrSpace (c.addr 0x18) = 0x20 then
    let s := (s.beginCmd c.id (.fabric [])).dmaSpans c
    match Run.dmaOut c p s with
    | .ok _ s => s
    | .error e s => (s.failCmd c.id (e.status, e.addr.getD 0)).spanEnd c.id
  else if addrSpace (c.addr 0x10) = 0x20 then ((s.beginCmd c.id (.fabric [])).dmaSpans c).dmaIn c
  else
    let s := s.beginCmd c.id .none
    if dmaTree c.desc = 0xFFFF then ended (Run.dmaLocal c p) (s.dmaSpans c)
    else match s.tree? (dmaTree c.desc) with
      | none => s.endCmd c.id St.notPermitted none
      | some t => ended (Run.dmaTree c p t) (if t.bdRoot then s else s.spanStart t.source c)

/-- The checks of a DMA at fetch (R157, R265–R267, R457). -/
def State.dmaCheck (s : State) (polder : Nat) (d : Desc) : Nat :=
  let src := dfld d 0x10 6
  let dst := dfld d 0x18 6
  let n := dmaLen d
  let fabSrc := decide (addrSpace src = 0x20)
  let fabDst := decide (addrSpace dst = 0x20)
  let fab := fabSrc || fabDst
  let multi := decide (dmaTree d ≠ 0xFFFF)
  let ref := ctrRef d 0x30
  let sig := if dmaSignal d then s.ctrCheck polder ref else St.ok
  let tree := s.tree? (dmaTree d)
  let srcN := match tree with
    | some t => if t.bdRoot then 0 else t.source
    | none => addrCore dst
  if n = 0 || decide (2 ^ 32 < n) || decide (2 ≤ dbyte d 0x2C) || !rangeOk src n || !rangeOk dst n || (fabSrc && fabDst) || (fab && multi) ||
      (dmaSignal d && decide (ref.resv ≠ 0)) || (multi && (decide (addrSpace dst ≠ 2) || decide (addrCore dst ≠ srcN))) then St.badDescriptor
  else if sig = St.badDescriptor then sig
  else if fab && s.needsHigh (addrDevice (if fabSrc then src else dst)) then St.absentUnit
  else if multi && (match tree with
    | some t => decide (t.owner ≠ polder)
    | none => true) then St.notPermitted
  else if fab && s.local?.isNone then St.notPermitted
  else if fab && (match s.peer polder (addrDevice (if fabSrc then src else dst)) with
    | some r => !r.rights.testBit (if fabSrc then 0 else 1) || decide (dmaEp d < r.epFirst) || decide (r.epFirst + r.epCount ≤ dmaEp d)
    | none => true) then St.notPermitted
  else
    let a := if fabSrc then St.ok else s.rangeCheck .dma polder src n 1
    let b := if fabDst || multi then St.ok else s.rangeCheck .dma polder dst n 2
    if a ≠ St.ok then a else if b ≠ St.ok then b else sig

end Sys2Proof.Machine
end

