-- ==== Sys2Proof/Machine/FabHdr.lean ====
section
/-! DEFINITION. The header of a Ralwick datagram as it is received (R445, R446), and what the receiver can do with a frame. -/
namespace Sys2Proof.Machine

/-! ### Frames -/

/-- The header of a received datagram (R445) with its type area and payload. -/
structure Hdr where
  version : Nat
  typ : Nat
  flags : Nat
  tag : Nat
  src : Nat
  dst : Nat
  gen : Nat
  len : Nat
  psn : Nat
  msg : Nat
  area : List Byte
  payload : List Byte
  deriving DecidableEq, Repr

/-- The fields of a datagram: big-endian, but for CFG_TAG. -/
def parseHdr (b : List Byte) : Hdr :=
  { version := lbyte b 0, typ := lbyte b 1, flags := beNat (lslice b 2 2), tag := lsub b 4 4,
    src := beNat (lslice b 8 2) % 4096, dst := beNat (lslice b 10 2) % 4096, gen := beNat (lslice b 12 2),
    len := beNat (lslice b 14 2), psn := beNat (lslice b 16 4), msg := beNat (lslice b 20 4),
    area := lslice b 24 16, payload := lslice b 40 (beNat (lslice b 14 2)) }

/-- A big-endian field of the type area, by its offset in the datagram. -/
def Hdr.be (h : Hdr) (off size : Nat) : Nat := beNat (lslice h.area (off - 0x18) size)

/-- A frame takes part in the sequence (R447): every frame but ACK, NAK and an UNSEQ GRANT. -/
def Hdr.sequenced (h : Hdr) : Bool := decide (h.typ ≠ 0x10) && decide (h.typ ≠ 0x11) && !(decide (h.typ = 0x60) && Machine.bit h.flags 1)

/-- The tag of a frame type is checked (R446). -/
def tagChecked (typ : Nat) : Bool := typ = 0x01 || typ = 0x02 || typ = 0x03 || typ = 0x20 || decide (0x30 ≤ typ ∧ typ ≤ 0x33) || typ = 0x61

/-- The types of R446 and R603; 0x34 to 0x3F are reserved. -/
def typeKnown (typ : Nat) : Bool := tagChecked typ || typ = 0x10 || typ = 0x11 || typ = 0x40 || typ = 0x50 || typ = 0x51 || typ = 0x60

/-- The CASCADE record of the image in force. -/
def State.group? (s : State) : Option CascadeRec := s.image.bind (fun im => im.cascade.head?)

/-- What the receiver does with a frame whose turn has come: it is accepted, answered with a NAK, or discarded unanswered. -/
inductive Verdict where
  | accept
  | nak (status : Nat)
  | discard
  deriving DecidableEq, Repr

/-- `a` comes before `b` in the sequence of PSNs modulo 2^32. -/
def psnBefore (a b : Nat) : Bool := let d := (b + 2 ^ 32 - a) % 2 ^ 32; decide (0 < d) && decide (d < 2 ^ 31)

end Sys2Proof.Machine
end

