-- ==== Sys2Proof/Machine/CollOps.lean ====
section
/-! DEFINITION. Collectives (R461–R466): the checks of a descriptor, chunks and ring steps, the reductions, and received
COLL_DATA frames. -/
namespace Sys2Proof.Machine

/-! ### Descriptor fields (R156) -/

/-- COUNT. -/
def clCount (d : Desc) : Nat := dfld d 0x20 8
/-- EPOCH. -/
def clEpoch (d : Desc) : Nat := dfld d 0x28 4
/-- COLL_ID. -/
def clId (d : Desc) : Nat := dfld d 0x2C 2
/-- OP (R462). -/
def clOp (d : Desc) : Nat := dbyte d 0x2E
/-- FMT. -/
def clFmt (d : Desc) : Nat := dbyte d 0x2F
/-- ROOT. -/
def clRoot (d : Desc) : Nat := dfld d 0x32 2
/-- MARGIN, with 0xFF for VOTE_MARGIN. -/
def State.clMargin (s : State) (d : Desc) : Nat := if dbyte d 0x30 = 0xFF then s.inforce Key.voteMargin else dbyte d 0x30

/-- The collective set of a polder, in rank order (R461). -/
def State.collSet (s : State) (p : Nat) : List Nat :=
  let ds := (s.peersOf p).filter (fun d => s.peerRight p d 2 && d != s.device)
  ds.filter (· < s.device) ++ s.device :: ds.filter (s.device < ·)

/-- The module's rank in a polder's set. -/
def State.collRank (s : State) (p : Nat) : Nat := ((s.collSet p).findIdx? (· == s.device)).getD 0

/-- Device of the next rank. -/
def State.collNext (s : State) (p : Nat) : Nat := let m := s.collSet p; m.getD ((s.collRank p + 1) % m.length) 0

/-- Device of the rank before. -/
def State.collPrev (s : State) (p : Nat) : Nat := let m := s.collSet p; m.getD ((s.collRank p + m.length - 1) % m.length) 0

/-- Bytes of one element of the working data: a number, a byte, or an 8-bit count. -/
def clElem (d : Desc) : Nat := if clOp d ≤ 1 then (if clFmt d = Fm.fp32 then 4 else 2) else 1

/-- Bytes of SRC (R462). -/
def clSrcLen (d : Desc) (n : Nat) : Nat :=
  if clOp d ≤ 1 then clCount d * clElem d else if clOp d = 2 then clCount d / n else if clOp d = 3 then clCount d else clCount d / 8

/-- Bytes of DST (R462); SIGN_VOTE writes signs and zero mask. -/
def clDstLen (d : Desc) (n : Nat) : Nat :=
  if clOp d = 0 then clCount d * clElem d else if clOp d = 1 then clCount d / n * clElem d
  else if clOp d = 4 then clCount d / 4 else clCount d

/-- The module reads SRC: every member does, but of a broadcast only the root. -/
def State.clReads (s : State) (d : Desc) : Bool := decide (clOp d ≠ 3) || decide (clRoot d = s.device)

/-- A space that a collective's operands may lie in (R462). -/
def clSpace (a : Nat) : Bool := decide (addrSpace a ≤ 1) || isHost a

/-- An operand's range, which may be empty. -/
def clRange (a n : Nat) : Bool := clSpace a && (if n = 0 then addrOk a else rangeOk a n)

/-- The checks of a COLLECTIVE at fetch (R157, R462). -/
def State.collectiveCheck (s : State) (polder : Nat) (d : Desc) : Nat :=
  let n := (s.collSet polder).length
  let op := clOp d
  let c := clCount d
  let countOk := if op = 0 || op = 3 then decide (1 ≤ c) else if op = 4 then decide (c % (512 * n) = 0) && decide (n ≤ 255)
    else decide (c % n = 0)
  if decide (4 < op) || !countOk || !(if op ≤ 1 then clFmt d = Fm.bf16 || clFmt d = Fm.fp32 else clFmt d = 0xFF) ||
      decide (2 ^ 40 < clSrcLen d n) || decide (2 ^ 40 < clDstLen d n) ||
      !clRange (dfld d 0x10 6) (if s.clReads d then clSrcLen d n else 0) || !clRange (dfld d 0x18 6) (clDstLen d n) ||
      !(dbyte d 0x30 ≤ 127 || dbyte d 0x30 = 0xFF) ||
      !(if op = 3 then (s.collSet polder).contains (clRoot d) else clRoot d = 0) then St.badDescriptor
  else if decide (1 < n) && (s.needsHigh (s.collNext polder) || s.needsHigh (s.collPrev polder)) then St.absentUnit
  else if decide (op ≤ 1) && !s.formatOk polder (clFmt d) then St.notPermitted
  else
    let a := if s.clReads d && decide (0 < clSrcLen d n) then s.rangeCheck .bd polder (dfld d 0x10 6) (clSrcLen d n) 1 else St.ok
    if a ≠ St.ok then a else if 0 < clDstLen d n then s.rangeCheck .bd polder (dfld d 0x18 6) (clDstLen d n) 2 else St.ok

/-! ### Chunks and steps (R463) -/

/-- Chunk `j`: start and length in bytes of the working data. -/
def clChunk (d : Desc) (n j : Nat) : Nat × Nat :=
  let a := j * clCount d / n
  (a * clElem d, ((j + 1) * clCount d / n - a) * clElem d)

/-- Chunk `j` of the gathered data: of a SIGN_VOTE its sign bytes and then its zero bytes. -/
def clGathered (d : Desc) (n j : Nat) : Nat × Nat :=
  if clOp d = 4 then (j * (clCount d / n / 4), clCount d / n / 4) else clChunk d n j

/-- Ring steps of the command in all. -/
def clSteps (d : Desc) (n : Nat) : Nat := if clOp d = 0 || clOp d = 4 then 2 * (n - 1) else if clOp d = 3 then 0 else n - 1

/-- A step belongs to the reduce phase. -/
def clReduces (d : Desc) (n step : Nat) : Bool := clOp d ≠ 2 && decide (step < n - 1)

/-- Step of the gather phase. -/
def clGatherStep (d : Desc) (n step : Nat) : Nat := if clOp d = 2 then step else step - (n - 1)

/-- The chunk that rank `r` sends at a step. -/
def clSends (d : Desc) (n r step : Nat) : Nat :=
  if clReduces d n step then (r + 2 * n - step - 1) % n else (r + n - clGatherStep d n step) % n

/-- The chunk that rank `r` receives at a step: the one its predecessor sends. -/
def clReceives (d : Desc) (n r step : Nat) : Nat := clSends d n ((r + n - 1) % n) step

/-- A range of a byte list replaced. -/
def listPut (l : List Byte) (off : Nat) (bs : List Byte) : List Byte := l.take off ++ bs ++ l.drop (off + bs.length)

/-- FP32 sum rounded to FMT: an overflow is an infinity (R463, R232). -/
def clRound (fmt : Nat) (free : Word) : Num → Nat
  | .nan => nanBits fmt free
  | .inf s => if fmt = Fm.fp32 then b2n s * 2 ^ 31 + 0x7F800000 else b2n s * 2 ^ 15 + 0x7F80
  | .fin s m e =>
    if fmt = Fm.fp32 then ieeePack 8 23 s m e
    else
      let q := roundMag .nearest 8 (-1000000) m e 1
      if (Num.fin false 1 128).le (.fin false q.1 q.2) then b2n s * 2 ^ 15 + 0x7F80 else ieeePack 8 7 s q.1 q.2

/-- One element reduced: a sum in FMT, or a sum of 8-bit counts (R463, R464). -/
def clAdd (d : Desc) (free : Word) (a b : List Byte) : List Byte :=
  if clOp d = 4 then leBytes 1 (leNat a + leNat b)
  else leBytes (clElem d) (clRound (clFmt d) free ((elemValue (clFmt d) (leNat a)).fadd (elemValue (clFmt d) (leNat b))))

/-- A partial added into the module's own values. -/
def clAddAll (d : Desc) (ctr : Nat) (own part : List Byte) : List Byte :=
  (((chunks (clElem d) own).zip (chunks (clElem d) part)).zipIdx).flatMap (fun x => clAdd d (Config.freeWord (ctr + x.2)) x.1.1 x.1.2)

/-- Result of an element of a SIGN_VOTE: sign bit and zero bit (R464). -/
def clVote (n margin votes : Nat) : Bool × Bool :=
  let d : Int := (n : Int) - votes - votes
  if (margin : Int) < d then (false, false) else if d < -(margin : Int) then (true, false) else (false, true)

/-- Bits packed into bytes, the first in bit 0. -/
def packBits (l : List Bool) : List Byte :=
  (chunks 8 l).map (fun g => BitVec.ofNat 8 ((g.zipIdx).foldl (fun a x => a + b2n x.1 * 2 ^ x.2) 0))

/-- Sign bytes and zero bytes of a chunk of counts. -/
def clVotes (n margin : Nat) (counts : List Byte) : List Byte :=
  let v := counts.map (fun b => clVote n margin b.toNat)
  packBits (v.map (fun x => x.1)) ++ packBits (v.map (fun x => x.2))

/-- The working data at the start. -/
def clInitial (d : Desc) (n r : Nat) (src : List Byte) : List Byte :=
  if clOp d = 4 then src.flatMap (fun b => (List.range 8).map (fun i => BitVec.ofNat 8 (b2n (Machine.bit b.toNat i))))
  else if clOp d = 2 then listPut (List.replicate (clCount d) 0) (clChunk d n r).1 src
  else src

/-! ### Running (R463, R466) -/

/-- COLL_DATA frames for bytes at an offset of a step, to the next rank (R446, R465). -/
def State.sendColl (s : State) (c : Cmd) (step base : Nat) (data : List Byte) : State :=
  let d := c.desc
  let ps := chunks 4096 data
  ps.zipIdx.foldl (fun (s : State) x =>
    s.sendSeq (s.collNext (s.polderOf c)) 0x20 (b2n (decide (x.2 + 1 = ps.length))) (clEpoch d)
      (beBytes 2 (clId d) ++ [BitVec.ofNat 8 (clOp d), BitVec.ofNat 8 (clFmt d)] ++ beBytes 4 (clCount d) ++ beBytes 2 step ++ [0, 0] ++
        beBytes 4 (base + 4096 * x.2)) x.1 (some c.id)) s

/-- A final chunk goes to DST (R463, R464). -/
def Run.collFinal (c : Cmd) (p n j : Nat) (bytes : List Byte) : Run Unit :=
  let d := c.desc
  let dst := c.addr 0x18
  let put := fun a bs => Run.write (fun _ => reqBd c) c.id p a bs
  if clOp d = 4 then do
    let m := clCount d / n / 8
    put (dst + j * m) (bytes.take m)
    put (dst + clCount d / 8 + j * m) (bytes.drop m)
  else if clOp d = 1 then put dst bytes
  else put (dst + (clChunk d n j).1) bytes

/-- The reduce phase ends: the rank's own chunk is final, and a SIGN_VOTE turns to sign and zero bits. -/
def Run.collTurn (c : Cmd) (p n r step : Nat) (data : List Byte) : Run (List Byte) :=
  let d := c.desc
  if decide (step = n - 1) && (clOp d = 0 || clOp d = 1 || clOp d = 4) then do
    let own := lslice data (clChunk d n r).1 (clChunk d n r).2
    let s ← get
    let fin := if clOp d = 4 then clVotes n (s.clMargin d) own else own
    Run.collFinal c p n r fin
    pure (if clOp d = 4 then listPut (List.replicate (clCount d / 4) 0) (clGathered d n r).1 fin else data)
  else pure data

/-- A step's chunk is sent. -/
def State.collSendStep (s : State) (c : Cmd) (n r step : Nat) (data : List Byte) : State :=
  let j := clSends c.desc n r step
  let ch := if clReduces c.desc n step then clChunk c.desc n j else clGathered c.desc n j
  s.sendColl c step 0 (lslice data ch.1 ch.2)

/-- Steps go on while the chunk of the present step has come whole. -/
def Run.collLoop : Nat → Nat → Run Unit
  | 0, _ => pure ()
  | fuel + 1, id => do
    let s ← get
    match s.cmd? id with
    | none => pure ()
    | some c =>
      let d := c.desc
      let p := s.polderOf c
      let n := (s.collSet p).length
      let r := s.collRank p
      match c.phase, c.work with
      | .running, .coll step data early =>
        if clSteps d n ≤ step then pure ()
        else
          let j := clReceives d n r step
          let ch := if clReduces d n step then clChunk d n j else clGathered d n j
          let mine := early.filter (fun x => x.1 == step)
          if (mine.foldl (fun a x => a + x.2.2.length) 0) < ch.2 then pure ()
          else do
            let got := (mine.foldl (fun l x => listPut l x.2.1 x.2.2) (List.replicate ch.2 0)).take ch.2
            let new := if clReduces d n step then clAddAll d s.freeCtr (lslice data ch.1 ch.2) got else got
            modify (fun s => if clReduces d n step then { s with freeCtr := s.freeCtr + ch.2 } else s)
            let data := listPut data ch.1 new
            if clReduces d n step then pure () else Run.collFinal c p n j new
            let data ← if clReduces d n step then Run.collTurn c p n r (step + 1) data else pure data
            modify (fun s => s.setWork id (.coll (step + 1) data (early.filter (fun x => x.1 != step))))
            if step + 1 < clSteps d n then modify (fun s => s.collSendStep c n r (step + 1) data) else pure ()
            Run.collLoop fuel id
      | _, _ => pure ()

/-- A collective whose DST is written and whose frames are acknowledged ends (R466). -/
def State.collCheck (s : State) (id : Nat) : State :=
  match s.cmd? id with
  | none => s
  | some c => match c.phase, c.work with
    | .running, .coll step _ _ =>
      let n := (s.collSet (s.polderOf c)).length
      let whole := if clOp c.desc = 3 then decide (clCount c.desc ≤ step) else decide (clSteps c.desc n ≤ step)
      if c.op = 0x30 && whole && decide (s.unackedOf id = 0) then s.endCmd id St.ok none else s
    | _, _ => s

/-- The source is read and the first step begins; a root passes a broadcast on, and with one member the result is copied (R461,
R463). -/
def Run.collBegin (c : Cmd) (p : Nat) : Run Unit := do
  let d := c.desc
  let s ← get
  let n := (s.collSet p).length
  let r := s.collRank p
  let src ← if s.clReads d then Run.read (fun _ => reqBd c) p (c.addr 0x10) (clSrcLen d n) else pure []
  if clOp d = 3 then
    if s.clReads d then do
      Run.write (fun _ => reqBd c) c.id p (c.addr 0x18) src
      modify (fun s => s.setWork c.id (.coll (clCount d) [] []))
      if 1 < n then modify (fun s => s.sendColl c 0 0 src) else pure ()
    else pure ()
  else do
    let data := clInitial d n r src
    if clOp d = 2 then Run.collFinal c p n r src else pure ()
    let data ← Run.collTurn c p n r 0 data
    modify (fun s => s.setWork c.id (.coll 0 data []))
    if 0 < clSteps d n then modify (fun s => s.collSendStep c n r 0 data) else pure ()
    Run.collLoop (clSteps d n + 1) c.id

/-- Collectives that run across the module (R465). -/
def State.collRunning (s : State) : Nat := s.cmds.countP (fun c => decide (c.op = 0x30) && decide (c.phase = .running))

/-- A COLLECTIVE starts (R465): at most 256 run; a second one of a polder with the COLL_ID and EPOCH of one in flight ends with
ST_BAD_DESCRIPTOR. -/
def State.collStart (s : State) (c : Cmd) : State :=
  let p := s.polderOf c
  if 256 ≤ s.collRunning then s
  else if (s.cmds.takeWhile (fun k => k.id != c.id)).any (fun k => decide (k.op = 0x30) && decide (s.polderOf k = p) &&
      decide (clId k.desc = clId c.desc) && decide (clEpoch k.desc = clEpoch c.desc)) then s.endCmd c.id St.badDescriptor none
  else ((s.beginCmd c.id (.coll 0 [] [])).runOn c.id (Run.collBegin c p)).collCheck c.id

/-! ### COLL_DATA frames (R465, R470, R118) -/

/-- Last completed epoch of a collective of a polder. -/
def State.lastEpoch (s : State) (p id : Nat) : Option Nat := SMap.get (fun _ => none) s.fab.epochs (65536 * p + id)

/-- A polder is stopped, or being stopped with its commands already ended (R118). -/
def State.collStopped (s : State) (p : Nat) : Bool :=
  match s.runState p with
  | .running => false
  | .stopping _ ab _ _ => ab && (s.polderCmds p).isEmpty
  | .stopped => true

/-- The bytes of a frame reach their instance. -/
def Run.collTake (c : Cmd) (h : Hdr) (step : Nat) (data : List Byte) (early : List (Nat × Nat × List Byte)) : Run Unit := do
  let s ← get
  let p := s.polderOf c
  let off := h.be 0x24 4
  if clOp c.desc = 3 then do
    Run.write (fun _ => reqBd c) c.id p (c.addr 0x18 + off) h.payload
    modify (fun s => s.setWork c.id (.coll (step + h.payload.length) data early))
    if s.collNext p = clRoot c.desc then pure () else modify (fun s => s.sendColl c 0 off h.payload)
  else do
    modify (fun s => s.setWork c.id (.coll step data (early ++ [(h.be 0x20 2, off, h.payload)])))
    Run.collLoop (clSteps c.desc (s.collSet p).length + 1) c.id

/-- A COLL_DATA frame (R465): it goes to the posted instance of a polder that lists its source; an older epoch is acknowledged; a
breach latch answers ST_PEER_ABORT, a stopped polder ST_FENCED, and otherwise ST_BUSY holds the sender. -/
def State.gotColl (s : State) (h : Hdr) : Verdict × State :=
  let ps := (List.range 32).filter (fun p => s.peerRight p h.src 2)
  let id := h.be 0x18 2
  let posted := s.cmds.find? (fun c => decide (c.op = 0x30) && decide (c.phase = .running) && ps.contains (s.polderOf c) && !s.hostHeld c &&
    decide (s.collPrev (s.polderOf c) = h.src) && decide (clId c.desc = id) && decide (clEpoch c.desc = h.msg))
  match (if s.flowStopped then none else posted) with
  | some c =>
    if h.be 0x1A 1 ≠ clOp c.desc || h.be 0x1B 1 ≠ clFmt c.desc || h.be 0x1C 4 ≠ clCount c.desc % 2 ^ 32 then
      (.nak St.badDescriptor, s.endCmd c.id St.badDescriptor none)
    else match c.work with
      | .coll step data early => (.accept, (s.runOn c.id (Run.collTake c h step data early)).collCheck c.id)
      | _ => (.nak St.busy, s)
  | none =>
    if s.flowStopped then (.nak St.busy, s)
    else if ps.any (fun p => s.bit (Reg.fabBreach p) 31) then (.nak St.peerAbort, s)
    else if ps.any s.collStopped then (.nak St.fenced, s)
    else if ps.any (fun p => match s.lastEpoch p id with
      | some e => decide (h.msg < e)
      | none => false) then (.accept, s)
    else (.nak St.busy, s)

end Sys2Proof.Machine
end

