-- ==== Sys2Proof/Machine/ParityRx.lean ====
section
/-! DEFINITION. Shard parity on the holders and in a rebuild: enabling a group (R585, R586), deltas received (R590), units read for
helpers (R593), and the rebuild of lost units (R592–R594, R599). -/
namespace Sys2Proof.Machine

/-! ### Group entries -/

/-- A check of R585 fails: PAR_STATUS names the group and the check. -/
def State.grpErr (s : State) (g code : Nat) : State :=
  ((s.setBit Reg.parStatus 8 true).setFld Reg.parStatus 15 12 code).setFld Reg.parStatus 23 16 g

/-- Devices of the eighteen entries. -/
def State.parDevs (s : State) (g : Nat) : List Nat := (List.range 18).map (s.parDev g)

/-- Tag table of a group. -/
def State.parTag (s : State) (g : Nat) : Nat := s.nat (Reg.parGrpTagLo g) + 2 ^ 32 * s.fld (Reg.parGrpTagHi g) 15 0

/-- Extents of a shard map: ADDR with its reserved bits, and LENGTH (R584). -/
def mapRecords (bs : List Byte) : List (Nat × Nat) := (chunks 16 bs).map (fun r => (lsub r 0 8, lsub r 8 8))

/-- The shard map as it lies in memory; none where it cannot be read. -/
def State.readMap (s : State) (g : Nat) : Option (List (Nat × Nat)) × State :=
  let r := s.readRange (fun _ => Req.bd) (s.parPolder g) (s.nat (Reg.parGrpMapLo g) + 2 ^ 32 * s.fld (Reg.parGrpMapHi g) 15 0)
    (16 * s.fld (Reg.parGrpMapCount g) 16 0)
  match r.err with
  | some _ => (none, r.st)
  | none => (some (mapRecords r.data), r.st)

/-- No two ranges of a list share a byte. -/
def apart : List (Nat × Nat) → Bool
  | [] => true
  | x :: l => l.all (fun y => !overlap x.1 x.2 y.1 y.2) && apart l

/-- A range of stack DRAM that a polder may read and write. -/
def State.rwDram (s : State) (p a n : Nat) : Bool :=
  decide (addrSpace a = 0) && rangeOk a n && s.granted p (addrCore a) (addrOff a) n 3

/-- The checks of R585 in order, on the entry with its new control word: the code of the first that fails, or 0; and the map. -/
def State.grpCheck (s : State) (g : Nat) (v : Word) : Nat × List (Nat × Nat) × State :=
  let k := s.parK g
  let m := s.parM g
  let sh := s.parShard g
  let p := s.parPolder g
  let u := s.parUnits g
  let devs := s.parDevs g
  let used := devs.take (k + m)
  if k = 0 || decide (14 < k) || m = 0 || decide (4 < m) || decide (k + m ≤ sh) || u = 0 ||
      s.fld (Reg.parGrpMapCount g) 16 0 = 0 || decide (65536 < s.fld (Reg.parGrpMapCount g) 16 0) ||
      decide (Machine.fld v 29 21 ≠ 0) || decide (Machine.fld v 15 13 ≠ 0) || v.getLsbD 7 then (1, [], s)
  else if (s.polderRec p).isNone then (2, [], s)
  else if s.local?.isNone || s.parDev g sh ≠ s.device || hasDup used || (devs.drop (k + m)).any (· ≠ 0) ||
      used.any (fun d => d != s.device && !s.peerRight p d 3) then (3, [], s)
  else match s.readMap g with
    | (none, s) => (4, [], s)
    | (some es, s) =>
      if (es.foldl (fun a e => a + e.2) 0) ≠ 4096 * u || !apart es ||
          es.any (fun e => decide (e.2 = 0) || decide (e.2 % 4096 ≠ 0) || decide (e.1 % 64 ≠ 0) || !s.rwDram p e.1 e.2) then (4, [], s)
      else
        let t := s.parTag g
        if if k ≤ sh then decide (t % 64 ≠ 0) || !s.rwDram p t (4 * k * u) || es.any (fun e => overlap t (4 * k * u) e.1 e.2) else decide (t ≠ 0) then
          (5, [], s)
        else (0, es, s)

/-- VALID of a group is cleared: its map is forgotten. -/
def State.clearGrp (s : State) (g : Nat) : State :=
  let s := s.setBit (Reg.parGrpCtrl g) 31 false
  { s with parity := { s.parity with maps := SMap.set (fun _ => []) s.parity.maps g [] } }

/-- A write of PAR_GRP_CTRL (R585): while VALID only a write that clears it; otherwise the fields, and with VALID the checks. RESTORING
stands (R606). -/
def State.writeGrpCtrl (s : State) (g : Nat) (v : Word) : State :=
  let w := (v &&& 0x1F1F7F) ||| (s.reg (Reg.parGrpCtrl g) &&& 0x40000000)
  if s.parValid g then (if v.getLsbD 31 then s else (s.clearGrp g).setReg (Reg.parGrpCtrl g) w)
  else
    let s := s.setReg (Reg.parGrpCtrl g) w
    if !v.getLsbD 31 then s
    else match s.grpCheck g v with
      | (0, es, s) =>
        { s with parity := { s.parity with maps := SMap.set (fun _ => []) s.parity.maps g es } }.setBit (Reg.parGrpCtrl g) 31 true
      | (code, _, s) => s.grpErr g code

/-- A write of PAR_GRP_LOST (R586, R589): the deltas pending to a shard newly marked lost are dropped. -/
def State.writeGrpLost (s : State) (g : Nat) (v : Word) : State :=
  let s := s.setReg (Reg.parGrpLost g) (v &&& 0x3FFFF)
  s.dropDeltas (fun x => decide (x.group = g) && s.parLost g x.shard)

/-- One half of a write of PAR_GRP_DEV while VALID (R586 step 2). -/
def State.writeDevHalf (s : State) (g i d : Nat) : State :=
  if d = s.parDev g i then s
  else if s.parLost g i && s.peerRight (s.parPolder g) d 3 && !(s.parDevs g).contains d then
    s.setFld (Reg.parGrpDev g (i / 2)) (16 * (i % 2) + 11) (16 * (i % 2)) d
  else s.grpErr g 3

/-- A write of PAR_GRP_DEV (R585, R586, R607). -/
def State.writeGrpDev (s : State) (g r : Nat) (v : Word) : State :=
  if !s.parValid g then s.setReg (Reg.parGrpDev g r) (v &&& 0x0FFF0FFF)
  else (s.writeDevHalf g (2 * r) (Machine.fld v 11 0)).writeDevHalf g (2 * r + 1) (Machine.fld v 27 16)

/-! ### Units and tags -/

/-- A unit of the module's own shard read. -/
def State.unitRead (s : State) (g u : Nat) : Acc := s.readRange (fun _ => Req.bd) (s.parPolder g) (shardAddr (s.parMap g) (4096 * u)) 4096
/-- A unit of the module's own shard written. -/
def State.unitWrite (s : State) (g u : Nat) (bs : List Byte) : Acc :=
  s.writeRange (fun _ => Req.bd) (2 ^ 64) (s.parPolder g) (shardAddr (s.parMap g) (4096 * u)) bs
/-- Address of the tag of a source's unit (R584). -/
def State.tagAddr (s : State) (g i u : Nat) : Nat := s.parTag g + 4 * (i * s.parUnits g + u)
/-- The tag of a source's unit, or the status with which it cannot be read. -/
def State.tagRead (s : State) (g i u : Nat) : Except Nat Nat × State :=
  let r := s.readRange (fun _ => Req.bd) (s.parPolder g) (s.tagAddr g i u) 4
  match r.err with
  | some e => (.error e.1, r.st)
  | none => (.ok (leNat r.data), r.st)
/-- A tag written. -/
def State.tagWrite (s : State) (g i u v : Nat) : State :=
  (s.writeRange (fun _ => Req.bd) (2 ^ 64) (s.parPolder g) (s.tagAddr g i u) (leBytes 4 v)).st

/-- Every tag of a holder set to 0 (R594, R599). -/
def State.tagsClear (s : State) (g : Nat) : State :=
  (s.writeRange (fun _ => Req.bd) (2 ^ 64) (s.parPolder g) (s.parTag g) (List.replicate (4 * s.parK g * s.parUnits g) 0)).st

/-- GROUP of a HARVEST or RESTORE. -/
def hvGroup (d : Desc) : Nat := dfld d 0x30 2
/-- GROUP of a PARITY_REBUILD. -/
def pbGroup (d : Desc) : Nat := dfld d 0x10 2
/-- LOST_SHARD. -/
def pbLost (d : Desc) : Nat := dbyte d 0x12

/-- The RESTORE or PARITY_REBUILD of a group that runs. -/
def State.regrouping (s : State) (g : Nat) : Option Cmd :=
  s.cmds.find? (fun c => decide (c.phase = .running) && ((c.op = 0x71 && decide (hvGroup c.desc = g)) || (c.op = 0x72 && decide (pbGroup c.desc = g))))

/-! ### Deltas received (R590) -/

/-- A delta applied to its unit. -/
def State.applyDelta (s : State) (g i u step : Nat) (payload : List Byte) : Verdict × State :=
  match s.tagRead g i u with
  | (.error st, s) => (.nak st, s)
  | (.ok t, s) =>
    if t = 0xFFFFFFFF then (.accept, s)
    else if t = step then (.accept, s.addCnt Reg.parCntDup 1)
    else
      let r := s.unitRead g u
      match r.err with
      | some e =>
        if e.1 = St.uncorrectable then
          let s := (r.st.tagWrite g i u 0xFFFFFFFF).addCnt Reg.parCntPoison 1
          (.accept, s.event 0x0502 Src.module none (dataOf [(0, g), (2, i), (4, u)]))
        else (.nak e.1, r.st)
      | none =>
        let w := r.st.unitWrite g u ((r.data.zip payload).map (fun x => x.1 ^^^ x.2))
        match w.err with
        | some e => (.nak e.1, w.st)
        | none => (.accept, ((w.st.tagWrite g i u step).addCnt Reg.parCntDeltaRx 4096).setNat (Reg.parGrpStep g) step)

/-- A PAR_DELTA frame (R590). -/
def State.gotDelta (s : State) (h : Hdr) : Verdict × State :=
  let g := h.be 0x18 2
  let i := h.be 0x1A 1
  let u := h.be 0x20 4
  if !s.parValid g || decide (h.be 0x1B 1 ≠ s.parShard g) || decide (s.parShard g < s.parK g) || decide (s.parK g ≤ i) ||
      decide (s.parDev g i ≠ h.src) then (.nak St.notPermitted, s)
  else if s.parLost g i then (.nak St.fenced, s)
  else if s.parUnits g ≤ u || h.payload.length ≠ 4096 then (.nak St.badDescriptor, s)
  else if (s.regrouping g).isSome then (.nak St.busy, s)
  else s.applyDelta g i u (h.be 0x1C 4) h.payload

/-! ### Units read for another shard (R593) -/

/-- A unit cannot be read for a helper's answer: its own RESTORE has not written it, or found it bad. -/
def State.unitHeld (s : State) (g u : Nat) : Nat :=
  match s.regrouping g with
  | some c => (match c.work with
    | .restore _ _ => St.busy
    | .rebuild left _ _ _ failed _ => if left.contains u || failed.contains u then St.uncorrectable else St.ok
    | _ => St.ok)
  | none => St.ok

/-- One unit answered: a PAR_READ_RSP, or the status of a NAK. -/
def State.answerUnit (s : State) (g dev tagOf u : Nat) : Nat × State :=
  let st := s.unitHeld g u
  if st ≠ St.ok then (st, s)
  else
    let r := s.unitRead g u
    match r.err with
    | some e => (e.1, r.st)
    | none =>
      let s := r.st
      let t := if s.parK g ≤ s.parShard g && decide (tagOf < s.parK g) then s.tagRead g tagOf u else (.ok 0, s)
      match t.1 with
      | .error st => (st, t.2)
      | .ok v => (St.ok, t.2.sendSeq dev 0x32 1 0 (beBytes 2 g ++ [BitVec.ofNat 8 (s.parShard g), 0] ++ beBytes 4 u ++ beBytes 4 v) r.data none)

/-- A PAR_READ_REQ frame (R593): the units in order; the first that cannot be given answers with its NAK. -/
def State.gotReadReq (s : State) (h : Hdr) : Verdict × State :=
  let g := h.be 0x18 2
  let i := h.be 0x1A 1
  let u := h.be 0x1C 4
  let n := h.be 0x20 1
  if !s.parValid g || decide (h.be 0x1B 1 ≠ s.parShard g) || decide (s.parK g + s.parM g ≤ i) || decide (s.parDev g i ≠ h.src) then
    (.nak St.notPermitted, s)
  else if n = 0 || decide (16 < n) || decide (s.parUnits g < u + n) then (.nak St.badDescriptor, s)
  else
    let r := (List.range n).foldl (fun (a : Nat × State) k => if a.1 ≠ St.ok then a else a.2.answerUnit g h.src (h.be 0x21 1) (u + k)) (St.ok, s)
    (if r.1 = St.ok then .accept else .nak r.1, r.2)

/-! ### Rebuilding (R592–R594, R599) -/

/-- Shards that may help, in the order of R592. -/
def State.helperOrder (s : State) (g : Nat) : List Nat :=
  (List.range (s.parK g + s.parM g)).filter (fun i => i != s.parShard g && !s.parLost g i)

/-- The helpers of a unit; none where too few remain. A parity shard needs every data shard. -/
def State.helpersFor (s : State) (g u : Nat) (bad : List (Nat × Nat)) : Option (List Nat) :=
  let l := ((s.helperOrder g).filter (fun i => !bad.contains (u, i))).take (s.parK g)
  if l.length < s.parK g then none
  else if s.parK g ≤ s.parShard g && l.any (fun i => decide (s.parK g ≤ i)) then none
  else some l

/-- Weights of the helpers' bytes in the lost shard's bytes (R583): they solve the generator's equations. -/
def State.helperWeights (s : State) (g : Nat) (hs : List Nat) : List Nat :=
  let k := s.parK g
  let lost := s.parShard g
  let row := fun h i => if h < k then b2n (h = i) else parCoeff (h - k) i
  if k ≤ lost then hs.map (fun h => parCoeff (lost - k) h)
  else gfSolve k ((List.range k).map (fun i => hs.map (fun h => row h i) ++ [b2n (i = lost)]))

/-- A weighted sum of byte lists over the field. -/
def gfCombine (n : Nat) (ws : List Nat) (ls : List (List Byte)) : List Byte :=
  (ws.zip ls).foldl (fun acc x => (acc.zip x.2).map (fun b => b.1 ^^^ BitVec.ofNat 8 (gfMul x.1 b.2.toNat))) (List.replicate n 0)

/-- A request for one unit goes to a helper; its TAG_OF is the lost shard when that is a data shard. -/
def State.askUnit (s : State) (id g u i : Nat) : State :=
  let tagOf := if s.parShard g < s.parK g then s.parShard g else 0xFF
  s.sendSeq (s.parDev g i) 0x31 1 0 (beBytes 2 g ++ [BitVec.ofNat 8 (s.parShard g), BitVec.ofNat 8 i] ++ beBytes 4 u ++
    [1, BitVec.ofNat 8 tagOf]) [] (some id)

/-- Group of a RESTORE or PARITY_REBUILD. -/
def Cmd.parGroup (c : Cmd) : Nat := if c.op = 0x72 then pbGroup c.desc else hvGroup c.desc

/-- Chunk of 1 MiB of a unit. -/
def unitChunk (u : Nat) : Nat := u / 256

/-- The report of a PARITY_REBUILD (R594). -/
def rebuildReport (units : Nat) (tags : SMap Nat) (failed : List Nat) (free : Word) : List Byte :=
  let good := (List.range units).filter (fun u => !failed.contains u)
  let ts := good.map (SMap.get (fun _ => 0) tags)
  let lo := match ts with
    | [] => free.toNat
    | t :: l => l.foldl min t
  let hi := match ts with
    | [] => free.toNat
    | t :: l => l.foldl max t
  leBytes 4 units ++ leBytes 4 failed.length ++ leBytes 4 lo ++ leBytes 4 hi ++ List.replicate 48 0 ++
  (List.range units).flatMap (fun u => leBytes 4 (if failed.contains u then 0xFFFFFFFF else SMap.get (fun _ => 0) tags u))

/-- Every unit has been rebuilt or given up: the command ends (R594, R599). -/
def State.rebuildEnd (s : State) (c : Cmd) (tags : SMap Nat) (failed chunks' : List Nat) : State :=
  let g := c.parGroup
  if c.op = 0x72 then
    let units := s.parUnits g
    let data := decide (s.parShard g < s.parK g)
    let s := if data then s else s.tagsClear g
    let rep := rebuildReport units tags failed (Config.freeWord s.freeCtr)
    match Run.report (fun _ => reqBd c) (s.polderOf c) (c.addr 0x18) rep s.fresh with
    | .error e s => s.failCmd c.id (e.status, e.addr.getD 0)
    | .ok _ s =>
      match failed with
      | [] =>
        let top := (List.range units).foldl (fun a u => max a (SMap.get (fun _ => 0) tags u)) 0
        (if data then s.setNat (Reg.parGrpStep g) top else s).endCmd c.id St.ok none
      | u :: l =>
        let first := l.foldl min u
        (s.warnCmd c.id Wn.isPartial).endCmd c.id St.uncorrectable (some (shardAddr (s.parMap g) (4096 * first)))
  else
    let whole := chunks'.filter (fun n => failed.all (fun u => unitChunk u != n))
    let s := s.setFld Reg.harvLast 31 16 whole.length
    s.endCmd c.id (if failed.isEmpty then St.ok else St.uncorrectable) none

/-- The tags that the parity helpers of a unit gave agree and are not poisoned (R594). -/
def State.tagsAgree (s : State) (g : Nat) (got : List (Nat × Nat × Nat × List Byte)) : Option Nat :=
  match (got.filter (fun x => decide (s.parK g ≤ x.2.1))).map (fun x => x.2.2.1) with
  | [] => none
  | t :: l => if t ≠ 0xFFFFFFFF && l.all (· == t) then some t else none

/-- A unit whose helpers have all answered is decoded and written; one without enough helpers is given up. The last one ends the
command. -/
def State.rebuildUnit (s : State) (id u : Nat) : State :=
  match s.cmd? id with
  | none => s
  | some c => match c.phase, c.work with
    | .running, .rebuild left hv bad tags failed chunks' =>
      let g := c.parGroup
      if !left.contains u then s
      else
        let rest := left.filter (· ≠ u)
        let hv' := hv.filter (fun x => x.1 != u)
        let finish := fun (s : State) (tags : SMap Nat) (failed : List Nat) =>
          let s := s.setWork id (.rebuild rest hv' bad tags failed chunks')
          if rest.isEmpty then s.rebuildEnd c tags failed chunks' else s
        match s.helpersFor g u bad with
        | none =>
          if c.op = 0x72 then
            let w := s.unitWrite g u (List.replicate 4096 0)
            match w.err with
            | some e => w.st.failCmd id e
            | none => finish (w.st.wroteCmd id) tags (failed ++ [u])
          else finish s tags (failed ++ [u])
        | some hs =>
          let got := hs.filterMap (fun i => hv.find? (fun x => x.1 == u && x.2.1 == i))
          if got.length < hs.length then s
          else
            let data := gfCombine 4096 (s.helperWeights g hs) (got.map (fun x => x.2.2.2))
            let lostData := decide (s.parShard g < s.parK g)
            let stale := c.op = 0x72 && lostData && (s.tagsAgree g got).isNone
            let w := s.unitWrite g u (if stale then List.replicate 4096 0 else data)
            match w.err with
            | some e => w.st.failCmd id e
            | none =>
              let s := w.st.wroteCmd id
              if stale then finish s tags (failed ++ [u])
              else finish (s.addCnt Reg.parCntRebuilt 1)
                (SMap.set (fun _ => 0) tags u (if lostData then (s.tagsAgree g got).getD 0 else 0)) failed
    | _, _ => s

/-- A PAR_READ_RSP frame (R593). -/
def State.gotReadRsp (s : State) (h : Hdr) : State :=
  let g := h.be 0x18 2
  let i := h.be 0x1A 1
  let u := h.be 0x1C 4
  match s.regrouping g with
  | none => s
  | some c => match c.work with
    | .rebuild left hv bad tags failed chunks' =>
      if s.parDev g i ≠ h.src || !left.contains u || hv.any (fun x => x.1 == u && x.2.1 == i) || h.payload.length ≠ 4096 then s
      else (s.setWork c.id (.rebuild left (hv ++ [(u, i, h.be 0x20 4, h.payload)]) bad tags failed chunks')).rebuildUnit c.id u
    | _ => s

/-- A helper cannot give a unit (R593): the next shard in the order takes its place for that unit. -/
def State.helperBad (s : State) (id u i : Nat) : State :=
  match s.cmd? id with
  | none => s
  | some c => match c.phase, c.work with
    | .running, .rebuild left hv bad tags failed chunks' =>
      let g := c.parGroup
      let before := (s.helpersFor g u bad).getD []
      let bad' := (u, i) :: bad
      let after := (s.helpersFor g u bad').getD []
      let s := s.setWork id (.rebuild left hv bad' tags failed chunks')
      let s := (after.filter (fun x => !before.contains x)).foldl (fun (s : State) x => s.askUnit id g u x) s
      s.rebuildUnit id u
    | _, _ => s

/-- The requests of a rebuild go out (R593). -/
def State.rebuildAsk (s : State) (c : Cmd) (units chunks' : List Nat) : State :=
  let g := c.parGroup
  let s := s.setWork c.id (.rebuild units [] [] [] [] chunks')
  units.foldl (fun (s : State) u => match s.helpersFor g u [] with
    | some hs => hs.foldl (fun (s : State) i => s.askUnit c.id g u i) s
    | none => s.rebuildUnit c.id u) s

/-- A PARITY_REBUILD starts (R592). -/
def State.rebuildStart (s : State) (c : Cmd) : State :=
  let g := pbGroup c.desc
  if (s.cmds.takeWhile (fun k => k.id != c.id)).any (fun k => k.op = 0x72 && decide (pbGroup k.desc = g)) then s
  else if !s.parValid g || decide (s.parShard g ≠ pbLost c.desc) || decide (dfld c.desc 0x20 8 < 64 + 4 * s.parUnits g) then
    s.endCmd c.id St.badDescriptor none
  else if s.parPolder g ≠ s.polderOf c then s.endCmd c.id St.notPermitted none
  else if (s.helpersFor g 0 []).isNone then s.endCmd c.id St.uncorrectable none
  else (s.beginCmd c.id .none).rebuildAsk c (List.range (s.parUnits g)) []

/-- The checks of a PARITY_REBUILD at fetch (R157, R587, R592). -/
def State.rebuildCheck (s : State) (polder : Nat) (d : Desc) : Nat :=
  let g := pbGroup d
  let a := dfld d 0x18 6
  let n := dfld d 0x20 8
  if decide (64 ≤ g) || !(decide (addrSpace a ≤ 1) || isHost a) || !rangeOk a n || decide (n < 64 + 4 * s.parUnits g) then St.badDescriptor
  else if !s.cap 2 then St.absentUnit
  else if !s.parValid g || decide (s.parShard g ≠ pbLost d) then St.badDescriptor
  else if s.parPolder g ≠ polder then St.notPermitted
  else s.rangeCheck .bd polder a n 2

end Sys2Proof.Machine
end

