-- ==== Sys2Proof/Machine/HarvOps.lean ====
section
/-! DEFINITION. Harvests (R596, R597) and restores (R598, R599). -/
namespace Sys2Proof.Machine

/-! ### Ranges and trees -/

/-- LENGTH of a HARVEST or RESTORE. -/
def hvLen (d : Desc) : Nat := dfld d 0x20 8
/-- One chunk of the source (R596). -/
abbrev hvChunk : Nat := 2 ^ 20

/-- The command names a group. -/
def hvHasGroup (d : Desc) : Bool := decide (hvGroup d ≠ 0xFFFF)

/-- The harvested side as extents: the shard of the group, or the range at the ADDR field `off`. -/
def State.hvSegs (s : State) (d : Desc) (off : Nat) : List (Nat × Nat) :=
  if hvHasGroup d then s.parMap (hvGroup d) else [(dfld d off 6, hvLen d)]

/-- Bytes harvested or restored. -/
def State.hvTotal (s : State) (d : Desc) : Nat := if hvHasGroup d then 4096 * s.parUnits (hvGroup d) else hvLen d

/-- The extents of `n` bytes from position `x` of a list of extents. -/
def segCut : List (Nat × Nat) → Nat → Nat → List (Nat × Nat)
  | [], _, _ => []
  | (a, l) :: m, x, n =>
    if l ≤ x then segCut m (x - l) n
    else if n ≤ l - x then [(a + x, n)]
    else (a + x, l - x) :: segCut m 0 (n - (l - x))

/-- Length of chunk `k` of `n` bytes. -/
def chunkLen (n k : Nat) : Nat := min hvChunk (n - k * hvChunk)

/-- Node of the Merkle tree over two (R597). -/
def merkleNode (a b : Digest) : Digest := digestOf (0x01 :: (digestBytes a ++ digestBytes b))
/-- Leaf of a chunk. -/
def merkleLeaf (bs : List Byte) : Digest := digestOf (0x00 :: bs)
/-- The level above; with an odd count the last node is carried up. -/
def merkleUp : List Digest → List Digest
  | a :: b :: l => merkleNode a b :: merkleUp l
  | l => l
/-- The levels from the leaves to the root. -/
def merkleLevels : Nat → List Digest → List (List Digest)
  | 0, l => [l]
  | n + 1, l => if l.length ≤ 1 then [l] else l :: merkleLevels n (merkleUp l)
/-- The levels of a tree. -/
def merkleTree (leaves : List Digest) : List (List Digest) := merkleLevels leaves.length leaves
/-- Root of a tree. -/
def merkleRoot (leaves : List Digest) : Digest := ((merkleTree leaves).getLast?.bind (fun l => l.head?)).getD 0
/-- The nodes as the record holds them. -/
def merkleBytes (leaves : List Digest) : List Byte := (merkleTree leaves).flatMap (fun l => l.flatMap digestBytes)
/-- How many nodes the tree over `n` chunks has. -/
def merkleCount : Nat → Nat → Nat
  | 0, n => n
  | k + 1, n => if n ≤ 1 then n else n + merkleCount k (cdiv n 2)
/-- Bytes of the record over `n` bytes (R597). -/
def recordLen (n : Nat) : Nat := 128 + 32 * merkleCount (n.log2 + 1) (cdiv n hvChunk)

/-- The header of a record; its TICK is added when it is written. -/
def State.hvHeader (s : State) (d : Desc) (n : Nat) (root : Digest) : List Byte :=
  let g := hvGroup d
  [0x48, 0x52, 0x56, 0x31] ++ leBytes 4 (cdiv n hvChunk) ++ leBytes 8 n ++ leBytes 2 g ++
  [BitVec.ofNat 8 (if hvHasGroup d then s.parShard g else 0xFF)] ++ List.replicate 5 0 ++
  leBytes 4 (if hvHasGroup d then s.nat (Reg.parGrpStep g) else 0) ++ List.replicate 4 0 ++ digestBytes root

/-- The header with the local tick. -/
def withTick (hdr : List Byte) (tick : Nat) : List Byte := hdr ++ leBytes 8 tick ++ List.replicate 56 0

/-! ### Checks at fetch (R157, R587, R596, R598) -/

/-- The space of the harvested side. -/
def hvInside (a : Nat) : Bool := decide (addrSpace a ≤ 2)
/-- The space of the harvest. -/
def hvOutside (a : Nat) : Bool := isHost a || decide (addrSpace a = 0x20)
/-- The space of the record. -/
def hvRecord (a : Nat) : Bool := decide (a % 64 = 0) && (decide (addrSpace a = 0) || hvOutside a)

/-- A polder's right to a peer range (R83, R457). -/
def State.peerRangeCheck (s : State) (polder a right : Nat) : Nat :=
  if addrSpace a = 0x20 then (if s.local?.isSome && s.peerRight polder (addrDevice a) right then St.ok else St.notPermitted) else St.ok

/-- A range lies with a peer that only absent ports reach (R5, R83). -/
def State.peerAbsent (s : State) (a : Nat) : Bool := decide (addrSpace a = 0x20) && s.needsHigh (addrDevice a)

/-- A HARVEST, or with `back` a RESTORE, checked: `inOff` and `outOff` are the ADDR fields inside and outside the module. -/
def State.harvestCheck (s : State) (polder : Nat) (d : Desc) (back : Bool) : Nat :=
  let inA := dfld d (if back then 0x18 else 0x10) 6
  let outA := dfld d (if back then 0x10 else 0x18) 6
  let digA := dfld d 0x28 6
  let g := hvGroup d
  let n := s.hvTotal d
  let grp := hvHasGroup d
  if !hvOutside outA || !hvRecord digA || (grp && (decide (64 ≤ g) || decide (inA ≠ 0) || decide (hvLen d ≠ 0))) ||
      (!grp && (!hvInside inA || decide (hvLen d = 0) || decide (2 ^ 40 < hvLen d) || !rangeOk inA (hvLen d))) then St.badDescriptor
  else if grp && !s.cap 2 then St.absentUnit
  else if (grp && !s.parValid g) || !rangeOk outA n || !rangeOk digA (recordLen n) ||
      (decide (addrSpace outA = 0x20) && decide (addrDevice outA = s.device)) || (decide (addrSpace digA = 0x20) && decide (addrDevice digA = s.device)) then
    St.badDescriptor
  else if s.peerAbsent outA || s.peerAbsent digA then St.absentUnit
  else if grp && decide (s.parPolder g ≠ polder) then St.notPermitted
  else
    let right := if back then 0 else 1
    let a := if grp then St.ok else s.rangeCheck .dma polder inA (hvLen d) (if back then 2 else 1)
    let b := s.peerRangeCheck polder outA right
    let e := if addrSpace digA = 0 then s.rangeCheck .dma polder digA (recordLen n) (if back then 1 else 2) else s.peerRangeCheck polder digA right
    if a ≠ St.ok then a else if b ≠ St.ok then b else e

/-! ### Traffic to a peer -/

/-- Endpoint of a peer: the descriptor names none. -/
def State.hvEndpoint (s : State) (polder dev : Nat) : Nat :=
  match s.peer polder dev with
  | some r => r.epFirst + Config.harvestEndpoint dev % max 1 r.epCount
  | none => 0

/-- Bytes written at a peer address (R446, R457). -/
def State.hvSend (s : State) (c : Cmd) (addr : Nat) (bs : List Byte) : State :=
  let d := addrDevice addr
  let ps := chunks 4096 bs
  let m := (s.fab.msg + 1) % 2 ^ 32
  let s := { s with fab := { s.fab with msg := m } }
  ps.zipIdx.foldl (fun (s : State) x =>
    s.sendSeq d 0x01 (b2n (decide (x.2 + 1 = ps.length))) m
      (beBytes 2 (s.hvEndpoint (s.polderOf c) d) ++ [0, 0] ++ beBytes 4 (addrPeerOff addr + 4096 * x.2)) x.1 (some c.id)) s

/-- Bytes written where the harvest goes: to a peer or by the DMA path. -/
def Run.hvPut (c : Cmd) (p addr : Nat) (bs : List Byte) : Run Unit :=
  if addrSpace addr = 0x20 then modify (fun s => s.hvSend c addr bs) else Run.write (fun _ => reqBdDma c) c.id p addr bs

/-- The requests for a peer range: each with where its data belongs in the buffer. -/
def State.hvAsk (s : State) (c : Cmd) (addr n base : Nat) : State :=
  (dmaSegs n).foldl (fun (s : State) x =>
    let d := addrDevice addr
    let psn := (s.flow d).next
    let m := (s.fab.msg + 1) % 2 ^ 32
    let s := { s with fab := { s.fab with msg := m } }
    let s := s.sendSeq d 0x02 1 m
      (beBytes 2 (s.hvEndpoint (s.polderOf c) d) ++ [0, 0] ++ beBytes 4 (addrPeerOff addr + x.1) ++ beBytes 4 x.2) [] (some c.id)
    s.updCmd c.id (fun k => match k.work with
      | .restore b w => { k with work := .restore b (w ++ [(2 ^ 32 * d + psn, base + x.1, x.2)]) }
      | _ => k)) s

/-! ### HARVEST -/

/-- The chunks are read, digested and written, and the nodes after them (R597). The header is left to the end. -/
def Run.harvestBody (c : Cmd) (p : Nat) : Run (List Byte) := do
  let s ← get
  let d := c.desc
  let n := s.hvTotal d
  let segs := s.hvSegs d 0x10
  let hdr0 := s.hvHeader d n
  let mut leaves : List Digest := []
  for k in List.range (cdiv n hvChunk) do
    let mut bs : List Byte := []
    for x in segCut segs (k * hvChunk) (chunkLen n k) do
      let r ← Run.read (fun _ => reqBdDma c) p x.1 x.2
      bs := bs ++ r
    Run.hvPut c p (c.addr 0x18 + k * hvChunk) bs
    modify (fun s => s.addCnt Reg.harvCntBytes (chunkLen n k))
    leaves := leaves ++ [merkleLeaf bs]
  Run.hvPut c p (c.addr 0x28 + 128) (merkleBytes leaves)
  return hdr0 (merkleRoot leaves)

/-- The harvest goes on when its frames are acknowledged: the header is written last (R597). -/
def State.harvestCheckEnd (s : State) (id : Nat) : State :=
  match s.cmd? id with
  | none => s
  | some c => match c.phase, c.work with
    | .running, .harvest hdr =>
      if s.unackedOf id ≠ 0 then s
      else match hdr with
        | none => s.endCmd id St.ok none
        | some h =>
          let a := c.addr 0x28
          let bs := withTick h s.tick
          if addrSpace a = 0x20 then (s.setWork id (.harvest none)).hvSend c a bs
          else s.runEnd id (Run.write (fun _ => reqBdDma c) id (s.polderOf c) a bs)
    | _, _ => s

/-- A HARVEST runs (R596, R597). -/
def State.harvestStart (s : State) (c : Cmd) : State :=
  let p := s.polderOf c
  if hvHasGroup c.desc && !s.parValid (hvGroup c.desc) then s.endCmd c.id St.badDescriptor none
  else match Run.harvestBody c p (s.beginCmd c.id (.harvest none)) with
    | .error e s => match e.addr with
      | some a => s.failCmd c.id (e.status, a)
      | none => s.endCmd c.id e.status none
    | .ok hdr s => (s.setWork c.id (.harvest (some hdr))).harvestCheckEnd c.id

/-! ### RESTORE -/

/-- Leaf `k` of a record. -/
def recordLeaf (rec : List Byte) (k : Nat) : Digest := BitVec.ofNat 256 (beNat (lslice rec (128 + 32 * k) 32))

/-- The record fits the command (R598): its status. -/
def State.recordCheck (s : State) (d : Desc) (n : Nat) (rec : List Byte) : Nat :=
  if lslice rec 0 4 ≠ [0x48, 0x52, 0x56, 0x31] || lsub rec 8 8 ≠ n || lsub rec 0x10 2 ≠ hvGroup d ||
      lbyte rec 0x12 ≠ (if hvHasGroup d then s.parShard (hvGroup d) else 0xFF) then St.badDescriptor
  else if merkleRoot ((List.range (cdiv n hvChunk)).map (recordLeaf rec)) ≠ BitVec.ofNat 256 (beNat (lslice rec 0x20 32)) then St.uncorrectable
  else St.ok

/-- A chunk that failed its check is noted (R598, R609). -/
def State.chunkFailed (s : State) (c : Cmd) (k : Nat) : State :=
  let s := s.addCnt Reg.harvCntChunkFail 1
  let s := if s.fld Reg.harvLast 15 0 = 0 then
      (s.setNat Reg.harvFailOffLo (k * hvChunk % 2 ^ 32)).setFld Reg.harvFailOffHi 7 0 (k * hvChunk / 2 ^ 32) else s
  (s.bumpFld Reg.harvLast 15 0 1).event 0x0503 Src.module (some c.ctx) (dataOf [(0, hvGroup c.desc), (4, k)])

/-- The chunks are checked and the good ones written (R598): the chunks that failed. -/
def Run.restoreBody (c : Cmd) (p : Nat) (rec : List Byte) (chunk : Nat → Run (List Byte)) : Run (List Nat) := do
  let s ← get
  let d := c.desc
  let n := s.hvTotal d
  Run.need (s.recordCheck d n rec = St.ok) (s.recordCheck d n rec)
  let segs := s.hvSegs d 0x18
  modify (fun s => ((s.setReg Reg.harvLast 0).setReg Reg.harvFailOffLo 0).setReg Reg.harvFailOffHi 0)
  let mut failed : List Nat := []
  for k in List.range (cdiv n hvChunk) do
    let bs ← chunk k
    if merkleLeaf bs = recordLeaf rec k then do
      let mut off := 0
      for x in segCut segs (k * hvChunk) (chunkLen n k) do
        Run.write (fun _ => reqBdDma c) c.id p x.1 (lslice bs off x.2)
        off := off + x.2
    else do
      modify (fun s => s.chunkFailed c k)
      failed := failed ++ [k]
  if hvHasGroup d then do
    let g := hvGroup d
    modify (fun s => (if s.parK g ≤ s.parShard g then s.tagsClear g else s).setNat (Reg.parGrpStep g) (lsub rec 0x18 4))
  return failed

/-- The chunks have been taken: the command ends, or the units of failed chunks are rebuilt from helpers (R599). -/
def restoreDone (c : Cmd) (r : EStateM.Result Fail State (List Nat)) : State :=
  match r with
  | .error e s => (match e.addr with
    | some a => s.failCmd c.id (e.status, a)
    | none => s.endCmd c.id e.status none)
  | .ok [] s => s.endCmd c.id St.ok none
  | .ok (k :: ks) s =>
    if hvHasGroup c.desc then
      let units := (k :: ks).flatMap (fun x => (List.range 256).map (fun i => 256 * x + i))
      s.rebuildAsk c (units.filter (· < s.parUnits (hvGroup c.desc))) (k :: ks)
    else (s.warnCmd c.id Wn.isPartial).endCmd c.id St.uncorrectable (some (c.addr 0x18 + k * hvChunk))

/-- A RESTORE starts (R598): what lies with a peer is asked for, and the rest follows when it has come. -/
def State.restoreStart (s : State) (c : Cmd) : State :=
  let p := s.polderOf c
  let d := c.desc
  let g := hvGroup d
  if hvHasGroup d && !s.parValid g then s.endCmd c.id St.badDescriptor none
  else
    let n := s.hvTotal d
    let s := s.beginCmd c.id (.restore [] [])
    let s := if hvHasGroup d then s.setBit (Reg.parGrpCtrl g) 30 true else s
    let src := c.addr 0x10
    let dig := c.addr 0x28
    if addrSpace src = 0x20 || addrSpace dig = 0x20 then
      let s := if addrSpace src = 0x20 then s.hvAsk c src n 0 else s
      if addrSpace dig = 0x20 then s.hvAsk c dig (recordLen n) (2 ^ 41) else s
    else
      let run : Run (List Nat) := do
        let rec' ← Run.read (fun _ => reqBdDma c) p dig (recordLen n)
        Run.restoreBody c p rec' (fun k => Run.read (fun _ => reqBdDma c) p (src + k * hvChunk) (chunkLen n k))
      restoreDone c (run s)

/-- A RESTORE whose data has come from its peers goes on. -/
def State.restoreGo (s : State) (id : Nat) : State :=
  match s.cmd? id with
  | none => s
  | some c => match c.phase, c.work with
    | .running, .restore buf want =>
      if want.isEmpty || want.any (fun w => decide (w.2.2 ≠ 0)) then s
      else
        let p := s.polderOf c
        let n := s.hvTotal c.desc
        let src := c.addr 0x10
        let dig := c.addr 0x28
        let run : Run (List Nat) := do
          let rec' ← if addrSpace dig = 0x20 then pure (buf.read (2 ^ 41) (recordLen n)) else Run.read (fun _ => reqBdDma c) p dig (recordLen n)
          Run.restoreBody c p rec' (fun k => if addrSpace src = 0x20 then pure (buf.read (k * hvChunk) (chunkLen n k))
            else Run.read (fun _ => reqBdDma c) p (src + k * hvChunk) (chunkLen n k))
        restoreDone c (run s)
    | _, _ => s

end Sys2Proof.Machine
end

