-- ==== Sys2Proof/Machine/PowerOps.lean ====
section
/-! DEFINITION. Power: feeds (R485), regulator groups (R488, R489), grants (R503), the cap and the governor (R501, R502, R507–R511),
core targets (R495, R496), the ramp (R499), and the heat meter (R512). -/
namespace Sys2Proof.Machine

/-! ### Feeds -/

/-- Voltage class of a feed by its voltage in 10 mV: 0 in range, 1 marginal, 2 outside (R485). -/
def feedClass (mv : Nat) : Nat := if 4000 ≤ mv && decide (mv ≤ 6000) then 0 else if 3800 ≤ mv && decide (mv ≤ 6200) then 1 else 2

/-- State of feed 0 (A) or 1 (B). -/
def State.feed (s : State) (n : Nat) : FeedSt := if n = 0 then s.power.feedA else s.power.feedB

/-- It replaced. -/
def State.setFeed (s : State) (n : Nat) (f : FeedSt) : State :=
  { s with power := { s.power with feedA := if n = 0 then f else s.power.feedA, feedB := if n = 0 then s.power.feedB else f } }

/-- A feed supplies the module. -/
def FeedSt.ok (f : FeedSt) : Bool := f = .inRange || f = .marginal

/-- Some feed supplies the module. -/
def State.powered (s : State) : Bool := s.power.feedA.ok || s.power.feedB.ok

/-- A reading of a feed: PWR_FEED_x, and the state of one that is not lost. -/
def State.readFeed (s : State) (n mv ma : Nat) : State :=
  let m := feedClass mv = 1
  let r := if n = 0 then Reg.pwrFeedA else Reg.pwrFeedB
  let s := s.setNat r (mv % 65536 + 65536 * (ma % 32768) + 2 ^ 31 * b2n m)
  if (s.feed n).ok then s.setFeed n (if m then .marginal else .inRange) else s

/-! ### Regulator groups -/

/-- PWR_GROUP follows the failed phases. -/
def State.showGroup (s : State) (c : Nat) : State :=
  (s.setFld (Reg.pwrGroup c) 5 0 (32 - s.phasesFailed c)).setFld (Reg.pwrGroup c) 13 8 (s.phasesFailed c)

/-- A phase is isolated and counted over the module's life (R490 step 1, R492). -/
def State.isolatePhase (s : State) (c ph : Nat) : State :=
  let n := SMap.get (fun _ => 0) s.nvm.phaseLife c + 1
  let s := { s with power := { s.power with phases := SMap.set (fun _ => 0) s.power.phases c (s.failedPhases c ||| 2 ^ ph) }
                    nvm := { s.nvm with phaseLife := SMap.set (fun _ => 0) s.nvm.phaseLife c n } }
  (s.showGroup c).setFld (Reg.pwrGroupLife c) 15 0 (min n 65535)

/-! ### Grants -/

/-- A grant within its bounds (R503). -/
def State.clampGrant (s : State) (w : Nat) : Nat := max 500 (min w (powerLimit s.variant))

/-- A grant comes into force (R503): its source as GRANT_SRC codes it, and its lease in ms. -/
def State.applyGrant (s : State) (w lease src : Nat) : State :=
  let g := s.clampGrant w
  let s := s.setNat Reg.pwrGrant g
  let s := { s with power := { s.power with leaseEnd := if lease = 0 then none else some (s.tick + 25000 * lease) } }
  (s.setBit Reg.pwrStatus 7 (decide (g ≠ w))).setFld Reg.pwrStatus 6 4 src

/-- GRANT_DEFAULT_W is in force (R503). -/
def State.defaultGrant (s : State) : State := s.applyGrant (s.inforce Key.grantDefault) 0 0

/-- Grant in force, W. -/
def State.grantW (s : State) : Nat := s.fld Reg.pwrGrant 15 0

/-- Lease remaining in ms, rounded up; 0 for none (R517). -/
def State.leaseLeft (s : State) : Nat := match s.power.leaseEnd with
  | some t => cdiv (t - s.tick) 25000
  | none => 0

/-- This module is the master of its group (R482). -/
def State.isMaster (s : State) : Bool := s.bit Reg.casStatus 30
/-- A group image is in force. -/
def State.inGroup (s : State) : Bool := s.bit Reg.casStatus 31

/-- A grant for the whole group reaches the master (R504, R506): it is shared out at the next redistribution. -/
def State.groupGrant (s : State) (w : Nat) : State := { s with power := { s.power with groupGrant := some w } }

/-! ### The cap (R501, R502) -/

/-- Windows of the excursion budget: 10 µs averages above the limit in the last second, on the LH9-S192 (R502). -/
def State.excursionSpent (s : State) : Bool := decide (10000 ≤ s.power.excursions.length)

/-- P_cap and the input that sets it (R501, R516). -/
def State.capOf (s : State) : Nat × Nat :=
  let lim := powerLimit s.variant
  let cands := [(lim, 0), (s.grantW, 1)] ++ (match s.thermal.flowLimit with
     | some f => [(f, 2)]
     | none => []) ++
    (match s.power.slewCeil with
     | some c => [(c, 3)]
     | none => [])
  let m := cands.foldl (fun a x => if x.1 < a.1 then x else a) (lim, 0)
  if m.2 = 0 && s.excursionSpent then (lim, 4) else m

/-- PWR_CAP and CAP_REASON follow the inputs. -/
def State.showCap (s : State) : State :=
  let c := s.capOf
  let s := (s.setNat Reg.pwrCap c.1).setFld Reg.pwrStatus 18 16 c.2
  s.setBit Reg.cltStatus 7 (decide (c.2 = 2))

/-! ### Idle halves (R495) -/

/-- The half may not leave RUN: the heat floor is set or the slew limit holds the draw up, and it holds a core of a defined polder
(R495). -/
def State.holdRun (s : State) (h : Nat) : Bool :=
  (decide (s.fld Reg.pwrHeatFloor 15 0 ≠ 0) || s.bit Reg.pwrStatus 19) && !s.halted &&
  (List.range 32).any (fun i => s.coreUsable (32 * h + i))

/-- A core of the half has a filler demand. -/
def State.halfFill (s : State) (h : Nat) : Bool :=
  (List.range 32).any (fun i => s.coreUsable (32 * h + i) && decide (0 < s.fillDemand (32 * h + i)))

/-- A core of the half has a command. -/
def State.halfBusy (s : State) (h : Nat) : Bool := s.resets.spans.any (fun x => decide (x.core / 32 = h) && x.till.isNone)

/-- Tick of the last demand on a half. -/
def State.halfIdleSince (s : State) (h : Nat) : Nat :=
  (s.resets.spans.filter (fun x => decide (x.core / 32 = h))).foldl (fun a x => max a (x.till.getD 0)) (SMap.get (fun _ => 0) s.clocks.idle h)

/-! ### The ramp (R499) -/

/-- Cores of a start. -/
def rampCores (c : Nat) (r : RampStart) : List Nat := (bitsOf 8 r.mask).map (fun i => 8 * c + i)

/-- The target a ramp holds a core at. -/
def State.holdCore (s : State) (n : Nat) (t : Option Nat) : State :=
  { s with clocks := { s.clocks with rampTarget := SMap.set (fun _ => none) s.clocks.rampTarget n t } }

/-- Projected current within 92% of the group's rating; the estimate of each core is PWR_RAMP_EST × target / clock maximum. -/
def State.rampFits (s : State) (c : Nat) (r : RampStart) : Bool :=
  let m := clockMax s.variant
  let est := (rampCores c r).foldl (fun a n => a + s.fld Reg.pwrRampEst 7 0 * s.coreTarget n) 0
  decide (100 * (s.fld (Reg.pwrGroup c) 31 20 * m + est) ≤ 92 * s.groupRating c * m)

/-! ### Polder budgets (R507, R508) -/

/-- SHARE of a polder (R87). -/
def State.share (s : State) (p : Nat) : Nat :=
  ((s.image.bind (fun im => im.power.find? (fun r => r.polder == p))).map (fun r => r.share)).getD 0

/-- Defined polders. -/
def State.polders (s : State) : List Nat := ((s.image.map (fun im => im.polders)).getD []).map (fun r => r.num)

/-- Draw of a polder in a reading. -/
def drawOf (r : PowerReading) (p : Nat) : Nat := ((r.polders.find? (fun x => x.1 == p)).map (fun x => x.2)).getD 0

/-- Budgets: a polder whose draw fits its budget keeps it; the others share what is left in proportion to their SHAREs, until no
more of them fit (R508). -/
def shareOut (avail : Nat) (share draw : Nat → Nat) : Nat → List Nat → List (Nat × Nat) → List (Nat × Nat)
  | 0, excess, fit => fit ++ excess.map (fun p => (p, 0))
  | n + 1, excess, fit =>
    let left := avail - fit.foldl (fun a x => a + draw x.1) 0
    let total := excess.foldl (fun a p => a + share p) 0
    let budget := fun p => if total = 0 then 0 else left * share p / total
    let now := excess.filter (fun p => draw p ≤ budget p)
    if now.isEmpty then fit ++ excess.map (fun p => (p, budget p))
    else shareOut avail share draw n (excess.filter (fun p => !now.contains p)) (fit ++ now.map (fun p => (p, budget p)))

/-- The budgets in force for a reading. -/
def State.budgets (s : State) (r : PowerReading) (avail : Nat) : List (Nat × Nat) :=
  let g := fun p => s.share p * avail / 1024
  let fit := s.polders.filter (fun p => drawOf r p ≤ g p)
  shareOut avail s.share (drawOf r) 33 (s.polders.filter (fun p => !fit.contains p)) (fit.map (fun p => (p, g p)))

/-- The governor cuts a polder to a fraction of its targets in 1/1024, and holds the issue of its NBU commands; its commands carry
W_THROTTLED (R509). A fraction of 1024 lifts the cut. -/
def State.cutPolder (s : State) (p frac : Nat) : State :=
  let held := if frac = 1024 then (if s.power.nbuHeld.testBit p then s.power.nbuHeld ^^^ 2 ^ p else s.power.nbuHeld) else s.power.nbuHeld ||| 2 ^ p
  let s := { s with power := { s.power with cut := SMap.set (fun _ => 1024) s.power.cut p frac, nbuHeld := held } }
  if frac = 1024 then s else s.throttlePolder p

/-- The budgets of a reading are shown and, when the draw must fall, enforced (R502, R507–R509). Where the window is tight, the polders
have none. -/
def State.govern (s : State) (r : PowerReading) (excess tight : Bool) : State :=
  let avail := if tight then 0 else s.fld Reg.pwrCap 15 0 - r.common
  let bs := s.budgets r avail
  let short := excess || decide (avail < s.polders.foldl (fun a p => a + drawOf r p) 0)
  bs.foldl (fun (s : State) b =>
    let d := drawOf r b.1
    let s := s.setNat (Reg.pwrPolderBudget b.1) (min 65535 (s.share b.1 * avail / 1024) + 65536 * min 65535 b.2)
    s.cutPolder b.1 (if short && decide (b.2 < d) then 1024 * b.2 / d else 1024)) s

/-! ### Samples and windows (R502, R510, R511) -/

/-- Input power of a reading in 10^-4 W. -/
def inputPower (r : PowerReading) : Nat := r.mvA * r.maA + r.mvB * r.maB

/-- The floor and the slew limit are suspended, or both feeds are lost (R511). -/
def State.slewOff (s : State) : Bool := s.halted || !s.powered

/-- What two consecutive windows may differ by, in 10^-4 W (R511). -/
def State.slewStep (s : State) : Nat := 100 * s.fld Reg.pwrSlew 12 0 + 150000

/-- The end of a 10 ms window (R502, R510, R511, R517): averages, energy, the slew ceiling, the filler demand of floor and slew, which does
not rise while the draw already rises at the slew limit. A fall to a cap below the draw before breaks no limit. -/
def State.windowEnd (s : State) (r : PowerReading) : State :=
  let p := s.power
  let avg := p.winSum / max 1 p.winN
  let old := p.avg
  let s := s.setNat Reg.pwrInW (min 65535 (avg / 10000) + 65536 * min 65535 (p.winMax / 10000))
  let e := p.eIn + p.winSum
  let s := s.addCnt Reg.pwrEIn (e / 10000000)
  let s := (s.addCnt Reg.pwrEFiller (Config.fillerEnergy s.freeCtr)).fresh
  let broke := !s.slewOff && decide (avg + s.slewStep < min old (10000 * s.fld Reg.pwrCap 15 0))
  let floor := 10000 * min (s.fld Reg.pwrHeatFloor 15 0) (s.fld Reg.pwrCap 15 0)
  let low := !s.slewOff && decide (avg < floor)
  let falling := !s.slewOff && decide (avg < old)
  let rising := decide (old + s.slewStep ≤ avg)
  let demand := if s.slewOff then 0 else if low || falling then (if rising then p.fillerDemand else min 16 (p.fillerDemand + 1)) else p.fillerDemand - 1
  let s := r.polders.foldl (fun (s : State) x =>
    s.setFld (Reg.pwrPolderDraw x.1) 15 0 (min 65535 (SMap.get (fun _ => 0) s.power.polderSum x.1 / max 1 p.winN))) s
  let s := if demand = p.fillerDemand then s else ((List.range 256).filter s.coreUsable).foldl State.settleFill s
  let s := { s with power := { s.power with
    prevAvg := old, avg := avg, winSum := 0, winN := 0, winMax := 0, eIn := e % 10000000, polderSum := [], fillerDemand := demand,
    slewCeil := if s.slewOff then none else some ((avg + s.slewStep) / 10000) } }
  let s := ((s.setBit Reg.pwrStatus 20 (low && decide (0 < demand))).setBit Reg.pwrStatus 21 (low && decide (p.fillerDemand = 16))).setBit
    Reg.pwrStatus 19 (falling && decide (0 < demand))
  let s := if demand = 0 && p.fillerDemand = 0 then s else (List.range 8).foldl (fun (s : State) h =>
    if (List.range 32).any (fun i => s.coreUsable (32 * h + i)) then (if demand = 0 then s.touchHalf h else s.wakeHalf h) else s) s
  if broke then (s.setBit Reg.pwrStatus 22 true).event 0x0708 Src.module none (dataOf [(0, old / 10000), (4, avg / 10000)]) else s

/-- What the polders draw must all but cease for the rest of a 10 ms window, so that its average stays at P_cap (R502): what is left of
its energy is no more than this draw for the 20 µs that a cut may take and P_common for the others (log entry 79). -/
def State.windowTight (s : State) (r : PowerReading) : Bool :=
  decide (10000 * s.fld Reg.pwrCap 15 0 * 10000 <
    s.power.winSum + 20 * inputPower r + (10000 - s.power.winN) * (10000 * r.common))

/-- One 1 µs sample (R501, R502). -/
def State.takeSample (s : State) (r : PowerReading) : State :=
  let w := inputPower r
  let last := (w :: s.power.last10).take 10
  let a10 := last.foldl (· + ·) 0 / last.length
  let n := s.power.sampleNo + 1
  let above := decide (s.variant = 9) && decide (10000 * powerLimit s.variant < a10)
  let ex := (if above then n :: s.power.excursions else s.power.excursions).filter (fun k => decide (n < k + 1000000))
  let sum := r.polders.foldl (fun m x => SMap.set (fun _ => 0) m x.1 (SMap.get (fun _ => 0) m x.1 + x.2)) s.power.polderSum
  let s := { s with power := { s.power with
    last10 := last, sampleNo := n, excursions := ex, winSum := s.power.winSum + w, winN := s.power.winN + 1,
    winMax := max s.power.winMax a10, polderSum := sum } }
  let s := (s.readFeed 0 r.mvA r.maA).readFeed 1 r.mvB r.maB
  let s := r.groups.foldl (fun (s : State) g => if g.1 < 32 then s.setFld (Reg.pwrGroup g.1) 31 20 (min 4095 g.2) else s) s
  let s := (s.setFld Reg.pwrCommonW 15 0 (min 65535 r.common)).showCap
  let cap := s.capOf
  let free := decide (s.variant = 9) && decide (cap.2 = 0) && !s.excursionSpent
  let excess := decide (10000 * (if free then 3300 else cap.1) < a10)
  let tight := s.windowTight r
  let s := s.govern r (excess || tight) tight
  if 10000 ≤ s.power.winN then s.windowEnd r else s

/-! ### The heat meter (R512) -/

/-- Thirty times κ in kJ/(m³·K), by GLYCOL_PCT (R512, R521). -/
def kappa30 (glycol : Nat) : Nat := 123300 - 310 * min glycol 30

/-- 28,800,000 times the heat rate H in W over the five levels. -/
def State.heatNum (s : State) : Int :=
  (List.range 5).foldl (fun (a : Int) l =>
    a + (s.fld (Reg.cltLevelFlow l) 15 0 : Int) * kappa30 (s.inforce Key.glycol) *
      ((s.fld (Reg.cltTOut l) 11 0 : Int) - s.fld (Reg.cltTIn l) 11 0)) 0

end Sys2Proof.Machine
end

