-- ==== Sys2Proof/Machine/Live.lean ====
section
/-! DEFINITION. Status registers that follow the state: cores and arrays (R219, R288), clusters (R291) and contexts (R179). -/
namespace Sys2Proof.Machine

/-- A command runs on a core. -/
def State.coreBusy (s : State) (n : Nat) : Bool := s.resets.spans.any (fun x => decide (x.core = n) && x.till.isNone)

/-- CORE_SEAM_OCC (R291): while a command runs on the half, how many entries of the two outgoing FIFOs hold a flit is open, 0 to 32 each
(R280, log entry 19). -/
def State.seamOcc (s : State) (h : Nat) : Nat :=
  if (List.range 32).any (fun i => s.coreBusy (32 * h + i)) then
    s.nowFree (256 + h) % 33 + 2 ^ 8 * (s.nowFree (264 + h) % 33)
  else 0

/-- A command waits on a counter of a core, as COUNTER_OP names it. -/
def Cmd.waitsOn (c : Cmd) (n : Nat) : Bool := decide (c.work = .wait) && decide (dbyte c.desc 0x10 = 0) && decide (dbyte c.desc 0x11 = n)

/-- Waits on the counters of a core. -/
def State.coreWaits (s : State) (n : Nat) : List Cmd := s.cmds.filter (fun c => decide (c.phase = .running) && c.waitsOn n)

/-- Waits held at the counter home of a cluster (R272): on its own counters and on those placed in it. -/
def State.clusterWaits (s : State) (cl : Nat) : Nat :=
  s.cmds.countP (fun c => decide (c.phase = .running) && decide (c.work = .wait) &&
    (let r := ctrRef c.desc 0x10
     if r.scope = 1 then decide (r.unit = cl)
     else if 2 ≤ r.scope then decide ((s.ctrHome (s.polderOf c) r).map (fun h => h.1) = some cl)
     else false))

/-- Segment slots of a core's DMA engine in use: its own segments whose data is still on its way. -/
def State.dmaSlots (s : State) (n : Nat) : Nat :=
  min 16 (s.cmds.foldl (fun a c => match c.phase with
    | .running => a + (s.openSegs c).countP (fun i => s.dmaCore c i == n)
    | _ => a) 0)

/-- The core takes no commands under the image in force. -/
def State.coreExcluded (s : State) (n : Nat) : Bool := s.image.isSome && !(match s.corePolder n with
  | some p => (match s.polderRec p with
    | some r => r.takes n
    | none => false)
  | none => false)

/-- CORE_STATUS (R288). -/
def State.coreStatus (s : State) (n : Nat) : Word :=
  BitVec.ofNat 32 (b2n (s.coreBusy n) + 2 * b2n (s.coreExcluded n) + 2 ^ 16 * min 8 (s.coreWaits n).length + 2 ^ 24 * s.dmaSlots n)

/-- A re-execution is pending or its set is filled. -/
def State.retrying (s : State) (n : Nat) : Bool := !(s.core n).redo.isEmpty || (s.core n).sets.any (fun a => a.retry)

/-- ARR_STATUS (R219). A pass of the model takes its effect at once, so a core with a pass to run stands in its fill before the command's
first pass (R191) and computes before any other; both sets full freeze it for the drain (R200), and which feeders freeze it in its last
cycle is open (log entry 19). A core that a CORE_MASK leaves out, that is held, STOPPED or asleep is clock-gated (R107, R217). -/
def State.arrStatus (s : State) (n : Nat) : Word :=
  let k := s.core n
  let stops := s.cmds.any (fun c => match c.phase with
    | .stopping _ _ => (s.cmdCores c).contains n && decide (c.op ≤ 0x02)
    | _ => false)
  let full := decide (2 ≤ k.sets.length)
  let dry := s.nowFree n % 8
  let frz := match s.nextPass n with
    | none => 0
    | some x => if stops || !s.clocked n then 0 else if full then 8 + dry else if k.passesOf x.1 = 0 then 0 else dry
  let st := if s.image.isNone then 0 else if !s.clocked n then 6 else if stops then 5 else match s.nextPass n with
    | some x => if frz ≠ 0 then 3 else if k.passesOf x.1 = 0 then 1 else 2
    | none => if s.tick < k.gapFrom.getD 0 then 2 else if 0 < s.fillDensity n then 4 else 0
  BitVec.ofNat 32 (st + 8 * b2n (s.retrying n) + 2 ^ 8 * frz)

/-- CORE_CLUSTER_STATUS (R291). -/
def State.clusterStatus (s : State) (cl : Nat) : Word := BitVec.ofNat 32 (min 512 (s.clusterWaits cl))

/-- CTX_STATUS (R179), with the commands in flight. -/
def State.ctxStatus (s : State) (ctx : Nat) : Word := Machine.setFld (s.reg (Reg.ctxStatus ctx)) 14 0 (s.inflight ctx)

/-- Everything a command holds while it runs is given back (R160, R217, R356, R380, R384): its tiles, NBUs, leases, reserved page
slots, fabric frames and core time. `ok` tells an append whether its rows count. -/
def State.releaseWork (s : State) (c : Cmd) (ok : Bool) : State :=
  let s := match c.work with
    | .array _ _ (some r) _ => s.appendEnd c r ok
    | .attn _ leases _ _ => s.unleaseAll (s.polderOf c) leases
    | .rebuild _ _ _ _ _ _ => if c.op = 0x71 then s.setBit (Reg.parGrpCtrl c.parGroup) 30 false else s
    | .restore _ _ => if hvHasGroup c.desc then s.setBit (Reg.parGrpCtrl (hvGroup c.desc)) 30 false else s
    | _ => s
  let core := dbyte c.desc 0x11
  let s := if c.waitsOn core && s.cmds.all (fun x => decide (x.id = c.id) || !x.waitsOn core) then s.waitCloses core else s
  (((s.clearArray c.id).releaseNbus c.id).disownFrames c.id).spanEnd c.id

/-- The passes, sets and self-test of a core are abandoned, without ending their commands (R536): nothing of them is written, and each runs again
as the next pass of the core (R537); a self-test waits to run again (R636). -/
def State.abandonCore (s : State) (n : Nat) : State :=
  let k := s.core n
  let s : State := k.sets.reverse.foldl (fun (s : State) a => if a.retry then s else s.updCmd a.cmd (fun c => match c.work with
    | .array todo m kv seed =>
      let own := todo.find? (fun x => x.1 == n)
      let rest := todo.filter (fun x => x.1 != n)
      { c with work := .array ((n, a.tile :: (own.map (fun x => x.2)).getD []) :: rest) m kv seed }
    | _ => c)) s
  let redo := (k.sets.filter (fun a => a.retry)).map (fun a => (a.cmd, a.tile))
  let s : State := match k.test with
    | some id => (s.updCmd id (fun (c : Cmd) => if decide (c.phase = CmdPhase.running) then { c with phase := .waiting, work := .none } else c)).spanEnd id
    | none => s
  (s.addCnt (Reg.arrCntPasses n) (2 ^ 64 - k.sets.length)).setCore n { k with
    sets := [], redo := redo ++ k.redo, regs := ArrayRegs.clear, staged := none, passes := [], passCmd := none, test := none,
    gapFrom := some s.tick, filled := s.tick }

end Sys2Proof.Machine
end

