-- ==== Sys2Proof/Machine/ResetOps.lean ====
section
/-! DEFINITION. Resets: their scopes (R38–R40), dikes (R557), dossiers (R564–R567), the beginning of a reset (R561, R562), the stop
rung (R554), suspects and replay (R568–R571), and the power-cycle request (R573). -/
namespace Sys2Proof.Machine

/-! ### Dossiers (R564–R567) -/

/-- CONTEXTS record. -/
def State.dosContext (s : State) (ctx : Nat) : List Byte :=
  leBytes 2 ctx ++ leBytes 1 (s.ctxPolder ctx) ++ leBytes 1 (s.fld (Reg.ctxBind ctx) 9 8) ++ leBytes 2 (s.sqHead ctx) ++
  leBytes 2 (s.sqTail ctx) ++ leBytes 2 (s.cqTail ctx) ++ leBytes 2 (s.cqHead ctx) ++ leBytes 4 (s.ctxStatus ctx).toNat ++
  leBytes 4 (s.nat (Reg.ctxVigil ctx)) ++ List.replicate 12 0

/-- COMMANDS record; `unit` is the first unstopped unit and its core for the command that names one. -/
def dosCommand (c : Cmd) (unit : Option (Nat × Nat × Nat)) : List Byte :=
  let stopped := match c.phase with
    | .stopping _ _ => true
    | .held => true
    | .done _ => true
    | _ => false
  let expired := match c.phase with
    | .stopping st _ => decide (st = St.timeout) || decide (st = St.guilty)
    | .done st => decide (st = St.timeout)
    | _ => false
  let u := match unit with
    | some (id, k, n) => if id = c.id then (k, n) else (0, 0)
    | none => (0, 0)
  leBytes 2 c.ctx ++ leBytes 2 c.slot ++ leBytes 2 (dfld c.desc 2 2) ++ leBytes 1 c.op ++
  leBytes 1 (b2n c.replayable + 2 * b2n stopped + 4 * b2n expired) ++ leBytes 8 c.fetched ++ leBytes 4 c.vigilMs ++ leBytes 1 u.1 ++
  leBytes 1 u.2 ++ List.replicate 10 0

/-- COUNTERS record. -/
def State.dosCounter (s : State) (polder scope unit idx : Nat) : List Byte :=
  let v := match (s.ctrGet polder ⟨scope, unit, 0, idx⟩).1 with
    | some v => v
    | none => 0
  leBytes 1 scope ++ leBytes 1 unit ++ leBytes 2 idx ++ leBytes 4 v

/-- The counters of a core. -/
def State.dosCore (s : State) (n : Nat) : List (List Byte) := (List.range 64).map (s.dosCounter 0 0 n)
/-- The counters of a cluster. -/
def State.dosCluster (s : State) (cl : Nat) : List (List Byte) := (List.range 1024).map (s.dosCounter 0 1 cl)
/-- The counters of a polder, or with 255 the device counters. -/
def State.dosPlaced (s : State) (p : Nat) : List (List Byte) :=
  match s.image with
  | some im => (List.range (im.counterCount p)).map (fun i => if p = 255 then s.dosCounter 0 3 0 i else s.dosCounter p 2 p i)
  | none => []

/-- ENGINES record; the loop entry in progress and the loop indices are free values: a pass of the model has none. A command without a
template shows 0. -/
def State.dosEngine (s : State) (n : Nat) : List Byte :=
  let run := s.cmds.find? (fun c => s.resets.spans.any (fun x => decide (x.core = n) && decide (x.cmd = c.id) && x.till.isNone))
  let loops := (List.range 33).map (fun i => Config.freeByte s.freeCtr (33 * n + i))
  let waits := ((s.coreWaits n).take 8).flatMap (fun c => leBytes 2 (dfld c.desc 0x14 4) ++ [0, 0] ++ leBytes 4 (ctrValue c.desc))
  leBytes 1 n ++ [0, 0, 0] ++ leBytes 4 (s.arrStatus n).toNat ++ leBytes 4 (s.coreStatus n).toNat ++
  leBytes 2 ((run.map (fun c => if c.op ≤ 3 then dfld c.desc 0x28 2 else 0)).getD 0) ++ loops.take 1 ++ [0] ++ loops.drop 1 ++
  waits ++ List.replicate (64 - waits.length) 0 ++
  leBytes 2 ((run.map (fun c => c.ctx)).getD 0xFFFF) ++ leBytes 2 ((run.map (fun c => c.slot)).getD 0) ++ List.replicate 12 0 ++
  ([Reg.arrCntFrzOperand n, Reg.arrCntFrzWeight n, Reg.arrCntFrzScale n, Reg.arrCntFrzDrain n].flatMap (fun r => leBytes 8 (s.cnt r).toNat)) ++
  List.replicate 96 0

/-- ROUTERS record; the buffer entries in use are free values: traffic of the model does not wait in routers. The clusters of columns
1 and 2 have a seam link (R280). -/
def State.dosRouter (s : State) (cl : Nat) : List Byte :=
  leBytes 1 cl ++ [0, 0, 0] ++ (List.range 42).map (fun i => Config.freeByte s.freeCtr (10000 + 42 * cl + i)) ++ [0, 0] ++
  leBytes 4 (if decide (2 ≤ cl % 8) && decide (cl % 8 ≤ 5) then s.seamOcc (cl / 4) else 0) ++ leBytes 4 (s.clusterStatus cl).toNat ++ List.replicate 8 0

/-- What a dossier holds (R567): its sections by type, each a list of records. -/
structure Sections where
  contexts : List Nat
  commands : List Cmd
  counters : List (List Byte)
  engines : List Nat
  clusters : List Nat
  deriving DecidableEq, Repr

/-- The sections of a level; `n` is the context, core or polder, and `names` the contexts or the command that the level names. -/
def State.sectionsOf (s : State) (level n : Nat) (suspects : List Nat) : Sections :=
  let cmdsIn := fun (cs : List Nat) => s.cmds.filter (fun c => cs.contains c.ctx)
  let enabled := (List.range 4096).filter s.enabled
  if level = 1 then ⟨[n], cmdsIn [n], [], [], []⟩
  else if level = 2 then ⟨suspects, cmdsIn suspects, s.dosCore n, [n], [n / 8]⟩
  else if level = 3 then
    let cls := match s.polderRec n with
      | some r => bitsOf 32 r.clusters
      | none => []
    let cores := cls.flatMap (fun c => (List.range 8).map (fun i => 8 * c + i))
    ⟨s.ctxsOf n, cmdsIn (s.ctxsOf n), cores.flatMap s.dosCore ++ cls.flatMap s.dosCluster ++ s.dosPlaced n, cores, cls⟩
  else
    ⟨enabled, s.cmds, (List.range 256).flatMap s.dosCore ++ (List.range 32).flatMap s.dosCluster ++
      ((s.polders ++ [255]).flatMap s.dosPlaced), List.range 256, List.range 32⟩

/-- The sections of a vigil expiry. -/
def State.sectionsOfCmd (s : State) (c : Cmd) : Sections :=
  let cores := s.cmdCores c
  ⟨[c.ctx], [c], [], cores, (cores.map (· / 8)).eraseDups⟩

/-- The bytes of a dossier with SEQ still 0 (R566): TICK, LEVEL, TRIGGER, UNIT, CONTEXT and SQ_INDEX as given. -/
def State.dossier (s : State) (level trigger unit : Nat) (ctx : Option (Nat × Nat)) (x : Sections) (odd : Option (Nat × Nat × Nat)) : List Byte :=
  let secs : List (Nat × List (List Byte)) :=
    ([(1, x.contexts.map s.dosContext), (2, x.commands.map (fun c => dosCommand c odd)), (3, x.counters), (4, x.engines.map s.dosEngine),
      (5, x.clusters.map s.dosRouter)]).filter (fun e => !e.2.isEmpty)
  let r := secs.foldl (fun (a : List Byte × List Byte) e =>
    (a.1 ++ leBytes 1 e.1 ++ leBytes 3 e.2.length ++ leBytes 4 (256 + a.2.length), a.2 ++ e.2.flatten)) ([], [])
  [0x44, 0x4F, 0x53, 0x52] ++ [0, 0, 0, 0] ++ leBytes 8 s.tick ++ leBytes 1 level ++ leBytes 1 trigger ++ leBytes 2 unit ++
  leBytes 2 ((ctx.map (fun c => c.1)).getD 0xFFFF) ++ leBytes 2 ((ctx.map (fun c => c.2)).getD 0) ++ leBytes 4 (256 + r.2.length) ++
  leBytes 4 secs.length ++ r.1 ++ List.replicate (40 - r.1.length) 0 ++ List.replicate 184 0 ++ r.2

/-- The slot that the next dossier takes: the next that is not held (R565). -/
def State.dossierSlot (s : State) : Option Nat :=
  if s.bit Reg.idBoot 27 then none
  else ((List.range 16).map (fun i => (s.fld Reg.rstDossier 3 0 + i) % 16)).find? (fun k => !s.bit Reg.rstDossierHold k)

/-- A dossier is written to its slot (R564–R566): the slot, or none when it is lost. -/
def State.putDossier (s : State) (bytes : List Byte) : Option Nat × State :=
  match s.dossierSlot with
  | none => (none, s.bumpFld Reg.rstDossier 31 16 1)
  | some k =>
    let seq := (s.nat Reg.rstDossierSeq + 1) % 2 ^ 32
    let bs := bytes.take 4 ++ leBytes 4 seq ++ bytes.drop 8
    let base := 0x400000 * k
    let s := (chunks 0x100000 bs).zipIdx.foldl (fun (s : State) x =>
      (s.physWrite Req.bd (64 * s.fld Reg.idBoot 26 25 + (base / 0x100000 + x.2)) 0x2FE00000 x.1).2) s
    let s := ((s.setFld Reg.rstDossier 3 0 (k + 1)).setFld Reg.rstDossier 7 4 k).setNat Reg.rstDossierSeq seq
    (some k, s.event 0x0903 Src.module none (dataOf [(0, k), (4, seq), (8, lbyte bytes 0x10), (9, lbyte bytes 0x11)]))

/-! ### Scopes (R38–R40) and dikes (R557) -/

/-- A reset of one level and unit takes in another: the same, or a narrower one inside it (R40). -/
def State.resetCovers (s : State) (wl wu nl nu : Nat) : Bool :=
  (decide (wl = nl) && (decide (wu = nu) || decide (4 ≤ wl))) || (decide (nl < wl) && (decide (4 ≤ wl) || decide (s.corePolder nu = some wu)))

/-- A command is within the scope of a reset: its polder's or the module's (R562), or it has work on the reset core, or it waits to have
some and is REPLAYABLE, or a test of the core (R636). -/
def State.resetScope (s : State) (level unit : Nat) (c : Cmd) : Bool :=
  if 4 ≤ level then true
  else if level = 3 then s.bit (Reg.ctxBind c.ctx) 7 && decide (s.polderOf c = unit)
  else (s.cmdCores c).contains unit && (match c.phase with
    | .waiting => c.replayable || (decide (c.op = 0x80) && decide (dbyte c.desc 0x10 ≤ 1))
    | .done _ => false
    | _ => true)

/-- The dike of a level is raised or lowered: for one core or one polder its DIKE bit; the dike of a chip or module reset stands as
long as the reset is in progress. -/
def State.setDike (s : State) (level unit : Nat) (up : Bool) : State :=
  if level = 2 then s.setFlag (Reg.dikeEngine 0) unit up
  else if level = 3 then s.setBit Reg.dikePolder unit (up || s.polders.contains unit && (match s.polderRec unit with
    | some r => (bitsOf 32 r.clusters).any s.clusterHeld
    | none => false))
  else s

/-- RST_STATUS.BUSY and LEVEL follow the resets in progress. -/
def State.showResets (s : State) : State :=
  (s.setBit Reg.rstStatus 0 (!s.resets.jobs.isEmpty)).setFld Reg.rstStatus 3 1 (s.resets.jobs.foldl (fun a j => max a j.level) 0)

/-! ### Image loads -/

/-- A load fails: IMG_STATUS says so, and nothing else changes (R94, R104). -/
def State.loadFail (s : State) (code sect : Nat) : State :=
  let s := ((((s.setBit Reg.imgStatus 0 false).setBit Reg.imgStatus 2 true).setBit Reg.imgStatus 1 false).setFld Reg.imgStatus 23 16 code).setFld Reg.imgStatus 31 24 sect
  { s with loader := { s.loader with stage := .idle, next := none, portPos := 0, portOver := false } }

/-! ### Commands meet a reset (R562) -/

/-- A command is held for replay (R562): it has stopped on all its units, keeps no warnings, and has written what it has. -/
def State.holdCmd (s : State) (c : Cmd) : State :=
  (s.releaseWork c false).updCmd c.id (fun x => { x with phase := .held, warn := 0, work := .none, errAddr := none, replayed := false })

/-- A command within the scope of a reset is stopped with the status it will carry; an engine reset holds a REPLAYABLE command of a
context that is not itself being reset. A wider reset leaves ST_TIMEOUT to a command that is not REPLAYABLE alone. -/
def State.meetReset (s : State) (level : Nat) (c : Cmd) : State :=
  if level = 2 then
    let free := c.replayable && (s.aux c.ctx).resetting.isNone
    match c.phase with
    | .waiting => if free then s.holdCmd c else s.stopCmd c.id St.resetLost
    | .running => if free then s.holdCmd c else s.stopCmd c.id St.resetLost
    | .stopping st _ => if free && decide (st = St.timeout) then s.holdCmd c else s
    | _ => s
  else match c.phase with
    | .stopping st since =>
      if c.replayable && (decide (st = St.timeout) || decide (st = St.guilty)) then
        s.updCmd c.id (fun x => { x with phase := .stopping St.aborted since })
      else s
    | _ => s.stopCmd c.id St.aborted

/-! ### Replay (R568–R571) -/

/-- The contexts that had a command on a core's engines in the vigil window (R568), ascending. -/
def State.ranOn (s : State) (core from' : Nat) : List Nat :=
  let on := (s.resets.spans.filter (fun x => decide (x.core = core) && (match x.till with
    | some t => decide (from' ≤ t)
    | none => true))).map (fun x => x.ctx)
  (List.range 4096).filter (fun c => on.contains c)

/-- Held commands of a context that need a core. -/
def State.heldOn (s : State) (core ctx : Nat) : List Cmd :=
  s.cmds.filter (fun c => decide (c.phase = .held) && decide (c.ctx = ctx) && (s.cmdCores c).contains core)

/-- Held commands that no replay takes up run normally (R571). -/
def State.releaseHeld (s : State) : State :=
  let wanted := (s.resets.replay.toList.map (fun r => r.core)) ++ s.resets.replayQ.map (fun q => q.1)
  { s with cmds := s.cmds.map (fun c =>
      if c.phase = .held && !wanted.any (fun n => (s.cmdCores c).contains n) then { c with phase := .waiting } else c) }

/-- The replay under way ends: nothing is shown as replaying, and what is still held is released. -/
def State.replayEnd (s : State) : State :=
  let s := { s with resets := { s.resets with replay := none }
                    cmds := s.cmds.map (fun (c : Cmd) => { c with replayed := false }) }
  (s.releaseHeld).setReg Reg.vigStatus 0

/-- The next suspect is replayed (R569, R570): one without a held command is cleared without a replay. With none left the replay
ends clean (R571). -/
def State.replayNextFuel : Nat → State → State
  | 0, s => s
  | n + 1, s =>
    match s.resets.replay with
    | none => s
    | some r =>
      match r.todo with
      | [] =>
        let s := (s.replayEnd).bump Reg.vigCntClean
        s.event 0x0905 (Src.core r.core) none r.total
      | c :: rest =>
        if (s.heldOn r.core c).isEmpty then
          State.replayNextFuel n { s with resets := { s.resets with replay := some { r with todo := rest, current := none } } }
        else
          let ids := (s.heldOn r.core c).map (fun x => x.id)
          let cap := s.fld Reg.vigReplayMs 19 0
          let s := { s with
            resets := { s.resets with replay := some { r with todo := rest, current := some c, started := s.tick, total := r.total + 1 } }
            cmds := s.cmds.map (fun (x : Cmd) => if ids.contains x.id then
              { x with phase := .waiting, replayed := true, vigilFrom := s.tick, vigilMs := min x.vigilMs cap } else x) }
          s.setNat Reg.vigStatus (1 + 2 ^ 8 * r.core + 2 ^ 16 * c)

/-- The next suspect is replayed. -/
def State.replayNext (s : State) : State := match s.resets.replay with
  | some r => State.replayNextFuel (r.todo.length + 1) s
  | none => s

/-- With no replay under way, the next that waits begins. -/
def State.replaySettle : Nat → State → State
  | 0, s => s
  | n + 1, s =>
    match s.resets.replay, s.resets.replayQ with
    | none, (core, suspects) :: q =>
      State.replaySettle n { s with resets := { s.resets with replayQ := q, replay := some ⟨core, suspects, none, s.tick, 0⟩ } }.replayNext
    | _, _ => s

/-- Replays that wait begin where none is under way. -/
def State.replayGo (s : State) : State := State.replaySettle s.resets.replayQ.length s

/-- The replay after an engine reset begins (R569), or waits for one under way on another core; one under way on the same core takes up
the new suspects behind its own. A reset that names no suspects releases what it held (R556, R571). -/
def State.replayBegin (s : State) (core : Nat) (suspects : List Nat) : State :=
  if suspects.isEmpty then s.releaseHeld
  else match s.resets.replay with
    | some r =>
      if r.core = core then
        { s with resets := { s.resets with replay := some { r with todo := r.todo ++ suspects.filter (fun c => !r.todo.contains c) } } }
      else { s with resets := { s.resets with replayQ := s.resets.replayQ ++ [(core, suspects)] } }
    | none => { s with resets := { s.resets with replay := some ⟨core, suspects, none, s.tick, 0⟩ } }.replayNext.replayGo

/-- A suspect whose replayed commands have all ended is cleared (R571), and the next follows. -/
def State.replayCheck (s : State) : State :=
  match s.resets.replay with
  | none => s
  | some r =>
    match r.current with
    | none => s
    | some c =>
      if s.cmds.any (fun x => x.replayed && decide (x.ctx = c)) then s
      else
        let s := s.bump Reg.vigCntReplays
        { s with resets := { s.resets with replay := some { r with current := none } } }.replayNext.replayGo

/-- The engine reset of a core whose replay is under way held what ran: the suspect is replayed again (R569, R570). -/
def State.replayResume (s : State) (core : Nat) : State :=
  match s.resets.replay with
  | some r =>
    (match r.current with
     | some c =>
       if r.core = core && !(s.heldOn core c).isEmpty then
         { s with resets := { s.resets with replay := some { r with todo := c :: r.todo, current := none, total := r.total - 1 } } }.replayNext
       else s
     | none => s)
  | none => s

/-- A context is no longer a suspect (R575). -/
def State.dropSuspect (s : State) (ctx : Nat) : State :=
  let s := { s with resets := { s.resets with
    jobs := s.resets.jobs.map (fun (j : ResetJob) => { j with suspects := j.suspects.filter (· != ctx) })
    replayQ := s.resets.replayQ.map (fun (q : Nat × List Nat) => (q.1, q.2.filter (· != ctx))) } }
  match s.resets.replay with
  | none => s
  | some r =>
    let r' := { r with todo := r.todo.filter (· != ctx) }
    if r.current = some ctx then
      { s with resets := { s.resets with replay := some { r' with current := none } } }.replayNext.replayGo
    else { s with resets := { s.resets with replay := some r' } }

/-- A command whose replay vigil has expired has committed (R571): its context is guilty, its other commands are aborted, and the rest of
the suspects run normally. -/
def State.foundGuilty (s : State) (c : Cmd) (core : Nat) : State :=
  let s := s.setAux c.ctx { s.aux c.ctx with guilty := true }
  let s := s.setBit (Reg.ctxCtrl c.ctx) 0 false
  let s := s.stopAll ((s.cmds.filter (fun x => decide (x.ctx = c.ctx) && decide (x.id ≠ c.id))).map (fun x => x.id)) St.aborted
  let s := (s.setNat Reg.vigGuilty (c.ctx + 2 ^ 16 * core + 2 ^ 31)).bump Reg.vigCntGuilty
  let s := s.event 0x0904 (Src.core core) (some c.ctx) (dataOf [(0, c.slot), (2, dfld c.desc 2 2)])
  s.replayEnd.replayGo

/-- The commit of a command of the suspect under replay with ST_GUILTY ends the replay (R571). -/
def State.guiltyEnd (s : State) (c : Cmd) (st : Nat) : State :=
  match s.resets.replay with
  | some r => if st = St.guilty && decide (r.current = some c.ctx) then s.foundGuilty c r.core else s
  | none => s

/-! ### A reset begins (R561) -/

/-- The resets that wait for the commit of an image (R102). -/
def State.heldByCommit (s : State) (level : Nat) : Bool :=
  decide (s.loader.stage = .committing) && (decide (level = 3) || decide (level = 4))

/-- A reset that one in progress covers is merged into it (R40). -/
def State.mergeReset (s : State) (w : ResetJob) (level : Nat) (suspects : List Nat) : State :=
  { s with resets := { s.resets with jobs := s.resets.jobs.map (fun j =>
      if j = w && decide (level = j.level) then { j with suspects := j.suspects ++ suspects.filter (fun c => !j.suspects.contains c) } else j) } }

/-- A reset joins those in progress; those that it covers give way. -/
def State.addJob (s : State) (job : ResetJob) : State :=
  { s with
    freeCtr := s.freeCtr + 1
    resets := { s.resets with jobs := s.resets.jobs.filter (fun j => !s.resetCovers job.level job.unit j.level j.unit) ++ [job] } }

/-- A chip reset ends an image load that has not come to its commit with IE_ABORTED; with a module reset a load is lost in any phase
(R102), and the resets that waited for it are taken in (R40). -/
def State.resetEndsLoad (s : State) (level : Nat) : State :=
  if level = 5 then
    (if s.loader.stage = .idle then s else { s.setBit Reg.imgStatus 0 false with loader := State.reset.loader })
  else if level = 4 && (decide (s.loader.stage = .copying) || decide (s.loader.stage = .validating)) then s.loadFail 0x15 0xFF else s

/-- A wider reset ends a replay on a core that it takes in, and the replays that wait there (R569). -/
def State.resetEndsReplay (s : State) (level unit : Nat) : State :=
  let s : State := { s with resets := { s.resets with replayQ := s.resets.replayQ.filter (fun q => !s.resetCovers level unit 2 q.1) } }
  if level < 3 then s
  else match s.resets.replay with
    | some r => if s.resetCovers level unit 2 r.core then { s with resets := { s.resets with replay := none } }.setReg Reg.vigStatus 0 else s
    | none => s

/-- Every command within the scope of a reset meets it. -/
def State.meetScope (s : State) (level unit : Nat) : State :=
  (s.cmds.filter (s.resetScope level unit)).foldl (fun (s : State) c => s.meetReset level c) s

/-- The dikes of the resets that give way to a wider one come down. -/
def State.giveWay (s : State) (level unit : Nat) : State :=
  (s.resets.jobs.filter (fun j => s.resetCovers level unit j.level j.unit)).foldl (fun (s : State) j => s.setDike j.level j.unit false) s

/-- A reset as it begins, with the snapshot of its scope. -/
def State.newJob (s : State) (level unit trigger : Nat) (by' : Option Cmd) (odd : Option (Nat × Nat × Nat)) (suspects : List Nat) : ResetJob :=
  ⟨level, unit, trigger, by'.map (fun c => c.ctx), (by'.map (fun c => c.slot)).getD 0,
   s.dossier level trigger (if 4 ≤ level then 0 else unit) (by'.map (fun c => (c.ctx, c.slot))) (s.sectionsOf level unit suspects) odd,
   s.tick, none, suspects, by'.map (fun c => c.id)⟩

/-- Steps 1 and 2 of R561: the dike is raised, the scope's state is snapshotted, and every unit that serves a command in scope is
asked to stop. A reset that one in progress covers is merged into it (R40); one in progress that the new one covers gives way. -/
def State.beginReset (s : State) (level unit trigger : Nat) (by' : Option Cmd) (odd : Option (Nat × Nat × Nat)) (suspects : List Nat) : State :=
  match s.resets.jobs.find? (fun j => s.resetCovers j.level j.unit level unit) with
  | some w => s.mergeReset w level suspects
  | none =>
    let s := s.giveWay level unit
    let s := ((s.addJob (s.newJob level unit trigger by' odd suspects)).setDike level unit true).showResets
    ((s.resetEndsLoad level).resetEndsReplay level unit).meetScope level unit

/-- A reset is reached by escalation or by another event: it begins, or is held until the commit of an image (R102). -/
def State.reachReset (s : State) (level unit trigger : Nat) (by' : Option Cmd) (odd : Option (Nat × Nat × Nat)) (suspects : List Nat) : State :=
  if s.heldByCommit level then { s with loader := { s.loader with heldResets := s.loader.heldResets ++ [(level, unit, trigger)] } }
  else s.beginReset level unit trigger by' odd suspects

/-- A reset that the host requests (R556, R575): while others run, one that they cover is merged, a wider one goes ahead, and another
waits; one that a waiting one covers is merged into it, and one that waits and is covered is merged into the new one (R40). -/
def State.askReset (s : State) (level unit : Nat) : State :=
  if s.resets.jobs.isEmpty || s.resets.jobs.any (fun j => s.resetCovers j.level j.unit level unit) ||
      s.resets.jobs.any (fun j => s.resetCovers level unit j.level j.unit) then s.reachReset level unit 3 none none []
  else if s.resets.queued.any (fun q => s.resetCovers q.1 q.2.1 level unit) then s
  else { s with resets := { s.resets with queued := s.resets.queued.filter (fun q => !s.resetCovers level unit q.1 q.2.1) ++ [(level, unit, 3)] } }

/-- A request of RST_CTRL is refused (R577). -/
def State.resetErr (s : State) : State := s.setBit Reg.rstStatus 4 true

/-! ### The power-cycle request (R573, R660) -/

/-- The POWER_CYCLE request is sent to the EID that last assigned the module's, or to the PCIe bus owner (R660). -/
def State.sendPowerCycle (s : State) (code tick : Nat) : State :=
  let inst := Config.freeNat s.freeCtr % 32
  let msg := beBytes 2 Config.pciVendor.toNat ++ [0x20, BitVec.ofNat 8 inst, 0] ++ leBytes 2 code ++ List.replicate 6 0 ++ leBytes 8 tick ++
    leBytes 8 s.serial
  let s := s.fresh
  if s.mctp.assignerI3c ≠ 0 then s.emit (.mctp 0 s.mctp.assignerI3c 0x7E msg) else s.emit (.mctp 1 0 0x7E msg)

/-- Every half goes to sleep; filler demands and ramps are cancelled, and heat floor and slew limit suspended (R536 steps 2 and 3, R539,
R511, R573 step 1). -/
def State.clocksStop (s : State) : State :=
  let s := (List.range 256).foldl State.settleFill s
  let s := (List.range 8).foldl (fun (s : State) h => if s.half h = .asleep then s else s.setHalf h .asleep) s
  { s with
    power := { s.power with fillerDemand := 0, slewCeil := none }
    clocks := { s.clocks with starts := [], rampTarget := [] } }

/-- A power-cycle request (R573): clocks stop, the almanac freezes, FAULT_N is asserted and the request is sent. The code of the
triggering event is a free value where no event stands behind the request. -/
def State.requestPowerCycle (s : State) (code : Option Nat) : State :=
  if s.powerRequested then s
  else
    let c := code.getD (Config.freeNat s.freeCtr % 65536)
    let s := s.clocksStop
    let s := { s.fresh with resets := { s.resets with powerReq := some (c, s.tick), lastPowerReq := s.tick }
                            pins := { s.pins with fault := true } }
    let s := (s.alert .powerRequest).event 0x0906 Src.module none c
    s.sendPowerCycle c s.tick

end Sys2Proof.Machine
end

