-- ==== Sys2Proof/Machine/ThermOps.lean ====
section
/-! DEFINITION. Coolant and thermal control: governing temperatures (R523–R525), the model (R526, R527), limits (R528–R531), flow
(R532–R538), trip (R539) and bond wear (R541, R542). Temperatures are in 1/16 °C. -/
namespace Sys2Proof.Machine

/-! ### Layers (R15, R522) -/

/-- Layer number of logic layer LLk. -/
def llLayer (k : Nat) : Nat := 3 * k + 1
/-- Layer number of memory layer MLj. -/
def memLayer (j : Nat) : Nat := 3 * (j / 2) + 2 + j % 2
/-- A layer is a logic layer. -/
def isLogic (l : Nat) : Bool := l % 3 = 1
/-- ML number of a memory layer. -/
def mlOf (l : Nat) : Nat := 2 * ((l - 2) / 3) + (l - 2) % 3
/-- Coolant level that carries a layer's heat (R15). -/
def levelOfLayer (l : Nat) : Nat := if l = 0 then 0 else (l - 1) / 3 + 1
/-- The cores of a logic layer. -/
def layerCores (l : Nat) : List Nat := (List.range 64).map (fun i => 64 * (l / 3) + i)

/-- 100 °C, 97 °C, 115 °C, 90 °C, 87 °C, 95 °C and 110 °C (R528, R536). -/
abbrev tHot : Nat := 1600
/-- 97 °C. -/
abbrev tCool : Nat := 1552
/-- 115 °C. -/
abbrev tTrip : Nat := 1840
/-- 90 °C. -/
abbrev tMemHot : Nat := 1440
/-- 87 °C. -/
abbrev tMemCool : Nat := 1392
/-- 95 °C. -/
abbrev tMemTrip : Nat := 1520
/-- 110 °C. -/
abbrev tStopTrip : Nat := 1760

/-! ### Governing temperatures (R523–R525, R527) -/

/-- Modelled temperature of a layer. -/
def State.modelT (s : State) (l : Nat) : Nat := s.fld (Reg.thmLayer l) 27 16
/-- A layer is governed by the model: for now, or until a power reset (R527). -/
def State.byModel (s : State) (l : Nat) : Bool := s.bit Reg.thmStatus l || s.bit Reg.thmSuspect l

/-- The sensor value that governs a hot spot (R523, R525); none when both of its sensors are suspect. -/
def State.hotSensor (s : State) (n : Nat) : Option Nat :=
  let d := s.fld (Reg.thmCoreT n) 11 0
  let r := s.fld (Reg.thmCoreT n) 27 16
  match s.bit (Reg.thmCore n) 16, s.bit (Reg.thmCore n) 17 with
  | false, false => some (max d r)
  | true, false => some (r + 64)
  | false, true => some (d + 64)
  | true, true => none

/-- Governing temperature of a hot spot. -/
def State.hotSpot (s : State) (n : Nat) : Nat :=
  let l := llLayer (n / 64)
  if s.byModel l then s.modelT l + 64 else (s.hotSensor n).getD (s.modelT l + 64)

/-- The highest governing sensor value of a layer. -/
def State.sensorMax (s : State) (l : Nat) : Nat :=
  if l = 0 then s.thermal.bd.foldl max 0
  else if isLogic l then (layerCores l).foldl (fun a n => max a ((s.hotSensor n).getD 0)) 0
  else (List.range 16).foldl (fun a i => max a (s.fld (Reg.thmMemSensor (mlOf l) i) 11 0)) 0

/-- Governing temperature of a layer. -/
def State.layerT (s : State) (l : Nat) : Nat :=
  if isLogic l then (layerCores l).foldl (fun a n => max a (s.hotSpot n)) 0
  else if s.byModel l then s.modelT l + 64 else s.sensorMax l

/-- The refresh interval of a memory layer follows its governing temperature, that of its hottest sensor (R306, R523): short above
85 °C, until it reads 83 °C or below. -/
def State.fastRefresh (s : State) (ml : Nat) : State :=
  let t := s.layerT (memLayer ml)
  let i := 4 + ml % 2
  let on := s.bit (Reg.memColStatus (64 * (ml / 2))) i
  let next := decide (1360 < t) || (on && decide (1328 < t))
  if next = on then s
  else (List.range 64).foldl (fun (s : State) c => s.setBit (Reg.memColStatus (64 * (ml / 2) + c)) i next) s

/-- Governing temperatures are shown. -/
def State.showTemps (s : State) : State :=
  let s := (List.range 256).foldl (fun (s : State) n => s.setFld (Reg.thmCore n) 11 0 (min 4095 (s.hotSpot n))) s
  (List.range 13).foldl (fun (s : State) l => s.setFld (Reg.thmLayer l) 11 0 (min 4095 (s.layerT l))) s

/-- Throttle start and trip of a layer. -/
def layerLimits (l : Nat) : Nat × Nat := if l = 0 || isLogic l then (tHot, tTrip) else (tMemHot, tMemTrip)

/-- Every governing temperature is below its throttle start (R538). -/
def State.allCool (s : State) : Bool := (List.range 13).all (fun l => decide (s.layerT l < (layerLimits l).1))

/-- The 2 s of a restart are broken by a temperature at its throttle start (R538). -/
def State.restartBreak (s : State) : State :=
  if s.thermal.restartFrom.isSome && !s.allCool then
    { s with thermal := { s.thermal with restartFrom := none } }.setBit Reg.cltStatus 8 false
  else s

/-! ### Disagreement (R524, R525) -/

/-- Disagreement of a core's sensors. -/
def State.disagree (s : State) (n : Nat) : Disagree := SMap.get (fun _ => ⟨none, false, []⟩) s.thermal.disagree n
/-- It replaced; the count of the last 3,600 s is shown. -/
def State.setDisagree (s : State) (n : Nat) (d : Disagree) : State :=
  { s.setFld (Reg.thmCore n) 31 24 (min 255 d.ticks.length) with
    thermal := { s.thermal with disagree := SMap.set (fun _ => ⟨none, false, []⟩) s.thermal.disagree n d } }

/-- The sensor that deviates more from the model becomes suspect (R525); where both deviate alike, which one is a free value. -/
def State.markSensor (s : State) (n : Nat) : State :=
  let m := s.modelT (llLayer (n / 64))
  let dev := fun t => if m ≤ t then t - m else m - t
  let d := dev (s.fld (Reg.thmCoreT n) 11 0)
  let r := dev (s.fld (Reg.thmCoreT n) 27 16)
  let diode := if d = r then decide (Config.freeNat s.freeCtr % 2 = 0) else decide (r < d)
  let s := s.fresh
  let s := (s.setBit (Reg.thmCore n) (if diode then 16 else 17) true).setBit Reg.thmEvent 1 true
  s.event 0x0802 (Src.core n) none (if diode then 1 else 2)

/-- The readings of a hot spot are compared at a sample. -/
def State.compareSensors (s : State) (n : Nat) : State :=
  let d := s.fld (Reg.thmCoreT n) 11 0
  let r := s.fld (Reg.thmCoreT n) 27 16
  let x := s.disagree n
  let recent := x.ticks.filter (fun t => decide (s.tick < t + 90000000000))
  if d ≤ r + 80 && decide (r ≤ d + 80) then
    (if x = ⟨none, false, recent⟩ then s else s.setDisagree n ⟨none, false, recent⟩)
  else
    let since := x.since.getD s.tick
    if !x.counted && decide (since + 25000 < s.tick) then
      let s := ((s.setBit Reg.thmEvent 0 true).addCnt Reg.thmCntDisagree 1).event 0x0801 (Src.core n) none (dataOf [(0, d), (2, r)])
      if 16 ≤ recent.length + 1 then (s.markSensor n).setDisagree n ⟨some since, true, []⟩
      else s.setDisagree n ⟨some since, true, s.tick :: recent⟩
    else s.setDisagree n ⟨some since, x.counted, recent⟩

/-! ### Trip (R539, R540) -/

/-- A trip at a layer, and a core where a hot spot tripped. -/
def State.trip (s : State) (l t core : Nat) : State :=
  if s.bit Reg.thmStatus 31 then s
  else
    let n := s.nvm.trips + 1
    let s := s.clocksStop
    let s := { s with nvm := { s.nvm with trips := n }, pins := { s.pins with thermtrip := true } }
    let s := (((s.setBit Reg.thmStatus 31 true).setBit Reg.thmStatus 30 true).setFld Reg.cltStops 31 16 (min n 65535)).alert .trip
    let s := s.event 0x0805 (Src.layer l) none (dataOf [(0, t), (2, core)])
    s.requestPowerCycle (some 0x0805)

/-- The trips of a sample: a hot spot, a memory layer or BD at its trip value, or above 110 °C while FLOW_STOP is set. -/
def State.checkTrips (s : State) : State :=
  let stopped := s.thermal.flowStop.isSome
  let bad := fun (l t : Nat) => decide ((layerLimits l).2 ≤ t) || (stopped && decide (tStopTrip < t))
  match (List.range 256).find? (fun n => bad (llLayer (n / 64)) (s.hotSpot n)) with
  | some n => s.trip (llLayer (n / 64)) (s.hotSpot n) n
  | none => match (List.range 13).find? (fun l => !isLogic l && bad l (s.layerT l)) with
    | some l => s.trip l (s.layerT l) 0xFF
    | none => s

/-! ### Flow (R532–R538) -/

/-- Total of the levels' flows and of their averages. -/
def State.flowSums (s : State) : Nat × Nat :=
  (List.range 5).foldl (fun a l => (a.1 + s.fld (Reg.cltLevelFlow l) 15 0, a.2 + s.fld (Reg.cltLevelFlow l) 31 16)) (0, 0)

/-- Calibrations and retrainings go on, but the self-tests that asked for them wait to run again (R636, R537). -/
def State.abandonTests (s : State) : State :=
  let free := fun (r : Retrain) => { r with cmd := none }
  { s with
    cmds := s.cmds.map (fun c => if c.op = 0x80 && decide (c.phase = .running) then { c with phase := .waiting, work := .none } else c)
    fab := { s.fab with retrain := s.fab.retrain.map (fun e => (e.1, e.2.map free)), retrainQ := s.fab.retrainQ.map (fun e => (e.1, free e.2)) } }

/-- A sudden stop (R536): passes are abandoned, filler demands and ramps cancelled, every half goes to sleep. -/
def State.flowStopAt (s : State) (l before now flow : Nat) : State :=
  if s.thermal.flowStop.isSome then s
  else
    let n := s.nvm.flowStops + 1
    let s := (List.range 256).foldl State.abandonCore s
    let s := s.abandonTests.clocksStop
    let s := { s with
      nvm := { s.nvm with flowStops := n }
      thermal := { s.thermal with flowStop := some s.tick, restartFrom := none } }
    let s := (((s.setBit Reg.cltStatus 2 true).setBit Reg.cltStatus 3 true).setFld Reg.cltStops 15 0 (min n 65535)).alert .flowStop
    s.event 0x0815 (Src.level l) none (dataOf [(0, before), (2, now), (4, flow)])

/-- An alert and its status bit follow a condition; its event is recorded once per onset (R534). -/
def State.follow (s : State) (on : Bool) (a : Alert) (code : Nat) (src : Nat × Nat) (data : Nat) : State :=
  if on then (if s.pins.alerts.contains a then s else (s.alert a).event code src none data) else s.unalert a

/-- Since when a condition of a level holds. -/
def since (on : Bool) (tick : Nat) (old : Option Nat) : Option Nat := if on then some (old.getD tick) else none

/-- The inlet alerts of a level (R534). -/
def State.inletAlerts (s : State) (l t : Nat) : State :=
  let hi := since (decide (960 < t)) s.tick ((s.thermal.inletHigh.getD l none))
  let lo := since (decide (t < 240)) s.tick ((s.thermal.inletLow.getD l none))
  let pad := fun (xs : List (Option Nat)) => xs ++ List.replicate (5 - xs.length) none
  let s := { s with thermal := { s.thermal with inletHigh := (pad s.thermal.inletHigh).set l hi, inletLow := (pad s.thermal.inletLow).set l lo } }
  let long := fun (x : Option Nat) => match x with
    | some t => decide (t + 25000000 ≤ s.tick)
    | none => false
  (s.follow (long hi) (.inlet l true) 0x0813 (Src.level l) t).follow (long lo) (.inlet l false) 0x0814 (Src.level l) t

/-- The flow limit in W before the reduction of R533 (R532): five times the least averaged flow, times κ, times the rise to 78 °C. -/
def State.flowLimitOf (s : State) : Nat :=
  let q := (List.range 5).foldl (fun a l => min a (s.fld (Reg.cltLevelFlow l) 31 16)) 65535
  let t := (List.range 5).foldl (fun a l => max a (s.fld (Reg.cltTIn l) 11 0)) 0
  5 * q * kappa30 (s.inforce Key.glycol) * (1248 - t) / 28800000

/-! ### BD's duty (R531) -/

/-- A sample of BD steps its duty: down a quarter every 1 ms at or above 100 °C, up a quarter every 10 ms at or below 97 °C (log entry
80). -/
def State.bdDutyStep (s : State) : State :=
  let t := s.layerT 0
  let d := s.thermal.bdDuty
  let mark := fun (c : Cmd) => if c.onBdEngine && decide (c.phase = CmdPhase.running) then { c with warn := setWarn c.warn Wn.throttled } else c
  let go := fun (d' : Nat) => { s with
    cmds := if d' < d then s.cmds.map mark else s.cmds
    thermal := { s.thermal with bdDuty := d', bdStep := s.tick } }
  if tHot ≤ t then (if 1 < d && decide (s.thermal.bdStep + 25000 ≤ s.tick) then go (d - 1) else s)
  else if t ≤ tCool then (if d < 4 && decide (s.thermal.bdStep + 250000 ≤ s.tick) then go (d + 1) else s)
  else s

/-! ### Bond wear (R541, R542) -/

/-- One cycle of a range, whole or half, on a layer's wear index and count; ranges below 20 K count nothing. -/
def State.wearCycle (s : State) (l range : Nat) (whole : Bool) : State :=
  if range < 320 then s
  else
    let add := range ^ 4 * (if whole then 1000 else 500) / 640 ^ 4
    let lo := min (s.nat (Reg.thmWearLo l) + add) 0xFFFFFFFF
    let s := (s.setNat (Reg.thmWearLo l) lo).bumpFld (Reg.thmWearHi l) 15 0 (if whole then 2 else 1)
    if 10000000 ≤ lo && !s.bit Reg.thmStatus 29 then (s.setBit Reg.thmStatus 29 true).event 0x0806 (Src.layer l) none lo else s

/-- Distance of two temperatures. -/
def dist (a b : Nat) : Nat := if a ≤ b then b - a else a - b

/-- Turning points with a 2 K hysteresis: the running extreme stands first. -/
def turnPoint (t : Nat) : List Nat → List Nat
  | [] => [t]
  | [e] => if 32 ≤ dist t e then [t, e] else [e]
  | e :: p :: rest =>
    if p < e then (if e ≤ t then t :: p :: rest else if 32 ≤ e - t then t :: e :: p :: rest else e :: p :: rest)
    else (if t ≤ e then t :: p :: rest else if 32 ≤ t - e then t :: e :: p :: rest else e :: p :: rest)

/-- Closed cycles are taken out of the turning points (ASTM E1049): a range that the newest range covers is a cycle, or half of one
where it holds the starting point. -/
def State.rainflowFuel : Nat → State → Nat → List Nat → State × List Nat
  | 0, s, _, ps => (s, ps)
  | n + 1, s, l, ps =>
    match ps with
    | e :: p :: q :: rest =>
      if dist e p < dist p q then (s, ps)
      else if rest.isEmpty then State.rainflowFuel n (s.wearCycle l (dist p q) false) l [e, p]
      else State.rainflowFuel n (s.wearCycle l (dist p q) true) l (e :: rest)
    | _ => (s, ps)

/-- A second's sample of a layer. -/
def State.wearSample (s : State) (l : Nat) : State :=
  let ps := turnPoint (s.fld (Reg.thmLayer l) 11 0) (SMap.get (fun _ => []) s.thermal.turns l)
  let r := State.rainflowFuel ps.length s l ps
  { r.1 with thermal := { r.1.thermal with turns := SMap.set (fun _ => []) r.1.thermal.turns l r.2 } }

/-- Open half-cycles are counted at a power loss (R541). -/
def State.wearFlush (s : State) : State :=
  let s := (List.range 13).foldl (fun (s : State) l =>
    let ps := SMap.get (fun _ => []) s.thermal.turns l
    (ps.zip (ps.drop 1)).foldl (fun (s : State) x => s.wearCycle l (dist x.1 x.2) false) s) s
  { s with thermal := { s.thermal with turns := [] } }

/-- Index and counts are written to NVM (R541). -/
def State.wearWrite (s : State) : State :=
  let lo := (List.range 13).foldl (fun m l => SMap.set (fun _ => 0) m l (s.nat (Reg.thmWearLo l))) s.nvm.wear
  let hi := (List.range 13).foldl (fun m l => SMap.set (fun _ => 0) m l (s.fld (Reg.thmWearHi l) 15 0)) s.nvm.wearCycles
  { s with nvm := { s.nvm with wear := lo, wearCycles := hi } }

end Sys2Proof.Machine
end

