-- ==== Sys2Proof/Machine/MctpOps.lean ====
section
/-! DEFINITION. Management messages: which bindings are served (R621, R654), and the Grieranex commands and their responses
(R656, R657, R659). -/
namespace Sys2Proof.Machine

/-- The controller serves a binding: 0 I3C, 1 PCIe VDM, 2 PCIe DOE (R611, R612, R654). -/
def State.bindingUp (s : State) (b : Nat) : Bool :=
  (s.recovery || decide (1 ≤ s.stage)) && !s.power.holdup && (decide (b = 0) || (s.pcie.linkUp && !s.pins.perst))

/-- Messages reach the module over a binding: on I3C it has a dynamic address (R684). -/
def State.mctpUp (s : State) (b : Nat) : Bool := s.bindingUp b && (decide (b ≠ 0) || decide (s.mctp.i3cAddr ≠ 0))

/-- EID of a binding; 0 before its bus owner has assigned one. -/
def State.eid (s : State) (b : Nat) : Nat := if b = 0 then s.mctp.eidI3c else s.mctp.eidPcie

/-- A message that is no MCTP control message is answered (R654): the binding has its EID. -/
def State.mctpServed (s : State) (b : Nat) : Bool := s.mctpUp b && decide (s.eid b ≠ 0)

/-- A message to the requester; EID 0 stands for it. -/
def State.mctpSend (s : State) (b typ : Nat) (bs : List Byte) : State := s.emit (.mctp b 0 typ bs)

/-- The response of a Grieranex command (R656). -/
def State.vendorReply (s : State) (b cmd inst cc : Nat) (body : List Byte) : State :=
  s.mctpSend b 0x7E (beBytes 2 Config.pciVendor.toNat ++ [BitVec.ofNat 8 cmd, BitVec.ofNat 8 (128 + inst % 32), BitVec.ofNat 8 cc] ++ body)

/-- A Grieranex command (R657): unanswered before the EID is assigned, ST_NO_IMAGE where the module's mode does not serve it. -/
def State.vendorCmd (s : State) (b cmd inst : Nat) (inRecovery : Bool) (f : State → State) : State :=
  if !s.mctpServed b then s
  else if s.recovery && !inRecovery then s.vendorReply b cmd inst St.noImage []
  else f s

/-- A PLDM message of the module: a response, or with `rq` a request of its own. -/
def State.pldmSend (s : State) (b : Nat) (rq : Bool) (inst typ cmd : Nat) (body : List Byte) : State :=
  s.mctpSend b 0x01 ([BitVec.ofNat 8 (128 * b2n rq + inst % 32), BitVec.ofNat 8 typ, BitVec.ofNat 8 cmd] ++ body)

/-- A PLDM request of types 0 and 2 is answered outside recovery mode, one of type 5 always (R621, R661, R662). -/
def State.pldmServed (s : State) (b typ : Nat) : Bool := s.mctpServed b && (!s.recovery || decide (typ = 5))

/-- The floor in force (R510). -/
def State.heatFloor (s : State) : Nat := min (s.fld Reg.pwrHeatFloor 15 0) (s.fld Reg.pwrCap 15 0)

/-- The values of a HEAT_REPORT (R659). -/
def State.heatReport (s : State) : List Byte :=
  let high := fun (r : Nat → Nat) => (List.range 5).foldl (fun a l => max a (s.fld (r l) 11 0)) 0
  leBytes 8 (s.cnt Reg.pwrEIn).toNat ++ leBytes 8 (s.cnt Reg.pwrEHeat).toNat ++ leBytes 8 (s.cnt Reg.pwrEFiller).toNat ++
  leBytes 2 (s.fld Reg.pwrHeatW 15 0) ++ leBytes 2 (s.fld Reg.pwrInW 15 0) ++ leBytes 2 s.heatFloor ++
  leBytes 2 (s.fld Reg.pwrSlew 12 0) ++ leBytes 2 s.flowSums.2 ++ leBytes 2 (high Reg.cltTIn) ++ leBytes 2 (high Reg.cltTOut) ++
  leBytes 2 (b2n (s.bit Reg.pwrStatus 20) + 2 * b2n (s.bit Reg.pwrStatus 21) + 4 * b2n (s.bit Reg.pwrStatus 19) +
    8 * b2n (s.bit Reg.pwrStatus 23) + 16 * b2n s.thermal.flowStop.isSome + 32 * b2n (s.bit Reg.thmStatus 31)) ++
  leBytes 8 s.tick

end Sys2Proof.Machine
end

