-- ==== Sys2Proof/Machine/MailOps.lean ====
section
/-! DEFINITION. The mailbox (R125, R134, R688) and the run states it changes (R107–R118), and the settings it serves (R119–R127). -/
namespace Sys2Proof.Machine

/-! ### Run states -/

/-- The cores of a polder's clusters, those that take no commands included. -/
def State.polderCores (s : State) (p : Nat) : List Nat := match s.polderRec p with
  | some r => (bitsOf 32 r.clusters).flatMap (fun c => (List.range 8).map (fun i => 8 * c + i))
  | none => []

/-- The clusters of a polder. -/
def State.polderClusters (s : State) (p : Nat) : List Nat := match s.polderRec p with
  | some r => bitsOf 32 r.clusters
  | none => []

/-- The counter ranges that a cluster's shared memory holds (R65, R66). -/
def State.counterRanges (s : State) (cl : Nat) : List (Nat × Nat) :=
  ((s.image.map (fun im => im.counters)).getD []).filterMap (fun r => if r.cluster = cl then some (r.offset, 4 * r.count) else none)

/-- Local stores zeroed (R114, R260). -/
def State.zeroLocals (s : State) (ns : List Nat) : State :=
  let hit := fun k => ns.contains (k / 2 ^ 22)
  { s with mem := { s.mem with
      locals := SMap.clear s.mem.locals hit, localErr := SMap.clear s.mem.localErr (fun w => hit (8 * w)) } }

/-- Shared memory of clusters zeroed, except its counter ranges (R114). -/
def State.zeroShared (s : State) (cls : List Nat) : State :=
  let hit := fun k =>
    let cl := k / 2 ^ 25
    cls.contains cl && (s.counterRanges cl).all (fun r => !(decide (r.1 ≤ k % 2 ^ 25) && decide (k % 2 ^ 25 < r.1 + r.2)))
  { s with mem := { s.mem with
      shared := SMap.clear s.mem.shared hit, sharedErr := SMap.clear s.mem.sharedErr (fun w => hit (8 * w)) } }

/-- SCRUB (R114). -/
def State.scrubPolder (s : State) (p : Nat) : State := (s.zeroLocals (s.polderCores p)).zeroShared (s.polderClusters p)

/-- The run state of a polder replaced, with MBX_STOPPING and MBX_STOPPED (R137). -/
def State.setRun (s : State) (p : Nat) (r : RunState) : State :=
  let s := { s with runs := SMap.set (fun _ => .running) s.runs p r }
  let stopping := match r with
    | .stopping _ _ _ _ => true
    | _ => false
  (s.setBit Reg.mbxStopping p stopping).setBit Reg.mbxStopped p (decide (r = .stopped))

/-- A STOPPING polder becomes STOPPED (R111 steps 4 and 5). -/
def State.stopPolder (s : State) (p : Nat) : State :=
  match s.runState p with
  | .stopping _ _ scrub ended =>
    let s := if scrub then s.scrubPolder p else s
    (s.setRun p .stopped).event 0x0202 (Src.polder p) none (ended % 2 ^ 32)
  | _ => s

/-- QUIESCE of one polder (R111, R118). -/
def State.quiesce (s : State) (abort scrub : Bool) (ms p : Nat) : State :=
  let t := s.tick + 25000 * ms
  match s.runState p with
  | .running => s.setRun p (.stopping t abort scrub 0)
  | .stopping d a x n => s.setRun p (.stopping (min d t) (a || abort) (x || scrub) n)
  | .stopped => if scrub then s.scrubPolder p else s

/-! ### Settings -/

/-- Where GRANT_DEFAULT_W is in force, a new value of it is applied (R120, R503). -/
def State.grantFollows (s : State) : State := if s.fld Reg.pwrStatus 6 4 = 0 then s.defaultGrant.showCap else s

/-- SET of a known key to a value in its range. -/
def State.setSetting (s : State) (k v : Nat) : State :=
  let s := { s with sets := { s.sets with shadow := s.putSetting s.sets.shadow k v } }
  let s := if isCommon k then s
    else
      let s : State := { s with sets := { s.sets with inforce := s.putSetting s.sets.inforce k v } }
      let s := s.applySetting k
      if k = Key.grantDefault then s.grantFollows else s
  s.nvsFlags

/-- The settings that a copy holds, as entries, with those of unknown keys (R124, R128). -/
def State.settingEntries (s : State) (m : SMap Nat) : List (Nat × Nat) :=
  (commonKeys ++ localKeys).map (fun k => (k, SMap.get s.settingDefault m k)) ++ s.sets.unknown

/-! ### Mailbox commands -/

/-- What a mailbox command returns: its status, and MBX_RESULT0 where it returns a value. -/
abbrev MbxAnswer := Nat × Option Nat

/-- A mailbox command that ends at once (R134); STORE is not among them. Where several conditions hold, ST_NO_IMAGE comes first (log entry
69). -/
def State.mbxDo (s : State) (q : MbxReq) : MbxAnswer × State :=
  let key := q.a0 % 65536
  if q.op = 0x01 then
    (match s.setting? key with
     | some r =>
       if q.a1 < r.2.1 || decide (r.2.2.1 < q.a1) then ((St.badDescriptor, none), s)
       else if key = Key.minImageSerial && decide (q.a1 < s.durableVal key) then ((St.notPermitted, none), s)
       else ((St.ok, none), s.setSetting key q.a1)
     | none => ((St.badDescriptor, none), s))
  else if q.op = 0x02 then
    (let copy := q.a1 % 4
     if (s.setting? key).isNone || decide (copy = 3) then ((St.badDescriptor, none), s)
     else ((St.ok, some (if copy = 0 then s.inforce key else if copy = 1 then s.shadowVal key else s.durableVal key)), s))
  else if q.op = 0x04 then
    ((St.ok, none), (({ s with sets := { s.sets with shadow := s.sets.durable } }).forceLocal.grantFollows).nvsFlags)
  else if q.op = 0x05 then
    (let keep := s.shadowVal Key.minImageSerial
     ((St.ok, none), (({ s with sets := { s.sets with shadow := s.putSetting [] Key.minImageSerial keep } }).forceLocal.grantFollows).nvsFlags))
  else if q.op = 0x10 then
    (if s.image.isNone then ((St.noImage, none), s)
     else if 60000 < q.a2 then ((St.badDescriptor, none), s)
     else
       let ms := if q.a2 = 0 then s.inforce Key.quiesceMs else q.a2
       ((St.ok, none), (s.polders.filter (fun p => q.a0.testBit p)).foldl (State.quiesce · (q.a1.testBit 0) (q.a1.testBit 1) ms) s))
  else if q.op = 0x11 then
    (let named := s.polders.filter (fun p => q.a0.testBit p)
     let stopping := named.any (fun p => match s.runState p with
       | .stopping _ _ _ _ => true
       | _ => false)
     if s.image.isNone then ((St.noImage, none), s)
     else if stopping || s.bit Reg.imgStatus 0 then ((St.busy, none), s)
     else ((St.ok, none), named.foldl (fun (s : State) p => if s.runState p = .stopped then s.setRun p .running else s) s))
  else ((St.badDescriptor, none), s)

/-- A mailbox command is answered: in the MBX registers, or over MCTP, which leaves the MBX registers as they are (R136; log entry 69). -/
def State.mbxAnswer (s : State) (q : MbxReq) (a : MbxAnswer) : State :=
  match q.src with
  | none =>
    let s := ((s.setFld Reg.mbxStatus 15 8 a.1).setBit Reg.mbxStatus 1 true).setBit Reg.mbxStatus 0 false
    (match a.2 with
     | some v => s.setNat (Reg.mbxResult 0) v
     | none => s)
  | some (b, inst) => s.vendorReply b 0x01 inst a.1 (leBytes 4 (a.2.getD (s.nat (Reg.mbxResult 0))))

/-- A command whose turn has come: STORE starts, or is refused within 1,000 ms of the last (R125, R127), with the milliseconds left
rounded up (log entry 69); any other ends at once. -/
def State.mbxRun (s : State) (q : MbxReq) : State :=
  if q.op = 0x03 then
    let wait := match s.sets.lastStore with
      | some t => t + 25000000 - s.tick
      | none => 0
    if 0 < wait then s.mbxAnswer q (St.busy, some (cdiv wait 25000))
    else { s.setBit Reg.nvsStatus 0 true with
      sets := { s.sets with lastStore := some s.tick }, mbx := { s.mbx with running := some (q, s.sets.shadow) } }
  else
    let r := s.mbxDo q
    r.2.mbxAnswer q r.1

/-- Commands behind a STORE that has ended run in order, until another STORE starts. -/
def State.mbxDrain : Nat → State → State
  | 0, s => s
  | n + 1, s =>
    match s.mbx.running, s.mbx.queue with
    | none, q :: rest => State.mbxDrain n ({ s with mbx := { s.mbx with queue := rest } }.mbxRun q)
    | _, _ => s

/-- A command joins the mailbox order. -/
def State.mbxSubmit (s : State) (q : MbxReq) : State :=
  State.mbxDrain (s.mbx.queue.length + 1) { s with mbx := { s.mbx with queue := s.mbx.queue ++ [q] } }

/-- A write of MBX_CMD (R135, R136). -/
def State.mbxCmd (s : State) (op : Nat) : State :=
  if !s.hostOpen then s
  else if s.bit Reg.mbxStatus 0 then s.setBit Reg.mbxStatus 2 true
  else (s.setBit Reg.mbxStatus 0 true).mbxSubmit ⟨none, op, s.nat (Reg.mbxArg 0), s.nat (Reg.mbxArg 1), s.nat (Reg.mbxArg 2)⟩

end Sys2Proof.Machine
end

