-- ==== Sys2Proof/Machine/BootOps.lean ====
section
/-! DEFINITION. Bring-up (R611–R615): the firmware slot (R617–R620), training (R613, R614), what fuses and NVM load, and recovery mode
(R621). -/
namespace Sys2Proof.Machine

/-! ### Firmware images (R618, R619) -/

/-- The first `n` bytes of a list; beyond its end they are 0. -/
def padTo (n : Nat) (l : List Byte) : List Byte := l.take n ++ List.replicate (n - l.length) 0

/-- VERSION of a firmware image. -/
def fwVersion (im : List Byte) : Nat := lsub im 4 4
/-- IMAGE_LENGTH. -/
def fwLength (im : List Byte) : Nat := lsub im 8 4
/-- SVN. -/
def fwSvn (im : List Byte) : Nat := lsub im 12 4
/-- COMMIT_SVN. -/
def fwCommits (im : List Byte) : Bool := Machine.bit (lbyte im 16) 0

/-- Hash of a key as a trailer stores it: modulus and exponent (R59). -/
def keyHash (t : List Byte) : Digest := digestOf (lslice t 0 388)

/-- EXPONENT and reserved bytes of a trailer (R58). -/
def trailerOk (t : List Byte) : Bool :=
  decide (lslice t 384 4 = [0, 1, 0, 1]) && allZero (lslice t 388 124) && allZero (lslice t 896 128)

/-- Checks 3 to 6 of R619: the REASON of the first that fails, or 0. -/
def fwReason (f : Fuses) (im : List Byte) : Nat :=
  let n := fwLength im
  if lslice im 0 4 ≠ [0x41, 0x53, 0x4B, 0x46] || decide (n < 2048) || decide (4194304 < n) || decide (n % 16 ≠ 0) ||
      !allZero (lslice im 24 232) then 1
  else
    let b := padTo n im
    let t := b.drop (n - 1024)
    if !trailerOk t || !(f.fwKeys.zipIdx).any (fun k => k.1 == keyHash t && !f.fwRevoked.testBit k.2) then 3
    else if !pssVerify (t.take 384) 65537 (b.take (n - 1024)) (lslice t 512 384) then 4
    else if fwSvn im < f.svnFloor then 5
    else 0

/-- The firmware digest (R130, R618). -/
def fwDigestOf (im : List Byte) : Digest := let n := fwLength im; digestOf ((padTo n im).take (n - 1024))

/-- SLOT_VALID, PENDING and the version of the slot (R639). -/
def State.showSlot (s : State) : State :=
  let ok := decide (fwReason s.fuses s.nvm.fwSlot = 0)
  let s := s.setNat Reg.secFwSlotVersion (fwVersion s.nvm.fwSlot)
  (s.setBit Reg.secFwStatus 16 ok).setBit Reg.secFwStatus 17 (!ok || decide (fwDigestOf s.nvm.fwSlot ≠ s.sec.fwDigest))

/-- SEC_SVN (R639). -/
def State.showSvn (s : State) (svn : Nat) : State := s.setNat Reg.secSvn (s.fuses.svnFloor % 128 + 256 * (svn % 128))

/-- The owner hash and its status come from NVM and the fuse (R639). -/
def State.showOwner (s : State) : State :=
  let s := s.setDigest (Reg.secOwnerHash 0) s.nvm.ownerHash
  (s.setBit Reg.secOwnerStatus 0 (decide (s.nvm.ownerHash ≠ 0))).setBit Reg.secOwnerStatus 1 s.fuses.ownerLocked

/-! ### Steps 1 to 3 -/

/-- Registers of the fuses (R8, R9, R638). -/
def State.showFuses (s : State) : State :=
  let v := s.fuses.variant
  let s := s.setNat Reg.idDevice (0x4C39 + 2 ^ 16 * v)
  let s := (s.setNat Reg.idStepping s.fuses.stepping).setPair Reg.idSerialLo Reg.idSerialHi s.fuses.serial
  let s := (s.setNat Reg.capUnits (if v = 7 then 0x20 else 0x3F)).setNat Reg.capLimits (clockMax v + 2 ^ 16 * powerLimit v)
  (List.range 256).foldl (fun (s : State) n => s.setReg (Reg.arrFuse n) (SMap.get (fun _ => 0) s.fuses.arrFuse n)) s

/-- The regulator self-test (R492): a failed phase is isolated, and a cluster with three of them is held from the start. -/
def State.selfTestPhases (s : State) (bad : List (Nat × Nat)) : State :=
  let s := (List.range 32).foldl (fun (s : State) c => (s.showGroup c).setFld (Reg.pwrGroupLife c) 15 0
    (min 65535 (SMap.get (fun _ => 0) s.nvm.phaseLife c))) s
  let s := bad.foldl (fun (s : State) x =>
    if 32 ≤ x.1 || decide (32 ≤ x.2) || (s.failedPhases x.1).testBit x.2 then s else s.isolatePhase x.1 x.2) s
  (List.range 32).foldl (fun (s : State) c => if 3 ≤ s.phasesFailed c then s.setBit (Reg.pwrGroup c) 16 true else s) s

/-- MEMBER_ID is sampled (R673). -/
def State.latchStraps (s : State) : State := (s.setFld Reg.idSideband 3 0 s.pins.straps).setBit Reg.idSideband 16 false

/-- The module stays in the ROM (R617, R621): nothing of the firmware runs. -/
def State.enterRecovery (s : State) (reason : Nat) : State :=
  let s := { s with sec := { s.sec with recoverReq := false, fwDigest := 0 } }
  ((s.setFld Reg.idBoot 15 12 reason).setBit Reg.idBoot 8 true).showSvn 0

/-- The firmware starts (R611 step 3, R620, R651). -/
def State.startFirmware (s : State) (power : Bool) (b : BootIn) : State :=
  let im := s.nvm.fwSlot
  let s := s.setFld Reg.idBoot 3 0 1
  let s : State := if fwCommits im then { s with fuses := { s.fuses with svnFloor := max s.fuses.svnFloor (min 64 (fwSvn im)) } } else s
  let s := { s with sec := { s.sec with fwDigest := fwDigestOf im } }
  let s := (s.setNat Reg.idFwVersion (fwVersion im)).showSvn (fwSvn im)
  if power then
    ({ s with nvm := { s.nvm with powerOns := s.nvm.powerOns + 1 } }).selfTestPhases b.phases
  else s

/-- Steps 1 to 3 of R611, after a power reset or, as R615 gives, a module reset. -/
def State.romStart (s : State) (power : Bool) (b : BootIn) : State :=
  let s := s.latchStraps.showFuses
  let s := if power then s.showOwner else s
  let reason := if s.sec.recoverReq then 6 else if b.nvmBad then 7 else fwReason s.fuses s.nvm.fwSlot
  let s := if reason = 0 then s.startFirmware power b else s.enterRecovery reason
  if b.nvmBad then s else s.showSlot

/-! ### Steps 4 to 9 -/

/-- Memory training (R613, R614, R308): stack memory is zeroed, and failing columns are marked. -/
def State.train (s : State) (b : BootIn) : State :=
  let bad := (List.range 256).filter (fun c => b.cols.contains c)
  let s := { s with mem := { s.mem with dram := [], errs := [], owed := [], calTick := [], calTemp := [], calPending := [] } }
  let s := bad.foldl (fun (s : State) c =>
    (s.setFlag (Reg.idMemFailed 0) c true).event 0x0102 (Src.column c) none (b.attempts % 256)) s
  let s := s.setFld Reg.idBoot 24 16 bad.length
  match (List.range 4).find? (fun p => !bad.any (fun c => decide (c / 64 = p))) with
  | some p => s.setFld Reg.idBoot 26 25 p
  | none => s.setBit Reg.idBoot 27 true

/-- Remap tables come from NVM at every power-on; at a module reset they stand, with entries not yet written (R314, R327). -/
def State.loadRemap (s : State) (power : Bool) : State :=
  (List.range 256).foldl (fun (s : State) c =>
    let es := (List.range 8).map (fun j => SMap.get (fun _ => (0 : Word)) s.nvm.remap (8 * c + j))
    let s := if power then es.zipIdx.foldl (fun (s : State) x => s.setReg (Reg.memRemap c x.2) x.1) s else s
    let s := s.setFld (Reg.memColStatus c) 23 20 ((List.range 8).countP (fun j => s.bit (Reg.memRemap c j) 31))
    s.setBit (Reg.memColStatus c) 1 (SMap.get (fun _ => false) s.nvm.remapFull c)) s

/-- The retirement list comes into force (R320). -/
def State.loadRetired (s : State) : State :=
  let s := { s with mem := { s.mem with retired := s.nvm.retire } }
  let s := (s.setNat Reg.memRetireCount s.nvm.retire.length).setBit Reg.memRetireStatus 4 false
  s.setBit Reg.memRetireStatus 3 (decide (4096 ≤ s.nvm.retire.length))

/-- CTX_VIGIL of contexts takes the in-force VIGIL_DEFAULT_MS (R120, R563). -/
def State.loadVigils (s : State) (cs : List Nat) : State :=
  cs.foldl (fun (s : State) c => s.setNat (Reg.ctxVigil c) (s.inforce Key.vigilDefault)) s

/-- The lifetime values of NVM are shown (R440, R541, R609, R549, R497). -/
def State.loadLife (s : State) : State :=
  let s := (List.range 13).foldl (fun (s : State) l =>
    (s.setNat (Reg.thmWearLo l) (SMap.get (fun _ => 0) s.nvm.wear l)).setNat (Reg.thmWearHi l) (SMap.get (fun _ => 0) s.nvm.wearCycles l)) s
  let s := s.setBit Reg.thmStatus 29 ((List.range 13).any (fun l => decide (10000000 ≤ SMap.get (fun _ => 0) s.nvm.wear l)))
  let s := s.setNat Reg.cltStops (min 65535 s.nvm.flowStops + 65536 * min 65535 s.nvm.trips)
  (List.range 8).foldl (fun (s : State) p =>
    let m := SMap.get (fun _ => 0) s.nvm.macs p
    (s.setNat (Reg.fabPortMacLo p) (m % 2 ^ 32)).setNat (Reg.fabPortMacHi p) (m / 2 ^ 32)) s

/-- FAB_INCARNATION rises by 1: flows start at a new first generation (R451). -/
def State.newIncarnation (s : State) : State :=
  let n := (s.nvm.fabIncarnation + 1) % 65536
  ({ s with nvm := { s.nvm with fabIncarnation := n } }).setNat Reg.fabIncarnation n

/-- What NVM loads at step 8 of R611 (R120, R121, R128, R133, R320, R451, R503). -/
def State.loadNvm (s : State) (power : Bool) : State :=
  let s := ((s.loadSettings.loadRetired).loadRemap power).newIncarnation
  let s := s.loadVigils (List.range 4096)
  let s := if power then s.loadLife.defaultGrant else s.grantFollows
  s.recomputeDigests

/-- STAGE reads READY and EV_BOOT is recorded (R611 step 9). -/
def State.becomeReady (s : State) (power : Bool) : State :=
  (s.setFld Reg.idBoot 3 0 6).event 0x0101 Src.module none
    (dataOf [(0, s.nat Reg.idFwVersion), (4, if power then 6 else 5), (8, s.nvm.powerOns % 2 ^ 32)])

/-- Steps 4 to 9 of R611: the link trains where it is down; recovery mode goes no further. -/
def State.finishBoot (s : State) (power : Bool) (b : BootIn) : State :=
  let s := { s with pcie := { s.pcie with bring := none, linkUp := s.pcie.linkUp || b.link } }
  if s.recovery then s
  else
    let s := if power then s.train b else s
    (s.loadNvm power).becomeReady power

/-- Bring-up: it waits before step 4 while PERST_N is asserted (R610). -/
def State.bringUp (s : State) (power : Bool) (b : BootIn) : State :=
  let s := s.romStart power b
  if s.pins.perst then { s with pcie := { s.pcie with bring := some power } } else s.finishBoot power b

/-! ### Resets -/

/-- Registers that show what is measured or held elsewhere keep their values at a module reset (R516, R547, R549, R637). -/
def liveReg (a : Nat) : Bool :=
  (decide (0x110040 ≤ a) && decide (a < 0x110080)) || (decide (0x110100 ≤ a) && decide (a < 0x110900) && decide (a % 8 = 0)) ||
  (decide (0x110900 ≤ a) && decide (a < 0x110B00)) || (decide (0x111004 ≤ a) && decide (a < 0x111160))

/-- The state after the loss of power (R13): NVM, fuses, the pins and what lies outside the module remain. Powered ticks are kept for
R601, as NVM keeps them. -/
def State.powerBase (s : State) : State :=
  { State.reset with
    pending := s.pending, freeCtr := s.freeCtr, regs := [], alm := ⟨[], 0, [], false, none⟩, host := ⟨s.host.mem, [], []⟩,
    fuses := s.fuses, nvm := s.nvm, pins := ⟨s.pins.perst, s.pins.straps, [], false, false⟩,
    pcie := { State.reset.pcie with linkUp := false }, out := s.out,
    sec := { State.reset.sec with nonceNo := s.sec.nonceNo + 1, fwDigest := 0 },
    power := { State.reset.power with feedA := .absent, feedB := .absent },
    parity := { State.reset.parity with events := s.parity.events, powered := s.parity.powered + s.tick } }

/-- The state of cores below the power level: their sets, shadow lanes and tests are gone, the mismatches of the last second stay. -/
def State.clearCores (s : State) (ns : List Nat) : State :=
  ns.foldl (fun (s : State) n => s.setCore n { CoreState.clear with mismatch := (s.core n).mismatch }) s

/-- What a chip reset clears (R13, R178, R245, R260, R270). -/
def State.clearChip (s : State) : State :=
  let s := (s.clearRegs .chip (fun _ => true)).clearCores (List.range 256)
  let s := { s with
    ctxs := [], arbs := [], nbus := [], nbuReady := [], sentinel := [], drifted := []
    mem := { s.mem with shared := [], locals := [], sharedErr := [], localErr := [] }
    resets := { s.resets with spans := [] } }
  s.loadVigils (List.range 4096)

/-- What a module reset clears beyond a chip reset (R13, R476, R516, R604, R617, R637, R639, R688); links, stack memory, the almanac,
NVM and the grant stay, and CLT_STATUS shows the conditions of the coolant that still hold (R533, R534). -/
def State.clearModule (s : State) : State :=
  let grant := s.fld Reg.pwrStatus 7 4
  let boot := s.reg Reg.idBoot &&& 0xFFF0000
  let clt := s.reg Reg.cltStatus &&& 0x177
  let s := s.clearChip.clearRegs .module (fun a => !liveReg a)
  let s := ((s.setFld Reg.pwrStatus 7 4 grant).setReg Reg.idBoot boot).setReg Reg.cltStatus clt
  let s := s.setBit Reg.memRetireStatus 0 s.mem.pendingRetire.isSome
  let s := ((List.range 256).filter s.calibrating).foldl (fun (s : State) c => s.setBit (Reg.memColStatus c) 8 true) s
  { s with
    latches := [], image := none, loader := State.reset.loader, runs := [], kv := [], copies := [], mbx := ⟨none, []⟩
    sec := { s.sec with staging := [], path := none, stagedOver := false, verifiedLen := none, busy := .idle, pldm := ⟨0, 0, 0, 0⟩,
                        spdmStage := 0, sessions := [], nonceNo := s.sec.nonceNo + 1 }
    power := { s.power with window := 0, cut := [], nbuHeld := 0, slackRep := [], fillerDemand := 0 }
    clocks := ⟨[], [], [], [], s.clocks.rails, []⟩
    thermal := { s.thermal with bdDuty := 4 }
    fab := { s.fab with flows := [], rx := [], reads := [], rates := [], epochs := [], lastCnp := [], qps := [] }
    casc := ⟨[], [], [], none, false, none⟩
    parity := { s.parity with maps := [], pending := [], reports := [], steps := [] } }

end Sys2Proof.Machine
end

