-- ==== Sys2Proof/Machine/Boot.lean ====
section
/-! DEFINITION. Power-on, PERST_N and the PCIe link (R610–R616, R674), the straps (R673), IDE (R630) and the I3C bus (R684). -/
namespace Sys2Proof.Machine

/-- What the PCIe events of R615 clear at once: virtual functions, power states, what is held for them, and IDE (R616, R630). -/
def State.linkDrop (s : State) : State :=
  { s with
    pcie := { s.pcie with vfs := 0, d3 := [], heldRecords := [], heldMsix := [] }
    sec := { s.sec with ideActive := 0, ideInsecure := 0 } }.setReg Reg.secIde 0

/-- A module reset that a PCIe event performs (R615); R566 names no trigger for it, so its code is a free value. -/
def State.pcieReset (s : State) : State :=
  let t := Config.freeNat s.freeCtr % 7
  s.fresh.linkDrop.reachReset 5 0 t none none []

/-- POWER_ON (R611): the first feed reaches 40 V after power was absent. -/
def doPowerOn (feed : Nat) (b : BootIn) (s : State) : State :=
  if s.powered then s else (s.powerBase.setFeed feed .inRange).bringUp true b
/-- The meaning of POWER_ON. -/
def execPowerOn (feed : Nat) (b : BootIn) (s : State) : Res := guarded (Instr.powerOn feed b).wf s (doPowerOn feed b)

/-- PERST_N_ASSERT (R615, R674): shorter than 1 µs, or without a feed, it has no effect; while bring-up waits for the release it
only holds it back (R610). -/
def doPerstAssert (ns : Nat) (s : State) : State :=
  if decide (ns < 1000) || !s.powered || s.pins.perst then s
  else
    let s := { s with pins := { s.pins with perst := true }, pcie := { s.pcie with linkUp := false } }
    if s.pcie.bring.isSome then s else s.pcieReset
/-- The meaning of PERST_N_ASSERT. -/
def execPerstAssert (ns : Nat) (s : State) : Res := guarded (Instr.perstAssert ns).wf s (doPerstAssert ns)

/-- PERST_N_RELEASE (R611 step 4): bring-up that waited for it goes on. -/
def doPerstRelease (b : BootIn) (s : State) : State :=
  let s := { s with pins := { s.pins with perst := false } }
  match s.pcie.bring with
  | some power => s.finishBoot power b
  | none => s
/-- The meaning of PERST_N_RELEASE. -/
def execPerstRelease (b : BootIn) (s : State) : Res := guarded (Instr.perstRelease b).wf s (doPerstRelease b)

/-- PCIE_HOT_RESET (R615). -/
def doPcieHotReset (s : State) : State := if s.pcie.linkUp then s.pcieReset else s
/-- The meaning of PCIE_HOT_RESET. -/
def execPcieHotReset (s : State) : Res := guarded Instr.pcieHotReset.wf s doPcieHotReset

/-- PCIE_LINK_LOSS (R615): the reset trains the link again. -/
def doPcieLinkLoss (s : State) : State :=
  if s.pcie.linkUp then { s with pcie := { s.pcie with linkUp := false } }.pcieReset else s
/-- The meaning of PCIE_LINK_LOSS. -/
def execPcieLinkLoss (s : State) : Res := guarded Instr.pcieLinkLoss.wf s doPcieLinkLoss

/-- STRAP_CHANGE (R673): the latched value stays, and STRAP_CHANGED shows the difference. -/
def doStrapChange (level : Nat) (s : State) : State :=
  let s := { s with pins := { s.pins with straps := level } }
  if level = s.fld Reg.idSideband 3 0 then s else s.setBit Reg.idSideband 16 true
/-- The meaning of STRAP_CHANGE. -/
def execStrapChange (level : Nat) (s : State) : Res := guarded (Instr.strapChange level).wf s (doStrapChange level)

/-- SEC_IDE shows the active streams (R639). -/
def State.showIde (s : State) : State :=
  (s.setFld Reg.secIde 2 0 (popcount 5 (s.sec.ideActive / 2 * 2))).setBit Reg.secIde 4 (s.sec.ideActive.testBit 0)

/-- IDE_INTEGRITY_FAILURE (R630): the stream becomes Insecure; no TLP of it reaches the module from then on. -/
def doIdeIntegrityFailure (stream : Nat) (s : State) : State :=
  if s.sec.ideActive.testBit stream && !s.sec.ideInsecure.testBit stream then
    let s := { s with sec := { s.sec with ideInsecure := s.sec.ideInsecure ||| 2 ^ stream } }
    ((s.setBit Reg.secIde 8 true).aer aerIde).event 0x0104 Src.module none stream
  else s
/-- The meaning of IDE_INTEGRITY_FAILURE. -/
def execIdeIntegrityFailure (stream : Nat) (s : State) : Res :=
  guarded (Instr.ideIntegrityFailure stream).wf s (doIdeIntegrityFailure stream)

/-- I3C_BUS_RESET (R684). -/
def doI3cBusReset (s : State) : State := { s with mctp := { s.mctp with i3cAddr := 0 } }
/-- The meaning of I3C_BUS_RESET. -/
def execI3cBusReset (s : State) : Res := guarded Instr.i3cBusReset.wf s doI3cBusReset

end Sys2Proof.Machine
end

