-- ==== Sys2Proof/Machine/FabRx.lean ====
section
/-! DEFINITION. The receiving and acknowledging sides of the fabric: frames taken in (R445–R447), sequence and generation (R449,
R451, R452), the configuration tag (R459), acknowledgements, NAKs and timeouts at the sender (R450, R453), and rates (R454). -/
namespace Sys2Proof.Machine

/-! ### Frames taken in -/

/-- A device may send sequenced frames (R447). -/
def State.knownSource (s : State) (d : Nat) : Bool :=
  !(s.peerEntries d).isEmpty || (match s.group? with
    | some g => (g.devices.take g.members).contains d
    | none => false)

/-- The receiver takes a datagram in (R447). -/
def State.takes (s : State) (bytes : List Byte) : Bool :=
  let h := parseHdr bytes
  decide (h.version = 0x10) && typeKnown h.typ && decide (h.len ≤ 4096) && decide (bytes.length = 44 + h.len) &&
  decide (beNat (lslice bytes (40 + h.len) 4) = crc32c (bytes.take (40 + h.len))) && decide (h.dst = s.device) &&
  (!h.sequenced || s.knownSource h.src)

/-- The FEC codewords of a received packet that were corrected or could not be: how many is the line's (R479, log entry 19). -/
def State.countFec (s : State) (port : Nat) : State :=
  { (s.addCnt (Reg.fabPortCntFecCorr port) (Config.freeNat s.freeCtr)).addCnt (Reg.fabPortCntFecUncorr port) (Config.freeNat (s.freeCtr + 1)) with
    freeCtr := s.freeCtr + 2 }

/-- The counters of a received packet (R454, R479). -/
def State.countRx (s : State) (port bytes : Nat) (ce : Bool) : State :=
  let s := (s.countFec port).addCnt (Reg.fabPortCntRxFrames port) 1
  let s := s.addCnt (Reg.fabPortCntRxBytes port) bytes
  if ce then s.addCnt (Reg.fabPortCntCeRx port) 1 else s

/-- The receive checks of a packet of the port (R439, R442): at most 9,216 bytes, to the port's own address and LOCAL.UDP_PORT, without
IP options. -/
def State.rxFits (s : State) (f : Rx) : Bool :=
  decide (f.bytes.length + ipOver f.src ≤ 9216) && decide (f.dst = s.portAddr f.port) && decide (f.udp = s.udpPort) && !f.options

/-- A datagram reaches the transport: its port is in service and takes the packet, and R447 does not discard it. -/
def State.intake (s : State) (f : Rx) : Option Hdr × State :=
  if !s.ready || !s.bit (Reg.fabPortStatus f.port) 0 then (none, s)
  else
    let s := s.countRx f.port (f.bytes.length + ipOver f.src) f.ce
    if !s.inService f.port || !s.rxFits f then (none, s.addCnt (Reg.fabPortCntRxDiscard f.port) 1)
    else if s.takes f.bytes then (some (parseHdr f.bytes), s)
    else (none, s.addCnt Reg.fabCntDiscard 1)

/-! ### The receiver's sequence -/

/-- The SACK bitmap (R449). -/
def sackBytes (r : RxFlow) : List Byte :=
  (List.range 32).map (fun i => BitVec.ofNat 8 ((List.range 8).foldl (fun a k =>
    a + 2 ^ k * b2n (r.beyond.contains ((r.next + 1 + 8 * i + k) % 2 ^ 32))) 0))

/-- An ACK goes to the source of a flow (R449). -/
def State.sendAck (s : State) (d : Nat) : State :=
  match s.rxOf d with
  | none => s
  | some r => (s.sendBack d r.port r.src 0x10 r.gen (beBytes 4 r.next ++ beBytes 2 r.ce) (sackBytes r)).setRx d
      { r with ce := 0, unacked := 0, oldest := none }


/-- The tag of a frame is refused (R459): a NAK at most once in a millisecond. -/
def State.skew (s : State) (d : Nat) : Verdict × State :=
  let s := (s.addCnt Reg.fabCntSkew 1).setReg Reg.fabSkewLast (BitVec.ofNat 32 (2 ^ 31 + d))
  match s.rxOf d with
  | none => (.discard, s)
  | some r =>
    if (match r.skewNak with
      | some t => decide (s.tick < t + 25000)
      | none => false) then (.discard, s)
    else (.nak St.configSkew, s.setRx d { r with skewNak := some s.tick })

/-- A frame's turn: its tag is checked and it is applied; its PSN is accepted when that is complete or a NAK other than
ST_BUSY answers it (R449, R453, R459). -/
def State.turn (apply : State → Rx → Hdr → Verdict × State) (s : State) (f : Rx) (h : Hdr) : State :=
  let v := if tagChecked h.typ && decide (h.tag ≠ s.nat Reg.nvsCfgTag) then s.skew h.src else apply s f h
  match v.1 with
  | .accept => v.2.acceptPsn h.src h.psn
  | .nak st =>
    let s := v.2.sendNak h.src f.port f.src h.gen h.psn st false
    if st = St.busy then s else s.acceptPsn h.src h.psn
  | .discard => v.2

/-- The ordered frames that have waited for their turn (R452). -/
def State.turnWaiting (apply : State → Rx → Hdr → Verdict × State) : Nat → State → Nat → State
  | 0, s, _ => s
  | n + 1, s, d =>
    match s.rxOf d with
    | none => s
    | some r =>
      match r.waiting.find? (fun w => w.1 == r.next) with
      | none => s
      | some w =>
        let s := s.setRx d { r with waiting := r.waiting.filter (fun x => x.1 != w.1) }
        State.turnWaiting apply n (s.turn apply ⟨r.port, r.src, false, w.2, s.portAddr r.port, s.udpPort, false⟩ (parseHdr w.2)) d

/-- The state that a frame's source has with the receiver, after the rules of generations (R451): none where a RESYNC is due. -/
def State.rxState (s : State) (f : Rx) (h : Hdr) : Option RxFlow :=
  let syn := Machine.bit h.flags 3
  match s.rxOf h.src with
  | some r => if r.gen = h.gen then some { r with port := f.port, src := f.src, ce := r.ce + b2n f.ce }
      else if syn then some ⟨h.gen, h.psn, [], 0, none, b2n f.ce, [], r.skewNak, f.port, f.src⟩ else none
  | none => if syn then some ⟨h.gen, h.psn, [], 0, none, b2n f.ce, [], none, f.port, f.src⟩ else none

/-- A sequenced frame is received (R449, R451, R452). -/
def State.receive (apply : State → Rx → Hdr → Verdict × State) (s : State) (f : Rx) (h : Hdr) : State :=
  match s.rxState f h with
  | none => s.sendNak h.src f.port f.src h.gen h.psn 0 true
  | some r =>
    let same := (s.rxOf h.src).all (fun q => decide (q.gen = h.gen))
    let s := (if same then s else { s with fab := { s.fab with reads := s.fab.reads.filter (fun x => x.1 != h.src) } }).setRx h.src r
    if psnBefore h.psn r.next || r.beyond.contains h.psn || r.waiting.any (fun w => w.1 == h.psn) ||
        s.fab.reads.any (fun x => x.1 == h.src && x.2.1 == h.psn) then s.sendAck h.src
    else if Machine.bit h.flags 2 && decide (h.psn ≠ r.next) then
      (s.setRx h.src { r with waiting := (h.psn, f.bytes) :: r.waiting }).sendAck h.src
    else
      let s := State.turnWaiting apply (r.waiting.length + 1) (s.turn apply f h) h.src
      match s.rxOf h.src with
      | none => s
      | some q => if 16 ≤ q.unacked || decide (h.psn ≠ r.next) then s.sendAck h.src else s

/-! ### The sender -/

/-- Retransmission timeout of a flow in ticks (R450). -/
def State.rtoTicks (s : State) (f : Flow) : Nat := 25 * (if f.timeout = 0 then s.inforce Key.rto else f.timeout)

/-- A frame goes out again, on another path (R450). -/
def State.resend (s : State) (d : Nat) (t : TxFrame) : State :=
  if (s.paths d).isEmpty then s else (s.putFrame d t).addCnt Reg.fabCntRetransmit 1

/-- Rate of a path; every path starts at 100 Gb/s. -/
def State.rate (s : State) (d port entry : Nat) : PathRate :=
  SMap.get (fun _ => ⟨100000, 0, none, none⟩) s.fab.rates (2048 * d + 256 * port + entry)

/-- The rate of a path set, between 1 and 800 Gb/s. -/
def State.setRate (s : State) (d port entry : Nat) (r : PathRate) : State :=
  let q := { r with rate := max 1000 (min 800000 r.rate) }
  { s with fab := { s.fab with rates := SMap.set (fun _ => ⟨100000, 0, none, none⟩) s.fab.rates (2048 * d + 256 * port + entry) q } }

/-- Every path of a flow slows down by the congestion rule, at most once in 10 µs each (R454). -/
def State.slowPaths (s : State) (d : Nat) : State :=
  (s.paths d).foldl (fun (s : State) p =>
    let r := s.rate d p.1 p.2
    if (match r.lastCe with
      | some t => decide (s.tick < t + 250)
      | none => false) then s
    else s.setRate d p.1 p.2 ⟨r.rate * (256 - s.inforce Key.ecnBeta) / 256, 0, some s.tick, some s.tick⟩) s

/-- Every path of a flow halves its rate on a timeout (R454). -/
def State.halvePaths (s : State) (d : Nat) : State :=
  (s.paths d).foldl (fun (s : State) p =>
    let r := s.rate d p.1 p.2
    s.setRate d p.1 p.2 ⟨r.rate / 2, 0, some s.tick, r.lastCe⟩) s

/-- A flow is UP again (R450). -/
def State.peerUp (s : State) (d : Nat) : State :=
  let f := s.flow d
  if f.down then
    ((s.setFlow d { f with down := false }).showDown).event 0x0602 Src.module none (dataOf [(0, d), (2, f.gen)])
  else s

/-- PSNs that an ACK reports as accepted. -/
def ackCovers (ack : Nat) (sack : List Byte) (psn : Nat) : Bool :=
  psnBefore psn ack ||
    (let i := (psn + 2 ^ 32 - ack) % 2 ^ 32; decide (1 ≤ i) && decide (i ≤ 256) && Machine.bit (lbyte sack ((i - 1) / 8)) ((i - 1) % 8))

/-- Frames missing behind three later accepted PSNs, not yet sent again (R450). -/
def fastFrames (f : Flow) (ack : Nat) (sack : List Byte) : List TxFrame :=
  let acc := ((List.range 256).filter (fun i => Machine.bit (lbyte sack (i / 8)) (i % 8))).map (fun i => (ack + 1 + i) % 2 ^ 32)
  f.unacked.filter (fun t => t.sent.isSome && !t.busy && !t.fast && decide (3 ≤ acc.countP (fun p => psnBefore t.psn p)))

/-- What an acknowledgement lets go on: a transfer, a collective, or a harvest. -/
def State.workCheck (s : State) (id : Nat) : State := ((s.fabricCheck id).collCheck id).harvestCheckEnd id

/-- Commands that own frames of a flow. -/
def State.frameOwners (s : State) (d : Nat) : List Nat := ((s.flow d).unacked.filterMap (fun t => t.owner)).eraseDups

/-- An ACK of a flow (R449, R450, R454): accepted frames leave the flow; missing ones go out again; more may be sent; parity
deltas are accepted (R589) and transfers whose frames are all acknowledged end. -/
def State.gotAck (s : State) (h : Hdr) : State :=
  let d := h.src
  let f := s.flow d
  if f.gen ≠ h.gen || (SMap.get (fun _ => none) s.fab.flows d).isNone then s
  else
    let ack := h.be 0x18 4
    let owners := s.frameOwners d
    let left := f.unacked.filter (fun t => !ackCovers ack h.payload t.psn)
    let adv := f.unacked.any (fun t => psnBefore t.psn ack)
    let s := s.setFlow d { f with unacked := left, expiries := if adv then 0 else f.expiries,
                                  timeout := if adv then 0 else f.timeout }
    let s := s.peerUp d
    let s := if 0 < h.be 0x1C 2 then s.slowPaths d else s
    let again := fastFrames (s.flow d) ack h.payload
    let g := s.flow d
    let s := s.setFlow d { g with unacked := g.unacked.map (fun t => if again.any (fun a => a.psn == t.psn) then { t with fast := true } else t) }
    let s := again.foldl (fun (s : State) t => s.resend d { t with fast := true }) s
    let s := s.acceptDeltas (fun x => decide (x.device = d) && ackCovers ack h.payload x.psn)
    let wrote := (f.unacked.filter (fun t => decide (t.typ = 0x01) && ackCovers ack h.payload t.psn)).filterMap (fun t => t.owner)
    let s := wrote.eraseDups.foldl State.wroteCmd s
    owners.foldl State.workCheck (s.pump d)

/-- The internal address of space 0x20 that a WRITE or READ_REQ frame names, where a status of R162 reports it. -/
def nakAddr (d : Nat) (t : TxFrame) (status : Nat) : Option Nat :=
  if (t.typ = 0x01 || t.typ = 0x02) && [St.uncorrectable, St.retired, St.notPermitted, St.badDescriptor].contains status then
    some (0x20 * 2 ^ 40 + d * 2 ^ 28 + beNat (lslice t.area 4 4) % 2 ^ 28)
  else none

/-- A command that runs ends with the status of a NAK (R453). -/
def State.nakOwner (s : State) (id status : Nat) (addr : Option Nat) : State :=
  match s.cmd? id with
  | some c => if c.phase = .running then (s.endCmd id status addr).spanEnd id else s
  | none => s

/-- A new generation of a flow (R451): every unacknowledged frame is renumbered from 0, the first with SYN, and goes out again;
what waits for their answers follows the numbers. -/
def State.resync (s : State) (d : Nat) : State :=
  let f := s.flow d
  let old := f.unacked.map (fun t => t.psn)
  let renum := fun p => match old.findIdx? (· == p) with
    | some i => i
    | none => p
  let frames := f.unacked.zipIdx.map (fun x => { x.1 with
    psn := x.2, flags := if x.2 = 0 then x.1.flags ||| 8 else x.1.flags &&& 0xFFF7, sent := none, busy := false, fast := false })
  let n := f.unacked.countP (fun t => t.sent.isSome)
  let s := s.setFlow d { f with gen := (f.gen + 1) % 65536, next := frames.length, unacked := frames,
                                expiries := 0, timeout := 0, syn := frames.isEmpty }
  let key := fun k => if k / 2 ^ 32 = d then 2 ^ 32 * d + renum (k % 2 ^ 32) else k
  let want := fun (w : List (Nat × Nat × Nat)) => w.map (fun x => (key x.1, x.2.1, x.2.2))
  let reask := fun (c : Cmd) => match c.work with
    | .fabric w => { c with work := .fabric (want w) }
    | .restore b w => { c with work := .restore b (want w) }
    | _ => c
  let renumDelta := fun (x : PendDelta) => if x.device = d then { x with psn := renum x.psn } else x
  let renumRead := fun (x : Nat × Nat × Nat) => if x.1 = d && old.contains x.2.2 then (x.1, x.2.1, renum x.2.2) else x
  let s := { s with cmds := s.cmds.map reask, parity := { s.parity with pending := s.parity.pending.map renumDelta },
                    fab := { s.fab with reads := s.fab.reads.map renumRead } }
  (s.addCnt Reg.fabCntRetransmit n).pump d

/-- A NAK of a flow (R453, R451): RESYNC starts a new generation; ST_BUSY holds the frame for another try; otherwise the frame
is at its end and the command that owns it ends with the STATUS; a refused parity delta is no longer pending (R589). -/
def State.gotNak (s : State) (h : Hdr) : State :=
  let d := h.src
  let f := s.flow d
  let s := s.addCnt Reg.fabCntNakRx 1
  if f.gen ≠ h.gen || (SMap.get (fun _ => none) s.fab.flows d).isNone then s
  else
    let psn := h.be 0x18 4
    let st := h.be 0x1C 1
    if Machine.bit (h.be 0x1D 1) 0 then s.resync d
    else match f.unacked.find? (fun t => t.psn == psn) with
      | none => s
      | some t =>
        if st = St.busy then
          s.setFlow d { f with unacked := f.unacked.map (fun u => if u.psn = psn then { u with busy := true, sent := some s.tick } else u) }
        else
          let s := (s.setFlow d { f with unacked := f.unacked.filter (fun u => u.psn != psn) }).pump d
          let s := match t.owner with
            | some id => if t.typ = 0x31 && decide (st = St.uncorrectable) then
                s.helperBad id (beNat (lslice t.area 4 4)) (lbyte t.area 3) else (s.nakOwner id st (nakAddr d t st)).workCheck id
            | none => s
          let hit := s.parity.pending.filter (fun x => decide (x.device = d) && decide (x.psn = psn))
          let s := s.acceptDeltas (fun x => decide (x.device = d) && decide (x.psn = psn))
          (hit.filterMap (fun x => x.cmd)).foldl (fun (s : State) id =>
            s.updCmd id (fun c => if c.phase = .done St.ok then { c with phase := .done st } else c)) s

/-- Frames of a flow whose timeout has run out (R450). -/
def State.overdue (s : State) (f : Flow) : List TxFrame :=
  f.unacked.filter (fun t => !t.busy && (match t.sent with
    | some x => decide (x + s.rtoTicks f ≤ s.tick)
    | none => false))

/-- A retransmission timeout expires (R450, R454): the overdue frames go out again, the timeout doubles up to 64 times its base,
the rates halve; the eighth in a row makes the peer DOWN. -/
def State.timeoutOf (s : State) (d : Nat) : State :=
  let f := s.flow d
  let late := s.overdue f
  if f.down || late.isEmpty then s
  else
    let base := s.inforce Key.rto
    let n := f.expiries + 1
    let s := s.addCnt Reg.fabCntRto 1
    let s := s.setFlow d { f with expiries := n, timeout := min (64 * base) (2 * (if f.timeout = 0 then base else f.timeout)),
                                  down := decide (8 ≤ n), lastRto := s.tick,
                                  unacked := f.unacked.map (fun t => { t with fast := false }) }
    let s := (late.foldl (fun (s : State) t => s.resend d { t with fast := false }) s).halvePaths d
    if 8 ≤ n then s.showDown.event 0x0601 Src.module none (dataOf [(0, d), (2, f.gen)]) else s

/-- A DOWN peer gets one retransmission every 10 ms (R450). -/
def State.probeDown (s : State) (d : Nat) : State :=
  let f := s.flow d
  if !f.down || decide (s.tick < f.lastRto + 250000) then s
  else match f.unacked.head? with
    | none => s
    | some t => (s.setFlow d { f with lastRto := s.tick }).resend d t

/-- A frame refused with ST_BUSY is tried again after one retransmission timeout (R453). -/
def State.busyAgain (s : State) (d psn : Nat) : State :=
  let f := s.flow d
  match f.unacked.find? (fun t => decide (t.psn = psn) && t.busy) with
  | none => s
  | some t =>
    if s.tick < t.sent.getD 0 + s.rtoTicks f then s
    else
      let t := { t with busy := false }
      (s.setFlow d { f with unacked := f.unacked.map (fun u => if u.psn = psn then t else u) }).resend d t

/-- 10 µs pass on a path without a decrease (R454). -/
def State.speedPath (s : State) (d port entry : Nat) : State :=
  let r := s.rate d port entry
  if (s.paths d).contains (port, entry) && (match r.lastDec with
      | some t => decide (t + 250 ≤ s.tick)
      | none => true) then
    s.setRate d port entry ⟨r.rate + (if r.quiet < 5 then 8000 else 40000), min (r.quiet + 1) 5, r.lastDec, r.lastCe⟩
  else s

/-! ### Breaches -/

/-- A breach reaches a polder (R470): its latch is set, and what is in flight or submitted completes with ST_PEER_ABORT. -/
def State.breachPolder (s : State) (p origin status : Nat) : State :=
  let s := if s.bit (Reg.fabBreach p) 31 then s
    else s.setReg (Reg.fabBreach p) (BitVec.ofNat 32 (2 ^ 31 + status % 256 * 2 ^ 16 + origin % 4096))
  let s := s.stopAll ((s.polderCmds p).map (fun c => c.id)) St.peerAbort
  (s.ctxsOf p).foldl (fun (s : State) c => if s.enabled c then s.markSlots c (s.submitted c) St.peerAbort else s) s

/-- A BREACH frame (R470, R471). -/
def State.gotBreach (s : State) (h : Hdr) : State :=
  let origin := h.be 0x18 2 % 4096
  let serial := h.be 0x1C 4
  let status := h.be 0x20 1
  let s := s.addCnt Reg.fabCntBreachRx 1
  if s.fab.seen.contains (origin, serial) then s
  else
    let s := s.seeBreach origin serial
    let ps := (List.range 32).filter (fun p => (s.peer p h.src).isSome)
    let s := ps.foldl (fun (s : State) p => s.breachPolder p origin status) s
    let devs := ((ps.flatMap s.peersOf).eraseDups).filter (· ≠ h.src)
    s.breachTo devs origin serial status

/-! ### Memory operations of peers (R455, R458) -/

/-- A polder-side range of an endpoint: its polder and the address of an offset. -/
def State.epAddr (s : State) (e off : Nat) : Nat × Nat :=
  (s.fld (Reg.fabEpCtrl e) 28 24, s.nat (Reg.fabEpBaseLo e) + 2 ^ 32 * s.fld (Reg.fabEpBaseHi e) 15 0 + off)

/-- A byte of an endpoint's range lies in a retired unit in force (R320): a peer's address names its column and offset directly
(R303). -/
def State.touchesRetired (s : State) (addr n : Nat) : Bool := s.physRetired (addrCore addr) (addrOff addr) n

/-- The checks of R458, in its order; `right` is 0 to read and 1 to write. -/
def State.peerCheck (s : State) (src ep off n right : Nat) : Nat :=
  let p := s.fld (Reg.fabEpCtrl ep) 28 24
  if s.image.isNone then St.noImage
  else if 4096 ≤ ep || !s.bit (Reg.fabEpCtrl ep) 31 then St.notPermitted
  else if !s.peerRight p src right || !s.bit (Reg.fabEpCtrl ep) (16 + right) then St.notPermitted
  else if s.nat (Reg.fabEpLength ep) < off + n then St.badDescriptor
  else if s.touchesRetired (s.epAddr ep off).2 n then St.retired
  else if s.resets.jobs.any (fun j => decide (j.level = 5)) then St.fenced
  else St.ok

/-- A WRITE frame (R455, R458). -/
def State.peerWrite (s : State) (h : Hdr) : Verdict × State :=
  let ep := h.be 0x18 2
  let off := h.be 0x1C 4 % 2 ^ 28
  let st := s.peerCheck h.src ep off h.payload.length 1
  if st ≠ St.ok then (.nak st, s)
  else
    let a := s.epAddr ep off
    let r := s.physWrite Req.peer (addrCore a.2) (addrOff a.2) h.payload
    if r.1 = 0 then (.accept, r.2) else (.nak St.uncorrectable, r.2)

/-- READ_RSP frames of a request, in this module's own flow (R455). -/
def State.sendResponses (s : State) (d psn : Nat) (data : List Byte) : State :=
  let ps := chunks 4096 data
  let m := (s.fab.msg + 1) % 2 ^ 32
  let s := { s with fab := { s.fab with msg := m } }
  ps.zipIdx.foldl (fun (s : State) x =>
    s.sendSeq d 0x03 (b2n (decide (x.2 + 1 = ps.length))) m ([0, 0, 0, 0] ++ beBytes 4 (4096 * x.2) ++ beBytes 4 psn) x.1 none) s

/-- A READ_REQ frame (R455, R458): it is accepted once its last READ_RSP frame has been sent. -/
def State.peerRead (s : State) (h : Hdr) : Verdict × State :=
  let ep := h.be 0x18 2
  let off := h.be 0x1C 4 % 2 ^ 28
  let n := h.be 0x20 4
  let st := s.peerCheck h.src ep off n 0
  if st ≠ St.ok then (.nak st, s)
  else if n = 0 || decide (65536 < n) then (.nak St.badDescriptor, s)
  else
    let a := s.epAddr ep off
    let r := s.physRead Req.peer (addrCore a.2) (addrOff a.2) n
    if !r.2.1.isEmpty then (.nak St.uncorrectable, r.2.2)
    else
      let s := r.2.2.sendResponses h.src h.psn r.1
      let last := ((s.flow h.src).next + 2 ^ 32 - 1) % 2 ^ 32
      if s.wasSent h.src last then (.accept, s)
      else (.discard, { s with fab := { s.fab with reads := s.fab.reads ++ [(h.src, h.psn, last)] } })

/-- The requests of a command that await data, by `2^32 × device + PSN`. -/
def Work.wants : Work → List (Nat × Nat × Nat)
  | .fabric w => w
  | .restore _ w => w
  | _ => []

/-- Data of a READ_RSP reaches the DMA or RESTORE that asked for it (R457); it goes on once all has come. -/
def State.gotResponse (s : State) (h : Hdr) : State :=
  let off := h.be 0x1C 4
  let req := 2 ^ 32 * h.src + h.be 0x20 4
  let took := fun (w : List (Nat × Nat × Nat)) => w.map (fun x => if x.1 = req then (x.1, x.2.1, x.2.2 - h.payload.length) else x)
  match s.cmds.find? (fun c => decide (c.phase = .running) && c.work.wants.any (fun x => x.1 == req)) with
  | none => s
  | some c =>
    let base := ((c.work.wants.find? (fun x => x.1 == req)).map (fun x => x.2.1)).getD 0
    match c.work with
    | .fabric w =>
      let s := s.setWork c.id (.fabric (took w))
      let n := s.dmaCore c (base / 65536)
      match Run.write (reqDma c n) c.id (s.polderOf c) (c.addr 0x18 + base + off) h.payload s with
      | .ok _ s => (s.addCnt (Reg.coreCntDma n) h.payload.length).fabricCheck c.id
      | .error e s => (s.failCmd c.id (e.status, e.addr.getD 0)).spanEnd c.id
    | .restore buf w => (s.setWork c.id (.restore (buf.write (base + off) h.payload) (took w))).restoreGo c.id
    | _ => s

end Sys2Proof.Machine
end

