-- ==== Sys2Proof/Machine/Power.lean ====
section
/-! DEFINITION. The commands of power and clocks: feeds (R485, R486, R675), phases (R490), samples (R502), the ramp (R499), PLL states
(R495), ceilings (R498), grants and slack (R503–R506), and the heat meter (R512, R513). -/
namespace Sys2Proof.Machine

/-! ### Feeds -/

/-- FEED_LOST (R485). A feed whose charge has not ended is only absent again. -/
def doFeedLost (feed mv : Nat) (s : State) : State :=
  if feedClass mv ≠ 2 then s
  else match s.feed feed with
    | .charging => s.setFeed feed .absent
    | .absent => s
    | .lost => s
    | _ =>
      let s := (s.setFeed feed .lost).setNat (if feed = 0 then Reg.pwrFeedA else Reg.pwrFeedB) (mv % 65536)
      ((s.setBit Reg.pwrStatus feed true).event 0x0701 Src.module none (dataOf [(0, feed), (2, mv % 65536)])).alert (.feed feed)
/-- The meaning of FEED_LOST. -/
def execFeedLost (feed mv : Nat) (s : State) : Res := guarded (Instr.feedLost feed mv).wf s (doFeedLost feed mv)

/-- FEED_REJOIN (R485). -/
def doFeedRejoin (feed mv : Nat) (s : State) : State :=
  if decide (s.feed feed = .lost) && s.powered && decide (feedClass mv = 0) then
    ((s.setFeed feed .inRange).setNat (if feed = 0 then Reg.pwrFeedA else Reg.pwrFeedB) (mv % 65536)).unalert (.feed feed)
  else s
/-- The meaning of FEED_REJOIN. -/
def execFeedRejoin (feed mv : Nat) (s : State) : Res := guarded (Instr.feedRejoin feed mv).wf s (doFeedRejoin feed mv)

/-- FEED_RISE (R675). -/
def doFeedRise (feed mv : Nat) (s : State) : State :=
  if decide (s.feed feed = .absent) && s.powered && decide (3800 ≤ mv) && decide (mv ≤ 6200) then s.setFeed feed .charging else s
/-- The meaning of FEED_RISE. -/
def execFeedRise (feed mv : Nat) (s : State) : Res := guarded (Instr.feedRise feed mv).wf s (doFeedRise feed mv)

/-- HOT_SWAP_CONNECT (R675). -/
def doHotSwapConnect (feed : Nat) (s : State) : State := if s.feed feed = .charging then s.setFeed feed .inRange else s
/-- The meaning of HOT_SWAP_CONNECT. -/
def execHotSwapConnect (feed : Nat) (s : State) : Res := guarded (Instr.hotSwapConnect feed).wf s (doHotSwapConnect feed)

/-- EV_PWR_HOLDUP (R486): every fast clock stops, bond wear goes to NVM (R541), and the almanac freezes. -/
def doPwrHoldup (s : State) : State :=
  if s.powered || s.power.holdup then s
  else
    let s := (s.wearFlush.wearWrite).event 0x0702 Src.module none 0
    { s with power := { s.power with holdup := true } }
/-- The meaning of EV_PWR_HOLDUP. -/
def execPwrHoldup (s : State) : Res := guarded Instr.pwrHoldup.wf s doPwrHoldup

/-! ### Phases -/

/-- A cluster with three failed phases is held (R490 steps 3 and 4): its cores stop and abandon their passes, a start in it is
abandoned (R500), and its polder raises its dike. -/
def State.holdCluster (s : State) (c : Nat) : State :=
  let s := (s.setBit (Reg.pwrGroup c) 16 true).setRamp c none
  let s := ((List.range 8).map (fun i => 8 * c + i)).foldl (fun (s : State) n => (s.abandonCore n).holdCore n none) s
  let s := s.event 0x0704 (Src.cluster c) none (s.phasesFailed c)
  match s.clusterPolder c with
  | some p => s.setDike 3 p true
  | none => s

/-- EV_PWR_PHASE_FAIL (R490). -/
def doPwrPhaseFail (cluster phase : Nat) (s : State) : State :=
  if (s.failedPhases cluster).testBit phase then s
  else
    let s := s.isolatePhase cluster phase
    let s := s.event 0x0703 (Src.cluster cluster) none (dataOf [(0, phase), (1, s.phasesFailed cluster)])
    if 3 ≤ s.phasesFailed cluster && !s.clusterHeld cluster then s.holdCluster cluster else s
/-- The meaning of EV_PWR_PHASE_FAIL. -/
def execPwrPhaseFail (cluster phase : Nat) (s : State) : Res :=
  guarded (Instr.pwrPhaseFail cluster phase).wf s (doPwrPhaseFail cluster phase)

/-- POWER_SAMPLE (R501, R502, R507–R511). -/
def doPowerSample (r : PowerReading) (s : State) : State := s.takeSample r
/-- The meaning of POWER_SAMPLE. -/
def execPowerSample (r : PowerReading) (s : State) : Res := guarded (Instr.powerSample r).wf s (doPowerSample r)

/-! ### The ramp -/

/-- START (R499 step 1): cores that are idle without filler, or whose half is not in RUN; the half wakes first (R495). Cores that join a
start still waiting are judged with it. -/
def doRampStart (cluster mask : Nat) (s : State) : State :=
  let own := (bitsOf 8 mask).foldl (fun a i => if s.coreUsable (8 * cluster + i) && s.arrayCold (8 * cluster + i) then a + 2 ^ i else a) 0
  let old := s.rampOf cluster
  if own = 0 || s.halted || (old.map (fun r => r.admitted)).getD false then s
  else
    let s := s.wakeHalf (cluster / 4)
    let r : RampStart := ⟨own ||| (old.map (fun r => r.mask)).getD 0, (old.map (fun r => r.since)).getD s.tick, false, false, 0, 0⟩
    s.setRamp cluster (some { r with admitted := s.rampFits cluster r })
/-- The meaning of START. -/
def execRampStart (cluster mask : Nat) (s : State) : Res := guarded (Instr.rampStart cluster mask).wf s (doRampStart cluster mask)

/-- RAMP_RETRY (R499 step 2). -/
def doRampRetry (cluster : Nat) (s : State) : State :=
  match s.rampOf cluster with
  | some r => if r.admitted then s
      else (s.bumpFld Reg.clkRamp 15 0 1).setRamp cluster (some { r with admitted := s.rampFits cluster r })
  | none => s
/-- The meaning of RAMP_RETRY. -/
def execRampRetry (cluster : Nat) (s : State) : Res := guarded (Instr.rampRetry cluster).wf s (doRampRetry cluster)

/-- The commands that need one of some cores carry W_THROTTLED (R500, R509). -/
def State.throttleCores (s : State) (ns : List Nat) : State :=
  { s with cmds := s.cmds.map (fun (c : Cmd) =>
      if c.holdsUnits && (s.cmdCores c).any (fun n => ns.contains n) then { c with warn := setWarn c.warn Wn.throttled } else c) }

/-- RAMP_FORCED_ADMIT (R499 step 3, R500): 4 µs without admission. -/
def doRampForcedAdmit (cluster : Nat) (s : State) : State :=
  match s.rampOf cluster with
  | some r => if r.admitted || decide (s.tick < r.since + 100) then s
      else
        let s := (s.bumpFld Reg.clkRamp 31 16 1).setRamp cluster (some { r with admitted := true, forced := true })
        let s := (rampCores cluster r).foldl (fun (s : State) n => s.holdCore n (some 300)) s
        s.throttleCores (rampCores cluster r)
  | none => s
/-- The meaning of RAMP_FORCED_ADMIT. -/
def execRampForcedAdmit (cluster : Nat) (s : State) : Res := guarded (Instr.rampForcedAdmit cluster).wf s (doRampForcedAdmit cluster)

/-- RAMP_DENSITY_STEP (R499 steps 5 and 6): at density 16 a start admitted at its target has ended. -/
def doRampDensityStep (cluster : Nat) (s : State) : State :=
  match s.rampOf cluster with
  | some r => if !r.admitted || decide (16 ≤ r.density) then s
      else if r.density = 15 && !r.forced then s.rampEnd cluster r
      else ((rampCores cluster r).foldl State.settleFill s).setRamp cluster (some { r with density := r.density + 1 })
  | none => s
/-- The meaning of RAMP_DENSITY_STEP. -/
def execRampDensityStep (cluster : Nat) (s : State) : Res := guarded (Instr.rampDensityStep cluster).wf s (doRampDensityStep cluster)

/-- RAMP_TARGET_RAISE (R499 step 7): a quarter of the way from 300 MHz to the target of R496; the fourth step reaches it. -/
def doRampTargetRaise (cluster : Nat) (s : State) : State :=
  match s.rampOf cluster with
  | some r => if !r.forced || decide (r.density < 16) then s
      else if 3 ≤ r.raised then ((rampCores cluster r).foldl (fun (s : State) n => s.holdCore n none) s).rampEnd cluster r
      else
        let k := r.raised + 1
        ((rampCores cluster r).foldl (fun (s : State) n =>
          let t := (s.holdCore n none).coreTarget n
          s.holdCore n (some (300 + (t - 300) * k / 4))) s).setRamp cluster (some { r with raised := k })
  | none => s
/-- The meaning of RAMP_TARGET_RAISE. -/
def execRampTargetRaise (cluster : Nat) (s : State) : Res := guarded (Instr.rampTargetRaise cluster).wf s (doRampTargetRaise cluster)

/-! ### PLL states -/

/-- HALF_STANDBY_TIMEOUT (R495, R514). -/
def doHalfStandby (half : Nat) (s : State) : State :=
  if decide (s.half half = .run) && !s.holdRun half && !s.halfBusy half && !s.halfFill half &&
      decide (s.halfIdleSince half + 25 * s.fld Reg.clkIdle 9 0 ≤ s.tick) then s.setHalf half .standby else s
/-- The meaning of HALF_STANDBY_TIMEOUT. -/
def execHalfStandby (half : Nat) (s : State) : Res := guarded (Instr.halfStandby half).wf s (doHalfStandby half)

/-- HALF_ASLEEP_TIMEOUT (R495); with ASLEEP_MS 0 a half never goes to sleep (R519). -/
def doHalfAsleep (half : Nat) (s : State) : State :=
  let ms := s.fld Reg.clkIdle 25 16
  if decide (s.half half = .standby) && decide (ms ≠ 0) &&
      decide (SMap.get (fun _ => 0) s.clocks.idle half + 25000 * ms ≤ s.tick) then s.setHalf half .asleep else s
/-- The meaning of HALF_ASLEEP_TIMEOUT. -/
def execHalfAsleep (half : Nat) (s : State) : Res := guarded (Instr.halfAsleep half).wf s (doHalfAsleep half)

/-! ### Ceilings -/

/-- Hours in a row with a margin above 5% (R498). -/
def State.setHours (s : State) (core v : Nat) : State :=
  { s with nvm := { s.nvm with ceilHours := SMap.set (fun _ => 0) s.nvm.ceilHours core v } }

/-- CEILING changes by the ageing update, and the change is recorded. -/
def State.ageCeiling (s : State) (core v : Nat) : State :=
  ((s.setCeiling core v).setHours core 0).event 0x0705 (Src.core core) none (dataOf [(0, 5 * s.ceiling core), (2, 5 * v)])

/-- CEILING_UPDATE (R498); the margin is in 0.1%. -/
def doCeilingUpdate (core margin : Nat) (s : State) : State :=
  let c := s.ceiling core
  let hours := SMap.get (fun _ => 0) s.nvm.ceilHours core + 1
  if margin < 20 then
    if c ≤ 60 then ((s.setHours core 0).setBit (Reg.clkCore core) 30 true).event 0x0706 (Src.core core) none 0
    else s.ageCeiling core (c - 1)
  else if 50 < margin then
    if 24 ≤ hours && decide (c < min (s.factory core) (s.abftCap core)) then s.ageCeiling core (c + 1)
    else s.setHours core (min hours 24)
  else s.setHours core 0
/-- The meaning of CEILING_UPDATE. -/
def execCeilingUpdate (core margin : Nat) (s : State) : Res := guarded (Instr.ceilingUpdate core margin).wf s (doCeilingUpdate core margin)

/-! ### Grants and slack -/

/-- POWER_GRANT (R503, R657, R658): on a master a grant for the group. -/
def doPowerGrant (binding inst watts leaseMs : Nat) (s : State) : State :=
  s.vendorCmd binding 0x10 inst false (fun s =>
    if 60000 < leaseMs then s.vendorReply binding 0x10 inst St.badDescriptor []
    else
      let s := if s.isMaster then s.groupGrant watts else (s.applyGrant watts leaseMs 1).showCap
      s.vendorReply binding 0x10 inst St.ok (leBytes 4 s.grantW ++ [BitVec.ofNat 8 (b2n (s.bit Reg.pwrStatus 7))]))
/-- The meaning of POWER_GRANT. -/
def execPowerGrant (binding inst watts leaseMs : Nat) (s : State) : Res :=
  guarded (Instr.powerGrant binding inst watts leaseMs).wf s (doPowerGrant binding inst watts leaseMs)

/-- EV_GRANT_LAPSE (R503). -/
def doGrantLapse (s : State) : State :=
  match s.power.leaseEnd with
  | some t => if s.tick < t then s
      else ((s.event 0x0707 Src.module none (dataOf [(0, s.grantW), (4, s.inforce Key.grantDefault)])).defaultGrant).showCap
  | none => s
/-- The meaning of EV_GRANT_LAPSE. -/
def execGrantLapse (s : State) : Res := guarded Instr.grantLapse.wf s doGrantLapse

/-- A member's slack report reaches the master (R505). -/
def State.setSlack (s : State) (m slack : Nat) : State :=
  { s with power := { s.power with slackRep := SMap.set (fun _ => none) s.power.slackRep m (some (slack, s.tick)) } }

/-- SLACK_WINDOW_END (R505): windows are numbered from 0. -/
def doSlackWindowEnd (slack : Nat) (s : State) : State :=
  let n := s.power.window
  let s := { s.setNat Reg.pwrSlack slack with power := { s.power with window := (n + 1) % 2 ^ 32 } }
  match s.group? with
  | some g =>
    if !s.inGroup then s
    else if s.isMaster then s.setSlack (s.fld Reg.imgMember 3 0) slack
    else s.sendSeq (g.devices.getD g.master 0) 0x61 0 0
      (beBytes 2 slack ++ [0, 0] ++ beBytes 4 n ++ beBytes 4 (s.fld Reg.pwrInW 15 0) ++ beBytes 4 s.grantW) [] none
  | none => s
/-- The meaning of SLACK_WINDOW_END. -/
def execSlackWindowEnd (slack : Nat) (s : State) : Res := guarded (Instr.slackWindowEnd slack).wf s (doSlackWindowEnd slack)

/-- The grants when the group grant is not their sum (R506): in proportion, or alike where no grant has been given yet; the watts
that flooring leaves over go to the members from the lowest up. -/
def scaleGrants (total : Nat) (gs : List Nat) : List Nat :=
  let old := gs.foldl (· + ·) 0
  if old = total then gs
  else
    let new := gs.map (fun g => if old = 0 then total / max 1 gs.length else g * total / old)
    let rest := total - new.foldl (· + ·) 0
    new.zipIdx.map (fun x => x.1 + b2n (decide (x.2 < rest)))

/-- One round of R506 over the live members, each with its grant and slack. Every d is kept as a whole multiple of 1 / Q W, with
Q = 10 · n² · 65,536 for n live members. -/
def shiftGrants (limit : Nat) (xs : List (Nat × Nat)) : List Nat :=
  let n := xs.length
  let q : Int := 10 * n * n * 65536
  let gs : Int := xs.foldl (fun a x => a + (x.1 : Int)) 0
  let sl : Int := xs.foldl (fun a x => a + (x.2 : Int)) 0
  let clampTo := fun (lo hi v : Int) => max lo (min hi v)
  let ds := xs.map (fun x =>
    let g : Int := x.1
    let d := clampTo (-(2 * g * n * n * 65536)) (2 * g * n * n * 65536) (5 * (sl - n * x.2) * gs)
    clampTo (500 * q) (limit * q) (g * q + d) - g * q)
  let up := ds.foldl (fun a d => if 0 < d then a + d else a) 0
  let down := ds.foldl (fun a d => if d < 0 then a - d else a) 0
  if 0 < up && 0 < down then
    let move := min up down
    let new := (xs.zip ds).map (fun x =>
      let part := if 0 < x.2 then up else down
      (((x.1.1 : Int) * q * part + x.2 * move) / (q * part)).toNat)
    let lost := xs.foldl (fun a x => a + x.1) 0 - new.foldl (· + ·) 0
    let least := xs.foldl (fun a x => min a x.2) 65536
    let who := (xs.findIdx? (fun x => x.2 == least)).getD 0
    new.zipIdx.map (fun x => if x.2 = who then x.1 + lost else x.1)
  else xs.map (fun x => x.1)

/-- GRANT_REDISTRIBUTION (R506). The limit of every member is taken to be the master's own. -/
def doGrantRedistribution (s : State) : State :=
  match s.group?, s.power.groupGrant with
  | some g, some total =>
    if !s.isMaster then s
    else
      let ms := List.range g.members
      let gs := scaleGrants total (ms.map (SMap.get (fun _ => 0) s.power.memberGrant))
      let slackOf := fun m => match SMap.get (fun _ => none) s.power.slackRep m with
        | some (v, t) => if s.tick ≤ t + 750000 then some v else none
        | none => none
      let live := ms.filter (fun m => (slackOf m).isSome)
      let new := if live.length < 2 then gs
        else
          let shifted := shiftGrants (powerLimit s.variant) (live.map (fun m => (gs.getD m 0, (slackOf m).getD 0)))
          ms.map (fun m => match live.findIdx? (· == m) with
            | some i => shifted.getD i 0
            | none => gs.getD m 0)
      let serial := (s.power.grantSerial + 1) % 2 ^ 32
      let s := { s with power := { s.power with
        grantSerial := serial, memberGrant := new.zipIdx.foldl (fun m x => SMap.set (fun _ => 0) m x.2 x.1) s.power.memberGrant } }
      ms.foldl (fun (s : State) m =>
        if m = s.fld Reg.imgMember 3 0 then (s.applyGrant (new.getD m 0) 0 3).showCap
        else s.sendSeq (g.devices.getD m 0) 0x60 0 0 (beBytes 4 (new.getD m 0) ++ beBytes 4 serial ++ beBytes 2 1000 ++ [0]) [] none) s
  | _, _ => s
/-- The meaning of GRANT_REDISTRIBUTION. -/
def execGrantRedistribution (s : State) : Res := guarded Instr.grantRedistribution.wf s doGrantRedistribution

/-! ### The heat meter -/

/-- HEAT_METER_UPDATE (R512, R659): a heat rate that PWR_HEAT_W cannot hold leaves a free value there. -/
def doHeatMeterUpdate (s : State) : State :=
  let num := s.heatNum
  let h := num / 28800000
  let e := s.power.eHeat + num
  let s := s.setNat Reg.pwrHeatW (if 0 ≤ h && decide (h < 65536) then h.toNat else Config.freeNat s.freeCtr % 65536)
  let s := (s.fresh).addCnt Reg.pwrEHeat (unsigned 64 (e / 2880000))
  let s := { s with power := { s.power with
    eHeat := e % 2880000, heatSum := s.power.heatSum + num, inSum := s.power.inSum + s.power.avg, sums := s.power.sums + 1 } }
  { s with power := { s.power with report := s.heatReport } }
/-- The meaning of HEAT_METER_UPDATE. -/
def execHeatMeterUpdate (s : State) : Res := guarded Instr.heatMeterUpdate.wf s doHeatMeterUpdate

/-- EV_HEAT_MISMATCH (R513): the comparison of a minute; a mean heat rate below 0 is a free value in the event. -/
def doHeatMismatch (s : State) : State :=
  let p := s.power
  if p.sums < 6000 then s
  else
    let diff := 20 * p.heatSum - 57600 * (p.inSum : Int)
    let far := decide (2880 * (p.inSum : Int) + 11520000000 * p.sums < max diff (-diff))
    let s := { s with power := { p with heatSum := 0, inSum := 0, sums := 0 } }
    let h := p.heatSum / (28800000 * p.sums)
    if far then
      ((s.setBit Reg.pwrStatus 23 true).fresh).event 0x0709 Src.module none
        (dataOf [(0, if 0 ≤ h then h.toNat % 2 ^ 32 else Config.freeNat s.freeCtr % 2 ^ 32), (4, p.inSum / (10000 * p.sums) % 2 ^ 32)])
    else s
/-- The meaning of EV_HEAT_MISMATCH. -/
def execHeatMismatch (s : State) : Res := guarded Instr.heatMismatch.wf s doHeatMismatch

end Sys2Proof.Machine
end

