-- ==== Sys2Proof/Machine/CascOps.lean ====
section
/-! DEFINITION. Cascade groups: the reckoning (R473), GRANT and SLACK frames (R474, R504, R505), and harvest advice (R601, R602); and
what is done with every received frame. -/
namespace Sys2Proof.Machine

/-- This module's member number (R86). -/
def State.memberId (s : State) : Nat := s.fld Reg.imgMember 3 0

/-- The member number of a device. -/
def CascadeRec.memberOf (g : CascadeRec) (d : Nat) : Option Nat := (g.devices.take g.members).findIdx? (· == d)

/-- The device of the master. -/
def CascadeRec.masterDevice (g : CascadeRec) : Nat := g.devices.getD g.master 0

/-- The 96 bytes of a RECKON_RSP: firmware, image and settings digests in force (R446, R473). -/
def State.threeDigests (s : State) : List Byte :=
  let words := fun (r : Nat → Nat) => (List.range 8).flatMap (fun i => leBytes 4 (s.nat (r i)))
  digestBytes s.sec.fwDigest ++ words Reg.imgDigest ++ words Reg.nvsSettingsDigest

/-- RECKON_REQ at a member (R473 step 2): from the master with the group's number it is answered; any other is discarded. -/
def State.gotReckonReq (s : State) (h : Hdr) : Verdict × State :=
  match s.group? with
  | some g =>
    if s.inGroup && decide (h.src = g.masterDevice) && decide (h.be 0x18 2 = g.groupId) then
      let s := { s with casc := { s.casc with lastReq := some s.tick } }.setBit Reg.casStatus 29 false
      (.accept, s.sendSeq h.src 0x51 0 0 (beBytes 2 g.groupId ++ [BitVec.ofNat 8 s.memberId, 0] ++ beBytes 4 (h.be 0x1C 4)) s.threeDigests none)
    else (.discard, s)
  | none => (.discard, s)

/-- RECKON_RSP at the master (R473 step 3): one of the present round. -/
def State.gotReckonRsp (s : State) (h : Hdr) : State :=
  match s.group? with
  | none => s
  | some g =>
    match g.memberOf h.src with
    | none => s
    | some m =>
      if !s.isMaster || !s.casc.roundOpen || decide (h.be 0x18 2 ≠ g.groupId) || decide (h.be 0x1C 4 ≠ s.nat Reg.casReckonRound) ||
          decide (h.payload.length ≠ 96) then s
      else
        let d := digestOf h.payload
        let s := s.setDigest (Reg.casMemberDigest m 0) d
        let same := decide (d = digestOf s.threeDigests)
        { s with casc := { s.casc with
            answered := if s.casc.answered.contains m then s.casc.answered else m :: s.casc.answered
            mismatched := if same || s.casc.mismatched.contains m then s.casc.mismatched else m :: s.casc.mismatched } }

/-- A round begins (R473 step 1). -/
def State.startRound (s : State) : State :=
  match s.group? with
  | none => s
  | some g =>
    let n := (s.nat Reg.casReckonRound + 1) % 2 ^ 32
    let s := { s.setNat Reg.casReckonRound n with
      casc := { s.casc with answered := [], mismatched := [], roundAt := some s.tick, roundOpen := true } }
    ((List.range g.members).filter (fun m => m != s.memberId)).foldl (fun (s : State) m =>
      s.sendSeq (g.devices.getD m 0) 0x50 0 0 (beBytes 2 g.groupId ++ [0, 0] ++ beBytes 4 n) [] none) s

/-- A member's fault is shown and recorded (R473 step 5); kind 1 MISMATCH, 2 MISSING. -/
def State.reckonFault (s : State) (m kind : Nat) : State :=
  (s.setBit (if kind = 1 then Reg.casReckonMismatch else Reg.casReckonMissing) m true).event 0x0603 (Src.member m) none
    (dataOf [(0, s.nat Reg.casReckonRound), (4, kind)])

/-- A breach of every polder with peers, for a fault that names no status: the status it carries is a free value. -/
def State.breachAll (s : State) : State :=
  let st := Config.freeNat s.freeCtr % 256
  s.polders.foldl (fun (s : State) p => s.originBreach p st) s.fresh

/-- A round is judged (R473 steps 4 and 5). -/
def State.judgeRound (s : State) : State :=
  match s.group? with
  | none => s
  | some g =>
    let missing := (List.range g.members).filter (fun m => m != s.memberId && !s.casc.answered.contains m)
    let twice := missing.filter (fun m => s.casc.missedBefore.contains m)
    let bad := (List.range g.members).filter (fun m => s.casc.mismatched.contains m)
    let s := bad.foldl (fun (s : State) m => s.reckonFault m 1) s
    let s := twice.foldl (fun (s : State) m => s.reckonFault m 2) s
    let s := { s with casc := { s.casc with missedBefore := missing, roundOpen := false } }
    if (!bad.isEmpty || !twice.isEmpty) && decide (s.inforce Key.reckonAction = 1) then s.breachAll else s

/-! ### GRANT and SLACK (R474, R504, R505) -/

/-- CAS_GRANT_SRC0–3 as an address: byte 0 in [7:0] of the first. -/
def State.grantSource (s : State) : Nat := beNat ((List.range 4).flatMap (fun i => leBytes 4 (s.nat (Reg.casGrantSrc i))))

/-- SERIAL is newer than that of the last accepted GRANT frame (R504). -/
def State.grantNewer (s : State) (serial : Nat) : Bool := match s.power.grantSeen with
  | none => true
  | some l => let d := (serial + 2 ^ 32 - l) % 2 ^ 32; decide (1 ≤ d) && decide (d < 2 ^ 31)

/-- A GRANT frame (R474, R504): accepted from the master, or unsequenced from the address in CAS_GRANT_SRC; discarded otherwise. -/
def State.gotGrant (s : State) (h : Hdr) (src : Nat) : Verdict × State :=
  let unseq := Machine.bit h.flags 1
  let w := h.be 0x18 4
  let serial := h.be 0x1C 4
  let lease := h.be 0x20 2
  let whole := Machine.bit (h.be 0x22 1) 0
  let from' := if unseq then decide (src = s.grantSource) else (match s.group? with
    | some g => s.inGroup && decide (h.src = g.masterDevice)
    | none => false)
  if !from' || !s.grantNewer serial || decide (60000 < lease) || (whole && !s.isMaster) || (!whole && unseq && s.inGroup) then (.discard, s)
  else
    let s := { s with power := { s.power with grantSeen := some serial } }
    (.accept, if whole then s.groupGrant w else (s.applyGrant w lease (if unseq then 2 else 3)).showCap)

/-- A SLACK frame reaches the master (R505). -/
def State.gotSlack (s : State) (h : Hdr) : State :=
  match s.group? with
  | some g => (match g.memberOf h.src with
    | some m => if s.isMaster then s.setSlack m (h.be 0x18 2) else s
    | none => s)
  | none => s

/-! ### Harvest advice (R601, R602) -/

/-- The largest number whose square is at most `n`, for `n` below 2^128. -/
def isqrt (n : Nat) : Nat := (List.range 64).foldl (fun r i => let t := r + 2 ^ (63 - i); if t * t ≤ n then t else r) 0

/-- N: local events of the last 720 powered hours. -/
def State.eventCount (s : State) : Nat := s.parity.events.countP (fun h => decide (s.hours < h + 720))
/-- H: powered hours in that window. -/
def State.eventHours (s : State) : Nat := min 720 s.hours

/-- A failure rate per hour as a fraction: 1 / FLEET_MTBF_H, left out when 0, and the local rates (N, H). -/
def failureRate (fleet : Nat) (locals : List (Nat × Nat)) : Nat × Nat :=
  locals.foldl (fun a x => (a.1 * (x.2 + 720) + (x.1 + 1) * a.2, a.2 * (x.2 + 720))) (if fleet = 0 then (0, 1) else (1, fleet))

/-- P of R601 in ticks as a fraction: commits of the last 60 s whose STEP differs from that of the one before; none with fewer than two. -/
def State.stepPeriod (s : State) : Option (Nat × Nat) :=
  match (s.parity.steps.filter (fun x => decide (s.tick < x.1 + 1500000000))).map (fun x => x.1) with
  | newest :: rest => (match rest.getLast? with
    | some oldest => if newest ≤ oldest then none else some (newest - oldest, rest.length)
    | none => none)
  | [] => none

/-- The interval in steps (R601): ⌊√(2 × cost / 1,000 × M) / P⌋, at least 1, in the 31 bits of its field. -/
def adviseSteps (costMs : Nat) (rate p : Nat × Nat) : Nat :=
  max 1 (min (2 ^ 31 - 1) (isqrt (2 * costMs * 3600 * rate.2 * (p.2 * 25000000) ^ 2 / (1000 * rate.1 * p.1 ^ 2))))

/-- Reports of members within the last 180 s (R602): cost, N and H. -/
def State.freshReports (s : State) : List (Nat × Nat × Nat) :=
  (List.range 16).filterMap (fun m => match SMap.get (fun _ => none) s.parity.reports m with
    | some (c, n, h, t) => if s.tick < t + 4500000000 then some (c, n, h) else none
    | none => none)

/-- HARV_ADVISE, HARV_GROUP_ADVISE, HARV_MTBF_S and HARV_STEP_US are recomputed (R601, R602); an interval without a value of P is
marked not VALID (log entry 46). -/
def State.advise (s : State) : State :=
  let fleet := s.inforce Key.fleetMtbf
  let own := failureRate fleet [(s.eventCount, s.eventHours)]
  let cost := s.fld Reg.harvCostMs 23 0
  let s := s.setNat Reg.harvMtbfS (3600 * own.2 / own.1)
  match s.stepPeriod with
  | none => (s.setBit Reg.harvAdvise 31 false).setBit Reg.harvGroupAdvise 31 false
  | some p =>
    let s := s.setNat Reg.harvStepUs (min (2 ^ 32 - 1) (p.1 / (25 * p.2)))
    let s := if 0 < cost then s.setNat Reg.harvAdvise (2 ^ 31 + adviseSteps cost own p) else s
    let rs := s.freshReports
    let top := rs.foldl (fun a r => max a r.1) 0
    if s.isMaster && decide (0 < top) then
      s.setNat Reg.harvGroupAdvise (2 ^ 31 + adviseSteps top (failureRate fleet (rs.map (fun r => r.2))) p)
    else s.setBit Reg.harvGroupAdvise 31 false

/-- A HARV_REPORT reaches the master (R602). -/
def State.gotHarvReport (s : State) (h : Hdr) : State :=
  match s.group? with
  | some g => (match g.memberOf h.src with
    | some m =>
      if s.isMaster && decide (h.be 0x18 2 = g.groupId) then
        { s with parity := { s.parity with
            reports := SMap.set (fun _ => none) s.parity.reports m (some (h.be 0x1C 4, h.be 0x20 2, h.be 0x22 2, s.tick)) } }
      else s
    | none => s)
  | none => s

/-! ### Every received frame -/

/-- Data for a command whose host-memory accesses are held (R631) is asked for again later (R453). -/
def State.responseHeld (s : State) (h : Hdr) : Bool :=
  s.cmds.any (fun c => decide (c.phase = .running) && s.hostHeld c && c.work.wants.any (fun x => x.1 == 2 ^ 32 * h.src + h.be 0x20 4))

/-- So is a unit for a rebuild that reports to host memory. -/
def State.rebuildHeld (s : State) (h : Hdr) : Bool := match s.regrouping (h.be 0x18 2) with
  | some c => s.hostHeld c
  | none => false

/-- What a frame whose turn has come does (R446, R603). -/
def applyFrame (s : State) (f : Rx) (h : Hdr) : Verdict × State :=
  if h.typ = 0x01 then s.peerWrite h
  else if h.typ = 0x02 then s.peerRead h
  else if h.typ = 0x03 then (if s.responseHeld h then (.nak St.busy, s) else (.accept, s.gotResponse h))
  else if h.typ = 0x20 then s.gotColl h
  else if h.typ = 0x30 then s.gotDelta h
  else if h.typ = 0x31 then s.gotReadReq h
  else if h.typ = 0x32 then (if s.rebuildHeld h then (.nak St.busy, s) else (.accept, s.gotReadRsp h))
  else if h.typ = 0x33 then (.accept, s.gotHarvReport h)
  else if h.typ = 0x40 then (.accept, s.gotBreach h)
  else if h.typ = 0x50 then s.gotReckonReq h
  else if h.typ = 0x51 then (.accept, s.gotReckonRsp h)
  else if h.typ = 0x60 then s.gotGrant h f.src
  else if h.typ = 0x61 then (.accept, s.gotSlack h)
  else (.discard, s)

/-- A received datagram: sequenced frames take their turn (R449–R452); acknowledgements and an unsequenced GRANT act at once. -/
def State.gotFrame (s : State) (f : Rx) : State :=
  match s.intake f with
  | (none, s) => s
  | (some h, s) =>
    let s := if h.typ = 0x10 then s.gotAck h
      else if h.typ = 0x11 then s.gotNak h
      else if h.sequenced then s.receive applyFrame f h
      else (s.gotGrant h f.src).2
    State.turnWaiting applyFrame (((s.rxOf h.src).map (fun r => r.waiting.length)).getD 0) s h.src

end Sys2Proof.Machine
end

