-- ==== Sys2Proof/Machine/CtxOps.lean ====
section
/-! DEFINITION. Context reset (R563), and what ends a reset at any level (R561 step 6, R578, R579). -/
namespace Sys2Proof.Machine

/-- The registers of contexts at their reset values, CTX_VIGIL at VIGIL_DEFAULT_MS; bindings stay (R180, R563 step 5). -/
def State.clearContexts (s : State) (cs : List Nat) : State :=
  let s := s.clearRegs .context (fun a => decide (0x40000 ≤ a) && decide (a < 0x80000) && cs.contains ((a - 0x40000) / 64))
  let s := { s with ctxs := SMap.clear s.ctxs (fun c => cs.contains c) }
  s.loadVigils cs

/-- A completed reset is shown (R578, R579). -/
def State.noteReset (s : State) (level unit trigger : Nat) (ctx : Option Nat) : State :=
  let s := (s.setFld Reg.rstStatus 14 12 level).setFld Reg.rstStatus 19 16 trigger
  let s := s.setNat Reg.rstLastUnit (unit % 4096 + 2 ^ 16 * (ctx.getD 0 % 4096) + 2 ^ 28 * b2n ctx.isSome)
  (s.setPair Reg.rstLastTickLo Reg.rstLastTickHi s.tick).bump (Reg.rstCnt level)

/-- A polder, chip or module reset in progress takes a context in (R40). -/
def State.contextTaken (s : State) (ctx : Nat) : Bool :=
  s.resets.jobs.any (fun j => decide (4 ≤ j.level) || (decide (j.level = 3) && s.bit (Reg.ctxBind ctx) 7 && decide (s.ctxPolder ctx = j.unit)))

/-- A context reset whose last command has committed completes (R563 step 5). One that a wider reset has taken in, or that escalated to
an engine reset, completes with that reset (R40, R563). -/
def State.contextResetCheck (s : State) (ctx : Nat) : State :=
  match (s.aux ctx).resetting with
  | some t =>
    if s.inflight ctx = 0 && !s.contextTaken ctx && !s.resets.jobs.any (fun j => decide (j.ctx = some ctx)) then
      (s.clearContexts [ctx]).noteReset 1 ctx t none
    else s
  | none => s

/-- A context reset begins (R563 steps 1 to 3), unless a reset in progress takes the context in (R40). -/
def State.contextReset (s : State) (ctx trigger : Nat) : State :=
  if s.contextTaken ctx || (s.aux ctx).resetting.isSome then s
  else
    let s := (s.setBit (Reg.ctxCtrl ctx) 0 false).setFld (Reg.ctxSqTail ctx) 15 0 (s.sqHead ctx)
    let s := s.setAux ctx { s.aux ctx with marked := [], resetting := some trigger }
    let s := (s.fresh.putDossier (s.dossier 1 trigger ctx none (s.sectionsOf 1 ctx []) none)).2
    let ids := (s.cmds.filter (fun c => decide (c.ctx = ctx))).map (fun c => c.id)
    ((s.stopAll ids St.aborted).dropSuspect ctx).contextResetCheck ctx

/-- The dossier of a vigil expiry (R564): LEVEL 0; what UNIT holds there is not stated, a free value. -/
def State.vigilDossier (s : State) (trigger : Nat) (c : Cmd) : State :=
  let unit := Config.freeNat s.freeCtr % 65536
  (s.fresh.putDossier (s.dossier 0 trigger unit (some (c.ctx, c.slot)) (s.sectionsOfCmd c) none)).2

/-- The lowest core that serves a command, or the module, as the source of EV_VIGIL (R646). -/
def State.vigilSource (s : State) (c : Cmd) : Nat × Nat :=
  match (s.cmdCores c).min? with
  | some n => Src.core n
  | none => Src.module

/-- An expiry is counted and recorded (R551). -/
def State.noteExpiry (s : State) (c : Cmd) : State :=
  (s.bump Reg.vigCntExpired).event 0x0901 (s.vigilSource c) (some c.ctx)
    (dataOf [(0, c.slot), (2, dfld c.desc 2 2), (4, c.op), (8, c.vigilMs)])

end Sys2Proof.Machine
end

