-- ==== Sys2Proof/Machine/Contexts.lean ====
section
/-! DEFINITION. Functions and contexts: virtual functions (R140–R144), power states (R631), bindings, enabling, doorbells and interrupts
(R145–R153, R163, R177–R181). -/
namespace Sys2Proof.Machine

/-! ### Virtual functions -/

/-- A virtual function's range lies within the 4,096 contexts (R141). -/
def State.rangeInside (s : State) (v : Nat) : Bool := let r := s.fnRange v; decide (r.2 = 0) || decide (r.1 + r.2 ≤ 4096)

/-- The ranges of the 63 virtual functions lie inside and do not overlap (R141). -/
def State.rangesOk (s : State) : Bool :=
  let vs := (List.range 63).map (· + 1)
  vs.all s.rangeInside && vs.all (fun v => vs.all (fun w => decide (w ≤ v) ||
    !overlap (s.fnRange v).1 (s.fnRange v).2 (s.fnRange w).1 (s.fnRange w).2))

/-- Configuration requests reach the module. -/
def State.configOpen (s : State) : Bool := s.pcie.linkUp && !s.pins.perst

/-- VF_ENABLE (R141): VF Enable is set for a number of virtual functions, or refused. -/
def doVfEnable (vfs : Nat) (s : State) : State :=
  if !s.configOpen || decide (s.pcie.vfs ≠ 0) then s
  else if s.rangesOk then { s with pcie := { s.pcie with vfs := vfs } }
  else s.setBit Reg.fnStatus 0 true
/-- VF_ENABLE. -/
def execVfEnable (vfs : Nat) (s : State) : Res := guarded (Instr.vfEnable vfs).wf s (doVfEnable vfs)

/-- FUNCTION_LEVEL_RESET_VF (R144, R631): a context reset of every context in the range; the function is in D0 again. -/
def doFlrVf (v : Nat) (s : State) : State :=
  if !s.configOpen || decide (s.pcie.vfs < v) then s
  else
    let held := s.pcie.heldRecords.filter (fun r => s.fnOf r.1 != v)
    let s := { s with pcie := { s.pcie with d3 := s.pcie.d3.filter (· != v), heldRecords := held, heldMsix := s.pcie.heldMsix.filter (fun m => m.1 != v) } }
    let r := s.fnRange v
    ((List.range r.2).map (r.1 + ·)).foldl (fun (s : State) c => s.contextReset c 4) s
/-- FUNCTION_LEVEL_RESET_VF. -/
def execFlrVf (v : Nat) (s : State) : Res := guarded (Instr.flrVf v).wf s (doFlrVf v)

/-- FUNCTION_LEVEL_RESET_PF (R616): a chip reset, and VF Enable is cleared. -/
def doFlrPf (s : State) : State :=
  if !s.configOpen then s
  else
    let s := { s with pcie := { s.pcie with vfs := 0, d3 := [], heldRecords := [], heldMsix := [] } }
    s.reachReset 4 0 4 none none []
/-- FUNCTION_LEVEL_RESET_PF. -/
def execFlrPf (s : State) : Res := guarded Instr.flrPf.wf s doFlrPf

/-! ### Records and messages -/

/-- A ring fault (R152): the context stops fetching; the event names the IOVA and 1 for a fetch, 2 for a record. -/
def State.ringFault (s : State) (ctx iova kind : Nat) : State :=
  (s.setBit (Reg.ctxStatus ctx) 16 true).event 0x0204 Src.module (some ctx) (dataOf [(0, iova), (8, kind)])

/-- A record is written to host memory (R152, R159); one whose write faults is lost. -/
def State.writeRecord (s : State) (ctx iova : Nat) (bytes : List Byte) : State :=
  if !s.configOpen then s
  else if s.hostMapped iova bytes.length then s.hostPut iova bytes
  else s.ringFault ctx iova 2

/-- A record is written, or held while its function is in D3hot (R631). -/
def State.putRecord (s : State) (ctx iova : Nat) (bytes : List Byte) : State :=
  if s.pcie.d3.contains (s.fnOf ctx) then
    { s with pcie := { s.pcie with heldRecords := s.pcie.heldRecords ++ [(ctx, iova, bytes)] } }
  else s.writeRecord ctx iova bytes

/-- The message of a context is sent (R163), and the count starts again. -/
def State.sendIrq (s : State) (ctx : Nat) : State :=
  (s.setAux ctx { s.aux ctx with unsignalled := 0, firstUnsig := none }).msix (s.fnOf ctx) (s.fld (Reg.ctxIrq ctx) 10 0)

/-- After a record of a context: the triggers of R163. -/
def State.irqAfter (s : State) (ctx : Nat) (wants : Bool) : State :=
  let a := s.aux ctx
  let s := s.setAux ctx { a with unsignalled := a.unsignalled + 1, firstUnsig := some (a.firstUnsig.getD s.tick) }
  let n := s.fld (Reg.ctxIrq ctx) 19 12
  if s.bit (Reg.ctxCtrl ctx) 2 && (wants || (decide (n ≠ 0) && decide (n ≤ a.unsignalled + 1))) then s.sendIrq ctx else s

/-- IRQ_HOLD_EXPIRY (R163): HOLD_US after the first unsignalled record. -/
def doIrqHoldExpiry (ctx : Nat) (s : State) : State :=
  let h := s.fld (Reg.ctxIrq ctx) 31 20
  match (s.aux ctx).firstUnsig with
  | some t => if s.bit (Reg.ctxCtrl ctx) 2 && decide (h ≠ 0) && decide (t + 25 * h ≤ s.tick) then s.sendIrq ctx else s
  | none => s
/-- IRQ_HOLD_EXPIRY. -/
def execIrqHoldExpiry (ctx : Nat) (s : State) : Res := guarded (Instr.irqHoldExpiry ctx).wf s (doIrqHoldExpiry ctx)

/-! ### Power states (R631) -/

/-- The function exists: the physical one, or a virtual one that VF Enable brought into being. -/
def State.fnExists (s : State) (fn : Nat) : Bool := decide (fn ≤ s.pcie.vfs)

/-- D3HOT_ENTRY (R631). -/
def doD3hotEntry (fn : Nat) (s : State) : State :=
  if s.configOpen && s.fnExists fn && !s.pcie.d3.contains fn then { s with pcie := { s.pcie with d3 := fn :: s.pcie.d3 } } else s
/-- D3HOT_ENTRY. -/
def execD3hotEntry (fn : Nat) (s : State) : Res := guarded (Instr.d3hotEntry fn).wf s (doD3hotEntry fn)

/-- D0_RETURN (R631): no reset is performed; the held records are written, and the held messages sent. -/
def doD0Return (fn : Nat) (env : Env) (s : State) : State :=
  let s := s.arrive env
  if s.configOpen && s.pcie.d3.contains fn then
    let mine := s.pcie.heldRecords.filter (fun r => s.fnOf r.1 == fn)
    let msgs := s.pcie.heldMsix.filter (fun m => m.1 == fn)
    let rest := s.pcie.heldRecords.filter (fun r => s.fnOf r.1 != fn)
    let s := { s with pcie := { s.pcie with d3 := s.pcie.d3.filter (· != fn), heldRecords := rest, heldMsix := s.pcie.heldMsix.filter (fun m => m.1 != fn) } }
    let s := mine.foldl (fun (s : State) r => s.writeRecord r.1 r.2.1 r.2.2) s
    msgs.foldl (fun (s : State) m => s.msix m.1 m.2) s
  else s
/-- D0_RETURN. -/
def execD0Return (fn : Nat) (env : Env) (s : State) : Res := guarded (Instr.d0Return fn env).wf s (doD0Return fn env)

/-! ### Context registers -/

/-- The context that a function reaches through its BARs with a local index (R142, R143, R612, R621). -/
def State.reachCtx (s : State) (fn idx : Nat) : Option Nat :=
  if s.barsOpen fn && s.fnExists fn && s.ready && !s.recovery then s.localCtx fn idx else none

/-- A write of CTX_BIND by the physical function (R145, R178). -/
def State.writeBind (s : State) (ctx : Nat) (v : Word) : State :=
  if s.enabled ctx || decide (s.inflight ctx ≠ 0) then s.setBit (Reg.ctxStatus ctx) 18 true
  else s.setReg (Reg.ctxBind ctx) (v &&& 0x39F)

/-- CTX_BIND (R145): a write through a virtual function is ignored (R178). -/
def doCtxBind (fn idx : Nat) (v : Word) (s : State) : State :=
  match s.reachCtx fn idx with
  | some ctx => if fn = 0 then s.writeBind ctx v else s
  | none => s
/-- CTX_BIND. -/
def execCtxBind (fn idx : Nat) (v : Word) (s : State) : Res := guarded (Instr.ctxBind fn idx v).wf s (doCtxBind fn idx v)

/-- The ring sizes lie within R147. -/
def State.ringsOk (s : State) (ctx : Nat) : Bool :=
  let a := s.fld (Reg.ctxRingSize ctx) 4 0
  let b := s.fld (Reg.ctxRingSize ctx) 12 8
  decide (6 ≤ a) && decide (a ≤ 16) && decide (6 ≤ b) && decide (b ≤ 16)

/-- ENABLE is written 1 (R147, R153, R177): ignored during a chip or module reset (R616), and while the context itself is reset. -/
def State.enableCtx (s : State) (ctx : Nat) : State :=
  if s.enabled ctx || s.resets.jobs.any (fun j => decide (4 ≤ j.level)) || (s.aux ctx).resetting.isSome then s
  else if !s.ringsOk ctx then s.setBit (Reg.ctxStatus ctx) 16 true
  else
    let s := (((s.setReg (Reg.ctxSqHead ctx) 0).setReg (Reg.ctxSqTail ctx) 0).setReg (Reg.ctxCqTail ctx) 0x10000).setReg (Reg.ctxCqHead ctx) 0
    let s := s.setAux ctx { s.aux ctx with marked := [], unsignalled := 0, firstUnsig := none }
    (s.setBit (Reg.ctxCtrl ctx) 0 true).stallFlag ctx

/-- ENABLE is written 0 (R177): fetching stops, and commands in flight run to commit. -/
def State.disableCtx (s : State) (ctx : Nat) : State := (s.setBit (Reg.ctxCtrl ctx) 0 false).stallFlag ctx

/-- ENABLE (R153). -/
def doCtxEnable (fn idx : Nat) (irqEn : Bool) (s : State) : State :=
  match s.reachCtx fn idx with
  | some ctx => (s.setBit (Reg.ctxCtrl ctx) 2 irqEn).enableCtx ctx
  | none => s
/-- ENABLE. -/
def execCtxEnable (fn idx : Nat) (irqEn : Bool) (s : State) : Res := guarded (Instr.ctxEnable fn idx irqEn).wf s (doCtxEnable fn idx irqEn)

/-- CTX_DISABLE (R177). -/
def doCtxDisable (fn idx : Nat) (irqEn : Bool) (s : State) : State :=
  match s.reachCtx fn idx with
  | some ctx => (s.setBit (Reg.ctxCtrl ctx) 2 irqEn).disableCtx ctx
  | none => s
/-- CTX_DISABLE. -/
def execCtxDisable (fn idx : Nat) (irqEn : Bool) (s : State) : Res := guarded (Instr.ctxDisable fn idx irqEn).wf s (doCtxDisable fn idx irqEn)

/-- CONTEXT_RESET (R563): CTX_CTRL.RESET. -/
def doContextReset (fn idx : Nat) (s : State) : State :=
  match s.reachCtx fn idx with
  | some ctx => s.contextReset ctx 3
  | none => s
/-- CONTEXT_RESET. -/
def execContextReset (fn idx : Nat) (s : State) : Res := guarded (Instr.contextReset fn idx).wf s (doContextReset fn idx)

/-- A write of CTX_CTRL (R177): RESET prevails over the other bits. -/
def State.writeCtxCtrl (s : State) (ctx : Nat) (v : Word) : State :=
  let s := s.setBit (Reg.ctxCtrl ctx) 2 (v.getLsbD 2)
  let s := if v.getLsbD 0 then s.enableCtx ctx else s.disableCtx ctx
  if v.getLsbD 1 then s.contextReset ctx 3 else s

/-! ### Doorbells (R148, R149) -/

/-- The context whose doorbell page a function writes: not that of a virtual function through the physical one (R143). It takes the
write while ENABLE is 1 and it has not been found guilty (R149, R571). -/
def State.doorbell (s : State) (fn idx : Nat) : Option Nat :=
  match s.reachCtx fn idx with
  | some ctx => if s.fnOf ctx = fn && s.enabled ctx && !(s.aux ctx).guilty then some ctx else none
  | none => none

/-- DB_SQ_TAIL (R108, R149). -/
def doDbSqTail (fn idx : Nat) (v : Word) (s : State) : State :=
  match s.doorbell fn idx with
  | none => s
  | some ctx =>
    let t := Machine.fld v 15 0
    if s.sqSize ctx ≤ t then s.setBit (Reg.ctxStatus ctx) 17 true
    else (s.setFld (Reg.ctxSqTail ctx) 15 0 t).stallFlag ctx
/-- DB_SQ_TAIL. -/
def execDbSqTail (fn idx : Nat) (v : Word) (s : State) : Res := guarded (Instr.dbSqTail fn idx v).wf s (doDbSqTail fn idx v)

/-- DB_CQ_HEAD (R149, R151). -/
def doDbCqHead (fn idx : Nat) (v : Word) (s : State) : State :=
  match s.doorbell fn idx with
  | none => s
  | some ctx =>
    let h := Machine.fld v 15 0
    if s.cqSize ctx ≤ h then s.setBit (Reg.ctxStatus ctx) 17 true
    else (s.setFld (Reg.ctxCqHead ctx) 15 0 h).stallFlag ctx
/-- DB_CQ_HEAD. -/
def execDbCqHead (fn idx : Nat) (v : Word) (s : State) : Res := guarded (Instr.dbCqHead fn idx v).wf s (doDbCqHead fn idx v)

end Sys2Proof.Machine
end

