-- ==== Sys2Proof/Machine/Commit.lean ====
section
/-! DEFINITION. The commit of a command (R158–R165): its status, warnings, record and interrupt, and what it lets go on. -/
namespace Sys2Proof.Machine

/-- The completion record (R158). -/
def State.recordOf (s : State) (c : Cmd) (st warn : Nat) (detail : Bool) : List Byte :=
  leBytes 8 s.tick ++ leBytes 2 c.slot ++ leBytes 2 (dfld c.desc 2 2) ++
  [BitVec.ofNat 8 st, BitVec.ofNat 8 (s.fld (Reg.ctxCqTail c.ctx) 16 16 + 2 * b2n detail)] ++ leBytes 2 warn

/-- The next record slot: PHASE inverts at each wrap (R159). -/
def State.advanceCq (s : State) (ctx : Nat) : State :=
  let i := s.cqTail ctx + 1
  if i < s.cqSize ctx then s.setFld (Reg.ctxCqTail ctx) 15 0 i
  else s.setNat (Reg.ctxCqTail ctx) (2 ^ 16 * (1 - s.fld (Reg.ctxCqTail ctx) 16 16))

/-- The failing address is shown and recorded (R162); an uncorrectable block has its own event (R647). -/
def State.noteError (s : State) (c : Cmd) (st a : Nat) : State :=
  let s := s.setNat (Reg.ctxErrAddrLo c.ctx) (a % 2 ^ 32)
  let s := s.setNat (Reg.ctxErrAddrHi c.ctx) (bits a 47 32 + 2 ^ 16 * dfld c.desc 2 2)
  let s := s.setBit (Reg.ctxStatus c.ctx) 19 true
  if c.errMem then s
  else s.event 0x0205 Src.module (some c.ctx) (dataOf [(0, a % 2 ^ 48), (8, st), (10, c.slot), (12, dfld c.desc 2 2)])

/-- Commits of the last 60 s with their STEP, where it differs from that of the one before (R601). -/
def State.noteStep (s : State) (step : Nat) : State :=
  let old := s.parity.steps.filter (fun x => decide (s.tick < x.1 + 1500000000))
  let same := match s.parity.steps with
    | x :: _ => decide (x.2 = step)
    | [] => false
  if same then s else { s with parity := { s.parity with steps := (s.tick, step) :: old } }

/-- What the commit of an OPT_STEP leaves (R427, R437, R589). -/
def State.optCommit (s : State) (c : Cmd) (st warn : Nat) : State :=
  let s := if c.op = 0x20 && Machine.bit warn Wn.isPartial then s.addCnt Reg.optCntPartial 1 else s
  match c.work with
  | .opt _ td onNbu _ =>
    let s := s.optSend c.id false
    if st ≠ St.ok then s
    else
      let s := (s.writeRange (optReq c (opAddr c.desc 0x28)) (2 ^ 64) (s.polderOf c) (opAddr c.desc 0x28 + 8) (leBytes 4 (opStep c.desc))).st
      let s := s.addCnt Reg.optCntSteps 1
      let s := if onNbu then s.addCnt Reg.optCntNbuSteps 1 else s
      let s := if tdGroup td < 64 then s.setNat (Reg.parGrpStep (tdGroup td)) (opStep c.desc) else s
      s.noteStep (opStep c.desc)
  | _ => s

/-- What the commit of other commands with ST_OK leaves: the epoch of a collective (R465), the cost of a harvest (R597, R601), the
counters of R608. -/
def State.okCommit (s : State) (c : Cmd) : State :=
  if c.op = 0x30 then
    { s with fab := { s.fab with epochs := SMap.set (fun _ => none) s.fab.epochs (65536 * s.polderOf c + clId c.desc) (some (clEpoch c.desc)) } }
  else if c.op = 0x70 then
    ((s.addCnt Reg.harvCntHarvests 1).setFld Reg.harvCostMs 23 0 (min (2 ^ 24 - 1) (max 1 (cdiv (s.tick - c.fetched) 25000)))).advise
  else if c.op = 0x71 then s.addCnt Reg.harvCntRestores 1
  else s

/-- An ABORT whose last target has committed ends with ST_OK (R173). -/
def State.abortsTold (s : State) (id : Nat) : State :=
  { s with cmds := s.cmds.map (fun (c : Cmd) => match c.phase, c.work with
    | .running, .abort ts =>
      let rest := ts.filter (· != id)
      if rest.isEmpty then { c with work := .abort [], phase := .done St.ok } else { c with work := .abort rest }
    | _, _ => c) }

/-- A reset in progress takes a command's polder in: it sends the breach itself (R469). -/
def State.breachCovered (s : State) (c : Cmd) : Bool :=
  s.resets.jobs.any (fun j => decide (4 ≤ j.level) || (decide (j.level = 3) && decide (j.unit = s.polderOf c)))

/-- A command commits with a status (R160–R165): its warnings are fixed, its failing address shown, what it held given back, its record
written, and what waited for it goes on. -/
def State.commit (s : State) (c : Cmd) (st : Nat) : State :=
  let p := s.polderOf c
  let drift := s.bit (Reg.ctxBind c.ctx) 7 && SMap.get (fun _ => false) s.sentinel p
  let s := if drift then { s with sentinel := SMap.set (fun _ => false) s.sentinel p false } else s
  let warn := if drift then setWarn c.warn Wn.sentinelDrift else c.warn
  let warn := if decide (st ≠ St.ok) && c.wrote then setWarn warn Wn.isPartial else warn
  let s := match c.errAddr with
    | some a => s.noteError c st a
    | none => s
  let s := s.optCommit c st warn
  let s := s.releaseWork c (decide (st = St.ok))
  let s := if st = St.ok then s.okCommit c else s
  let iova := s.cqBase c.ctx + 16 * s.cqTail c.ctx
  let s := (s.putRecord c.ctx iova (s.recordOf c st warn c.errAddr.isSome)).advanceCq c.ctx
  let s := s.irqAfter c.ctx (Machine.bit (dbyte c.desc 1) 2)
  let s := { s with cmds := s.cmds.filter (fun (k : Cmd) => k.id != c.id), nbuReady := s.nbuReady.filter (· != c.id) }
  let s := if c.op = 0x30 && decide (st ≠ St.ok) && decide (st ≠ St.peerAbort) && !c.quiesced && s.bit (Reg.ctxBind c.ctx) 7 && !s.breachCovered c then
    s.originBreach p st else s
  (((s.abortsTold c.id).stallFlag c.ctx).contextResetCheck c.ctx).guiltyEnd c st |>.replayCheck

/-- A reset takes a command in and has not yet closed its sluice (R561 step 4). -/
def State.sluiced (s : State) (c : Cmd) : Bool := s.resets.jobs.any (fun j => j.closed.isNone && s.resetScope j.level j.unit c)

/-- The status that a command now has to commit with; none while it still runs, waits for the peers of its deltas (R432), or for the
sluice of a reset that takes it in (R561 step 4). -/
def State.commitStatus (s : State) (c : Cmd) : Option Nat :=
  if s.sluiced c then none
  else match c.phase with
    | .done st => if c.op = 0x20 && decide (st = St.ok) && !s.optAccepted c.id then none else some st
    | .stopping st _ => some st
    | _ => none

/-- COMMAND_COMMIT (R160). -/
def doCommandCommit (id : Nat) (env : Env) (s : State) : State :=
  let s := s.arrive env
  match s.cmd? id with
  | none => s
  | some c =>
    let s := if s.sluiced c then s else (s.optFinish c).appendFinish c
    match s.cmd? id with
    | none => s
    | some c => match s.commitStatus c with
      | some st => s.commit c st
      | none => s
/-- COMMAND_COMMIT. -/
def execCommandCommit (id : Nat) (env : Env) (s : State) : Res := guarded (Instr.commandCommit id env).wf s (doCommandCommit id env)

end Sys2Proof.Machine
end

