-- ==== Sys2Proof/Machine/Compute.lean ====
section
/-! DEFINITION. The rows of the arrays and vector units: GEMM, CONV, ELEMENTWISE, PASS_START, DRAIN_COMPLETE,
SHADOW_SAMPLE_END, CLR_COUNTERS, CLR and CLEAR. -/
namespace Sys2Proof.Machine

/-- GEMM (R185, R198, R379). -/
def doGemm (id : Nat) (env : Env) (s : State) : State :=
  match s.starts id 0x01 with
  | none => s
  | some c => s.launch c (fun c => (s.arrive env).startArray c)
/-- GEMM. -/
def execGemm (id : Nat) (env : Env) (s : State) : Res := guarded (Instr.gemm id env).wf s (doGemm id env)

/-- CONV (R185, R194, R198). -/
def doConv (id : Nat) (env : Env) (s : State) : State :=
  match s.starts id 0x02 with
  | none => s
  | some c => s.launch c (fun c => (s.arrive env).startArray c)
/-- CONV. -/
def execConv (id : Nat) (env : Env) (s : State) : Res := guarded (Instr.conv id env).wf s (doConv id env)

/-- ELEMENTWISE (R261–R263): the vector operation is applied and the command's units end, once its cores have had their start (R499). -/
def doElementwise (id : Nat) (env : Env) (s : State) : State :=
  match s.starts id 0x03 with
  | none => s
  | some c => s.launch c (fun c =>
    let s := s.arrive env
    match s.template c with
    | none => s.endCmd id St.badDescriptor none
    | some t =>
      let cores := coreTiles t c.desc (s.partCores (s.polderOf c) t.cores) (fun x => [x])
      if !s.coresWarm (cores.map (fun x => x.1)) then s
      else
      let s := cores.foldl (fun (s : State) (x : Nat × List Tile) => s.spanStart x.1 c) (s.beginCmd id .none)
      (s.runEnd id (Run.elementwise t c (s.polderOf c))).spanEnd id)
/-- ELEMENTWISE. -/
def execElementwise (id : Nat) (env : Env) (s : State) : Res := guarded (Instr.elementwise id env).wf s (doElementwise id env)

/-- A core may start a pass: an accumulator set is empty, its dike is down, a tile is waiting (R189, R557), and it has had its start
(R499). -/
def State.canPass (s : State) (n : Nat) : Bool :=
  !s.halted && s.warm n && decide ((s.core n).sets.length < 2) && !s.fencedCore n && (s.core n).test.isNone && !s.bit (Reg.pwrGroup (n / 8)) 16

/-- PASS_START (R189). -/
def doPassStart (n : Nat) (env : Env) (s : State) : State :=
  if s.canPass n then
    match s.nextPass n with
    | none => s
    | some (id, tile, retry) => if s.idHeld id then s.arrive env else (s.arrive env).runPass n id tile retry
  else s
/-- PASS_START. -/
def execPassStart (core : Nat) (env : Env) (s : State) : Res := guarded (Instr.passStart core env).wf s (doPassStart core env)

/-- DRAIN_COMPLETE (R208–R210, R233): the oldest full set of the core. -/
def doDrainComplete (n : Nat) (defects : List Defect) (env : Env) (s : State) : State :=
  match (s.core n).sets with
  | [] => s
  | set :: rest => if s.fencedCore n || s.halted || s.idHeld set.cmd then s else (s.arrive env).drainSet n defects set rest
/-- DRAIN_COMPLETE. -/
def execDrainComplete (core : Nat) (defects : List Defect) (env : Env) (s : State) : Res :=
  guarded (Instr.drainComplete core defects env).wf s (doDrainComplete core defects env)

/-- SHADOW_SAMPLE_END (R243–R246): a tile without a sample is skipped; another updates D. -/
def doShadowSampleEnd (n : Nat) (s : State) : State :=
  let k := s.core n
  match k.shadow with
  | none => s
  | some sh =>
    let s := s.setCore n { k with shadow := none }
    match sh.err with
    | none => s.bumpFld (Reg.precShadow n) 31 16 1
    | some e => (s.bumpFld (Reg.precShadow n) 15 0 1).driftUpdate sh.polder sh e
/-- SHADOW_SAMPLE_END. -/
def execShadowSampleEnd (core : Nat) (s : State) : Res := guarded (Instr.shadowSampleEnd core).wf s (doShadowSampleEnd core)

/-- CLR_COUNTERS of ARR_CTRL (R222): ARR_ABFT and the counters of R223. -/
def doArrClrCounters (n : Nat) (s : State) : State :=
  if !s.hostOpen then s else
  let s := s.setReg (Reg.arrAbft n) 0
  [Reg.arrCntBusy n, Reg.arrCntFrzOperand n, Reg.arrCntFrzWeight n, Reg.arrCntFrzScale n, Reg.arrCntFrzDrain n,
   Reg.arrCntFiller n, Reg.arrCntPasses n, Reg.arrCntRetryCycles n].foldl (fun s a => s.setCnt a 0) s
/-- CLR_COUNTERS. -/
def execArrClrCounters (core : Nat) (s : State) : Res := guarded (Instr.arrClrCounters core).wf s (doArrClrCounters core)

/-- CLR of PREC_CTRL (R255): the registers at +0xA0 to +0xB0 of the core. -/
def doPrecClr (n : Nat) (s : State) : State :=
  if s.hostOpen then ((s.setCnt (Reg.precCntSat n) 0).setCnt (Reg.precCntNan n) 0).setReg (Reg.precShadow n) 0 else s
/-- CLR. -/
def execPrecClr (core : Nat) (s : State) : Res := guarded (Instr.precClr core).wf s (doPrecClr core)

/-- CLEAR of PREC_DRIFT_CTRL (R258); ignored for an undefined polder. -/
def doPrecClear (p : Nat) (s : State) : State := if s.hostOpen && (s.polderRec p).isSome then s.clearDrift p else s
/-- CLEAR. -/
def execPrecClear (polder : Nat) (s : State) : Res := guarded (Instr.precClear polder).wf s (doPrecClear polder)

end Sys2Proof.Machine
end

