-- ==== Sys2Proof/Machine/Fabric.lean ====
section
/-! DEFINITION. The frames of Ralwick and its timers (R445–R455, R458, R465, R470, R590, R593, R602), breaches written by the host
(R469, R470), the reckoning and harvest advice (R473, R601, R602), and the parity group entries (R585, R586). -/
namespace Sys2Proof.Machine

/-! ### Received frames -/

/-- WRITE (R455, R458). -/
def doFabWrite (f : Rx) (env : Env) (s : State) : State := (s.arrive env).gotFrame f
/-- WRITE. -/
def execFabWrite (f : Rx) (env : Env) (s : State) : Res := guarded (Instr.fabWrite f env).wf s (doFabWrite f env)

/-- READ_REQ (R455, R458). -/
def doFabReadReq (f : Rx) (env : Env) (s : State) : State := (s.arrive env).gotFrame f
/-- READ_REQ. -/
def execFabReadReq (f : Rx) (env : Env) (s : State) : Res := guarded (Instr.fabReadReq f env).wf s (doFabReadReq f env)

/-- READ_RSP (R455, R457). -/
def doFabReadRsp (f : Rx) (env : Env) (s : State) : State := (s.arrive env).gotFrame f
/-- READ_RSP. -/
def execFabReadRsp (f : Rx) (env : Env) (s : State) : Res := guarded (Instr.fabReadRsp f env).wf s (doFabReadRsp f env)

/-- ACK (R449, R450). -/
def doFabAck (f : Rx) (s : State) : State := s.gotFrame f
/-- ACK. -/
def execFabAck (f : Rx) (s : State) : Res := guarded (Instr.fabAck f).wf s (doFabAck f)

/-- NAK (R451, R453). -/
def doFabNak (f : Rx) (s : State) : State := s.gotFrame f
/-- NAK. -/
def execFabNak (f : Rx) (s : State) : Res := guarded (Instr.fabNak f).wf s (doFabNak f)

/-- COLL_DATA (R465). -/
def doCollData (f : Rx) (env : Env) (s : State) : State := (s.arrive env).gotFrame f
/-- COLL_DATA. -/
def execCollData (f : Rx) (env : Env) (s : State) : Res := guarded (Instr.collData f env).wf s (doCollData f env)

/-- BREACH (R470, R471). -/
def doBreachFrame (f : Rx) (s : State) : State := s.gotFrame f
/-- BREACH. -/
def execBreachFrame (f : Rx) (s : State) : Res := guarded (Instr.breachFrame f).wf s (doBreachFrame f)

/-- RECKON_REQ (R473 step 2). -/
def doReckonReq (f : Rx) (s : State) : State := s.gotFrame f
/-- RECKON_REQ. -/
def execReckonReq (f : Rx) (s : State) : Res := guarded (Instr.reckonReq f).wf s (doReckonReq f)

/-- RECKON_RSP (R473 step 3). -/
def doReckonRsp (f : Rx) (s : State) : State := s.gotFrame f
/-- RECKON_RSP. -/
def execReckonRsp (f : Rx) (s : State) : Res := guarded (Instr.reckonRsp f).wf s (doReckonRsp f)

/-- GRANT (R474, R504). -/
def doGrantFrame (f : Rx) (s : State) : State := s.gotFrame f
/-- GRANT. -/
def execGrantFrame (f : Rx) (s : State) : Res := guarded (Instr.grantFrame f).wf s (doGrantFrame f)

/-- SLACK (R505). -/
def doSlackFrame (f : Rx) (s : State) : State := s.gotFrame f
/-- SLACK. -/
def execSlackFrame (f : Rx) (s : State) : Res := guarded (Instr.slackFrame f).wf s (doSlackFrame f)

/-- PAR_DELTA (R590). -/
def doParDelta (f : Rx) (env : Env) (s : State) : State := (s.arrive env).gotFrame f
/-- PAR_DELTA. -/
def execParDelta (f : Rx) (env : Env) (s : State) : Res := guarded (Instr.parDelta f env).wf s (doParDelta f env)

/-- PAR_READ_REQ (R593). -/
def doParReadReq (f : Rx) (env : Env) (s : State) : State := (s.arrive env).gotFrame f
/-- PAR_READ_REQ. -/
def execParReadReq (f : Rx) (env : Env) (s : State) : Res := guarded (Instr.parReadReq f env).wf s (doParReadReq f env)

/-- PAR_READ_RSP (R593). -/
def doParReadRsp (f : Rx) (env : Env) (s : State) : State := (s.arrive env).gotFrame f
/-- PAR_READ_RSP. -/
def execParReadRsp (f : Rx) (env : Env) (s : State) : Res := guarded (Instr.parReadRsp f env).wf s (doParReadRsp f env)

/-- HARV_REPORT (R602). -/
def doHarvReport (f : Rx) (s : State) : State := s.gotFrame f
/-- HARV_REPORT. -/
def execHarvReport (f : Rx) (s : State) : Res := guarded (Instr.harvReport f).wf s (doHarvReport f)

/-! ### Timers -/

/-- ACK_TIMER (R449): 1 µs after the oldest accepted frame not yet acknowledged. -/
def doAckTimer (device : Nat) (s : State) : State :=
  match (s.rxOf device).bind (fun r => r.oldest) with
  | some t => if t + 25 ≤ s.tick then s.sendAck device else s
  | none => s
/-- ACK_TIMER. -/
def execAckTimer (device : Nat) (s : State) : Res := guarded (Instr.ackTimer device).wf s (doAckTimer device)

/-- RETRANSMIT_TIMEOUT (R450). -/
def doRetransmitTimeout (device : Nat) (s : State) : State := s.timeoutOf device
/-- RETRANSMIT_TIMEOUT. -/
def execRetransmitTimeout (device : Nat) (s : State) : Res := guarded (Instr.retransmitTimeout device).wf s (doRetransmitTimeout device)

/-- PEER_DOWN_RETRANSMIT (R450). -/
def doPeerDownRetransmit (device : Nat) (s : State) : State := s.probeDown device
/-- PEER_DOWN_RETRANSMIT. -/
def execPeerDownRetransmit (device : Nat) (s : State) : Res := guarded (Instr.peerDownRetransmit device).wf s (doPeerDownRetransmit device)

/-- BUSY_RETRY (R453). -/
def doBusyRetry (device psn : Nat) (s : State) : State := s.busyAgain device psn
/-- BUSY_RETRY. -/
def execBusyRetry (device psn : Nat) (s : State) : Res := guarded (Instr.busyRetry device psn).wf s (doBusyRetry device psn)

/-- RATE_INCREASE_PERIOD (R454). -/
def doRateIncrease (device port entry : Nat) (s : State) : State := s.speedPath device port entry
/-- RATE_INCREASE_PERIOD. -/
def execRateIncrease (device port entry : Nat) (s : State) : Res :=
  guarded (Instr.rateIncrease device port entry).wf s (doRateIncrease device port entry)

/-! ### Breaches of the host -/

/-- A write of FAB_BREACH_SEND (R469, R480): with GO, a breach of a polder; its status is a free value. -/
def State.sendBreach (s : State) (v : Word) : State :=
  if v.getLsbD 31 then s.fresh.originBreach (Machine.fld v 4 0) (Config.freeNat s.freeCtr % 256) else s

/-- BREACH_SEND (R469). -/
def doBreachSend (v : Word) (s : State) : State := if s.hostOpen then s.sendBreach v else s
/-- BREACH_SEND. -/
def execBreachSend (v : Word) (s : State) : Res := guarded (Instr.breachSend v).wf s (doBreachSend v)

/-- BREACH_LATCH_CLEAR (R470): the physical function clears LATCHED. -/
def doBreachLatchClear (polder : Nat) (s : State) : State := if s.hostOpen then s.setBit (Reg.fabBreach polder) 31 false else s
/-- BREACH_LATCH_CLEAR. -/
def execBreachLatchClear (polder : Nat) (s : State) : Res := guarded (Instr.breachLatchClear polder).wf s (doBreachLatchClear polder)

/-! ### Cascade groups -/

/-- RECKON_MS of the group image. -/
def State.reckonTicks (s : State) : Nat := match s.group? with
  | some g => 25000 * g.reckonMs
  | none => 0

/-- RECKON_PERIOD (R473 step 1). -/
def doReckonPeriod (s : State) : State :=
  let due := match s.casc.roundAt with
    | some t => decide (t + s.reckonTicks ≤ s.tick)
    | none => true
  if s.ready && s.isMaster && s.inGroup && due then s.startRound else s
/-- RECKON_PERIOD. -/
def execReckonPeriod (s : State) : Res := guarded Instr.reckonPeriod.wf s doReckonPeriod

/-- NOW (R473): CAS_RECKON_CTRL.NOW on the master. -/
def doReckonNow (s : State) : State := if s.hostOpen && s.isMaster && s.inGroup then s.startRound else s
/-- NOW. -/
def execReckonNow (s : State) : Res := guarded Instr.reckonNow.wf s doReckonNow

/-- RECKON_DEADLINE (R473 steps 4 and 5): half the period after step 1. -/
def doReckonDeadline (s : State) : State :=
  if s.ready && s.casc.roundOpen && decide (2 * s.casc.roundAt.getD 0 + s.reckonTicks ≤ 2 * s.tick) then s.judgeRound else s
/-- RECKON_DEADLINE. -/
def execReckonDeadline (s : State) : Res := guarded Instr.reckonDeadline.wf s doReckonDeadline

/-- EV_CAS_MASTER_LOST (R473): no RECKON_REQ for three periods. -/
def doCasMasterLost (s : State) : State :=
  if s.ready && s.inGroup && !s.isMaster && !s.bit Reg.casStatus 29 && decide (s.casc.lastReq.getD 0 + 3 * s.reckonTicks ≤ s.tick) then
    (s.setBit Reg.casStatus 29 true).event 0x0604 Src.module none (dataOf [(0, s.fld Reg.casGroup 15 0)])
  else s
/-- EV_CAS_MASTER_LOST. -/
def execCasMasterLost (s : State) : Res := guarded Instr.casMasterLost.wf s doCasMasterLost

/-- HARV_REPORT_PERIOD (R602, R603): a member other than the master reports its cost and its local rate. -/
def doHarvReportPeriod (s : State) : State :=
  match s.group? with
  | none => s
  | some g =>
    if s.ready && s.inGroup && !s.isMaster then
      s.sendSeq g.masterDevice 0x33 0 0 (beBytes 2 g.groupId ++ [BitVec.ofNat 8 s.memberId, 0] ++ beBytes 4 (s.fld Reg.harvCostMs 23 0) ++
        beBytes 2 (min 65535 s.eventCount) ++ beBytes 2 s.eventHours) [] none
    else s
/-- HARV_REPORT_PERIOD. -/
def execHarvReportPeriod (s : State) : Res := guarded Instr.harvReportPeriod.wf s doHarvReportPeriod

/-- HARV_ADVISE_UPDATE (R601, R602). -/
def doHarvAdviseUpdate (s : State) : State := if s.ready then s.advise else s
/-- HARV_ADVISE_UPDATE. -/
def execHarvAdviseUpdate (s : State) : Res := guarded Instr.harvAdviseUpdate.wf s doHarvAdviseUpdate

/-! ### Parity group entries -/

/-- PAR_GRP_VALID (R585). -/
def doParGrpValid (group : Nat) (v : Word) (env : Env) (s : State) : State :=
  let s := s.arrive env
  if s.hostOpen then s.writeGrpCtrl group v else s
/-- PAR_GRP_VALID. -/
def execParGrpValid (group : Nat) (v : Word) (env : Env) (s : State) : Res :=
  guarded (Instr.parGrpValid group v env).wf s (doParGrpValid group v env)

/-- PAR_GRP_LOST (R586, R589). -/
def doParGrpLost (group : Nat) (v : Word) (s : State) : State := if s.hostOpen then s.writeGrpLost group v else s
/-- PAR_GRP_LOST. -/
def execParGrpLost (group : Nat) (v : Word) (s : State) : Res := guarded (Instr.parGrpLost group v).wf s (doParGrpLost group v)

/-- PAR_GRP_DEV (R585, R586). -/
def doParGrpDev (group r : Nat) (v : Word) (s : State) : State := if s.hostOpen then s.writeGrpDev group r v else s
/-- PAR_GRP_DEV. -/
def execParGrpDev (group r : Nat) (v : Word) (s : State) : Res := guarded (Instr.parGrpDev group r v).wf s (doParGrpDev group r v)

end Sys2Proof.Machine
end

