-- ==== Sys2Proof/Machine/Kv.lean ====
section
/-! DEFINITION. Page and sequence operations (R371–R376, R386–R390): the sub-operations of KV_PAGE_OP, PREFIX_LOOKUP and
COPY_ON_WRITE_END. -/
namespace Sys2Proof.Machine

/-! ### Operands (R156, R373) -/

/-- SEQ of a KV_PAGE_OP. -/
def kvSeq (d : Desc) : Nat := dfld d 0x14 2
/-- LAYER of a KV_PAGE_OP. -/
def kvLayer (d : Desc) : Nat := dfld d 0x16 2
/-- PAGE of a KV_PAGE_OP. -/
def kvPage (d : Desc) : Nat := dfld d 0x18 4
/-- COUNT of a KV_PAGE_OP. -/
def kvCount (d : Desc) : Nat := dfld d 0x1C 4

/-- A layer that a registered sequence has, or every layer (R374). -/
def Run.layerOk (q : Seq) (layer : Nat) : Run Unit := Run.need (layer = 0xFFFF || decide (layer < q.layers)) St.badDescriptor

/-! ### Sub-operations -/

/-- REGISTER (R372, R373). -/
def Run.kvRegister (c : Cmd) (p : Nat) : Run Nat := do
  let d := c.desc
  let n := kvSeq d
  let k ← Run.kvp p
  Run.pageNeed (k.seq n).isNone Pr.seqExists none
  let maxReg := ((← get).attnRec p).map (fun r => r.maxReg)
  Run.pageNeed (decide (k.registered < maxReg.getD 0)) Pr.regLimit none
  let q : Seq := ⟨false, c.addr 0x20, dfld d 0x30 2, dfld d 0x32 2, dfld d 0x34 2, dbyte d 0x36, dfld d 0x38 4, []⟩
  let a := q.tableAddr
  let len := q.layers * q.kvHeads * 4 * q.entries
  let s ← get
  let carved := (k.data ++ k.header ++ k.index).any (fun x => decide (addrCore x = addrCore a) && overlap (addrOff x) 0x200000 (addrOff a) len)
  if addrSpace a ≠ 0 || !s.granted p (addrCore a) (addrOff a) len 11 || carved then Run.stopAt St.notPermitted a
  Run.pwrite (reqBd c) c.id a (List.replicate len 0)
  Run.setKv p ((← Run.kvp p).setSeq n (some q))
  return q.entries

/-- The pages that every table of a sequence names. -/
def Run.allPages (rq : Req) (p : Nat) (q : Seq) (tables : List (Nat × Nat)) : Run (List Nat) := do
  let mut ps : List Nat := []
  for t in tables do
    ps := ps ++ (← Run.table rq p q t.1 t.2)
  return ps

/-- RELEASE (R373): the tables' references are dropped and the sequence is unregistered. -/
def Run.kvRelease (c : Cmd) (p : Nat) : Run Nat := do
  let q ← Run.seq p (kvSeq c.desc)
  Run.pageNeed q.appending.isEmpty Pr.inUse none
  let ps ← Run.allPages (reqBd c) p q (q.tables 0xFFFF)
  Run.forAll p KvPolder.refDrop ps
  Run.setKv p ((← Run.kvp p).setSeq (kvSeq c.desc) none)
  return 0

/-- ACTIVATE (R373, R376). -/
def Run.kvActivate (c : Cmd) (p : Nat) : Run Nat := do
  let q ← Run.seq p (kvSeq c.desc)
  if q.active then return 0
  let k ← Run.kvp p
  let m := ((← get).attnRec p).map (fun r => r.maxActive)
  Run.pageNeed (decide (k.activeSeqs < m.getD 0)) Pr.activeLimit none
  Run.setKv p (k.setSeq (kvSeq c.desc) (some { q with active := true }))
  return 0

/-- DEACTIVATE (R373, R376). -/
def Run.kvDeactivate (c : Cmd) (p : Nat) : Run Nat := do
  let q ← Run.seq p (kvSeq c.desc)
  Run.pageNeed q.appending.isEmpty Pr.inUse none
  Run.setKv p ((← Run.kvp p).setSeq (kvSeq c.desc) (some { q with active := false }))
  return 0

/-- The pages of a table that hold positions below a length, and whether the length falls on the table's end or on the start of
one of its pages (R373, R376). -/
def Run.below (rq : Req) (p len : Nat) (t : List Nat) : Run (List Nat × Bool) := do
  let mut ps : List Nat := []
  let mut hit := false
  for n in t do
    let st ← Run.hdr rq p n 8 4
    if st < len then ps := ps ++ [n]
    if st = len then hit := true
  return (ps, hit || (← Run.tableLen rq p t) = len)

/-- FORK (R373): references to the source's pages below LENGTH are added to every table of the target. -/
def Run.kvFork (c : Cmd) (p : Nat) : Run Nat := do
  let rq := reqBd c
  let d := c.desc
  let q ← Run.seq p (kvSeq d)
  let src ← Run.seq p (dfld d 0x30 2)
  Run.pageNeed (decide (q.layers = src.layers) && decide (q.kvHeads = src.kvHeads) && decide (q.headDim = src.headDim)) Pr.geometry none
  let mut adds : List ((Nat × Nat) × List Nat) := []
  for t in q.tables 0xFFFF do
    let own ← Run.table rq p q t.1 t.2
    Run.pageNeed own.isEmpty Pr.geometry none
    let ps ← Run.table rq p src t.1 t.2
    let r ← Run.below rq p (dfld d 0x34 4) ps
    Run.pageNeed r.2 Pr.align none
    Run.pageNeed (decide (r.1.length ≤ q.entries)) Pr.tableFull none
    adds := adds ++ [(t, r.1)]
  Run.forAll p KvPolder.refAdd (adds.flatMap (fun x => x.2))
  for x in adds do
    for n in x.2.zipIdx do
      Run.setEntry rq c.id q x.1.1 x.1.2 n.2 (some n.1)
  return (adds.map (fun x => x.2.length)).foldl (· + ·) 0

/-- What a truncation does to a table: pages dropped from its end, and the page cut inside with the slots to keep and whether it is
copied (R382). -/
def Run.truncPlan (rq : Req) (p len : Nat) (t : List Nat) : Run (List Nat × Option (Nat × Nat × Bool)) := do
  let mut drops : List Nat := []
  let mut inside : Option (Nat × Nat × Bool) := none
  for n in t do
    let st ← Run.hdr rq p n 8 4
    let ct ← Run.hdr rq p n 6 2
    if len ≤ st then drops := drops ++ [n]
    else if len < st + ct then
      let g := (← Run.kvp p).page n
      inside := some (n, len - st, decide (1 < g.refs) || decide (0 < g.leases))
  return (drops, inside)

/-- TRUNCATE (R373, R382). -/
def Run.kvTruncate (c : Cmd) (p : Nat) : Run Nat := do
  let rq := reqBd c
  let d := c.desc
  let q ← Run.seq p (kvSeq d)
  Run.layerOk q (kvLayer d)
  Run.pageNeed q.appending.isEmpty Pr.inUse none
  let len := dfld d 0x34 4
  let mut plans : List ((Nat × Nat) × List Nat × List Nat × Option (Nat × Nat × Bool)) := []
  for t in q.tables (kvLayer d) do
    let ps ← Run.table rq p q t.1 t.2
    Run.pageNeed (decide (len ≤ (← Run.tableLen rq p ps))) Pr.position none
    let x ← Run.truncPlan rq p len ps
    plans := plans ++ [(t, ps, x.1, x.2)]
  let copies := plans.countP (fun x => match x.2.2.2 with
    | some y => y.2.2
    | none => false)
  Run.makeRoom rq c.id p copies
  let mut changed := 0
  for x in plans do
    let keep := x.2.1.length - x.2.2.1.length
    for n in x.2.2.1.zipIdx do
      Run.setEntry rq c.id q x.1.1 x.1.2 (keep + n.2) none
      Run.forAll p KvPolder.refDrop [n.1]
    changed := changed + x.2.2.1.length
    match x.2.2.2 with
    | none => pure ()
    | some (n, ct, true) => do
      let _ ← Run.copyOnWrite rq c.id p (kvSeq d) q x.1.1 x.1.2 (keep - 1) n ct
      changed := changed + 2
    | some (n, ct, false) => Run.setHdr rq c.id p n 6 2 ct
  return changed

/-- SET_FORMAT (R373, R376): each table's last page is sealed, and later appends use FORMAT. -/
def Run.kvSetFormat (c : Cmd) (p : Nat) : Run Nat := do
  let rq := reqBd c
  let q ← Run.seq p (kvSeq c.desc)
  let f := dbyte c.desc 0x36
  Run.pageNeed q.appending.isEmpty Pr.inUse none
  Run.pageNeed (dimOk q.headDim f) Pr.geometry none
  let mut lasts : List Nat := []
  for t in q.tables 0xFFFF do
    lasts := lasts ++ ((← Run.table rq p q t.1 t.2).getLast?.toList)
  for n in lasts do
    let fl ← Run.hdr rq p n 1 1
    Run.setHdr rq c.id p n 1 1 (fl ||| 2)
  Run.setKv p ((← Run.kvp p).setSeq (kvSeq c.desc) (some { q with format := f }))
  return 0

/-! ### The index -/

/-- What identifies a block in the index (R389): key, layer, head, format, dimension, parent, block number, capacity, tokens. -/
structure BlockId where
  key : Nat
  layer : Nat
  head : Nat
  fmt : Nat
  dim : Nat
  parent : Nat
  start : Nat
  cap : Nat
  tokens : List Nat

/-- The token IDs of a page. -/
def Run.pageTokens (rq : Req) (p n count : Nat) : Run (List Nat) := do
  let bs ← Run.pread rq ((← Run.kvp p).hdrAddr n + 0x40) (4 * count)
  return (chunks 4 bs).map leNat

/-- An entry with the key of a block matches it (R389). -/
def Run.entryMatches (rq : Req) (p : Nat) (b : BlockId) (e : List Byte) : Run Bool := do
  if decide (lsub e 0x10 2 ≠ b.layer) || decide (lbyte e 0x12 ≠ b.head) || decide (lbyte e 0x13 ≠ b.fmt) ||
      decide (lsub e 0x14 2 ≠ b.dim) || decide (ixParent e ≠ b.parent) then return false
  let n := ixPage e
  let k ← Run.kvp p
  if (k.page n).state ≠ .live then return false
  let st ← Run.hdr rq p n 8 4
  let ct ← Run.hdr rq p n 6 2
  if st ≠ b.start || ct ≠ b.cap then return false
  return decide ((← Run.pageTokens rq p n b.cap) = b.tokens)

/-- The search of a block among its 16 slots (R387, R389): the page that matches, the first free slot, and the collisions. -/
def Run.probe (rq : Req) (p : Nat) (b : BlockId) : Nat → Nat → Nat → Run (Option Nat × Option Nat × Nat)
  | 0, _, col => pure (none, none, col)
  | n + 1, i, col => do
    let size := (← get).indexSize p
    let e ← Run.entry rq p (i % max 1 size)
    if !ixValid e && !ixDeleted e then return (none, some (i % max 1 size), col)
    if ixValid e && decide (lsub e 0 8 = b.key) then
      if ← Run.entryMatches rq p b e then return (some (ixPage e), none, col)
      modify (fun s => s.addCnt Reg.kvpCntCollide 1)
      Run.probe rq p b n (i + 1) (col + 1)
    else Run.probe rq p b n (i + 1) col

/-- The search from the block's first slot. -/
def Run.lookup (rq : Req) (p : Nat) (b : BlockId) : Run (Option Nat × Option Nat × Nat) := do
  Run.probe rq p b 16 (b.key % max 1 ((← get).indexSize p)) 0

/-- One table published from block `j` on (R388). -/
def Run.publishFrom (rq : Req) (c : Cmd) (p layer head count fmt dim cap : Nat) : List Nat → Nat → Nat → Nat → Run Nat
  | [], _, _, _ => pure 0
  | n :: ns, j, chain, parent => do
    let f ← Run.hdr rq p n 0 1
    let fl ← Run.hdr rq p n 1 1
    let dm ← Run.hdr rq p n 2 2
    let ct ← Run.hdr rq p n 6 2
    let st ← Run.hdr rq p n 8 4
    if ct ≠ cap || st ≠ j * cap || bit fl 1 || f ≠ fmt || dm ≠ dim || count < (j + 1) * cap then return 0
    let toks ← Run.pageTokens rq p n cap
    let chain := chainOver chain toks
    if bit fl 0 then Run.publishFrom rq c p layer head count fmt dim cap ns (j + 1) chain n
    else
      let key := blockKeyOf chain fmt head layer dim
      let r ← Run.lookup rq p ⟨key, layer, head, fmt, dim, parent, j * cap, cap, toks⟩
      match r.1, r.2.1 with
      | some other, _ => Run.publishFrom rq c p layer head count fmt dim cap ns (j + 1) chain other
      | none, none => do
        modify (fun s => s.addCnt Reg.kvpCntIndexFull 1)
        return 0
      | none, some i => do
        Run.forAll p KvPolder.refAdd [n]
        Run.putEntry rq c.id p i (leBytes 8 key ++ leBytes 4 (n + 2 ^ 31) ++ leBytes 4 parent ++ leBytes 2 layer ++
          leBytes 1 head ++ leBytes 1 fmt ++ leBytes 2 dim ++ List.replicate 10 0)
        Run.setHdr rq c.id p n 1 1 (fl ||| 1)
        Run.setHdr rq c.id p n 0x14 12 (parent + 2 ^ 32 * chain)
        let k ← Run.kvp p
        Run.setKv p { k with used := k.used + 1 }
        return 1 + (← Run.publishFrom rq c p layer head count fmt dim cap ns (j + 1) chain n)

/-- PUBLISH (R388). -/
def Run.kvPublish (c : Cmd) (p : Nat) : Run Nat := do
  let rq := reqBd c
  let d := c.desc
  let q ← Run.seq p (kvSeq d)
  Run.layerOk q (kvLayer d)
  let mut total := 0
  for t in q.tables (kvLayer d) do
    let ps ← Run.table rq p q t.1 t.2
    match ps with
    | [] => pure ()
    | n :: _ => do
      let f ← Run.hdr rq p n 0 1
      let dm ← Run.hdr rq p n 2 2
      let cap ← Run.hdr rq p n 4 2
      total := total + (← Run.publishFrom rq c p t.1 t.2 (kvCount d) f dm cap ps 0 chain0 0xFFFFFF)
  return total

/-- The entries of a page and of every page below it, among the VALID ones. -/
def belowFuel : Nat → List (Nat × List Byte) → List Nat → List (Nat × List Byte)
  | 0, _, _ => []
  | n + 1, es, pages =>
    let hit := es.filter (fun e => pages.contains (ixPage e.2))
    let rest := es.filter (fun e => !pages.contains (ixPage e.2))
    let next := (rest.filter (fun e => pages.contains (ixParent e.2))).map (fun e => ixPage e.2)
    if next.isEmpty then hit else hit ++ belowFuel n rest next

/-- EVICT (R373). -/
def Run.kvEvict (c : Cmd) (p : Nat) : Run Nat := do
  let rq := reqBd c
  let es ← Run.entries rq p
  let gone := if bit (dbyte c.desc 0x30) 0 then es
    else
      let own := es.filter (fun e => ixPage e.2 = kvPage c.desc)
      own ++ (belowFuel es.length (es.filter (fun e => ixPage e.2 ≠ kvPage c.desc))
        ((es.filter (fun e => decide (ixParent e.2 = kvPage c.desc) && decide (ixPage e.2 ≠ kvPage c.desc))).map (fun e => ixPage e.2)))
  for e in gone do
    Run.removeEntry rq c.id p e.1 e.2
  return gone.length

/-- The pages that REF or FREE names (R374): one, or those of a list, whose malformed entry stops the command. -/
def Run.kvPages (c : Cmd) (p : Nat) : Run (List Nat) := do
  let n := kvCount c.desc
  if n = 0 then return [kvPage c.desc]
  let a := c.addr 0x20
  let bs ← Run.read (fun _ => reqBd c) p a (4 * n)
  let pool := (← get).poolPages p
  let es := (chunks 4 bs).map leNat
  match es.findIdx? (fun e => !bit e 31 || decide (bits e 30 24 ≠ 0) || decide (pool ≤ e % 2 ^ 24)) with
  | some i => Run.stopAt St.badDescriptor (a + 4 * i)
  | none => return es.map (fun e => e % 2 ^ 24)

/-- REF (R373, R382). -/
def Run.kvRef (c : Cmd) (p : Nat) : Run Nat := do
  let ps ← Run.kvPages c p
  Run.forAll p KvPolder.refAdd ps
  return ps.length

/-- FREE (R373, R382). -/
def Run.kvFree (c : Cmd) (p : Nat) : Run Nat := do
  let ps ← Run.kvPages c p
  Run.forAll p KvPolder.refDrop ps
  return ps.length

/-! ### How an operation ends -/


/-- A KV_PAGE_OP that may start, with its sub-operation. -/
def State.kvStarts (s : State) (id sub : Nat) : Option Cmd :=
  match s.starts id 0x12 with
  | some c => if dbyte c.desc 0x10 = sub then some c else none
  | none => none

/-- A sub-operation applied, its result record written whatever the status (R375), and the command's end. -/
def State.kvOp (s : State) (c : Cmd) (op : Cmd → Nat → Run Nat) : State :=
  let p := s.polderOf c
  let s0 := s.beginCmd c.id .none
  let res : Nat × Option Fail × State := match op c p s0 with
    | .ok v s => (v, none, s)
    | .error e s => (0, some e, (s0.undoKv s c.id).noteKv p (kvSeq c.desc) e)
  let s := res.2.2
  let reason := (res.2.1.map (fun e => e.reason)).getD 0
  let page := (res.2.1.bind (fun e => e.page)).getD 0xFFFFFFFF
  let rec' := leBytes 4 res.1 ++ leBytes 1 reason ++ [0, 0, 0] ++ leBytes 4 page ++ leBytes 4 (s.freePages p).length
  let out : Run Unit := if c.addr 0x28 = 0 then pure () else Run.report (fun _ => reqBd c) p (c.addr 0x28) rec'
  match res.2.1, out s with
  | none, .ok _ s => s.endCmd c.id St.ok none
  | none, .error e s => s.failCmd c.id (e.status, e.addr.getD 0)
  | some f, .ok _ s | some f, .error _ s => match f.addr with
    | some a => s.failCmd c.id (f.status, a)
    | none => s.endCmd c.id f.status none

/-! ### Rows -/

/-- REGISTER (R372, R373). -/
def doKvRegister (id : Nat) (env : Env) (s : State) : State :=
  match s.kvStarts id 0x01 with
  | none => s
  | some c => (s.arrive env).kvOp c Run.kvRegister
/-- REGISTER. -/
def execKvRegister (id : Nat) (env : Env) (s : State) : Res := guarded (Instr.kvRegister id env).wf s (doKvRegister id env)

/-- RELEASE (R373). -/
def doKvRelease (id : Nat) (env : Env) (s : State) : State :=
  match s.kvStarts id 0x02 with
  | none => s
  | some c => (s.arrive env).kvOp c Run.kvRelease
/-- RELEASE. -/
def execKvRelease (id : Nat) (env : Env) (s : State) : Res := guarded (Instr.kvRelease id env).wf s (doKvRelease id env)

/-- ACTIVATE (R373). -/
def doKvActivate (id : Nat) (env : Env) (s : State) : State :=
  match s.kvStarts id 0x03 with
  | none => s
  | some c => (s.arrive env).kvOp c Run.kvActivate
/-- ACTIVATE. -/
def execKvActivate (id : Nat) (env : Env) (s : State) : Res := guarded (Instr.kvActivate id env).wf s (doKvActivate id env)

/-- DEACTIVATE (R373). -/
def doKvDeactivate (id : Nat) (env : Env) (s : State) : State :=
  match s.kvStarts id 0x04 with
  | none => s
  | some c => (s.arrive env).kvOp c Run.kvDeactivate
/-- DEACTIVATE. -/
def execKvDeactivate (id : Nat) (env : Env) (s : State) : Res := guarded (Instr.kvDeactivate id env).wf s (doKvDeactivate id env)

/-- FORK (R373). -/
def doKvFork (id : Nat) (env : Env) (s : State) : State :=
  match s.kvStarts id 0x05 with
  | none => s
  | some c => (s.arrive env).kvOp c Run.kvFork
/-- FORK. -/
def execKvFork (id : Nat) (env : Env) (s : State) : Res := guarded (Instr.kvFork id env).wf s (doKvFork id env)

/-- TRUNCATE (R373, R382). -/
def doKvTruncate (id : Nat) (env : Env) (s : State) : State :=
  match s.kvStarts id 0x06 with
  | none => s
  | some c => (s.arrive env).kvOp c Run.kvTruncate
/-- TRUNCATE. -/
def execKvTruncate (id : Nat) (env : Env) (s : State) : Res := guarded (Instr.kvTruncate id env).wf s (doKvTruncate id env)

/-- SET_FORMAT (R373). -/
def doKvSetFormat (id : Nat) (env : Env) (s : State) : State :=
  match s.kvStarts id 0x07 with
  | none => s
  | some c => (s.arrive env).kvOp c Run.kvSetFormat
/-- SET_FORMAT. -/
def execKvSetFormat (id : Nat) (env : Env) (s : State) : Res := guarded (Instr.kvSetFormat id env).wf s (doKvSetFormat id env)

/-- PUBLISH (R388). -/
def doKvPublish (id : Nat) (env : Env) (s : State) : State :=
  match s.kvStarts id 0x08 with
  | none => s
  | some c => (s.arrive env).kvOp c Run.kvPublish
/-- PUBLISH. -/
def execKvPublish (id : Nat) (env : Env) (s : State) : Res := guarded (Instr.kvPublish id env).wf s (doKvPublish id env)

/-- EVICT (R373). -/
def doKvEvict (id : Nat) (env : Env) (s : State) : State :=
  match s.kvStarts id 0x09 with
  | none => s
  | some c => (s.arrive env).kvOp c Run.kvEvict
/-- EVICT. -/
def execKvEvict (id : Nat) (env : Env) (s : State) : Res := guarded (Instr.kvEvict id env).wf s (doKvEvict id env)

/-- REF (R373, R382). -/
def doKvRef (id : Nat) (env : Env) (s : State) : State :=
  match s.kvStarts id 0x0A with
  | none => s
  | some c => (s.arrive env).kvOp c Run.kvRef
/-- REF. -/
def execKvRef (id : Nat) (env : Env) (s : State) : Res := guarded (Instr.kvRef id env).wf s (doKvRef id env)

/-- FREE (R373, R382). -/
def doKvFree (id : Nat) (env : Env) (s : State) : State :=
  match s.kvStarts id 0x0B with
  | none => s
  | some c => (s.arrive env).kvOp c Run.kvFree
/-- FREE. -/
def execKvFree (id : Nat) (env : Env) (s : State) : Res := guarded (Instr.kvFree id env).wf s (doKvFree id env)

/-! ### PREFIX_LOOKUP (R389) -/

/-- The blocks of a lookup, one after the other, until one lacks a match in some table: for each table the pages matched. The
parents are the pages matched for the block before. DESIGN CHOICE (log entry 76): a table has E entries, and where the rule gives a
block no entry to stand in, the lookup stops. -/
def Run.matchBlocks (rq : Req) (p : Nat) (q : Seq) (tables : List (Nat × Nat)) (cap : Nat) :
    List (List Nat) → Nat → Nat → List Nat → Nat → Run (List (List Nat) × Nat)
  | [], _, _, _, col => pure ([], col)
  | b :: bs, j, chain, parents, col => do
    if b.length < cap || decide (q.entries ≤ j) then return ([], col)
    let chain := chainOver chain b
    let mut pages : List Nat := []
    let mut cols := col
    let mut all := true
    for t in tables.zip parents do
      if all then
        let r ← Run.lookup rq p ⟨blockKeyOf chain q.format t.1.2 t.1.1 q.headDim, t.1.1, t.1.2, q.format, q.headDim, t.2,
                                 j * cap, cap, b⟩
        cols := cols + r.2.2
        match r.1 with
        | some n => pages := pages ++ [n]
        | none => all := false
    if !all then return ([], cols)
    let rest ← Run.matchBlocks rq p q tables cap bs (j + 1) chain pages cols
    return (pages :: rest.1, rest.2)

/-- PREFIX_LOOKUP: the longest run of indexed blocks is attached to the sequence's empty tables. -/
def Run.prefixLookup (c : Cmd) (p : Nat) : Run Unit := do
  let rq := reqBd c
  let d := c.desc
  let n := dfld d 0x24 2
  let layer := dfld d 0x26 2
  let q ← Run.seq p n
  Run.layerOk q layer
  let tables := q.tables layer
  for t in tables do
    Run.pageNeed (← Run.table rq p q t.1 t.2).isEmpty Pr.geometry none
  let bs ← Run.read (fun _ => rq) p (c.addr 0x10) (4 * dfld d 0x20 4)
  let cap := pageCap q.headDim q.format
  let r ← Run.matchBlocks rq p q tables cap (chunks cap ((chunks 4 bs).map leNat)) 0 chain0 (tables.map (fun _ => 0xFFFFFF)) 0
  Run.forAll p KvPolder.refAdd r.1.flatten
  for b in r.1.zipIdx do
    for x in tables.zip b.1 do
      Run.setEntry rq c.id q x.1.1 x.1.2 b.2 (some x.2)
  modify (fun s => s.addCnt Reg.kvpCntMatched (r.1.length * tables.length))
  Run.write (fun _ => rq) c.id p (c.addr 0x18)
    (leBytes 4 (r.1.length * cap) ++ leBytes 4 r.1.length ++ leBytes 4 r.2 ++ [0, 0, 0, 0])

/-- PREFIX_LOOKUP. -/
def doPrefixLookup (id : Nat) (env : Env) (s : State) : State :=
  match s.starts id 0x13 with
  | none => s
  | some c =>
    let p := s.polderOf c
    let s0 := (s.arrive env).beginCmd c.id .none
    match Run.prefixLookup c p s0 with
    | .ok _ s => s.endCmd id St.ok none
    | .error e s =>
      let s := (s0.undoKv s id).noteKv p (dfld c.desc 0x24 2) e
      match e.addr with
      | some a => s.failCmd id (e.status, a)
      | none => s.endCmd id e.status none
/-- PREFIX_LOOKUP. -/
def execPrefixLookup (id : Nat) (env : Env) (s : State) : Res := guarded (Instr.prefixLookup id env).wf s (doPrefixLookup id env)

/-- COPY_ON_WRITE_END (R383 steps 3 and 6): the oldest copy to the page is made, and its lease on the old page is released; a copy
whose old page is itself still being copied to has not ended yet. An uncorrectable block ends the command that asked for the copy
(R404). -/
def doCopyOnWriteEnd (polder new : Nat) (env : Env) (s : State) : State :=
  match s.copies.find? (fun c => c.polder == polder && c.new == new) with
  | none => s
  | some c =>
    let s := s.arrive env
    if s.copying polder c.old then s
    else
    let s := { s with copies := s.copies.erase c }
    let rq : Req := ⟨5, (s.cmd? c.cmd).map (fun x => x.ctx), (s.cmd? c.cmd).map (fun x => x.id), .bd⟩
    let s := match Run.copyPage rq c s with
      | .ok _ s => s
      | .error e s => s.failCmd c.cmd (e.status, e.addr.getD 0)
    s.unleaseAll polder [c.old]
/-- COPY_ON_WRITE_END. -/
def execCopyOnWriteEnd (polder new : Nat) (env : Env) (s : State) : Res :=
  guarded (Instr.copyOnWriteEnd polder new env).wf s (doCopyOnWriteEnd polder new env)

end Sys2Proof.Machine
end

