-- ==== Sys2Proof/Machine/Fetch.lean ====
section
/-! DEFINITION. The fetch of a descriptor and its checks (R150–R157), and the commands that the tracker itself serves: ABORT (R172–R175),
COLLECTIVE, HARVEST, RESTORE and PARITY_REBUILD. -/
namespace Sys2Proof.Machine

/-! ### Step 2 of R157: known opcode and reserved bytes -/

/-- The opcodes (R155). -/
def opcodes : List Nat :=
  [0x01, 0x02, 0x03, 0x10, 0x11, 0x12, 0x13, 0x20, 0x30, 0x40, 0x50, 0x60, 0x61, 0x70, 0x71, 0x72, 0x7F, 0x80]

/-- The ADDR fields of each opcode's body (R156). -/
def addrFields (op : Nat) : List Nat :=
  if op ≤ 0x03 || op = 0x10 || op = 0x11 then [0x10, 0x18, 0x20]
  else if op = 0x12 then [0x20, 0x28]
  else if op = 0x13 || op = 0x30 || op = 0x50 then [0x10, 0x18]
  else if op = 0x20 then [0x10, 0x18, 0x20, 0x28]
  else if op = 0x70 || op = 0x71 then [0x10, 0x18, 0x28]
  else if op = 0x72 then [0x18]
  else []

/-- ARGS of a KV_PAGE_OP by sub-operation (R373): offset and size. -/
def kvArgs (sub : Nat) : List (Nat × Nat) :=
  if sub = 1 then [(0x30, 7), (0x38, 4)]
  else if sub = 5 then [(0x30, 2), (0x34, 4)]
  else if sub = 6 then [(0x34, 4)]
  else if sub = 7 then [(0x36, 1)]
  else if sub = 9 then [(0x30, 1)]
  else []

/-- The body bytes that an opcode's layout lists (R156): offset and size. -/
def bodyFields (d : Desc) : List (Nat × Nat) :=
  let op := dbyte d 0
  if op = 0x01 then [(0x10, 30), (0x30, 12)]
  else if op = 0x02 then [(0x10, 30), (0x30, 15)]
  else if op = 0x03 then [(0x10, 30), (0x30, 8)]
  else if op = 0x10 || op = 0x11 then [(0x10, 48)]
  else if op = 0x12 then [(0x10, 1), (0x14, 7), (0x1C, 20)] ++ kvArgs (dbyte d 0x10)
  else if op = 0x13 then [(0x10, 24)]
  else if op = 0x20 then [(0x10, 42)]
  else if op = 0x30 then [(0x10, 33), (0x32, 2)]
  else if op = 0x40 then [(0x10, 3), (0x14, 2), (0x18, 20), (0x30, 16)]
  else if op = 0x50 then [(0x10, 29), (0x30, 2), (0x34, 4)]
  else if op = 0x60 then [(0x10, 1)]
  else if op = 0x61 then [(0x10, 2), (0x14, 5), (0x1C, 4)]
  else if op = 0x70 || op = 0x71 then [(0x10, 34)]
  else if op = 0x72 then [(0x10, 3), (0x18, 16)]
  else if op = 0x7F then [(0x10, 7)]
  else if op = 0x80 then [(0x10, 2), (0x14, 4)]
  else []

/-- Flag bytes with reserved bits: offset and the bits in use. -/
def flagFields (d : Desc) : List (Nat × Nat) :=
  let op := dbyte d 0
  if op = 0x01 then [(0x2D, 7)]
  else if op = 0x02 || op = 0x03 then [(0x2D, 3)]
  else if op = 0x10 || op = 0x11 then [(0x2F, 7)]
  else if op = 0x12 && decide (dbyte d 0x10 = 9) then [(0x30, 1)]
  else if op = 0x20 then [(0x39, 7)]
  else if op = 0x50 then [(0x2C, 1)]
  else if op = 0x7F then [(0x16, 1)]
  else []

/-- Every reserved byte and bit of a descriptor is 0 (R154, R156). -/
def reservedZero (d : Desc) : Bool :=
  let fs := bodyFields d
  decide (dfld d 8 8 = 0) && decide (dbyte d 1 / 32 = 0) &&
  ((List.range 48).map (· + 16)).all (fun i => fs.any (fun f => decide (f.1 ≤ i) && decide (i < f.1 + f.2)) || decide (dbyte d i = 0)) &&
  (flagFields d).all (fun f => decide (dbyte d f.1 &&& f.2 = dbyte d f.1)) &&
  (addrFields (dbyte d 0)).all (fun o => decide (dfld d (o + 6) 2 = 0))

/-- The header rules of step 2. -/
def headerOk (d : Desc) : Bool :=
  opcodes.contains (dbyte d 0) && reservedZero d && decide (dfld d 4 4 ≤ 600000) && decide (bits (dbyte d 1) 4 3 ≠ 3)

/-- An address of the fabric peer space names the module itself (R50). -/
def State.namesSelf (s : State) (d : Desc) : Bool :=
  s.local?.isSome && (addrFields (dbyte d 0)).any (fun o => decide (addrSpace (dfld d o 6) = 0x20) && decide (addrDevice (dfld d o 6) = s.device))

/-! ### Steps 3 to 5, by opcode -/

/-- ATTN_FWD and ATTN_BWD (R391): with the addresses of R48. -/
def State.attnFetchCheck (s : State) (p : Nat) (d : Desc) : Nat :=
  let back := decide (dbyte d 0 = 0x11)
  let rc : Reach := if !back && s.nbuPath d then .bd else coresReach (s.partCores p 0)
  if !(([0x10, 0x18, 0x20] : List Nat).all (fun o => addrOk (dfld d o 6))) then St.badDescriptor
  else
    let st := s.attnCheck p back d
    if st ≠ St.ok then st
    else
      let checks := [(0x10, 1), (0x18, if back then 1 else 2), (0x20, if back then 1 else 2)].map (fun x =>
        if x.1 = 0x20 && decide (dfld d 0x20 8 = 0) then St.ok else s.rangeCheck rc p (dfld d x.1 6) 1 x.2)
      if checks.contains St.notPermitted then St.notPermitted else St.ok

/-- A page that a KV_PAGE_OP names lies in the pool (R374). -/
def State.kvPageOk (s : State) (p : Nat) (d : Desc) : Bool := (s.attnRec p).isNone || decide (kvPage d < s.poolPages p)

/-- Entries of one table of a REGISTER (R372). -/
def kvEntries (d : Desc) : Nat := cdiv (dfld d 0x38 4) 16

/-- Bytes of LIST_ADDR that a sub-operation names. -/
def kvListLen (d : Desc) : Nat :=
  let sub := dbyte d 0x10
  if sub = 1 then dfld d 0x30 2 * dfld d 0x32 2 * 4 * kvEntries d
  else if sub = 10 || sub = 11 then 4 * kvCount d else 0

/-- The field rules of a KV_PAGE_OP (R373, R374). -/
def State.kvFields (s : State) (p : Nat) (d : Desc) : Bool :=
  let sub := dbyte d 0x10
  let f := dbyte d 0x36
  let dim := dfld d 0x34 2
  decide (1 ≤ sub) && decide (sub ≤ 11) &&
  (sub ≠ 1 || (decide (1 ≤ dfld d 0x30 2) && decide (dfld d 0x30 2 ≤ 4096) && decide (1 ≤ dfld d 0x32 2) && decide (dfld d 0x32 2 ≤ 256) &&
    decide (1 ≤ dfld d 0x38 4) && decide (dfld d 0x38 4 ≤ 1048576) && dimOk dim f &&
    (match s.attnRec p with
     | some r => decide (dim ≤ r.maxHeadDim)
     | none => true))) &&
  ((sub ≠ 1 && sub ≠ 7) || decide (pageElem f ≠ 0)) &&
  (sub ≠ 9 || Machine.bit (dbyte d 0x30) 0 || s.kvPageOk p d) &&
  ((sub ≠ 10 && sub ≠ 11) || (if kvCount d = 0 then s.kvPageOk p d else decide (kvCount d ≤ 4096) && decide (kvPage d = 0))) &&
  (kvListLen d = 0 || rangeOk (dfld d 0x20 6) (kvListLen d)) && (dfld d 0x28 6 = 0 || rangeOk (dfld d 0x28 6) 16)

/-- The prefix index is absent from a polder, or from the module (R387). -/
def State.noIndex (s : State) (p : Nat) : Bool := match s.attnRec p with
  | some r => decide (r.prefixLog2 = 0)
  | none => true

/-- KV_PAGE_OP (R371–R374, R387). -/
def State.kvCheck (s : State) (p : Nat) (d : Desc) : Nat :=
  let sub := dbyte d 0x10
  let index := sub = 8 || sub = 9
  if !s.kvFields p d then St.badDescriptor
  else if index && !s.cap 5 then St.absentUnit
  else if (s.attnRec p).isNone || (index && s.noIndex p) || ((sub = 1 || sub = 7) && !s.formatOk p (dbyte d 0x36)) then St.notPermitted
  else
    let a := if (sub = 10 || sub = 11) && decide (kvCount d ≠ 0) then s.rangeCheck .bd p (dfld d 0x20 6) (kvListLen d) 1 else St.ok
    if a ≠ St.ok then a else if dfld d 0x28 6 ≠ 0 then s.rangeCheck .bd p (dfld d 0x28 6) 16 2 else St.ok

/-- PREFIX_LOOKUP (R371, R387, R389). -/
def State.lookupCheck (s : State) (p : Nat) (d : Desc) : Nat :=
  let n := 4 * dfld d 0x20 4
  let ta := dfld d 0x10 6
  if !(if n = 0 then addrOk ta else rangeOk ta n) || !rangeOk (dfld d 0x18 6) 16 || decide (dfld d 0x18 6 = 0) then St.badDescriptor
  else if !s.cap 5 then St.absentUnit
  else if s.noIndex p then St.notPermitted
  else
    let a := if n = 0 then St.ok else s.rangeCheck .bd p ta n 1
    if a ≠ St.ok then a else s.rangeCheck .bd p (dfld d 0x18 6) 16 2

/-- OPT_STEP at its fetch (R417): its tensor descriptor is read when it starts (R418). -/
def State.optFetchCheck (s : State) (p : Nat) (d : Desc) : Nat :=
  if s.optFields d then s.rangeCheck .dma p (opAddr d 0x28) 64 3 else St.badDescriptor

/-- COUNTER_OP (R271). -/
def State.counterCheck (s : State) (p : Nat) (d : Desc) : Nat :=
  if 1 < dbyte d 0x18 then St.badDescriptor else s.ctrCheck p (ctrRef d 0x10)

/-- TARGET_CTX of an ABORT as a context number (R143, R156). -/
def State.abortCtx (s : State) (c : Cmd) : Option Nat :=
  (s.localCtx (s.fnOf c.ctx) (dfld c.desc 0x10 2)).filter (fun k => s.fnOf k == s.fnOf c.ctx)
/-- ABFLAGS.ALL. -/
def abortAll (d : Desc) : Bool := Machine.bit (dbyte d 0x16) 0

/-- ABORT (R172). -/
def State.abortCheck (s : State) (c : Cmd) : Nat :=
  if abortAll c.desc && (decide (dfld c.desc 0x12 2 ≠ 0) || decide (dfld c.desc 0x14 2 ≠ 0)) then St.badDescriptor
  else if (s.abortCtx c).isNone then St.notPermitted else St.ok

/-- SELFTEST (R632). -/
def State.testCheck (s : State) (p : Nat) (c : Cmd) : Nat :=
  let t := dbyte c.desc 0x10
  let n := dbyte c.desc 0x11
  if 4 < t || decide (600000 < dfld c.desc 0x14 4) || (t = 4 && decide (8 ≤ n)) then St.badDescriptor
  else if t = 4 && decide (4 ≤ n) && !s.cap 4 then St.absentUnit
  else if (decide (t ≤ 3) && decide (s.corePolder n ≠ some p)) || (decide (3 ≤ t) && decide (s.fnOf c.ctx ≠ 0)) then St.notPermitted
  else St.ok

/-- Steps 3 to 5 of R157 for a descriptor whose header passes. -/
def State.bodyCheck (s : State) (p : Nat) (c : Cmd) : Nat :=
  let d := c.desc
  let op := c.op
  if s.namesSelf d then St.badDescriptor
  else if op ≤ 0x03 then s.arrayCheck p op c
  else if op = 0x10 || op = 0x11 then s.attnFetchCheck p d
  else if op = 0x12 then s.kvCheck p d
  else if op = 0x13 then s.lookupCheck p d
  else if op = 0x20 then s.optFetchCheck p d
  else if op = 0x30 then s.collectiveCheck p d
  else if op = 0x40 then s.nbuCheck p d
  else if op = 0x50 then s.dmaCheck p d
  else if op = 0x60 then (if dbyte d 0x10 ≤ 2 then St.ok else St.badDescriptor)
  else if op = 0x61 then s.counterCheck p d
  else if op = 0x70 then s.harvestCheck p d false
  else if op = 0x71 then s.harvestCheck p d true
  else if op = 0x72 then s.rebuildCheck p d
  else if op = 0x7F then s.abortCheck c
  else s.testCheck p c

/-- The clusters of the polder include one that is held (R490 step 5). -/
def State.polderHeld (s : State) (p : Nat) : Bool := match s.polderRec p with
  | some r => (bitsOf 32 r.clusters).any s.clusterHeld
  | none => false

/-- The checks at fetch, in order (R157, R470, R490). -/
def State.fetchCheck (s : State) (c : Cmd) : Nat :=
  let p := s.polderOf c
  if !s.bit (Reg.ctxBind c.ctx) 7 || (s.polderRec p).isNone then St.noImage
  else if s.bit (Reg.fabBreach p) 31 then St.peerAbort
  else if s.polderHeld p then St.fenced
  else if !headerOk c.desc then St.badDescriptor
  else s.bodyCheck p c

/-! ### The fetch -/

/-- The polder of a context takes descriptors: it runs (R110), and no reset takes it in. -/
def State.polderFetches (s : State) (ctx : Nat) : Bool :=
  let p := s.ctxPolder ctx
  let bound := s.bit (Reg.ctxBind ctx) 7 && (s.polderRec p).isSome
  (!bound || s.running p) && s.resets.jobs.all (fun j => decide (j.level < 3) || (decide (j.level = 3) && !(bound && decide (j.unit = p))))

/-- The quota of a context's function has room (R170). -/
def State.quotaRoom (s : State) (ctx : Nat) : Bool :=
  let fn := s.fnOf ctx
  let q := s.fld (Reg.fnQuota fn) 14 0
  decide (s.cmds.length < 16384) && (decide (q = 0) || decide (s.fnInflight fn < q))

/-- A descriptor waits in the context's ring and the module may read it (R150–R152, R170, R537, R573, R631). -/
def State.fetchReady (s : State) (ctx : Nat) : Bool :=
  s.ready && !s.recovery && s.configOpen && s.enabled ctx && decide (s.sqHead ctx ≠ s.sqTail ctx) && !s.bit (Reg.ctxStatus ctx) 16 && s.cqRoom ctx &&
  s.quotaRoom ctx && !s.pcie.d3.contains (s.fnOf ctx) && !s.halted && s.polderFetches ctx && (s.aux ctx).resetting.isNone

/-- The contexts with a descriptor to fetch, ascending: only a listed CTX_CTRL holds ENABLE. -/
def State.fetchWaiting (s : State) : List Nat :=
  (s.regs.filterMap (fun e =>
    let i := (e.1 - Reg.ctxCtrl 0) / 0x40
    if decide (Reg.ctxCtrl 0 ≤ e.1) && decide (e.1 = Reg.ctxCtrl i) && decide (i < 4096) then some i else none)).filter s.fetchReady

/-- The next descriptor of a context may be fetched, and it is the context's turn (R146). -/
def State.fetchable (s : State) (ctx : Nat) : Bool := s.fetchReady ctx && (s.arb 0).turn s.priority s.fetchWaiting ctx

/-- The arbiter of fetching once a context has been served. -/
def State.fetchServed (s : State) (ctx : Nat) : SMap Arb :=
  SMap.set (fun _ => Arb.start) s.arbs 0 ((s.arb 0).serve s.priority s.fetchWaiting ctx)

/-- The command that a fetched descriptor becomes (R150, R238, R550). -/
def State.newCmd (s : State) (ctx : Nat) (d : Desc) : Cmd :=
  { id := s.nextId, ctx := ctx, slot := s.sqHead ctx, desc := d, fetched := s.tick, vigilFrom := s.tick,
    vigilMs := if dfld d 4 4 = 0 then s.fld (Reg.ctxVigil ctx) 19 0 else dfld d 4 4,
    roundDefault := s.inforce Key.roundDefault, phase := .waiting, warn := 0, wrote := false, errAddr := none, errMem := false,
    quiesced := false, replayed := false, work := .none }

/-- A fetched command joins those in flight (R150): the head of its ring passes its slot, the mark of the slot is spent, and the
arbiter has served the context. -/
def State.takeSlot (s : State) (ctx : Nat) (c : Cmd) : State :=
  let a := s.aux ctx
  ({ ((s.setFld (Reg.ctxSqHead ctx) 15 0 ((s.sqHead ctx + 1) % s.sqSize ctx)).setAux ctx
      { a with marked := a.marked.filter (fun m => m.1 != c.slot) }) with
    cmds := s.cmds ++ [c], nextId := s.nextId + 1, arbs := s.fetchServed ctx } : State).stallFlag ctx

/-- The status with which an ABORT marked a slot before its fetch (R174). -/
def State.slotMark (s : State) (ctx slot : Nat) : Option Nat := ((s.aux ctx).marked.find? (fun m => m.1 == slot)).map (fun m => m.2)

/-- A descriptor is fetched: it joins the commands in flight, and one that a mark or a check decides commits at once. -/
def State.fetch (s : State) (ctx : Nat) (d : Desc) : State :=
  let c := s.newCmd ctx d
  let t := s.takeSlot ctx c
  match s.slotMark ctx c.slot with
  | some st => t.commit c st
  | none => if t.fetchCheck c = St.ok then t else t.commit c (t.fetchCheck c)

/-- DESCRIPTOR_FETCH (R150, R152). -/
def doDescriptorFetch (ctx : Nat) (env : Env) (s : State) : State :=
  let s := s.arrive env
  if !s.fetchable ctx then s
  else
    let a := s.sqBase ctx + 64 * s.sqHead ctx
    if s.hostMapped a 64 && s.hostClean a 64 then s.fetch ctx (BitVec.ofNat 512 (leNat (s.host.mem.read a 64)))
    else s.ringFault ctx a 1
/-- DESCRIPTOR_FETCH. -/
def execDescriptorFetch (ctx : Nat) (env : Env) (s : State) : Res := guarded (Instr.descriptorFetch ctx env).wf s (doDescriptorFetch ctx env)

/-! ### ABORT (R172–R175) -/

/-- The command may start although the engines stand still: an ABORT needs no engine. -/
def State.abortStarts (s : State) (id : Nat) : Option Cmd :=
  match s.cmd? id with
  | some c => if c.op = 0x7F && decide (c.phase = .waiting) && (s.earlier c).all (fun d => !c.ordered && decide (d.op ≠ 0x60)) then some c else none
  | none => none

/-- An ABORT with ALL: every command of the context in flight but the ABORTs, and every descriptor submitted. -/
def State.abortEvery (s : State) (c : Cmd) (ctx : Nat) : State :=
  let slots := s.submitted ctx
  let ids := (s.cmds.filter (fun k => decide (k.ctx = ctx) && decide (k.op ≠ 0x7F))).map (fun k => k.id)
  if slots.isEmpty && ids.isEmpty then s.endCmd c.id St.alreadyComplete none
  else
    let s := s.markSlots ctx slots St.aborted
    if ids.isEmpty then s.endCmd c.id St.ok none
    else (s.stopAll ids St.aborted).beginCmd c.id (.abort ids)

/-- An ABORT of one command: the match fetched earliest, or the descriptor not yet fetched in the slot. -/
def State.abortOne (s : State) (c : Cmd) (ctx : Nat) : State :=
  let slot := dfld c.desc 0x12 2
  match s.cmds.find? (fun k => decide (k.ctx = ctx) && decide (k.slot = slot) && decide (dfld k.desc 2 2 = dfld c.desc 0x14 2)) with
  | some k =>
    if k.op = 0x7F then s.endCmd c.id St.badDescriptor none
    else (s.stopCmd k.id St.aborted).beginCmd c.id (.abort [k.id])
  | none =>
    if (s.submitted ctx).contains slot then (s.markSlots ctx [slot] St.aborted).endCmd c.id St.ok none
    else s.endCmd c.id St.alreadyComplete none

/-- ABORT. -/
def doAbort (id : Nat) (s : State) : State :=
  match s.abortStarts id with
  | none => s
  | some c => match s.abortCtx c with
    | none => s.endCmd id St.notPermitted none
    | some ctx => if abortAll c.desc then s.abortEvery c ctx else s.abortOne c ctx
/-- ABORT. -/
def execAbort (id : Nat) (s : State) : Res := guarded (Instr.abort id).wf s (doAbort id)

/-! ### COLLECTIVE, HARVEST, RESTORE and PARITY_REBUILD start -/

/-- A COLLECTIVE of one OP starts (R462, R465). -/
def State.collOp (s : State) (id op : Nat) (env : Env) : State :=
  match s.starts id 0x30 with
  | some c => if clOp c.desc = op then s.launch c (fun (c : Cmd) => (s.arrive env).collStart c) else s
  | none => s

/-- ALL_REDUCE. -/
def doAllReduce (id : Nat) (env : Env) (s : State) : State := s.collOp id 0 env
/-- ALL_REDUCE. -/
def execAllReduce (id : Nat) (env : Env) (s : State) : Res := guarded (Instr.allReduce id env).wf s (doAllReduce id env)
/-- REDUCE_SCATTER. -/
def doReduceScatter (id : Nat) (env : Env) (s : State) : State := s.collOp id 1 env
/-- REDUCE_SCATTER. -/
def execReduceScatter (id : Nat) (env : Env) (s : State) : Res := guarded (Instr.reduceScatter id env).wf s (doReduceScatter id env)
/-- ALL_GATHER. -/
def doAllGather (id : Nat) (env : Env) (s : State) : State := s.collOp id 2 env
/-- ALL_GATHER. -/
def execAllGather (id : Nat) (env : Env) (s : State) : Res := guarded (Instr.allGather id env).wf s (doAllGather id env)
/-- BROADCAST. -/
def doBroadcast (id : Nat) (env : Env) (s : State) : State := s.collOp id 3 env
/-- BROADCAST. -/
def execBroadcast (id : Nat) (env : Env) (s : State) : Res := guarded (Instr.broadcast id env).wf s (doBroadcast id env)
/-- SIGN_VOTE. -/
def doSignVote (id : Nat) (env : Env) (s : State) : State := s.collOp id 4 env
/-- SIGN_VOTE. -/
def execSignVote (id : Nat) (env : Env) (s : State) : Res := guarded (Instr.signVote id env).wf s (doSignVote id env)

/-- HARVEST (R597). -/
def doHarvest (id : Nat) (env : Env) (s : State) : State :=
  match s.starts id 0x70 with
  | some c => s.launch c (fun (c : Cmd) => (s.arrive env).harvestStart c)
  | none => s
/-- HARVEST. -/
def execHarvest (id : Nat) (env : Env) (s : State) : Res := guarded (Instr.harvest id env).wf s (doHarvest id env)

/-- RESTORE (R598). -/
def doRestore (id : Nat) (env : Env) (s : State) : State :=
  match s.starts id 0x71 with
  | some c => s.launch c (fun (c : Cmd) => (s.arrive env).restoreStart c)
  | none => s
/-- RESTORE. -/
def execRestore (id : Nat) (env : Env) (s : State) : Res := guarded (Instr.restore id env).wf s (doRestore id env)

/-- PARITY_REBUILD (R592). -/
def doParityRebuild (id : Nat) (env : Env) (s : State) : State :=
  match s.starts id 0x72 with
  | some c => s.launch c (fun (c : Cmd) => (s.arrive env).rebuildStart c)
  | none => s
/-- PARITY_REBUILD. -/
def execParityRebuild (id : Nat) (env : Env) (s : State) : Res := guarded (Instr.parityRebuild id env).wf s (doParityRebuild id env)

end Sys2Proof.Machine
end

