-- ==== Sys2Proof/Machine/Firmware.lean ====
section
/-! DEFINITION. Firmware update (R622, R623) and ownership (R624, R625). -/
namespace Sys2Proof.Machine

/-- The SEC_FW_* registers are served: recovery mode and every stage serve them (R612, R621). -/
def State.fwServed (s : State) : Bool := s.barsOpen 0

/-- A request fails with an ERROR (R639). -/
def State.fwFail (s : State) (code : Nat) : State := (s.setBit Reg.secFwStatus 4 true).setFld Reg.secFwStatus 11 8 code

/-- An update is opened: the staging is empty (R622). -/
def State.fwStart (s : State) (path : FwPath) : State :=
  { s with sec := { s.sec with staging := [], path := some path, stagedOver := false, verifiedLen := none } }.setBit Reg.secFwStatus 1 true

/-- The update is over: its staging is discarded. -/
def State.fwEnd (s : State) : State :=
  ({ s with sec := { s.sec with staging := [], path := none, stagedOver := false, verifiedLen := none, busy := .idle } }.setBit
    Reg.secFwStatus 0 false).setBit Reg.secFwStatus 1 false

/-- Length of the image being staged: SEC_FW_LENGTH, or the component's (R639, R662). -/
def State.fwStagedLength (s : State) : Nat := if s.sec.path = some FwPath.pldm then s.sec.pldm.length else s.nat Reg.secFwLength

/-- Bytes are staged as R100 appends them: those beyond the length make the verification fail. -/
def State.fwStage (s : State) (data : List Byte) : State :=
  let limit := min s.fwStagedLength 4194304
  let all := s.sec.staging ++ data
  { s with sec := { s.sec with staging := all.take limit, stagedOver := s.sec.stagedOver || decide (limit < all.length) } }

/-- Verification starts (R622). -/
def State.fwBeginVerify (s : State) : State :=
  ({ s with sec := { s.sec with busy := .verifying, verifiedLen := none } }.setBit Reg.secFwStatus 0 true).setBit Reg.secFwStatus 2 false

/-- The result of verifying the staged copy: REASON of R619, or 0. -/
def State.fwVerdict (s : State) : Nat :=
  if s.sec.stagedOver || decide (s.sec.staging.length < s.fwStagedLength) then 1 else fwReason s.fuses s.sec.staging

/-- The slot begins to be written: its MAGIC is 0 until the end (R622). -/
def State.fwBeginCommit (s : State) : State :=
  let s := { s with
    sec := { s.sec with busy := .committing }
    nvm := { s.nvm with fwSlot := List.replicate 4 0 ++ s.nvm.fwSlot.drop 4 } }
  (s.setBit Reg.secFwStatus 0 true).showSlot

/-- OPEN (R622, R623). -/
def doFwOpen (s : State) : State :=
  if !s.fwServed then s
  else match s.sec.path with
    | some .pldm => s.fwFail 9
    | some .bar0 => s
    | none => s.fwStart .bar0
/-- The meaning of OPEN. -/
def execFwOpen (s : State) : Res := guarded Instr.fwOpen.wf s doFwOpen

/-- SEC_FW_PORT_WRITE (R622, R623). -/
def doFwPortWrite (data : List Byte) (s : State) : State :=
  if s.fwServed && decide (s.sec.path = some .bar0) && decide (s.sec.busy = .idle) then s.fwStage data else s
/-- The meaning of SEC_FW_PORT_WRITE. -/
def execFwPortWrite (data : List Byte) (s : State) : Res := guarded (Instr.fwPortWrite data).wf s (doFwPortWrite data)

/-- VERIFY (R622, R623). -/
def doFwVerify (s : State) : State :=
  if s.fwServed && decide (s.sec.path = some .bar0) && decide (s.sec.busy = .idle) then s.fwBeginVerify else s
/-- The meaning of VERIFY. -/
def execFwVerify (s : State) : Res := guarded Instr.fwVerify.wf s doFwVerify

/-- Where the update agent of PLDM is told how a step ended (R662): VerifyComplete 0x17, ApplyComplete 0x18. -/
def State.pldmTell (s : State) (cmd result state : Nat) : State :=
  let u := s.sec.pldm
  { s with sec := { s.sec with pldm := { u with state := state } } }.pldmSend u.binding true 0 5 cmd [BitVec.ofNat 8 result]

/-- FIRMWARE_VERIFY_DONE (R622, R662): checks 3 to 6 of R619 decide; a PLDM update goes on to its commit by itself. -/
def doFwVerifyDone (s : State) : State :=
  if s.sec.busy = .verifying then
    let code := s.fwVerdict
    let ok := decide (code = 0)
    let pldm := decide (s.sec.path = some FwPath.pldm)
    let len := s.fwStagedLength
    let s := { s with sec := { s.sec with busy := .idle, verifiedLen := if ok then some len else none } }
    let s := s.setBit Reg.secFwStatus 0 false
    let s := if ok then s.setBit Reg.secFwStatus 2 true else s.fwFail code
    if !pldm then s
    else if ok then (s.pldmTell 0x17 0 5).fwBeginCommit
    else s.pldmTell 0x17 1 4
  else s
/-- The meaning of FIRMWARE_VERIFY_DONE. -/
def execFwVerifyDone (s : State) : Res := guarded Instr.fwVerifyDone.wf s doFwVerifyDone

/-- The staged copy has been verified at its present length (R623). -/
def State.fwVerified (s : State) : Bool :=
  s.bit Reg.secFwStatus 2 && decide (s.sec.verifiedLen = some (s.nat Reg.secFwLength))

/-- COMMIT (R622, R623). -/
def doFwCommit (key : Nat) (s : State) : State :=
  if !s.fwServed || decide (key ≠ 0xA5) || decide (s.sec.busy ≠ .idle) then s
  else if s.sec.path = some .bar0 && s.fwVerified then s.fwBeginCommit
  else s.fwFail 8
/-- The meaning of COMMIT. -/
def execFwCommit (key : Nat) (s : State) : Res := guarded (Instr.fwCommit key).wf s (doFwCommit key)

/-- FIRMWARE_COMMIT_DONE (R622): the slot holds the image, MAGIC written last; a PLDM update stays open until it is activated. -/
def doFwCommitDone (s : State) : State :=
  if s.sec.busy = .committing then
    let pldm := decide (s.sec.path = some FwPath.pldm)
    let s := { s with nvm := { s.nvm with fwSlot := padTo (fwLength s.sec.staging) s.sec.staging } }
    let s := (s.fwEnd.setBit Reg.secFwStatus 3 true).showSlot
    if pldm then ({ s with sec := { s.sec with path := some .pldm } }.setBit Reg.secFwStatus 1 true).pldmTell 0x18 0 7 else s
  else s
/-- The meaning of FIRMWARE_COMMIT_DONE. -/
def execFwCommitDone (s : State) : Res := guarded Instr.fwCommitDone.wf s doFwCommitDone

/-- CANCEL (R623): before COMMIT the staging is discarded. -/
def doFwCancel (s : State) : State :=
  if s.fwServed && decide (s.sec.path = some .bar0) && decide (s.sec.busy ≠ .committing) then s.fwEnd.setBit Reg.secFwStatus 2 false else s
/-- The meaning of CANCEL. -/
def execFwCancel (s : State) : Res := guarded Instr.fwCancel.wf s doFwCancel

/-- RECOVER (R619, R639): recovery is requested for the next module reset. -/
def doFwRecover (key : Nat) (s : State) : State :=
  if s.fwServed && decide (key = 0xA5) then { s with sec := { s.sec with recoverReq := true } } else s
/-- The meaning of RECOVER. -/
def execFwRecover (key : Nat) (s : State) : Res := guarded (Instr.fwRecover key).wf s (doFwRecover key)

/-! ### Ownership -/

/-- SEC_OWNER_CTRL is served and idle. -/
def State.ownerServed (s : State) : Bool := s.barsOpen 0 && !s.recovery && decide (1 ≤ s.stage) && s.sec.owner.isNone

/-- An image is in force, or a load runs (R624). -/
def State.imagePresent (s : State) : Bool := s.image.isSome || decide (s.loader.stage ≠ .idle)

/-- A request ends in FAILED with an ERROR (R624, R625). -/
def State.ownerFail (s : State) (code : Nat) : State :=
  ((s.setBit Reg.secOwnerStatus 3 false).setBit Reg.secOwnerStatus 4 true).setFld Reg.secOwnerStatus 11 8 code

/-- A change begins to be made durable (R624). -/
def State.ownerStart (s : State) (action : Nat) (hash : Digest) : State :=
  ((({ s with sec := { s.sec with owner := some ⟨action, hash⟩ } }.setBit Reg.secOwnerStatus 2 true).setBit Reg.secOwnerStatus 3 false).setBit
    Reg.secOwnerStatus 4 false).setFld Reg.secOwnerStatus 11 8 0

/-- SEC_OWNER_HASH0–7 as a hash: register 0 holds bytes 0–3, byte 0 in [7:0]. -/
def State.ownerRegs (s : State) : Digest :=
  BitVec.ofNat 256 (beNat ((List.range 8).flatMap (fun i => leBytes 4 (s.nat (Reg.secOwnerHash i)))))

/-- The nonce of R625. -/
def State.nonce (s : State) : BitVec 128 := Config.nonce s.sec.nonceNo

/-- SEC_NONCE0–3: the little-endian words of the nonce's 16 bytes. -/
def State.nonceWord (s : State) (i : Nat) : Word := BitVec.ofNat 32 (s.nonce.toNat / 2 ^ (32 * (i % 4)))

/-- A new nonce is drawn. -/
def State.newNonce (s : State) : State := { s with sec := { s.sec with nonceNo := s.sec.nonceNo + 1 } }

/-- A transfer record is accepted (R625). -/
def State.recordOk (s : State) (r : List Byte) : Bool :=
  decide (keyHash (r.drop 0x40) = s.nvm.ownerHash) && decide (lsub r 0x20 16 = s.nonce.toNat) && decide (lsub r 0x30 8 = s.serial) &&
  pssVerify (lslice r 0x40 384) 65537 (r.take 64) (lslice r 0x200 384)

/-- NEW_HASH of a record. -/
def recordHash (r : List Byte) : Digest := BitVec.ofNat 256 (beNat (r.take 32))

/-- ENROLL (R624); of several errors, log entry 53 names the order. -/
def doOwnerEnroll (s : State) : State :=
  if !s.ownerServed then s
  else if s.imagePresent then s.ownerFail 1
  else if s.fuses.ownerLocked then s.ownerFail 5
  else if s.nvm.ownerHash ≠ 0 then s.ownerFail 3
  else if s.ownerRegs = 0 then s.ownerFail 2
  else s.ownerStart 1 s.ownerRegs
/-- The meaning of ENROLL. -/
def execOwnerEnroll (s : State) : Res := guarded Instr.ownerEnroll.wf s doOwnerEnroll

/-- TRANSFER (R624, R625): the record is read from host memory; a new nonce is drawn in every case. -/
def doOwnerTransfer (env : Env) (s : State) : State :=
  let s := s.arrive env
  if !s.ownerServed then s
  else if s.imagePresent then (s.ownerFail 1).newNonce
  else if s.fuses.ownerLocked then (s.ownerFail 5).newNonce
  else
    let a := s.nat Reg.secXferAddrLo + 2 ^ 32 * s.fld Reg.secXferAddrHi 15 0
    if !isHost a || decide (2 ^ 44 < addrIova a + 896) || !s.hostMapped (addrIova a) 896 || !s.hostClean (addrIova a) 896 then
      (s.ownerFail 6).newNonce
    else
      let r := s.host.mem.read (addrIova a) 896
      if s.recordOk r then (s.ownerStart 2 (recordHash r)).newNonce else (s.ownerFail 4).newNonce
/-- The meaning of TRANSFER. -/
def execOwnerTransfer (env : Env) (s : State) : Res := guarded (Instr.ownerTransfer env).wf s (doOwnerTransfer env)

/-- LOCK (R624). -/
def doOwnerLock (key : Nat) (s : State) : State :=
  if !s.ownerServed || decide (key ≠ 0xA5) then s
  else if s.imagePresent then s.ownerFail 1
  else if s.nvm.ownerHash = 0 then s.ownerFail 7
  else s.ownerStart 3 s.nvm.ownerHash
/-- The meaning of LOCK. -/
def execOwnerLock (key : Nat) (s : State) : Res := guarded (Instr.ownerLock key).wf s (doOwnerLock key)

/-- OWNER_DONE (R624): the change is durable, or NVM could not take it. -/
def doOwnerDone (ok : Bool) (s : State) : State :=
  match s.sec.owner with
  | none => s
  | some j =>
    let s := ({ s with sec := { s.sec with owner := none } }).setBit Reg.secOwnerStatus 2 false
    if !ok then s.ownerFail 6
    else
      let s : State := if j.action = 3 then { s with fuses := { s.fuses with ownerLocked := true } }
        else { s with nvm := { s.nvm with ownerHash := j.hash } }
      let s := s.showOwner.setBit Reg.secOwnerStatus 3 true
      s.event 0x0103 Src.module none (dataOf [(0, j.action), (8, leNat ((digestBytes j.hash).take 8))])
/-- The meaning of OWNER_DONE. -/
def execOwnerDone (ok : Bool) (s : State) : Res := guarded (Instr.ownerDone ok).wf s (doOwnerDone ok)

end Sys2Proof.Machine
end

