-- ==== Sys2Proof/Machine/ImgForm.lean ====
section
/-! DEFINITION. The form of a Fiward image (R51–R89): header, section table, the records of each section with their field rules
(phases 2, 3 and 10 of R92), template and microprogram bodies (R196, R344), and the records read. -/
namespace Sys2Proof.Machine

/-! ### Verdicts -/

/-- Failure codes (R105). -/
abbrev Ie.length : Nat := 0x01
/-- IE_MAGIC. -/
abbrev Ie.magic : Nat := 0x02
/-- IE_VERSION. -/
abbrev Ie.version : Nat := 0x03
/-- IE_TABLE. -/
abbrev Ie.table : Nat := 0x04
/-- IE_NO_OWNER. -/
abbrev Ie.noOwner : Nat := 0x05
/-- IE_KEY. -/
abbrev Ie.key : Nat := 0x06
/-- IE_SIGNATURE. -/
abbrev Ie.signature : Nat := 0x07
/-- IE_SERIAL. -/
abbrev Ie.serial : Nat := 0x08
/-- IE_VARIANT. -/
abbrev Ie.variant : Nat := 0x09
/-- IE_UNITS. -/
abbrev Ie.units : Nat := 0x0A
/-- IE_PARTIAL_BASE. -/
abbrev Ie.partialBase : Nat := 0x0B
/-- IE_PARTIAL_SCOPE. -/
abbrev Ie.partialScope : Nat := 0x0C
/-- IE_SECTION. -/
abbrev Ie.section : Nat := 0x0D
/-- IE_CLUSTER. -/
abbrev Ie.cluster : Nat := 0x0E
/-- IE_SEAM. -/
abbrev Ie.seam : Nat := 0x0F
/-- IE_GRANT. -/
abbrev Ie.grant : Nat := 0x10
/-- IE_LIMIT. -/
abbrev Ie.limit : Nat := 0x11
/-- IE_MEMBER. -/
abbrev Ie.member : Nat := 0x12
/-- IE_NOT_QUIESCED. -/
abbrev Ie.notQuiesced : Nat := 0x13
/-- IE_MEMORY. -/
abbrev Ie.memory : Nat := 0x14
/-- IE_ABORTED. -/
abbrev Ie.aborted : Nat := 0x15

/-- A failure: phase, code, and the section table index or 0xFF (R104). -/
structure Bad where
  phase : Nat
  code : Nat
  sect : Nat
  deriving DecidableEq, Repr

/-- A check that may fail; the first failure decides (R92). -/
abbrev Chk := Except Bad

/-- A condition that must hold. -/
def Chk.need (ok : Bool) (phase code sect : Nat) : Chk Unit := if ok then .ok () else .error ⟨phase, code, sect⟩

/-- A condition on every item of a list of records, each with its section; the first that breaks it decides. -/
def Chk.each {α : Type} (phase code : Nat) (ok : α → Bool) (l : List (Nat × α)) : Chk Unit :=
  match l.find? (fun x => !ok x.2) with
  | some x => .error ⟨phase, code, x.1⟩
  | none => .ok ()

/-! ### Header and section table (R54, R55) -/

/-- The bytes from `off` to before `stop` are 0. -/
def zeroes (b : List Byte) (off stop : Nat) : Bool := allZero (lslice b off (stop - off))

/-- IMAGE_LENGTH. -/
def ihLength (b : List Byte) : Nat := lsub b 8 4
/-- FLAGS.PARTIAL. -/
def ihPartial (b : List Byte) : Bool := (lsub b 0x10 4).testBit 0
/-- FLAGS.GROUP. -/
def ihGroup (b : List Byte) : Bool := (lsub b 0x10 4).testBit 1
/-- REQ_UNITS. -/
def ihUnits (b : List Byte) : Nat := lsub b 0x14 4
/-- TARGETS. -/
def ihTargets (b : List Byte) : Nat := lsub b 0x18 4
/-- SERIAL. -/
def ihSerial (b : List Byte) : Nat := lsub b 0x1C 4
/-- SECTION_COUNT. -/
def ihCount (b : List Byte) : Nat := lsub b 0x20 2
/-- PARTIAL_POLDERS. -/
def ihPolders (b : List Byte) : Nat := lsub b 0x28 4
/-- BASE_DIGEST. -/
def ihBase (b : List Byte) : Digest := BitVec.ofNat 256 (beNat (lslice b 0x40 32))

/-- One section table entry, with its index. -/
structure Section where
  index : Nat
  typ : Nat
  member : Nat
  flags : Nat
  resv : Nat
  off : Nat
  len : Nat
  count : Nat
  deriving DecidableEq, Repr

/-- The section table. -/
def sectionsOfImage (b : List Byte) : List Section :=
  (List.range (ihCount b)).map (fun i =>
    let o := 0x100 + 16 * i
    ⟨i, lbyte b o, lbyte b (o + 1), lbyte b (o + 2), lbyte b (o + 3), lsub b (o + 4) 4, lsub b (o + 8) 4, lsub b (o + 12) 4⟩)

/-- The section's type is one of R56. -/
def Section.known (s : Section) : Bool := decide (1 ≤ s.typ) && decide (s.typ ≤ 13)

/-- Bytes of a record (R56); 0 where the section holds entries. -/
def recordSize (typ : Nat) : Nat :=
  if typ = 1 || typ = 0x0C then 64 else if typ = 2 || typ = 5 then 16 else if typ = 3 || typ = 4 then 48
  else if typ = 8 || typ = 9 || typ = 0x0B then 32 else if typ = 0x0A then 144 else if typ = 0x0D then 8 else 0

/-- Phase 1 (R53). -/
def checkLength (b : List Byte) (supplied : Nat) : Chk Unit :=
  Chk.need (decide (supplied % 16 = 0) && decide (1536 ≤ supplied) && decide (supplied ≤ 0x4000000) && decide (ihLength b = supplied)) 1 Ie.length 0xFF

/-- Phase 2. -/
def checkHeader (b : List Byte) : Chk Unit := do
  Chk.need (lslice b 0 4 = [0x46, 0x49, 0x57, 0x44]) 2 Ie.magic 0xFF
  Chk.need (lsub b 6 2 = 1) 2 Ie.version 0xFF
  Chk.need (decide (lsub b 0x0C 4 = 256) && decide (lsub b 0x24 4 = 0x100) && decide (lsub b 0x10 4 < 4) && decide (ihUnits b < 64) &&
    decide (ihTargets b < 8) && zeroes b 0x22 0x24 && zeroes b 0x2C 0x40 && zeroes b 0x60 0x100) 2 Ie.table 0xFF

/-- The bounds of a body (R55, R57), with the end of the table and SIGNED_LENGTH. -/
def Section.boundsOk (s : Section) (ends signed : Nat) : Bool :=
  decide (s.len ≠ 0) && decide (ends ≤ s.off) && decide (s.off + s.len ≤ signed)

/-- TYPE, and the fields that R92 puts at no place of its own (R55–R57): they are checked with it (log entry 66). -/
def Section.typeOk (s : Section) : Bool :=
  (decide (s.member = 0xFF) || decide (s.member ≤ 15)) && decide (s.flags ≤ 1) && decide (s.resv = 0) && (s.known || decide (s.flags = 1)) &&
  (recordSize s.typ = 0 || !s.known || decide (s.len = s.count * recordSize s.typ))

/-- Phase 3, the count: the table ends below SIGNED_LENGTH. -/
def checkCount (b : List Byte) : Chk Unit :=
  Chk.need (decide (1 ≤ ihCount b) && decide (ihCount b ≤ 64) && decide (0x100 + 16 * ihCount b ≤ ihLength b - 1024)) 3 Ie.table 0xFF

/-- Phase 3 in R92's order, each check over the whole table before the next: count, alignment, bounds, overlap, types. The failing entry
of an overlap is the later of the two (log entry 66). -/
def checkTable (b : List Byte) : Chk Unit := do
  checkCount b
  let ss := sectionsOfImage b
  let each := fun (ok : Section → Bool) => Chk.each 3 Ie.table ok (ss.map (fun s => (s.index, s)))
  each (fun s => decide (s.off % 64 = 0))
  each (fun s => s.boundsOk (0x100 + 16 * ihCount b) (ihLength b - 1024))
  each (fun s => (ss.take s.index).all (fun t => !overlap s.off s.len t.off t.len))
  each Section.typeOk

/-! ### Records (R61–R87) -/

/-- The fixed-size records of one type among some sections, each with its section index. -/
def recordsOf (b : List Byte) (ss : List Section) (typ : Nat) : List (Nat × List Byte) :=
  (ss.filter (fun s => s.typ == typ)).flatMap (fun s =>
    (List.range s.count).map (fun i => (s.index, lslice b (s.off + i * recordSize typ) (recordSize typ))))

/-- POLDERS (R61). -/
def polderForm (r : List Byte) : Bool :=
  decide (lbyte r 0 ≤ 31) && decide (lbyte r 1 ≤ 1) && zeroes r 2 4 && decide (lsub r 4 4 ≠ 0) && zeroes r 0x28 0x40
/-- COUNTERS (R65). -/
def counterForm (r : List Byte) : Bool :=
  decide (lbyte r 0 ≤ 31) && (decide (lbyte r 1 ≤ 31) || decide (lbyte r 1 = 0xFF)) && zeroes r 2 4 && decide (lsub r 8 4 ≠ 0) &&
  decide (lsub r 8 4 % 64 = 0) && zeroes r 12 16
/-- MCAST (R67). -/
def treeForm (r : List Byte) : Bool :=
  decide (lbyte r 1 ≤ 31) && decide (lbyte r 3 ≤ 1) && (decide (lbyte r 3 = 0) || decide (lbyte r 2 = 0)) && zeroes r 4 16
/-- GRANTS (R69). -/
def grantForm (r : List Byte) : Bool :=
  decide (lbyte r 0 ≤ 31) && decide (lbyte r 1 ≤ 15) && decide (lbyte r 2 ≤ 3) && decide (lbyte r 3 = 0) && decide (lsub r 4 4 % 0x200000 = 0) &&
  decide (lsub r 8 4 ≠ 0) && decide (lsub r 8 4 % 0x200000 = 0) && zeroes r 12 16

/-- An FP32 field as a value. -/
def fpField (r : List Byte) (off : Nat) : Num := ruleNum (lsub r off 4)
/-- It is greater than 0. -/
def fpPos (r : List Byte) (off : Nat) : Bool := let x := fpField r off; x.isFin && !x.isZero && !x.neg?
/-- It is a number. -/
def fpFin (r : List Byte) (off : Nat) : Bool := (fpField r off).isFin

/-- FORMATS (R72, R74). -/
def formatForm (r : List Byte) : Bool :=
  decide (lbyte r 0 ≤ 31) && decide (6 ≤ lbyte r 1) && decide (lbyte r 1 ≤ 12) && zeroes r 2 4 && decide (2 ^ 11 ≤ lsub r 4 4) &&
  decide (lsub r 4 4 < 2 ^ 12) && fpPos r 8 && zeroes r 12 16

/-- RULES (R77, R78, R414, R415). -/
def ruleForm (r : List Byte) : Bool :=
  let pre := lbyte r 1
  let b1 := fpField r 0x0C
  decide (lbyte r 0 ≤ 15) && decide (pre ≤ 4) && decide (lbyte r 2 ≤ 2) && decide (lbyte r 3 ≤ 1) && zeroes r 0x1C 0x20 &&
  [0x04, 0x08, 0x0C, 0x10, 0x14, 0x18].all (fpFin r) &&
  Num.le .zero b1 && Num.lt b1 (.fin false 1 0) && Num.le .zero (fpField r 0x14) &&
  (if lbyte r 2 = 2 then fpPos r 0x18 else decide (lsub r 0x18 4 = 0)) &&
  (pre = 0 || (zeroes r 2 0x0C && zeroes r 0x10 0x14 && (if pre = 1 then b1.isZero else !b1.isZero) &&
    (decide (3 ≤ pre) || (fpField r 0x14).isZero)))

/-- ATTN (R79). -/
def attnForm (r : List Byte) : Bool :=
  decide (lbyte r 0 ≤ 31) && (decide (lbyte r 1 = 0) || (decide (10 ≤ lbyte r 1) && decide (lbyte r 1 ≤ 22))) && decide (lsub r 2 2 ≤ 2048) &&
  decide (lsub r 0x0C 4 ≤ 2 ^ 24) && decide (16 ≤ lsub r 0x10 2) && decide (lsub r 0x10 2 ≤ 256) && decide (lsub r 0x10 2 % 16 = 0) && zeroes r 0x12 0x20
/-- LOCAL (R81). -/
def localForm (r : List Byte) : Bool := decide (lsub r 0 2 < 4096) && zeroes r 5 16
/-- PEERS (R82), with R83's bound on its endpoints, a field range of the record (log entry 22). -/
def peerForm (r : List Byte) : Bool :=
  decide (lbyte r 0 ≤ 31) && decide (lbyte r 1 ≤ 15) && decide (lbyte r 4 ≠ 0) && zeroes r 5 8 && decide (lsub r 0x0A 2 ≠ 0) &&
  decide (lsub r 8 2 + lsub r 0x0A 2 ≤ 4096) && zeroes r 12 16
/-- CASCADE (R84). -/
def cascadeForm (r : List Byte) : Bool :=
  let n := lbyte r 2
  decide (1 ≤ n) && decide (n ≤ 16) && decide (lbyte r 3 < n) && (List.range n).all (fun m => decide (lsub r 4 4 / 4 ^ m % 4 ≠ 3)) &&
  decide (10 ≤ lsub r 8 4) && decide (lsub r 8 4 ≤ 60000) && zeroes r 12 16 && zeroes r (0x10 + 2 * n) 0x40
/-- POWER (R87). -/
def powerForm (r : List Byte) : Bool :=
  decide (lbyte r 0 ≤ 31) && decide (lbyte r 1 = 0) && decide (1 ≤ lsub r 2 2) && decide (lsub r 2 2 ≤ 1024) && zeroes r 4 8

/-- The field rules of a record of a type. -/
def recordForm (typ : Nat) (r : List Byte) : Bool :=
  if typ = 1 then polderForm r else if typ = 2 then counterForm r else if typ = 3 then treeForm r else if typ = 4 then grantForm r
  else if typ = 5 then formatForm r else if typ = 8 then ruleForm r else if typ = 9 then attnForm r else if typ = 0x0A then localForm r
  else if typ = 0x0B then peerForm r else if typ = 0x0C then cascadeForm r else powerForm r

/-- The polder that a record names, and 0xFF for the device counters (R89). -/
def recordPolder (typ : Nat) (r : List Byte) : Nat := if typ = 2 || typ = 3 then lbyte r 1 else lbyte r 0

/-! ### Template and microprogram bodies (R75, R76) -/

/-- Codes of the dimensions of a kind (R194), and a layout triple (R199). -/
def layoutOk (kind a b d : Nat) : Bool :=
  if kind = 1 then decide (a ≤ 1) && decide (b ≤ 1) && decide (d ≤ 1)
  else if kind = 2 then decide (a = 2) && decide (b = 3) && decide (d = 2)
  else decide (a = 0) && decide (b = 0) && decide (d = 0)

/-- Numbers that do not decrease. -/
def rising : List Nat → Bool
  | a :: b :: l => decide (a ≤ b) && rising (b :: l)
  | _ => true

/-- The loops of a GEMM or CONV (R196): one or more STREAM entries on the reduction dimensions and only there, and at the end one ROWS
and one COLS entry. -/
def loopsOk (t : Tmpl) : Bool :=
  let n := t.loops.length
  let head := t.loops.take (n - 2)
  let tail := t.loops.drop (n - 2)
  let rows := tail.filter (fun e => e.place == 4)
  let cols := tail.filter (fun e => e.place == 5)
  decide (3 ≤ n) && rising (head.map (fun e => e.place)) && head.all (fun e => decide (e.place ≤ 3)) && head.any (fun e => e.place == 3) &&
  decide (rows.length = 1) && decide (cols.length = 1) &&
  t.loops.all (fun e => isReduction e.dim == (e.place == 3)) &&
  rows.all (fun e => decide (1 ≤ e.tile) && decide (e.tile ≤ 128) && (if t.kind = 1 then decide (e.dim = 0) else [3, 4, 5].contains e.dim)) &&
  cols.all (fun e => decide (1 ≤ e.tile) && decide (e.tile ≤ 192) && (if t.kind = 1 then decide (e.dim = 1) else decide (e.dim = 7))) &&
  (!t.xflags.testBit 1 || (decide (t.kind = 2) && rows.all (fun e => decide (e.dim = 5)) &&
    (match (t.loops.filter (fun e => e.place == 3)).getLast? with
     | some e => decide (e.dim = 9)
     | none => false)))

/-- A template body passes R196 and R262. -/
def templateOk (b : List Byte) : Bool :=
  let t := parseTmpl b
  let n := lbyte b 1
  decide (1 ≤ t.kind) && decide (t.kind ≤ 3) && decide (1 ≤ n) && decide (n ≤ 8) && decide (32 + 16 * n ≤ b.length) && allZero (b.drop (32 + 16 * n)) &&
  decide (lbyte b 7 = 0) && zeroes b 11 32 && decide (t.xflags ≤ 3) &&
  (List.range n).all (fun i => zeroes b (34 + 16 * i) (36 + 16 * i) && zeroes b (40 + 16 * i) (48 + 16 * i)) &&
  t.loops.all (fun e => (kindDims t.kind).contains e.dim) && layoutOk t.kind t.lay0 t.lay1 t.layD &&
  (t.xflags.testBit 0 == decide (t.tree ≠ 0xFFFF)) &&
  (if t.kind = 3 then decide (t.vop ≤ 11) && decide (t.xflags = 0) && decide (t.tree = 0xFFFF) && rising (t.loops.map (fun e => e.place)) &&
      t.loops.all (fun e => decide (e.place ≤ 2))
   else decide (t.vop = 0) && loopsOk t)

/-- The operations of a micro-op (R341). -/
def microOps : List Nat := [0, 1, 2, 8, 9, 10, 11, 12, 13, 14, 15, 16, 17, 24, 32, 33, 34, 40, 41, 42, 43]

/-- Bytes of a group of a micro-op's format (R342). -/
def groupBytes (f : Nat) : Nat := if f = 0 then 64 else if f = 1 then 32 else if f = 4 then 2 else 16

/-- One micro-op of a program of `n` passes R344; LSET and LOOP name a counter of [40:39]. -/
def microOk (n w : Nat) : Bool :=
  let op := bits w 63 58
  let cnt := bits w 45 42
  let jump := op = 41 || op = 42 || op = 43
  microOps.contains op && !w.testBit 32 && decide (bits w 38 36 ≤ 4) &&
  decide (bits w 57 54 + cnt ≤ 15) && decide (bits w 53 50 + cnt ≤ 15) && (w.testBit 33 || decide (bits w 49 46 + cnt ≤ 15)) &&
  ((op ≠ 1 && op ≠ 2) || decide ((cnt + 1) * groupBytes (bits w 38 36) ≤ 512)) && (op ≠ 2 || w.testBit 35) &&
  (!w.testBit 33 || op = 8 || op = 9 || op = 10 || op = 11) && ((op ≠ 15 && op ≠ 16 && op ≠ 17) || decide (cnt ≤ 3)) &&
  (!jump || (decide (bits w 31 9 = 0) && decide (bits w 8 0 < n))) && ((op ≠ 40 && op ≠ 41) || !w.testBit 41) &&
  (!w.testBit 34 || !(op = 0 || jump))

/-- LINK of two consecutive micro-ops is never followed by a third. -/
def linksOk : List Nat → Bool
  | a :: b :: c :: l => !(a.testBit 34 && b.testBit 34 && c.testBit 34) && linksOk (b :: c :: l)
  | _ => true

/-- A program body passes R344. -/
def programOk (b : List Byte) : Bool :=
  let ws := (chunks 8 b).map leNat
  ws.all (microOk ws.length) && linksOk ws &&
  (match ws.getLast? with
   | some w => bits w 63 58 = 0 || bits w 63 58 = 43
   | none => false)

/-- The entries of a TEMPLATES or NBU_CODE section (R75): none where the section's form breaks. `n` is how many are still to come. -/
def entriesOf (typ : Nat) : Nat → List Byte → Option (List BodyRec)
  | 0, b => if b.isEmpty then some [] else none
  | n + 1, b =>
    let len := lsub b 4 4
    let span := 16 + roundUp len 16
    let numOk := if typ = 6 then decide (lsub b 0 2 ≤ 1023) && decide (64 ≤ len) && decide (len ≤ 16384) && decide (len % 16 = 0)
      else decide (lsub b 0 2 ≤ 255) && decide (8 ≤ len) && decide (len ≤ 4096) && decide (len % 8 = 0)
    if decide (span ≤ b.length) && numOk && zeroes b 2 4 && zeroes b 8 16 && zeroes b (16 + len) span then
      (entriesOf typ n (b.drop span)).map (fun l => ⟨lsub b 0 2, lslice b 16 len⟩ :: l)
    else none

/-- The entries of a section. -/
def Section.entries (s : Section) (b : List Byte) : Option (List BodyRec) := entriesOf s.typ s.count (lslice b s.off s.len)

/-- The entries of every section of a type. -/
def bodiesOf (b : List Byte) (ss : List Section) (typ : Nat) : List (Nat × BodyRec) :=
  (ss.filter (fun s => s.typ == typ)).flatMap (fun s => ((s.entries b).getD []).map (fun e => (s.index, e)))

/-! ### Phase 10 -/

/-- A section's records: field ranges, reserved bytes and bodies (R52, R75, R76, R83). `before` are the sections already checked. R92 does
not say where in the table order a total falls: here every body of an NBU_CODE section is checked before the 64 KiB of R75 are (log
entry 66). -/
def checkSection (b : List Byte) (before : List Section) (s : Section) : Chk Unit :=
  if s.typ = 6 || s.typ = 7 then
    match s.entries b with
    | none => .error ⟨10, Ie.section, s.index⟩
    | some es => do
      let old := bodiesOf b before s.typ
      Chk.need (es.all (fun e => if s.typ = 6 then templateOk e.body else programOk e.body) &&
        !hasDup (old.map (fun x => x.2.num) ++ es.map (fun e => e.num))) 10 Ie.section s.index
      Chk.need (decide (s.typ = 6) || decide ((old.map (fun x => x.2) ++ es).foldl (fun a e => a + e.body.length) 0 ≤ 65536)) 10 Ie.limit s.index
  else do
    let rs := recordsOf b [s] s.typ
    let old := recordsOf b before s.typ
    Chk.need (rs.all (fun x => recordForm s.typ x.2)) 10 Ie.section s.index
    Chk.need ((s.typ ≠ 8 || !hasDup ((old ++ rs).map (fun x => lbyte x.2 0))) && (s.typ ≠ 0x0A || decide ((old ++ rs).length ≤ 1))) 10 Ie.section s.index

/-- Every applied section in table order. -/
def checkSections (b : List Byte) : List Section → List Section → Chk Unit
  | _, [] => .ok ()
  | before, s :: rest => do
    checkSection b before s
    checkSections b (before ++ [s]) rest

/-! ### Records read -/

/-- POLDERS. -/
def readPolder (r : List Byte) : PolderRec := ⟨lbyte r 0, (lbyte r 1).testBit 0, lsub r 4 4, lsub r 8 32⟩
/-- COUNTERS, not yet placed. -/
def readCounter (r : List Byte) : CounterRec := ⟨lbyte r 0, lbyte r 1, lsub r 4 4, lsub r 8 4, 0⟩
/-- MCAST. -/
def readTree (r : List Byte) : TreeRec := ⟨lbyte r 0, lbyte r 1, lbyte r 2, (lbyte r 3).testBit 0, lsub r 16 32⟩
/-- GRANTS. -/
def readGrant (r : List Byte) : GrantRec := ⟨lbyte r 0, lbyte r 1, lbyte r 2, lsub r 4 4, lsub r 8 4, lsub r 16 32⟩
/-- FORMATS. -/
def readFormat (r : List Byte) : FormatRec := ⟨lbyte r 0, lbyte r 1, lsub r 4 4, lsub r 8 4⟩
/-- ATTN. -/
def readAttn (r : List Byte) : AttnRec := ⟨lbyte r 0, lbyte r 1, lsub r 2 2, lsub r 4 4, lsub r 8 4, lsub r 12 4, lsub r 16 2⟩
/-- LOCAL. -/
def readLocal (r : List Byte) : LocalRec :=
  ⟨lsub r 0 2 % 4096, lsub r 2 2, lbyte r 4, (List.range 8).map (fun i => beNat (lslice r (16 + 16 * i) 16))⟩
/-- PEERS. -/
def readPeer (r : List Byte) : PeerRec :=
  ⟨lbyte r 0, lbyte r 1, lsub r 2 2 % 4096, lbyte r 4, lsub r 8 2, lsub r 10 2, beNat (lslice r 16 16)⟩
/-- CASCADE. -/
def readCascade (r : List Byte) : CascadeRec :=
  ⟨lsub r 0 2, lbyte r 2, lbyte r 3, lsub r 4 4, lsub r 8 4, (List.range 16).map (fun m => lsub r (16 + 2 * m) 2 % 4096)⟩
/-- POWER. -/
def readPower (r : List Byte) : PowerRec := ⟨lbyte r 0, lsub r 2 2⟩

/-- RULES, with a preset's fields filled in (R78, R414). -/
def readRule (r : List Byte) : RuleRec :=
  let pre := lbyte r 1
  let b1 := lsub r 0x0C 4
  let rest := ((Num.fin false 1 0).fsub (ruleNum b1)).bits32.toNat
  if pre = 0 then
    ⟨lbyte r 0, 0, lbyte r 2, (lbyte r 3).testBit 0, lsub r 4 4, lsub r 8 4, b1, lsub r 16 4, lsub r 20 4, lsub r 24 4⟩
  else if pre = 1 then ⟨lbyte r 0, 1, 0, false, 0, 0x3F800000, b1, 0, lsub r 20 4, 0⟩
  else ⟨lbyte r 0, pre, if pre = 4 then 1 else 0, decide (pre = 4), b1, rest, b1, rest, lsub r 20 4, 0⟩

/-- The records of a type, read. -/
def readAll {α : Type} (b : List Byte) (ss : List Section) (typ : Nat) (f : List Byte → α) : List (Nat × α) :=
  (recordsOf b ss typ).map (fun x => (x.1, f x.2))

end Sys2Proof.Machine
end

