-- ==== Sys2Proof/Machine/ImgCheck.lean ====
section
/-! DEFINITION. The verdict on an image (R92): member selection, partial form and scope, the configuration that would result (R90, R91)
and the rules over it. -/
namespace Sys2Proof.Machine

/-- The configuration that a commit would install, each record with the index of the section it stands in; 0xFF marks one kept from the
image in force. -/
structure Draft where
  polders : List (Nat × PolderRec)
  counters : List (Nat × CounterRec)
  trees : List (Nat × TreeRec)
  grants : List (Nat × GrantRec)
  formats : List (Nat × FormatRec)
  attn : List (Nat × AttnRec)
  peers : List (Nat × PeerRec)
  power : List (Nat × PowerRec)
  /-- the counter records of the image, still to be placed -/
  newCounters : List (Nat × CounterRec)
  localRec : Option LocalRec
  deriving DecidableEq, Repr

/-- The applied sections (R86): those for every module and, in a group image, those for the member. -/
def appliedSections (b : List Byte) (member : Nat) : List Section :=
  (sectionsOfImage b).filter (fun s => s.known && (decide (s.member = 0xFF) || decide (s.member = member)))

/-- Records of the image in force that a commit keeps. -/
def kept {α : Type} (l : List α) (keep : α → Bool) : List (Nat × α) := (l.filter keep).map (fun x => (0xFF, x))

/-- The configuration that results (R90). -/
def draftOf (b : List Byte) (ss : List Section) (base : Option Image) : Draft :=
  let m := ihPolders b
  let old := fun {α : Type} (l : Image → List α) (p : α → Nat) =>
    if ihPartial b then kept ((base.map l).getD []) (fun x => decide (32 ≤ p x) || !m.testBit (p x)) else []
  { polders := old (fun im => im.polders) (fun r => r.num) ++ readAll b ss 1 readPolder
    counters := old (fun im => im.counters) (fun r => r.scope)
    trees := old (fun im => im.trees) (fun r => r.owner) ++ readAll b ss 3 readTree
    grants := old (fun im => im.grants) (fun r => r.polder) ++ readAll b ss 4 readGrant
    formats := old (fun im => im.formats) (fun r => r.polder) ++ readAll b ss 5 readFormat
    attn := old (fun im => im.attn) (fun r => r.polder) ++ readAll b ss 9 readAttn
    peers := old (fun im => im.peers) (fun r => r.polder) ++ readAll b ss 0x0B readPeer
    power := old (fun im => im.power) (fun r => r.polder) ++ readAll b ss 0x0D readPower
    newCounters := readAll b ss 2 readCounter
    localRec := if ihPartial b then base.bind (fun im => im.locals.head?) else ((readAll b ss 0x0A readLocal).head?).map (fun x => x.2) }

/-! ### Phases 8 and 9 -/

/-- Phase 8 (R85, R86). -/
def checkMember (b : List Byte) (strap : Nat) (base : Option Image) : Chk Unit :=
  let ss := sectionsOfImage b
  let bad := fun ok => Chk.need ok 8 Ie.member 0xFF
  if !ihGroup b then
    bad (ss.all (fun s => decide (s.member = 0xFF)) && (ihPartial b || ss.all (fun s => decide (s.typ ≠ 0x0C))))
  else if ihPartial b then
    match base.bind (fun im => im.cascade.head?) with
    | some g => bad (ss.all (fun s => decide (s.member = 0xFF) || decide (s.member < g.members)))
    | none => .ok ()
  else
    let cs := ss.filter (fun s => s.typ == 0x0C)
    match cs with
    | [c] =>
      let g := readCascade (lslice b c.off 64)
      let ls := readAll b (appliedSections b strap) 0x0A readLocal
      bad (decide (c.member = 0xFF) && decide (c.count = 1) && decide (strap < g.members) &&
        (match ls with
         | [l] => decide (l.2.device = g.devices.getD strap 0)
         | _ => false))
    | _ => bad false

/-- A section of a partial image keeps its scope (R89): polder-scope records that name a polder of PARTIAL_POLDERS. -/
def scopeOk (b : List Byte) (s : Section) : Bool :=
  !s.known || (recordSize s.typ ≠ 0 && !([8, 0x0A, 0x0C].contains s.typ) &&
    (recordsOf b [s] s.typ).all (fun r => decide (recordPolder s.typ r.2 < 32) && (ihPolders b).testBit (recordPolder s.typ r.2)))

/-- Phase 9 (R54, R85, R89, R90). -/
def checkPartial (b : List Byte) (base : Option Image) (digest : Digest) : Chk Unit := do
  Chk.need (if ihPartial b then decide (ihPolders b ≠ 0) else decide (ihPolders b = 0) && decide (ihBase b = 0)) 9 Ie.partialScope 0xFF
  if ihPartial b then do
    Chk.need (base.isSome && decide (ihBase b = digest)) 9 Ie.partialBase 0xFF
    Chk.need (decide (some (ihGroup b) = base.map (fun im => im.group)) && (sectionsOfImage b).all (scopeOk b)) 9 Ie.partialScope 0xFF
  else .ok ()

/-! ### Phase 11: polders and references -/

/-- Clusters of a set lie in one half (R63). -/
def oneHalf (clusters : Nat) : Bool := match bitsOf 32 clusters with
  | [] => true
  | c :: l => l.all (fun x => decide (x / 4 = c / 4))

/-- Core numbers of a set of clusters, as a mask. -/
def coresOf (clusters : Nat) : Nat := (bitsOf 32 clusters).foldl (fun a c => a + 255 * 2 ^ (8 * c)) 0

/-- No bit is set in two of the numbers. -/
def disjoint : List Nat → Bool
  | [] => true
  | a :: l => l.all (fun b => decide (a &&& b = 0)) && disjoint l

/-- Seams, then clusters and core masks (R62–R64, R90). `held` are the clusters held clock-stopped. R63 asks for at least one polder of a
full image; a partial that would leave none fails likewise (R91; log entry 67). -/
def checkPolders (d : Draft) (held : Nat → Bool) : Chk Unit := do
  Chk.each 11 Ie.seam (fun (r : PolderRec) => !r.seamFree || oneHalf r.clusters) (d.polders.map (fun x => (0xFF, x.2)))
  let ps := d.polders.map (fun x => x.2)
  Chk.need (!ps.isEmpty && !hasDup (ps.map (fun r => r.num)) && disjoint (ps.map (fun r => r.clusters)) &&
    ps.all (fun r => decide (r.coreMask ≠ 0) && decide (r.coreMask &&& coresOf r.clusters = r.coreMask) && (bitsOf 32 r.clusters).all (fun c => !held c)))
    11 Ie.cluster 0xFF

/-- A polder is defined. -/
def Draft.defines (d : Draft) (p : Nat) : Bool := d.polders.any (fun x => x.2.num == p)

/-- Records name defined polders, and each polder has its FORMATS and POWER record once and at most one ATTN record (R88). The types are
taken in the order in which R88 names them, which R92 does not fix (log entry 66). -/
def checkReferences (d : Draft) : Chk Unit := do
  Chk.each 11 Ie.section (fun (r : FormatRec) => d.defines r.polder) d.formats
  Chk.each 11 Ie.section (fun (r : GrantRec) => d.defines r.polder) d.grants
  Chk.each 11 Ie.section (fun (r : PowerRec) => d.defines r.polder) d.power
  Chk.each 11 Ie.section (fun (r : AttnRec) => d.defines r.polder) d.attn
  Chk.each 11 Ie.section (fun (r : TreeRec) => d.defines r.owner) d.trees
  Chk.each 11 Ie.section (fun (r : PeerRec) => d.defines r.polder) d.peers
  Chk.each 11 Ie.section (fun (r : CounterRec) => decide (r.scope = 0xFF) || d.defines r.scope) (d.counters ++ d.newCounters)
  Chk.each 11 Ie.section (fun (r : FormatRec) => decide ((d.formats.filter (fun f => f.2.polder == r.polder)).length = 1)) d.formats
  Chk.each 11 Ie.section (fun (r : PowerRec) => decide ((d.power.filter (fun f => f.2.polder == r.polder)).length = 1)) d.power
  Chk.each 11 Ie.section (fun (r : AttnRec) => decide ((d.attn.filter (fun f => f.2.polder == r.polder)).length = 1)) d.attn
  Chk.need (d.polders.all (fun x => d.formats.any (fun f => f.2.polder == x.2.num) && d.power.any (fun f => f.2.polder == x.2.num)))
    11 Ie.section 0xFF

/-! ### Phase 11: grants -/

/-- The first byte of the dossier area within a column of the area layer pair (R564); the shadow area follows it (R98). -/
abbrev areaStart : Nat := 0x2FE00000

/-- One grant (R70, R301, R365), with the area layer pair. -/
def grantOk (area : Nat) (g : GrantRec) : Bool :=
  decide (g.offset + g.length ≤ 0x30000000) &&
  !(decide (g.columns / 2 ^ (64 * area) % 2 ^ 64 ≠ 0) && overlap g.offset g.length areaStart 0x200000) &&
  (decide (g.mode ≠ 2) || (List.range 32).all (fun j => let c := g.columns / 256 ^ j % 256; decide (c = 0) || decide (c = 255))) &&
  (decide (g.mode ≠ 3) || (let n := popcount 256 g.columns; decide (2 ≤ n) && decide (2 ^ n.log2 = n))) &&
  (!g.access.testBit 3 || decide (g.mode = 0))

/-- Two grants meet in a column and in a range of offsets. -/
def grantsMeet (g h : GrantRec) : Bool := decide (g.columns &&& h.columns ≠ 0) && overlap g.offset g.length h.offset h.length

/-- Two grants reach a region of one column (R302). -/
def regionsMeet (g h : GrantRec) : Bool :=
  decide (g.columns &&& h.columns ≠ 0) && decide (g.offset / 0x2000000 ≤ (h.offset + h.length - 1) / 0x2000000) &&
  decide (h.offset / 0x2000000 ≤ (g.offset + g.length - 1) / 0x2000000)

/-- Two grants agree (R302). -/
def grantsAgree (g h : GrantRec) : Bool :=
  (!grantsMeet g h || (decide (g.mode = h.mode) && (decide (g.mode < 2) ||
    (decide (g.offset = h.offset) && decide (g.length = h.length) && decide (g.columns = h.columns))))) &&
  (!regionsMeet g h || decide (g.mode = 0) == decide (h.mode = 0))

/-- Every pair of a list. -/
def allPairs {α : Type} (ok : α → α → Bool) : List α → Bool
  | [] => true
  | a :: l => l.all (ok a) && allPairs ok l

/-- The grants of the configuration. -/
def checkGrants (d : Draft) (area : Nat) : Chk Unit :=
  let gs := d.grants.map (fun x => x.2)
  Chk.need (gs.all (grantOk area) && allPairs grantsAgree gs) 11 Ie.grant 0xFF

/-! ### Phase 11: counters -/

/-- The highest free place of a range in its cluster's counter area (R66). -/
def placeCounter (l : List CounterRec) (r : CounterRec) : Option Nat :=
  let mine := l.filter (fun x => x.cluster == r.cluster)
  let n := 4 * r.count
  ((0x1800000 :: mine.map (fun x => x.offset)).filterMap (fun e =>
    if decide (0x17F0000 + n ≤ e) && mine.all (fun x => !overlap (e - n) n x.offset (4 * x.count)) then some (e - n) else none)).max?

/-- The ranges of an image placed in table order. -/
def placeAll : List (Nat × CounterRec) → List (Nat × CounterRec) → Chk (List (Nat × CounterRec))
  | done, [] => .ok done
  | done, x :: rest => match placeCounter (done.map (fun y => y.2)) x.2 with
    | none => .error ⟨11, Ie.limit, x.1⟩
    | some o => placeAll (done ++ [(x.1, { x.2 with offset := o })]) rest

/-- Ranges of a scope cover 0 to N − 1 once: each starts at 0 or where another ends, and none meets another. -/
def counterCovered (l : List CounterRec) (r : CounterRec) : Bool :=
  let mine := l.filter (fun x => x.scope == r.scope)
  (decide (r.first = 0) || mine.any (fun x => x.first + x.count == r.first)) &&
  decide ((mine.filter (fun x => overlap r.first r.count x.first x.count)).length = 1)

/-- The counters of the configuration (R34, R66), placed. -/
def checkCounters (d : Draft) : Chk (List (Nat × CounterRec)) := do
  let l ← placeAll d.counters d.newCounters
  let rs := l.map (fun x => x.2)
  Chk.need (decide (rs.foldl (fun a r => a + r.count) 0 ≤ 65536)) 11 Ie.limit ((d.newCounters.getLast?.map (fun x => x.1)).getD 0xFF)
  Chk.each 11 Ie.section (fun (r : CounterRec) => counterCovered rs r && (decide (r.scope = 0xFF) ||
    d.polders.any (fun p => p.2.num == r.scope && p.2.clusters.testBit r.cluster))) l
  return l

/-! ### Phase 11: trees (R68, R275, R278) -/

/-- Numbers from `a` to `b`, whichever is larger. -/
def between (a b : Nat) : List Nat := (List.range (max a b - min a b + 1)).map (min a b + ·)

/-- Router of a position: layer, mesh column and row (R24). -/
def routerAt (layer x y : Nat) : Nat := 8 * layer + 2 * x + y

/-- The routers of the route between two clusters (R275), or from BD where there is no first. -/
def routeTo (src : Option Nat) (c : Nat) : List Nat :=
  let x := c % 8 / 2
  let y := c % 2
  match src with
  | none => (between 0 (c / 8)).map (fun l => routerAt l x y)
  | some a => (between (a % 8 / 2) x).map (fun i => routerAt (a / 8) i (a % 2)) ++ (between (a % 2) y).map (fun j => routerAt (a / 8) x j) ++
      (between (a / 8) (c / 8)).map (fun l => routerAt l x y)

/-- The routers that a tree passes through. -/
def TreeRec.routers (t : TreeRec) : List Nat :=
  ((bitsOf 256 t.dest).flatMap (fun n => routeTo (if t.bdRoot then none else some (t.source / 8)) (n / 8))).eraseDups

/-- A tree reaches only cores of its polder that take work (R68). -/
def Draft.treeInside (d : Draft) (t : TreeRec) : Bool :=
  let mask := ((d.polders.find? (fun x => x.2.num == t.owner)).map (fun x => x.2.coreMask)).getD 0
  decide (t.dest ≠ 0) && decide (t.dest &&& mask = t.dest) && (t.bdRoot || mask.testBit t.source)

/-- The trees of the configuration. -/
def checkTrees (d : Draft) : Chk Unit := do
  let ts := d.trees
  Chk.each 11 Ie.section (fun (x : Nat × TreeRec) => d.treeInside x.2 && ((ts.map (fun t => t.2.num)).filter (· == x.2.num)).length == 1)
    (ts.map (fun t => (t.1, t)))
  let all := ts.map (fun t => t.2.routers)
  Chk.need ((List.range 32).all (fun r => decide ((all.filter (fun l => l.contains r)).length ≤ 64))) 11 Ie.limit
    ((ts.getLast?.map (fun t => t.1)).getD 0xFF)

/-! ### Phase 11: totals and peers -/

/-- Totals across polders (R56, R80, R88). `pages` gives how many device pages a polder's KV grants hold. Where a sum over several sections
breaks its limit, the failing entry is the section of the last record (log entry 66). -/
def checkTotals (d : Draft) (pages : Nat → Nat) : Chk Unit := do
  Chk.need (decide (d.grants.length ≤ 1024)) 11 Ie.limit ((d.grants.getLast?.map (fun x => x.1)).getD 0xFF)
  Chk.each 11 Ie.limit (fun (p : Nat) => decide ((d.peers.filter (fun x => x.2.polder == p)).length ≤ 4096))
    (d.polders.map (fun x => (((d.peers.filter (fun y => y.2.polder == x.2.num)).getLast?.map (fun y => y.1)).getD 0xFF, x.2.num)))
  let last := (d.attn.getLast?.map (fun x => x.1)).getD 0xFF
  Chk.need (decide (d.attn.foldl (fun a x => a + x.2.maxReg) 0 ≤ 65536) && decide (d.attn.foldl (fun a x => a + x.2.maxActive) 0 ≤ 8192)) 11 Ie.limit last
  Chk.each 11 Ie.limit (fun (r : AttnRec) => let n := poolNeeds r; decide (n.1 + n.2.1 + n.2.2 ≤ pages r.polder)) d.attn
  Chk.need (decide (d.power.foldl (fun a x => a + x.2.share) 0 ≤ 1024)) 11 Ie.limit ((d.power.getLast?.map (fun x => x.1)).getD 0xFF)

/-- Peers (R83, R443). -/
def checkPeers (d : Draft) : Chk Unit :=
  let ps := d.peers.map (fun x => x.2)
  Chk.each 11 Ie.section (fun (r : PeerRec) =>
    let same := ps.filter (fun q => q.polder == r.polder && q.device == r.device)
    decide (d.localRec.map (fun l => l.device) ≠ some r.device) && decide (same.length ≤ 8) && !hasDup (same.map (fun q => q.addr)) &&
    same.all (fun q => q.rights == r.rights && q.epFirst == r.epFirst && q.epCount == r.epCount)) d.peers

/-! ### The verdict -/

/-- The image that a commit would install from a draft whose counters are placed (R60, R86). -/
def imageFrom (b : List Byte) (ss : List Section) (base : Option Image) (d : Draft) (ctrs : List (Nat × CounterRec)) (member : Nat) : Image :=
  let un := fun {α : Type} (l : List (Nat × α)) => l.map (fun x => x.2)
  let part := ihPartial b
  let old := fun {α : Type} (f : Image → List α) (new : List α) => if part then (base.map f).getD [] else new
  let own := digestOf (b.take (ihLength b - 1024))
  { polders := un d.polders, counters := un ctrs, trees := un d.trees, grants := un d.grants, formats := un d.formats
    templates := old (fun im => im.templates) (un (bodiesOf b ss 6)), nbuCode := old (fun im => im.nbuCode) (un (bodiesOf b ss 7))
    rules := old (fun im => im.rules) (un (readAll b ss 8 readRule)), attn := un d.attn
    locals := old (fun im => im.locals) (un (readAll b ss 0x0A readLocal)), peers := un d.peers
    cascade := old (fun im => im.cascade) (un (readAll b ss 0x0C readCascade)), power := un d.power
    group := ihGroup b, member := if ihGroup b then member else 0xFF
    digest := (match (if part then base else none) with
      | some im => digestOf (digestBytes im.digest ++ digestBytes own)
      | none => own)
    serial := ihSerial b }

/-- Device pages that a polder's KV grants would offer (R80, R365). -/
def State.draftPages (s : State) (d : Draft) (p : Nat) : Nat :=
  let im : Image := { s.image.getD ⟨[], [], [], [], [], [], [], [], [], [], [], [], [], false, 0, 0, 0⟩ with grants := d.grants.map (fun x => x.2) }
  ({ s with image := some im, mem := { s.mem with retired := s.nvm.retire } }.carvePages im p).length

/-- The polders that a commit would change or remove are stopped (phase 12, R95). -/
def State.allStopped (s : State) (mask : Nat) : Bool :=
  s.polders.all (fun p => !(mask = 0 || mask.testBit p) || decide (s.runState p = .stopped))

/-- Member under which the image's sections apply (R86). -/
def State.applyMember (s : State) (b : List Byte) : Nat :=
  if ihPartial b then s.fld Reg.imgMember 7 0 else s.fld Reg.idSideband 3 0

/-- Phase 4 on the trailer (R58, R59): the owner's key. -/
def State.checkOwner (s : State) (t : List Byte) : Chk Unit := do
  Chk.need (decide (s.nvm.ownerHash ≠ 0)) 4 Ie.noOwner 0xFF
  Chk.need (decide (beNat (lslice t 0x180 4) = 65537) && zeroes t 0x184 0x200 && zeroes t 0x380 0x400 && decide (digestOf (t.take 388) = s.nvm.ownerHash))
    4 Ie.key 0xFF

/-- Phases 1 to 12 on the whole bytes of the shadow area: the image to install, or the first failure (R92). -/
def State.verdict (s : State) (b : List Byte) (supplied : Nat) : Chk Image := do
  checkLength b supplied
  checkHeader b
  checkTable b
  let t := b.drop (ihLength b - 1024)
  s.checkOwner t
  Chk.need (pssVerify (t.take 384) 65537 (b.take (ihLength b - 1024)) (lslice t 0x200 384)) 5 Ie.signature 0xFF
  Chk.need (decide (s.durableVal Key.minImageSerial ≤ ihSerial b)) 6 Ie.serial 0xFF
  Chk.need ((ihTargets b).testBit (s.variant - 7)) 7 Ie.variant 0xFF
  Chk.need (decide (ihUnits b &&& s.nat Reg.capUnits = ihUnits b)) 7 Ie.units 0xFF
  checkMember b (s.fld Reg.idSideband 3 0) s.image
  checkPartial b s.image s.imageDigest
  let ss := appliedSections b (s.applyMember b)
  checkSections b [] ss
  let d := draftOf b ss s.image
  checkPolders d s.clusterHeld
  checkReferences d
  checkGrants d (s.fld Reg.idBoot 26 25)
  let ctrs ← checkCounters d
  checkTrees d
  checkTotals d (s.draftPages d)
  checkPeers d
  Chk.need (s.allStopped (ihPolders b)) 12 Ie.notQuiesced 0xFF
  return imageFrom b ss s.image d ctrs (s.applyMember b)

end Sys2Proof.Machine
end

