-- ==== Sys2Proof/Machine/ImgLoad.lean ====
section
/-! DEFINITION. Image loads (R94–R106): IMG_CTRL_GO, IMG_CTRL_ABORT, IMG_CTRL_SRC, IMG_PORT_WRITE, IMAGE_COPY_DONE,
IMAGE_VALIDATION_DONE and IMAGE_COMMIT. -/
namespace Sys2Proof.Machine

/-! ### The shadow area (R98) -/

/-- ID_BOOT.AREA_NONE (R614). -/
def State.areaNone (s : State) : Bool := s.bit Reg.idBoot 27
/-- ID_BOOT.AREA_PAIR. -/
def State.areaPair (s : State) : Nat := s.fld Reg.idBoot 26 25

/-- A range of the shadow area cut at its columns: offset from the range's start, byte of the area, length. -/
def shadowParts (pos n : Nat) : List (Nat × Nat × Nat) :=
  (List.range ((pos % 2 ^ 20 + n + 2 ^ 20 - 1) / 2 ^ 20)).map (fun i =>
    let a := max pos (pos / 2 ^ 20 * 2 ^ 20 + i * 2 ^ 20)
    (a - pos, a, min (pos + n) (a / 2 ^ 20 * 2 ^ 20 + 2 ^ 20) - a))

/-- Bytes read from a place of the shadow area; the flag says that a block was uncorrectable. -/
def State.shadowAt (s : State) (pos n : Nat) : List Byte × Bool × State :=
  (shadowParts pos n).foldl (fun (a : List Byte × Bool × State) x =>
    let r := a.2.2.physRead Req.bd (64 * s.areaPair + x.2.1 / 2 ^ 20) (0x2FF00000 + x.2.1 % 2 ^ 20) x.2.2
    (a.1 ++ r.1, a.2.1 || !r.2.1.isEmpty, r.2.2)) ([], false, s)

/-- Bytes read from the start of the shadow area. -/
def State.shadowRead (s : State) (n : Nat) : List Byte × Bool × State := s.shadowAt 0 n

/-- Bytes written into the shadow area. -/
def State.shadowWrite (s : State) (pos : Nat) (bs : List Byte) : State :=
  (shadowParts pos bs.length).foldl (fun (t : State) x =>
    (t.physWrite Req.bd (64 * s.areaPair + x.2.1 / 2 ^ 20) (0x2FF00000 + x.2.1 % 2 ^ 20) (lslice bs x.1 x.2.2)).2) s

/-! ### The loader -/

/-- SRC. -/
def State.imgSource (s : State) : Nat := s.fld Reg.imgCtrl 2 1
/-- IMG_LENGTH. -/
def State.imgLen (s : State) : Nat := s.nat Reg.imgLength
/-- IMG_SRC_ADDR. -/
def State.imgAddr (s : State) : Nat := s.nat Reg.imgSrcAddrLo + 2 ^ 32 * s.fld Reg.imgSrcAddrHi 15 0

/-- SRC is written (R100): a change resets the port position, which the end of a running load resets anyway, and with it the mark of
bytes written beyond IMG_LENGTH, which a load from a staging source does not heed (log entry 68). -/
def State.setSource (s : State) (src : Nat) : State :=
  if s.imgSource = src then s
  else
    let s := s.setFld Reg.imgCtrl 2 1 src
    if s.loader.stage = .idle then { s with loader := { s.loader with portPos := 0, portOver := false } } else s

/-- A stack-DRAM range meets the shadow area. -/
def State.meetsShadow (s : State) (a n : Nat) : Bool :=
  !s.areaNone && decide (addrCore a / 64 = s.areaPair) && overlap (addrOff a) n 0x2FF00000 0x100000

/-- The source passes the checks made at GO (R99, R103). -/
def State.sourceOk (s : State) (src : Nat) : Bool :=
  let a := s.imgAddr
  if src = 0 then true
  else if src = 1 then isHost a && rangeOk a s.imgLen
  else if src = 2 then decide (addrSpace a = 0) && rangeOk a s.imgLen && !s.meetsShadow a s.imgLen
  else false

/-- PHASE. -/
def State.setPhase (s : State) (p : Nat) : State := s.setFld Reg.imgStatus 11 8 p

/-- A load fails in a phase. -/
def State.failPhase (s : State) (b : Bad) : State := (s.setPhase b.phase).loadFail b.code b.sect

/-- The bytes of a staging source as they stand at GO (R98), from 0. -/
def State.sourceSnap (s : State) (a n : Nat) : Mem :=
  if isHost a then
    (s.host.mem.filter (fun e => decide (addrIova a ≤ e.1) && decide (e.1 < addrIova a + n))).map (fun e => (e.1 - addrIova a, e.2))
  else (pieces (addrOff a) n).foldl (fun (m : Mem) x =>
    m.write x.1 (s.mem.dram.read (dramKey (addrCore a) (s.cellOf (addrCore a) x.2.1)) x.2.2)) []

/-- An accepted GO (R98, R99, R102, R104). -/
def State.startLoad (s : State) (src : Nat) : State :=
  let s := s.setReg Reg.imgStatus ((s.reg Reg.imgStatus &&& 8) ||| 0xFF000001)
  if s.areaNone then s.failPhase ⟨0, Ie.memory, 0xFF⟩
  else if !s.sourceOk src then s.failPhase ⟨0, Ie.length, 0xFF⟩
  else
    let short := s.loader.portOver || decide (s.loader.portPos ≠ s.imgLen)
    let l := { s.loader with srcAddr := s.imgAddr, length := s.imgLen, portOver := decide (src = 0) && short }
    if src = 0 then { s.setPhase 1 with loader := { l with stage := .validating } }
    else { s with loader := { l with stage := .copying, snap := s.sourceSnap s.imgAddr (min s.imgLen 0x4000000) } }

/-- IMG_CTRL_GO (R99, R102): a load starts from a source, unless one runs. Host memory is read as it stands (log entry 68). -/
def doImgGo (src : Nat) (s : State) : State :=
  if !s.hostOpen then s
  else
    let s := s.setSource src
    if s.loader.stage = .idle then s.startLoad src else s
/-- IMG_CTRL_GO. -/
def execImgGo (src : Nat) (s : State) : Res := guarded (Instr.imgGo src).wf s (doImgGo src)

/-- IMG_CTRL_ABORT (R102). -/
def doImgAbort (s : State) : State :=
  if s.hostOpen && (decide (s.loader.stage = .copying) || decide (s.loader.stage = .validating)) then s.loadFail Ie.aborted 0xFF else s
/-- IMG_CTRL_ABORT. -/
def execImgAbort (s : State) : Res := guarded Instr.imgAbort.wf s doImgAbort

/-- IMG_CTRL_SRC (R100). -/
def doImgSrc (src : Nat) (s : State) : State := if s.hostOpen then s.setSource src else s
/-- IMG_CTRL_SRC. -/
def execImgSrc (src : Nat) (s : State) : Res := guarded (Instr.imgSrc src).wf s (doImgSrc src)

/-- IMG_PORT_WRITE (R100): what goes beyond IMG_LENGTH is discarded. -/
def doImgPortWrite (data : List Byte) (env : Env) (s : State) : State :=
  if !s.hostOpen || decide (s.loader.stage ≠ .idle) then s
  else
    let s := s.arrive env
    let room := min s.imgLen 0x4000000 - s.loader.portPos
    let bs := data.take room
    let s := if s.areaNone then s else s.shadowWrite s.loader.portPos bs
    { s with loader := { s.loader with portPos := s.loader.portPos + bs.length, portOver := s.loader.portOver || decide (room < data.length) } }
/-- IMG_PORT_WRITE. -/
def execImgPortWrite (data : List Byte) (env : Env) (s : State) : Res := guarded (Instr.imgPortWrite data env).wf s (doImgPortWrite data env)

/-- The staging source read: its bytes as they stood at GO (R98), or an error (R102). -/
def State.sourceRead (s : State) : Option (List Byte) × State :=
  let a := s.loader.srcAddr
  let n := min s.loader.length 0x4000000
  let bs := s.loader.snap.read 0 n
  if isHost a then
    (if s.pcie.linkUp && !s.pins.perst && s.hostMapped (addrIova a) n && s.hostClean (addrIova a) n then some bs else none, s)
  else
    let r := s.physRead Req.bd (addrCore a) (addrOff a) n
    (if r.2.1.isEmpty then some bs else none, r.2.2)

/-- IMAGE_COPY_DONE (R101 step 1); a read of host memory waits while the physical function is in D3hot (R631). -/
def doImageCopyDone (env : Env) (s : State) : State :=
  let s := s.arrive env
  if s.loader.stage ≠ .copying || (isHost s.loader.srcAddr && s.pcie.d3.contains 0) then s
  else match s.sourceRead with
    | (none, s) => s.failPhase ⟨0, Ie.memory, 0xFF⟩
    | (some bs, s) =>
      let s := s.shadowWrite 0 bs
      { s.setPhase 1 with loader := { s.loader with stage := .validating } }
/-- IMAGE_COPY_DONE. -/
def execImageCopyDone (env : Env) (s : State) : Res := guarded (Instr.imageCopyDone env).wf s (doImageCopyDone env)

/-- A validation over the state that reads the shadow area as it goes. -/
abbrev Val := EStateM Bad State

/-- Bytes of the shadow area read in a phase; an uncorrectable block ends the load there with IE_MEMORY (R102). -/
def Val.read (pos n phase : Nat) : Val (List Byte) := fun s =>
  let r := s.shadowAt pos n
  if r.2.1 then .error ⟨phase, Ie.memory, 0xFF⟩ r.2.2 else .ok r.1 r.2.2

/-- A check in a validation. -/
def Val.check {α : Type} (c : State → Chk α) : Val α := fun s => match c s with
  | .ok a => .ok a s
  | .error b => .error b s

/-- Validation (R92): the phases before the signature read the header, the section table and the trailer only. -/
def Val.image (n : Nat) : Val (Image × Nat) := do
  Val.check (fun s => Chk.need (!s.loader.portOver && decide (n % 16 = 0) && decide (1536 ≤ n) && decide (n ≤ 0x4000000)) 1 Ie.length 0xFF)
  let h ← Val.read 0 0x100 1
  Val.check (fun _ => checkLength h n)
  Val.check (fun _ => checkHeader h)
  Val.check (fun _ => checkCount h)
  let t ← Val.read 0x100 (16 * ihCount h) 3
  Val.check (fun _ => checkTable (h ++ t))
  let tr ← Val.read (n - 1024) 1024 4
  Val.check (fun s => s.checkOwner tr)
  let b ← Val.read 0 n 5
  let im ← Val.check (fun s => s.verdict b n)
  return (im, ihPolders b)

/-- IMAGE_VALIDATION_DONE (R92). -/
def doImageValidationDone (env : Env) (s : State) : State :=
  let s := s.arrive env
  if s.loader.stage ≠ .validating then s
  else match Val.image s.loader.length s with
    | .error b s => s.failPhase b
    | .ok r s => { s.setPhase 13 with loader := { s.loader with stage := .committing, next := some r.1, partialMask := r.2 } }
/-- IMAGE_VALIDATION_DONE. -/
def execImageValidationDone (env : Env) (s : State) : Res :=
  guarded (Instr.imageValidationDone env).wf s (doImageValidationDone env)

/-! ### The commit (R96) -/

/-- A polder that the commit affects (R95). -/
def affects (mask p : Nat) : Bool := mask = 0 || mask.testBit p

/-- Counter ranges of affected polders, and on a full load the device counters, are set to 0. -/
def State.zeroRanges (s : State) (im : Image) (mask : Nat) : State :=
  (im.counters.filter (fun r => if r.scope = 0xFF then decide (mask = 0) else affects mask r.scope)).foldl
    (fun (s : State) r => s.sharedWrite r.cluster r.offset (List.replicate (4 * r.count) 0)) s

/-- Run states follow the numbers that the image defines (R110). -/
def State.keepRuns (s : State) (old im : List PolderRec) : State :=
  let gone := fun p => !(old.any (fun r => r.num == p) && im.any (fun r => r.num == p))
  ((List.range 32).filter gone).foldl (fun (s : State) p => (s.setBit Reg.mbxStopping p false).setBit Reg.mbxStopped p false)
    { s with runs := SMap.clear s.runs gone }

/-- A polder's pool is carved anew, unless its ATTN record, its KV grants and the retired units are as before (R365, R403): every page is
FREE and the index is empty, and a copy that was under way into the old pool is dropped. No stack memory is written (R96). -/
def State.carveAt (s : State) (old : Option Image) (retired : List Word) (im : Image) (p : Nat) : State :=
  let kvOf := fun (i : Image) => (i.attn.filter (fun r => r.polder == p), i.grants.filter (fun g => g.polder == p && g.access.testBit 3))
  if old.map kvOf = some (kvOf im) && decide (retired = s.mem.retired) then s
  else { s.carve im p with copies := s.copies.filter (fun c => c.polder != p) }

/-- The resolved rule slots are shown (R438). -/
def State.showRules (s : State) (im : Image) : State :=
  (List.range 16).foldl (fun (s : State) i =>
    match im.rules.find? (fun r => r.slot == i) with
    | none => [Reg.optSlotCtrl i, Reg.optSlotA1 i, Reg.optSlotA2 i, Reg.optSlotB1 i, Reg.optSlotB2 i, Reg.optSlotLambda i, Reg.optSlotClip i].foldl
        (fun (s : State) a => s.setReg a 0) s
    | some r =>
      let s := s.setNat (Reg.optSlotCtrl i) (2 ^ 31 + 2 ^ 16 * r.preset + 2 ^ 8 * r.func + 2 * b2n r.free + b2n r.biasCorr)
      let s := (((s.setNat (Reg.optSlotA1 i) r.a1).setNat (Reg.optSlotA2 i) r.a2).setNat (Reg.optSlotB1 i) r.b1).setNat (Reg.optSlotB2 i) r.b2
      (s.setNat (Reg.optSlotLambda i) r.lambda).setNat (Reg.optSlotClip i) r.clip) s

/-- What an affected polder loses: exported endpoints (R456), parity groups (R585) with their pending deltas (R604), a latched breach
(R470) and its drift value (R247). -/
def State.clearAffected (s : State) (mask : Nat) : State :=
  let s := ((List.range 4096).filter (fun e => s.bit (Reg.fabEpCtrl e) 31 && affects mask (s.fld (Reg.fabEpCtrl e) 28 24))).foldl
    (fun (s : State) e => s.setBit (Reg.fabEpCtrl e) 31 false) s
  let gs := (List.range 64).filter (fun g => s.parValid g && affects mask (s.parPolder g))
  let s := (gs.foldl State.clearGrp s).dropDeltas (fun x => gs.contains x.group)
  ((List.range 32).filter (affects mask)).foldl (fun (s : State) p => (s.setBit (Reg.fabBreach p) 31 false).clearDrift p) s

/-- The dike of a polder stands for a reset in progress, or for a held cluster (R491). -/
def State.settleDikes (s : State) : State :=
  (List.range 32).foldl (fun (s : State) p => s.setDike 3 p (s.resets.jobs.any (fun j => decide (j.level = 3) && decide (j.unit = p)))) s

/-- A full commit that changes LOCAL is as a module reset for flows (R471's table). -/
def State.settleFlows (s : State) (old : Option Image) (im : Image) : State :=
  if old.all (fun i => decide (i.locals = im.locals)) then s
  else ({ s with fab := { s.fab with flows := [], rx := [], reads := [], rates := [], epochs := [], lastCnp := [], qps := [] } }).newIncarnation.showDown

/-- A full commit starts the reckoning afresh (R473), and brings the COMMON settings into force (R121). -/
def State.fullCommit (s : State) : State :=
  ({ s with casc := ⟨[], [], [], none, false, some s.tick⟩ }).forceCommon.nvsFlags

/-- The IMG registers after a commit (R96, R104, R106). -/
def State.showImage (s : State) (im : Image) : State :=
  let s := (s.setDigest (Reg.imgDigest 0) im.digest).setNat Reg.imgSerial im.serial
  let s := (s.setNat Reg.imgPolders (im.polders.foldl (fun a r => a + 2 ^ r.num) 0)).setFld Reg.imgMember 7 0 im.member
  (s.setFld Reg.imgStatus 3 0 0xA).setPhase 13

/-- The CAS registers after a commit (R482, R483): a partial image leaves them. -/
def State.showCascade (s : State) (im : Image) : State :=
  match im.cascade.head? with
  | none => (s.setReg Reg.casStatus 0).setReg Reg.casGroup 0
  | some g =>
    (s.setNat Reg.casStatus (2 ^ 31 + 2 ^ 30 * b2n (decide (im.member = g.master)) + 2 ^ 16 * g.members + 2 ^ 8 * (im.member % 16) +
      bits g.roles (2 * im.member + 1) (2 * im.member))).setNat Reg.casGroup (g.groupId + 2 ^ 16 * g.reckonMs)

/-- A reset held until the commit takes place (R102). -/
def State.heldReset (s : State) (r : Nat × Nat × Nat) : State :=
  if r.1 = 3 && (s.polderRec r.2.1).isNone then (if r.2.2 = 3 then s.resetErr else s.beginReset 4 0 r.2.2 none none [])
  else s.beginReset r.1 r.2.1 r.2.2 none none []

/-- An image is committed. -/
def State.commitImage (s : State) (im : Image) (mask : Nat) : State :=
  let old := s.image
  let retired := s.mem.retired
  let held := s.loader.heldResets
  let s : State := { s with image := some im, mem := { s.mem with retired := s.nvm.retire }, loader := State.reset.loader }
  let s := (s.setBit Reg.memRetireStatus 4 false).keepRuns ((old.map (fun i => i.polders)).getD []) im.polders
  let s := (s.zeroRanges im mask).clearAffected mask
  let s := ((List.range 32).filter (affects mask)).foldl (fun (s : State) p => s.carveAt old retired im p) s
  let s := if mask = 0 then ((s.fullCommit.settleFlows old im).showCascade im) else s
  let s := ((s.showRules im).settleDikes.showImage im).recomputeDigests
  let s := s.event 0x0201 Src.module none (dataOf [(0, if mask = 0 then 1 else 2), (4, im.serial), (8, s.nat Reg.imgPolders), (12, s.nat (Reg.imgDigest 0))])
  held.foldl State.heldReset s

/-- IMAGE_COMMIT (R96): the tables are installed from the shadow area, where an uncorrectable block ends the load even now (R102); the
resets that waited follow. -/
def doImageCommit (s : State) : State :=
  match s.loader.stage, s.loader.next with
  | .committing, some im =>
    let r := s.shadowRead s.loader.length
    if r.2.1 then s.loader.heldResets.foldl State.heldReset { r.2.2.failPhase ⟨13, Ie.memory, 0xFF⟩ with loader := State.reset.loader }
    else r.2.2.commitImage im s.loader.partialMask
  | _, _ => s
/-- IMAGE_COMMIT. -/
def execImageCommit (s : State) : Res := guarded Instr.imageCommit.wf s doImageCommit

end Sys2Proof.Machine
end

