-- ==== Sys2Proof/Machine/Mailbox.lean ====
section
/-! DEFINITION. The mailbox commands (R134), the end of a STORE (R125, R126), and the events of an intercalation (R111). -/
namespace Sys2Proof.Machine

/-- SET (R122). -/
def doMbxSet (s : State) : State := s.mbxCmd 0x01
/-- The meaning of SET. -/
def execMbxSet (s : State) : Res := guarded Instr.mbxSet.wf s doMbxSet

/-- GET (R122). -/
def doMbxGet (s : State) : State := s.mbxCmd 0x02
/-- The meaning of GET. -/
def execMbxGet (s : State) : Res := guarded Instr.mbxGet.wf s doMbxGet

/-- STORE (R125, R127). -/
def doMbxStore (s : State) : State := s.mbxCmd 0x03
/-- The meaning of STORE. -/
def execMbxStore (s : State) : Res := guarded Instr.mbxStore.wf s doMbxStore

/-- STORE_COMPLETE (R125, R126): the snapshot is durable, or its write could not be verified. -/
def doStoreComplete (ok : Bool) (s : State) : State :=
  match s.mbx.running with
  | none => s
  | some (q, snap) =>
    let seq := (s.sets.seq + 1) % 2 ^ 32
    let other := 1 - s.sets.slot
    let rec' := if ok then settingsRecord seq (s.settingEntries snap) else []
    let nvm := { s.nvm with slot0 := if other = 0 then rec' else s.nvm.slot0, slot1 := if other = 0 then s.nvm.slot1 else rec' }
    let s := { s.setBit Reg.nvsStatus 0 false with mbx := { s.mbx with running := none } }
    let s := if ok then
        let s := { s with
          nvm := { nvm with storeCount := min (nvm.storeCount + 1) (2 ^ 32 - 1) }
          sets := { s.sets with durable := snap, seq := seq, slot := other } }
        let s := (s.setNat Reg.nvsSeq seq).setNat Reg.nvsStoreCount s.nvm.storeCount
        s.nvsFlags.mbxAnswer q (St.ok, some seq)
      else
        let s := { s with nvm := nvm }
        (s.setBit Reg.nvsStatus 3 true).mbxAnswer q (St.uncorrectable, none)
    s.mbxDrain s.mbx.queue.length
/-- The meaning of STORE_COMPLETE. -/
def execStoreComplete (ok : Bool) (s : State) : Res := guarded (Instr.storeComplete ok).wf s (doStoreComplete ok)

/-- REVERT (R123). -/
def doMbxRevert (s : State) : State := s.mbxCmd 0x04
/-- The meaning of REVERT. -/
def execMbxRevert (s : State) : Res := guarded Instr.mbxRevert.wf s doMbxRevert

/-- DEFAULTS (R123). -/
def doMbxDefaults (s : State) : State := s.mbxCmd 0x05
/-- The meaning of DEFAULTS. -/
def execMbxDefaults (s : State) : Res := guarded Instr.mbxDefaults.wf s doMbxDefaults

/-- QUIESCE (R111 step 1, R113). -/
def doMbxQuiesce (s : State) : State := s.mbxCmd 0x10
/-- The meaning of QUIESCE. -/
def execMbxQuiesce (s : State) : Res := guarded Instr.mbxQuiesce.wf s doMbxQuiesce

/-- DRAIN_DEADLINE (R111 step 3, R115): the commands that remain are ended, without a breach. -/
def doDrainDeadline (polder : Nat) (s : State) : State :=
  match s.runState polder with
  | .stopping d a x n =>
    if a || decide (d ≤ s.tick) then
      let ids := ((s.polderCmds polder).filter Cmd.stoppable).map (fun c => c.id)
      let s : State := { s with cmds := s.cmds.map (fun (c : Cmd) => if ids.contains c.id then { c with quiesced := true } else c) }
      (s.stopAll ids St.aborted).setRun polder (.stopping d true x (n + ids.length))
    else s
  | _ => s
/-- The meaning of DRAIN_DEADLINE. -/
def execDrainDeadline (polder : Nat) (s : State) : Res := guarded (Instr.drainDeadline polder).wf s (doDrainDeadline polder)

/-- POLDER_STOPPED (R111 steps 4 and 5, R112). -/
def doPolderStopped (polder : Nat) (s : State) : State := if (s.polderCmds polder).isEmpty then s.stopPolder polder else s
/-- The meaning of POLDER_STOPPED. -/
def execPolderStopped (polder : Nat) (s : State) : Res := guarded (Instr.polderStopped polder).wf s (doPolderStopped polder)

/-- RESUME (R116). -/
def doMbxResume (s : State) : State := s.mbxCmd 0x11
/-- The meaning of RESUME. -/
def execMbxResume (s : State) : Res := guarded Instr.mbxResume.wf s doMbxResume

/-- MAILBOX over MCTP (R657). -/
def doMctpMailbox (binding inst op a0 a1 a2 : Nat) (s : State) : State :=
  s.vendorCmd binding 0x01 inst false (fun s =>
    if s.ready then s.mbxSubmit ⟨some (binding, inst), op % 256, a0 % 2 ^ 32, a1 % 2 ^ 32, a2 % 2 ^ 32⟩
    else s.vendorReply binding 0x01 inst St.noImage [])
/-- The meaning of MAILBOX. -/
def execMctpMailbox (binding inst op a0 a1 a2 : Nat) (s : State) : Res :=
  guarded (Instr.mctpMailbox binding inst op a0 a1 a2).wf s (doMctpMailbox binding inst op a0 a1 a2)

end Sys2Proof.Machine
end

