-- ==== Sys2Proof/Machine/Management.lean ====
section
/-! DEFINITION. The almanac's freezes (R649–R652), MCTP control (R654, R655), the Grieranex commands of the almanac and the heat report
(R657, R659), and PLDM (R661, R662). -/
namespace Sys2Proof.Machine

/-! ### The almanac -/

/-- FREEZE (R649): ALM_CTRL with its KEY. -/
def doAlmFreeze (key : Nat) (s : State) : State :=
  if s.barsOpen 0 && !s.recovery && decide (key = 0xA5) then s.requestFreeze 1 else s
/-- The meaning of FREEZE. -/
def execAlmFreeze (key : Nat) (s : State) : Res := guarded (Instr.almFreeze key).wf s (doAlmFreeze key)

/-- ALM_FREEZE_COMPLETE (R650 steps 3 to 5): the record is complete, the bond-wear indices are durable, and the queue drains. -/
def doAlmFreezeComplete (s : State) : State :=
  match s.alm.freeze with
  | none => s
  | some f =>
    let s : State := match f.record with
      | some k =>
        let r : FrozenRec := ⟨BitVec.ofNat 2048 (freezeHeader s f), f.entries⟩
        let s := s.wearWrite
        { s with nvm := { s.nvm with frozen := SMap.set (fun _ => none) s.nvm.frozen k (some r), frozenSeq := f.seq, frozenLast := some k } }
      | none => s
    let s := { s with alm := { s.alm with freeze := none } }
    let s := if f.origin = 0 then
        s.event 0x0A01 Src.module none (dataOf [(0, f.record.getD 0xFF), (4, f.seq), (8, f.trigger), (10, 0)])
      else s
    State.drainFuel (s.alm.queue.length + 1) s
/-- The meaning of ALM_FREEZE_COMPLETE. -/
def execAlmFreezeComplete (s : State) : Res := guarded Instr.almFreezeComplete.wf s doAlmFreezeComplete

/-- The entries that an ALM_READ names, or none where some are overwritten or not yet written (R657). -/
def State.almEntries (s : State) (source first count : Nat) : Option (List Entry) :=
  if decide (count = 0) || decide (32 < count) then none
  else if source = 0 then
    (if first + count ≤ s.alm.count && decide (s.alm.count ≤ first + 4096) then
       some ((List.range count).map (fun i => SMap.get (fun _ => 0) s.alm.ring ((first + i) % 4096)))
     else none)
  else if source ≤ 8 then
    (match SMap.get (fun _ => none) s.nvm.frozen (source - 1) with
     | some r => if first + count ≤ r.entries.length then some (lslice' r.entries first count) else none
     | none => none)
  else none
where
  /-- Entries `a … a + n − 1` of a record. -/
  lslice' (l : List Entry) (a n : Nat) : List Entry := (l.drop a).take n

/-- ALM_READ (R657). -/
def doMctpAlmRead (binding inst source first count : Nat) (s : State) : State :=
  s.vendorCmd binding 0x02 inst (decide (source ≠ 0)) (fun s =>
    match s.almEntries source first count with
    | some es => s.vendorReply binding 0x02 inst St.ok ([BitVec.ofNat 8 es.length] ++ List.replicate 7 0 ++ es.flatMap (fun e => leBytes 32 e.toNat))
    | none => s.vendorReply binding 0x02 inst St.badDescriptor (List.replicate 8 0))
/-- The meaning of ALM_READ. -/
def execMctpAlmRead (binding inst source first count : Nat) (s : State) : Res :=
  guarded (Instr.mctpAlmRead binding inst source first count).wf s (doMctpAlmRead binding inst source first count)

/-- ALM_FREEZE (R649, R657). -/
def doMctpAlmFreeze (binding inst : Nat) (s : State) : State :=
  s.vendorCmd binding 0x03 inst false (fun s => (s.requestFreeze 2).vendorReply binding 0x03 inst St.ok [])
/-- The meaning of ALM_FREEZE. -/
def execMctpAlmFreeze (binding inst : Nat) (s : State) : Res := guarded (Instr.mctpAlmFreeze binding inst).wf s (doMctpAlmFreeze binding inst)

/-- HEAT_REPORT (R659): the values of one 10 ms window; before the first has ended they are free values. -/
def doMctpHeatReport (binding inst : Nat) (s : State) : State :=
  s.vendorCmd binding 0x11 inst false (fun s =>
    if s.power.report.isEmpty then s.fresh.vendorReply binding 0x11 inst St.ok (s.freeBytes 48)
    else s.vendorReply binding 0x11 inst St.ok s.power.report)
/-- The meaning of HEAT_REPORT. -/
def execMctpHeatReport (binding inst : Nat) (s : State) : Res := guarded (Instr.mctpHeatReport binding inst).wf s (doMctpHeatReport binding inst)

/-! ### MCTP control (R654, R655) -/

/-- A control response: command, completion code and body. -/
def State.ctrlReply (s : State) (b cmd cc : Nat) (body : List Byte) : State :=
  s.mctpSend b 0x00 ([0, BitVec.ofNat 8 cmd, BitVec.ofNat 8 cc] ++ body)

/-- SET_ENDPOINT_ID (R654): the assigner of the I3C endpoint is kept for R660. A message over I3C shows that the bus has given the
module a dynamic address (R684). -/
def doMctpSetEid (binding src eid : Nat) (s : State) : State :=
  if !s.bindingUp binding then s
  else
    let s : State := if binding = 0 && decide (s.mctp.i3cAddr = 0) then
        { s.fresh with mctp := { s.mctp with i3cAddr := 8 + Config.freeNat s.freeCtr % 112 } } else s
    if eid < 8 || decide (eid = 255) then s.ctrlReply binding 0x01 2 []
    else
      let s : State := if binding = 0 then { s with mctp := { s.mctp with eidI3c := eid, assignerI3c := src } }
        else { s with mctp := { s.mctp with eidPcie := eid } }
      s.ctrlReply binding 0x01 0 [0, BitVec.ofNat 8 eid, 0]
/-- The meaning of SET_ENDPOINT_ID. -/
def execMctpSetEid (binding src eid : Nat) (s : State) : Res :=
  guarded (Instr.mctpSetEid binding src eid).wf s (doMctpSetEid binding src eid)

/-- GET_ENDPOINT_ID. -/
def doMctpGetEid (binding : Nat) (s : State) : State :=
  if s.mctpUp binding then s.ctrlReply binding 0x02 0 [BitVec.ofNat 8 (s.eid binding), 0, 0] else s
/-- The meaning of GET_ENDPOINT_ID. -/
def execMctpGetEid (binding : Nat) (s : State) : Res := guarded (Instr.mctpGetEid binding).wf s (doMctpGetEid binding)

/-- GET_ENDPOINT_UUID. -/
def doMctpGetUuid (binding : Nat) (s : State) : State :=
  if s.mctpUp binding then s.ctrlReply binding 0x03 0 (beBytes 16 Config.uuid.toNat) else s
/-- The meaning of GET_ENDPOINT_UUID. -/
def execMctpGetUuid (binding : Nat) (s : State) : Res := guarded (Instr.mctpGetUuid binding).wf s (doMctpGetUuid binding)

/-- The message types of R655. -/
def mctpTypes : List Nat := [0x00, 0x01, 0x05, 0x7E]

/-- GET_MCTP_VERSION_SUPPORT: the version entries are not stated. -/
def doMctpGetVersion (binding type : Nat) (s : State) : State :=
  if !s.mctpUp binding then s
  else if type = 0xFF || mctpTypes.contains type then s.ctrlReply binding 0x04 0 (Config.response 0x00 0x04 [BitVec.ofNat 8 type])
  else s.ctrlReply binding 0x04 0x80 []
/-- The meaning of GET_MCTP_VERSION_SUPPORT. -/
def execMctpGetVersion (binding type : Nat) (s : State) : Res :=
  guarded (Instr.mctpGetVersion binding type).wf s (doMctpGetVersion binding type)

/-- GET_MESSAGE_TYPE_SUPPORT. -/
def doMctpGetTypes (binding : Nat) (s : State) : State :=
  if s.mctpUp binding then s.ctrlReply binding 0x05 0 (BitVec.ofNat 8 mctpTypes.length :: mctpTypes.map (BitVec.ofNat 8)) else s
/-- The meaning of GET_MESSAGE_TYPE_SUPPORT. -/
def execMctpGetTypes (binding : Nat) (s : State) : Res := guarded (Instr.mctpGetTypes binding).wf s (doMctpGetTypes binding)

/-- GET_VENDOR_DEFINED_MESSAGE_SUPPORT: one set, the PCI vendor ID. -/
def doMctpGetVendor (binding : Nat) (s : State) : State :=
  if s.mctpUp binding then s.ctrlReply binding 0x06 0 ([0xFF, 0] ++ beBytes 2 Config.pciVendor.toNat) else s
/-- The meaning of GET_VENDOR_DEFINED_MESSAGE_SUPPORT. -/
def execMctpGetVendor (binding : Nat) (s : State) : Res := guarded (Instr.mctpGetVendor binding).wf s (doMctpGetVendor binding)

/-! ### PLDM types 0 and 2 (R661) -/

/-- A PLDM response of success whose body the manual leaves to the standard. -/
def State.pldmPlain (s : State) (b inst typ cmd : Nat) (req : List Byte) : State :=
  if s.pldmServed b typ then s.pldmSend b false inst typ cmd (0 :: Config.response (256 + typ) cmd req) else s

/-- A PLDM response with a completion code and body. -/
def State.pldmReply (s : State) (b inst typ cmd cc : Nat) (body : List Byte) : State :=
  if s.pldmServed b typ then s.pldmSend b false inst typ cmd (BitVec.ofNat 8 cc :: body) else s

/-- GET_TID. -/
def doPldmGetTid (binding inst : Nat) (s : State) : State := s.pldmReply binding inst 0 0x02 0 [BitVec.ofNat 8 s.mctp.tid]
/-- The meaning of GET_TID. -/
def execPldmGetTid (binding inst : Nat) (s : State) : Res := guarded (Instr.pldmGetTid binding inst).wf s (doPldmGetTid binding inst)

/-- GET_PLDM_VERSION; an unsupported type is answered with an invalid-type completion. -/
def doPldmGetVersion (binding inst type : Nat) (s : State) : State :=
  if [0, 2, 5].contains type then s.pldmPlain binding inst 0 0x03 [BitVec.ofNat 8 type] else s.pldmReply binding inst 0 0x03 0x83 []
/-- The meaning of GET_PLDM_VERSION. -/
def execPldmGetVersion (binding inst type : Nat) (s : State) : Res :=
  guarded (Instr.pldmGetVersion binding inst type).wf s (doPldmGetVersion binding inst type)

/-- GET_PLDM_TYPES: types 0, 2 and 5, as a 64-bit mask. -/
def doPldmGetTypes (binding inst : Nat) (s : State) : State := s.pldmReply binding inst 0 0x04 0 (leBytes 8 0x25)
/-- The meaning of GET_PLDM_TYPES. -/
def execPldmGetTypes (binding inst : Nat) (s : State) : Res := guarded (Instr.pldmGetTypes binding inst).wf s (doPldmGetTypes binding inst)

/-- The commands of a PLDM type that the module answers (R661, R662), by command code. -/
def pldmCommands (type : Nat) : List Nat :=
  if type = 0 then [2, 3, 4, 5] else if type = 2 then [0x04, 0x11, 0x50, 0x51] else if type = 5 then [1, 2, 0x10, 0x13, 0x14, 0x1A, 0x1B, 0x1D] else []

/-- GET_PLDM_COMMANDS: a 256-bit mask. -/
def doPldmGetCommands (binding inst type : Nat) (s : State) : State :=
  let cs := pldmCommands type
  if cs.isEmpty then s.pldmReply binding inst 0 0x05 0x83 []
  else s.pldmReply binding inst 0 0x05 0 (leBytes 32 (cs.foldl (fun a c => a + 2 ^ c) 0))
/-- The meaning of GET_PLDM_COMMANDS. -/
def execPldmGetCommands (binding inst type : Nat) (s : State) : Res :=
  guarded (Instr.pldmGetCommands binding inst type).wf s (doPldmGetCommands binding inst type)

/-- GET_PDR_REPOSITORY_INFO. -/
def doPldmGetPdrInfo (binding inst : Nat) (s : State) : State := s.pldmPlain binding inst 2 0x50 []
/-- The meaning of GET_PDR_REPOSITORY_INFO. -/
def execPldmGetPdrInfo (binding inst : Nat) (s : State) : Res := guarded (Instr.pldmGetPdrInfo binding inst).wf s (doPldmGetPdrInfo binding inst)

/-- GET_PDR. -/
def doPldmGetPdr (binding inst record : Nat) (s : State) : State := s.pldmPlain binding inst 2 0x51 (leBytes 4 record)
/-- The meaning of GET_PDR. -/
def execPldmGetPdr (binding inst record : Nat) (s : State) : Res :=
  guarded (Instr.pldmGetPdr binding inst record).wf s (doPldmGetPdr binding inst record)

/-- The reading of a numeric sensor of R661. -/
def State.sensorReading (s : State) (id : Nat) : Option Nat :=
  if id = 0 || decide (34 < id) then none
  else if id ≤ 2 then some (s.fld (if id = 1 then Reg.pwrFeedA else Reg.pwrFeedB) 15 0)
  else if id ≤ 4 then some (s.fld (if id = 3 then Reg.pwrFeedA else Reg.pwrFeedB) 30 16)
  else if id = 5 then some (s.fld Reg.pwrInW 15 0)
  else if id = 6 then some (s.fld Reg.pwrCap 15 0)
  else if id = 7 then some (s.fld Reg.pwrHeatW 15 0)
  else if id = 8 then some (s.fld Reg.cltFlow 15 0)
  else if id ≤ 13 then some (s.fld (Reg.cltTIn (id - 9)) 11 0)
  else if id ≤ 18 then some (s.fld (Reg.cltTOut (id - 14)) 11 0)
  else if id ≤ 31 then some (s.fld (Reg.thmLayer (id - 19)) 11 0)
  else some ((s.cnt (if id = 32 then Reg.pwrEIn else if id = 33 then Reg.pwrEHeat else Reg.pwrEFiller)).toNat / 1000000)

/-- GET_SENSOR_READING: a 32-bit reading of an enabled sensor. -/
def doPldmGetSensor (binding inst sensor : Nat) (s : State) : State :=
  match s.sensorReading sensor with
  | some v => s.pldmReply binding inst 2 0x11 0 ([4, 0, 0, 0, 0, 0] ++ leBytes 4 v)
  | none => s.pldmReply binding inst 2 0x11 0x80 []
/-- The meaning of GET_SENSOR_READING. -/
def execPldmGetSensor (binding inst sensor : Nat) (s : State) : Res :=
  guarded (Instr.pldmGetSensor binding inst sensor).wf s (doPldmGetSensor binding inst sensor)

/-- SET_EVENT_RECEIVER: entries are sent from now on (R661). -/
def doPldmSetReceiver (binding inst eid : Nat) (s : State) : State :=
  if s.pldmServed binding 2 then { s with mctp := { s.mctp with receiver := some (binding, eid) } }.pldmReply binding inst 2 0x04 0 [] else s
/-- The meaning of SET_EVENT_RECEIVER. -/
def execPldmSetReceiver (binding inst eid : Nat) (s : State) : Res :=
  guarded (Instr.pldmSetReceiver binding inst eid).wf s (doPldmSetReceiver binding inst eid)

/-! ### PLDM type 5 (R622, R623, R662) -/

/-- QUERY_DEVICE_IDENTIFIERS. -/
def doPldmQueryDevice (binding inst : Nat) (s : State) : State := s.pldmPlain binding inst 5 0x01 []
/-- The meaning of QUERY_DEVICE_IDENTIFIERS. -/
def execPldmQueryDevice (binding inst : Nat) (s : State) : Res := guarded (Instr.pldmQueryDevice binding inst).wf s (doPldmQueryDevice binding inst)

/-- GET_FIRMWARE_PARAMETERS: one component; its running version and the version in the slot. -/
def doPldmGetFwParams (binding inst : Nat) (s : State) : State :=
  s.pldmPlain binding inst 5 0x02 (leBytes 4 (s.nat Reg.idFwVersion) ++ leBytes 4 (s.nat Reg.secFwSlotVersion))
/-- The meaning of GET_FIRMWARE_PARAMETERS. -/
def execPldmGetFwParams (binding inst : Nat) (s : State) : Res := guarded (Instr.pldmGetFwParams binding inst).wf s (doPldmGetFwParams binding inst)

/-- The PLDM update replaced. -/
def State.setPldm (s : State) (u : PldmUpdate) : State := { s with sec := { s.sec with pldm := u } }

/-- REQUEST_UPDATE: an update opens, unless one is open (R623). -/
def doPldmRequestUpdate (binding inst : Nat) (s : State) : State :=
  if !s.pldmServed binding 5 then s
  else match s.sec.path with
    | none => ((s.fwStart .pldm).setPldm ⟨1, 0, 0, binding⟩).pldmReply binding inst 5 0x10 0 [0, 0, 0]
    | some .pldm => s.pldmReply binding inst 5 0x10 0x81 []
    | some .bar0 => s.pldmReply binding inst 5 0x10 0x04 []
/-- The meaning of REQUEST_UPDATE. -/
def execPldmRequestUpdate (binding inst : Nat) (s : State) : Res :=
  guarded (Instr.pldmRequestUpdate binding inst).wf s (doPldmRequestUpdate binding inst)

/-- A type 5 request that needs an open PLDM update in one of some states; otherwise it is answered with an error completion. -/
def State.pldmIn (s : State) (b inst cmd : Nat) (states : List Nat) (f : State → State) : State :=
  if !s.pldmServed b 5 then s
  else if s.sec.path ≠ some FwPath.pldm then s.pldmReply b inst 5 cmd 0x80 []
  else if states.contains s.sec.pldm.state then f s
  else s.pldmReply b inst 5 cmd 0x84 []

/-- PASS_COMPONENT_TABLE. -/
def doPldmPassComponents (binding inst : Nat) (s : State) : State :=
  s.pldmIn binding inst 0x13 [1] (fun s => (s.setPldm { s.sec.pldm with state := 2 }).pldmReply binding inst 5 0x13 0 [0, 0])
/-- The meaning of PASS_COMPONENT_TABLE. -/
def execPldmPassComponents (binding inst : Nat) (s : State) : Res :=
  guarded (Instr.pldmPassComponents binding inst).wf s (doPldmPassComponents binding inst)

/-- The module asks for the next 1,024 bytes at most (R662). -/
def State.pldmAsk (s : State) : State :=
  let u := s.sec.pldm
  s.pldmSend u.binding true 0 5 0x15 (leBytes 4 u.offset ++ leBytes 4 (min 1024 (u.length - u.offset)))

/-- UPDATE_COMPONENT: the download begins; a component longer than the staging is not taken. -/
def doPldmUpdateComponent (binding inst length : Nat) (s : State) : State :=
  s.pldmIn binding inst 0x14 [2, 7] (fun s =>
    if length = 0 || decide (4194304 < length) then s.pldmReply binding inst 5 0x14 0 ([1, 1] ++ List.replicate 6 0)
    else
      let s := { s with sec := { s.sec with staging := [], stagedOver := false } }.setPldm ⟨3, 0, length, binding⟩
      (s.pldmReply binding inst 5 0x14 0 (List.replicate 8 0)).pldmAsk)
/-- The meaning of UPDATE_COMPONENT. -/
def execPldmUpdateComponent (binding inst length : Nat) (s : State) : Res :=
  guarded (Instr.pldmUpdateComponent binding inst length).wf s (doPldmUpdateComponent binding inst length)

/-- REQUEST_FIRMWARE_DATA: a block arrives; after the last one TransferComplete is sent and verification starts (R662). -/
def doPldmFirmwareData (data : List Byte) (s : State) : State :=
  let u := s.sec.pldm
  if s.sec.path = some FwPath.pldm && decide (u.state = 3) && s.bindingUp u.binding then
    let bs := data.take (min 1024 (u.length - u.offset))
    let s := (s.fwStage bs).setPldm { u with offset := u.offset + bs.length }
    if u.offset + bs.length < u.length then s.pldmAsk
    else ((s.setPldm { u with offset := u.length, state := 4 }).pldmSend u.binding true 0 5 0x16 [0]).fwBeginVerify
  else s
/-- The meaning of REQUEST_FIRMWARE_DATA. -/
def execPldmFirmwareData (data : List Byte) (s : State) : Res := guarded (Instr.pldmFirmwareData data).wf s (doPldmFirmwareData data)

/-- ACTIVATE_FIRMWARE: a module reset (R622). -/
def doPldmActivate (binding inst : Nat) (s : State) : State :=
  s.pldmIn binding inst 0x1A [7] (fun s =>
    let s := (s.setPldm { s.sec.pldm with state := 6 }).pldmReply binding inst 5 0x1A 0 [0, 0]
    s.fresh.reachReset 5 0 (Config.freeNat s.freeCtr % 7) none none [])
/-- The meaning of ACTIVATE_FIRMWARE. -/
def execPldmActivate (binding inst : Nat) (s : State) : Res := guarded (Instr.pldmActivate binding inst).wf s (doPldmActivate binding inst)

/-- GET_STATUS: the state of the update; the rest of the body is the standard's. -/
def doPldmGetStatus (binding inst : Nat) (s : State) : State :=
  let st := if s.sec.path ≠ some FwPath.pldm then 0 else if s.sec.pldm.state = 7 then 2 else s.sec.pldm.state
  s.pldmReply binding inst 5 0x1B 0 (BitVec.ofNat 8 st :: Config.response 261 0x1B [BitVec.ofNat 8 st])
/-- The meaning of GET_STATUS. -/
def execPldmGetStatus (binding inst : Nat) (s : State) : Res := guarded (Instr.pldmGetStatus binding inst).wf s (doPldmGetStatus binding inst)

/-- CANCEL_UPDATE: before the commit, the staging is discarded (R623). -/
def doPldmCancel (binding inst : Nat) (s : State) : State :=
  s.pldmIn binding inst 0x1D [1, 2, 3, 4, 6, 7] (fun s =>
    ((s.fwEnd.setBit Reg.secFwStatus 2 false).setPldm ⟨0, 0, 0, 0⟩).pldmReply binding inst 5 0x1D 0 (List.replicate 9 0))
/-- The meaning of CANCEL_UPDATE. -/
def execPldmCancel (binding inst : Nat) (s : State) : Res := guarded (Instr.pldmCancel binding inst).wf s (doPldmCancel binding inst)

end Sys2Proof.Machine
end

