-- ==== Sys2Proof/Machine/Memory.lean ====
section
/-! DEFINITION. The rows of stack memory: BAR2_READ, BAR2_WRITE, REMAP_NVM_WRITE, ARM, CLR_LOG, CLR_COUNTS, APPEND,
RETIRE_APPEND_DONE, PATROL_SCRUB, REFRESH_DUE, MEM_CALIBRATION_DUE and MEM_CALIBRATION_DONE. -/
namespace Sys2Proof.Machine

/-! ### The host aperture (R304, R305) -/

/-- SIZE of the aperture. -/
def State.apertureSize (s : State) : Nat := s.fld Reg.memAperture 3 0

/-- The host sets SIZE through the Resizable BAR capability, which no row of its own brings (R304; log entry 75). -/
def State.resizeBar (s : State) (env : Env) : State := match env.bar2 with
  | some n => if n ≤ 8 then s.setFld Reg.memAperture 3 0 n else s
  | none => s

/-- The column that a BAR2 offset leads to. -/
def State.apertureCol (s : State) (off : Nat) : Nat :=
  let n := 2 ^ s.apertureSize
  s.fld Reg.memAperture 15 8 / n * n + bits off 37 30

/-- BAR2 requests reach the module: the link is up, the physical function in D0, and the range inside the BAR. -/
def State.bar2Open (s : State) (off n : Nat) : Bool :=
  s.barsOpen 0 && decide (off + n ≤ 2 ^ (30 + s.apertureSize))

/-- Until READY and in recovery mode BAR2 is not supported (R612, R621). -/
def State.bar2Early (s : State) : Bool := s.recovery || !s.ready

/-- A module reset is in progress (R558). -/
def State.moduleResetting (s : State) : Bool := s.resets.jobs.any (fun j => decide (j.level = 5))

/-- Some byte of a range lies at or above 0x3000_0000 of its column. -/
def beyondColumn (off n : Nat) : Bool := decide (0x30000000 < bits off 29 0 + n)

/-- BAR2_READ. -/
def doBar2Read (off len : Nat) (env : Env) (s : State) : State :=
  let s := s.resizeBar env
  if !s.bar2Open off len then s
  else
    let s := s.arrive env
    if s.bar2Early then s.emit (.completion 1 [] [])
    else if s.moduleResetting then s.emit (.completion 2 [] [])
    else if beyondColumn off len then (s.aer aerUnsupported).emit (.completion 1 [] [])
    else
      let col := s.apertureCol off
      let p := bits off 29 0
      if s.physRetired col p len then (s.aer aerCompleterAbort).emit (.completion 2 [] [])
      else
        let r := s.physRead Req.host col p len
        let s := if r.2.1.isEmpty then r.2.2 else r.2.2.aer aerInternal
        s.emit (.completion 0 r.1 r.2.1)
/-- BAR2_READ. -/
def execBar2Read (off len : Nat) (env : Env) (s : State) : Res := guarded (Instr.bar2Read off len env).wf s (doBar2Read off len env)

/-- BAR2_WRITE. -/
def doBar2Write (off : Nat) (data : List Byte) (env : Env) (s : State) : State :=
  let s := s.resizeBar env
  if !s.bar2Open off data.length then s
  else
    let s := s.arrive env
    if s.bar2Early || s.moduleResetting then s
    else if beyondColumn off data.length then s.aer aerUnsupported
    else
      let col := s.apertureCol off
      let p := bits off 29 0
      if s.physRetired col p data.length then s.aer aerCompleterAbort
      else
        let r := s.physWrite Req.host col p data
        if r.1 = 0 then r.2 else r.2.aer aerInternal
/-- BAR2_WRITE. -/
def execBar2Write (off : Nat) (data : List Byte) (env : Env) (s : State) : Res :=
  guarded (Instr.bar2Write off data env).wf s (doBar2Write off data env)

/-! ### Remap and retirement -/

/-- REMAP_NVM_WRITE (R314): an installed entry becomes durable. -/
def doRemapNvmWrite (col entry : Nat) (s : State) : State :=
  let v := s.reg (Reg.memRemap col entry)
  if v.getLsbD 31 && decide (SMap.get (fun _ => 0) s.nvm.remap (8 * col + entry) ≠ v) then
    { s with nvm := { s.nvm with remap := SMap.set (fun _ => 0) s.nvm.remap (8 * col + entry) v } }.event 0x0402 (Src.column col) none
      (dataOf [(0, v.toNat), (4, entry)])
  else s
/-- REMAP_NVM_WRITE. -/
def execRemapNvmWrite (col entry : Nat) (s : State) : Res := guarded (Instr.remapNvmWrite col entry).wf s (doRemapNvmWrite col entry)

/-- ARM (R322, R323, R329): MEM_FLIPTARGET is written. -/
def doMemArm (v : Word) (s : State) : State :=
  if s.hostOpen then s.setReg Reg.memFliptarget (v &&& 0x800000FF) else s
/-- ARM. -/
def execMemArm (v : Word) (s : State) : Res := guarded (Instr.memArm v).wf s (doMemArm v)

/-- CLR_LOG (R312, R327). -/
def doMemClrLog (col : Nat) (s : State) : State :=
  if s.hostOpen then
    ((List.range 16).foldl (fun (s : State) i => (s.setReg (Reg.memCeLog col i) 0).setReg (Reg.memCeInfo col i) 0) s).setReg (Reg.memCeLogLost col) 0
  else s
/-- CLR_LOG. -/
def execMemClrLog (col : Nat) (s : State) : Res := guarded (Instr.memClrLog col).wf s (doMemClrLog col)

/-- CLR_COUNTS (R327). -/
def doMemClrCounts (col : Nat) (s : State) : State :=
  if s.hostOpen then (s.setReg (Reg.memCeCount col) 0).setReg (Reg.memUeCount col) 0 else s
/-- CLR_COUNTS. -/
def execMemClrCounts (col : Nat) (s : State) : Res := guarded (Instr.memClrCounts col).wf s (doMemClrCounts col)

/-- A retirement entry is well formed (R318, R319). -/
def retireOk (e : Word) : Bool :=
  if retKind e = 0 then decide (retPage e ≤ 383) && decide (fld e 21 9 = 0)
  else if retKind e = 1 then decide (fld e 21 5 = 0)
  else false

/-- An entry names a unit that holds a byte of the shadow or dossier area (R319 code 2), in the form of its region. -/
def State.retireArea (s : State) (e : Word) : Bool :=
  let col := retCol e
  let area := s.fld Reg.idBoot 26 25
  if s.bit Reg.idBoot 27 || decide (col / 64 ≠ area) then false
  else if retKind e = 0 then (if s.rotated col 23 then decide (retPage e / 16 = 23) else decide (retPage e = 383))
  else decide (retLayer e = 1) && (s.rotated col 23 || decide (retBank e = 15))

/-- An entry adds nothing to the list: it stands there, or its bank does. -/
def State.retireKnown (s : State) (e : Word) : Bool :=
  s.nvm.retire.any (fun f => f == e || (decide (retKind e = 0) && decide (retKind f = 1) && decide (retCol f = retCol e) &&
    decide (retLayer f = if retPage e / 16 < 12 then 0 else 1) && decide (retBank f = retPage e % 16)))

/-- A refused append (R319). -/
def State.retireErr (s : State) (code : Nat) : State := (s.setBit Reg.memRetireStatus 2 true).setFld Reg.memRetireStatus 11 8 code

/-- An append that is done: no refusal stands (log entry 22). -/
def State.retireDone (s : State) : State := (s.setBit Reg.memRetireStatus 1 true).setFld Reg.memRetireStatus 11 8 0

/-- APPEND (R319). -/
def doMemAppend (s : State) : State :=
  let e := s.reg Reg.memRetireEntry
  if !s.hostOpen || s.mem.pendingRetire.isSome then s
  else if !retireOk e then s.retireErr 1
  else if s.retireArea e then s.retireErr 2
  else if s.retireKnown e then s.retireDone
  else if 4096 ≤ s.nvm.retire.length then s.retireErr 4
  else { s.setBit Reg.memRetireStatus 0 true with mem := { s.mem with pendingRetire := some e } }
/-- APPEND. -/
def execMemAppend (s : State) : Res := guarded Instr.memAppend.wf s doMemAppend

/-- RETIRE_APPEND_DONE (R319, R320): the entry is durable and waits for the next commit or reset, or the NVM write failed. -/
def doRetireAppendDone (ok : Bool) (s : State) : State :=
  match s.mem.pendingRetire with
  | none => s
  | some e =>
    let s := { s.setBit Reg.memRetireStatus 0 false with mem := { s.mem with pendingRetire := none } }
    if ok then
      let s := { s with nvm := { s.nvm with retire := s.nvm.retire ++ [e] } }
      let s := s.retireDone.setBit Reg.memRetireStatus 4 true
      let s := s.setBit Reg.memRetireStatus 3 (decide (4096 ≤ s.nvm.retire.length))
      s.setNat Reg.memRetireCount s.nvm.retire.length
    else s.retireErr 3
/-- RETIRE_APPEND_DONE. -/
def execRetireAppendDone (ok : Bool) (s : State) : Res := guarded (Instr.retireAppendDone ok).wf s (doRetireAppendDone ok)

/-! ### Scrubbing, refresh and calibration -/

/-- PATROL_SCRUB (R307): the next block of a column is read. -/
def doPatrolScrub (col : Nat) (env : Env) (s : State) : State :=
  let s := s.arrive env
  let k := SMap.get (fun _ => 0) s.mem.scrubPos col
  let q := 64 * k
  let s := (s.readBlock Req.scrubber (2 ^ 32 * col + s.offOfCell col q) col q false).2
  { s with mem := { s.mem with scrubPos := SMap.set (fun _ => 0) s.mem.scrubPos col ((k + 1) % 0xC00000) } }
/-- PATROL_SCRUB. -/
def execPatrolScrub (col : Nat) (env : Env) (s : State) : Res := guarded (Instr.patrolScrub col env).wf s (doPatrolScrub col env)

/-- REFRESH_DUE (R306, R353): a refresh is owed to a running sequence; a fifth is forced with the four owed ones. -/
def doRefreshDue (col bank : Nat) (s : State) : State :=
  match s.inSeq col bank with
  | false => s.runOwed col bank
  | true =>
    let n := SMap.get (fun _ => 0) s.mem.owed (32 * col + bank)
    if 4 ≤ n then (((s.runOwed col bank).addCnt Reg.nbuCntForced 1).bumpFld (Reg.nbuColOwed col) 31 16 1).setBit Reg.nbuEvent 2 true
    else { s with mem := { s.mem with owed := SMap.set (fun _ => 0) s.mem.owed (32 * col + bank) (n + 1) } }
/-- REFRESH_DUE. -/
def execRefreshDue (col bank : Nat) (s : State) : Res := guarded (Instr.refreshDue col bank).wf s (doRefreshDue col bank)

/-- Layer number of a memory layer (R522). -/
def mlLayer (ml : Nat) : Nat := 3 * (ml / 2) + 2 + ml % 2

/-- Governing temperature of the memory layers over a column, in 1/16 °C. -/
def State.colTemp (s : State) (col part : Nat) : Nat := s.fld (Reg.thmLayer (mlLayer (2 * (col / 64) + part))) 11 0

/-- A memory layer's temperature has moved 5 K since the column's last calibration. -/
def State.colMoved (s : State) (col part : Nat) : Bool :=
  let now := s.colTemp col part
  let then' := SMap.get (fun _ => 0) s.mem.calTemp (2 * col + part)
  decide (then' + 80 ≤ now) || decide (now + 80 ≤ then')

/-- A column's calibration is due (R634): asked for, 30 minutes old, or its temperature has moved. -/
def State.calDue (s : State) (col : Nat) : Bool :=
  decide (SMap.get (fun _ => 0) s.mem.calPending col = 1) || decide (SMap.get (fun _ => 0) s.mem.calTick col + 45000000000 ≤ s.tick) ||
  s.colMoved col 0 || s.colMoved col 1

/-- Calibration state of a column: 0 none, 1 asked for, 2 running. -/
def State.setCal (s : State) (col v : Nat) : State :=
  { s with mem := { s.mem with calPending := SMap.set (fun _ => 0) s.mem.calPending col v } }

/-- MEM_CALIBRATION_DUE (R634 step 1). -/
def doMemCalibrationDue (col : Nat) (s : State) : State :=
  if s.calDue col && !s.calibrating col then (s.setCal col 2).setBit (Reg.memColStatus col) 8 true else s
/-- MEM_CALIBRATION_DUE. -/
def execMemCalibrationDue (col : Nat) (s : State) : Res := guarded (Instr.memCalibrationDue col).wf s (doMemCalibrationDue col)

/-- The MEM_CAL commands that wait for a column end (R633). -/
def State.calTests (s : State) (col : Nat) : State :=
  let ids := (s.cmds.filter (fun c => decide (c.op = 0x80) && decide (dbyte c.desc 0x10 = 3) && decide (dbyte c.desc 0x11 = col) &&
    decide (c.phase = .running))).map (fun c => c.id)
  ids.foldl (fun (s : State) i => s.endCmd i St.ok none) s

/-- MEM_CALIBRATION_DONE (R634 step 3). -/
def doMemCalibrationDone (col : Nat) (s : State) : State :=
  if s.calibrating col then
    let s := (s.setCal col 0).setBit (Reg.memColStatus col) 8 false
    let temps := SMap.set (fun _ => 0) (SMap.set (fun _ => 0) s.mem.calTemp (2 * col) (s.colTemp col 0)) (2 * col + 1) (s.colTemp col 1)
    let s := { s with mem := { s.mem with calTick := SMap.set (fun _ => 0) s.mem.calTick col s.tick, calTemp := temps } }
    s.calTests col
  else s
/-- MEM_CALIBRATION_DONE. -/
def execMemCalibrationDone (col : Nat) (s : State) : Res := guarded (Instr.memCalibrationDone col).wf s (doMemCalibrationDone col)

end Sys2Proof.Machine
end

