-- ==== Sys2Proof/Machine/Nbu.lean ====
section
/-! DEFINITION. The rows of the near-bank units: NBU_RUN, NBU_DISPATCH, NBU_SEQUENCE_END and the micro-ops. Each micro-op's row
acts when that micro-op stands at the NBU's program counter. -/
namespace Sys2Proof.Machine

/-- NBU_RUN (R334): the command is ready to start and waits for its NBUs. -/
def doNbuRun (id : Nat) (env : Env) (s : State) : State :=
  match s.starts id 0x40 with
  | none => s
  | some c => { ((s.arrive env).beginCmd c.id (.nbu [])) with nbuReady := s.nbuReady ++ [c.id] }
/-- NBU_RUN. -/
def execNbuRun (id : Nat) (env : Env) (s : State) : Res := guarded (Instr.nbuRun id env).wf s (doNbuRun id env)

/-- NBU_DISPATCH (R338, R339, R355): a ready command starts once every NBU it names is idle and reserved by no earlier one. -/
def doNbuDispatch (id : Nat) (s : State) : State :=
  match s.cmd? id with
  | none => s
  | some c => if s.mayDispatch c then s.dispatch c else s
/-- NBU_DISPATCH. -/
def execNbuDispatch (id : Nat) (s : State) : Res := guarded (Instr.nbuDispatch id).wf s (doNbuDispatch id)

/-- NBU_SEQUENCE_END (R339): the sequence of an NBU has ended; a firmware program's work is done with it, and the units of the
command end with its last sequence. -/
def doNbuSequenceEnd (col bank : Nat) (s : State) : State :=
  match s.nbu col bank with
  | none => s
  | some q => if q.prog.length ≤ q.pc && (q.ended || s.firmwareIssues q) then s.sequenceEnd q else s
/-- NBU_SEQUENCE_END. -/
def execNbuSequenceEnd (col bank : Nat) (s : State) : Res :=
  guarded (Instr.nbuSequenceEnd col bank).wf s (doNbuSequenceEnd col bank)

/-- END (R341): the sequence on this NBU ends. -/
def doNbuEnd (col bank : Nat) (s : State) : State :=
  match s.microOp col bank 0x00 with
  | none => s
  | some (q, u) => ((s.warnDuty q).putMicro q u false).nbuEnd q
/-- END. -/
def execNbuEnd (col bank : Nat) (s : State) : Res := guarded (Instr.nbuEnd col bank).wf s (doNbuEnd col bank)

/-- LD (R341, R342, R346). -/
def doNbuLd (col bank : Nat) (env : Env) (s : State) : State :=
  match s.microOp col bank 0x01 with
  | none => s
  | some (q, u) => (((s.warnDuty q).arrive env).nbuLoad q u).afterMicro q.cmd
/-- LD. -/
def execNbuLd (col bank : Nat) (env : Env) (s : State) : Res := guarded (Instr.nbuLd col bank env).wf s (doNbuLd col bank env)

/-- ST (R341, R342, R346). -/
def doNbuSt (col bank : Nat) (env : Env) (s : State) : State :=
  match s.microOp col bank 0x02 with
  | none => s
  | some (q, u) => (((s.warnDuty q).arrive env).nbuStore q u).afterMicro q.cmd
/-- ST. -/
def execNbuSt (col bank : Nat) (env : Env) (s : State) : Res := guarded (Instr.nbuSt col bank env).wf s (doNbuSt col bank env)

/-- FMA (R341). -/
def doNbuFma (col bank : Nat) (s : State) : State := s.microStep col bank 0x08 uFma
/-- FMA. -/
def execNbuFma (col bank : Nat) (s : State) : Res := guarded (Instr.nbuFma col bank).wf s (doNbuFma col bank)

/-- MUL (R341). -/
def doNbuMul (col bank : Nat) (s : State) : State := s.microStep col bank 0x09 uMul
/-- MUL. -/
def execNbuMul (col bank : Nat) (s : State) : Res := guarded (Instr.nbuMul col bank).wf s (doNbuMul col bank)

/-- ADD (R341). -/
def doNbuAdd (col bank : Nat) (s : State) : State := s.microStep col bank 0x0A uAdd
/-- ADD. -/
def execNbuAdd (col bank : Nat) (s : State) : Res := guarded (Instr.nbuAdd col bank).wf s (doNbuAdd col bank)

/-- MAX (R341). -/
def doNbuMax (col bank : Nat) (s : State) : State := s.microStep col bank 0x0B uMax
/-- MAX. -/
def execNbuMax (col bank : Nat) (s : State) : Res := guarded (Instr.nbuMax col bank).wf s (doNbuMax col bank)

/-- SCALE (R341). -/
def doNbuScale (col bank : Nat) (s : State) : State := s.microStep col bank 0x0C uScale
/-- SCALE. -/
def execNbuScale (col bank : Nat) (s : State) : Res := guarded (Instr.nbuScale col bank).wf s (doNbuScale col bank)

/-- SGN (R341). -/
def doNbuSgn (col bank : Nat) (s : State) : State := s.microStep col bank 0x0D uSgn
/-- SGN. -/
def execNbuSgn (col bank : Nat) (s : State) : Res := guarded (Instr.nbuSgn col bank).wf s (doNbuSgn col bank)

/-- CLIP (R341). -/
def doNbuClip (col bank : Nat) (s : State) : State := s.microStep col bank 0x0E uClip
/-- CLIP. -/
def execNbuClip (col bank : Nat) (s : State) : Res := guarded (Instr.nbuClip col bank).wf s (doNbuClip col bank)

/-- EXP (R341): which value within 2 units in the last place (R345) each lane takes is open (log entry 16). -/
def doNbuExp (col bank : Nat) (s : State) : State :=
  ({ s with freeCtr := s.freeCtr + 64 }).microStep col bank 0x0F (uExp (fun i => Config.freeNat (s.freeCtr + i)))
/-- EXP. -/
def execNbuExp (col bank : Nat) (s : State) : Res := guarded (Instr.nbuExp col bank).wf s (doNbuExp col bank)

/-- HSUM (R341). -/
def doNbuHsum (col bank : Nat) (s : State) : State := s.microStep col bank 0x10 uHsum
/-- HSUM. -/
def execNbuHsum (col bank : Nat) (s : State) : Res := guarded (Instr.nbuHsum col bank).wf s (doNbuHsum col bank)

/-- HMAX (R341). -/
def doNbuHmax (col bank : Nat) (s : State) : State := s.microStep col bank 0x11 uHmax
/-- HMAX. -/
def execNbuHmax (col bank : Nat) (s : State) : Res := guarded (Instr.nbuHmax col bank).wf s (doNbuHmax col bank)

/-- ARG (R341). -/
def doNbuArg (col bank : Nat) (s : State) : State := s.microStep col bank 0x18 uArg
/-- ARG. -/
def execNbuArg (col bank : Nat) (s : State) : Res := guarded (Instr.nbuArg col bank).wf s (doNbuArg col bank)

/-- PSET (R341). -/
def doNbuPset (col bank : Nat) (s : State) : State := s.microStep col bank 0x20 uPset
/-- PSET. -/
def execNbuPset (col bank : Nat) (s : State) : Res := guarded (Instr.nbuPset col bank).wf s (doNbuPset col bank)

/-- PADD (R341). -/
def doNbuPadd (col bank : Nat) (s : State) : State := s.microStep col bank 0x21 uPadd
/-- PADD. -/
def execNbuPadd (col bank : Nat) (s : State) : Res := guarded (Instr.nbuPadd col bank).wf s (doNbuPadd col bank)

/-- PARG (R341). -/
def doNbuParg (col bank : Nat) (s : State) : State := s.microStep col bank 0x22 uParg
/-- PARG. -/
def execNbuParg (col bank : Nat) (s : State) : Res := guarded (Instr.nbuParg col bank).wf s (doNbuParg col bank)

/-- LSET (R341). -/
def doNbuLset (col bank : Nat) (s : State) : State := s.microStep col bank 0x28 uLset
/-- LSET. -/
def execNbuLset (col bank : Nat) (s : State) : Res := guarded (Instr.nbuLset col bank).wf s (doNbuLset col bank)

/-- LOOP (R341). -/
def doNbuLoop (col bank : Nat) (s : State) : State := s.microStep col bank 0x29 uLoop
/-- LOOP. -/
def execNbuLoop (col bank : Nat) (s : State) : Res := guarded (Instr.nbuLoop col bank).wf s (doNbuLoop col bank)

/-- JMP (R341). -/
def doNbuJmp (col bank : Nat) (s : State) : State := s.microStep col bank 0x2B uJmp
/-- JMP. -/
def execNbuJmp (col bank : Nat) (s : State) : Res := guarded (Instr.nbuJmp col bank).wf s (doNbuJmp col bank)

/-- BRLT (R341). -/
def doNbuBrlt (col bank : Nat) (s : State) : State :=
  s.microStep col bank 0x2A (fun q u => uBrlt (2048 * (s.seqUnits q (uDst u)).length) q u)
/-- BRLT. -/
def execNbuBrlt (col bank : Nat) (s : State) : Res := guarded (Instr.nbuBrlt col bank).wf s (doNbuBrlt col bank)

end Sys2Proof.Machine
end

