-- ==== Sys2Proof/Machine/Network.lean ====
section
/-! DEFINITION. The rows of the cores and the on-die network: DMA, FENCE, COUNTER_OP_ADD and COUNTER_OP_WAIT_GE. -/
namespace Sys2Proof.Machine

/-- DMA (R265–R267, R457): a transfer inside the module runs to its end; one with a fabric peer sends its frames. -/
def doDma (id : Nat) (env : Env) (s : State) : State :=
  match s.starts id 0x50 with
  | none => s
  | some c => s.launch c (fun c => (s.arrive env).dmaRun c)
/-- DMA. -/
def execDma (id : Nat) (env : Env) (s : State) : Res := guarded (Instr.dma id env).wf s (doDma id env)

/-- The writes of earlier commands of the context that a system fence still waits for (R286). -/
def State.peerWrites (s : State) (ctx : Nat) : Nat :=
  s.fab.flows.foldl (fun n e => n + (match e.2 with
    | some f => f.unacked.countP (fun t => t.typ == 0x01 && t.ctx == some ctx)
    | none => 0)) 0

/-- FENCE (R168, R286): it starts when every earlier command of its context has committed; writes of a committed command are
visible, and with SCOPE 2 the peers that were written must have acknowledged. -/
def doFence (id : Nat) (s : State) : State :=
  match s.starts id 0x60 with
  | none => s
  | some c =>
    if dbyte c.desc 0x10 = 2 && decide (0 < s.peerWrites c.ctx) then s
    else (s.beginCmd id .none).endCmd id St.ok none
/-- FENCE. -/
def execFence (id : Nat) (s : State) : Res := guarded (Instr.fence id).wf s (doFence id)

/-- A COUNTER_OP that may start, with its OP. -/
def State.counterStarts (s : State) (id op : Nat) : Option Cmd :=
  match s.starts id 0x61 with
  | some c => if dbyte c.desc 0x18 = op then some c else none
  | none => none

/-- COUNTER_OP_ADD (R269, R272). -/
def doCounterAdd (id : Nat) (s : State) : State :=
  match s.counterStarts id 0 with
  | none => s
  | some c =>
    let r := (s.beginCmd id .none).ctrAdd (s.polderOf c) (ctrRef c.desc 0x10) (ctrValue c.desc)
    r.2.ctrEnd id (s.polderOf c) (ctrRef c.desc 0x10) r.1
/-- COUNTER_OP_ADD. -/
def execCounterAdd (id : Nat) (s : State) : Res := guarded (Instr.counterAdd id).wf s (doCounterAdd id)

/-- COUNTER_OP_WAIT_GE (R269, R272): it ends at once when it holds, and otherwise when an ADD makes it hold. -/
def doCounterWaitGe (id : Nat) (s : State) : State :=
  match s.counterStarts id 1 with
  | none => s
  | some c =>
    let p := s.polderOf c
    let ref := ctrRef c.desc 0x10
    let s := s.beginCmd id .wait
    let s := if ref.scope = 0 then s.waitOpens ref.unit else s
    if s.ctrFenced ref p then s.endCmd id St.fenced none
    else match s.ctrGet p ref with
      | (none, s) => s.ctrEnd id p ref St.uncorrectable
      | (some x, s) => if waitHolds x (ctrValue c.desc) then s.endCmd id St.ok none else s
/-- COUNTER_OP_WAIT_GE. -/
def execCounterWaitGe (id : Nat) (s : State) : Res := guarded (Instr.counterWaitGe id).wf s (doCounterWaitGe id)

end Sys2Proof.Machine
end

