-- ==== Sys2Proof/Machine/Ports.lean ====
section
/-! DEFINITION. Fabric ports: links (R440, R476), address resolution, echo and discarded traffic (R439), and lane retraining (R635,
R636). -/
namespace Sys2Proof.Machine

/-! ### Links -/

/-- A port has its link. -/
def State.portUp (s : State) (p : Nat) : Bool := s.bit (Reg.fabPortStatus p) 0

/-- Devices that some PEERS entry of the image names. -/
def State.peerDevices (s : State) : List Nat := (((s.image.map (fun im => im.peers)).getD []).map (fun r => r.device)).eraseDups

/-- PORT_LINK_UP (R440, R611 step 5): a port of the variant comes up with its 8 lanes, and frames that waited for a path go out (R444). -/
def doPortLinkUp (port : Nat) (s : State) : State :=
  if !s.recovery && s.pcie.bring.isNone && decide (port < portCount s.variant) && !s.portUp port then
    let s := (s.setBit (Reg.fabPortStatus port) 0 true).setFld (Reg.fabPortStatus port) 19 16 8
    s.peerDevices.foldl State.pump s
  else s
/-- PORT_LINK_UP. -/
def execPortLinkUp (port : Nat) (s : State) : Res := guarded (Instr.portLinkUp port).wf s (doPortLinkUp port)

/-! ### Lane retraining -/

/-- The retraining of a port. -/
def State.retraining (s : State) (port : Nat) : Option Retrain := SMap.get (fun _ => none) s.fab.retrain port

/-- It replaced. -/
def State.setRetrain (s : State) (port : Nat) (r : Option Retrain) : State :=
  { s with fab := { s.fab with retrain := SMap.set (fun _ => none) s.fab.retrain port r } }

/-- Step 1 of R635 begins on a port. -/
def State.beginRetrain (s : State) (port : Nat) (r : Retrain) : State :=
  (s.setRetrain port (some { r with step := 1 })).setBit (Reg.fabPortStatus port) 3 true

/-- A retraining is asked for: two ports at most retrain at once, and others wait (R635). -/
def State.startRetrain (s : State) (port : Nat) (r : Retrain) : State :=
  if (s.retraining port).isSome || decide (2 ≤ s.fab.retrain.length) then
    { s with fab := { s.fab with retrainQ := s.fab.retrainQ ++ [(port, r)] } }
  else s.beginRetrain port r

/-- The first waiting retraining whose port is free takes its turn. -/
def State.nextRetrain (s : State) : State :=
  if 2 ≤ s.fab.retrain.length then s
  else match s.fab.retrainQ.find? (fun x => (s.retraining x.1).isNone) with
    | none => s
    | some x => { s with fab := { s.fab with retrainQ := s.fab.retrainQ.erase x } }.beginRetrain x.1 x.2

/-- The FAB_RETRAIN command of a retraining ends with ST_OK (R633). -/
def State.retrainTold (s : State) (r : Retrain) : State := match r.cmd with
  | some id => s.endCmd id St.ok none
  | none => s

/-- PORT_LINK_DOWN (R476, R636): the port leaves service; its retraining is abandoned; frames that were on its paths are sent
again on others by R450. -/
def doPortLinkDown (port : Nat) (s : State) : State :=
  if s.portUp port then
    let s := ((s.setBit (Reg.fabPortStatus port) 0 false).setBit (Reg.fabPortStatus port) 3 false).setFld (Reg.fabPortStatus port) 19 16 0
    let its := (s.fab.retrainQ.filter (fun x => x.1 == port)).map (fun x => x.2)
    let gone := match s.retraining port with
      | some r => r :: its
      | none => its
    let s := gone.foldl State.retrainTold s
    let s := { s with fab := { s.fab with retrainQ := s.fab.retrainQ.filter (fun x => x.1 != port) } }
    (s.setRetrain port none).nextRetrain
  else s
/-- PORT_LINK_DOWN. -/
def execPortLinkDown (port : Nat) (s : State) : Res := guarded (Instr.portLinkDown port).wf s (doPortLinkDown port)

/-- LANE_RETRAIN_TRIGGER (R635): a lane already chosen is not chosen twice. -/
def doLaneRetrainTrigger (port lane : Nat) (s : State) : State :=
  let chosen := (match s.retraining port with
    | some r => r.lane = lane || r.todo.contains lane
    | none => false) || s.fab.retrainQ.any (fun x => x.1 == port && (x.2.lane == lane || x.2.todo.contains lane))
  if s.portUp port && !chosen then s.startRetrain port ⟨lane, 1, [], none⟩ else s
/-- LANE_RETRAIN_TRIGGER. -/
def execLaneRetrainTrigger (port lane : Nat) (s : State) : Res := guarded (Instr.laneRetrainTrigger port lane).wf s (doLaneRetrainTrigger port lane)

/-- LANE_RETRAIN_STEP_DONE (R635): the port runs on 7 lanes during step 2; after step 3 the next lane, or the next port, follows. -/
def doLaneRetrainStepDone (port : Nat) (s : State) : State :=
  match s.retraining port with
  | none => s
  | some r =>
    if r.step = 1 then (s.setRetrain port (some { r with step := 2 })).setFld (Reg.fabPortStatus port) 19 16 7
    else if r.step = 2 then (s.setRetrain port (some { r with step := 3 })).setFld (Reg.fabPortStatus port) 19 16 8
    else match r.todo with
      | lane :: rest => s.beginRetrain port ⟨lane, 1, rest, r.cmd⟩
      | [] => (((s.setBit (Reg.fabPortStatus port) 3 false).setRetrain port none).retrainTold r).nextRetrain
/-- LANE_RETRAIN_STEP_DONE. -/
def execLaneRetrainStepDone (port : Nat) (s : State) : Res := guarded (Instr.laneRetrainStepDone port).wf s (doLaneRetrainStepDone port)

/-! ### Other packets (R439) -/


/-- A frame is discarded under R439. -/
def State.rxDrop (s : State) (port : Nat) : State := s.addCnt (Reg.fabPortCntRxDiscard port) 1

/-- A port receives. -/
def State.receives (s : State) (port : Nat) : Bool := s.ready && s.portUp port

/-- The six bytes of a port's MAC address (R479). -/
def State.macBytes (s : State) (port : Nat) : List Byte := leBytes 2 (s.nat (Reg.fabPortMacHi port)) ++ leBytes 4 (s.nat (Reg.fabPortMacLo port))


/-- ARP_REQUEST (R439): answered for the port's own address; its asker's address is learnt. -/
def doArpRequest (port target asker mac : Nat) (s : State) : State :=
  if s.receives port then
    let s := s.countRx port (arpSize target) false
    if s.inService port && decide (target = s.portAddr port) then
      (s.setArp port asker mac).putEther port 2 mac asker (arpSize asker) (beBytes 16 target ++ s.macBytes port)
    else s.rxDrop port
  else s
/-- ARP_REQUEST. -/
def execArpRequest (port target asker mac : Nat) (s : State) : Res :=
  guarded (Instr.arpRequest port target asker mac).wf s (doArpRequest port target asker mac)

/-- The ports in service with the peer addresses that their paths use (R441, R443). -/
def State.arpTargets (s : State) : List (Nat × Nat) :=
  ((List.range 8).flatMap (fun p => if s.inService p then
    ((((s.image.map (fun im => im.peers)).getD []).filter (fun r => r.portMask.testBit p)).map (fun r => (p, r.addr))) else [])).eraseDups

/-- ARP_REFRESH (R439): every peer address not exchanged with for 30 s is asked for again. -/
def doArpRefresh (s : State) : State :=
  if s.ready then
    let old := fun (x : Nat × Nat) => s.fab.arp.all (fun e => !(e.1 == x.1 && e.2.1 == x.2) || decide (e.2.2.2 + 750000000 ≤ s.tick))
    (s.arpTargets.filter old).foldl (fun (s : State) x => s.askArp x.1 x.2) s
  else s
/-- ARP_REFRESH. -/
def execArpRefresh (s : State) : Res := guarded Instr.arpRefresh.wf s doArpRefresh

/-- ICMP_ECHO (R439): answered with its data while FAB_CTRL.ICMP_ECHO is 1; a frame above 9,216 bytes is discarded. -/
def doIcmpEcho (port target asker : Nat) (data : List Byte) (s : State) : State :=
  if s.receives port then
    let s := s.countRx port (data.length + ipOver target) false
    if s.inService port && s.bit Reg.fabCtrl 8 && decide (target = s.portAddr port) && decide (data.length + ipOver target ≤ 9216) then
      s.putPacket port 3 asker (data.length + ipOver asker) data
    else s.rxDrop port
  else s
/-- ICMP_ECHO. -/
def execIcmpEcho (port target asker : Nat) (data : List Byte) (s : State) : Res :=
  guarded (Instr.icmpEcho port target asker data).wf s (doIcmpEcho port target asker data)

/-- PAUSE_FRAME (R439): discarded; PAUSE_SEEN. -/
def doPauseFrame (port : Nat) (s : State) : State :=
  if s.receives port then ((s.countRx port 64 false).rxDrop port).setBit (Reg.fabPortStatus port) 2 true else s
/-- PAUSE_FRAME. -/
def execPauseFrame (port : Nat) (s : State) : Res := guarded (Instr.pauseFrame port).wf s (doPauseFrame port)

/-- RX_DISCARD (R439): counted; the row does not say how long the frame was, so that is a free value. -/
def doRxDiscard (port : Nat) (s : State) : State :=
  if s.receives port then (s.fresh.countRx port (Config.freeNat s.freeCtr) false).rxDrop port else s
/-- RX_DISCARD. -/
def execRxDiscard (port : Nat) (s : State) : Res := guarded (Instr.rxDiscard port).wf s (doRxDiscard port)

end Sys2Proof.Machine
end

