-- ==== Sys2Proof/Machine/Rdma.lean ====
section
/-! DEFINITION. The export table (R456, R481) and the RoCEv2 responder on it (R467, R468). -/
namespace Sys2Proof.Machine

/-! ### Endpoints -/

/-- An endpoint entry, with the control word to be written, may become VALID (R456). -/
def State.epOk (s : State) (e : Nat) (v : Word) : Bool :=
  let base := s.nat (Reg.fabEpBaseLo e) + 2 ^ 32 * s.fld (Reg.fabEpBaseHi e) 15 0
  let n := s.nat (Reg.fabEpLength e)
  decide (addrSpace base = 0) && decide (base % 4096 = 0) && decide (0 < n) && decide (n % 4096 = 0) && decide (n ≤ 2 ^ 28) &&
  rangeOk base n && s.granted (Machine.fld v 28 24) (addrCore base) (addrOff base) n (Machine.fld v 17 16)

/-- A write of FAB_EP_CTRL (R456, R481): a VALID entry takes only a write that clears VALID. -/
def State.writeEpCtrl (s : State) (e : Nat) (v : Word) : State :=
  let w := v &&& 0x9F03FFFF
  if s.bit (Reg.fabEpCtrl e) 31 then (if v.getLsbD 31 then s else s.setReg (Reg.fabEpCtrl e) w)
  else if !v.getLsbD 31 || s.epOk e v then s.setReg (Reg.fabEpCtrl e) w
  else (s.setReg (Reg.fabEpCtrl e) (w &&& 0x7FFFFFFF)).setBit Reg.fabStatus 8 true

/-- FAB_EP_VALID (R456): the physical function writes the control word of an endpoint. -/
def doFabEpValid (ep : Nat) (v : Word) (s : State) : State := if s.hostOpen then s.writeEpCtrl ep v else s
/-- FAB_EP_VALID. -/
def execFabEpValid (ep : Nat) (v : Word) (s : State) : Res := guarded (Instr.fabEpValid ep v).wf s (doFabEpValid ep v)

/-! ### RoCEv2 -/

/-- Remote GID of a queue pair, as an address. -/
def State.qpGid (s : State) (q : Nat) : Nat := beNat ((List.range 4).flatMap (fun i => leBytes 4 (s.nat (Reg.fabQpGid q i))))

/-- A packet to the remote side of a queue pair: kind, PSN, and what follows; `head` is the size of its headers after UDP. -/
def State.qpSend (s : State) (port q kind psn head : Nat) (data : List Byte) : State :=
  let gid := s.qpGid q
  s.putPacket port kind gid (ipOver gid + head + data.length)
    (beBytes 3 (s.fld (Reg.fabQpRemote q) 23 0) ++ beBytes 3 (psn % 2 ^ 24) ++ data)

/-- NAK codes (R468): 0 PSN Sequence Error, 1 Invalid Request, 2 Remote Access Error, 3 Remote Operational Error. A NAK ends the
WRITE message in progress. -/
def State.qpNak (s : State) (q : Rdma) (psn code : Nat) : State :=
  let s := { s with fab := { s.fab with qps := SMap.set (fun _ => none) s.fab.qps q.qp none } }
  s.qpSend q.port q.qp 7 psn 20 [BitVec.ofNat 8 code]

/-- A message that is complete, or part of one, is acknowledged; the expected PSN advances by `n`. -/
def State.qpAdvance (s : State) (q : Rdma) (n : Nat) : State := s.setNat (Reg.fabQpPsn q.qp) ((q.psn + n) % 2 ^ 24)

/-- The access that an R_Key names (R468): none where it meets Remote Access Error. -/
def State.qpAccess (s : State) (qp rkey va n right : Nat) : Option (Nat × Nat) :=
  let e := rkey % 65536
  let p := s.fld (Reg.fabEpCtrl e) 28 24
  if decide (e < 4096) && s.bit (Reg.fabEpCtrl e) 31 && decide (s.fld (Reg.fabEpCtrl e) 15 0 = rkey / 65536) && decide (p = s.fld (Reg.fabQpCtrl qp) 28 24) &&
      s.bit (Reg.fabEpCtrl e) (16 + right) && decide (va + n ≤ s.nat (Reg.fabEpLength e)) && !s.touchesRetired (s.epAddr e va).2 n then
    some (s.epAddr e va)
  else none

/-- A CE-marked request is answered with at most one CNP per queue pair in 50 µs (R467). -/
def State.qpCnp (s : State) (q : Rdma) : State :=
  if q.ce && (match SMap.get (fun _ => none) s.fab.lastCnp q.qp with
    | some t => decide (t + 1250 ≤ s.tick)
    | none => true) then
    { s with fab := { s.fab with lastCnp := SMap.set (fun _ => none) s.fab.lastCnp q.qp (some s.tick) } }.qpSend q.port q.qp 4 0 32 []
  else s

/-- A RoCEv2 packet reaches its queue pair: its port is in service, its ICRC is right, and the queue pair VALID; another is discarded
(R439, R467). -/
def State.qpIntake (s : State) (q : Rdma) : Bool × State :=
  if !s.receives q.port then (false, s)
  else
    let head := if q.kind = 0 || q.kind = 3 || q.kind = 4 then 32 else 16
    let s := s.countRx q.port (ipOver (s.qpGid q.qp) + head + q.data.length) q.ce
    if s.inService q.port && q.icrc && decide (0x100000 ≤ q.qpn) && decide (q.qp < 1024) && s.bit (Reg.fabQpCtrl q.qp) 31 then (true, s.qpCnp q)
    else (false, s.rxDrop q.port)

/-- Where the PSN of a request stands: 0 expected, 1 a duplicate, 2 beyond. -/
def State.qpOrder (s : State) (q : Rdma) : Nat :=
  let d := (q.psn + 2 ^ 24 - s.fld (Reg.fabQpPsn q.qp) 23 0) % 2 ^ 24
  if d = 0 then 0 else if 2 ^ 23 ≤ d then 1 else 2

/-- The place of a WRITE packet's data: R_Key, virtual address and bytes of the message from it on; none where the packet does not
fit its message (R467). -/
def State.writePart (s : State) (q : Rdma) : Option (Nat × Nat × Nat) :=
  let open' := SMap.get (fun _ => none) s.fab.qps q.qp
  let n := q.data.length
  let part := if q.kind = 0 || q.kind = 3 then (if open'.isNone then some (q.rkey, q.va, q.len) else none) else open'
  match part with
  | none => none
  | some x =>
    let fits := if q.kind = 0 || q.kind = 1 then decide (n = 4096) && decide (n < x.2.2) else decide (n = x.2.2) && decide (n ≤ 4096)
    if fits then some x else none

/-- A WRITE packet in its turn (R468). -/
def State.rdmaWrite (s : State) (q : Rdma) : State :=
  match s.writePart q with
  | none => s.qpNak q q.psn 1
  | some (rkey, va, left) =>
    match s.qpAccess q.qp rkey va left 1 with
    | none => s.qpNak q q.psn 2
    | some a =>
      let r := s.physWrite Req.peer (addrCore a.2) (addrOff a.2) q.data
      if r.1 ≠ 0 then r.2.qpNak q q.psn 3
      else
        let n := q.data.length
        let more := q.kind = 0 || q.kind = 1
        let s := { r.2 with fab := { r.2.fab with qps := SMap.set (fun _ => none) r.2.fab.qps q.qp (if more then some (rkey, va + n, left - n) else none) } }
        (s.qpAdvance q 1).qpSend q.port q.qp 5 q.psn 20 []

/-- RDMA_WRITE (R467, R468). -/
def doRdmaWrite (q : Rdma) (env : Env) (s : State) : State :=
  match (s.arrive env).qpIntake q with
  | (false, s) => s
  | (true, s) =>
    let e := s.fld (Reg.fabQpPsn q.qp) 23 0
    if s.qpOrder q = 0 then s.rdmaWrite q
    else if s.qpOrder q = 1 then s.qpSend q.port q.qp 5 (e + 2 ^ 24 - 1) 20 []
    else s.qpNak q e 0
/-- RDMA_WRITE. -/
def execRdmaWrite (q : Rdma) (env : Env) (s : State) : Res := guarded (Instr.rdmaWrite q env).wf s (doRdmaWrite q env)

/-- RDMA READ Responses of at most 4,096 bytes each (R467). -/
def State.qpRespond (s : State) (q : Rdma) (data : List Byte) : State :=
  let ps := if data.isEmpty then [[]] else chunks 4096 data
  ps.zipIdx.foldl (fun (s : State) x => s.qpSend q.port q.qp 6 (q.psn + x.2) 20 x.1) s

/-- A READ Request in its turn (R468). -/
def State.rdmaRead (s : State) (q : Rdma) (fresh : Bool) : State :=
  match s.qpAccess q.qp q.rkey q.va q.len 0 with
  | none => s.qpNak q q.psn 2
  | some a =>
    let r := s.physRead Req.peer (addrCore a.2) (addrOff a.2) q.len
    if !r.2.1.isEmpty then r.2.2.qpNak q q.psn 3
    else
      let s := if fresh then r.2.2.qpAdvance q (max 1 (cdiv q.len 4096)) else r.2.2
      s.qpRespond q r.1

/-- RDMA_READ_REQUEST (R467, R468): a repeated request is answered again. -/
def doRdmaRead (q : Rdma) (env : Env) (s : State) : State :=
  match (s.arrive env).qpIntake q with
  | (false, s) => s
  | (true, s) =>
    if s.qpOrder q = 2 then s.qpNak q (s.fld (Reg.fabQpPsn q.qp) 23 0) 0
    else if (SMap.get (fun _ => none) s.fab.qps q.qp).isSome && decide (s.qpOrder q = 0) then s.qpNak q q.psn 1
    else s.rdmaRead q (decide (s.qpOrder q = 0))
/-- RDMA_READ_REQUEST. -/
def execRdmaRead (q : Rdma) (env : Env) (s : State) : Res := guarded (Instr.rdmaRead q env).wf s (doRdmaRead q env)

/-- INVALID_REQUEST (R467): NAK Invalid Request. -/
def doRdmaInvalid (q : Rdma) (s : State) : State :=
  match s.qpIntake q with
  | (false, s) => s
  | (true, s) => s.qpNak q q.psn 1
/-- INVALID_REQUEST. -/
def execRdmaInvalid (q : Rdma) (s : State) : Res := guarded (Instr.rdmaInvalid q).wf s (doRdmaInvalid q)

end Sys2Proof.Machine
end

