-- ==== Sys2Proof/Machine/RegOps.lean ====
section
/-! DEFINITION. What a function sees of BAR0 (R142, R612, R621), the registers that follow state held elsewhere, and the 64-bit counters
(R223). -/
namespace Sys2Proof.Machine

/-! ### Visibility -/

/-- In recovery mode: the ID_* and CAP_* block, the SEC_FW_* registers, and what shows the frozen records (R621, R653). -/
def recoveryReg (a : Nat) : Bool :=
  decide (a < 0x10000) || (decide (0x800000 ≤ a) && decide (a < 0x800010)) || (decide (0x801000 ≤ a) && decide (a < 0x802000)) ||
  [Reg.almStatus, Reg.almFrozenSel, Reg.almFrozenHold].contains a || (decide (0x630000 ≤ a) && decide (a < 0x630100)) ||
  (decide (0x640000 ≤ a) && decide (a < 0x660000))

/-- Until STAGE reads READY: the ID_*, CAP_*, SEC_* and ALM_* blocks (R612). -/
def earlyReg (a : Nat) : Bool :=
  decide (a < 0x10000) || (decide (0x600000 ≤ a) && decide (a < 0x700000)) || (decide (0x800000 ≤ a) && decide (a < 0x900000))

/-- A block of a unit that is absent reads 0 and ignores writes: fabric ports 4–7 (R7), the NBU_* block (R358), the PAR_* registers
(R587), and the registers of an undefined polder (R258, R405, R515). -/
def State.absentReg (s : State) (a : Nat) : Bool :=
  let undefinedAt := fun (base stride : Nat) => decide (base ≤ a) && decide (a < base + 32 * stride) && (s.polderRec ((a - base) / stride)).isNone
  (decide (0x304000 ≤ a) && decide (a < 0x308000) && !s.cap 4) || (decide (0x240000 ≤ a) && decide (a < 0x260000) && !s.cap 0) ||
  (decide (0x281000 ≤ a) && decide (a < 0x284000) && !s.cap 2) ||
  undefinedAt 0x494000 16 || undefinedAt 0x260100 32 || undefinedAt 0x100200 8

/-- The address of the physical function's BAR0 that a function reaches at an offset of its own, where that holds a register it sees
(R142). -/
def State.seenReg (s : State) (fn addr : Nat) : Option Nat :=
  let a := if fn = 0 || decide (addr < 0x10000) then some addr
    else if decide (0x40000 ≤ addr) && decide (addr < 0x100000) then
      (s.localCtx fn ((addr - 0x40000) / 64)).map (fun c => 0x40000 + 64 * c + addr % 64)
    else none
  match a with
  | none => none
  | some a =>
    if s.barsOpen fn && s.fnExists fn && (findReg a).isSome && !s.absentReg a &&
        (if s.recovery then recoveryReg a else s.ready || earlyReg a) then some a
    else none

/-! ### Registers that follow the state -/

/-- Indices of an address within the rows of a kind of register. -/
def RegDesc.idx (d : RegDesc) (a : Nat) : Nat × Nat :=
  let o := a - d.base
  let i := if d.s1 = 0 then 0 else min (o / d.s1) (d.c1 - 1)
  (i, if d.s2 = 0 then 0 else (o - d.s1 * i) / d.s2)

/-- FAB_PEER_STATE of a device (R480). -/
def State.peerState (s : State) (d : Nat) : Nat :=
  if (s.peerEntries d).isEmpty then 0
  else (if (s.flow d).down then 2 else 1) + 2 ^ 8 * min 15 (s.paths d).length + 2 ^ 16 * ((s.flow d).gen % 65536)

/-- Banks of a column retired in force (R327). -/
def State.retiredBanks (s : State) (col : Nat) : Nat :=
  (List.range 32).foldl (fun a b => a + 2 ^ b * b2n (s.mem.retired.any (fun e =>
    decide (retKind e = 1) && decide (retCol e = col) && decide (16 * retLayer e + retBank e = b)))) 0

/-- Header flags of a KV page, as memory stands (R366). -/
def State.pageFlags (s : State) (p n : Nat) : Nat :=
  let a := (s.kvp p).hdrAddr n + 1
  lbyte (s.peek (addrCore a) (addrOff a) 1) 0

/-- KVP_PAGE_STATE and KVP_PAGE_COUNTS of the page in KVP_PAGE_QUERY (R407). -/
def State.pageView (s : State) (counts : Bool) : Nat :=
  let p := s.fld Reg.kvpPageQuery 28 24
  let n := s.fld Reg.kvpPageQuery 23 0
  let g := (s.kvp p).page n
  if s.poolPages p ≤ n then 0
  else if counts then g.refs % 65536 + 65536 * (g.leases % 65536)
  else if g.state = .free then 0
  else (if g.state = .live then 1 else 2) + 4 * (s.pageFlags p n % 4)

/-- PLL state as CLK_HALF codes it (R519). -/
def pllCode (p : PllSt) : Nat := match p with
  | .asleep => 0
  | .standby => 1
  | .run => 2

/-- CLK_HALF (R495, R519). -/
def State.clkHalf (s : State) (h : Nat) : Nat := pllCode (s.half h) + 16 * b2n (s.holdRun h) + 256 * s.halfPll h

/-- CORE_HALF_CLOCK (R273, R291): twice the PLL frequency in RUN, and the transit clock in the other states. -/
def State.routerClock (s : State) (h : Nat) : Nat :=
  if s.half h = .run && decide (s.halfPll h ≠ 0) then 2 * s.halfPll h else 600 + 4096

/-- Running OPT_STEP commands, on NBUs, once dispatched, or on vector units (R435). -/
def State.optRunning (s : State) (nbu : Bool) : Nat :=
  s.cmds.countP (fun c => decide (c.phase = .running) && (match c.work with
    | .opt left _ n _ => n == nbu && (!nbu || !left.isEmpty)
    | _ => false))

/-- ID_SIDEBAND (R685): the latched and the present straps, and the pins. -/
def State.sideband (s : State) : Nat :=
  (s.nat Reg.idSideband &&& 0x1000F) + 2 ^ 12 * (s.pins.straps % 16) + 2 ^ 11 * b2n s.pins.perst + 2 ^ 10 * b2n s.pins.fault +
  2 ^ 9 * b2n s.pins.thermtrip + 2 ^ 8 * b2n !s.pins.alerts.isEmpty

/-- Word `k` of the selected record's header (R651, R653). -/
def State.frozenWord (s : State) (k : Nat) : Nat := match SMap.get (fun _ => none) s.nvm.frozen (s.fld Reg.almFrozenSel 2 0) with
  | some r => bits r.hdr.toNat (32 * k + 31) (32 * k)
  | none => 0

/-- Word `k` of its entries. -/
def State.frozenEntry (s : State) (k : Nat) : Nat := match SMap.get (fun _ => none) s.nvm.frozen (s.fld Reg.almFrozenSel 2 0) with
  | some r => bits (r.entries.getD (k / 8) 0).toNat (32 * (k % 8) + 31) (32 * (k % 8))
  | none => 0

/-- A register with a field of it shown from elsewhere. -/
def State.withFld (s : State) (a hi lo v : Nat) : Nat := (Machine.setFld (s.reg a) hi lo v).toNat

/-- What the register of a row reads as where state held elsewhere shows in it. -/
def State.liveRead (s : State) (d : RegDesc) (a : Nat) : Option Nat :=
  let i := (d.idx a).1
  let j := (d.idx a).2
  let k := (a - d.base) / 4
  let at' := fun (b : Nat) => decide (d.base = b)
  if d.wo then some 0
  else if at' Reg.idSideband then some s.sideband
  else if at' (Reg.ctxStatus 0) then some (s.ctxStatus i).toNat
  else if at' (Reg.fnQuota 0) then some (s.withFld a 30 16 (s.fnInflight i))
  else if at' Reg.ctxDevInflight then some s.cmds.length
  else if at' (Reg.arrStatus 0) then some (s.arrStatus i).toNat
  else if at' (Reg.coreStatus 0) then some (s.coreStatus i).toNat
  else if at' (Reg.coreClusterStatus 0) then some (s.clusterStatus i).toNat
  else if at' (Reg.coreHalfClock 0) then some (s.routerClock i)
  else if at' (Reg.coreSeamOcc 0) then some (s.seamOcc i)
  else if at' (Reg.memColRetired 0) then some (s.retiredBanks i)
  else if at' Reg.memRetireData then some (s.nvm.retire.getD (s.fld Reg.memRetireIndex 11 0) 0).toNat
  else if at' Reg.nvsStoreWait then some (match s.sets.lastStore with
    | some t => cdiv (t + 25000000 - s.tick) 25000
    | none => 0)
  else if at' Reg.nbuStatus then
    some (s.nbuRunning + 2 ^ 8 * min 255 s.nbuReady.length + 2 ^ 16 * b2n (s.image.any (fun im => !im.nbuCode.isEmpty)))
  else if at' (Reg.nbuColBusy 0) then some ((List.range 32).foldl (fun x b => x + 2 ^ b * b2n (s.inSeq i b)) 0)
  else if at' (Reg.nbuColOwed 0) then
    some (s.withFld a 2 0 ((List.range 32).foldl (fun x b => max x (SMap.get (fun _ => 0) s.mem.owed (32 * i + b))) 0))
  else if at' Reg.kvpStatus then some ((List.range 32).foldl (fun x p => x + (s.kvp p).registered) 0)
  else if at' Reg.kvpActive then some ((List.range 32).foldl (fun x p => x + (s.kvp p).activeSeqs) 0)
  else if at' Reg.kvpPageState then some (s.pageView false)
  else if at' Reg.kvpPageCounts then some (s.pageView true)
  else if at' (Reg.kvpPoolPages 0) then some (s.poolPages i)
  else if at' (Reg.kvpPoolFree 0) then some (s.freePages i).length
  else if at' (Reg.kvpSeqReg 0) then some (s.kvp i).registered
  else if at' (Reg.kvpSeqActive 0) then some (s.kvp i).activeSeqs
  else if at' (Reg.kvpIndexUsed 0) then some (s.kvp i).used
  else if at' Reg.optStatus then some (min 127 (s.optRunning true) + 2 ^ 8 * min 255 (s.optRunning false))
  else if at' (Reg.fabPortStatus 0) then some (s.withFld a 1 1 (b2n (s.inService i)))
  else if at' Reg.fabStatus then some (s.withFld a 7 0 ((List.range 8).foldl (fun x p => x + 2 ^ p * b2n (s.inService p)) 0))
  else if at' Reg.fabPeerState then some (s.peerState (s.fld Reg.fabPeerQuery 11 0))
  else if at' Reg.parStatus then some (s.withFld a 6 0 ((List.range 64).countP s.parValid))
  else if at' Reg.harvLocal then some (min 65535 s.eventCount + 65536 * s.eventHours)
  else if at' Reg.pwrGrant then some (s.withFld a 31 16 s.leaseLeft)
  else if at' Reg.pwrGrantSerial then some (s.power.grantSeen.getD 0)
  else if at' (Reg.clkHalf 0) then some (s.clkHalf i)
  else if at' (Reg.clkCore 0) then
    some (s.withFld a 28 24 (s.nNow i) % 2 ^ 31 + 2 ^ 31 * b2n (decide (s.coreTarget i < 5 * s.ceiling i)))
  else if at' (Reg.clkCoreCap 0) then some (s.withFld a 23 12 (s.coreTarget i / 5))
  else if at' Reg.cltCoolant then some (s.withFld a 4 0 (s.inforce Key.glycol))
  else if at' (Reg.secNonce 0) then some (s.nonceWord i).toNat
  else if at' Reg.almStatus then some s.almStatus.toNat
  else if at' Reg.almFrozenHold then some (s.nvm.frozenHold % 256)
  else if at' Reg.almFrozenLost then some s.nvm.frozenLost
  else if at' (Reg.almRing 0) then some (bits (SMap.get (fun _ => 0) s.alm.ring (k / 8)).toNat (32 * (k % 8) + 31) (32 * (k % 8)))
  else if at' (Reg.almFrozenHdr 0) then some (s.frozenWord k)
  else if at' (Reg.almFrozenEntries 0) then some (s.frozenEntry k)
  else if at' (Reg.fnRange 0) && decide (i + j = 0) then some 0
  else none

/-- What a register of BAR0 reads as, by its address in the physical function. -/
def State.regRead (s : State) (a : Nat) : Word :=
  match findReg a with
  | none => 0
  | some d => if s.absentReg a then 0 else match s.liveRead d a with
    | some v => BitVec.ofNat 32 v
    | none => s.reg a

/-! ### 64-bit counters (R223) -/

/-- What has been counted at a counter since it was last brought up to date: filler cycles of a gap (R205), and cycles with a wait slot in
use (R289). -/
def State.cntPending (s : State) (d : RegDesc) (a : Nat) : Nat :=
  if d.base = Reg.arrCntFiller 0 then s.fillPending (d.idx a).1
  else if d.base = Reg.coreCntWait 0 then s.waitPending (d.idx a).1
  else 0

/-- The present value of the counter whose LO half lies at an address. -/
def State.counterValue (s : State) (d : RegDesc) (a : Nat) : DWord :=
  if a = Reg.almCount then BitVec.ofNat 64 s.alm.count
  else if a = Reg.almTick then BitVec.ofNat 64 s.tick
  else s.cnt a + BitVec.ofNat 64 (s.cntPending d a)

/-- The latched HI half of a counter, by the address of its LO half. -/
def State.latch (s : State) (a : Nat) : Option Word := SMap.get (fun _ => none) s.latches a

/-- The latched HI half replaced. -/
def State.setLatch (s : State) (a : Nat) (v : Option Word) : State := { s with latches := SMap.set (fun _ => none) s.latches a v }

end Sys2Proof.Machine
end

