-- ==== Sys2Proof/Machine/Resets.lean ====
section
/-! DEFINITION. Vigils and the ladder (R550–R556), the course of a reset (R557–R562), and the power cycle (R573). -/
namespace Sys2Proof.Machine

/-! ### The ladder -/

/-- VIGIL_EXPIRY (R550–R554, R571): a command without a unit ends at once; another is asked to stop. Of a replayed command the
suspect is guilty when it commits. -/
def doVigilExpiry (id : Nat) (s : State) : State :=
  match s.cmd? id with
  | none => s
  | some c =>
    if s.tick < c.vigilEnd || s.flowStopped || !c.stoppable then s
    else
      let s := s.noteExpiry c
      if c.replayed then (if c.holdsUnits then s.vigilDossier 5 c else s).stopCmd id St.guilty
      else if c.holdsUnits then (s.vigilDossier 0 c).stopCmd id St.timeout
      else s.stopCmd id St.timeout
/-- The meaning of VIGIL_EXPIRY. -/
def execVigilExpiry (id : Nat) (s : State) : Res := guarded (Instr.vigilExpiry id).wf s (doVigilExpiry id)

/-- Some ABORT waits for a command. -/
def State.abortWaits (s : State) (id : Nat) : Bool :=
  s.cmds.any (fun c => decide (c.phase = .running) && (match c.work with
    | .abort ts => ts.contains id
    | _ => false))

/-- The suspects of an engine reset entered from the stop rung (R568, R569), the context of the stopped command first; none where the
stop was that of a guilty context (R571). -/
def State.suspectsOf (s : State) (core : Nat) (c : Cmd) (st since : Nat) : List Nat :=
  if st = St.guilty then []
  else
    let expiry := if st = St.timeout && !s.abortWaits c.id then since else s.tick
    c.ctx :: (s.ranOn core (expiry - 25000 * c.vigilMs)).filter (· != c.ctx)

/-- STOP_OVERRUN (R554): a unit has not stopped within 1 ms; `kind` 1 is a core, 2 an NBU, 3 a BD engine, 4 a BD DMA channel. -/
def doStopOverrun (id kind unit : Nat) (s : State) : State :=
  match s.cmd? id with
  | none => s
  | some c =>
    (match c.phase with
     | .stopping st since =>
       if s.tick < since + 25000 then s
       else if kind = 1 then
         (if (s.cmdCores c).contains unit then
            s.reachReset 2 unit 1 (some c) (some (c.id, 1, unit)) (s.suspectsOf unit c st since)
          else s)
       else if 2 ≤ kind && decide (kind ≤ 4) then s.reachReset 4 0 1 (some c) (some (c.id, kind, 0)) []
       else s
     | _ => s)
/-- The meaning of STOP_OVERRUN. -/
def execStopOverrun (id unitKind unit : Nat) (s : State) : Res := guarded (Instr.stopOverrun id unitKind unit).wf s (doStopOverrun id unitKind unit)

/-- ABORT_OVERRUN (R175 step 5): the targets that have not stopped are treated as if their vigils had expired. -/
def doAbortOverrun (id : Nat) (s : State) : State :=
  match s.cmd? id with
  | none => s
  | some a =>
    (match a.phase, a.work with
     | .running, .abort ts =>
       if s.tick < a.fetched + 25000 then s
       else ts.foldl (fun (s : State) t => match s.cmd? t with
         | some c => (match c.phase with
           | .stopping st since =>
             if st = St.aborted then ((s.noteExpiry c).vigilDossier 0 c).updCmd t (fun x => { x with phase := .stopping St.timeout since })
             else s
           | _ => s)
         | none => s) s
     | _, _ => s)
/-- The meaning of ABORT_OVERRUN. -/
def execAbortOverrun (id : Nat) (s : State) : Res := guarded (Instr.abortOverrun id).wf s (doAbortOverrun id)

/-! ### Requests through RST_CTRL (R556, R577) -/

/-- ENGINE_RESET. -/
def doEngineReset (core : Nat) (s : State) : State := if s.hostOpen then s.askReset 2 core else s
/-- The meaning of ENGINE_RESET. -/
def execEngineReset (core : Nat) (s : State) : Res := guarded (Instr.engineReset core).wf s (doEngineReset core)

/-- POLDER_RESET: an undefined polder is refused; while an image is being committed the request waits for the polders that it defines
(R102). -/
def doPolderReset (polder : Nat) (s : State) : State :=
  if !s.hostOpen then s
  else if (s.polderRec polder).isSome || decide (s.loader.stage = .committing) then s.askReset 3 polder else s.resetErr
/-- The meaning of POLDER_RESET. -/
def execPolderReset (polder : Nat) (s : State) : Res := guarded (Instr.polderReset polder).wf s (doPolderReset polder)

/-- CHIP_RESET. -/
def doChipReset (key : Nat) (s : State) : State :=
  if !s.hostOpen then s else if key = 0xA5 then s.askReset 4 0 else s.resetErr
/-- The meaning of CHIP_RESET. -/
def execChipReset (key : Nat) (s : State) : Res := guarded (Instr.chipReset key).wf s (doChipReset key)

/-- MODULE_RESET. -/
def doModuleReset (key : Nat) (s : State) : State :=
  if !s.hostOpen then s else if key = 0xA5 then s.askReset 5 0 else s.resetErr
/-- The meaning of MODULE_RESET. -/
def execModuleReset (key : Nat) (s : State) : Res := guarded (Instr.moduleReset key).wf s (doModuleReset key)

/-- POWER_CYCLE_REQUEST (R573): LEVEL 6 of RST_CTRL. -/
def doPowerCycleRequest (key : Nat) (s : State) : State :=
  if !s.hostOpen then s else if key = 0xA5 then s.requestPowerCycle none else s.resetErr
/-- The meaning of POWER_CYCLE_REQUEST. -/
def execPowerCycleRequest (key : Nat) (s : State) : Res := guarded (Instr.powerCycleRequest key).wf s (doPowerCycleRequest key)

/-- POWER_CYCLE_REPEAT (R573 step 4): the request is repeated every second. -/
def doPowerCycleRepeat (s : State) : State :=
  match s.resets.powerReq with
  | some (code, t) =>
    if s.tick < s.resets.lastPowerReq + 25000000 then s
    else { s with resets := { s.resets with lastPowerReq := s.tick } }.sendPowerCycle code t
  | none => s
/-- The meaning of POWER_CYCLE_REPEAT. -/
def execPowerCycleRepeat (s : State) : Res := guarded Instr.powerCycleRepeat.wf s doPowerCycleRepeat

/-! ### The course of a reset (R561) -/

/-- Waits from outside the scope that a closing sluice answers with an error (R559, R562): those on counters that lie in the scope. -/
def State.sluiceWaits (s : State) (level unit : Nat) : List Nat :=
  (s.cmds.filter (fun c => decide (c.phase = .running) && decide (c.work = .wait) &&
    (let r := ctrRef c.desc 0x10
     if level = 2 then decide (r.scope = 0) && decide (r.unit = unit)
     else if level = 3 then (decide (r.scope = 0) && decide (s.corePolder r.unit = some unit)) ||
       (decide (r.scope = 1) && decide (s.clusterPolder r.unit = some unit))
     else false))).map (fun c => c.id)

/-- The polders whose commands a reset ends (R469): one breach each. -/
def State.resetBreaches (s : State) (level unit : Nat) : State :=
  if level < 3 then s
  else ((s.polders.filter (fun p => (4 ≤ level || p = unit) && !(s.polderCmds p).isEmpty))).foldl (fun (s : State) p => s.originBreach p St.aborted) s

/-- SLUICE_CLOSE (R490 step 4, R559, R561 step 4): what is still outstanding is answered. What is counted then is a free value. Of a
polder with a held cluster and no reset, the commands end fenced. -/
def doSluiceClose (level unit : Nat) (s : State) : State :=
  match s.resets.jobs.find? (fun j => decide (j.level = level) && (decide (j.unit = unit) || decide (4 ≤ level))) with
  | some j =>
    if j.closed.isSome then s
    else
      let s := { s with resets := { s.resets with jobs := s.resets.jobs.map (fun x => if x = j then { x with closed := some s.tick } else x) } }
      let s := (s.addCnt Reg.dikeCntSluice (Config.freeNat s.freeCtr)).fresh
      (s.stopAll (s.sluiceWaits level unit) St.fenced).resetBreaches level unit
  | none =>
    if level = 3 && (s.polderClusters unit).any s.clusterHeld then
      let s := (s.addCnt Reg.dikeCntSluice (Config.freeNat s.freeCtr)).fresh
      s.stopAll ((s.polderCmds unit).map (fun c => c.id)) St.fenced
    else s
/-- The meaning of SLUICE_CLOSE. -/
def execSluiceClose (level unit : Nat) (s : State) : Res := guarded (Instr.sluiceClose level unit).wf s (doSluiceClose level unit)

/-- Registers and counters of cores at engine level, and their local stores, are cleared (R13, R260, R270); what the vector unit,
sequencer and array hold is gone. -/
def State.clearEngines (s : State) (ns : List Nat) : State :=
  let inWin := fun a => (decide (0x480000 ≤ a) && decide (a < 0x490000) && ns.contains ((a - 0x480000) / 256)) ||
    (decide (0x4A0000 ≤ a) && decide (a < 0x4B0000) && ns.contains ((a - 0x4A0000) / 256))
  ((s.clearRegs .engine inWin).zeroLocals ns).clearCores ns

/-- A polder's counters in shared memory are 0 (R260, R270). -/
def State.zeroCounters (s : State) (p : Nat) : State :=
  let rs := ((s.image.map (fun im => im.ranges p)).getD [])
  rs.foldl (fun (s : State) r => s.sharedWrite r.cluster r.offset (List.replicate (4 * r.count) 0)) s

/-- What a polder reset clears (R13, R245, R260, R270); a STOPPING polder is STOPPED (R109). -/
def State.clearPolder (s : State) (p : Nat) : State :=
  let cls := s.polderClusters p
  let s := s.clearEngines (s.polderCores p)
  let s := (s.clearDrift p).clearRegs .polder (fun a =>
    (decide (0x494000 + 16 * p ≤ a) && decide (a < 0x494010 + 16 * p) && decide (a ≠ Reg.precDriftStatus p)) ||
    (decide (0x4C0000 ≤ a) && decide (a < 0x4E0000) && cls.contains ((a - 0x4C0000) / 4096)) ||
    (decide (0x4E1000 ≤ a) && decide (a < 0x4E1800) && cls.contains ((a - 0x4E1000) / 64)))
  let s := s.zeroCounters p
  let s := (s.clearContexts (s.ctxsOf p)).stopPolder p
  { s with sentinel := SMap.clear s.sentinel (· == p), drifted := SMap.clear s.drifted (· == p) }

/-- Step 5 of R561 at each level: the state is cleared, and after a module reset bring-up runs (R615). -/
def State.clearLevel (s : State) (level unit : Nat) (b : BootIn) : State :=
  if level = 2 then s.clearEngines [unit]
  else if level = 3 then s.clearPolder unit
  else
    let s := s.polders.foldl (fun (s : State) p => s.stopPolder p) s
    if level = 4 then s.clearChip else s.clearModule.bringUp false b

/-- The source of EV_RESET. -/
def resetSource (level unit : Nat) : Nat × Nat :=
  if level = 2 then Src.core unit else if level = 3 then Src.polder unit else Src.module

/-- A request that waited begins when no reset is in progress (R575); one that the completed reset took in is complete with it (R40). -/
def State.nextReset (s : State) (level unit : Nat) : State :=
  let q := s.resets.queued.filter (fun x => !(decide (x.1 < level) && s.resetCovers level unit x.1 x.2.1))
  let s := { s with resets := { s.resets with queued := q } }
  if !s.resets.jobs.isEmpty then s
  else match q with
    | [] => s
    | (l, u, t) :: rest =>
      let s := { s with resets := { s.resets with queued := rest } }
      if l = 3 && (s.polderRec u).isNone then s.resetErr else s.reachReset l u t none none []

/-- Every command that ends with a reset has committed. -/
def State.scopeEmpty (s : State) (level unit : Nat) : Bool :=
  s.cmds.all (fun c => !s.resetScope level unit c || (decide (level = 2) && (decide (c.phase = .held) || decide (c.phase = .waiting))))

/-- RESET_COMPLETE (R561 steps 5 and 6, R569): the scope is cleared, the dossier written, the dike lowered. While FLOW_STOP is set the
clearing waits for the restart (R543, R575). -/
def doResetComplete (level unit : Nat) (b : BootIn) (s : State) : State :=
  match s.resets.jobs.find? (fun j => decide (j.level = level) && (decide (j.unit = unit) || decide (4 ≤ level))) with
  | none => s
  | some j =>
    if j.closed.isNone || s.flowStopped || !s.scopeEmpty level j.unit then s
    else
      let rom := s.recovery
      let unit := j.unit
      let s := (s.addCnt Reg.dikeCntDiscard (Config.freeNat s.freeCtr)).fresh
      let s := { s with resets := { s.resets with jobs := s.resets.jobs.filter (fun x => decide (x ≠ j)) } }
      let s := (s.setDike level unit false).clearLevel level unit b
      let d := if rom then (none, s) else s.putDossier j.dossier
      let s := d.2.event 0x0902 (resetSource level unit) none (dataOf [(0, level), (1, j.trigger), (2, d.1.getD 0xFF)])
      let s := (s.noteReset level (if 4 ≤ level then 0 else unit) j.trigger j.ctx).showResets
      let s := if 4 ≤ level then s.noteLocal else s
      let s := if level = 2 then (s.replayBegin unit j.suspects).replayResume unit else s
      let s := match j.ctx with
        | some ctx => s.contextResetCheck ctx
        | none => s
      s.nextReset level unit
/-- The meaning of RESET_COMPLETE. -/
def execResetComplete (level unit : Nat) (b : BootIn) (s : State) : Res := guarded (Instr.resetComplete level unit b).wf s (doResetComplete level unit b)

/-- The bound of a level in ticks (R13). -/
def resetBound (level : Nat) : Nat := if level = 2 then 125000 else if level = 3 then 1250000 else 12500000

/-- RESET_OVERRUN (R553, R555): the next rung. -/
def doResetOverrun (level unit : Nat) (s : State) : State :=
  match s.resets.jobs.find? (fun j => decide (j.level = level) && (decide (j.unit = unit) || decide (4 ≤ level))) with
  | none => s
  | some j =>
    (match j.closed with
     | none => s
     | some t =>
       if s.tick < t + resetBound level || s.flowStopped then s
       else
         let by' := j.expired.bind s.cmd?
         if level = 2 then (match s.corePolder j.unit with
           | some p => s.reachReset 3 p 2 by' none []
           | none => s.reachReset 4 0 2 by' none [])
         else if level = 3 then s.reachReset 4 0 2 by' none []
         else s.requestPowerCycle none)
/-- The meaning of RESET_OVERRUN. -/
def execResetOverrun (level unit : Nat) (s : State) : Res := guarded (Instr.resetOverrun level unit).wf s (doResetOverrun level unit)

end Sys2Proof.Machine
end

