-- ==== Sys2Proof/Machine/Registers.lean ====
section
/-! DEFINITION. Writes of registers through BAR0 (R11, R12, R142) and reads of the 64-bit counters (R223). A register that has a row of
its own is written through that row's operation. -/
namespace Sys2Proof.Machine

/-- A write follows the types of the register's fields (R11, R12): RWL bits take it until an image is in force. -/
def State.plainWrite (s : State) (d : RegDesc) (a : Nat) (v : Word) : State :=
  let rw := BitVec.ofNat 32 (if s.bit Reg.imgStatus 3 then d.rw else d.rw ||| d.rwl)
  s.setReg a (((s.reg a &&& ~~~rw) ||| (v &&& rw)) &&& ~~~(v &&& BitVec.ofNat 32 d.w1c))

/-- A field takes a value within its bounds; another is ignored. -/
def State.writeRange' (s : State) (a hi lo least most : Nat) (v : Word) : State :=
  let x := Machine.fld v hi lo
  if decide (least ≤ x) && decide (x ≤ most) then s.setFld a hi lo x else s

/-- Set bits of a command register act in ascending order. -/
def onBits (v : Word) (acts : List (Nat × (State → State))) (s : State) : State :=
  acts.foldl (fun s x => if v.getLsbD x.1 then x.2 s else s) s

/-- A write of RST_CTRL (R577). -/
def State.writeRstCtrl (s : State) (v : Word) : State :=
  let level := Machine.fld v 2 0
  let key := Machine.fld v 31 24
  if level = 2 then doEngineReset (Machine.fld v 15 8) s
  else if level = 3 then doPolderReset (Machine.fld v 12 8) s
  else if level = 4 then doChipReset key s
  else if level = 5 then doModuleReset key s
  else if level = 6 then doPowerCycleRequest key s
  else s.resetErr

/-- A write of IMG_CTRL (R102, R103): an ABORT ends a running load before SRC and GO are taken. -/
def State.writeImgCtrl (s : State) (v : Word) : State :=
  let s := if v.getLsbD 3 then doImgAbort s else s
  if v.getLsbD 0 then doImgGo (Machine.fld v 2 1) s else doImgSrc (Machine.fld v 2 1) s

/-- A write of SEC_FW_CTRL (R622, R639). -/
def State.writeFwCtrl (s : State) (v : Word) : State :=
  let key := Machine.fld v 31 24
  onBits v [(0, doFwOpen), (1, doFwVerify), (2, doFwCommit key), (3, doFwCancel), (4, doFwRecover key)] s

/-- A write of SEC_OWNER_CTRL (R624, R639). -/
def State.writeOwnerCtrl (s : State) (v : Word) (env : Env) : State :=
  onBits v [(0, doOwnerEnroll), (1, doOwnerTransfer env), (2, doOwnerLock (Machine.fld v 31 24))] s

/-- A write of a context's entry (R142, R177–R180). -/
def State.writeCtx (s : State) (fn : Nat) (d : RegDesc) (a : Nat) (v : Word) : State :=
  let ctx := (a - 0x40000) / 64
  if d.base = Reg.ctxCtrl 0 then s.writeCtxCtrl ctx v
  else if d.base = Reg.ctxBind 0 then (if fn = 0 then s.writeBind ctx v else s)
  else if d.base = Reg.ctxVigil 0 then s.writeRange' a 19 0 1 600000 v
  else if d.base = Reg.ctxRingSize 0 then (s.plainWrite d a v).stallFlag ctx
  else s.plainWrite d a v

/-- A write of NBU_EVENT (R361): with TORN or CLASH, the VALID of its record is cleared. -/
def State.writeNbuEvent (s : State) (d : RegDesc) (a : Nat) (v : Word) : State :=
  onBits v [(0, fun s => s.setBit Reg.nbuTornHi 31 false), (1, fun s => s.setBit Reg.nbuClashHi 31 false)] (s.plainWrite d a v)

/-- A write of KVP_ERR (R406): with VALID, KVP_ERR_SEQ and KVP_ERR_PAGE are cleared. -/
def State.writeKvpErr (s : State) (d : RegDesc) (a : Nat) (v : Word) : State :=
  onBits v [(31, fun s => ((s.setReg Reg.kvpErr 0).setReg Reg.kvpErrSeq 0).setReg Reg.kvpErrPage 0)] (s.plainWrite d a v)

/-- A write of a register of the power and clock block (R517, R519). -/
def State.writePower (s : State) (d : RegDesc) (a : Nat) (v : Word) : State :=
  if d.base = Reg.pwrHeatFloor then s.writeRange' a 15 0 0 (powerLimit s.variant) v
  else if d.base = Reg.pwrSlew then s.writeRange' a 12 0 10 5000 v
  else if d.base = Reg.clkIdle then (s.writeRange' a 9 0 1 1000 v).writeRange' a 25 16 0 1000 v
  else s.plainWrite d a v

/-- A write of a register of the fabric and cascade blocks (R456, R469, R473, R481): a VALID entry takes only a write that clears VALID. -/
def State.writeFab (s : State) (d : RegDesc) (a : Nat) (v : Word) : State :=
  let e := (d.idx a).1
  if d.base = Reg.fabEpCtrl 0 then s.writeEpCtrl e v
  else if [Reg.fabEpBaseLo 0, Reg.fabEpBaseHi 0, Reg.fabEpLength 0].contains d.base then
    (if s.bit (Reg.fabEpCtrl e) 31 then s else s.plainWrite d a v)
  else if d.base = Reg.fabQpCtrl 0 then
    (if s.bit (Reg.fabQpCtrl e) 31 && v.getLsbD 31 then s else s.plainWrite d a v)
  else if [Reg.fabQpRemote 0, Reg.fabQpPsn 0, Reg.fabQpGid 0 0].contains d.base then
    (if s.bit (Reg.fabQpCtrl e) 31 then s else s.plainWrite d a v)
  else if d.base = Reg.fabBreachSend then s.sendBreach v
  else if d.base = Reg.casReckonCtrl then (if v.getLsbD 0 then doReckonNow s else s)
  else s.plainWrite d a v

/-- A write of a parity group entry (R585, R586). -/
def State.writeGrp (s : State) (d : RegDesc) (a : Nat) (v : Word) : State :=
  let g := (d.idx a).1
  if d.base = Reg.parGrpCtrl 0 then s.writeGrpCtrl g v
  else if d.base = Reg.parGrpLost 0 then s.writeGrpLost g v
  else if d.base = Reg.parGrpDev 0 0 then s.writeGrpDev g (d.idx a).2 v
  else if s.parValid g then s
  else s.plainWrite d a v

/-- A write of a register of the stack-memory block (R319, R322, R327, R329). -/
def State.writeMem (s : State) (d : RegDesc) (a : Nat) (v : Word) : State :=
  let col := (d.idx a).1
  if d.base = Reg.memColCtrl 0 then onBits v [(0, doMemClrLog col), (1, doMemClrCounts col)] s
  else if d.base = Reg.memFliptarget then doMemArm v s
  else if d.base = Reg.memRetireCtrl then (if v.getLsbD 0 then doMemAppend s else s)
  else s.plainWrite d a v

/-- A write of a register of the core block (R222, R255, R258). -/
def State.writeCore (s : State) (d : RegDesc) (a : Nat) (v : Word) : State :=
  let n := (d.idx a).1
  if d.base = Reg.arrCtrl 0 then (if v.getLsbD 0 then doArrClrCounters n s else s)
  else if d.base = Reg.precCtrl 0 then (if v.getLsbD 0 then doPrecClr n s else s)
  else if d.base = Reg.precDriftCtrl 0 then (if v.getLsbD 0 then doPrecClear n s else s)
  else s.plainWrite d a v

/-- A write of a register of the image or mailbox block (R100, R102, R103, R135): the source registers and the port are ignored while a
load runs. -/
def State.writeImg (s : State) (d : RegDesc) (a : Nat) (v : Word) (env : Env) : State :=
  if d.base = Reg.mbxCmd then s.mbxCmd (Machine.fld v 7 0)
  else if d.base = Reg.imgCtrl then s.writeImgCtrl v
  else if d.base = Reg.imgPort 0 then doImgPortWrite (leBytes 4 v.toNat) env s
  else if [Reg.imgSrcAddrLo, Reg.imgSrcAddrHi, Reg.imgLength].contains d.base && decide (s.loader.stage ≠ .idle) then s
  else s.plainWrite d a v

/-- A write of a register of the security block (R622, R624, R639). -/
def State.writeSec (s : State) (d : RegDesc) (a : Nat) (v : Word) (env : Env) : State :=
  if d.base = Reg.secFwCtrl then s.writeFwCtrl v
  else if d.base = Reg.secFwPort 0 then doFwPortWrite (leBytes 4 v.toNat) s
  else if d.base = Reg.secOwnerCtrl then s.writeOwnerCtrl v env
  else s.plainWrite d a v

/-- A write of a register of the almanac block (R649, R652, R666). -/
def State.writeAlm (s : State) (d : RegDesc) (a : Nat) (v : Word) : State :=
  if d.base = Reg.almCtrl then (if v.getLsbD 0 then doAlmFreeze (Machine.fld v 31 24) s else s)
  else if d.base = Reg.almFrozenHold then { s with nvm := { s.nvm with frozenHold := Machine.fld v 7 0 } }
  else s.plainWrite d a v

/-- A write of a register of the reset block (R577, R580, R581). -/
def State.writeRst (s : State) (d : RegDesc) (a : Nat) (v : Word) : State :=
  if d.base = Reg.rstCtrl then s.writeRstCtrl v
  else if d.base = Reg.vigReplayMs then s.writeRange' a 19 0 1 600000 v
  else if d.base = Reg.dikeSluiceUs then s.writeRange' a 13 0 10 10000 v
  else s.plainWrite d a v

/-- A write of the function table (R141, R181). -/
def State.writeFn (s : State) (d : RegDesc) (a : Nat) (v : Word) : State :=
  if d.base = Reg.fnRange 0 && (decide ((d.idx a).1 = 0) || decide (s.pcie.vfs ≠ 0)) then s else s.plainWrite d a v

/-- A write of a register at an address of the physical function's BAR0, by block. -/
def State.writeReg (s : State) (fn a : Nat) (v : Word) (env : Env) : State :=
  match findReg a with
  | none => s
  | some d =>
    if a < 0x10000 then s.plainWrite d a v
    else if a < 0x40000 then s.writeImg d a v env
    else if a < 0x80000 then s.writeCtx fn d a v
    else if a < 0x100000 then s.writeFn d a v
    else if a < 0x110000 then s.writePower d a v
    else if a < 0x200000 then s.plainWrite d a v
    else if a < 0x240000 then s.writeMem d a v
    else if a < 0x260000 then (if d.base = Reg.nbuEvent then s.writeNbuEvent d a v else s.plainWrite d a v)
    else if a < 0x280000 then (if d.base = Reg.kvpErr then s.writeKvpErr d a v else s.plainWrite d a v)
    else if decide (0x282000 ≤ a) && decide (a < 0x284000) then s.writeGrp d a v
    else if a < 0x300000 then s.plainWrite d a v
    else if a < 0x400000 then s.writeFab d a v
    else if a < 0x480000 then s.writeRst d a v
    else if a < 0x500000 then s.writeCore d a v
    else if a < 0x600000 then s.plainWrite d a v
    else if a < 0x800000 then s.writeAlm d a v
    else s.writeSec d a v env

/-- REGISTER_WRITE (R11, R12, R142): a write that the function's BAR0 does not take to a register is ignored. -/
def doRegisterWrite (fn addr : Nat) (v : Word) (env : Env) (s : State) : State :=
  let s := s.arrive env
  match s.seenReg fn addr with
  | some a => s.writeReg fn a v env
  | none => s
/-- REGISTER_WRITE. -/
def execRegisterWrite (fn addr : Nat) (v : Word) (env : Env) (s : State) : Res :=
  guarded (Instr.registerWrite fn addr v env).wf s (doRegisterWrite fn addr v env)

/-- A read of the LO half of a counter: HI is latched (R223). -/
def State.readLo (s : State) (d : RegDesc) (a : Nat) : State :=
  let v := s.counterValue d a
  (s.setLatch a (some (BitVec.ofNat 32 (v.toNat / 2 ^ 32)))).emit (.completion 0 (leBytes 4 (v.toNat % 2 ^ 32)) [])

/-- A read of the HI half of a counter: the latched half, which the read releases, or the present one. -/
def State.readHi (s : State) (d : RegDesc) (a : Nat) : State :=
  let v := (s.latch a).getD (BitVec.ofNat 32 ((s.counterValue d a).toNat / 2 ^ 32))
  (s.setLatch a none).emit (.completion 0 (leBytes 4 v.toNat) [])

/-- COUNTER_LO_READ (R223): the read of a LO half, or, at the address 4 bytes above one, the read of HI that releases the latch. Any
other read of a register changes nothing. -/
def doCounterLoRead (fn addr : Nat) (s : State) : State :=
  let lo := match s.seenReg fn addr with
    | some a => (findReg a).filter (fun d => d.wide)
    | none => none
  let hi := match s.seenReg fn (addr - 4) with
    | some a => (findReg a).filter (fun d => d.wide)
    | none => none
  match lo, hi with
  | some d, _ => s.readLo d addr
  | none, some d => if 4 ≤ addr then s.readHi d (addr - 4) else s
  | none, none => s
/-- COUNTER_LO_READ. -/
def execCounterLoRead (fn addr : Nat) (s : State) : Res := guarded (Instr.counterLoRead fn addr).wf s (doCounterLoRead fn addr)

end Sys2Proof.Machine
end

