-- ==== Sys2Proof/Machine/SelfTest.lean ====
section
/-! DEFINITION. The self-tests beside running work (R632–R636). -/
namespace Sys2Proof.Machine

/-- TEST of a SELFTEST (R156). -/
def stTest (d : Desc) : Nat := dbyte d 0x10
/-- CORE of a SELFTEST. -/
def stCore (d : Desc) : Nat := dbyte d 0x11
/-- DEADLINE_MS of a SELFTEST. -/
def stDeadline (d : Desc) : Nat := dfld d 0x14 4

/-- A SELFTEST of one TEST that may start. -/
def State.startsTest (s : State) (id test : Nat) : Option Cmd :=
  match s.starts id 0x80 with
  | some c => if stTest c.desc = test then some c else none
  | none => none

/-- A core is idle: nothing of any command runs on it (R633). -/
def State.coreIdle (s : State) (n : Nat) : Bool := !s.coreBusy n && (s.core n).sets.isEmpty && (s.core n).redo.isEmpty

/-- A test meets a dike or a held cluster (R558, R636), or begins. -/
def State.testLaunch (s : State) (c : Cmd) (f : Cmd → State) : State :=
  s.launch c (fun (c : Cmd) => if s.clusterHeld (stCore c.desc / 8) then s.endCmd c.id St.fenced none else f c)

/-- ARRAY or VECTOR starts on its idle core (R633). -/
def State.startCoreTest (s : State) (c : Cmd) : State :=
  let n := stCore c.desc
  s.testLaunch c (fun (c : Cmd) => if s.coreIdle n then
    ((s.beginCmd c.id .test).setCore n { s.core n with test := some c.id }).spanStart n c else s)

/-- The test that a command runs on its core. -/
def State.runningTest (s : State) (id test : Nat) : Option Cmd :=
  match s.cmd? id with
  | some c => if decide (c.op = 0x80) && decide (stTest c.desc = test) && decide (c.phase = .running) && decide ((s.core (stCore c.desc)).test = some id) && !s.halted
      then some c else none
  | none => none

/-- A test of a core ends (R633, R640): its verdict, the event of a failure, and ST_OK; `at'` is the first failing cell. -/
def State.endCoreTest (s : State) (c : Cmd) (at' : Option (Nat × Nat)) : State :=
  let n := stCore c.desc
  let v := 2 ^ 31 + 2 ^ 20 * stTest c.desc + (match at' with
    | none => 2 ^ 30
    | some x => 2 ^ 8 * (x.1 % 128) + x.2 % 256)
  let s := s.setNat (Reg.coreSelftest n) v
  let s := if at'.isSome then s.event 0x0105 (Src.core n) (some c.ctx) (dataOf [(0, stTest c.desc), (4, v)]) else s
  ((s.setCore n { s.core n with test := none }).endCmd c.id St.ok none).spanEnd c.id

/-- ARRAY (R633): the row starts a waiting test when its core is idle, and ends a running one with what it found. -/
def doTestArray (id : Nat) (bad : Option (Nat × Nat)) (s : State) : State :=
  match s.runningTest id 0 with
  | some c => s.endCoreTest c bad
  | none => match s.startsTest id 0 with
    | some c => s.startCoreTest c
    | none => s
/-- ARRAY. -/
def execTestArray (id : Nat) (bad : Option (Nat × Nat)) (s : State) : Res := guarded (Instr.testArray id bad).wf s (doTestArray id bad)

/-- VECTOR (R633), as ARRAY; a failure names the first failing lane. -/
def doTestVector (id : Nat) (bad : Option Nat) (s : State) : State :=
  match s.runningTest id 1 with
  | some c => s.endCoreTest c (bad.map (fun l => (0, l)))
  | none => match s.startsTest id 1 with
    | some c => s.startCoreTest c
    | none => s
/-- VECTOR. -/
def execTestVector (id : Nat) (bad : Option Nat) (s : State) : Res := guarded (Instr.testVector id bad).wf s (doTestVector id bad)

/-- Every word of a core's local store is read: a one-bit error is counted and corrected; a two-bit error is counted (R260, R633). -/
def State.scrubStore (s : State) (n : Nat) : Bool × State :=
  let its := s.mem.localErr.filter (fun e => decide (2 ^ 22 * n / 8 ≤ e.1) && decide (e.1 < 2 ^ 22 * (n + 1) / 8))
  let ones := its.filter (fun e => e.2 == 1)
  let twos := its.countP (fun e => e.2 == 2)
  let s := (s.bumpFld (Reg.coreSramErr n) 15 0 ones.length).bumpFld (Reg.coreSramErr n) 31 16 twos
  (decide (twos = 0), { s with mem := { s.mem with localErr := SMap.clear s.mem.localErr (fun k => ones.any (fun e => e.1 == k)) } })

/-- SRAM_SCRUB (R633): beside the work of the core. -/
def doTestSramScrub (id : Nat) (env : Env) (s : State) : State :=
  let s := s.arrive env
  match s.startsTest id 2 with
  | none => s
  | some c =>
    s.testLaunch c (fun (c : Cmd) =>
      let n := stCore c.desc
      let r := s.scrubStore n
      let s := r.2
      let s := if r.1 then s else s.event 0x0105 (Src.core n) (some c.ctx) (dataOf [(0, 2), (4, s.nat (Reg.coreSelftest n))])
      s.endCmd c.id St.ok none)
/-- SRAM_SCRUB. -/
def execTestSramScrub (id : Nat) (env : Env) (s : State) : Res := guarded (Instr.testSramScrub id env).wf s (doTestSramScrub id env)

/-- MEM_CAL (R633, R634): the column's calibration is asked for, or merged with the one pending. -/
def doTestMemCal (id : Nat) (s : State) : State :=
  match s.startsTest id 3 with
  | none => s
  | some c =>
    s.testLaunch c (fun (c : Cmd) =>
      let col := stCore c.desc
      let s := s.beginCmd c.id .test
      if SMap.get (fun _ => 0) s.mem.calPending col = 0 then
        { s with mem := { s.mem with calPending := SMap.set (fun _ => 0) s.mem.calPending col 1 } }
      else s)
/-- MEM_CAL. -/
def execTestMemCal (id : Nat) (s : State) : Res := guarded (Instr.testMemCal id).wf s (doTestMemCal id)

/-- FAB_RETRAIN (R633, R635): each lane of the port in turn; a port without its link ends at once. -/
def doTestFabRetrain (id : Nat) (s : State) : State :=
  match s.startsTest id 4 with
  | none => s
  | some c =>
    let port := stCore c.desc
    if s.portUp port then (s.beginCmd c.id .test).startRetrain port ⟨0, 1, [1, 2, 3, 4, 5, 6, 7], some c.id⟩
    else s.endCmd c.id St.ok none
/-- FAB_RETRAIN. -/
def execTestFabRetrain (id : Nat) (s : State) : Res := guarded (Instr.testFabRetrain id).wf s (doTestFabRetrain id)

/-- SELFTEST_DEADLINE (R632, R633): a test of a core that has not started by its deadline ends with ST_DEFERRED. -/
def doSelftestDeadline (id : Nat) (s : State) : State :=
  match s.cmd? id with
  | none => s
  | some c =>
    if decide (c.op = 0x80) && decide (stTest c.desc ≤ 1) && decide (c.phase = .waiting) && decide (stDeadline c.desc ≠ 0) &&
        decide (c.fetched + 25000 * stDeadline c.desc ≤ s.tick) then s.endCmd id St.deferred none
    else s
/-- SELFTEST_DEADLINE. -/
def execSelftestDeadline (id : Nat) (s : State) : Res := guarded (Instr.selftestDeadline id).wf s (doSelftestDeadline id)

end Sys2Proof.Machine
end

