-- ==== Sys2Proof/Machine/Spdm.lean ====
section
/-! DEFINITION. The SPDM responder and its measurements (R626–R628), and IDE key programming (R630). -/
namespace Sys2Proof.Machine

/-- Requests reach the responder (R627): over DOE when the link is up, over MCTP when the binding has its EID. -/
def State.spdmServed (s : State) (b : Nat) : Bool := if b = 2 then s.bindingUp 2 else s.mctpServed b

/-- An SPDM 1.2 response: code, two parameters and the rest. -/
def State.spdmSend (s : State) (b code p1 p2 : Nat) (body : List Byte) : State :=
  s.mctpSend b 0x05 ([0x12, BitVec.ofNat 8 code, BitVec.ofNat 8 p1, BitVec.ofNat 8 p2] ++ body)

/-- An SPDM ERROR: 1 InvalidRequest, 2 InvalidSession, 4 UnexpectedRequest, 0x0A SessionLimitExceeded. -/
def State.spdmError (s : State) (b code : Nat) : State := s.spdmSend b 0x7F code 0 []

/-- A request that needs the negotiation to have come to a stage (R627). -/
def State.spdmAt (s : State) (b stage : Nat) (f : State → State) : State :=
  if !s.spdmServed b then s else if s.sec.spdmStage < stage then s.spdmError b 4 else f s

/-- The negotiation's stage. -/
def State.setSpdm (s : State) (n : Nat) : State := { s with sec := { s.sec with spdmStage := n } }

/-- GET_VERSION: SPDM 1.2 only. -/
def doSpdmGetVersion (binding : Nat) (_req : List Byte) (s : State) : State :=
  if s.spdmServed binding then (s.setSpdm 1).mctpSend binding 0x05 [0x10, 0x04, 0, 0, 0, 1, 0, 0x12] else s
/-- The meaning of GET_VERSION. -/
def execSpdmGetVersion (binding : Nat) (req : List Byte) (s : State) : Res :=
  guarded (Instr.spdmGetVersion binding req).wf s (doSpdmGetVersion binding req)

/-- The capability flags of R627: CERT, CHAL, MEAS with signature, ENCRYPT, MAC, KEY_EX, HBEAT and KEY_UPD. -/
def spdmFlags : Nat := 2 ^ 1 + 2 ^ 2 + 2 ^ 4 + 2 ^ 6 + 2 ^ 7 + 2 ^ 9 + 2 ^ 13 + 2 ^ 14

/-- GET_CAPABILITIES; the timing exponent and message sizes are not stated. -/
def doSpdmGetCapabilities (binding : Nat) (req : List Byte) (s : State) : State :=
  s.spdmAt binding 1 (fun s => (s.setSpdm 2).spdmSend binding 0x61 0 0 (leBytes 4 spdmFlags ++ Config.response 5 0x61 req))
/-- The meaning of GET_CAPABILITIES. -/
def execSpdmGetCapabilities (binding : Nat) (req : List Byte) (s : State) : Res :=
  guarded (Instr.spdmGetCapabilities binding req).wf s (doSpdmGetCapabilities binding req)

/-- NEGOTIATE_ALGORITHMS: RSAPSS-3072, SHA-256, secp384r1 and AES-256-GCM are selected; the layout is the standard's. -/
def doSpdmNegotiateAlgorithms (binding : Nat) (req : List Byte) (s : State) : State :=
  s.spdmAt binding 2 (fun s => (s.setSpdm 3).spdmSend binding 0x63 0 0 (Config.response 5 0x63 req))
/-- The meaning of NEGOTIATE_ALGORITHMS. -/
def execSpdmNegotiateAlgorithms (binding : Nat) (req : List Byte) (s : State) : Res :=
  guarded (Instr.spdmNegotiateAlgorithms binding req).wf s (doSpdmNegotiateAlgorithms binding req)

/-- The digest of the certificate chain of slot 0 (R626). -/
def chainDigest : List Byte := digestBytes (digestOf Config.certChain)

/-- GET_DIGESTS: slot 0 only. -/
def doSpdmGetDigests (binding : Nat) (_req : List Byte) (s : State) : State :=
  s.spdmAt binding 3 (fun s => s.spdmSend binding 0x01 0 1 chainDigest)
/-- The meaning of GET_DIGESTS. -/
def execSpdmGetDigests (binding : Nat) (req : List Byte) (s : State) : Res :=
  guarded (Instr.spdmGetDigests binding req).wf s (doSpdmGetDigests binding req)

/-- GET_CERTIFICATE (R626): a part of the chain of slot 0, and how much remains. -/
def doSpdmGetCertificate (binding slot off len : Nat) (s : State) : State :=
  s.spdmAt binding 3 (fun s =>
    let n := Config.certChain.length
    if slot ≠ 0 || decide (n < off) then s.spdmError binding 1
    else
      let part := (Config.certChain.drop off).take len
      s.spdmSend binding 0x02 0 0 (leBytes 2 part.length ++ leBytes 2 (n - off - part.length) ++ part))
/-- The meaning of GET_CERTIFICATE. -/
def execSpdmGetCertificate (binding slot off len : Nat) (s : State) : Res :=
  guarded (Instr.spdmGetCertificate binding slot off len).wf s (doSpdmGetCertificate binding slot off len)

/-- The value of a measurement (R628). -/
def State.measured (s : State) (i : Nat) : List Byte :=
  if i = 1 then digestBytes Config.romDigest
  else if i = 2 then (if s.recovery then List.replicate 32 0 else digestBytes s.sec.fwDigest)
  else if i = 3 then (if s.image.isNone then List.replicate 32 0 else (List.range 8).flatMap (fun k => leBytes 4 (s.nat (Reg.imgDigest k))))
  else (List.range 8).flatMap (fun k => leBytes 4 (s.nat (Reg.nvsSettingsDigest k)))

/-- The indices that exist: in recovery mode 3 and 4 are absent (R628). -/
def State.measurementIndices (s : State) : List Nat := if s.recovery then [1, 2] else [1, 2, 3, 4]

/-- A measurement block: index, DMTF value type 0 to 3 in the order of R628, and value. -/
def State.measurement (s : State) (i : Nat) : List Byte :=
  [BitVec.ofNat 8 i, 1] ++ leBytes 2 35 ++ [BitVec.ofNat 8 (i - 1)] ++ leBytes 2 32 ++ s.measured i

/-- CHALLENGE: the chain's digest, a nonce, the measurement summary and a signature of the identity key. -/
def doSpdmChallenge (binding : Nat) (req : List Byte) (s : State) : State :=
  s.spdmAt binding 3 (fun s =>
    if lbyte req 2 ≠ 0 then s.spdmError binding 1
    else
      let sum := if lbyte req 3 = 0 then []
        else if lbyte req 3 = 0xFF then digestBytes (digestOf (s.measurementIndices.flatMap s.measurement))
        else digestBytes (digestOf (Config.response 5 0x03 (req ++ s.measurementIndices.flatMap s.measurement)))
      let body := chainDigest ++ s.freeBytes 32 ++ sum ++ [0, 0]
      s.fresh.spdmSend binding 0x03 0 1 (body ++ Config.identitySign (req ++ body)))
/-- The meaning of CHALLENGE. -/
def execSpdmChallenge (binding : Nat) (req : List Byte) (s : State) : Res :=
  guarded (Instr.spdmChallenge binding req).wf s (doSpdmChallenge binding req)

/-- GET_MEASUREMENTS (R628): index 0 asks how many there are, 0xFF returns all; bit 0 of the request's first parameter asks for a
signature. -/
def doSpdmGetMeasurements (binding index : Nat) (req : List Byte) (s : State) : State :=
  s.spdmAt binding 3 (fun s =>
    let all := s.measurementIndices
    if index ≠ 0 && decide (index ≠ 0xFF) && !all.contains index then s.spdmError binding 1
    else
      let is := if index = 0 then [] else if index = 0xFF then all else [index]
      let rec' := is.flatMap s.measurement
      let body := leBytes 1 is.length ++ leBytes 3 rec'.length ++ rec' ++ s.freeBytes 32 ++ [0, 0]
      let sig := if Machine.bit (lbyte req 2) 0 then Config.identitySign (req ++ body) else []
      s.fresh.spdmSend binding 0x60 (if index = 0 then all.length else 0) 0 (body ++ sig))
/-- The meaning of GET_MEASUREMENTS. -/
def execSpdmGetMeasurements (binding index : Nat) (req : List Byte) (s : State) : Res :=
  guarded (Instr.spdmGetMeasurements binding index req).wf s (doSpdmGetMeasurements binding index req)

/-! ### Sessions -/

/-- KEY_EXCHANGE: a session opens; four at most, shared by all transports. -/
def doSpdmKeyExchange (binding : Nat) (req : List Byte) (s : State) : State :=
  s.spdmAt binding 3 (fun s =>
    if lbyte req 3 ≠ 0 then s.spdmError binding 1
    else if 4 ≤ s.sec.sessions.length then s.spdmError binding 0x0A
    else
      let id := s.sec.nextSession
      let body := leBytes 2 id ++ [0, 0] ++ s.freeBytes 128 ++ [0, 0]
      let s := { s.fresh with sec := { s.sec with sessions := s.sec.sessions ++ [({ id := id, binding := binding, finished := false, keyGen := 0 } : Session)], nextSession := id + 1 } }
      s.spdmSend binding 0x64 0 0 (body ++ Config.identitySign (req ++ body)))
/-- The meaning of KEY_EXCHANGE. -/
def execSpdmKeyExchange (binding : Nat) (req : List Byte) (s : State) : Res :=
  guarded (Instr.spdmKeyExchange binding req).wf s (doSpdmKeyExchange binding req)

/-- The session of a transport. -/
def State.session (s : State) (b id : Nat) : Option Session :=
  s.sec.sessions.find? (fun x => decide (x.id = id) && decide (x.binding = b))

/-- A session replaced. -/
def State.setSession (s : State) (x : Session) : State :=
  { s with sec := { s.sec with sessions := s.sec.sessions.map (fun y => if y.id = x.id then x else y) } }

/-- A request inside an established session (finished as `fin` says). -/
def State.inSession (s : State) (b id : Nat) (fin : Bool) (f : Session → State → State) : State :=
  if !s.spdmServed b then s
  else match s.session b id with
    | some x => if x.finished = fin then f x s else s.spdmError b 4
    | none => s.spdmError b 2

/-- FINISH: the handshake is over, and the session may carry secured messages. -/
def doSpdmFinish (binding session : Nat) (_req : List Byte) (s : State) : State :=
  s.inSession binding session false (fun x s => (s.setSession { x with finished := true }).spdmSend binding 0x65 0 0 [])
/-- The meaning of FINISH. -/
def execSpdmFinish (binding session : Nat) (req : List Byte) (s : State) : Res :=
  guarded (Instr.spdmFinish binding session req).wf s (doSpdmFinish binding session req)

/-- HEARTBEAT. -/
def doSpdmHeartbeat (binding session : Nat) (s : State) : State :=
  s.inSession binding session true (fun _ s => s.spdmSend binding 0x68 0 0 [])
/-- The meaning of HEARTBEAT. -/
def execSpdmHeartbeat (binding session : Nat) (s : State) : Res :=
  guarded (Instr.spdmHeartbeat binding session).wf s (doSpdmHeartbeat binding session)

/-- KEY_UPDATE: the session's keys are the next. -/
def doSpdmKeyUpdate (binding session : Nat) (s : State) : State :=
  s.inSession binding session true (fun x s => (s.setSession { x with keyGen := x.keyGen + 1 }).spdmSend binding 0x69 0 0 [])
/-- The meaning of KEY_UPDATE. -/
def execSpdmKeyUpdate (binding session : Nat) (s : State) : Res :=
  guarded (Instr.spdmKeyUpdate binding session).wf s (doSpdmKeyUpdate binding session)

/-- END_SESSION: its place is free for another. -/
def doSpdmEndSession (binding session : Nat) (s : State) : State :=
  s.inSession binding session true (fun x s =>
    { s with sec := { s.sec with sessions := s.sec.sessions.filter (fun y => decide (y.id ≠ x.id)) } }.spdmSend binding 0x6C 0 0 [])
/-- The meaning of END_SESSION. -/
def execSpdmEndSession (binding session : Nat) (s : State) : Res :=
  guarded (Instr.spdmEndSession binding session).wf s (doSpdmEndSession binding session)

/-- IDE_KM (R630): inside a session over DOE, the keys of a stream are programmed and the stream goes on, or it is stopped. New keys
end the Insecure state. -/
def doIdeKm (session stream : Nat) (active : Bool) (s : State) : State :=
  s.inSession 2 session true (fun _ s =>
    let without := fun n => n - 2 ^ stream * b2n (n.testBit stream)
    let s := { s with sec := { s.sec with
      ideActive := without s.sec.ideActive + 2 ^ stream * b2n active
      ideInsecure := without s.sec.ideInsecure } }
    s.showIde.mctpSend 2 0x05 (Config.response 5 0xFF [BitVec.ofNat 8 stream, BitVec.ofNat 8 (b2n active)]))
/-- The meaning of IDE_KM. -/
def execIdeKm (session stream : Nat) (active : Bool) (s : State) : Res := guarded (Instr.ideKm session stream active).wf s (doIdeKm session stream active)

end Sys2Proof.Machine
end

