-- ==== Sys2Proof/Machine/Thermal.lean ====
section
/-! DEFINITION. The rows of coolant and thermal control. -/
namespace Sys2Proof.Machine

/-- THERMAL_SAMPLE (R306, R522–R525, R528, R530, R536 step 4, R538, R539). A sensor that becomes suspect governs no more from the next
sample on (R543). -/
def doThermalSample (r : ThermReading) (s : State) : State :=
  let s := (r.cores.zipIdx.take 256).foldl (fun (s : State) x =>
    s.setReg (Reg.thmCoreT x.1.1) (BitVec.ofNat 32 (min 4095 x.1.2.1 + 2 ^ 16 * min 4095 x.1.2.2))) s
  let s := r.mem.foldl (fun (s : State) x => if x.1 < 128 then s.setNat (Reg.thmMemSensor (x.1 / 16) (x.1 % 16)) (min 4095 x.2) else s) s
  let s := { s with thermal := { s.thermal with bd := r.bd.take 8 } }
  let s := s.showTemps
  let s := (List.range 8).foldl (fun (s : State) h =>
    let hot := (List.range 32).countP (fun i => s.clocked (32 * h + i) && decide (tHot ≤ s.fld (Reg.thmCore (32 * h + i)) 11 0))
    (s.setFld (Reg.thmHalf h) 13 8 hot).setBit (Reg.thmHalf h) 16 (decide (s.fld (Reg.thmHalf h) 3 0 ≠ 0))) s
  let slow := (List.range 256).countP (fun n => decide (s.fld (Reg.thmCore n) 23 20 ≠ 0))
  let s := ((((List.range 8).foldl State.fastRefresh s).addCnt Reg.thmCntThrottle (20 * slow)).bdDutyStep).restartBreak.checkTrips
  (r.cores.filter (fun x => x.1 < 256)).foldl (fun (s : State) x => s.compareSensors x.1) s
/-- THERMAL_SAMPLE. -/
def execThermalSample (r : ThermReading) (s : State) : Res := guarded (Instr.thermalSample r).wf s (doThermalSample r)

/-- The commands that run on a core carry W_THROTTLED (R529). -/
def State.throttleCore (s : State) (n : Nat) : State :=
  ((s.resets.spans.filter (fun x => decide (x.core = n) && x.till.isNone)).map (fun x => x.cmd)).foldl (fun (s : State) i => s.warnCmd i Wn.throttled) s

/-- A core takes one more thermal step; its filler up to now is counted, since it takes no more (R529). -/
def State.coreStep (s : State) (n : Nat) : State :=
  (((s.settleFill n).bumpFld (Reg.thmCore n) 23 20 1).setBit Reg.thmEvent 3 true).throttleCore n

/-- THERMAL_STEP (R529, R530): a core, or a half as a whole, takes or gives back one step. -/
def doThermalStep (half : Bool) (n : Nat) (s : State) : State :=
  if half then
    let cores := (List.range 32).map (fun i => 32 * n + i)
    let on := cores.filter s.clocked
    let hot := on.countP (fun c => decide (tHot ≤ s.fld (Reg.thmCore c) 11 0))
    let k := s.fld (Reg.thmHalf n) 3 0
    if on.length < 2 * hot then
      on.foldl State.throttleCore ((((s.bumpFld (Reg.thmHalf n) 3 0 1).setBit (Reg.thmHalf n) 16 true)).setBit Reg.thmEvent 3 true)
    else if cores.all (fun c => decide (s.fld (Reg.thmCore c) 11 0 ≤ tCool)) then
      (s.setFld (Reg.thmHalf n) 3 0 (k - 1)).setBit (Reg.thmHalf n) 16 (decide (1 < k))
    else s
  else
    let t := s.fld (Reg.thmCore n) 11 0
    let k := s.fld (Reg.thmCore n) 23 20
    if tHot ≤ t then (if s.coreUsable n then s.coreStep n else s)
    else if t ≤ tCool then (s.settleFill n).setFld (Reg.thmCore n) 23 20 (k - 1)
    else s
/-- THERMAL_STEP. -/
def execThermalStep (half : Bool) (n : Nat) (s : State) : Res := guarded (Instr.thermalStep half n).wf s (doThermalStep half n)

/-- Since when a memory layer has been hot at duty 1/4. -/
def State.setMemHot (s : State) (ml : Nat) (t : Option Nat) : State :=
  { s with thermal := { s.thermal with memHot := SMap.set (fun _ => none) s.thermal.memHot ml t } }

/-- MEM_DUTY_STEP (R531). -/
def doMemDutyStep (ml : Nat) (s : State) : State :=
  let t := s.fld (Reg.thmLayer (memLayer ml)) 11 0
  let d := s.fld (Reg.thmMemDuty ml) 2 0
  if tMemHot ≤ t then
    let s := s.setBit Reg.thmEvent 4 true
    if 1 < d then
      let s := (s.setFld (Reg.thmMemDuty ml) 2 0 (d - 1)).warnLayer ml
      if d = 2 then s.setMemHot ml (some s.tick) else s
    else match SMap.get (fun _ => none) s.thermal.memHot ml with
      | none => s.setMemHot ml (some s.tick)
      | some t0 =>
        if t0 + 250000 ≤ s.tick then ((layerCores (llLayer (ml / 2))).filter s.clocked).foldl State.coreStep s else s
  else
    let s := s.setMemHot ml none
    if t ≤ tMemCool then s.setFld (Reg.thmMemDuty ml) 2 0 (min 4 (d + 1)) else s
/-- MEM_DUTY_STEP. -/
def execMemDutyStep (ml : Nat) (s : State) : Res := guarded (Instr.memDutyStep ml).wf s (doMemDutyStep ml)

/-- The watch of a layer. -/
def State.watch (s : State) (l : Nat) : ModelWatch := SMap.get (fun _ => ⟨none, none, none⟩) s.thermal.watch l
/-- It replaced. -/
def State.setWatch (s : State) (l : Nat) (w : ModelWatch) : State :=
  { s with thermal := { s.thermal with watch := SMap.set (fun _ => ⟨none, none, none⟩) s.thermal.watch l w } }

/-- THERMAL_MODEL_UPDATE (R526, R527 step 1): the layers' powers in W, layer 0 first. -/
def doThermalModelUpdate (watts : List Nat) (s : State) : State :=
  let rise := fun (l : Nat) => SMap.get (fun _ => 0) s.fuses.theta l * watts.getD l 0
  let s := (List.range 13).foldl (fun (s : State) l =>
    let partner := if l ≠ 0 && decide (l % 3 = 0) then rise (l - 1) else 0
    s.setFld (Reg.thmLayer l) 27 16 (min 4095 (s.fld (Reg.cltTOut (levelOfLayer l)) 11 0 + rise l + partner))) s
  (List.range 13).foldl (fun (s : State) l =>
    let w := s.watch l
    let above := decide (s.sensorMax l + 96 < s.modelT l)
    s.setWatch l { w with excess := since above s.tick w.excess, under := if w.governed.isSome then since (!above) s.tick w.under else none }) s
/-- THERMAL_MODEL_UPDATE. -/
def execThermalModelUpdate (watts : List Nat) (s : State) : Res := guarded (Instr.thermalModelUpdate watts).wf s (doThermalModelUpdate watts)

/-- Modelled and highest measured temperature, as events hold them. -/
def State.modelData (s : State) (l : Nat) : Nat := dataOf [(0, s.modelT l), (2, s.sensorMax l)]

/-- EV_THM_MODEL (R527 step 2). -/
def doThmModel (l : Nat) (s : State) : State :=
  let w := s.watch l
  match w.excess with
  | some t =>
    if t + 250000 ≤ s.tick && !s.byModel l then
      let s := s.setWatch l { w with governed := some s.tick, under := none }
      (((s.setBit Reg.thmStatus l true).setBit Reg.thmEvent 2 true).event 0x0803 (Src.layer l) none (s.modelData l)).showTemps
    else s
  | none => s
/-- EV_THM_MODEL. -/
def execThmModel (layer : Nat) (s : State) : Res := guarded (Instr.thmModel layer).wf s (doThmModel layer)

/-- EV_THM_SUSPECT (R527 step 4). -/
def doThmSuspect (l : Nat) (s : State) : State :=
  match (s.watch l).governed with
  | some t =>
    if t + 1500000000 ≤ s.tick && !s.bit Reg.thmSuspect l then
      ((s.setBit Reg.thmSuspect l true).alert (.suspect l)).event 0x0804 (Src.layer l) none (s.modelData l)
    else s
  | none => s
/-- EV_THM_SUSPECT. -/
def execThmSuspect (layer : Nat) (s : State) : Res := guarded (Instr.thmSuspect layer).wf s (doThmSuspect layer)

/-- MODEL_RELEASE (R527 step 3): not once THM_SUSPECT is raised. -/
def doModelRelease (l : Nat) (s : State) : State :=
  let w := s.watch l
  match w.under with
  | some t =>
    if t + 250000000 ≤ s.tick && !s.bit Reg.thmSuspect l then
      ((s.setWatch l { w with governed := none, under := none }).setBit Reg.thmStatus l false).showTemps
    else s
  | none => s
/-- MODEL_RELEASE. -/
def execModelRelease (layer : Nat) (s : State) : Res := guarded (Instr.modelRelease layer).wf s (doModelRelease layer)

/-- A level's reading with what its history gives: index, reading, 100 ms average flow, pressure 50 ms before. -/
def State.coolantLevels (s : State) (r : List CoolantReading) : List (Nat × CoolantReading × Nat × Nat) :=
  (r.take 5).zipIdx.map (fun (x : CoolantReading × Nat) =>
    let fl := (x.1.flow :: s.thermal.flowHist.getD x.2 []).take 1000
    let dp := s.thermal.dpHist.getD x.2 []
    (x.2, x.1, fl.foldl (· + ·) 0 / fl.length, dp.getD 499 0))

/-- COOLANT_SAMPLE (R533–R536, R538). -/
def doCoolantSample (r : List CoolantReading) (s : State) : State :=
  let ls := s.coolantLevels r
  let push := fun (h : List (List Nat)) (n : Nat) (f : CoolantReading → Nat) =>
    (List.range 5).map (fun l => match r[l]? with
      | some x => (f x :: h.getD l []).take n
      | none => h.getD l [])
  let s := { s with thermal := { s.thermal with
    dpHist := push s.thermal.dpHist 500 (fun x => x.dp), flowHist := push s.thermal.flowHist 1000 (fun x => x.flow) } }
  let s := ls.foldl (fun (s : State) (x : Nat × CoolantReading × Nat × Nat) =>
    let s := (s.setNat (Reg.cltTIn x.1) (min 4095 x.2.1.tin)).setNat (Reg.cltTOut x.1) (min 4095 x.2.1.tout)
    let s := s.setNat (Reg.cltLevelFlow x.1) (min 65535 x.2.1.flow + 65536 * min 65535 x.2.2.1)
    (s.setNat (Reg.cltLevelDp x.1) (min 65535 x.2.1.dp)).inletAlerts x.1 x.2.1.tin) s
  let f := s.flowSums
  let s := s.setNat Reg.cltFlow (min 65535 f.1 + 65536 * min 65535 f.2)
  let s := (s.follow (decide (f.2 < 2560)) (.flow 80) 0x0811 Src.module f.2).follow (decide (f.2 < 1920)) (.flow 60) 0x0812 Src.module f.2
  let has := fun (s : State) (p : Alert → Bool) => s.pins.alerts.any p
  let s := ((s.setBit Reg.cltStatus 0 (has s (fun a => a == .flow 80))).setBit Reg.cltStatus 1 (has s (fun a => a == .flow 60)))
  let s := (s.setBit Reg.cltStatus 4 (has s (fun a => match a with
      | .inlet _ h => h
      | _ => false))).setBit Reg.cltStatus 5 (has s (fun a => match a with
      | .inlet _ h => !h
      | _ => false))
  let out := ls.map (fun (x : Nat × CoolantReading × Nat × Nat) => since (decide (1248 < x.2.1.tout)) s.tick (s.thermal.outletSince.getD x.1 none))
  let s := { s with thermal := { s.thermal with outletSince := out } }
  let sudden := fun (x : Nat × CoolantReading × Nat × Nat) => decide (10 * x.2.1.dp < 3 * x.2.2.2) || decide (x.2.1.flow < 128)
  let s := match ls.find? sudden with
    | some x => s.flowStopAt x.1 x.2.2.2 x.2.1.dp x.2.1.flow
    | none => s
  let good := !ls.any sudden && ls.all (fun (x : Nat × CoolantReading × Nat × Nat) => decide (384 ≤ x.2.1.flow)) && s.allCool
  let from' := if s.thermal.flowStop.isSome && !s.bit Reg.thmStatus 31 then since good s.tick s.thermal.restartFrom else none
  ({ s with thermal := { s.thermal with restartFrom := from' } }).setBit Reg.cltStatus 8 from'.isSome
/-- COOLANT_SAMPLE. -/
def execCoolantSample (r : List CoolantReading) (s : State) : Res := guarded (Instr.coolantSample r).wf s (doCoolantSample r)

/-- FLOW_LIMIT_UPDATE (R521, R532, R533). -/
def doFlowLimitUpdate (s : State) : State :=
  let g := s.inforce Key.glycol
  let p := s.flowLimitOf - s.thermal.outletRed
  let s := (s.setNat Reg.cltFlowLimit (min 65535 p)).setNat Reg.cltCoolant (g + 65536 * (kappa30 g / 30))
  ({ s with thermal := { s.thermal with flowLimit := some p } }).showCap
/-- FLOW_LIMIT_UPDATE. -/
def execFlowLimitUpdate (s : State) : Res := guarded Instr.flowLimitUpdate.wf s doFlowLimitUpdate

/-- OUTLET_REDUCTION_STEP (R533). -/
def doOutletReductionStep (s : State) : State :=
  let red := s.thermal.outletRed
  let high := s.thermal.outletSince.any (fun x => match x with
    | some t => decide (t + 2500000 ≤ s.tick)
    | none => false)
  let cool := (List.range 5).all (fun l => decide (s.fld (Reg.cltTOut l) 11 0 ≤ 1232))
  let red := if high then red + 50 else if cool then red - 50 else red
  ({ s with thermal := { s.thermal with outletRed := red } }).setBit Reg.cltStatus 6 (decide (red ≠ 0))
/-- OUTLET_REDUCTION_STEP. -/
def execOutletReductionStep (s : State) : Res := guarded Instr.outletReductionStep.wf s doOutletReductionStep

/-- EV_CLT_RESTART (R538, R543): vigils resume with the time already run, and the bound of a reset that waits counts from here. -/
def doCltRestart (s : State) : State :=
  match s.thermal.flowStop, s.thermal.restartFrom with
  | some t, some f =>
    if f + 50000000 ≤ s.tick && !s.bit Reg.thmStatus 31 then
      let s := { s with
        cmds := s.cmds.map (fun (c : Cmd) => { c with vigilFrom := max c.vigilFrom t + (s.tick - max c.vigilFrom t) - (t - c.vigilFrom) })
        resets := { s.resets with jobs := s.resets.jobs.map (fun (j : ResetJob) => { j with closed := j.closed.map (fun c => max c s.tick) }) }
        thermal := { s.thermal with flowStop := none, restartFrom := none } }
      let s := ((s.setBit Reg.cltStatus 2 false).setBit Reg.cltStatus 8 false).unalert .flowStop
      s.event 0x0816 Src.module none ((s.tick - t) / 25000)
    else s
  | _, _ => s
/-- EV_CLT_RESTART. -/
def execCltRestart (s : State) : Res := guarded Instr.cltRestart.wf s doCltRestart

/-- BOND_WEAR_SAMPLE (R541, R542). -/
def doBondWearSample (s : State) : State := (List.range 13).foldl State.wearSample s
/-- BOND_WEAR_SAMPLE. -/
def execBondWearSample (s : State) : Res := guarded Instr.bondWearSample.wf s doBondWearSample

/-- BOND_WEAR_WRITE (R541). -/
def doBondWearWrite (s : State) : State := s.wearWrite
/-- BOND_WEAR_WRITE. -/
def execBondWearWrite (s : State) : Res := guarded Instr.bondWearWrite.wf s doBondWearWrite

end Sys2Proof.Machine
end

