-- ==== Sys2Proof/Machine/Dispatch.lean ====
section
/-! DEFINITION. The dispatch of a command to its meaning: one arm for each row of the table. -/
namespace Sys2Proof.Machine

def exec (i : Instr) (s : State) : Host.Outcome State Fault Refusal :=
  match i with
  | .powerOn feed b => Sys2Proof.Machine.execPowerOn feed b s
  | .perstAssert ns => Sys2Proof.Machine.execPerstAssert ns s
  | .pcieHotReset => Sys2Proof.Machine.execPcieHotReset s
  | .pcieLinkLoss => Sys2Proof.Machine.execPcieLinkLoss s
  | .strapChange level => Sys2Proof.Machine.execStrapChange level s
  | .vfEnable vfs => Sys2Proof.Machine.execVfEnable vfs s
  | .flrVf v => Sys2Proof.Machine.execFlrVf v s
  | .flrPf => Sys2Proof.Machine.execFlrPf s
  | .d3hotEntry fn => Sys2Proof.Machine.execD3hotEntry fn s
  | .d0Return fn env => Sys2Proof.Machine.execD0Return fn env s
  | .ideIntegrityFailure stream => Sys2Proof.Machine.execIdeIntegrityFailure stream s
  | .bar2Read off len env => Sys2Proof.Machine.execBar2Read off len env s
  | .bar2Write off data env => Sys2Proof.Machine.execBar2Write off data env s
  | .remapNvmWrite col entry => Sys2Proof.Machine.execRemapNvmWrite col entry s
  | .counterLoRead fn addr => Sys2Proof.Machine.execCounterLoRead fn addr s
  | .registerWrite fn addr v env => Sys2Proof.Machine.execRegisterWrite fn addr v env s
  | .ctxBind fn idx v => Sys2Proof.Machine.execCtxBind fn idx v s
  | .ctxEnable fn idx irqEn => Sys2Proof.Machine.execCtxEnable fn idx irqEn s
  | .ctxDisable fn idx irqEn => Sys2Proof.Machine.execCtxDisable fn idx irqEn s
  | .contextReset fn idx => Sys2Proof.Machine.execContextReset fn idx s
  | .dbSqTail fn idx v => Sys2Proof.Machine.execDbSqTail fn idx v s
  | .dbCqHead fn idx v => Sys2Proof.Machine.execDbCqHead fn idx v s
  | .descriptorFetch ctx env => Sys2Proof.Machine.execDescriptorFetch ctx env s
  | .commandCommit id env => Sys2Proof.Machine.execCommandCommit id env s
  | .irqHoldExpiry ctx => Sys2Proof.Machine.execIrqHoldExpiry ctx s
  | .gemm id env => Sys2Proof.Machine.execGemm id env s
  | .conv id env => Sys2Proof.Machine.execConv id env s
  | .elementwise id env => Sys2Proof.Machine.execElementwise id env s
  | .passStart core env => Sys2Proof.Machine.execPassStart core env s
  | .drainComplete core defects env => Sys2Proof.Machine.execDrainComplete core defects env s
  | .shadowSampleEnd core => Sys2Proof.Machine.execShadowSampleEnd core s
  | .attnFwd id env => Sys2Proof.Machine.execAttnFwd id env s
  | .attnCombine id env => Sys2Proof.Machine.execAttnCombine id env s
  | .attnBwd id env => Sys2Proof.Machine.execAttnBwd id env s
  | .kvRegister id env => Sys2Proof.Machine.execKvRegister id env s
  | .kvRelease id env => Sys2Proof.Machine.execKvRelease id env s
  | .kvActivate id env => Sys2Proof.Machine.execKvActivate id env s
  | .kvDeactivate id env => Sys2Proof.Machine.execKvDeactivate id env s
  | .kvFork id env => Sys2Proof.Machine.execKvFork id env s
  | .kvTruncate id env => Sys2Proof.Machine.execKvTruncate id env s
  | .kvSetFormat id env => Sys2Proof.Machine.execKvSetFormat id env s
  | .kvPublish id env => Sys2Proof.Machine.execKvPublish id env s
  | .kvEvict id env => Sys2Proof.Machine.execKvEvict id env s
  | .kvRef id env => Sys2Proof.Machine.execKvRef id env s
  | .kvFree id env => Sys2Proof.Machine.execKvFree id env s
  | .prefixLookup id env => Sys2Proof.Machine.execPrefixLookup id env s
  | .copyOnWriteEnd polder new env => Sys2Proof.Machine.execCopyOnWriteEnd polder new env s
  | .optStep id env => Sys2Proof.Machine.execOptStep id env s
  | .allReduce id env => Sys2Proof.Machine.execAllReduce id env s
  | .reduceScatter id env => Sys2Proof.Machine.execReduceScatter id env s
  | .allGather id env => Sys2Proof.Machine.execAllGather id env s
  | .broadcast id env => Sys2Proof.Machine.execBroadcast id env s
  | .signVote id env => Sys2Proof.Machine.execSignVote id env s
  | .nbuRun id env => Sys2Proof.Machine.execNbuRun id env s
  | .nbuDispatch id => Sys2Proof.Machine.execNbuDispatch id s
  | .nbuSequenceEnd col bank => Sys2Proof.Machine.execNbuSequenceEnd col bank s
  | .nbuEnd col bank => Sys2Proof.Machine.execNbuEnd col bank s
  | .nbuLd col bank env => Sys2Proof.Machine.execNbuLd col bank env s
  | .nbuSt col bank env => Sys2Proof.Machine.execNbuSt col bank env s
  | .nbuFma col bank => Sys2Proof.Machine.execNbuFma col bank s
  | .nbuMul col bank => Sys2Proof.Machine.execNbuMul col bank s
  | .nbuAdd col bank => Sys2Proof.Machine.execNbuAdd col bank s
  | .nbuMax col bank => Sys2Proof.Machine.execNbuMax col bank s
  | .nbuScale col bank => Sys2Proof.Machine.execNbuScale col bank s
  | .nbuSgn col bank => Sys2Proof.Machine.execNbuSgn col bank s
  | .nbuClip col bank => Sys2Proof.Machine.execNbuClip col bank s
  | .nbuExp col bank => Sys2Proof.Machine.execNbuExp col bank s
  | .nbuHsum col bank => Sys2Proof.Machine.execNbuHsum col bank s
  | .nbuHmax col bank => Sys2Proof.Machine.execNbuHmax col bank s
  | .nbuArg col bank => Sys2Proof.Machine.execNbuArg col bank s
  | .nbuPset col bank => Sys2Proof.Machine.execNbuPset col bank s
  | .nbuPadd col bank => Sys2Proof.Machine.execNbuPadd col bank s
  | .nbuParg col bank => Sys2Proof.Machine.execNbuParg col bank s
  | .nbuLset col bank => Sys2Proof.Machine.execNbuLset col bank s
  | .nbuLoop col bank => Sys2Proof.Machine.execNbuLoop col bank s
  | .nbuBrlt col bank => Sys2Proof.Machine.execNbuBrlt col bank s
  | .nbuJmp col bank => Sys2Proof.Machine.execNbuJmp col bank s
  | .dma id env => Sys2Proof.Machine.execDma id env s
  | .fence id => Sys2Proof.Machine.execFence id s
  | .counterAdd id => Sys2Proof.Machine.execCounterAdd id s
  | .counterWaitGe id => Sys2Proof.Machine.execCounterWaitGe id s
  | .harvest id env => Sys2Proof.Machine.execHarvest id env s
  | .restore id env => Sys2Proof.Machine.execRestore id env s
  | .parityRebuild id env => Sys2Proof.Machine.execParityRebuild id env s
  | .abort id => Sys2Proof.Machine.execAbort id s
  | .abortOverrun id => Sys2Proof.Machine.execAbortOverrun id s
  | .testArray id bad => Sys2Proof.Machine.execTestArray id bad s
  | .testVector id bad => Sys2Proof.Machine.execTestVector id bad s
  | .testSramScrub id env => Sys2Proof.Machine.execTestSramScrub id env s
  | .testMemCal id => Sys2Proof.Machine.execTestMemCal id s
  | .testFabRetrain id => Sys2Proof.Machine.execTestFabRetrain id s
  | .selftestDeadline id => Sys2Proof.Machine.execSelftestDeadline id s
  | .mbxSet => Sys2Proof.Machine.execMbxSet s
  | .mbxGet => Sys2Proof.Machine.execMbxGet s
  | .mbxStore => Sys2Proof.Machine.execMbxStore s
  | .storeComplete ok => Sys2Proof.Machine.execStoreComplete ok s
  | .mbxRevert => Sys2Proof.Machine.execMbxRevert s
  | .mbxDefaults => Sys2Proof.Machine.execMbxDefaults s
  | .mbxQuiesce => Sys2Proof.Machine.execMbxQuiesce s
  | .drainDeadline polder => Sys2Proof.Machine.execDrainDeadline polder s
  | .polderStopped polder => Sys2Proof.Machine.execPolderStopped polder s
  | .mbxResume => Sys2Proof.Machine.execMbxResume s
  | .imgGo src => Sys2Proof.Machine.execImgGo src s
  | .imgAbort => Sys2Proof.Machine.execImgAbort s
  | .imgSrc src => Sys2Proof.Machine.execImgSrc src s
  | .imgPortWrite data env => Sys2Proof.Machine.execImgPortWrite data env s
  | .imageCopyDone env => Sys2Proof.Machine.execImageCopyDone env s
  | .imageValidationDone env => Sys2Proof.Machine.execImageValidationDone env s
  | .imageCommit => Sys2Proof.Machine.execImageCommit s
  | .memArm v => Sys2Proof.Machine.execMemArm v s
  | .memClrLog col => Sys2Proof.Machine.execMemClrLog col s
  | .memClrCounts col => Sys2Proof.Machine.execMemClrCounts col s
  | .memAppend => Sys2Proof.Machine.execMemAppend s
  | .retireAppendDone ok => Sys2Proof.Machine.execRetireAppendDone ok s
  | .arrClrCounters core => Sys2Proof.Machine.execArrClrCounters core s
  | .precClr core => Sys2Proof.Machine.execPrecClr core s
  | .precClear polder => Sys2Proof.Machine.execPrecClear polder s
  | .patrolScrub col env => Sys2Proof.Machine.execPatrolScrub col env s
  | .refreshDue col bank => Sys2Proof.Machine.execRefreshDue col bank s
  | .memCalibrationDue col => Sys2Proof.Machine.execMemCalibrationDue col s
  | .memCalibrationDone col => Sys2Proof.Machine.execMemCalibrationDone col s
  | .vigilExpiry id => Sys2Proof.Machine.execVigilExpiry id s
  | .stopOverrun id unitKind unit => Sys2Proof.Machine.execStopOverrun id unitKind unit s
  | .engineReset core => Sys2Proof.Machine.execEngineReset core s
  | .polderReset polder => Sys2Proof.Machine.execPolderReset polder s
  | .chipReset key => Sys2Proof.Machine.execChipReset key s
  | .moduleReset key => Sys2Proof.Machine.execModuleReset key s
  | .powerCycleRequest key => Sys2Proof.Machine.execPowerCycleRequest key s
  | .powerCycleRepeat => Sys2Proof.Machine.execPowerCycleRepeat s
  | .sluiceClose level unit => Sys2Proof.Machine.execSluiceClose level unit s
  | .resetComplete level unit b => Sys2Proof.Machine.execResetComplete level unit b s
  | .resetOverrun level unit => Sys2Proof.Machine.execResetOverrun level unit s
  | .feedLost feed mv => Sys2Proof.Machine.execFeedLost feed mv s
  | .feedRejoin feed mv => Sys2Proof.Machine.execFeedRejoin feed mv s
  | .pwrHoldup => Sys2Proof.Machine.execPwrHoldup s
  | .pwrPhaseFail cluster phase => Sys2Proof.Machine.execPwrPhaseFail cluster phase s
  | .powerSample r => Sys2Proof.Machine.execPowerSample r s
  | .rampStart cluster mask => Sys2Proof.Machine.execRampStart cluster mask s
  | .rampRetry cluster => Sys2Proof.Machine.execRampRetry cluster s
  | .rampForcedAdmit cluster => Sys2Proof.Machine.execRampForcedAdmit cluster s
  | .rampDensityStep cluster => Sys2Proof.Machine.execRampDensityStep cluster s
  | .rampTargetRaise cluster => Sys2Proof.Machine.execRampTargetRaise cluster s
  | .halfStandby half => Sys2Proof.Machine.execHalfStandby half s
  | .halfAsleep half => Sys2Proof.Machine.execHalfAsleep half s
  | .ceilingUpdate core margin => Sys2Proof.Machine.execCeilingUpdate core margin s
  | .powerGrant binding inst watts leaseMs => Sys2Proof.Machine.execPowerGrant binding inst watts leaseMs s
  | .grantFrame f => Sys2Proof.Machine.execGrantFrame f s
  | .grantLapse => Sys2Proof.Machine.execGrantLapse s
  | .slackWindowEnd slack => Sys2Proof.Machine.execSlackWindowEnd slack s
  | .slackFrame f => Sys2Proof.Machine.execSlackFrame f s
  | .grantRedistribution => Sys2Proof.Machine.execGrantRedistribution s
  | .heatMeterUpdate => Sys2Proof.Machine.execHeatMeterUpdate s
  | .heatMismatch => Sys2Proof.Machine.execHeatMismatch s
  | .thermalSample r => Sys2Proof.Machine.execThermalSample r s
  | .thermalStep half n => Sys2Proof.Machine.execThermalStep half n s
  | .memDutyStep ml => Sys2Proof.Machine.execMemDutyStep ml s
  | .thermalModelUpdate watts => Sys2Proof.Machine.execThermalModelUpdate watts s
  | .thmModel layer => Sys2Proof.Machine.execThmModel layer s
  | .thmSuspect layer => Sys2Proof.Machine.execThmSuspect layer s
  | .modelRelease layer => Sys2Proof.Machine.execModelRelease layer s
  | .coolantSample r => Sys2Proof.Machine.execCoolantSample r s
  | .flowLimitUpdate => Sys2Proof.Machine.execFlowLimitUpdate s
  | .outletReductionStep => Sys2Proof.Machine.execOutletReductionStep s
  | .cltRestart => Sys2Proof.Machine.execCltRestart s
  | .bondWearSample => Sys2Proof.Machine.execBondWearSample s
  | .bondWearWrite => Sys2Proof.Machine.execBondWearWrite s
  | .portLinkUp port => Sys2Proof.Machine.execPortLinkUp port s
  | .portLinkDown port => Sys2Proof.Machine.execPortLinkDown port s
  | .laneRetrainTrigger port lane => Sys2Proof.Machine.execLaneRetrainTrigger port lane s
  | .laneRetrainStepDone port => Sys2Proof.Machine.execLaneRetrainStepDone port s
  | .arpRefresh => Sys2Proof.Machine.execArpRefresh s
  | .arpRequest port target asker mac => Sys2Proof.Machine.execArpRequest port target asker mac s
  | .icmpEcho port target asker data => Sys2Proof.Machine.execIcmpEcho port target asker data s
  | .pauseFrame port => Sys2Proof.Machine.execPauseFrame port s
  | .rxDiscard port => Sys2Proof.Machine.execRxDiscard port s
  | .fabWrite f env => Sys2Proof.Machine.execFabWrite f env s
  | .fabReadReq f env => Sys2Proof.Machine.execFabReadReq f env s
  | .fabReadRsp f env => Sys2Proof.Machine.execFabReadRsp f env s
  | .fabAck f => Sys2Proof.Machine.execFabAck f s
  | .fabNak f => Sys2Proof.Machine.execFabNak f s
  | .ackTimer device => Sys2Proof.Machine.execAckTimer device s
  | .retransmitTimeout device => Sys2Proof.Machine.execRetransmitTimeout device s
  | .peerDownRetransmit device => Sys2Proof.Machine.execPeerDownRetransmit device s
  | .busyRetry device psn => Sys2Proof.Machine.execBusyRetry device psn s
  | .rateIncrease device port entry => Sys2Proof.Machine.execRateIncrease device port entry s
  | .collData f env => Sys2Proof.Machine.execCollData f env s
  | .breachFrame f => Sys2Proof.Machine.execBreachFrame f s
  | .breachSend v => Sys2Proof.Machine.execBreachSend v s
  | .breachLatchClear polder => Sys2Proof.Machine.execBreachLatchClear polder s
  | .fabEpValid ep v => Sys2Proof.Machine.execFabEpValid ep v s
  | .rdmaWrite q env => Sys2Proof.Machine.execRdmaWrite q env s
  | .rdmaRead q env => Sys2Proof.Machine.execRdmaRead q env s
  | .reckonPeriod => Sys2Proof.Machine.execReckonPeriod s
  | .reckonNow => Sys2Proof.Machine.execReckonNow s
  | .reckonReq f => Sys2Proof.Machine.execReckonReq f s
  | .reckonRsp f => Sys2Proof.Machine.execReckonRsp f s
  | .reckonDeadline => Sys2Proof.Machine.execReckonDeadline s
  | .casMasterLost => Sys2Proof.Machine.execCasMasterLost s
  | .parDelta f env => Sys2Proof.Machine.execParDelta f env s
  | .parReadReq f env => Sys2Proof.Machine.execParReadReq f env s
  | .parReadRsp f env => Sys2Proof.Machine.execParReadRsp f env s
  | .harvReport f => Sys2Proof.Machine.execHarvReport f s
  | .harvReportPeriod => Sys2Proof.Machine.execHarvReportPeriod s
  | .harvAdviseUpdate => Sys2Proof.Machine.execHarvAdviseUpdate s
  | .parGrpValid group v env => Sys2Proof.Machine.execParGrpValid group v env s
  | .parGrpLost group v => Sys2Proof.Machine.execParGrpLost group v s
  | .parGrpDev group r v => Sys2Proof.Machine.execParGrpDev group r v s
  | .fwOpen => Sys2Proof.Machine.execFwOpen s
  | .fwPortWrite data => Sys2Proof.Machine.execFwPortWrite data s
  | .fwVerify => Sys2Proof.Machine.execFwVerify s
  | .fwVerifyDone => Sys2Proof.Machine.execFwVerifyDone s
  | .fwCommit key => Sys2Proof.Machine.execFwCommit key s
  | .fwCommitDone => Sys2Proof.Machine.execFwCommitDone s
  | .fwCancel => Sys2Proof.Machine.execFwCancel s
  | .fwRecover key => Sys2Proof.Machine.execFwRecover key s
  | .ownerEnroll => Sys2Proof.Machine.execOwnerEnroll s
  | .ownerTransfer env => Sys2Proof.Machine.execOwnerTransfer env s
  | .ownerLock key => Sys2Proof.Machine.execOwnerLock key s
  | .spdmGetVersion binding req => Sys2Proof.Machine.execSpdmGetVersion binding req s
  | .spdmGetCapabilities binding req => Sys2Proof.Machine.execSpdmGetCapabilities binding req s
  | .spdmNegotiateAlgorithms binding req => Sys2Proof.Machine.execSpdmNegotiateAlgorithms binding req s
  | .spdmGetDigests binding req => Sys2Proof.Machine.execSpdmGetDigests binding req s
  | .spdmGetCertificate binding slot off len => Sys2Proof.Machine.execSpdmGetCertificate binding slot off len s
  | .spdmChallenge binding req => Sys2Proof.Machine.execSpdmChallenge binding req s
  | .spdmGetMeasurements binding index req => Sys2Proof.Machine.execSpdmGetMeasurements binding index req s
  | .spdmKeyExchange binding req => Sys2Proof.Machine.execSpdmKeyExchange binding req s
  | .spdmFinish binding session req => Sys2Proof.Machine.execSpdmFinish binding session req s
  | .spdmHeartbeat binding session => Sys2Proof.Machine.execSpdmHeartbeat binding session s
  | .spdmKeyUpdate binding session => Sys2Proof.Machine.execSpdmKeyUpdate binding session s
  | .spdmEndSession binding session => Sys2Proof.Machine.execSpdmEndSession binding session s
  | .ideKm session stream active => Sys2Proof.Machine.execIdeKm session stream active s
  | .mctpSetEid binding src eid => Sys2Proof.Machine.execMctpSetEid binding src eid s
  | .mctpGetEid binding => Sys2Proof.Machine.execMctpGetEid binding s
  | .mctpGetUuid binding => Sys2Proof.Machine.execMctpGetUuid binding s
  | .mctpGetVersion binding type => Sys2Proof.Machine.execMctpGetVersion binding type s
  | .mctpGetTypes binding => Sys2Proof.Machine.execMctpGetTypes binding s
  | .mctpGetVendor binding => Sys2Proof.Machine.execMctpGetVendor binding s
  | .mctpMailbox binding inst op a0 a1 a2 => Sys2Proof.Machine.execMctpMailbox binding inst op a0 a1 a2 s
  | .mctpAlmRead binding inst source first count => Sys2Proof.Machine.execMctpAlmRead binding inst source first count s
  | .mctpAlmFreeze binding inst => Sys2Proof.Machine.execMctpAlmFreeze binding inst s
  | .mctpHeatReport binding inst => Sys2Proof.Machine.execMctpHeatReport binding inst s
  | .pldmGetTid binding inst => Sys2Proof.Machine.execPldmGetTid binding inst s
  | .pldmGetVersion binding inst type => Sys2Proof.Machine.execPldmGetVersion binding inst type s
  | .pldmGetTypes binding inst => Sys2Proof.Machine.execPldmGetTypes binding inst s
  | .pldmGetCommands binding inst type => Sys2Proof.Machine.execPldmGetCommands binding inst type s
  | .pldmGetPdrInfo binding inst => Sys2Proof.Machine.execPldmGetPdrInfo binding inst s
  | .pldmGetPdr binding inst record => Sys2Proof.Machine.execPldmGetPdr binding inst record s
  | .pldmGetSensor binding inst sensor => Sys2Proof.Machine.execPldmGetSensor binding inst sensor s
  | .pldmSetReceiver binding inst eid => Sys2Proof.Machine.execPldmSetReceiver binding inst eid s
  | .pldmQueryDevice binding inst => Sys2Proof.Machine.execPldmQueryDevice binding inst s
  | .pldmGetFwParams binding inst => Sys2Proof.Machine.execPldmGetFwParams binding inst s
  | .pldmRequestUpdate binding inst => Sys2Proof.Machine.execPldmRequestUpdate binding inst s
  | .pldmPassComponents binding inst => Sys2Proof.Machine.execPldmPassComponents binding inst s
  | .pldmUpdateComponent binding inst length => Sys2Proof.Machine.execPldmUpdateComponent binding inst length s
  | .pldmFirmwareData data => Sys2Proof.Machine.execPldmFirmwareData data s
  | .pldmActivate binding inst => Sys2Proof.Machine.execPldmActivate binding inst s
  | .pldmGetStatus binding inst => Sys2Proof.Machine.execPldmGetStatus binding inst s
  | .pldmCancel binding inst => Sys2Proof.Machine.execPldmCancel binding inst s
  | .almFreeze key => Sys2Proof.Machine.execAlmFreeze key s
  | .almFreezeComplete => Sys2Proof.Machine.execAlmFreezeComplete s
  | .perstRelease b => Sys2Proof.Machine.execPerstRelease b s
  | .feedRise feed mv => Sys2Proof.Machine.execFeedRise feed mv s
  | .hotSwapConnect feed => Sys2Proof.Machine.execHotSwapConnect feed s
  | .i3cBusReset => Sys2Proof.Machine.execI3cBusReset s
  | .rdmaInvalid q => Sys2Proof.Machine.execRdmaInvalid q s
  | .ownerDone ok => Sys2Proof.Machine.execOwnerDone ok s

end Sys2Proof.Machine
end

