-- ==== Sys2Proof/Safety.lean ====
section
/-! DEFINITION. What counts as a safe run, and the terms in which statements about commands are made. -/
namespace Sys2Proof.Machine

/-- Every command that waits is well formed. -/
def queueWf (s : State) : Prop := ∀ c ∈ s.pending, Instr.wf c = true

/-- `n` steps from a state are safe: none of them stops the module with a fault or a refusal. -/
def SafeRun (n : Nat) (s : State) : Prop := ∃ t, Sys2Proof.core.run n s = .next t

/-- At a state a command completes with exactly the state that stands last, the queue of waiting commands being left as it was. -/
def Becomes (c : Instr) (s t : State) : Prop := exec c s = .next (t.withQueue s.pending)

/-- At a state a command completes, and the state it leaves has a property. -/
def Completes (c : Instr) (s : State) (P : State → Prop) : Prop := ∃ t, exec c s = .next t ∧ P t

/-- A reset of a level on a unit is in progress, by itself or taken in by a wider one (R40). -/
def ResetRuns (t : State) (level unit : Nat) : Prop := ∃ j ∈ t.resets.jobs, t.resetCovers j.level j.unit level unit = true

/-- A command stands in flight, has run, and waits to commit with a status. -/
def Ends (t : State) (id st : Nat) : Prop := ∃ k, t.cmd? id = some k ∧ k.phase = .done st

/-- A command stands in flight and runs, with this under way. -/
def Works (t : State) (id : Nat) (w : Work) : Prop := ∃ k, t.cmd? id = some k ∧ k.phase = .running ∧ k.work = w

/-- A command stands in flight and has been asked to stop with a status. -/
def Stops (t : State) (id st : Nat) : Prop := ∃ k since, t.cmd? id = some k ∧ k.phase = .stopping st since

/-- A run from a state meets no failure. -/
def Succeeds {α : Type} (r : Run α) (s : State) : Prop := ∃ v t, r s = .ok v t

/-- A reset begins (R561 steps 1 and 2; R40): it joins the resets in progress, those that it takes in give way, its sluice is open, its
dike is up and RST_STATUS.BUSY reads 1; the tick, the image, the settings, the run states and the fuses are as they were. -/
def ResetBegins (s t : State) (level unit : Nat) : Prop :=
  (∃ j, t.resets.jobs = s.resets.jobs.filter (fun x => !s.resetCovers level unit x.level x.unit) ++ [j] ∧
    j.level = level ∧ j.unit = unit ∧ j.begun = s.tick ∧ j.closed = none) ∧
  t.bit Reg.rstStatus 0 = true ∧ (level = 2 → t.flag (Reg.dikeEngine 0) unit = true) ∧ (level = 3 → t.bit Reg.dikePolder unit = true) ∧
  t.tick = s.tick ∧ t.image = s.image ∧ t.sets = s.sets ∧ t.runs = s.runs ∧ t.fuses = s.fuses

/-- A datagram of a TYPE is taken in (R447): the header it carries, and the state with its port's counters moved on. -/
def TakenIn (s : State) (f : Rx) (typ : Nat) (h : Hdr) (t : State) : Prop :=
  f.port < 8 ∧ f.typ = typ ∧ h.typ = typ ∧ s.intake f = (some h, t)

/-- A sequenced frame comes in its turn (R449, R451, R452, R459): its flow is known with its generation and expects its PSN, nothing of the
flow waits or stands beyond a gap, no READ_REQ of its source is still being answered, fewer than 15 frames await their ACK, and its tag is
the one in force. -/
def InTurn (t : State) (h : Hdr) (r : RxFlow) : Prop :=
  t.rxOf h.src = some r ∧ r.gen = h.gen ∧ h.psn = r.next ∧ r.beyond = [] ∧ r.waiting = [] ∧ r.unacked < 15 ∧
  (∀ x ∈ t.fab.reads, x.1 ≠ h.src) ∧ h.tag = t.nat Reg.nvsCfgTag

/-- The receiving side of a flow as it stands once a frame of it has come. -/
def cameTo (f : Rx) (r : RxFlow) : RxFlow := { r with port := f.port, src := f.src, ce := r.ce + b2n f.ce }

/-- A frame in its turn completes with what it does, `u`, and with its PSN accepted (R449), where what it does leaves the receiving side of
its flow as it stood. -/
def TakesTurn (c : Instr) (s u : State) (h : Hdr) (r : RxFlow) : Prop := u.rxOf h.src = some r → Becomes c s (u.acceptPsn h.src h.psn)

/-- Nothing of a source's flow waits for its turn. -/
def NoneWaits (s : State) (d : Nat) : Prop := ∀ r, s.rxOf d = some r → r.waiting = []

end Sys2Proof.Machine
end

