-- ==== Sys2Proof/Certificates/Slice0/Obligations.lean ====
section
/-! DEFINITION. The statements of this model for the provers: the queue and the step, the state's basic operations, and for every
row of the table what the command leaves behind when the conditions of its rules hold. -/
open Sys2Proof Sys2Proof.Machine

/-! ### The step and the queue -/

/-- A step on a queue that holds commands takes the one at its front and runs it with the rest of the queue. -/
def Obligations.StepRunsFront : Prop :=
  ∀ (c : Instr) (rest : List Instr) (s : State), s.pending = c :: rest → step s = exec c (s.withQueue rest)

/-- The model's choice (log entry 4): a step on an empty queue is one period of the 25 MHz clock of R45. The local tick advances by
1 as a 64-bit count, and but for the rails and the core frequencies nothing else changes. Freeboard (R493; its step of 0.4 mV a tick is
log entry 78): a rail below what its cores' frequencies ask for rises by 10 mV per µs, and one that carries them lets every core of its
cluster run at its frequency. -/
def Obligations.IdleStepTicks : Prop :=
  ∀ s : State, s.pending = [] → ∃ t, step s = .next t ∧ t.tick = (s.tick + 1) % 2 ^ 64 ∧ { t with tick := s.tick, clocks := s.clocks } = s ∧
    { t.clocks with rails := s.clocks.rails, freq := s.clocks.freq } = s.clocks ∧
    ∀ c, c < 32 →
      let goal := railNeed ((List.range 8).map (fun i => (8 * c + i, s.freqWant (8 * c + i))))
      ((s.rail c).dmv < goal → t.rail c = ⟨min goal ((s.rail c).dmv + 4), none⟩) ∧
      ((s.rail c).dmv = goal → t.rail c = ⟨goal, none⟩) ∧
      (goal < (s.rail c).dmv → (s.rail c).since = none → t.rail c = ⟨(s.rail c).dmv, some s.tick⟩) ∧
      (∀ x, goal < (s.rail c).dmv → (s.rail c).since = some x → x + 125 ≤ s.tick → t.rail c = ⟨goal, none⟩) ∧
      (goal ≤ (s.rail c).dmv → ∀ i, i < 8 → t.freq (8 * c + i) = s.freqWant (8 * c + i))

/-- Every well-formed command of every row is answered with a next state that leaves the queue of waiting commands alone; a command
that is not well formed, which cannot occur, stops the model with `illFormed` (log entry 6). -/
def Obligations.EveryCommandAnswers : Prop :=
  ∀ (c : Instr) (s : State),
    (c.wf = true → ∃ t, exec c s = .next t ∧ t.pending = s.pending) ∧
    (c.wf = false → exec c s = .fault .illFormed)

/-- INVARIANT: in a state whose waiting commands are all well formed, a step answers a next state, takes at most the front of the
queue, and leaves a queue whose commands are all well formed. No command that can occur ever stops the module. -/
def Obligations.StepKeepsQueue : Prop :=
  ∀ s : State, queueWf s → ∃ t, step s = .next t ∧ t.pending = s.pending.tail ∧ queueWf t

/-- The state after reset has the invariant of the queue.
The memories, registers and counters of the state after reset are in canonical form.
The state after reset (R611 step 9): STAGE reads READY, no image is in force (R1), no command is in flight, the queue is empty, no
reset runs, and the almanac holds EV_BOOT. The variant, its fuses and its NVM are the model's choice (log entry 1). -/
def Obligations.AfterReset : Prop :=
  (queueWf State.reset ∧ State.reset.pending = []) ∧
  (SMap.wf regDefault State.reset.regs = true ∧ SMap.wf (fun _ => (0 : DWord)) State.reset.cnts = true ∧
   SMap.wf (fun _ => (0 : Byte)) State.reset.mem.dram = true ∧ SMap.wf (fun _ => (0 : Byte)) State.reset.mem.shared = true ∧
   SMap.wf (fun _ => (0 : Byte)) State.reset.mem.locals = true ∧ SMap.wf (fun _ => (0 : Byte)) State.reset.host.mem = true) ∧
  (State.reset.stage = 6 ∧ State.reset.recovery = false ∧ State.reset.image = none ∧ State.reset.cmds = [] ∧
   State.reset.pending = [] ∧ State.reset.resets.jobs = [] ∧ State.reset.tick = 0 ∧ State.reset.alm.count = 1 ∧
   entryCode (SMap.get (fun _ => 0) State.reset.alm.ring 0) = 0x0101 ∧ State.reset.variant = 9 ∧
   State.reset.fld Reg.idDevice 15 0 = 0x4C39 ∧ State.reset.bit Reg.imgStatus 3 = false)

/-- From a state whose waiting commands are all well formed, every run is safe: no number of steps ends in a fault or a refusal. -/
def Obligations.RunsAreSafe : Prop := ∀ (n : Nat) (s : State), queueWf s → SafeRun n s

/-! ### Registers, counters and memories -/

/-- A register reads as it was written, every other register reads as before, and nothing but the registers changes; the same of
a 64-bit counter, which wraps at 2^64 (R223).
A field of a register, set to a number, reads as that number modulo its width, and every bit of the register outside the field
is left alone. -/
def Obligations.RegistersAndFields : Prop :=
  (∀ (s : State) (a b : Nat) (v : Word) (n : Nat),
     (s.setReg a v).reg b = (if b = a then v else s.reg b) ∧
     { s.setReg a v with regs := s.regs } = s ∧
     (s.addCnt a n).cnt b = (if b = a then s.cnt a + BitVec.ofNat 64 n else s.cnt b) ∧
     { s.addCnt a n with cnts := s.cnts } = s) ∧
  (∀ (w : Word) (hi lo v : Nat), lo ≤ hi → hi < 32 →
     fld (setFld w hi lo v) hi lo = v % 2 ^ (hi + 1 - lo) ∧
     ∀ i, i < 32 → (i < lo ∨ hi < i) → (setFld w hi lo v).getLsbD i = w.getLsbD i)

/-- Byte memories: after a write of bytes from an address upward, each address inside reads the byte written there, each address
outside reads as before, and the canonical form is kept; in canonical form, memories that read alike are equal. -/
def Obligations.MemoryReadAfterWrite : Prop :=
  ∀ (m : Mem) (a : Nat) (bs : List Byte),
    (∀ j, (m.write a bs).byte j = if a ≤ j ∧ j < a + bs.length then bs.getD (j - a) 0 else m.byte j) ∧
    (SMap.wf (fun _ => (0 : Byte)) m = true → SMap.wf (fun _ => (0 : Byte)) (m.write a bs) = true) ∧
    (∀ m' : Mem, SMap.wf (fun _ => (0 : Byte)) m = true → SMap.wf (fun _ => (0 : Byte)) m' = true →
      (∀ j, m.byte j = m'.byte j) → m = m')

/-- A whole block of stack memory, written where the column works, no flip is armed and no hard fault lies, reads back as it was
written, and reading it changes nothing; every byte of stack memory outside the block keeps its value (R309–R313). -/
def Obligations.BlockReadAfterWrite : Prop :=
  ∀ (s : State) (rq : Req) (addr col q : Nat) (bs : List Byte),
    s.colFailed col = false → s.flipArmed col = false → (s.blockErr col q).hard = 0 → bs.length = 64 →
    (s.writeBlock rq addr col q 0 bs).1 = true ∧
    (let t := (s.writeBlock rq addr col q 0 bs).2
     t.readBlock rq addr col q false = (some bs, t) ∧
     ∀ k, (k < dramKey col (q / 64 * 64) ∨ dramKey col (q / 64 * 64) + 64 ≤ k) → t.mem.dram.byte k = s.mem.dram.byte k)

/-- An entry of the almanac's ring (R641, R645, R646): outside recovery mode, with the firmware running and no freeze in progress, an
event stands in the next place of the ring with the local tick, its code, its source and its severity, and ALM_COUNT rises by 1. -/
def Obligations.EventEntersRing : Prop :=
  ∀ (s : State) (code : Nat) (src : Nat × Nat) (ctx : Option Nat) (data : Nat),
    s.recovery = false → 0 < s.stage → s.alm.freeze = none →
    let t := s.event code src ctx data
    t.alm.count = s.alm.count + 1 ∧ t.alm.lostBefore = false ∧
    SMap.get (fun _ => 0) t.alm.ring (s.alm.count % 4096) =
      entryWithLost (mkEntry s.tick code src ctx false data) s.alm.lostBefore ∧
    (t.alm.freeze.isSome = true ↔ entrySev (entryWithLost (mkEntry s.tick code src ctx false data) s.alm.lostBefore) = 4)

/-! ### Power-on, links and functions -/

/-- POWER_ON (R611): bring-up waits for PERST_N, or ends in READY or in recovery mode. PERST_N_RELEASE: bring-up that waited goes on
to READY or recovery mode; otherwise the pin alone changes. STRAP_CHANGE (R673): the straps change, the latched value does not, and a
difference is shown. I3C_BUS_RESET (R684): the dynamic address is given up. -/
def Obligations.PowerAndPins : Prop :=
  ∀ s : State,
    (∀ feed b, feed < 2 → s.powered = false →
      Completes (.powerOn feed b) s (fun t => t.pcie.bring = some true ∨ t.recovery = true ∨ t.stage = 6)) ∧
    (∀ b p, s.pcie.bring = some p → Completes (.perstRelease b) s (fun t => t.recovery = true ∨ t.stage = 6)) ∧
    (∀ b, s.pcie.bring = none → Becomes (.perstRelease b) s { s with pins := { s.pins with perst := false } }) ∧
    (∀ level, level < 16 →
      Completes (.strapChange level) s (fun t => t.pins = { s.pins with straps := level } ∧
        t.fld Reg.idSideband 3 0 = s.fld Reg.idSideband 3 0 ∧
        (level ≠ s.fld Reg.idSideband 3 0 → t.bit Reg.idSideband 16 = true) ∧
        { t with pins := s.pins, regs := s.regs } = s)) ∧
    Becomes .i3cBusReset s { s with mctp := { s.mctp with i3cAddr := 0 } }

/-- PERST_N (R674): an assertion shorter than 1 µs is ignored; one of 1 µs or longer starts a module reset; one while no feed is
present has no effect. -/
def Obligations.PerstAssertion : Prop :=
  ∀ (s : State) (ns : Nat),
    (ns < 1000 → Becomes (.perstAssert ns) s s) ∧
    (1000 ≤ ns → s.powered = true → s.pins.perst = false → s.pcie.bring = none →
      Completes (.perstAssert ns) s (fun t => ResetRuns t 5 0)) ∧
    (s.powered = false → Becomes (.perstAssert ns) s s)

/-- Requests for resets. PCIE_HOT_RESET and PCIE_LINK_LOSS while the link is up (R615), and MODULE_RESET with its key (R577), begin a
module reset unless one is in progress, and with one in progress a module reset runs afterwards all the same; the PCIe events end the
virtual functions. FUNCTION_LEVEL_RESET_PF (R616) and CHIP_RESET with its key begin a chip reset unless one as wide is in progress; the
commit of an image holds them back (R102). ENGINE_RESET and POLDER_RESET of a defined polder begin theirs where no reset is in progress.
A RST_CTRL request with another key, or for an undefined polder, is refused with ERR (R577).
The beginning of a reset that nothing holds back (R40, R561 steps 1 and 2): afterwards a reset in progress covers it; and where none
covered it before, RST_STATUS.BUSY reads 1 and the dike of its polder is up (R557). -/
def Obligations.ResetRequests : Prop :=
  (∀ s : State,
     (s.pcie.linkUp = true → Completes .pcieHotReset s (fun t => ResetRuns t 5 0 ∧ t.pcie.vfs = 0 ∧ t.pcie.linkUp = true ∧
       ((∀ j ∈ s.resets.jobs, j.level < 5) → ResetBegins s t 5 0))) ∧
     (s.pcie.linkUp = true → Completes .pcieLinkLoss s (fun t => ResetRuns t 5 0 ∧ t.pcie.vfs = 0 ∧ t.pcie.linkUp = false ∧
       ((∀ j ∈ s.resets.jobs, j.level < 5) → ResetBegins s t 5 0))) ∧
     (s.pcie.linkUp = false → Becomes .pcieHotReset s s ∧ Becomes .pcieLinkLoss s s) ∧
     (s.pcie.linkUp = true → s.pins.perst = false →
       (s.loader.stage ≠ .committing → Completes .flrPf s (fun t => ResetRuns t 4 0 ∧ t.pcie.vfs = 0 ∧
         ((∀ j ∈ s.resets.jobs, j.level < 4) → ResetBegins s t 4 0))) ∧
       (s.loader.stage = .committing → Becomes .flrPf s { s with
         pcie := { s.pcie with vfs := 0, d3 := [], heldRecords := [], heldMsix := [] },
         loader := { s.loader with heldResets := s.loader.heldResets ++ [(4, 0, 4)] } })) ∧
     (s.hostOpen = true →
       Completes (.moduleReset 0xA5) s (fun t => ResetRuns t 5 0 ∧ ((∀ j ∈ s.resets.jobs, j.level < 5) → ResetBegins s t 5 0)) ∧
       (s.loader.stage ≠ .committing → Completes (.chipReset 0xA5) s (fun t => ResetRuns t 4 0 ∧
         ((∀ j ∈ s.resets.jobs, j.level < 4) → ResetBegins s t 4 0))) ∧
       (s.loader.stage = .committing → Becomes (.chipReset 0xA5) s
         { s with loader := { s.loader with heldResets := s.loader.heldResets ++ [(4, 0, 3)] } })) ∧
     (∀ key, key < 256 → key ≠ 0xA5 → s.hostOpen = true →
       Becomes (.moduleReset key) s (s.setBit Reg.rstStatus 4 true) ∧ Becomes (.chipReset key) s (s.setBit Reg.rstStatus 4 true) ∧
       Becomes (.powerCycleRequest key) s (s.setBit Reg.rstStatus 4 true)) ∧
     (∀ core, core < 256 → s.hostOpen = true → Becomes (.engineReset core) s (s.askReset 2 core) ∧
       (s.resets.jobs = [] → Completes (.engineReset core) s (fun t => ResetBegins s t 2 core))) ∧
     (∀ p, p < 32 → s.hostOpen = true → (s.polderRec p).isSome = true → Becomes (.polderReset p) s (s.askReset 3 p) ∧
       (s.resets.jobs = [] → s.loader.stage ≠ .committing → Completes (.polderReset p) s (fun t => ResetBegins s t 3 p))) ∧
     (∀ p, p < 32 → s.hostOpen = true → s.polderRec p = none → s.loader.stage ≠ .committing →
       Becomes (.polderReset p) s (s.setBit Reg.rstStatus 4 true)) ∧
     (∀ p, p < 32 → s.hostOpen = true → s.resets.jobs = [] → s.loader.stage = .committing → Becomes (.polderReset p) s
       { s with loader := { s.loader with heldResets := s.loader.heldResets ++ [(3, p, 3)] } })) ∧
  (∀ (s : State) (level unit trigger : Nat) (odd : Option (Nat × Nat × Nat)) (suspects : List Nat), 3 ≤ level → level ≤ 5 → unit < 32 →
     ResetRuns (s.beginReset level unit trigger none odd suspects) level unit ∧
     ((s.resets.jobs.all (fun j => !s.resetCovers j.level j.unit level unit)) = true →
       (s.beginReset level unit trigger none odd suspects).bit Reg.rstStatus 0 = true ∧
       (level = 3 → (s.beginReset level unit trigger none odd suspects).bit Reg.dikePolder unit = true)))

/-- VF_ENABLE (R141): with the ranges of R141 the virtual functions come into being; otherwise FN_STATUS says so. D3HOT_ENTRY and
D0_RETURN (R631): the power state of an existing function changes, and nothing else on entry. FUNCTION_LEVEL_RESET_VF (R144): a
context reset of each context of the range, from a state in which the function is in D0.
IDE_INTEGRITY_FAILURE (R630): an active stream becomes Insecure, SEC_IDE and AER show it. IDE_KM inside a finished session over
DOE: the stream is active exactly when its keys were programmed, and no longer Insecure. -/
def Obligations.FunctionsAndLinkEncryption : Prop :=
  (∀ s : State, s.pcie.linkUp = true → s.pins.perst = false →
     (∀ n, 1 ≤ n → n < 64 → s.pcie.vfs = 0 → s.rangesOk = true →
       Becomes (.vfEnable n) s { s with pcie := { s.pcie with vfs := n } }) ∧
     (∀ n, 1 ≤ n → n < 64 → s.pcie.vfs = 0 → s.rangesOk = false → Becomes (.vfEnable n) s (s.setBit Reg.fnStatus 0 true)) ∧
     (∀ fn, fn < 64 → fn ≤ s.pcie.vfs → s.pcie.d3.contains fn = false →
       Becomes (.d3hotEntry fn) s { s with pcie := { s.pcie with d3 := fn :: s.pcie.d3 } }) ∧
     (∀ fn env, fn < 64 → s.pcie.d3.contains fn = true →
       Completes (.d0Return fn env) s (fun t => t.pcie.d3 = s.pcie.d3.filter (· != fn) ∧
         t.pcie.heldRecords = s.pcie.heldRecords.filter (fun r => (s.arrive env).fnOf r.1 != fn) ∧
         t.cmds = s.cmds ∧ t.resets = s.resets)) ∧
     (∀ v, 1 ≤ v → v < 64 → v ≤ s.pcie.vfs →
       Becomes (.flrVf v) s (((List.range (s.fnRange v).2).map ((s.fnRange v).1 + ·)).foldl (fun (s : State) c => s.contextReset c 4)
         { s with pcie := { s.pcie with d3 := s.pcie.d3.filter (· != v), heldRecords := s.pcie.heldRecords.filter (fun r => s.fnOf r.1 != v),
                                        heldMsix := s.pcie.heldMsix.filter (fun m => m.1 != v) } }))) ∧
  (∀ s : State,
     (∀ stream, stream < 5 → s.sec.ideActive.testBit stream = true → s.sec.ideInsecure.testBit stream = false →
       Completes (.ideIntegrityFailure stream) s (fun t => t.sec.ideInsecure = s.sec.ideInsecure ||| 2 ^ stream ∧
         t.bit Reg.secIde 8 = true ∧ t.pcie.aer = aerIde :: s.pcie.aer ∧ t.sec.ideActive = s.sec.ideActive)) ∧
     (∀ session stream active x, stream < 5 → s.spdmServed 2 = true → s.session 2 session = some x → x.finished = true →
       Completes (.ideKm session stream active) s (fun t =>
         t.sec.ideActive.testBit stream = active ∧ t.sec.ideInsecure.testBit stream = false ∧ t.sec.sessions = s.sec.sessions)))

/-! ### Accesses of the host -/

/-- BAR2_READ and BAR2_WRITE (R304, R305), after a change of the aperture's size that arrives with them. In normal service a read is
completed with the bytes of the column and the blocks of them that are poisoned, and a write stores its bytes; a range beyond the column
is an Unsupported Request; a retired unit a Completer Abort; of a write, each is logged and nothing stored. Until READY and in recovery
mode a read is an Unsupported Request (R612), and during a module reset a Completer Abort; a write then does nothing. -/
def Obligations.HostAperture : Prop :=
  ∀ (s : State) (off len : Nat) (data : List Byte) (env : Env),
    let r := s.resizeBar env
    let u := r.arrive env
    (r.bar2Open off len = true → u.bar2Early = false → u.moduleResetting = false →
      (beyondColumn off len = false → u.physRetired (u.apertureCol off) (bits off 29 0) len = false →
        Completes (.bar2Read off len env) s (fun t => t.out.head? = some (.completion 0
          (u.physRead Req.host (u.apertureCol off) (bits off 29 0) len).1
          (u.physRead Req.host (u.apertureCol off) (bits off 29 0) len).2.1))) ∧
      (beyondColumn off len = true →
        Becomes (.bar2Read off len env) s ((u.aer aerUnsupported).emit (.completion 1 [] []))) ∧
      (beyondColumn off len = false → u.physRetired (u.apertureCol off) (bits off 29 0) len = true →
        Becomes (.bar2Read off len env) s ((u.aer aerCompleterAbort).emit (.completion 2 [] [])))) ∧
    (r.bar2Open off len = true → u.bar2Early = true → Becomes (.bar2Read off len env) s (u.emit (.completion 1 [] []))) ∧
    (r.bar2Open off len = true → u.bar2Early = false → u.moduleResetting = true →
      Becomes (.bar2Read off len env) s (u.emit (.completion 2 [] []))) ∧
    (r.bar2Open off data.length = true → u.bar2Early = false → u.moduleResetting = false →
      (beyondColumn off data.length = false → u.physRetired (u.apertureCol off) (bits off 29 0) data.length = false →
        (u.physWrite Req.host (u.apertureCol off) (bits off 29 0) data).1 = 0 →
        Becomes (.bar2Write off data env) s (u.physWrite Req.host (u.apertureCol off) (bits off 29 0) data).2) ∧
      (beyondColumn off data.length = true → Becomes (.bar2Write off data env) s (u.aer aerUnsupported)) ∧
      (beyondColumn off data.length = false → u.physRetired (u.apertureCol off) (bits off 29 0) data.length = true →
        Becomes (.bar2Write off data env) s (u.aer aerCompleterAbort))) ∧
    (r.bar2Open off data.length = true → (u.bar2Early = true ∨ u.moduleResetting = true) → Becomes (.bar2Write off data env) s u)

/-- REGISTER_WRITE (R11, R12, R142): a write that reaches a register of the function's view is taken by that register's rule; any other
write changes nothing. COUNTER_LO_READ (R223): a read of the LO half of a counter is completed with its low 32
bits, the HI half is latched, and neither the counter nor any register changes; the read of HI then answers the latched half and
releases it. -/
def Obligations.HostRegisters : Prop :=
  ∀ (s : State) (fn addr : Nat) (v : Word) (env : Env), fn < 64 →
    (∀ a, (s.arrive env).seenReg fn addr = some a → Becomes (.registerWrite fn addr v env) s ((s.arrive env).writeReg fn a v env)) ∧
    ((s.arrive env).seenReg fn addr = none → Becomes (.registerWrite fn addr v env) s (s.arrive env)) ∧
    (∀ a d, s.seenReg fn addr = some a → findReg a = some d → d.wide = true →
      Completes (.counterLoRead fn addr) s (fun t =>
        t.out = .completion 0 (leBytes 4 ((s.counterValue d addr).toNat % 2 ^ 32)) [] :: s.out ∧
        t.latch addr = some (BitVec.ofNat 32 ((s.counterValue d addr).toNat / 2 ^ 32)) ∧
        { t with out := s.out, latches := s.latches } = s)) ∧
    (∀ a d h, 4 ≤ addr → s.seenReg fn (addr - 4) = some a → findReg a = some d → d.wide = true →
      ((s.seenReg fn addr).bind (fun x => (findReg x).filter (fun e => e.wide))) = none → s.latch (addr - 4) = some h →
      Completes (.counterLoRead fn addr) s (fun t =>
        t.out = .completion 0 (leBytes 4 h.toNat) [] :: s.out ∧ t.latch (addr - 4) = none ∧ { t with out := s.out, latches := s.latches } = s))

/-- A plain register (R11, R12): a write sets its RW bits to the value's, clears the W1C bits that the value sets, and leaves every
other bit, reserved ones among them, and every other register as they were; RWL bits take the value only until an image is in force. -/
def Obligations.PlainRegisterWrite : Prop :=
  ∀ (s : State) (d : RegDesc) (a : Nat) (v : Word) (i b : Nat), i < 32 →
    ((s.plainWrite d a v).reg a).getLsbD i =
      (if d.w1c.testBit i && v.getLsbD i then false
       else if d.rw.testBit i || (d.rwl.testBit i && !s.bit Reg.imgStatus 3) then v.getLsbD i
       else (s.reg a).getLsbD i) ∧
    (b ≠ a → (s.plainWrite d a v).reg b = s.reg b) ∧ { s.plainWrite d a v with regs := s.regs } = s

/-- Isolation of virtual functions (R142): a register write through a virtual function to an address that is neither among the ID_* and
CAP_* registers nor in its own context entries changes nothing at all in the module. -/
def Obligations.VirtualFunctionIsolation : Prop :=
  ∀ (s : State) (fn addr : Nat) (v : Word) (env : Env), 1 ≤ fn → fn < 64 → 0x10000 ≤ addr →
    (addr < 0x40000 ∨ 0x100000 ≤ addr ∨ s.localCtx fn ((addr - 0x40000) / 64) = none) →
    Becomes (.registerWrite fn addr v env) s (s.arrive env)

/-! ### Contexts and the tracker -/

/-- CTX_BIND (R145, R178): the physical function binds a context that is disabled and has no command in flight; otherwise BIND_ERR is
set; a write through a virtual function is ignored. ENABLE (R147, R153, R177): with legal ring sizes the context is enabled, both rings
start empty, and PHASE is 1; with others RING_FAULT is set. CTX_DISABLE: ENABLE reads 0, and commands in flight go on. CONTEXT_RESET
(R563) is asked for by CTX_CTRL. -/
def Obligations.ContextControl : Prop :=
  ∀ (s : State) (fn idx ctx : Nat) (irqEn : Bool) (v : Word), fn < 64 → ctx < 4096 → s.reachCtx fn idx = some ctx →
    (fn = 0 → s.enabled ctx = false → s.inflight ctx = 0 → Becomes (.ctxBind fn idx v) s (s.setReg (Reg.ctxBind ctx) (v &&& 0x39F))) ∧
    (fn = 0 → (s.enabled ctx = true ∨ s.inflight ctx ≠ 0) → Becomes (.ctxBind fn idx v) s (s.setBit (Reg.ctxStatus ctx) 18 true)) ∧
    (fn ≠ 0 → Becomes (.ctxBind fn idx v) s s) ∧
    (s.enabled ctx = false → s.resets.jobs = [] → (s.aux ctx).resetting = none → s.ringsOk ctx = true →
      Completes (.ctxEnable fn idx irqEn) s (fun t => t.enabled ctx = true ∧ t.sqHead ctx = 0 ∧ t.sqTail ctx = 0 ∧ t.cqHead ctx = 0 ∧
        t.cqTail ctx = 0 ∧ t.fld (Reg.ctxCqTail ctx) 16 16 = 1 ∧ (t.aux ctx).marked = [] ∧ t.cmds = s.cmds ∧
        ∀ a, (a < 0x40000 + 64 * ctx ∨ 0x40040 + 64 * ctx ≤ a) → t.reg a = s.reg a)) ∧
    (s.enabled ctx = false → s.resets.jobs = [] → (s.aux ctx).resetting = none → s.ringsOk ctx = false →
      Becomes (.ctxEnable fn idx irqEn) s ((s.setBit (Reg.ctxCtrl ctx) 2 irqEn).setBit (Reg.ctxStatus ctx) 16 true)) ∧
    Completes (.ctxDisable fn idx irqEn) s (fun t => t.enabled ctx = false ∧ t.cmds = s.cmds ∧
      ∀ a, a ≠ Reg.ctxCtrl ctx → a ≠ Reg.ctxStatus ctx → t.reg a = s.reg a) ∧
    Becomes (.contextReset fn idx) s (s.contextReset ctx 3)

/-- DB_SQ_TAIL and DB_CQ_HEAD (R108, R149, R151): a doorbell of the context's own function, while ENABLE is 1 and the context has not
been found guilty, records the new index; a value at or above the ring size is not taken and sets DB_ERR; with ENABLE 0 the write
changes nothing. -/
def Obligations.Doorbells : Prop :=
  ∀ (s : State) (fn idx ctx : Nat) (v : Word), fn < 64 → ctx < 4096 → s.reachCtx fn idx = some ctx → s.fnOf ctx = fn →
    (s.enabled ctx = true → (s.aux ctx).guilty = false →
      (fld v 15 0 < s.sqSize ctx → Completes (.dbSqTail fn idx v) s (fun t => t.sqTail ctx = fld v 15 0 ∧ t.sqHead ctx = s.sqHead ctx ∧
        t.cmds = s.cmds ∧ ∀ a, a ≠ Reg.ctxSqTail ctx → a ≠ Reg.ctxStatus ctx → t.reg a = s.reg a)) ∧
      (s.sqSize ctx ≤ fld v 15 0 → Becomes (.dbSqTail fn idx v) s (s.setBit (Reg.ctxStatus ctx) 17 true)) ∧
      (fld v 15 0 < s.cqSize ctx → Completes (.dbCqHead fn idx v) s (fun t => t.cqHead ctx = fld v 15 0 ∧ t.cqTail ctx = s.cqTail ctx ∧
        t.cmds = s.cmds ∧ ∀ a, a ≠ Reg.ctxCqHead ctx → a ≠ Reg.ctxStatus ctx → t.reg a = s.reg a)) ∧
      (s.cqSize ctx ≤ fld v 15 0 → Becomes (.dbCqHead fn idx v) s (s.setBit (Reg.ctxStatus ctx) 17 true))) ∧
    (s.enabled ctx = false → Becomes (.dbSqTail fn idx v) s s ∧ Becomes (.dbCqHead fn idx v) s s)

/-- DESCRIPTOR_FETCH (R150, R152, R157): where a fetch is allowed and its host memory can be read, the descriptor joins the commands in
flight as a waiting command with the next identity, and the head of its ring advances by one; so it stays where no ABORT marked its
slot and it passes every check; one that is marked (R174) commits at once with the mark's status, and one that fails a check with that
check's status. Where the host memory cannot be read, RING_FAULT is set with its event; where no fetch is allowed nothing happens.
COMMAND_COMMIT (R158–R160): a command whose status stands, once a vector step or an append under way has been finished, commits with it;
one with nothing under way leaves flight and writes its record of 16 bytes, the rest of host memory and the module's memories staying as
they were; one that a reset takes in waits for its sluice, and one that still runs or waits stays.
IRQ_HOLD_EXPIRY (R163): the message of a context whose hold time has run out is sent, and its count starts again; before, nothing
happens. -/
def Obligations.FetchAndCommit : Prop :=
  (∀ (s : State) (ctx : Nat) (env : Env), ctx < 4096 →
     let u := s.arrive env
     let a := u.sqBase ctx + 64 * u.sqHead ctx
     let c := u.newCmd ctx (BitVec.ofNat 512 (leNat (u.host.mem.read a 64)))
     let t := u.takeSlot ctx c
     (u.fetchable ctx = true → u.hostMapped a 64 = true → u.hostClean a 64 = true →
       (u.slotMark ctx c.slot = none → t.fetchCheck c = St.ok → Becomes (.descriptorFetch ctx env) s t) ∧
       (u.slotMark ctx c.slot = none → t.fetchCheck c ≠ St.ok → Becomes (.descriptorFetch ctx env) s (t.commit c (t.fetchCheck c))) ∧
       (∀ st, u.slotMark ctx c.slot = some st → Becomes (.descriptorFetch ctx env) s (t.commit c st))) ∧
     (u.fetchable ctx = true → (u.hostMapped a 64 && u.hostClean a 64) = false → Becomes (.descriptorFetch ctx env) s
       ((u.setBit (Reg.ctxStatus ctx) 16 true).event 0x0204 Src.module (some ctx) (dataOf [(0, a), (8, 1)]))) ∧
     (u.fetchable ctx = false → Becomes (.descriptorFetch ctx env) s u) ∧
     (t.cmds = u.cmds ++ [c] ∧ c.phase = .waiting ∧ c.work = .none ∧ c.id = u.nextId ∧ t.nextId = u.nextId + 1 ∧
       t.sqHead ctx = (u.sqHead ctx + 1) % u.sqSize ctx % 2 ^ 16 ∧
       (∀ r, r ≠ Reg.ctxSqHead ctx → r ≠ Reg.ctxStatus ctx → t.reg r = u.reg r) ∧
       { t with cmds := u.cmds, nextId := u.nextId, regs := u.regs, ctxs := u.ctxs, arbs := u.arbs } = u)) ∧
  (∀ (s : State) (id : Nat) (env : Env) (c : Cmd),
     let u := s.arrive env
     let iova := u.cqBase c.ctx + 16 * u.cqTail c.ctx
     u.cmd? id = some c →
       (∀ st, c.ctx < 4096 → u.sluiced c = false → c.phase = .done st → c.work = .none → c.op ≠ 0x20 → c.op ≠ 0x30 → c.op ≠ 0x70 →
         SMap.get (fun _ => false) u.sentinel (u.polderOf c) = false → u.seqsOf id = [] → (u.aux c.ctx).resetting = none →
         u.resets.replay = none → u.configOpen = true → u.pcie.d3.contains (u.fnOf c.ctx) = false → u.hostMapped iova 16 = true →
         Completes (.commandCommit id env) s (fun t => t.cmd? id = none ∧ t.cmds.length = (u.cmds.filter (fun k => k.id != id)).length ∧
           t.host.mem.read iova 16 = u.recordOf c st (if decide (st ≠ St.ok) && c.wrote then setWarn c.warn Wn.isPartial else c.warn) c.errAddr.isSome ∧
           (∀ b, (b < iova ∨ iova + 16 ≤ b) → t.host.mem.byte b = u.host.mem.byte b) ∧ t.mem = u.mem)) ∧
       (u.sluiced c = false → ∀ k, ((u.optFinish c).appendFinish c).cmd? id = some k →
         (∀ st, ((u.optFinish c).appendFinish c).commitStatus k = some st →
           Becomes (.commandCommit id env) s (((u.optFinish c).appendFinish c).commit k st)) ∧
         (((u.optFinish c).appendFinish c).commitStatus k = none → Becomes (.commandCommit id env) s ((u.optFinish c).appendFinish c))) ∧
       (u.sluiced c = true → Becomes (.commandCommit id env) s u) ∧
       (c.work = .none → (c.phase = .running ∨ c.phase = .waiting ∨ c.phase = .held) → Becomes (.commandCommit id env) s u)) ∧
  (∀ (s : State) (ctx t : Nat), ctx < 4096 → (s.aux ctx).firstUnsig = some t →
     (s.bit (Reg.ctxCtrl ctx) 2 = true → s.fld (Reg.ctxIrq ctx) 31 20 ≠ 0 → t + 25 * s.fld (Reg.ctxIrq ctx) 31 20 ≤ s.tick →
       Becomes (.irqHoldExpiry ctx) s
         ((s.setAux ctx { s.aux ctx with unsignalled := 0, firstUnsig := none }).msix (s.fnOf ctx) (s.fld (Reg.ctxIrq ctx) 10 0))) ∧
     ((s.bit (Reg.ctxCtrl ctx) 2 = false ∨ s.fld (Reg.ctxIrq ctx) 31 20 = 0 ∨ s.tick < t + 25 * s.fld (Reg.ctxIrq ctx) 31 20) →
       Becomes (.irqHoldExpiry ctx) s s))

/-- ORDERED and FENCE (R167, R168): a command with ORDERED set, and a FENCE, start only when no earlier command of their context is in
flight; and while an earlier FENCE of its context is in flight, no command starts. -/
def Obligations.StartOrder : Prop :=
  ∀ (s : State) (id op : Nat) (c : Cmd), s.starts id op = some c →
    ((c.ordered = true ∨ c.op = 0x60) → s.earlier c = []) ∧ ∀ d ∈ s.earlier c, d.op ≠ 0x60

/-- The completion record (R158): 16 bytes that hold the tick of its commit, the slot, TAG, the status, PHASE and DETAIL, and the
warning mask, each little-endian in its place. -/
def Obligations.CompletionRecord : Prop :=
  ∀ (s : State) (c : Cmd) (st warn : Nat) (detail : Bool), s.tick < 2 ^ 64 → c.slot < 2 ^ 16 → st < 256 → warn < 2 ^ 16 →
    (s.recordOf c st warn detail).length = 16 ∧
    lsub (s.recordOf c st warn detail) 0 8 = s.tick ∧ lsub (s.recordOf c st warn detail) 8 2 = c.slot ∧
    lsub (s.recordOf c st warn detail) 10 2 = dfld c.desc 2 2 ∧ lbyte (s.recordOf c st warn detail) 12 = st ∧
    lbyte (s.recordOf c st warn detail) 13 = s.fld (Reg.ctxCqTail c.ctx) 16 16 + 2 * b2n detail ∧
    lsub (s.recordOf c st warn detail) 14 2 = warn

/-! ### Arrays, vector units and the counters of a core -/

/-- GEMM and CONV (R185, R198) that start where no dike stands in the way: without an append, the command runs with a tile list that
its template cuts over the participating cores, with no maximum formed and the seed of its context; with an append (R379) it runs so
with the slots that its admission reserved, and ends with the failing check's status where the admission fails; without a template of
its number it ends with ST_BAD_DESCRIPTOR. Each does exactly what `startArray` gives.
ELEMENTWISE (R261–R263) whose cores have had their start (R499): a run without a failing access ends the command with ST_OK and leaves
the memories and the cores' counters as the run left them; one with a failing access ends it with that access's status; before its cores
have had their start it waits. -/
def Obligations.ArrayAndVectorCommands : Prop :=
  (∀ (s : State) (id : Nat) (env : Env) (c : Cmd), s.meetsDike c = false → ∀ i op, ((i = Instr.gemm id env ∧ op = 0x01) ∨ (i = Instr.conv id env ∧ op = 0x02)) →
     s.starts id op = some c →
       Becomes i s ((s.arrive env).startArray c) ∧
       ((s.arrive env).template c = none → Completes i s (fun u => Ends u id St.badDescriptor ∧ { u with cmds := s.cmds } = s.arrive env)) ∧
       (∀ t, (s.arrive env).template c = some t → tfAppend c.desc = false →
         Completes i s (fun u => Works u id
           (.array (coreTiles t c.desc (s.partCores (s.polderOf c) t.cores) (passTiles t)) 0 none (s.nat (Reg.precSeed c.ctx))))) ∧
       (∀ t, (s.arrive env).template c = some t → tfAppend c.desc = true →
         let adm := Run.admission (reqBd c) c (s.polderOf c) (extent c.desc 0) (extent c.desc 1) (fmtDst c.desc) (decide (t.layD = 0)) (s.arrive env)
         (∀ r v, adm = .ok r v → Completes i s (fun u => Works u id
           (.array (coreTiles t c.desc (v.partCores (s.polderOf c) t.cores) (passTiles t)) 0 (some r) (v.nat (Reg.precSeed c.ctx))))) ∧
         (∀ e v, adm = .error e v → Completes i s (fun u => Ends u id e.status)))) ∧
  (∀ (s : State) (id : Nat) (env : Env) (c : Cmd), s.starts id 0x03 = some c → s.meetsDike c = false →
     ((s.arrive env).template c = none → Becomes (.elementwise id env) s ((s.arrive env).endCmd id St.badDescriptor none)) ∧
     (∀ t, (s.arrive env).template c = some t →
       let cores := coreTiles t c.desc ((s.arrive env).partCores ((s.arrive env).polderOf c) t.cores) (fun x => [x])
       let run := Run.elementwise t c ((s.arrive env).polderOf c)
         (cores.foldl (fun (s : State) x => s.spanStart x.1 c) ((s.arrive env).beginCmd id .none))
       ((s.arrive env).coresWarm (cores.map (fun x => x.1)) = false → Becomes (.elementwise id env) s (s.arrive env)) ∧
       ((s.arrive env).coresWarm (cores.map (fun x => x.1)) = true →
         (∀ v, run = .ok () v → Completes (.elementwise id env) s (fun u => Ends u id St.ok ∧ u.mem = v.mem ∧ u.regs = v.regs ∧ u.cores = v.cores ∧ u.host = v.host)) ∧
         (∀ e v, run = .error e v → Completes (.elementwise id env) s (fun u => Ends u id e.status ∧ u.mem = v.mem ∧ u.regs = v.regs)))))

/-- PASS_START (R189, R210, R217) on a core that may start one, for a running command whose template is there: where the operands and
weights of the tile's piece can be read, the core holds one set more, of that tile, and the pass is that of the command; where they
cannot, the command ends with the failing access's status and none of its sets is left on the core.
DRAIN_COMPLETE (R208–R210, R233) of the oldest set that need not wait: a set whose command is gone is dropped; one whose rows all pass is
written, and leaves the core with the write; a mismatch of a first execution puts the tile up for another, and one of a second ends the
command with ST_UNCORRECTABLE.
SHADOW_SAMPLE_END (R243–R246): a tile without a sample adds to the skipped count, one with a sample to the samples, and D takes it, a
first sample as it is and a later one by a sixteenth of the difference; the lane is free afterwards.
CLR_COUNTERS of ARR_CTRL (R222): ARR_ABFT and the eight counters of the core read 0, and nothing else changes. CLR of PREC_CTRL (R255):
the saturation and NaN counters and the sample counts read 0, and nothing else changes. CLEAR of PREC_DRIFT_CTRL (R258): for a defined
polder drift value and peak read 0, ABOVE is cleared, and nothing else changes; for another nothing happens. -/
def Obligations.CorePassesAndClears : Prop :=
  (∀ (s : State) (n : Nat) (env : Env), n < 256 →
     (∀ id tile retry c t, s.canPass n = true → s.nextPass n = some (id, tile, retry) → s.idHeld id = false → s.cmd? id = some c → s.template c = some t →
       let l := passCycles t c.desc
       let b := ((s.arrive env).beginPass n c retry l).stagePiece n c t tile
       Becomes (.passStart n env) s ((s.arrive env).runPass n id tile retry) ∧
       (∀ g, b.1 = .ok g → Completes (.passStart n env) s (fun u =>
         (∃ x, (u.core n).sets = (s.core n).sets ++ [x] ∧ x.cmd = id ∧ x.tile = tile ∧ x.retry = retry) ∧
         (u.core n).passCmd = some id ∧ (u.core n).passesOf id = (s.core n).passesOf id + 1 ∧
         (u.core n).redo = (if retry then (s.core n).redo.drop 1 else (s.core n).redo) ∧ u.mem = b.2.mem ∧ u.regs = b.2.regs)) ∧
       (∀ st a, b.1 = .error (st, a) → c.phase = .running → Completes (.passStart n env) s (fun u =>
         Ends u id st ∧ (∀ x ∈ (u.core n).sets, x.cmd ≠ id) ∧ u.mem = b.2.mem))) ∧
     (s.canPass n = false → Becomes (.passStart n env) s s) ∧
     (∀ defects set rest, (s.core n).sets = set :: rest → s.fencedCore n = false → s.halted = false → s.idHeld set.cmd = false →
       let u := s.arrive env
       Becomes (.drainComplete n defects env) s (u.drainSet n defects set rest) ∧
       (s.cmd? set.cmd = none → Becomes (.drainComplete n defects env) s (u.setCore n { s.core n with sets := rest })) ∧
       (∀ c t, s.cmd? set.cmd = some c → s.template c = some t → c.phase = .running →
         (u.drainWaits n t c set = true → Becomes (.drainComplete n defects env) s u) ∧
         (u.drainWaits n t c set = false →
           let vs := drainVerdicts t c.desc defects set
           let v := u.popSet n rest vs
           (vs.contains 1 = true → set.retry = false → Completes (.drainComplete n defects env) s (fun w =>
             (w.core n).sets = rest ∧ (w.core n).redo = (s.core n).redo ++ [(c.id, set.tile)] ∧ w.mem = u.mem ∧ w.image = s.image)) ∧
           (vs.contains 1 = true → set.retry = true → Completes (.drainComplete n defects env) s (fun w =>
             Ends w c.id St.uncorrectable ∧ (∀ x ∈ (w.core n).sets, x.cmd ≠ c.id) ∧ w.mem = u.mem)) ∧
           (vs.contains 1 = false → Becomes (.drainComplete n defects env) s
             (v.passTile n t c set (((drainRows defects set).zip set.acc).map (fun x => x.1.take x.2.length)))) ∧
           (vs.contains 1 = false → ∀ w, Run.writeTile n t c set (((drainRows defects set).zip set.acc).map (fun x => x.1.take x.2.length)) v = .ok () w →
             w.arrayDone c.id = false → (∃ k, w.cmd? c.id = some k ∧ k.phase = .running) → Completes (.drainComplete n defects env) s (fun x => x = w.withQueue s.pending ∧ (x.core n).sets = rest))))) ∧
     (∀ sh, (s.core n).shadow = some sh → sh.err = none →
       Completes (.shadowSampleEnd n) s (fun t => (t.core n).shadow = none ∧ (∀ m, m ≠ n → t.core m = s.core m) ∧
         (t.core n) = { s.core n with shadow := none } ∧ { t with cores := s.cores, regs := s.regs } = s ∧
         t.fld (Reg.precShadow n) 31 16 = min (s.fld (Reg.precShadow n) 31 16 + 1) 65535 ∧
         t.fld (Reg.precShadow n) 15 0 = s.fld (Reg.precShadow n) 15 0 ∧ ∀ a, a ≠ Reg.precShadow n → t.reg a = s.reg a)) ∧
     (∀ sh e, (s.core n).shadow = some sh → sh.err = some e → sh.polder < 32 →
       Becomes (.shadowSampleEnd n) s
         (((s.setCore n { s.core n with shadow := none }).bumpFld (Reg.precShadow n) 15 0 1).driftUpdate sh.polder sh e) ∧
       Completes (.shadowSampleEnd n) s (fun t => (t.core n).shadow = none ∧
         t.fld (Reg.precShadow n) 15 0 = min (s.fld (Reg.precShadow n) 15 0 + 1) 65535 ∧
         t.reg (Reg.precDrift sh.polder) = (if SMap.get (fun _ => false) s.drifted sh.polder then
             ((f32 (s.reg (Reg.precDrift sh.polder))).fadd (((f32 e).fsub (f32 (s.reg (Reg.precDrift sh.polder)))).fmul (.fin false 1 (-4)))).bits32
           else e) ∧ t.cmds = s.cmds ∧ t.mem = s.mem))) ∧
  (∀ s : State, s.hostOpen = true →
     (∀ n, n < 256 →
       let cs := [Reg.arrCntBusy n, Reg.arrCntFrzOperand n, Reg.arrCntFrzWeight n, Reg.arrCntFrzScale n, Reg.arrCntFrzDrain n,
         Reg.arrCntFiller n, Reg.arrCntPasses n, Reg.arrCntRetryCycles n]
       Completes (.arrClrCounters n) s (fun t => t.reg (Reg.arrAbft n) = 0 ∧ (∀ a ∈ cs, t.cnt a = 0) ∧ (∀ a, a ∉ cs → t.cnt a = s.cnt a) ∧
         (∀ a, a ≠ Reg.arrAbft n → t.reg a = s.reg a) ∧ { t with regs := s.regs, cnts := s.cnts } = s)) ∧
     (∀ n, n < 256 → Completes (.precClr n) s (fun t => t.cnt (Reg.precCntSat n) = 0 ∧ t.cnt (Reg.precCntNan n) = 0 ∧
       t.reg (Reg.precShadow n) = 0 ∧ (∀ a, a ≠ Reg.precShadow n → t.reg a = s.reg a) ∧
       (∀ a, a ≠ Reg.precCntSat n → a ≠ Reg.precCntNan n → t.cnt a = s.cnt a) ∧ { t with regs := s.regs, cnts := s.cnts } = s)) ∧
     (∀ p, p < 32 → (s.polderRec p).isSome = true → Completes (.precClear p) s (fun t => t.reg (Reg.precDrift p) = 0 ∧
       t.reg (Reg.precDriftPeak p) = 0 ∧ t.bit (Reg.precDriftStatus p) 0 = false ∧
       (∀ a, a ≠ Reg.precDrift p → a ≠ Reg.precDriftPeak p → a ≠ Reg.precDriftStatus p → t.reg a = s.reg a) ∧
       { t with regs := s.regs, drifted := s.drifted } = s)) ∧
     (∀ p, p < 32 → s.polderRec p = none → Becomes (.precClear p) s s))

/-! ### Attention, pages and the parameter update -/

/-- ATTN_FWD and ATTN_BWD (R384, R391–R401) that may start. A start whose checks fail ends the command with the failing check's status;
one that would read a page still being copied, or whose cores have not had their start, waits. Otherwise a decode on the NBUs runs with
its plan and its leased pages and waits for its dispatch; on the cores the attention runs: without a failing access the command ends with
ST_OK and its results stand in memory, with one it ends with that access's status.
ATTN_COMBINE (R401), once every partial of a decode is written, runs its combiner and ends the command with ST_OK, its results standing in
memory, or with the status of a failing access; before that it does nothing. -/
def Obligations.AttentionCommands : Prop :=
  ∀ (s : State) (id : Nat) (env : Env) (c : Cmd),
    let u := s.arrive env
    let p := u.polderOf c
    (∀ i op, ((i = Instr.attnFwd id env ∧ op = 0x10) ∨ (i = Instr.attnBwd id env ∧ op = 0x11)) → s.starts id op = some c → s.meetsDike c = false →
      let cores := decide (op = 0x11) || !u.nbuPath c.desc
      (∀ e t, Run.attnStart (u.attnReq c cores) c p u = .error e t → Completes i s (fun v => Ends v id e.status ∧ v.mem = t.mem ∧ v.kv = t.kv)) ∧
      (∀ a t, Run.attnStart (u.attnReq c cores) c p u = .ok a t →
        let w : Work := .attn a.q.headDim (a.pages.map (fun v => v.page)) a.plan []
        let r := ((t.beginCmd c.id w).spanAll c).countVec c
        let run := if op = 0x11 then Run.attnBack (u.attnReq c cores) c p a r else Run.attnCore (u.attnReq c cores) c p a r
        ((t.attnWaits p a || (cores && !u.partWarm c)) = true → Becomes i s u) ∧
        (t.attnWaits p a = false → cores = false → Completes i s (fun v => Works v id w ∧ v.nbuReady = t.nbuReady ++ [id] ∧ v.kv = t.kv ∧
          { v with cmds := t.cmds, nbuReady := t.nbuReady, arbs := t.arbs, pending := t.pending } = t)) ∧
        (t.attnWaits p a = false → cores = true → u.partWarm c = true →
          (∀ v, run = .ok () v → Completes i s (fun x => Ends x id St.ok ∧ x.mem = v.mem ∧ x.host = v.host ∧ x.kv = v.kv)) ∧
          (∀ e v, run = .error e v → Completes i s (fun x => Ends x id e.status ∧ x.mem = v.mem))))) ∧
    (∀ dim leases plan, s.cmd? id = some c → c.op = 0x10 → c.work = .attn dim leases plan [] → c.phase = .running → s.nbuReady.contains c.id = false →
      let run := Run.attnCombine (reqBd c) c p dim leases (u.attnNbus p leases) u
      (∀ t, run = .ok () t → Becomes (.attnCombine id env) s (t.endCmd c.id St.ok none) ∧
        Completes (.attnCombine id env) s (fun v => Ends v id St.ok ∧ v.mem = t.mem ∧ v.host = t.host)) ∧
      (∀ e t, run = .error e t → Completes (.attnCombine id env) s (fun v => Ends v id e.status ∧ v.mem = t.mem))) ∧
    (∀ dim leases plan left, s.cmd? id = some c → c.op = 0x10 → c.work = .attn dim leases plan left →
      (left ≠ [] ∨ c.phase ≠ .running ∨ s.nbuReady.contains c.id = true) → Becomes (.attnCombine id env) s u)

/-- KV_PAGE_OP and PREFIX_LOOKUP (R373–R376, R389). Each sub-operation, by its code of R373, that meets no failure ends the command with
ST_OK and leaves the pages, sequences and memories as its run leaves them, with its result record written where one is asked for; one
that meets a failure ends it with the failure's status, and pages, sequences and stack memory are as before.
What some leave, by the page manager's state alone: ACTIVATE an active sequence, where it is registered and either active or within
ACTIVE_MAX, and DEACTIVATE an inactive one, where no append of it runs; REF with COUNT 0 one reference more on a LIVE page, and FREE one
less on a page with several. Nothing else of the polder's pages changes, and no memory. -/
def Obligations.PageOperationsComplete : Prop :=
  ∀ (s : State) (id : Nat) (env : Env) (c : Cmd),
    let u := (s.arrive env).beginCmd c.id .none
    let p := (s.arrive env).polderOf c
    let rows : List (Instr × Nat × (Cmd → Nat → Run Nat)) := [(.kvRegister id env, 0x01, Run.kvRegister), (.kvRelease id env, 0x02, Run.kvRelease),
      (.kvActivate id env, 0x03, Run.kvActivate), (.kvDeactivate id env, 0x04, Run.kvDeactivate), (.kvFork id env, 0x05, Run.kvFork),
      (.kvTruncate id env, 0x06, Run.kvTruncate), (.kvSetFormat id env, 0x07, Run.kvSetFormat), (.kvPublish id env, 0x08, Run.kvPublish),
      (.kvEvict id env, 0x09, Run.kvEvict), (.kvRef id env, 0x0A, Run.kvRef), (.kvFree id env, 0x0B, Run.kvFree)]
    (∀ r ∈ rows, s.kvStarts id r.2.1 = some c →
      (∀ v t, r.2.2 c p u = .ok v t →
        (c.addr 0x28 = 0 → Becomes r.1 s (t.endCmd c.id St.ok none) ∧
          Completes r.1 s (fun x => Ends x id St.ok ∧ x.kv = t.kv ∧ x.copies = t.copies ∧ x.mem = t.mem ∧ x.regs = t.regs)) ∧
        (∀ w, c.addr 0x28 ≠ 0 → Run.report (fun _ => reqBd c) p (c.addr 0x28)
            (leBytes 4 v ++ leBytes 1 0 ++ [0, 0, 0] ++ leBytes 4 0xFFFFFFFF ++ leBytes 4 (t.freePages p).length) t = .ok () w →
          Completes r.1 s (fun x => Ends x id St.ok ∧ x.kv = w.kv ∧ x.copies = w.copies ∧ x.mem = w.mem ∧ x.host = w.host))) ∧
      (∀ e t, r.2.2 c p u = .error e t → c.addr 0x28 = 0 →
        Completes r.1 s (fun x => Ends x id e.status ∧ x.kv = s.kv ∧ x.copies = s.copies ∧ x.mem.dram = s.mem.dram))) ∧
    (s.starts id 0x13 = some c →
      (∀ t, Run.prefixLookup c p u = .ok () t → Becomes (.prefixLookup id env) s (t.endCmd id St.ok none) ∧
        Completes (.prefixLookup id env) s (fun x => Ends x id St.ok ∧ x.kv = t.kv ∧ x.mem = t.mem ∧ x.host = t.host)) ∧
      (∀ e t, Run.prefixLookup c p u = .error e t →
        Completes (.prefixLookup id env) s (fun x => Ends x id e.status ∧ x.kv = s.kv ∧ x.mem.dram = s.mem.dram))) ∧
    (c.addr 0x28 = 0 →
      (∀ q, s.kvStarts id 0x03 = some c → (s.kvp p).seq (kvSeq c.desc) = some q →
        (q.active = true ∨ (s.kvp p).activeSeqs < ((s.attnRec p).map (fun r => r.maxActive)).getD 0) →
        Completes (.kvActivate id env) s (fun x => Ends x id St.ok ∧ (x.kvp p).seq (kvSeq c.desc) = some { q with active := true } ∧
          (x.kvp p).pages = (s.kvp p).pages ∧ (∀ n, n ≠ kvSeq c.desc → (x.kvp p).seq n = (s.kvp p).seq n) ∧ x.mem = (s.arrive env).mem)) ∧
      (∀ q, s.kvStarts id 0x04 = some c → (s.kvp p).seq (kvSeq c.desc) = some q → q.appending = [] →
        Completes (.kvDeactivate id env) s (fun x => Ends x id St.ok ∧ (x.kvp p).seq (kvSeq c.desc) = some { q with active := false } ∧
          (x.kvp p).pages = (s.kvp p).pages ∧ (∀ n, n ≠ kvSeq c.desc → (x.kvp p).seq n = (s.kvp p).seq n) ∧ x.mem = (s.arrive env).mem)) ∧
      (kvCount c.desc = 0 → ((s.kvp p).page (kvPage c.desc)).state = .live →
        let g := (s.kvp p).page (kvPage c.desc)
        (s.kvStarts id 0x0A = some c → g.refs < 65535 → Completes (.kvRef id env) s (fun x => Ends x id St.ok ∧
          (x.kvp p).page (kvPage c.desc) = { g with refs := g.refs + 1 } ∧
          (∀ n, n ≠ kvPage c.desc → (x.kvp p).page n = (s.kvp p).page n) ∧ (x.kvp p).seqs = (s.kvp p).seqs ∧ x.mem = (s.arrive env).mem)) ∧
        (s.kvStarts id 0x0B = some c → 1 < g.refs → Completes (.kvFree id env) s (fun x => Ends x id St.ok ∧
          (x.kvp p).page (kvPage c.desc) = { g with refs := g.refs - 1 } ∧
          (∀ n, n ≠ kvPage c.desc → (x.kvp p).page n = (s.kvp p).page n) ∧ (x.kvp p).seqs = (s.kvp p).seqs ∧ x.mem = (s.arrive env).mem))))

/-- Page states (R381, R382): a reference is added to a LIVE page alone, and refused at 65,535; dropping the last reference frees a page
without leases and leaves one with leases draining, and a page that drains is freed with its last lease. Every other page stays.
What the sub-operations of R373 leave in the sequence table when they meet no failure: REGISTER an inactive sequence with the
descriptor's fields where none was registered; RELEASE none; ACTIVATE an active and DEACTIVATE an inactive one; SET_FORMAT one with the
descriptor's format. -/
def Obligations.PagesAndSequences : Prop :=
  (∀ (k : KvPolder) (n m : Nat),
     ((k.page n).state = .live → (k.page n).refs < 65535 → ∃ k', k.refAdd n = .ok k' ∧ (k'.page n).refs = (k.page n).refs + 1 ∧
       (k'.page n).state = .live ∧ (m ≠ n → k'.page m = k.page m)) ∧
     ((k.page n).state = .live → (k.page n).refs = 65535 → k.refAdd n = .error Pr.refOverflow) ∧
     ((k.page n).state ≠ .live → k.refAdd n = .error Pr.pageFree ∧ k.refDrop n = .error Pr.underflow) ∧
     ((k.page n).state = .live → 1 < (k.page n).refs → ∃ k', k.refDrop n = .ok k' ∧ (k'.page n).refs = (k.page n).refs - 1 ∧
       (m ≠ n → k'.page m = k.page m)) ∧
     ((k.page n).state = .live → (k.page n).refs ≤ 1 → ∃ k', k.refDrop n = .ok k' ∧
       (k'.page n).state = (if (k.page n).leases = 0 then .free else .draining) ∧ (k'.page n).leases = (k.page n).leases ∧
       (m ≠ n → k'.page m = k.page m)) ∧
     ((k.page n).state = .draining → (k.page n).leases ≤ 1 → ((k.unlease n).page n).state = .free ∧ (m ≠ n → (k.unlease n).page m = k.page m))) ∧
  (∀ (c : Cmd) (p v : Nat) (s t : State),
     (Run.kvRegister c p s = .ok v t → (s.kvp p).seq (kvSeq c.desc) = none ∧
       ∃ q, (t.kvp p).seq (kvSeq c.desc) = some q ∧ q.active = false ∧ q.tableAddr = c.addr 0x20 ∧ q.entries = dfld c.desc 0x38 4 ∧
         q.appending = [] ∧ v = q.entries) ∧
     (Run.kvRelease c p s = .ok v t → (t.kvp p).seq (kvSeq c.desc) = none ∧ v = 0) ∧
     (Run.kvActivate c p s = .ok v t → ∃ q, (t.kvp p).seq (kvSeq c.desc) = some q ∧ q.active = true) ∧
     (Run.kvDeactivate c p s = .ok v t → ∃ q, (t.kvp p).seq (kvSeq c.desc) = some q ∧ q.active = false) ∧
     (Run.kvSetFormat c p s = .ok v t → ∃ q, (t.kvp p).seq (kvSeq c.desc) = some q ∧ q.format = dbyte c.desc 0x36))

/-- COPY_ON_WRITE_END (R383, R404): of the oldest copy to a page, whose old page is not itself still being copied to, the bytes are
copied; it is pending no longer, and its lease on the old page is released; it waits while the old page is being copied to; where no copy
to the page is pending nothing happens.
OPT_STEP (R412, R422): a step that fails its checks ends with their status; one that passes runs, with its tensor descriptor: on the
NBUs, where the placement is BANKED and they are there, it waits for its dispatch; otherwise it is the vector units', which have done it
when it commits. -/
def Obligations.CopiesAndSteps : Prop :=
  ∀ (s : State) (env : Env),
    let u := s.arrive env
    (∀ p new c, p < 32 → s.copies.find? (fun x => x.polder == p && x.new == new) = some c →
      let rq : Req := ⟨5, (s.cmd? c.cmd).map (fun x => x.ctx), (s.cmd? c.cmd).map (fun x => x.id), .bd⟩
      (u.copying p c.old = true → Becomes (.copyOnWriteEnd p new env) s u) ∧
      (∀ t, u.copying p c.old = false → Run.copyPage rq c { u with copies := u.copies.erase c } = .ok () t →
        Becomes (.copyOnWriteEnd p new env) s (t.unleaseAll p [c.old]) ∧
        Completes (.copyOnWriteEnd p new env) s (fun x => x.copies = s.copies.erase c ∧ x.mem = t.mem ∧
          x.kvp p = (s.kvp p).unlease c.old)) ∧
      (∀ e t, u.copying p c.old = false → Run.copyPage rq c { u with copies := u.copies.erase c } = .error e t →
        Becomes (.copyOnWriteEnd p new env) s ((t.failCmd c.cmd (e.status, e.addr.getD 0)).unleaseAll p [c.old]))) ∧
    (∀ p new, p < 32 → s.copies.find? (fun x => x.polder == p && x.new == new) = none → Becomes (.copyOnWriteEnd p new env) s s) ∧
    (∀ id c, s.starts id 0x20 = some c →
      (∀ td r t, Run.optCheck c (u.polderOf c) u = .ok (td, r) t →
        (tdBanked td = true → t.cap 0 = true → Completes (.optStep id env) s (fun x => Works x id (.opt [] td true []) ∧
          x.nbuReady = t.nbuReady ++ [id] ∧ x.mem = t.mem)) ∧
        ((tdBanked td && t.cap 0) = false → Completes (.optStep id env) s (fun x => Works x id (.opt [] td false []) ∧
          x.nbuReady = t.nbuReady ∧ x.mem = t.mem))) ∧
      (∀ e t, Run.optCheck c (u.polderOf c) u = .error e t → Completes (.optStep id env) s (fun x => Ends x id e.status ∧ x.mem = t.mem)))

/-! ### Near-bank units -/

/-- NBU_RUN (R334): the command runs and waits at the end of the ready queue. NBU_DISPATCH (R338, R339, R355): one that may be dispatched,
with no retired unit among its declared ranges, leaves the ready queue, and every NBU it names begins a sequence of it, an NBU_RUN's with
its program, pointers and arguments; one with a retired unit ends with ST_RETIRED; one that may not be dispatched stays.
NBU_SEQUENCE_END (R339, R401, R422): a sequence whose program has ended is taken off its NBU, its owed refreshes run, and with the last
one of an NBU_RUN the command ends with ST_OK; a decode's NBU does its part and stays reserved; the last slot of an OPT_STEP ends the
command. A sequence whose program goes on stays. -/
def Obligations.NbuCommands : Prop :=
  ∀ (s : State) (id : Nat) (env : Env) (c : Cmd),
    (s.starts id 0x40 = some c →
      Becomes (.nbuRun id env) s { ((s.arrive env).beginCmd c.id (.nbu [])) with nbuReady := s.nbuReady ++ [c.id] } ∧
      Completes (.nbuRun id env) s (fun t => Works t id (.nbu []) ∧ t.nbuReady = s.nbuReady ++ [id])) ∧
    (s.cmd? id = some c → s.mayDispatch c = true →
      (s.retiredOf c = none →
        (c.work = .nbu [] → Becomes (.nbuDispatch id) s
          (({ s with nbuReady := s.nbuReady.filter (· != c.id) }.beginSeqs (nbuNamed c.desc) (fun col bank =>
            newSeq c.id col bank ((s.program (dfld c.desc 0x10 2)).getD []) (dfld c.desc 0x1C 4) (dfld c.desc 0x20 4) (dfld c.desc 0x24 4)
              (dfld c.desc 0x28 4) ((List.range 4).map (fun i => BitVec.ofNat 32 (dfld c.desc (0x30 + 4 * i) 4))))).setWork c.id
            (.nbu (nbuNamed c.desc)))) ∧
        Completes (.nbuDispatch id) s (fun t => t.nbuReady = s.nbuReady.filter (· != id) ∧ t.mem = s.mem ∧ t.regs = s.regs ∧
          (∀ n ∈ s.nbusOf c, n.1 < 256 → n.2 < 32 → ∃ q, t.nbu n.1 n.2 = some q ∧ q.cmd = id ∧ q.pc = 0 ∧ q.ended = false) ∧
          (∀ n, n ∉ s.nbusOf c → n.1 < 256 → n.2 < 32 → (∀ m ∈ s.nbusOf c, m.2 < 32) → t.nbu n.1 n.2 = s.nbu n.1 n.2))) ∧
      (∀ a, s.retiredOf c = some a → Completes (.nbuDispatch id) s (fun t => Ends t id St.retired ∧ t.nbus = s.nbus ∧
        t.nbuReady = s.nbuReady.filter (· != id)))) ∧
    (s.cmd? id = some c → s.mayDispatch c = false → Becomes (.nbuDispatch id) s s) ∧
    (∀ col bank q, col < 256 → bank < 32 → s.nbu col bank = some q → s.cmd? q.cmd = some c →
      let o := ({ s with mem := { s.mem with owed := SMap.set (fun _ => 0) s.mem.owed (32 * col + bank) 0 } } : State)
      let here := (col, bank)
      (q.prog.length ≤ q.pc → (q.ended = true ∨ s.firmwareIssues q = true) → c.phase = .running →
        (∀ left, c.work = .nbu left →
          Becomes (.nbuSequenceEnd col bank) s (if (left.filter (· != here)).isEmpty
            then ((o.setNbu col bank none).setWork c.id (.nbu (left.filter (· != here)))).endCmd c.id St.ok none
            else (o.setNbu col bank none).setWork c.id (.nbu (left.filter (· != here)))) ∧
          Completes (.nbuSequenceEnd col bank) s (fun t => t.nbu col bank = none ∧
            (left.filter (· != here) = [] → Ends t c.id St.ok) ∧
            SMap.get (fun _ => 0) t.mem.owed (32 * col + bank) = 0 ∧ t.mem.dram = s.mem.dram)) ∧
        (∀ dim l plan left w, c.work = .attn dim l plan left → left.contains here = true → o.firmwareWork q c = w →
          (∃ k, w.cmd? c.id = some k ∧ k.phase = .running) →
          Completes (.nbuSequenceEnd col bank) s (fun t => Works t c.id (.attn dim l plan (left.filter (· != here))) ∧
            t.nbu col bank = (w.nbu col bank).map (fun x => { x with ended := true }) ∧ t.mem = w.mem)) ∧
        (∀ left td n delta w, c.work = .opt left td n delta → left = [here] → ((o.resolveClash q).firmwareWork q c).resolveClash { q with stored := [] } = w →
          (∃ k l td n delta, w.cmd? c.id = some k ∧ k.phase = .running ∧ k.work = .opt l td n delta) →
          Completes (.nbuSequenceEnd col bank) s (fun t => t.nbu col bank = none ∧ Ends t c.id St.ok ∧ t.mem = w.mem))) ∧
      (q.pc < q.prog.length → Becomes (.nbuSequenceEnd col bank) s s))

/-- The register micro-ops of a near-bank unit (R341, R345) that stands at one of them and may issue: the unit's sequence takes the result
of the table and goes on, standing inside a bundle where LINK is set; its cycles are counted, and its command carries W_THROTTLED while
the layer's duty is cut (R357); nothing else in the module changes. EXP takes for each lane a value that `nearUlp` allows (log entry 16).
A unit that stands at another micro-op, or may not issue, is left alone. -/
def Obligations.NbuRegisterOps : Prop :=
  ∀ (s : State) (col bank : Nat), col < 256 → bank < 32 →
    let goes := fun (q : NbuSeq) (u : DWord) (r : NbuSeq) (t : State) =>
      t.nbu col bank = some { r with linked := Machine.bit u.toNat 34, served := 0 } ∧
      (∀ x y, (x, y) ≠ (col, bank) → t.nbu x y = s.nbu x y) ∧
      (s.dutyCut col bank = false → t.cmds = s.cmds) ∧
      (s.dutyCut col bank = true → t.cmds = (s.warnCmd q.cmd Wn.throttled).cmds) ∧
      (∀ a, a ≠ Reg.nbuCntBusy → t.cnt a = s.cnt a) ∧
      { t with nbus := s.nbus, cmds := s.cmds, cnts := s.cnts, freeCtr := s.freeCtr } = s
    let rows : List (Instr × Nat × (NbuSeq → DWord → NbuSeq)) :=
      [(.nbuFma col bank, 0x08, fun q u => q.lanes u true true (fun a b d => ((a.mul b).add d).fp32)),
       (.nbuMul col bank, 0x09, fun q u => q.lanes u true false (fun a b _ => a.fmul b)),
       (.nbuAdd col bank, 0x0A, fun q u => q.lanes u true false (fun a b _ => a.fadd b)),
       (.nbuMax col bank, 0x0B, fun q u => q.lanes u true false (fun a b _ => (a.max b).fp32)),
       (.nbuScale col bank, 0x0C, fun q u => q.lanes u false false (fun a _ _ => a.fmul (f32 (BitVec.ofNat 32 (uImm u))))),
       (.nbuSgn col bank, 0x0D, fun q u => q.lanes u false false (fun a _ _ => signOf a)),
       (.nbuClip col bank, 0x0E, fun q u => q.lanes u false false (fun a _ _ => clampTo (f32 (BitVec.ofNat 32 (uImm u))) a)),
       (.nbuHsum col bank, 0x10, fun q u => q.reduce u Num.fadd),
       (.nbuHmax col bank, 0x11, fun q u => q.reduce u (fun a b => (a.max b).fp32))]
    (∀ r ∈ rows, ∀ q u, s.microOp col bank r.2.1 = some (q, u) → Completes r.1 s (goes q u (r.2.2 q u))) ∧
    (∀ q u, s.microOp col bank 0x0F = some (q, u) → Completes (.nbuExp col bank) s (fun t => ∃ pick : Nat → Nat, goes q u
      ((List.range (uCnt u + 1)).foldl (fun (q : NbuSeq) j =>
        q.setV (uVd u + j) ((List.range 16).map (fun i => ((f32 ((q.v (uVa u + j)).getD i 0)).exp.nearUlp (pick (16 * j + i))).bits32))
          (q.dep (uVa u + j))) q).next t)) ∧
    (∀ r ∈ rows, s.microOp col bank r.2.1 = none → Becomes r.1 s s)

/-- The control micro-ops of a near-bank unit (R341): ARG, PSET, PADD, PARG, LSET, LOOP, BRLT and JMP at the unit's program counter
change its registers, pointers, loop counters and program counter as the table says; their cycles are counted, and nothing else in the
module changes but the warning of a cut duty. Pointers are 32-bit and a jump goes to IMM modulo 512. END ends the sequence, its window
closes, and its owed refreshes run; without a clash no stack memory changes.
LD and ST (R342, R346): an access out of its stream or misaligned ends the command with ST_BAD_DESCRIPTOR, and its NBU stops. A load
that fits and meets no error takes the stream's bytes into its registers, and the program goes on; a store of one register that fits and
meets no error puts its converted bytes into the stream, every other byte of stack memory staying as it was. -/
def Obligations.NbuControlAndMemoryOps : Prop :=
  (∀ (s : State) (col bank : Nat), col < 256 → bank < 32 →
     let goes := fun (q : NbuSeq) (u : DWord) (r : NbuSeq) (t : State) =>
       t.nbu col bank = some { r with linked := Machine.bit u.toNat 34, served := 0 } ∧
       (∀ x y, (x, y) ≠ (col, bank) → t.nbu x y = s.nbu x y) ∧
       (s.dutyCut col bank = false → t.cmds = s.cmds) ∧
       (s.dutyCut col bank = true → t.cmds = (s.warnCmd q.cmd Wn.throttled).cmds) ∧
       (∀ a, a ≠ Reg.nbuCntBusy → t.cnt a = s.cnt a) ∧
       { t with nbus := s.nbus, cmds := s.cmds, cnts := s.cnts, freeCtr := s.freeCtr } = s
     let rows : List (Instr × Nat × (NbuSeq → DWord → NbuSeq)) :=
       [(.nbuArg col bank, 0x18, fun q u => ((List.range (uCnt u + 1)).foldl (fun (q : NbuSeq) j =>
           q.setV (uVd u + j) (List.replicate 16 (q.arg (uImm u % 4))) []) q).next),
        (.nbuPset col bank, 0x20, fun q u => { q with ptrs := q.ptrs.set (uPtr u) (uImm u % 2 ^ 32), pc := q.pc + 1 }),
        (.nbuPadd col bank, 0x21, fun q u => { q with ptrs := q.ptrs.set (uPtr u) ((q.ptrs.getD (uPtr u) 0 + uImm u) % 2 ^ 32), pc := q.pc + 1 }),
        (.nbuParg col bank, 0x22, fun q u => { q with ptrs := q.ptrs.set (uPtr u) ((q.args.getD (uImm u % 4) 0).toNat), pc := q.pc + 1 }),
        (.nbuLset col bank, 0x28, fun q u => { q with loops := q.loops.set (uPtr u % 4) (uImm u), pc := q.pc + 1 }),
        (.nbuLoop col bank, 0x29, fun q u => if q.loops.getD (uPtr u % 4) 0 = 0 then { q with pc := q.pc + 1 }
          else { q with loops := q.loops.set (uPtr u % 4) (q.loops.getD (uPtr u % 4) 0 - 1), pc := uImm u % 512 }),
        (.nbuBrlt col bank, 0x2A, fun q u => if q.ptr (uPtr u) < 2048 * (s.seqUnits q (uDst u)).length then { q with pc := uImm u % 512 }
          else { q with pc := q.pc + 1 }),
        (.nbuJmp col bank, 0x2B, fun q u => { q with pc := uImm u % 512 })]
     (∀ r ∈ rows, ∀ q u, s.microOp col bank r.2.1 = some (q, u) → Completes r.1 s (goes q u (r.2.2 q u))) ∧
     (∀ r ∈ rows, s.microOp col bank r.2.1 = none → Becomes r.1 s s) ∧
     (∀ q u, s.microOp col bank 0x00 = some (q, u) → Completes (.nbuEnd col bank) s (fun t =>
       t.nbu col bank = some { q with pc := q.prog.length, ended := true, linked := false, srcLen := 0, dstLen := 0, extra := [], clashed := [], stored := [] } ∧
       SMap.get (fun _ => 0) t.mem.owed (32 * col + bank) = 0 ∧ t.regs = s.regs ∧ (q.clashed = [] → t.mem.dram = s.mem.dram)))) ∧
  (∀ (s : State) (col bank : Nat) (env : Env) (q : NbuSeq) (u : DWord) (c : Cmd), col < 256 → bank < 32 → s.cmd? q.cmd = some c →
     let v := (s.warnDuty q).arrive env
     let g := uGroup (uFmt u)
     let clean := fun (p n : Nat) => v.colFailed col = false ∧ v.flipArmed col = false ∧ ∀ i, i < n → v.blockErr col (v.cellOf col (p + i)) = ⟨0, 0⟩
     (s.microOp col bank 0x01 = some (q, u) →
       Becomes (.nbuLd col bank env) s ((v.nbuLoad q u).afterMicro q.cmd) ∧
       (∀ a, v.streamAccess q u = .error a → Becomes (.nbuLd col bank env) s ((v.badAccess q a).afterMicro q.cmd)) ∧
       (∀ p n, v.streamAccess q u = .ok (p, n) → clean p n → uVd u + uCnt u < 16 → q.vregs.length = 16 →
         Completes (.nbuLd col bank env) s (fun t => t.mem.dram = s.mem.dram ∧ ∃ r, t.nbu col bank = some r ∧ r.pc = q.pc + 1 ∧ r.ptrs = q.ptrs ∧
           r.loops = q.loops ∧ ∀ j, j ≤ uCnt u → r.v (uVd u + j) = loadGroup (uFmt u) (v.peek col (p + j * g) g)))) ∧
     (s.microOp col bank 0x02 = some (q, u) →
       Becomes (.nbuSt col bank env) s ((v.nbuStore q u).afterMicro q.cmd) ∧
       (∀ a, v.streamAccess q u = .error a → Becomes (.nbuSt col bank env) s ((v.badAccess q a).afterMicro q.cmd)) ∧
       (∀ p n, v.streamAccess q u = .ok (p, n) → clean p n → uCnt u = 0 → q.bad = [] →
         Completes (.nbuSt col bank env) s (fun t =>
           (∃ r, t.nbu col bank = some r ∧ r.pc = q.pc + 1 ∧ r.vregs = q.vregs ∧ r.ptrs = q.ptrs) ∧
           (∀ i, i < n → t.mem.dram.byte (dramKey col (v.cellOf col (p + i))) = (storeGroup (uFmt u) v.freeCtr (q.v (uVd u))).1.getD i 0) ∧
           (∀ k, (∀ i, i < n → k ≠ dramKey col (v.cellOf col (p + i))) → t.mem.dram.byte k = s.mem.dram.byte k)))))

/-! ### Moving data, counters, collectives and harvests -/

/-- A raised dike refuses work (R558): a command that starts and needs a core behind a dike ends with ST_FENCED and is counted; nothing
of it runs.
DMA (R265–R267, R457). A transfer inside the module, to one place or by a multicast tree, that meets no failure leaves the memories as its
run leaves them and ends with ST_OK, or, with SIGNAL, with the status of its ADD; one that meets a failure ends with the failure's status.
One from a peer runs, with one request under way for each segment of 64 KiB; one to a peer runs as the reading of its source leaves it.
FENCE (R286): with its peers' acknowledgements it ends at once with ST_OK, and changes nothing but its own place in flight; SCOPE 2 waits
while writes of its context are unacknowledged.
COUNTER_OP (R269, R272): ADD on a counter that can be read adds VALUE modulo 2^32 and ends with ST_OK; behind a dike it ends with
ST_FENCED, and where the counter's word cannot be read with ST_UNCORRECTABLE. WAIT_GE ends with ST_OK at once when it holds and otherwise
runs and waits; it fails as ADD does. -/
def Obligations.MoveAndSync : Prop :=
  (∀ (s : State) (id : Nat) (env : Env) (c : Cmd), s.meetsDike c = true →
     let t := (s.endCmd c.id St.fenced none).addCnt Reg.dikeCntFenced 1
     (s.starts id 0x01 = some c → Becomes (.gemm id env) s t) ∧ (s.starts id 0x02 = some c → Becomes (.conv id env) s t) ∧
     (s.starts id 0x03 = some c → Becomes (.elementwise id env) s t) ∧ (s.starts id 0x10 = some c → Becomes (.attnFwd id env) s t) ∧
     (s.starts id 0x11 = some c → Becomes (.attnBwd id env) s t) ∧ (s.starts id 0x50 = some c → Becomes (.dma id env) s t)) ∧
  (∀ (s : State) (id : Nat) (env : Env) (c : Cmd),
     let u := s.arrive env
     let v := u.beginCmd c.id .none
     (s.starts id 0x50 = some c → s.meetsDike c = false →
       (addrSpace (c.addr 0x18) ≠ 0x20 → addrSpace (c.addr 0x10) ≠ 0x20 →
         (dmaTree c.desc = 0xFFFF →
           (∀ t, Run.dmaLocal c (u.polderOf c) (v.dmaSpans c) = .ok () t → Becomes (.dma id env) s ((t.dmaEnd c).spanEnd c.id) ∧
             (dmaSignal c.desc = false → Completes (.dma id env) s (fun x => Ends x id St.ok ∧ x.mem = t.mem ∧ x.host = t.host ∧ x.kv = t.kv))) ∧
           (∀ e t, Run.dmaLocal c (u.polderOf c) (v.dmaSpans c) = .error e t →
             Completes (.dma id env) s (fun x => Ends x id e.status ∧ x.mem = t.mem))) ∧
         (∀ tr, dmaTree c.desc ≠ 0xFFFF → u.tree? (dmaTree c.desc) = some tr →
           (∀ t, Run.dmaTree c (u.polderOf c) tr (if tr.bdRoot then v else v.spanStart tr.source c) = .ok () t →
             Becomes (.dma id env) s ((t.dmaEnd c).spanEnd c.id) ∧
             (dmaSignal c.desc = false → Completes (.dma id env) s (fun x => Ends x id St.ok ∧ x.mem = t.mem ∧ x.kv = t.kv))) ∧
           (∀ e t, Run.dmaTree c (u.polderOf c) tr (if tr.bdRoot then v else v.spanStart tr.source c) = .error e t →
             Completes (.dma id env) s (fun x => Ends x id e.status ∧ x.mem = t.mem)))) ∧
       (addrSpace (c.addr 0x18) ≠ 0x20 → addrSpace (c.addr 0x10) = 0x20 →
         Becomes (.dma id env) s (((u.beginCmd c.id (.fabric [])).dmaSpans c).dmaIn c) ∧
         Completes (.dma id env) s (fun x => x.mem = u.mem ∧ x.host = u.host ∧ ∃ w, Works x id (.fabric w) ∧
           w.map (fun r => (r.2.1, r.2.2)) = dmaSegs (dmaLen c.desc))) ∧
       (addrSpace (c.addr 0x18) = 0x20 →
         (∀ t, Run.dmaOut c (u.polderOf c) ((u.beginCmd c.id (.fabric [])).dmaSpans c) = .ok () t → Becomes (.dma id env) s t) ∧
         (∀ e t, Run.dmaOut c (u.polderOf c) ((u.beginCmd c.id (.fabric [])).dmaSpans c) = .error e t →
           Completes (.dma id env) s (fun x => Ends x id e.status ∧ x.mem = t.mem)))) ∧
     (s.starts id 0x60 = some c →
       ((dbyte c.desc 0x10 = 2 → s.peerWrites c.ctx = 0) →
         Completes (.fence id) s (fun t => Ends t id St.ok ∧ { t with cmds := s.cmds, arbs := s.arbs } = s ∧
           ∀ n, n ≠ id → t.cmd? n = s.cmd? n)) ∧
       (dbyte c.desc 0x10 = 2 → 0 < s.peerWrites c.ctx → Becomes (.fence id) s s)) ∧
     (s.counterStarts id 0 = some c →
       let ref := ctrRef c.desc 0x10
       let b := s.beginCmd id .none
       (b.ctrFenced ref (s.polderOf c) = true → Completes (.counterAdd id) s (fun x => Ends x id St.fenced ∧ x.mem = s.mem ∧ x.regs = s.regs)) ∧
       (b.ctrFenced ref (s.polderOf c) = false →
         (∀ x t, b.ctrGet (s.polderOf c) ref = (some x, t) → Completes (.counterAdd id) s (fun y => Ends y id St.ok ∧
           y.mem = (t.ctrSet (s.polderOf c) ref ((x + ctrValue c.desc) % 2 ^ 32)).mem ∧
           y.regs = (t.ctrSet (s.polderOf c) ref ((x + ctrValue c.desc) % 2 ^ 32)).regs ∧
           (ref.scope = 0 → y.nat (Reg.coreCounter ref.unit ref.index) = (s.nat (Reg.coreCounter ref.unit ref.index) + ctrValue c.desc) % 2 ^ 32) ∧
           (ref.scope = 1 → y.nat (Reg.coreClusterCounter ref.unit ref.index) =
             (s.nat (Reg.coreClusterCounter ref.unit ref.index) + ctrValue c.desc) % 2 ^ 32))) ∧
         (∀ t, b.ctrGet (s.polderOf c) ref = (none, t) → Completes (.counterAdd id) s (fun y => Ends y id St.uncorrectable ∧ y.mem = s.mem)))) ∧
     (s.counterStarts id 1 = some c →
       let ref := ctrRef c.desc 0x10
       let w := s.beginCmd id .wait
       let b := if ref.scope = 0 then w.waitOpens ref.unit else w
       (b.ctrFenced ref (s.polderOf c) = true → Completes (.counterWaitGe id) s (fun x => Ends x id St.fenced ∧ x.mem = s.mem ∧ x.regs = s.regs)) ∧
       (b.ctrFenced ref (s.polderOf c) = false →
         (∀ x t, b.ctrGet (s.polderOf c) ref = (some x, t) →
           (waitHolds x (ctrValue c.desc) = true → Becomes (.counterWaitGe id) s (t.endCmd id St.ok none) ∧
             Completes (.counterWaitGe id) s (fun y => Ends y id St.ok ∧ y.mem = s.mem)) ∧
           (waitHolds x (ctrValue c.desc) = false → Becomes (.counterWaitGe id) s t ∧
             Completes (.counterWaitGe id) s (fun y => Works y id .wait ∧ y.mem = s.mem))) ∧
         (∀ t, b.ctrGet (s.polderOf c) ref = (none, t) → Completes (.counterWaitGe id) s (fun y => Ends y id St.uncorrectable ∧ y.mem = s.mem)))))

/-- The five operations of a COLLECTIVE (R462–R466): while 256 collectives run it waits; a second one of a polder with the COLL_ID and
EPOCH of one in flight ends with ST_BAD_DESCRIPTOR; any other begins its ring. One whose steps are all done, as they are at once in a set
of one member, with no frame unacknowledged, ends with ST_OK, DST written as its run writes it; one with steps to come runs on; one that
meets a failure ends with the failure's status. Each row runs its own operation alone.
HARVEST (R597): the body that meets no failure leaves its record's header to the end; with no frame unacknowledged the header is written
and the command ends with ST_OK; with frames unacknowledged it runs on. RESTORE (R598): from memory of the module or the host the chunks
are checked and written at once; it ends with ST_OK when every chunk is whole, and without a group with ST_UNCORRECTABLE and W_PARTIAL
when one is not; what lies with peers is asked for. PARITY_REBUILD (R592): alone on its group, with the group's shard and polder and
enough helpers, it runs and asks for every unit; otherwise it waits for the rebuild before it, or ends with its check's status. -/
def Obligations.CollectivesAndHarvests : Prop :=
  (∀ (s : State) (id : Nat) (env : Env) (c : Cmd), s.starts id 0x30 = some c → s.meetsDike c = false →
     let u := s.arrive env
     let twin := (u.cmds.takeWhile (fun k => k.id != c.id)).any (fun k => decide (k.op = 0x30) && decide (u.polderOf k = u.polderOf c) &&
       decide (clId k.desc = clId c.desc) && decide (clEpoch k.desc = clEpoch c.desc))
     let rows : List (Instr × Nat) := [(.allReduce id env, 0), (.reduceScatter id env, 1), (.allGather id env, 2), (.broadcast id env, 3),
       (.signVote id env, 4)]
     ∀ r ∈ rows,
       (clOp c.desc ≠ r.2 → Becomes r.1 s s) ∧
       (clOp c.desc = r.2 →
         (256 ≤ u.collRunning → Becomes r.1 s u) ∧
         (u.collRunning < 256 → twin = true → Becomes r.1 s (u.endCmd id St.badDescriptor none)) ∧
         (u.collRunning < 256 → twin = false →
           (∀ t, Run.collBegin c (u.polderOf c) (u.beginCmd c.id (.coll 0 [] [])) = .ok () t →
             Becomes r.1 s (t.collCheck id) ∧
             (∀ k step data early, t.cmd? id = some k → k.phase = .running → k.work = .coll step data early → k.op = 0x30 →
               let whole := if clOp k.desc = 3 then clCount k.desc ≤ step else clSteps k.desc (t.collSet (t.polderOf k)).length ≤ step
               (whole → t.unackedOf id = 0 → Completes r.1 s (fun x => Ends x id St.ok ∧ x.mem = t.mem ∧ x.host = t.host)) ∧
               ((¬ whole ∨ t.unackedOf id ≠ 0) → Completes r.1 s (fun x => Works x id (.coll step data early) ∧ x.mem = t.mem)))) ∧
           (∀ e t, Run.collBegin c (u.polderOf c) (u.beginCmd c.id (.coll 0 [] [])) = .error e t →
             Completes r.1 s (fun x => Ends x id e.status ∧ x.mem = t.mem))))) ∧
  (∀ (s : State) (id : Nat) (env : Env) (c : Cmd), s.meetsDike c = false →
     let u := s.arrive env
     let n := u.hvTotal c.desc
     (s.starts id 0x70 = some c →
       (hvHasGroup c.desc = true → u.parValid (hvGroup c.desc) = false → Becomes (.harvest id env) s (u.endCmd id St.badDescriptor none)) ∧
       ((hvHasGroup c.desc = true → u.parValid (hvGroup c.desc) = true) →
         (∀ hdr t k, Run.harvestBody c (u.polderOf c) (u.beginCmd c.id (.harvest none)) = .ok hdr t → t.cmd? id = some k → k.phase = .running →
           let h : Cmd := { k with work := .harvest (some hdr) }
           let w := t.setWork id h.work
           Becomes (.harvest id env) s (w.harvestCheckEnd id) ∧
           (w.unackedOf id ≠ 0 → Completes (.harvest id env) s (fun x => Works x id h.work ∧ x.mem = t.mem ∧ x.host = t.host)) ∧
           (∀ x, w.unackedOf id = 0 → addrSpace (h.addr 0x28) ≠ 0x20 →
             Run.write (fun _ => reqBdDma h) id (w.polderOf h) (h.addr 0x28) (withTick hdr w.tick) w = .ok () x →
             Completes (.harvest id env) s (fun y => Ends y id St.ok ∧ y.mem = x.mem ∧ y.host = x.host))) ∧
         (∀ e t, Run.harvestBody c (u.polderOf c) (u.beginCmd c.id (.harvest none)) = .error e t →
           Completes (.harvest id env) s (fun x => Ends x id e.status ∧ x.mem = t.mem)))) ∧
     (s.starts id 0x71 = some c →
       let b := if hvHasGroup c.desc then (u.beginCmd c.id (.restore [] [])).setBit (Reg.parGrpCtrl (hvGroup c.desc)) 30 true
         else u.beginCmd c.id (.restore [] [])
       let run : Run (List Nat) := do
         let rec' ← Run.read (fun _ => reqBdDma c) (u.polderOf c) (c.addr 0x28) (recordLen n)
         Run.restoreBody c (u.polderOf c) rec'
           (fun k => Run.read (fun _ => reqBdDma c) (u.polderOf c) (c.addr 0x10 + k * hvChunk) (chunkLen n k))
       (hvHasGroup c.desc = true → u.parValid (hvGroup c.desc) = false → Becomes (.restore id env) s (u.endCmd id St.badDescriptor none)) ∧
       ((hvHasGroup c.desc = true → u.parValid (hvGroup c.desc) = true) →
         (addrSpace (c.addr 0x10) ≠ 0x20 → addrSpace (c.addr 0x28) ≠ 0x20 →
           Becomes (.restore id env) s (restoreDone c (run b)) ∧
           (∀ t, run b = .ok [] t → Completes (.restore id env) s (fun x => Ends x id St.ok ∧ x.mem = t.mem ∧ x.host = t.host ∧
             (hvHasGroup c.desc = true → x.bit (Reg.parGrpCtrl (hvGroup c.desc)) 30 = false))) ∧
           (∀ k ks t, run b = .ok (k :: ks) t → hvHasGroup c.desc = false →
             Completes (.restore id env) s (fun x => Ends x id St.uncorrectable ∧ x.mem = t.mem)) ∧
           (∀ e t, run b = .error e t → Completes (.restore id env) s (fun x => Ends x id e.status ∧ x.mem = t.mem))) ∧
         ((addrSpace (c.addr 0x10) = 0x20 ∨ addrSpace (c.addr 0x28) = 0x20) →
           Completes (.restore id env) s (fun x => x.mem = u.mem ∧ x.host = u.host ∧ ∃ w, Works x id (.restore [] w) ∧
             w.map (fun r => (r.2.1, r.2.2)) = (if addrSpace (c.addr 0x10) = 0x20 then dmaSegs n else []) ++
               (if addrSpace (c.addr 0x28) = 0x20 then (dmaSegs (recordLen n)).map (fun r => (2 ^ 41 + r.1, r.2)) else []))))) ∧
     (s.starts id 0x72 = some c →
       let before := (u.cmds.takeWhile (fun k => k.id != c.id)).any (fun k => k.op = 0x72 && decide (pbGroup k.desc = pbGroup c.desc))
       let g := pbGroup c.desc
       let fits := u.parValid g = true ∧ u.parShard g = pbLost c.desc ∧ 64 + 4 * u.parUnits g ≤ dfld c.desc 0x20 8
       (before = true → Becomes (.parityRebuild id env) s u) ∧
       (before = false → ¬ fits → Becomes (.parityRebuild id env) s (u.endCmd id St.badDescriptor none)) ∧
       (before = false → fits → u.parPolder g ≠ u.polderOf c → Becomes (.parityRebuild id env) s (u.endCmd id St.notPermitted none)) ∧
       (before = false → fits → u.parPolder g = u.polderOf c → u.helpersFor g 0 [] = none →
         Becomes (.parityRebuild id env) s (u.endCmd id St.uncorrectable none)) ∧
       (before = false → fits → u.parPolder g = u.polderOf c → (u.helpersFor g 0 []).isSome = true →
         Becomes (.parityRebuild id env) s ((u.beginCmd c.id .none).rebuildAsk c (List.range (u.parUnits g)) []) ∧
         Completes (.parityRebuild id env) s (fun x => Works x id (.rebuild (List.range (u.parUnits g)) [] [] [] [] []) ∧
           x.mem = u.mem ∧ x.host = u.host))))

/-! ### Stopping commands, and self-tests -/

/-- ABORT (R172–R175): of a context it may not name it ends with ST_NOT_PERMITTED. With ALL: of a context with nothing in flight or
submitted it ends with ST_ALREADY_COMPLETE; of one with commands, each of them but the ABORTs is asked to stop with ST_ABORTED and the
ABORT waits for them; with descriptors alone, they are marked and it ends with ST_OK. Of one command: it is asked to stop, and the ABORT
waits for it; an ABORT is no target (ST_BAD_DESCRIPTOR); a descriptor not yet fetched is marked, and the ABORT ends with ST_OK; of none it
ends with ST_ALREADY_COMPLETE.
Overruns. ABORT_OVERRUN (R175 step 5): 1 ms after its fetch, a target that has not stopped is treated as one whose vigil has expired; before,
nothing happens. VIGIL_EXPIRY (R550–R554): a command whose vigil has run out and that may be stopped is noted, its dossier taken where a unit
must stop, and it is asked to stop, or has stopped, with ST_TIMEOUT, one that is replayed with ST_GUILTY; before, nothing
happens. STOP_OVERRUN (R554): a core that has not stopped in 1 ms is reset, another unit the chip; before, nothing happens.
SELFTEST_DEADLINE (R632): a core test that has not started by its deadline ends with ST_DEFERRED; before, nothing happens. -/
def Obligations.AbortsAndOverruns : Prop :=
  (∀ (s : State) (id ctx : Nat) (c : Cmd), s.abortStarts id = some c →
     (s.abortCtx c = none → Becomes (.abort id) s (s.endCmd id St.notPermitted none) ∧
       Completes (.abort id) s (fun x => Ends x id St.notPermitted ∧ { x with cmds := s.cmds } = s)) ∧
     (s.abortCtx c = some ctx → abortAll c.desc = true →
       (let ids := (s.cmds.filter (fun k => decide (k.ctx = ctx) && decide (k.op ≠ 0x7F))).map (fun k => k.id)
        (s.submitted ctx = [] → ids = [] → Becomes (.abort id) s (s.endCmd c.id St.alreadyComplete none)) ∧
        (ids ≠ [] → Becomes (.abort id) s (((s.markSlots ctx (s.submitted ctx) St.aborted).stopAll ids St.aborted).beginCmd c.id (.abort ids)) ∧
          Completes (.abort id) s (fun x => Works x id (.abort ids))) ∧
        (s.submitted ctx ≠ [] → ids = [] →
          Becomes (.abort id) s ((s.markSlots ctx (s.submitted ctx) St.aborted).endCmd c.id St.ok none)))) ∧
     (s.abortCtx c = some ctx → abortAll c.desc = false →
       let hit := fun (k : Cmd) => decide (k.ctx = ctx) && decide (k.slot = dfld c.desc 0x12 2) && decide (dfld k.desc 2 2 = dfld c.desc 0x14 2)
       (∀ k, s.cmds.find? hit = some k →
         (k.op = 0x7F → Becomes (.abort id) s (s.endCmd c.id St.badDescriptor none)) ∧
         (k.op ≠ 0x7F → Becomes (.abort id) s ((s.stopCmd k.id St.aborted).beginCmd c.id (.abort [k.id])) ∧
           (s.cmd? k.id = some k → k.stoppable = true → Completes (.abort id) s (fun x => Works x id (.abort [k.id]) ∧
             (Stops x k.id St.aborted ∨ Ends x k.id St.aborted))))) ∧
       (s.cmds.find? hit = none → (s.submitted ctx).contains (dfld c.desc 0x12 2) = true →
         Becomes (.abort id) s ((s.markSlots ctx [dfld c.desc 0x12 2] St.aborted).endCmd c.id St.ok none) ∧
         Completes (.abort id) s (fun x => Ends x id St.ok ∧ (x.slotMark ctx (dfld c.desc 0x12 2)).isSome = true ∧
           { x with cmds := s.cmds, ctxs := s.ctxs } = s)) ∧
       (s.cmds.find? hit = none → (s.submitted ctx).contains (dfld c.desc 0x12 2) = false →
         Becomes (.abort id) s (s.endCmd c.id St.alreadyComplete none)))) ∧
  (∀ (s : State) (id : Nat) (c : Cmd), s.cmd? id = some c →
     (∀ ts, c.phase = .running → c.work = .abort ts →
       (s.tick < c.fetched + 25000 → Becomes (.abortOverrun id) s s) ∧
       (∀ t k since, ts = [t] → c.fetched + 25000 ≤ s.tick → s.cmd? t = some k → k.phase = .stopping St.aborted since →
         Becomes (.abortOverrun id) s
           (((s.noteExpiry k).vigilDossier 0 k).updCmd t (fun x => { x with phase := .stopping St.timeout since })) ∧
         Completes (.abortOverrun id) s (fun x => Stops x t St.timeout))) ∧
     ((s.tick < c.vigilEnd ∨ s.flowStopped = true ∨ c.stoppable = false) → Becomes (.vigilExpiry id) s s) ∧
     (c.vigilEnd ≤ s.tick → s.flowStopped = false → c.stoppable = true → c.replayed = false →
       (c.holdsUnits = true → Becomes (.vigilExpiry id) s (((s.noteExpiry c).vigilDossier 0 c).stopCmd id St.timeout) ∧
         (∀ k, ((s.noteExpiry c).vigilDossier 0 c).cmd? id = some k → k.stoppable = true →
           Completes (.vigilExpiry id) s (fun x => Stops x id St.timeout ∨ Ends x id St.timeout))) ∧
       (c.holdsUnits = false → Becomes (.vigilExpiry id) s ((s.noteExpiry c).stopCmd id St.timeout) ∧
         Completes (.vigilExpiry id) s (fun x => Ends x id St.timeout))) ∧
     (c.vigilEnd ≤ s.tick → s.flowStopped = false → c.stoppable = true → c.replayed = true →
       (c.holdsUnits = true → Becomes (.vigilExpiry id) s (((s.noteExpiry c).vigilDossier 5 c).stopCmd id St.guilty) ∧
         (∀ k, ((s.noteExpiry c).vigilDossier 5 c).cmd? id = some k → k.stoppable = true →
           Completes (.vigilExpiry id) s (fun x => Stops x id St.guilty ∨ Ends x id St.guilty))) ∧
       (c.holdsUnits = false → Becomes (.vigilExpiry id) s ((s.noteExpiry c).stopCmd id St.guilty) ∧
         Completes (.vigilExpiry id) s (fun x => Ends x id St.guilty))) ∧
     (∀ st since unit kind, c.phase = .stopping st since →
       (s.tick < since + 25000 → Becomes (.stopOverrun id kind unit) s s) ∧
       (since + 25000 ≤ s.tick →
         ((s.cmdCores c).contains unit = true → Becomes (.stopOverrun id 1 unit) s
           (s.reachReset 2 unit 1 (some c) (some (c.id, 1, unit)) (s.suspectsOf unit c st since)) ∧
           (unit < 256 → s.resets.jobs = [] → Completes (.stopOverrun id 1 unit) s (fun x => ResetBegins s x 2 unit))) ∧
         (2 ≤ kind → kind ≤ 4 → Becomes (.stopOverrun id kind unit) s (s.reachReset 4 0 1 (some c) (some (c.id, kind, 0)) []) ∧
           (s.resets.jobs = [] → s.loader.stage ≠ .committing → Completes (.stopOverrun id kind unit) s (fun x => ResetBegins s x 4 0))))) ∧
     (c.op = 0x80 → stTest c.desc ≤ 1 → c.phase = .waiting → stDeadline c.desc ≠ 0 →
       (c.fetched + 25000 * stDeadline c.desc ≤ s.tick → Becomes (.selftestDeadline id) s (s.endCmd id St.deferred none) ∧
         Completes (.selftestDeadline id) s (fun x => Ends x id St.deferred ∧ { x with cmds := s.cmds } = s)) ∧
       (s.tick < c.fetched + 25000 * stDeadline c.desc → Becomes (.selftestDeadline id) s s)))

/-- Self-tests (R633–R636). ARRAY and VECTOR start on an idle core, wait for a busy one, and end with ST_OK, CORE_SELFTEST telling the test
and its verdict and the core being free of it; SRAM_SCRUB reads the local store, counts its errors, says so in the almanac where one is
uncorrectable, and ends with ST_OK; MEM_CAL asks for the column's calibration; FAB_RETRAIN retrains each lane of a port with its link, and
ends with ST_OK at once without one. A test of a held cluster's core ends with ST_FENCED (R636). -/
def Obligations.SelfTests : Prop :=
  ∀ (s : State) (id : Nat) (env : Env) (c : Cmd), s.meetsDike c = false →
    let n := stCore c.desc
    let cores := fun (bad : Option (Nat × Nat)) (lane : Option Nat) => ([(.testArray id bad, 0), (.testVector id lane, 1)] : List (Instr × Nat))
    (s.clusterHeld (n / 8) = false → ∀ bad lane, ∀ r ∈ cores bad lane, s.runningTest id r.2 = none → s.startsTest id r.2 = some c →
      (s.coreIdle n = true → Completes r.1 s (fun t => (t.core n).test = some c.id ∧ Works t id .test ∧ t.mem = s.mem)) ∧
      (s.coreIdle n = false → Becomes r.1 s s)) ∧
    (∀ bad, (s.runningTest id 0 = some c → Becomes (.testArray id bad) s (s.endCoreTest c bad)) ∧
      (s.runningTest id 0 = some c → Completes (.testArray id bad) s (fun t => Ends t id St.ok ∧ (t.core n).test = none ∧ t.mem = s.mem ∧
        t.nat (Reg.coreSelftest n) = 2 ^ 31 + 2 ^ 20 * stTest c.desc + (match bad with
          | none => 2 ^ 30
          | some x => 2 ^ 8 * (x.1 % 128) + x.2 % 256)))) ∧
    (∀ bad, (s.runningTest id 1 = some c → Becomes (.testVector id bad) s (s.endCoreTest c (bad.map (fun l => (0, l))))) ∧
      (s.runningTest id 1 = some c → Completes (.testVector id bad) s (fun t => Ends t id St.ok ∧ (t.core n).test = none ∧ t.mem = s.mem ∧
        t.nat (Reg.coreSelftest n) = 2 ^ 31 + 2 ^ 20 * stTest c.desc + (match bad with
          | none => 2 ^ 30
          | some x => x % 256)))) ∧
    ((s.arrive env).startsTest id 2 = some c → (s.arrive env).meetsDike c = false → (s.arrive env).clusterHeld (n / 8) = false →
      (((s.arrive env).scrubStore n).1 = true → Becomes (.testSramScrub id env) s (((s.arrive env).scrubStore n).2.endCmd c.id St.ok none)) ∧
      Completes (.testSramScrub id env) s (fun t => Ends t id St.ok ∧ t.mem = ((s.arrive env).scrubStore n).2.mem ∧
        t.reg (Reg.coreSramErr n) = ((s.arrive env).scrubStore n).2.reg (Reg.coreSramErr n))) ∧
    (s.clusterHeld (n / 8) = false → s.startsTest id 3 = some c → Completes (.testMemCal id) s (fun t => Works t id .test ∧
      SMap.get (fun _ => 0) t.mem.calPending n = max 1 (SMap.get (fun _ => 0) s.mem.calPending n) ∧
      t.mem.dram = s.mem.dram ∧ t.regs = s.regs)) ∧
    (s.clusterHeld (n / 8) = true → (∀ bad lane, ∀ r ∈ cores bad lane, s.runningTest id r.2 = none → s.startsTest id r.2 = some c →
        Becomes r.1 s (s.endCmd id St.fenced none)) ∧
      (s.startsTest id 3 = some c → Becomes (.testMemCal id) s (s.endCmd id St.fenced none))) ∧
    (s.startsTest id 4 = some c →
      (s.portUp n = false → Becomes (.testFabRetrain id) s (s.endCmd c.id St.ok none)) ∧
      (s.portUp n = true → Becomes (.testFabRetrain id) s ((s.beginCmd c.id .test).startRetrain n ⟨0, 1, [1, 2, 3, 4, 5, 6, 7], some c.id⟩) ∧
        Completes (.testFabRetrain id) s (fun t => Works t id .test ∧ t.mem = s.mem ∧
          (t.retraining n = some ⟨0, 1, [1, 2, 3, 4, 5, 6, 7], some c.id⟩ ∨ (n, ⟨0, 1, [1, 2, 3, 4, 5, 6, 7], some c.id⟩) ∈ t.fab.retrainQ))))

/-! ### The mailbox and run states -/

/-- The mailbox (R122, R123, R127, R134–R136). With BUSY clear and nothing ahead of it, a command of MBX_CMD is answered at once: BUSY reads
0, DONE 1 and STATUS its status. SET of a value in its range changes the shadow value of its key alone, and the value in force of a LOCAL key;
GET returns the copy asked for and changes nothing else; REVERT makes the shadow the durable copy, DEFAULTS the defaults but for
MIN_IMAGE_SERIAL, and both bring the LOCAL values into force; QUIESCE makes the running polders it names STOPPING; RESUME makes the stopped
ones it names RUNNING, or is refused as busy. STORE starts the write of the shadow copy, or is refused within 1,000 ms of the last. A write of
MBX_CMD while BUSY reads 1 sets ERR and nothing else.
STORE_COMPLETE (R125, R126): a verified record makes the snapshot durable with the next sequence number in the other slot, and STORE_COUNT
rises; a write that could not be verified leaves the durable copy as it was and sets STORE_FAIL; NVS_STATUS.BUSY reads 0 either
way. -/
def Obligations.MailboxAndStore : Prop :=
  (∀ s : State, s.hostOpen = true →
     (s.bit Reg.mbxStatus 0 = true →
       let t := s.setBit Reg.mbxStatus 2 true
       Becomes .mbxSet s t ∧ Becomes .mbxGet s t ∧ Becomes .mbxStore s t ∧ Becomes .mbxRevert s t ∧ Becomes .mbxDefaults s t ∧
       Becomes .mbxQuiesce s t ∧ Becomes .mbxResume s t) ∧
     (s.bit Reg.mbxStatus 0 = false → s.mbx.running = none → s.mbx.queue = [] →
       let b := s.setBit Reg.mbxStatus 0 true
       let q := fun op => (⟨none, op, s.nat (Reg.mbxArg 0), s.nat (Reg.mbxArg 1), s.nat (Reg.mbxArg 2)⟩ : MbxReq)
       let done := fun op => (b.mbxDo (q op)).2.mbxAnswer (q op) (b.mbxDo (q op)).1
       let answered := fun (t : State) (st : Nat) => t.bit Reg.mbxStatus 0 = false ∧ t.bit Reg.mbxStatus 1 = true ∧
         t.fld Reg.mbxStatus 15 8 = st ∧ t.mem = s.mem ∧ t.nvm = s.nvm ∧ t.cmds = s.cmds ∧ t.image = s.image
       let key := s.nat (Reg.mbxArg 0) % 65536
       let val := s.nat (Reg.mbxArg 1)
       let named := fun p => p ∈ s.polders ∧ (s.nat (Reg.mbxArg 0)).testBit p = true
       Becomes .mbxSet s (done 0x01) ∧ Becomes .mbxGet s (done 0x02) ∧ Becomes .mbxRevert s (done 0x04) ∧
       Becomes .mbxDefaults s (done 0x05) ∧ Becomes .mbxQuiesce s (done 0x10) ∧ Becomes .mbxResume s (done 0x11) ∧
       (∀ r, s.setting? key = some r → r.2.1 ≤ val → val ≤ r.2.2.1 → (key = Key.minImageSerial → s.durableVal key ≤ val) →
         Completes .mbxSet s (fun t => answered t St.ok ∧ t.shadowVal key = val ∧ (∀ k, k ≠ key → t.shadowVal k = s.shadowVal k) ∧
           (isCommon key = true → t.sets.inforce = s.sets.inforce) ∧ (isCommon key = false → t.inforce key = val) ∧
           t.sets.durable = s.sets.durable ∧ t.runs = s.runs)) ∧
       (∀ v, (s.setting? key).isSome = true → val % 4 ≠ 3 →
         v = (if val % 4 = 0 then s.inforce key else if val % 4 = 1 then s.shadowVal key else s.durableVal key) →
         Completes .mbxGet s (fun t => answered t St.ok ∧ t.nat (Reg.mbxResult 0) = v % 2 ^ 32 ∧ { t with regs := s.regs } = s)) ∧
       Completes .mbxRevert s (fun t => answered t St.ok ∧ t.sets.shadow = s.sets.durable ∧ t.sets.durable = s.sets.durable ∧
         (∀ k ∈ localKeys, t.inforce k = s.durableVal k) ∧ (∀ k ∈ commonKeys, t.inforce k = s.inforce k) ∧ t.runs = s.runs) ∧
       Completes .mbxDefaults s (fun t => answered t St.ok ∧ t.sets.durable = s.sets.durable ∧
         (∀ k, t.shadowVal k = if k = Key.minImageSerial then s.shadowVal k else s.settingDefault k) ∧
         (∀ k ∈ localKeys, t.inforce k = s.settingDefault k) ∧ (∀ k ∈ commonKeys, t.inforce k = s.inforce k) ∧ t.runs = s.runs) ∧
       (s.image.isSome = true → s.nat (Reg.mbxArg 2) ≤ 60000 → val.testBit 1 = false →
         let ms := if s.nat (Reg.mbxArg 2) = 0 then s.inforce Key.quiesceMs else s.nat (Reg.mbxArg 2)
         Completes .mbxQuiesce s (fun t => answered t St.ok ∧
           (∀ p, named p → s.runState p = .running → t.runState p = .stopping (s.tick + 25000 * ms) (val.testBit 0) false 0) ∧
           (∀ p, (¬ named p ∨ s.runState p = .stopped) → t.runState p = s.runState p) ∧ t.sets = s.sets)) ∧
       (s.image.isSome = true → s.bit Reg.imgStatus 0 = false → (∀ p d a x n, named p → s.runState p ≠ .stopping d a x n) →
         Completes .mbxResume s (fun t => answered t St.ok ∧ (∀ p, named p → t.runState p = .running) ∧
           (∀ p, ¬ named p → t.runState p = s.runState p) ∧ t.sets = s.sets)) ∧
       (s.image.isSome = true → (s.bit Reg.imgStatus 0 = true ∨ ∃ p d a x n, named p ∧ s.runState p = .stopping d a x n) →
         Completes .mbxResume s (fun t => answered t St.busy ∧ { t with regs := s.regs } = s)) ∧
       ((∀ t, s.sets.lastStore = some t → t + 25000000 ≤ s.tick) →
         Completes .mbxStore s (fun t => t.bit Reg.nvsStatus 0 = true ∧ t.bit Reg.mbxStatus 0 = true ∧
           t.mbx.running = some (q 0x03, s.sets.shadow) ∧ t.sets.lastStore = some s.tick ∧ t.sets.durable = s.sets.durable ∧
           t.sets.shadow = s.sets.shadow ∧ t.nvm = s.nvm ∧ t.mem = s.mem)) ∧
       (∀ t0, s.sets.lastStore = some t0 → s.tick < t0 + 25000000 →
         Completes .mbxStore s (fun t => answered t St.busy ∧ t.nat (Reg.mbxResult 0) = cdiv (t0 + 25000000 - s.tick) 25000 % 2 ^ 32 ∧
           { t with regs := s.regs } = s))) ∧
     (∀ (q : MbxReq) (a : MbxAnswer), q.src = none → a.1 < 256 → (s.mbxAnswer q a).bit Reg.mbxStatus 0 = false ∧
       (s.mbxAnswer q a).bit Reg.mbxStatus 1 = true ∧ (s.mbxAnswer q a).fld Reg.mbxStatus 15 8 = a.1 ∧
       { s.mbxAnswer q a with regs := s.regs } = s)) ∧
  (∀ s : State, s.hostOpen = false → Becomes .mbxSet s s ∧ Becomes .mbxGet s s ∧ Becomes .mbxStore s s ∧ Becomes .mbxRevert s s ∧
     Becomes .mbxDefaults s s ∧ Becomes .mbxQuiesce s s ∧ Becomes .mbxResume s s) ∧
  (∀ (s : State) (ok : Bool), s.mbx.running = none → Becomes (.storeComplete ok) s s) ∧
  (∀ (s : State) (q : MbxReq) (snap : SMap Nat), s.mbx.running = some (q, snap) → s.mbx.queue = [] →
     Completes (.storeComplete true) s (fun t => t.mbx.running = none ∧ t.sets.durable = snap ∧ t.sets.seq = (s.sets.seq + 1) % 2 ^ 32 ∧
       t.sets.slot = 1 - s.sets.slot ∧ t.sets.shadow = s.sets.shadow ∧ t.sets.inforce = s.sets.inforce ∧
       t.nvm.storeCount = min (s.nvm.storeCount + 1) (2 ^ 32 - 1)) ∧
     Completes (.storeComplete false) s (fun t => t.mbx.running = none ∧ t.sets = s.sets ∧ t.bit Reg.nvsStatus 0 = false ∧
       t.bit Reg.nvsStatus 3 = true ∧ t.nvm.storeCount = s.nvm.storeCount ∧ (q.src = none → t.fld Reg.mbxStatus 15 8 = St.uncorrectable) ∧
       (if s.sets.slot = 0 then t.nvm.slot0 = s.nvm.slot0 else t.nvm.slot1 = s.nvm.slot1)))

/-- What mailbox commands do (R122, R123, R134). SET of an unknown key or outside its key's range returns ST_BAD_DESCRIPTOR, SET of
MIN_IMAGE_SERIAL below its durable value ST_NOT_PERMITTED, and GET of an unknown key or of copy code 3 ST_BAD_DESCRIPTOR with no value;
none of them changes anything. GET changes nothing, and returns the shadow value for copy code 1. QUIESCE and RESUME without an image
return ST_NO_IMAGE. -/
def Obligations.MailboxCommands : Prop :=
  ∀ (s : State) (q : MbxReq),
    (q.op = 0x02 → (s.mbxDo q).2 = s) ∧
    (q.op = 0x02 → ((s.setting? (q.a0 % 65536)).isNone = true ∨ q.a1 % 4 = 3) → (s.mbxDo q).1 = (St.badDescriptor, none)) ∧
    (q.op = 0x02 → (s.setting? (q.a0 % 65536)).isSome = true → q.a1 % 4 = 1 →
      (s.mbxDo q).1 = (St.ok, some (s.shadowVal (q.a0 % 65536)))) ∧
    (q.op = 0x01 → s.setting? (q.a0 % 65536) = none → s.mbxDo q = ((St.badDescriptor, none), s)) ∧
    (∀ r, q.op = 0x01 → s.setting? (q.a0 % 65536) = some r → (q.a1 < r.2.1 ∨ r.2.2.1 < q.a1) →
      s.mbxDo q = ((St.badDescriptor, none), s)) ∧
    (∀ r, q.op = 0x01 → s.setting? (q.a0 % 65536) = some r → r.2.1 ≤ q.a1 → q.a1 ≤ r.2.2.1 → q.a0 % 65536 = Key.minImageSerial →
      q.a1 < s.durableVal Key.minImageSerial → s.mbxDo q = ((St.notPermitted, none), s)) ∧
    (q.op = 0x10 ∨ q.op = 0x11 → s.image = none → s.mbxDo q = ((St.noImage, none), s)) ∧
    (q.op ∉ [0x01, 0x02, 0x04, 0x05, 0x10, 0x11] → s.mbxDo q = ((St.badDescriptor, none), s))

/-- Run states (R107–R118). QUIESCE makes a running polder STOPPING with the drain's end; a stopping one takes the earlier end and both
options; a stopped one stays. DRAIN_DEADLINE at that end, or at once where an abort was asked for, asks every remaining command of the polder
to stop with ST_ABORTED; before that it changes nothing. POLDER_STOPPED of a stopping polder with no command left makes it STOPPED, its SRAM
cleared where SCRUB asked for it, and says so in the almanac; with a command left, or of a polder that is not stopping, it changes nothing. -/
def Obligations.RunStates : Prop :=
  ∀ (s : State) (p : Nat), p < 32 →
    (∀ ab sc ms, s.runState p = .running → (s.quiesce ab sc ms p).runState p = .stopping (s.tick + 25000 * ms) ab sc 0) ∧
    (∀ ab sc ms d a x n, s.runState p = .stopping d a x n →
      (s.quiesce ab sc ms p).runState p = .stopping (min d (s.tick + 25000 * ms)) (a || ab) (x || sc) n) ∧
    (∀ ab sc ms, s.runState p = .stopped → (s.quiesce ab sc ms p).runState p = .stopped) ∧
    (∀ d a x n, s.runState p = .stopping d a x n →
      ((d ≤ s.tick ∨ a = true) → Completes (.drainDeadline p) s (fun t =>
        t.runState p = .stopping d true x (n + ((s.polderCmds p).filter Cmd.stoppable).length) ∧
        (∀ k ∈ s.polderCmds p, k.stoppable = true → Stops t k.id St.aborted ∨ Ends t k.id St.aborted ∨ s.cmd? k.id ≠ some k) ∧
        ((∀ k ∈ s.cmds, ∀ l, k.work ≠ .nbu l) → t.mem = s.mem) ∧ t.image = s.image ∧ t.sets = s.sets)) ∧
      (s.tick < d → a = false → Becomes (.drainDeadline p) s s) ∧
      (s.polderCmds p = [] → Completes (.polderStopped p) s (fun t => t.runState p = .stopped ∧ t.bit Reg.mbxStopped p = true ∧
        t.bit Reg.mbxStopping p = false ∧ t.cmds = s.cmds ∧ t.image = s.image ∧
        (x = false → t.mem = s.mem) ∧ (x = true → t.mem = (s.scrubPolder p).mem)))) ∧
    ((s.runState p = .running ∨ s.runState p = .stopped) → Becomes (.drainDeadline p) s s ∧ Becomes (.polderStopped p) s s) ∧
    (s.polderCmds p ≠ [] → Becomes (.polderStopped p) s s)

/-! ### Images -/

/-- Image loads (R94–R102). GO with its source ready starts a load: from the port the validation, from a staging source the copy of the bytes
as they stand; without a shadow area, or with a source that fails its check, the load fails at once; while one runs GO is ignored. ABORT
ends a load that copies or validates, and nothing else; SRC sets the source; the port takes the bytes that fit IMG_LENGTH. A copy whose
source can be read goes on to validation, one whose source cannot fails; a validation that passes leaves its image for the commit, one that
fails ends the load with its phase, code and section; IMAGE_COMMIT puts the validated image in force, with its registers and no stack memory
written, and fails where the shadow area cannot be read. -/
def Obligations.ImageLoads : Prop :=
  ∀ (s : State) (env : Env),
    (∀ src, src < 4 → s.hostOpen = true →
      (s.loader.stage = .idle →
        let u := s.setSource src
        Becomes (.imgGo src) s (u.startLoad src) ∧
        (s.areaNone = true → Completes (.imgGo src) s (fun t => t.loader.stage = .idle ∧ t.bit Reg.imgStatus 2 = true ∧
          t.fld Reg.imgStatus 11 8 = 0 ∧ t.fld Reg.imgStatus 23 16 = Ie.memory ∧ t.image = s.image)) ∧
        (s.areaNone = false → s.sourceOk src = false → Completes (.imgGo src) s (fun t => t.loader.stage = .idle ∧ t.bit Reg.imgStatus 2 = true ∧
          t.fld Reg.imgStatus 11 8 = 0 ∧ t.fld Reg.imgStatus 23 16 = Ie.length ∧ t.image = s.image)) ∧
        (s.areaNone = false → s.sourceOk src = true → Completes (.imgGo src) s (fun t => t.bit Reg.imgStatus 0 = true ∧ t.imgSource = src ∧
          t.loader.length = s.imgLen ∧ t.image = s.image ∧ t.mem = s.mem ∧
          (src = 0 → t.loader.stage = .validating) ∧
          (src ≠ 0 → t.loader.stage = .copying ∧ t.loader.srcAddr = s.imgAddr ∧
            t.loader.snap = s.sourceSnap s.imgAddr (min s.imgLen 0x4000000))))) ∧
      (s.loader.stage ≠ .idle → Becomes (.imgGo src) s (s.setSource src)) ∧
      Becomes (.imgSrc src) s (s.setSource src) ∧
      Completes (.imgSrc src) s (fun t => t.imgSource = src ∧ t.loader.stage = s.loader.stage ∧ { t with regs := s.regs, loader := s.loader } = s)) ∧
    (∀ src, src < 4 → s.hostOpen = false → Becomes (.imgGo src) s s ∧ Becomes (.imgSrc src) s s ∧ Becomes .imgAbort s s ∧
      ∀ data, Becomes (.imgPortWrite data env) s s) ∧
    (s.hostOpen = true → (s.loader.stage = .copying ∨ s.loader.stage = .validating) → Becomes .imgAbort s (s.loadFail Ie.aborted 0xFF) ∧
      Completes .imgAbort s (fun t => t.loader.stage = .idle ∧ t.bit Reg.imgStatus 0 = false ∧ t.bit Reg.imgStatus 2 = true ∧
        t.fld Reg.imgStatus 23 16 = Ie.aborted ∧ { t with regs := s.regs, loader := s.loader } = s)) ∧
    ((s.loader.stage = .idle ∨ s.loader.stage = .committing) → Becomes .imgAbort s s) ∧
    (∀ data, s.hostOpen = true → s.loader.stage = .idle →
      let room := min s.imgLen 0x4000000 - s.loader.portPos
      Completes (.imgPortWrite data env) s (fun t => t.image = s.image ∧ t.loader.stage = .idle ∧
        t.loader.portPos = s.loader.portPos + (data.take room).length ∧
        t.loader.portOver = (s.loader.portOver || decide (room < data.length)) ∧
        t.mem = (if s.areaNone = true then s.arrive env else (s.arrive env).shadowWrite s.loader.portPos (data.take room)).mem)) ∧
    (∀ data, s.loader.stage ≠ .idle → Becomes (.imgPortWrite data env) s s) ∧
    (s.loader.stage = .copying → (isHost s.loader.srcAddr && s.pcie.d3.contains 0) = false →
      (∀ bs t, (s.arrive env).sourceRead = (some bs, t) →
        Becomes (.imageCopyDone env) s { (t.shadowWrite 0 bs).setPhase 1 with loader := { (t.shadowWrite 0 bs).loader with stage := .validating } } ∧
        Completes (.imageCopyDone env) s (fun u => u.loader.stage = .validating ∧ u.fld Reg.imgStatus 11 8 = 1 ∧ u.image = s.image ∧
          u.mem = (t.shadowWrite 0 bs).mem)) ∧
      (∀ t, (s.arrive env).sourceRead = (none, t) → Becomes (.imageCopyDone env) s (t.failPhase ⟨0, Ie.memory, 0xFF⟩))) ∧
    (s.loader.stage ≠ .copying → Becomes (.imageCopyDone env) s (s.arrive env)) ∧
    (s.loader.stage = .validating →
      (∀ im mask t, Val.image s.loader.length (s.arrive env) = .ok (im, mask) t →
        Becomes (.imageValidationDone env) s
          { t.setPhase 13 with loader := { t.loader with stage := .committing, next := some im, partialMask := mask } } ∧
        Completes (.imageValidationDone env) s (fun u => u.loader.stage = .committing ∧ u.loader.next = some im ∧ u.loader.partialMask = mask ∧
          u.fld Reg.imgStatus 11 8 = 13 ∧ u.image = s.image)) ∧
      (∀ b t, Val.image s.loader.length (s.arrive env) = .error b t → Becomes (.imageValidationDone env) s (t.failPhase b) ∧
        Completes (.imageValidationDone env) s (fun u => u.loader.stage = .idle ∧ u.bit Reg.imgStatus 2 = true ∧ u.image = s.image))) ∧
    (s.loader.stage ≠ .validating → Becomes (.imageValidationDone env) s (s.arrive env)) ∧
    (∀ im bs t, s.loader.stage = .committing → s.loader.next = some im →
      (s.shadowRead s.loader.length = (bs, false, t) → Becomes .imageCommit s (t.commitImage im s.loader.partialMask) ∧
        (s.loader.heldResets = [] → Completes .imageCommit s (fun u => u.image = some im ∧ u.bit Reg.imgStatus 3 = true ∧ u.bit Reg.imgStatus 0 = false ∧
          u.fld Reg.imgStatus 11 8 = 13 ∧ u.nat Reg.imgSerial = im.serial % 2 ^ 32 ∧ u.loader = State.reset.loader ∧ u.mem.dram = t.mem.dram ∧
          (∀ p, p ∈ s.polders → p ∈ im.polders.map (fun r => r.num) → u.runState p = s.runState p)))) ∧
      (s.shadowRead s.loader.length = (bs, true, t) → s.loader.heldResets = [] →
        Becomes .imageCommit s { t.failPhase ⟨13, Ie.memory, 0xFF⟩ with loader := State.reset.loader })) ∧
    (s.loader.stage ≠ .committing → Becomes .imageCommit s s)

/-! ### The stack memories' upkeep -/

/-- Upkeep of the memories. REMAP_NVM_WRITE (R314) makes an entry durable that NVM does not hold yet, and says so in the almanac. ARM,
CLR_LOG and CLR_COUNTS (R312, R323, R327) write their registers and nothing else. APPEND (R319): an entry that is well formed, free of
the shadow area, new and has room waits for NVM; others are refused with their code or are done. RETIRE_APPEND_DONE adds it to the list,
or says that NVM did not take it. PATROL_SCRUB (R307) reads the next block and moves on; where that block holds no error nothing else
changes.
Refresh and calibration (R306, R353, R634). REFRESH_DUE is owed to a running sequence up to four, beyond which it is forced, and runs
where none is running; MEM_CALIBRATION_DUE starts a calibration that is due, and MEM_CALIBRATION_DONE ends it: CALIBRATING reads 1 in
between, and the time of the next one counts from its end. -/
def Obligations.MemoryUpkeep : Prop :=
  (∀ s : State,
     (∀ col entry, col < 256 → entry < 8 →
       ((s.reg (Reg.memRemap col entry)).getLsbD 31 = true →
         SMap.get (fun _ => 0) s.nvm.remap (8 * col + entry) ≠ s.reg (Reg.memRemap col entry) →
         Becomes (.remapNvmWrite col entry) s
           ({ s with nvm := { s.nvm with remap := SMap.set (fun _ => 0) s.nvm.remap (8 * col + entry) (s.reg (Reg.memRemap col entry)) } }.event
             0x0402 (Src.column col) none (dataOf [(0, (s.reg (Reg.memRemap col entry)).toNat), (4, entry)])) ∧
         Completes (.remapNvmWrite col entry) s (fun t =>
           SMap.get (fun _ => 0) t.nvm.remap (8 * col + entry) = s.reg (Reg.memRemap col entry) ∧ t.mem = s.mem ∧ t.cmds = s.cmds)) ∧
       (((s.reg (Reg.memRemap col entry)).getLsbD 31 = false ∨
           SMap.get (fun _ => 0) s.nvm.remap (8 * col + entry) = s.reg (Reg.memRemap col entry)) →
         Becomes (.remapNvmWrite col entry) s s)) ∧
     (s.hostOpen = true →
       (∀ v, Becomes (.memArm v) s (s.setReg Reg.memFliptarget (v &&& 0x800000FF))) ∧
       (∀ col, col < 256 → Completes (.memClrLog col) s (fun t => (∀ i, i < 16 → t.reg (Reg.memCeLog col i) = 0 ∧ t.reg (Reg.memCeInfo col i) = 0) ∧
         t.reg (Reg.memCeLogLost col) = 0 ∧ { t with regs := s.regs } = s ∧
         ∀ a, (∀ i, i < 16 → a ≠ Reg.memCeLog col i ∧ a ≠ Reg.memCeInfo col i) → a ≠ Reg.memCeLogLost col → t.reg a = s.reg a)) ∧
       (∀ col, col < 256 → Completes (.memClrCounts col) s (fun t => t.reg (Reg.memCeCount col) = 0 ∧ t.reg (Reg.memUeCount col) = 0 ∧
         (∀ a, a ≠ Reg.memCeCount col → a ≠ Reg.memUeCount col → t.reg a = s.reg a) ∧ { t with regs := s.regs } = s)) ∧
       (s.mem.pendingRetire.isSome = true → Becomes .memAppend s s) ∧
       (s.mem.pendingRetire = none →
         let e := s.reg Reg.memRetireEntry
         (retireOk e = false → Becomes .memAppend s (s.retireErr 1)) ∧
         (retireOk e = true → s.retireArea e = true → Becomes .memAppend s (s.retireErr 2)) ∧
         (retireOk e = true → s.retireArea e = false → s.retireKnown e = true → Becomes .memAppend s s.retireDone) ∧
         (retireOk e = true → s.retireArea e = false → s.retireKnown e = false → 4096 ≤ s.nvm.retire.length →
           Becomes .memAppend s (s.retireErr 4)) ∧
         (retireOk e = true → s.retireArea e = false → s.retireKnown e = false → s.nvm.retire.length < 4096 →
           Becomes .memAppend s { s.setBit Reg.memRetireStatus 0 true with mem := { s.mem with pendingRetire := some e } }))) ∧
     (∀ e, s.mem.pendingRetire = some e →
       Completes (.retireAppendDone true) s (fun t => t.nvm.retire = s.nvm.retire ++ [e] ∧ t.mem.pendingRetire = none ∧
         t.mem.retired = s.mem.retired ∧ t.bit Reg.memRetireStatus 0 = false ∧ t.bit Reg.memRetireStatus 1 = true ∧
         t.nat Reg.memRetireCount = (s.nvm.retire.length + 1) % 2 ^ 32 ∧
         { t with nvm := { t.nvm with retire := s.nvm.retire }, regs := s.regs, mem := { t.mem with pendingRetire := some e } } = s) ∧
       Completes (.retireAppendDone false) s (fun t => t.mem.pendingRetire = none ∧
         t.bit Reg.memRetireStatus 0 = false ∧ t.bit Reg.memRetireStatus 2 = true ∧ t.fld Reg.memRetireStatus 11 8 = 3 ∧
         { t with regs := s.regs, mem := { t.mem with pendingRetire := some e } } = s)) ∧
     (∀ col env, col < 256 →
       let u := s.arrive env
       let k := SMap.get (fun _ => 0) u.mem.scrubPos col
       let t := (u.readBlock Req.scrubber (2 ^ 32 * col + u.offOfCell col (64 * k)) col (64 * k) false).2
       Becomes (.patrolScrub col env) s { t with mem := { t.mem with scrubPos := SMap.set (fun _ => 0) t.mem.scrubPos col ((k + 1) % 0xC00000) } } ∧
       (u.colFailed col = false → (u.blockErr col (64 * k)).now = 0 → Becomes (.patrolScrub col env) s
         { u with mem := { u.mem with scrubPos := SMap.set (fun _ => 0) u.mem.scrubPos col ((k + 1) % 0xC00000) } }))) ∧
  (∀ (s : State) (col bank : Nat), col < 256 → bank < 32 →
     let n := SMap.get (fun _ => 0) s.mem.owed (32 * col + bank)
     (s.inSeq col bank = false → Becomes (.refreshDue col bank) s
       { s with mem := { s.mem with owed := SMap.set (fun _ => 0) s.mem.owed (32 * col + bank) 0 } }) ∧
     (s.inSeq col bank = true → n < 4 → Becomes (.refreshDue col bank) s
       { s with mem := { s.mem with owed := SMap.set (fun _ => 0) s.mem.owed (32 * col + bank) (n + 1) } }) ∧
     (s.inSeq col bank = true → 4 ≤ n → Becomes (.refreshDue col bank) s
       (((({ s with mem := { s.mem with owed := SMap.set (fun _ => 0) s.mem.owed (32 * col + bank) 0 } } : State).addCnt Reg.nbuCntForced 1).bumpFld
         (Reg.nbuColOwed col) 31 16 1).setBit Reg.nbuEvent 2 true)) ∧
     (s.calDue col = true → s.calibrating col = false → Becomes (.memCalibrationDue col) s
       (({ s with mem := { s.mem with calPending := SMap.set (fun _ => 0) s.mem.calPending col 2 } } : State).setBit (Reg.memColStatus col) 8 true)) ∧
     ((s.calDue col = false ∨ s.calibrating col = true) → Becomes (.memCalibrationDue col) s s) ∧
     (s.calibrating col = true → Completes (.memCalibrationDone col) s (fun t =>
       SMap.get (fun _ => 0) t.mem.calPending col = 0 ∧ t.bit (Reg.memColStatus col) 8 = false ∧
       SMap.get (fun _ => 0) t.mem.calTick col = s.tick ∧ t.mem.dram = s.mem.dram ∧
       { t with mem := s.mem, regs := s.regs, cmds := s.cmds } = s ∧
       ∀ id c, s.cmd? id = some c → c.op = 0x80 → dbyte c.desc 0x10 = 3 → dbyte c.desc 0x11 = col → c.phase = .running → Ends t id St.ok)) ∧
     (s.calibrating col = false → Becomes (.memCalibrationDone col) s s))

/-! ### The course of a reset -/

/-- The course of a reset (R559, R561, R573). SLUICE_CLOSE closes the sluice of a reset in progress, and closing it again changes nothing.
RESET_COMPLETE of one whose sluice is closed and whose scope is empty takes it away and clears its level: an engine reset the core's local
store, array and test, with its dike down; a polder reset ends the stopping of its polder; a chip reset all SRAM, cores, NBUs and context
state, the image staying in force; a module reset also the image, the pages and the run states, and bring-up runs. Until then it changes
nothing. RESET_OVERRUN after the level's bound goes on to the next rung: the polder's reset, the chip's, or the request of a power cycle;
before it nothing happens. The counts of the sluice and the dike are free values (R559 gives no number).
The power cycle (R573): the request with its key asserts FAULT_N, stands from then on, and leaves the module as a message; it is
repeated when a second has passed, and not before. -/
def Obligations.ResetCourse : Prop :=
  (∀ (s : State) (level unit : Nat) (j : ResetJob), 2 ≤ level → level ≤ 5 →
     s.resets.jobs.find? (fun j => decide (j.level = level) && (decide (j.unit = unit) || decide (4 ≤ level))) = some j →
     (j.closed = none → Completes (.sluiceClose level unit) s (fun t =>
       t.resets.jobs = s.resets.jobs.map (fun x => if x = j then { x with closed := some s.tick } else x) ∧ t.tick = s.tick ∧
       t.image = s.image ∧ (4 ≤ level → t.mem = s.mem ∧ t.cmds = s.cmds))) ∧
     (j.closed.isSome = true → Becomes (.sluiceClose level unit) s s) ∧
     (∀ b, (j.closed = none ∨ s.flowStopped = true ∨ s.scopeEmpty level j.unit = false) → Becomes (.resetComplete level unit b) s s) ∧
     (∀ b, j.closed.isSome = true → s.flowStopped = false → s.scopeEmpty level j.unit = true → s.resets.queued = [] → j.suspects = [] →
       (level = 2 → j.unit < 256 → s.resets.replay = none → Completes (.resetComplete level unit b) s (fun t => j ∉ t.resets.jobs ∧
         t.core j.unit = { CoreState.clear with mismatch := (s.core j.unit).mismatch } ∧ t.flag (Reg.dikeEngine 0) j.unit = false ∧
         (∀ k, k / 2 ^ 22 = j.unit → t.mem.locals.byte k = 0) ∧ t.mem.shared = s.mem.shared ∧ t.image = s.image)) ∧
       (level = 3 → Completes (.resetComplete level unit b) s (fun t => j ∉ t.resets.jobs ∧ t.image = s.image ∧
         (∀ d a x n, t.runState j.unit ≠ .stopping d a x n) ∧
         ((∀ c ∈ s.polderClusters j.unit, s.clusterHeld c = false) → t.bit Reg.dikePolder j.unit = false))) ∧
       (level = 4 → j.ctx = none → Completes (.resetComplete level unit b) s (fun t => j ∉ t.resets.jobs ∧ t.image = s.image ∧
         t.mem.shared = [] ∧ t.mem.locals = [] ∧ t.nbus = [] ∧ t.ctxs = [] ∧
         (∀ n, n < 256 → t.core n = { CoreState.clear with mismatch := (s.core n).mismatch }))) ∧
       (level = 5 → Completes (.resetComplete level unit b) s (fun t => j ∉ t.resets.jobs ∧ t.image = none ∧ t.kv = [] ∧ t.runs = [] ∧
         (t.stage = 6 ∨ t.recovery = true ∨ t.pcie.bring = some false)))) ∧
     (∀ t, j.closed = some t → (s.tick < t + resetBound level ∨ s.flowStopped = true) → Becomes (.resetOverrun level unit) s s) ∧
     (∀ t p, j.closed = some t → t + resetBound level ≤ s.tick → s.flowStopped = false →
       (level = 2 → s.corePolder j.unit = some p →
         Becomes (.resetOverrun level unit) s (s.reachReset 3 p 2 (j.expired.bind s.cmd?) none []) ∧
         (p < 32 → s.loader.stage ≠ .committing → (∀ x ∈ s.resets.jobs, x.level = 2) →
           Completes (.resetOverrun level unit) s (fun u => ResetBegins s u 3 p))) ∧
       (level = 2 → s.corePolder j.unit = none →
         Becomes (.resetOverrun level unit) s (s.reachReset 4 0 2 (j.expired.bind s.cmd?) none [])) ∧
       (level = 3 → Becomes (.resetOverrun level unit) s (s.reachReset 4 0 2 (j.expired.bind s.cmd?) none []) ∧
         (s.loader.stage ≠ .committing → (∀ x ∈ s.resets.jobs, x.level < 4) →
           Completes (.resetOverrun level unit) s (fun u => ResetBegins s u 4 0))) ∧
       (4 ≤ level → Becomes (.resetOverrun level unit) s (s.requestPowerCycle none) ∧
         (s.resets.powerReq = none → Completes (.resetOverrun level unit) s (fun u => u.pins.fault = true ∧ u.resets.lastPowerReq = s.tick ∧
           ∃ code, u.resets.powerReq = some (code, s.tick)))))) ∧
  (∀ s : State,
     (s.hostOpen = true → s.resets.powerReq = none → Completes (.powerCycleRequest 0xA5) s (fun t =>
       (∃ code, t.resets.powerReq = some (code, s.tick)) ∧ t.resets.lastPowerReq = s.tick ∧ t.pins.fault = true ∧
       ∃ b dst bytes, t.out.head? = some (.mctp b dst 0x7E bytes))) ∧
     (∀ code t0, s.resets.powerReq = some (code, t0) →
       (s.resets.lastPowerReq + 25000000 ≤ s.tick → Completes .powerCycleRepeat s (fun t =>
         t.resets.lastPowerReq = s.tick ∧ t.resets.powerReq = s.resets.powerReq ∧ ∃ b dst bytes, t.out = .mctp b dst 0x7E bytes :: s.out)) ∧
       (s.tick < s.resets.lastPowerReq + 25000000 → Becomes .powerCycleRepeat s s)) ∧
     (s.resets.powerReq = none → Becomes .powerCycleRepeat s s))

/-! ### Firmware, ownership and SPDM -/

/-- Firmware update over BAR0 (R622, R623). OPEN on an idle path opens it; the port stages bytes; VERIFY starts the check and its end
decides; COMMIT with its key and a verified copy starts the write and its end leaves the image in the slot; CANCEL discards the staging;
RECOVER with its key asks for recovery; a wrong key does nothing. -/
def Obligations.FirmwareUpdate : Prop :=
  ∀ s : State,
    (s.fwServed = true →
      (s.sec.path = none → Completes .fwOpen s (fun t => t.sec.path = some .bar0 ∧ t.sec.staging = [] ∧ t.sec.verifiedLen = none ∧
        t.bit Reg.secFwStatus 1 = true ∧ t.nvm = s.nvm)) ∧
      (s.sec.path = some .pldm → Becomes .fwOpen s (s.fwFail 9)) ∧
      (s.sec.path = some .bar0 → s.sec.busy = .idle →
        (∀ data, Completes (.fwPortWrite data) s (fun t => t.sec.staging = (s.sec.staging ++ data).take (min (s.nat Reg.secFwLength) 4194304) ∧
          t.regs = s.regs ∧ t.nvm = s.nvm)) ∧
        Completes .fwVerify s (fun t => t.sec.busy = .verifying ∧ t.bit Reg.secFwStatus 0 = true ∧ t.bit Reg.secFwStatus 2 = false ∧
          t.sec.staging = s.sec.staging ∧ t.nvm = s.nvm) ∧
        (s.fwVerified = true → Completes (.fwCommit 0xA5) s (fun t => t.sec.busy = .committing ∧ t.nvm.fwSlot.take 4 = [0, 0, 0, 0])) ∧
        (s.fwVerified = false → Becomes (.fwCommit 0xA5) s (s.fwFail 8)) ∧
        Completes .fwCancel s (fun t => t.sec.path = none ∧ t.sec.staging = [] ∧ t.bit Reg.secFwStatus 1 = false ∧
          t.bit Reg.secFwStatus 2 = false ∧ t.nvm = s.nvm)) ∧
      Becomes (.fwRecover 0xA5) s { s with sec := { s.sec with recoverReq := true } }) ∧
    (∀ key, key < 256 → key ≠ 0xA5 → Becomes (.fwCommit key) s s ∧ Becomes (.fwRecover key) s s) ∧
    (s.sec.busy = .verifying → s.sec.path = some .bar0 →
      (s.fwVerdict = 0 → Completes .fwVerifyDone s (fun t => t.sec.busy = .idle ∧ t.sec.verifiedLen = some (s.nat Reg.secFwLength) ∧
        t.bit Reg.secFwStatus 2 = true ∧ t.bit Reg.secFwStatus 0 = false ∧ t.nvm = s.nvm)) ∧
      (s.fwVerdict ≠ 0 → s.fwVerdict < 16 → Completes .fwVerifyDone s (fun t => t.sec.busy = .idle ∧ t.sec.verifiedLen = none ∧
        t.bit Reg.secFwStatus 4 = true ∧ t.fld Reg.secFwStatus 11 8 = s.fwVerdict ∧ t.nvm = s.nvm))) ∧
    (s.sec.busy = .committing → s.sec.path = some .bar0 → Completes .fwCommitDone s (fun t =>
      t.nvm.fwSlot = padTo (fwLength s.sec.staging) s.sec.staging ∧ t.sec.path = none ∧ t.sec.busy = .idle ∧ t.bit Reg.secFwStatus 3 = true))

/-- Ownership (R624, R625): ENROLL, TRANSFER and LOCK are refused with their ERROR codes (of several, the order is the model's choice: log
entry 53), and otherwise start their change; OWNER_DONE makes it durable, or reports that NVM did not take it, and without a change under way
does nothing. A request with an image present is refused with code 1; TRANSFER takes the new hash of an accepted record, and draws a new
nonce in every case. -/
def Obligations.Ownership : Prop :=
  ∀ (s : State) (env : Env),
    (s.ownerServed = true →
      (s.imagePresent = true → Becomes .ownerEnroll s (s.ownerFail 1) ∧ Becomes (.ownerLock 0xA5) s (s.ownerFail 1)) ∧
      (s.imagePresent = false →
        (s.fuses.ownerLocked = true → Becomes .ownerEnroll s (s.ownerFail 5)) ∧
        (s.fuses.ownerLocked = false → s.nvm.ownerHash ≠ 0 → Becomes .ownerEnroll s (s.ownerFail 3)) ∧
        (s.fuses.ownerLocked = false → s.nvm.ownerHash = 0 → s.ownerRegs = 0 → Becomes .ownerEnroll s (s.ownerFail 2)) ∧
        (s.fuses.ownerLocked = false → s.nvm.ownerHash = 0 → s.ownerRegs ≠ 0 → Completes .ownerEnroll s (fun t =>
          t.sec.owner = some ⟨1, s.ownerRegs⟩ ∧ t.bit Reg.secOwnerStatus 2 = true ∧ t.nvm = s.nvm)) ∧
        (s.nvm.ownerHash = 0 → Becomes (.ownerLock 0xA5) s (s.ownerFail 7)) ∧
        (s.nvm.ownerHash ≠ 0 → Completes (.ownerLock 0xA5) s (fun t => t.sec.owner = some ⟨3, s.nvm.ownerHash⟩ ∧ t.fuses = s.fuses)))) ∧
    ((s.arrive env).ownerServed = true →
      let u := s.arrive env
      let a := s.nat Reg.secXferAddrLo + 2 ^ 32 * s.fld Reg.secXferAddrHi 15 0
      let r := u.host.mem.read (addrIova a) 896
      let readable := isHost a = true ∧ addrIova a + 896 ≤ 2 ^ 44 ∧ u.hostMapped (addrIova a) 896 = true ∧ u.hostClean (addrIova a) 896 = true
      (u.imagePresent = true → Becomes (.ownerTransfer env) s ((u.ownerFail 1).newNonce)) ∧
      (u.imagePresent = false → u.fuses.ownerLocked = true → Becomes (.ownerTransfer env) s ((u.ownerFail 5).newNonce)) ∧
      (u.imagePresent = false → u.fuses.ownerLocked = false → ¬ readable → Becomes (.ownerTransfer env) s ((u.ownerFail 6).newNonce)) ∧
      (u.imagePresent = false → u.fuses.ownerLocked = false → readable →
        (u.recordOk r = true → Completes (.ownerTransfer env) s (fun t => t.sec.owner = some ⟨2, recordHash r⟩ ∧
          t.bit Reg.secOwnerStatus 2 = true ∧ t.sec.nonceNo = s.sec.nonceNo + 1 ∧ t.nvm = s.nvm)) ∧
        (u.recordOk r = false → Becomes (.ownerTransfer env) s ((u.ownerFail 4).newNonce))) ∧
      Completes (.ownerTransfer env) s (fun t => t.sec.nonceNo = s.sec.nonceNo + 1 ∧ t.nvm = s.nvm)) ∧
    (∀ j, s.sec.owner = some j →
      (j.action ≠ 3 → Completes (.ownerDone true) s (fun t => t.nvm.ownerHash = j.hash ∧ t.sec.owner = none ∧ t.fuses = s.fuses ∧
        t.bit Reg.secOwnerStatus 3 = true ∧ t.bit Reg.secOwnerStatus 2 = false)) ∧
      (j.action = 3 → Completes (.ownerDone true) s (fun t => t.fuses.ownerLocked = true ∧ t.nvm.ownerHash = s.nvm.ownerHash ∧ t.sec.owner = none)) ∧
      Completes (.ownerDone false) s (fun t => t.nvm = s.nvm ∧ t.fuses = s.fuses ∧ t.sec.owner = none ∧ t.bit Reg.secOwnerStatus 4 = true ∧
        t.fld Reg.secOwnerStatus 11 8 = 6)) ∧
    (∀ ok, s.sec.owner = none → Becomes (.ownerDone ok) s s)

/-- The SPDM responder (R626–R628): a request that its stage allows is answered over the binding it came by. GET_VERSION begins the
negotiation, the next two carry it on; the others need all three; a request out of order gets ERROR. KEY_EXCHANGE opens at most four
sessions, which FINISH, HEARTBEAT, KEY_UPDATE and END_SESSION serve. The bodies that the manual leaves to the standard are free
(log entries 5 and 8). -/
def Obligations.SpdmResponder : Prop :=
  ∀ (s : State) (b : Nat) (req : List Byte), b < 3 → s.spdmServed b = true →
    let sent := fun (t : State) (code : Nat) => ∃ p1 p2 body, t.out.head? =
      some (.mctp b 0 0x05 ([0x12, BitVec.ofNat 8 code, BitVec.ofNat 8 p1, BitVec.ofNat 8 p2] ++ body))
    Completes (.spdmGetVersion b req) s (fun t => t.sec.spdmStage = 1 ∧ t.out = .mctp b 0 0x05 [0x10, 0x04, 0, 0, 0, 1, 0, 0x12] :: s.out) ∧
    (1 ≤ s.sec.spdmStage → Completes (.spdmGetCapabilities b req) s (fun t => t.sec.spdmStage = 2 ∧ sent t 0x61)) ∧
    (2 ≤ s.sec.spdmStage → Completes (.spdmNegotiateAlgorithms b req) s (fun t => t.sec.spdmStage = 3 ∧ sent t 0x63)) ∧
    (s.sec.spdmStage < 3 → Becomes (.spdmGetDigests b req) s (s.spdmError b 4) ∧ Becomes (.spdmKeyExchange b req) s (s.spdmError b 4)) ∧
    (3 ≤ s.sec.spdmStage →
      Becomes (.spdmGetDigests b req) s (s.spdmSend b 0x01 0 1 chainDigest) ∧
      (∀ off len, off ≤ Config.certChain.length → Completes (.spdmGetCertificate b 0 off len) s (fun t => sent t 0x02 ∧ t.regs = s.regs)) ∧
      (lbyte req 2 = 0 → Completes (.spdmChallenge b req) s (fun t => sent t 0x03 ∧ t.sec.sessions = s.sec.sessions)) ∧
      (∀ i, i = 0 ∨ i = 0xFF ∨ i ∈ s.measurementIndices → Completes (.spdmGetMeasurements b i req) s (fun t => sent t 0x60)) ∧
      (lbyte req 3 = 0 → s.sec.sessions.length < 4 → Completes (.spdmKeyExchange b req) s (fun t => sent t 0x64 ∧
        t.sec.sessions = s.sec.sessions ++ [⟨s.sec.nextSession, b, false, 0⟩] ∧ t.sec.nextSession = s.sec.nextSession + 1)) ∧
      (lbyte req 3 = 0 → 4 ≤ s.sec.sessions.length → Becomes (.spdmKeyExchange b req) s (s.spdmError b 0x0A))) ∧
    (∀ id x, s.session b id = some x →
      (x.finished = false → Becomes (.spdmFinish b id req) s ((s.setSession { x with finished := true }).spdmSend b 0x65 0 0 [])) ∧
      (x.finished = true →
        Becomes (.spdmHeartbeat b id) s (s.spdmSend b 0x68 0 0 []) ∧
        Becomes (.spdmKeyUpdate b id) s ((s.setSession { x with keyGen := x.keyGen + 1 }).spdmSend b 0x69 0 0 []) ∧
        Completes (.spdmEndSession b id) s (fun t => t.sec.sessions = s.sec.sessions.filter (fun y => decide (y.id ≠ x.id)) ∧ sent t 0x6C))) ∧
    (∀ id, s.session b id = none → Becomes (.spdmFinish b id req) s (s.spdmError b 2) ∧ Becomes (.spdmHeartbeat b id) s (s.spdmError b 2))

/-! ### Management messages -/

/-- The almanac's freezes (R649–R652, R657). FREEZE with its key, and ALM_FREEZE over MCTP, begin a freeze of the ring where none runs, with
their entry recorded first, and are ignored while one runs; ALM_FREEZE is answered either way. A freeze that has completed leaves its record in
NVM, with the next sequence, and is over; one for which every record was held leaves none. ALM_READ answers the entries that are there, and
others with ST_BAD_DESCRIPTOR; HEAT_REPORT answers the values of the last window, free values before the first has ended. In recovery mode
ALM_FREEZE and HEAT_REPORT are answered with ST_NO_IMAGE. -/
def Obligations.AlmanacCommands : Prop :=
  ∀ s : State,
    let frozen := fun (origin : Nat) (t : State) => (∃ f, t.alm.freeze = some f ∧ f.origin = origin ∧ f.record = s.nextRecord ∧
      f.entries = t.alm.entries) ∧ t.alm.count = s.alm.count + 1 ∧ t.cmds = s.cmds ∧ t.mem = s.mem ∧ t.image = s.image
    (s.barsOpen 0 = true → s.recovery = false →
      Becomes (.almFreeze 0xA5) s (s.requestFreeze 1) ∧
      (s.alm.freeze = none → 0 < s.stage → Completes (.almFreeze 0xA5) s (frozen 1)) ∧
      (s.alm.freeze.isSome = true → Becomes (.almFreeze 0xA5) s s)) ∧
    (∀ key, key < 256 → key ≠ 0xA5 → Becomes (.almFreeze key) s s) ∧
    (∀ f k, s.alm.freeze = some f → f.record = some k → f.origin ≠ 0 → s.alm.queue = [] →
      Completes .almFreezeComplete s (fun t => t.alm.freeze = none ∧ t.nvm.frozenSeq = f.seq ∧ t.nvm.frozenLast = some k ∧
        (SMap.get (fun _ => none) t.nvm.frozen k).map (fun r => r.entries) = some f.entries ∧ t.alm.ring = s.alm.ring ∧ t.alm.count = s.alm.count)) ∧
    (∀ f, s.alm.freeze = some f → f.record = none → f.origin ≠ 0 → s.alm.queue = [] →
      Becomes .almFreezeComplete s { s with alm := { s.alm with freeze := none } }) ∧
    (s.alm.freeze = none → Becomes .almFreezeComplete s s) ∧
    (∀ b inst, b < 2 → s.mctpServed b = true →
      (s.recovery = true → Becomes (.mctpAlmFreeze b inst) s (s.vendorReply b 0x03 inst St.noImage []) ∧
        Becomes (.mctpHeatReport b inst) s (s.vendorReply b 0x11 inst St.noImage [])) ∧
      (s.recovery = false →
        Becomes (.mctpAlmFreeze b inst) s ((s.requestFreeze 2).vendorReply b 0x03 inst St.ok []) ∧
        (s.alm.freeze = none → 0 < s.stage → Completes (.mctpAlmFreeze b inst) s (frozen 2)) ∧
        (s.power.report ≠ [] → Becomes (.mctpHeatReport b inst) s (s.vendorReply b 0x11 inst St.ok s.power.report)) ∧
        (s.power.report = [] → Becomes (.mctpHeatReport b inst) s (s.fresh.vendorReply b 0x11 inst St.ok (s.freeBytes 48))) ∧
        (∀ source first count es, s.almEntries source first count = some es → Becomes (.mctpAlmRead b inst source first count) s
          (s.vendorReply b 0x02 inst St.ok ([BitVec.ofNat 8 es.length] ++ List.replicate 7 0 ++ es.flatMap (fun e => leBytes 32 e.toNat)))) ∧
        (∀ source first count, s.almEntries source first count = none → Becomes (.mctpAlmRead b inst source first count) s
          (s.vendorReply b 0x02 inst St.badDescriptor (List.replicate 8 0)))))

/-- MCTP control (R654, R655, R684): SET_ENDPOINT_ID gives a binding its EID, unless it is 0–7 or 255, and every control request of a
binding that is up is answered. MAILBOX over MCTP (R657) takes its turn in the mailbox order when the module is ready: behind a STORE that
runs it waits; with nothing ahead of it GET and a SET that is in range are done and answered at once, the MBX registers being left as they are;
before the module is ready it is answered with ST_NO_IMAGE. -/
def Obligations.ManagementControl : Prop :=
  ∀ (s : State) (b : Nat), b < 2 →
    (∀ src eid, s.bindingUp b = true → src < 256 → 8 ≤ eid → eid < 255 → Completes (.mctpSetEid b src eid) s (fun t =>
      t.eid b = eid ∧ (b = 0 → t.mctp.assignerI3c = src) ∧ t.eid (1 - b) = s.eid (1 - b) ∧
      t.out = .mctp b 0 0x00 [0, 1, 0, 0, BitVec.ofNat 8 eid, 0] :: s.out)) ∧
    (∀ src eid, s.bindingUp b = true → src < 256 → eid < 256 → (eid < 8 ∨ eid = 255) → s.mctp.i3cAddr ≠ 0 →
      Becomes (.mctpSetEid b src eid) s (s.ctrlReply b 0x01 2 [])) ∧
    (s.mctpUp b = true →
      Becomes (.mctpGetEid b) s (s.emit (.mctp b 0 0x00 [0, 2, 0, BitVec.ofNat 8 (s.eid b), 0, 0])) ∧
      Becomes (.mctpGetUuid b) s (s.ctrlReply b 0x03 0 (beBytes 16 Config.uuid.toNat)) ∧
      (∀ type, type ∈ [0x00, 0x01, 0x05, 0x7E, 0xFF] →
        Becomes (.mctpGetVersion b type) s (s.ctrlReply b 0x04 0 (Config.response 0 4 [BitVec.ofNat 8 type]))) ∧
      (∀ type, type < 256 → type ∉ [0x00, 0x01, 0x05, 0x7E, 0xFF] → Becomes (.mctpGetVersion b type) s (s.ctrlReply b 0x04 0x80 [])) ∧
      Becomes (.mctpGetTypes b) s (s.emit (.mctp b 0 0x00 [0, 5, 0, 4, 0x00, 0x01, 0x05, 0x7E])) ∧
      Becomes (.mctpGetVendor b) s (s.ctrlReply b 0x06 0 ([0xFF, 0] ++ beBytes 2 Config.pciVendor.toNat))) ∧
    (∀ inst op a0 a1 a2, s.mctpServed b = true → s.recovery = false →
      let q : MbxReq := ⟨some (b, inst), op % 256, a0 % 2 ^ 32, a1 % 2 ^ 32, a2 % 2 ^ 32⟩
      (s.ready = true →
        (s.mbx.running.isSome = true → Becomes (.mctpMailbox b inst op a0 a1 a2) s
          { s with mbx := { s.mbx with queue := s.mbx.queue ++ [q] } }) ∧
        (s.mbx.running = none → s.mbx.queue = [] →
          (op % 256 ≠ 0x03 → Becomes (.mctpMailbox b inst op a0 a1 a2) s ((s.mbxDo q).2.mbxAnswer q (s.mbxDo q).1)) ∧
          (∀ v, op % 256 = 0x02 → (s.mbxDo q).1 = (St.ok, some v) → Becomes (.mctpMailbox b inst op a0 a1 a2) s
            (s.vendorReply b 0x01 inst St.ok (leBytes 4 v))) ∧
          (∀ r, op % 256 = 0x01 → s.setting? (q.a0 % 65536) = some r → r.2.1 ≤ q.a1 → q.a1 ≤ r.2.2.1 → q.a0 % 65536 ≠ Key.minImageSerial →
            Completes (.mctpMailbox b inst op a0 a1 a2) s (fun t => t.shadowVal (q.a0 % 65536) = q.a1 ∧ t.sets.durable = s.sets.durable ∧
              t.reg Reg.mbxStatus = s.reg Reg.mbxStatus ∧ t.out.length = s.out.length + 1)))) ∧
      (s.ready = false → Becomes (.mctpMailbox b inst op a0 a1 a2) s (s.vendorReply b 0x01 inst St.noImage [])))

/-- PLDM for monitoring (R661): a served request is answered, and changes nothing else but the event receiver that SET_EVENT_RECEIVER
names. GET_PLDM_COMMANDS answers the 256-bit mask of a type's commands. A sensor that is not among the 34 has no reading, and its request is
refused. The bodies left to the standard are free. -/
def Obligations.PldmMonitoring : Prop :=
  ∀ (s : State) (b inst : Nat), b < 2 → s.mctpServed b = true → s.recovery = false →
    Becomes (.pldmGetTid b inst) s (s.pldmSend b false inst 0 0x02 [0, BitVec.ofNat 8 s.mctp.tid]) ∧
    Becomes (.pldmGetTypes b inst) s (s.pldmSend b false inst 0 0x04 [0, 0x25, 0, 0, 0, 0, 0, 0, 0]) ∧
    (∀ type, [0, 2, 5].contains type = true →
      Becomes (.pldmGetVersion b inst type) s (s.pldmSend b false inst 0 0x03 (0 :: Config.response 256 3 [BitVec.ofNat 8 type])) ∧
      Becomes (.pldmGetCommands b inst type) s (s.pldmSend b false inst 0 0x05 (0 :: leBytes 32 (if type = 0 then 0x3C else if type = 2 then
        0x300000000000000020010 else 0x2C190006)))) ∧
    (∀ type, [0, 2, 5].contains type = false → Becomes (.pldmGetVersion b inst type) s (s.pldmSend b false inst 0 0x03 [0x83]) ∧
      Becomes (.pldmGetCommands b inst type) s (s.pldmSend b false inst 0 0x05 [0x83])) ∧
    Becomes (.pldmGetPdrInfo b inst) s (s.pldmSend b false inst 2 0x50 (0 :: Config.response 258 0x50 [])) ∧
    (∀ record, Becomes (.pldmGetPdr b inst record) s (s.pldmSend b false inst 2 0x51 (0 :: Config.response 258 0x51 (leBytes 4 record)))) ∧
    (∀ sensor v, s.sensorReading sensor = some v →
      Becomes (.pldmGetSensor b inst sensor) s (s.pldmSend b false inst 2 0x11 ([0, 4, 0, 0, 0, 0, 0] ++ leBytes 4 v))) ∧
    (∀ sensor, s.sensorReading sensor = none → Becomes (.pldmGetSensor b inst sensor) s (s.pldmSend b false inst 2 0x11 [0x80])) ∧
    (∀ sensor, s.sensorReading sensor = none ↔ (sensor = 0 ∨ 34 < sensor)) ∧
    (∀ eid, Becomes (.pldmSetReceiver b inst eid) s
      ({ s with mctp := { s.mctp with receiver := some (b, eid) } }.pldmSend b false inst 2 0x04 [0]))

/-- PLDM firmware update (R622, R623, R662): REQUEST_UPDATE opens an update where none is open, and otherwise changes nothing;
PASS_COMPONENT_TABLE and UPDATE_COMPONENT carry it on and the module asks for the first bytes; each block is staged until the last, which
starts the verification; ACTIVATE_FIRMWARE asks for a module reset; GET_STATUS answers; CANCEL_UPDATE discards it. -/
def Obligations.PldmUpdates : Prop :=
  ∀ (s : State) (b inst : Nat), b < 2 → s.mctpServed b = true →
    Becomes (.pldmQueryDevice b inst) s (s.pldmSend b false inst 5 0x01 (0 :: Config.response 261 0x01 [])) ∧
    Becomes (.pldmGetFwParams b inst) s (s.pldmSend b false inst 5 0x02
      (0 :: Config.response 261 0x02 (leBytes 4 (s.nat Reg.idFwVersion) ++ leBytes 4 (s.nat Reg.secFwSlotVersion)))) ∧
    Completes (.pldmGetStatus b inst) s (fun t => { t with out := s.out } = s ∧ t.out.length = s.out.length + 1) ∧
    (s.sec.path = none → Completes (.pldmRequestUpdate b inst) s (fun t => t.sec.path = some .pldm ∧ t.sec.staging = [] ∧
      t.sec.pldm = ⟨1, 0, 0, b⟩ ∧ t.nvm = s.nvm)) ∧
    (s.sec.path ≠ none → Completes (.pldmRequestUpdate b inst) s (fun t => { t with out := s.out } = s)) ∧
    (s.sec.path = some .pldm →
      (s.sec.pldm.state = 1 → Completes (.pldmPassComponents b inst) s (fun t => t.sec.pldm = { s.sec.pldm with state := 2 } ∧
        t.sec.staging = s.sec.staging ∧ t.nvm = s.nvm)) ∧
      (∀ length, s.sec.pldm.state = 2 → 0 < length → length ≤ 4194304 → Completes (.pldmUpdateComponent b inst length) s (fun t =>
        t.sec.pldm = ⟨3, 0, length, b⟩ ∧ t.sec.staging = [] ∧ t.out.length = s.out.length + 2 ∧ t.nvm = s.nvm)) ∧
      (∀ data, s.sec.pldm.state = 3 → s.bindingUp s.sec.pldm.binding = true →
        s.sec.pldm.offset + (data.take (min 1024 (s.sec.pldm.length - s.sec.pldm.offset))).length < s.sec.pldm.length →
        Completes (.pldmFirmwareData data) s (fun t => t.sec.pldm.state = 3 ∧ t.nvm = s.nvm ∧
          t.sec.pldm.offset = s.sec.pldm.offset + (data.take (min 1024 (s.sec.pldm.length - s.sec.pldm.offset))).length)) ∧
      (∀ data, s.sec.pldm.state = 3 → s.bindingUp s.sec.pldm.binding = true →
        s.sec.pldm.length ≤ s.sec.pldm.offset + (data.take (min 1024 (s.sec.pldm.length - s.sec.pldm.offset))).length →
        Completes (.pldmFirmwareData data) s (fun t => t.sec.pldm.state = 4 ∧ t.sec.busy = .verifying ∧ t.nvm = s.nvm)) ∧
      (s.sec.pldm.state = 7 → Completes (.pldmActivate b inst) s (fun t => ResetRuns t 5 0 ∧ t.sec.pldm.state = 6 ∧
        ((∀ j ∈ s.resets.jobs, j.level < 5) → ResetBegins s t 5 0))) ∧
      (s.sec.pldm.state ∈ [1, 2, 3, 4, 6, 7] → Completes (.pldmCancel b inst) s (fun t => t.sec.path = none ∧ t.sec.staging = [] ∧
        t.sec.pldm = ⟨0, 0, 0, 0⟩ ∧ t.nvm = s.nvm))) ∧
    (s.sec.path ≠ some .pldm →
      Becomes (.pldmPassComponents b inst) s (s.pldmSend b false inst 5 0x13 [0x80]) ∧
      Becomes (.pldmActivate b inst) s (s.pldmSend b false inst 5 0x1A [0x80]) ∧
      Becomes (.pldmCancel b inst) s (s.pldmSend b false inst 5 0x1D [0x80]) ∧
      (∀ data, Becomes (.pldmFirmwareData data) s s))

/-! ### Power and clocks -/

/-- The 48 V feeds (R485, R486, R675). A feed whose voltage leaves the limits of R485 is lost, with its event and alert, and one that was
charging is absent again; a lost feed rejoins in range; an absent one that rises charges and then connects; loss of the last feed ends in
hold-up, with the almanac's entry.
Phases and samples (R490, R501, R502). EV_PWR_PHASE_FAIL isolates a phase that had not failed and enters its event, and the third failed
phase holds the cluster; a phase that had failed already changes nothing. POWER_SAMPLE adds its reading to the sums of the 10 µs and 10 ms
windows, and the sample that fills the 10 ms window ends it with its average. -/
def Obligations.FeedsAndPhases : Prop :=
  (∀ (s : State) (feed mv : Nat), feed < 2 →
     (feedClass mv = 2 → (s.feed feed = .inRange ∨ s.feed feed = .marginal) → Completes (.feedLost feed mv) s (fun t =>
       t.feed feed = .lost ∧ t.feed (1 - feed) = s.feed (1 - feed) ∧ Alert.feed feed ∈ t.pins.alerts ∧ t.mem = s.mem)) ∧
     (feedClass mv = 2 → s.feed feed = .charging → Becomes (.feedLost feed mv) s (s.setFeed feed .absent)) ∧
     (feedClass mv ≠ 2 → Becomes (.feedLost feed mv) s s) ∧
     (s.feed feed = .lost → s.powered = true → feedClass mv = 0 → Completes (.feedRejoin feed mv) s (fun t =>
       t.feed feed = .inRange ∧ t.feed (1 - feed) = s.feed (1 - feed) ∧ Alert.feed feed ∉ t.pins.alerts)) ∧
     (s.feed feed = .absent → s.powered = true → 3800 ≤ mv → mv ≤ 6200 → Becomes (.feedRise feed mv) s (s.setFeed feed .charging)) ∧
     (s.feed feed = .charging → Becomes (.hotSwapConnect feed) s (s.setFeed feed .inRange)) ∧
     (s.feed feed ≠ .charging → Becomes (.hotSwapConnect feed) s s) ∧
     (s.powered = false → s.power.holdup = false → Completes .pwrHoldup s (fun t => t.power.holdup = true ∧ t.halted = true ∧
       t.image = s.image ∧ t.cmds = s.cmds)) ∧
     ((s.powered = true ∨ s.power.holdup = true) → Becomes .pwrHoldup s s)) ∧
  (∀ s : State,
     (∀ cluster phase, cluster < 32 → phase < 32 →
       ((s.failedPhases cluster).testBit phase = true → Becomes (.pwrPhaseFail cluster phase) s s) ∧
       ((s.failedPhases cluster).testBit phase = false →
         let t := (s.isolatePhase cluster phase).event 0x0703 (Src.cluster cluster) none
           (dataOf [(0, phase), (1, (s.isolatePhase cluster phase).phasesFailed cluster)])
         (t.phasesFailed cluster < 3 → Becomes (.pwrPhaseFail cluster phase) s t) ∧
         (3 ≤ t.phasesFailed cluster → t.clusterHeld cluster = false → Becomes (.pwrPhaseFail cluster phase) s (t.holdCluster cluster)) ∧
         Completes (.pwrPhaseFail cluster phase) s (fun x => (x.failedPhases cluster).testBit phase = true ∧
           (3 ≤ t.phasesFailed cluster → x.clusterHeld cluster = true)))) ∧
     (∀ r, Becomes (.powerSample r) s (s.takeSample r) ∧
       (s.power.winN + 1 < 10000 → Completes (.powerSample r) s (fun t => t.power.sampleNo = s.power.sampleNo + 1 ∧
         t.power.winSum = s.power.winSum + inputPower r ∧ t.power.winN = s.power.winN + 1 ∧ t.power.avg = s.power.avg ∧
         t.power.last10 = (inputPower r :: s.power.last10).take 10 ∧ t.mem = s.mem ∧ t.image = s.image)) ∧
       (9999 ≤ s.power.winN → Completes (.powerSample r) s (fun t => t.power.sampleNo = s.power.sampleNo + 1 ∧
         t.power.winSum = 0 ∧ t.power.winN = 0 ∧ t.power.avg = (s.power.winSum + inputPower r) / (s.power.winN + 1) ∧
         t.power.prevAvg = s.power.avg ∧ t.mem = s.mem ∧ t.image = s.image))))

/-- The ramp of a cluster (R499, R500). START of usable cores that stand idle joins the cluster's waiting start and is judged; with none it
does nothing. A start that waits is judged again at each RETRY, and admitted by force after 4 µs with its cores held at 300 MHz; an admitted
start gains density until 16, where one admitted at its target ends; one admitted by force then climbs to its target in four steps and ends.
PLL states and ceilings (R495, R498). A half idle for its time goes to standby, and one in standby for its time to sleep, with
ASLEEP_MS 0 never. CEILING_UPDATE: a margin below 2% lowers the ceiling by one step of 5 MHz, at 300 MHz it marks the core; a margin above
5% for 24 hours raises it below FACTORY and ABFT_CAP; any other ends the count of hours. -/
def Obligations.RampsAndClocks : Prop :=
  (∀ (s : State) (cluster : Nat), cluster < 32 →
     (∀ mask, mask < 256 →
       let starts := fun i => mask.testBit i = true ∧ s.coreUsable (8 * cluster + i) = true ∧ s.arrayCold (8 * cluster + i) = true
       (s.halted = false → s.rampOf cluster = none → (∃ i, i < 8 ∧ starts i) →
         Completes (.rampStart cluster mask) s (fun t => ∃ r, t.rampOf cluster = some r ∧ r.since = s.tick ∧ r.density = 0 ∧ r.raised = 0 ∧
           r.forced = false ∧ ∀ i, i < 8 → (r.mask.testBit i = true ↔ starts i))) ∧
       ((s.halted = true ∨ ∀ i, i < 8 → ¬ starts i) → Becomes (.rampStart cluster mask) s s)) ∧
     (∀ r, s.rampOf cluster = some r →
       (r.admitted = false → Becomes (.rampRetry cluster) s
         ((s.bumpFld Reg.clkRamp 15 0 1).setRamp cluster (some { r with admitted := s.rampFits cluster r }))) ∧
       (r.admitted = true → Becomes (.rampRetry cluster) s s ∧ Becomes (.rampForcedAdmit cluster) s s) ∧
       (r.admitted = false → s.tick < r.since + 100 → Becomes (.rampForcedAdmit cluster) s s) ∧
       (r.admitted = false → r.since + 100 ≤ s.tick → Completes (.rampForcedAdmit cluster) s (fun t =>
         t.rampOf cluster = some { r with admitted := true, forced := true } ∧
         (∀ n ∈ rampCores cluster r, SMap.get (fun _ => none) t.clocks.rampTarget n = some 300) ∧ t.mem = s.mem)) ∧
       (r.admitted = true → r.density < 15 → Completes (.rampDensityStep cluster) s (fun t =>
         t.rampOf cluster = some { r with density := r.density + 1 } ∧ t.regs = s.regs ∧ t.cmds = s.cmds)) ∧
       (r.admitted = true → r.density = 15 → r.forced = false → Becomes (.rampDensityStep cluster) s (s.rampEnd cluster r) ∧
         Completes (.rampDensityStep cluster) s (fun t => t.rampOf cluster = none ∧ t.regs = s.regs)) ∧
       (r.admitted = false → Becomes (.rampDensityStep cluster) s s) ∧
       (r.forced = true → 16 ≤ r.density → r.raised < 3 → Completes (.rampTargetRaise cluster) s (fun t =>
         t.rampOf cluster = some { r with raised := r.raised + 1 } ∧ t.regs = s.regs)) ∧
       (r.forced = true → 16 ≤ r.density → 3 ≤ r.raised → Completes (.rampTargetRaise cluster) s (fun t => t.rampOf cluster = none ∧
         ∀ n ∈ rampCores cluster r, SMap.get (fun _ => none) t.clocks.rampTarget n = none)) ∧
       ((r.forced = false ∨ r.density < 16) → Becomes (.rampTargetRaise cluster) s s)) ∧
     (s.rampOf cluster = none → Becomes (.rampRetry cluster) s s ∧ Becomes (.rampForcedAdmit cluster) s s ∧
       Becomes (.rampDensityStep cluster) s s ∧ Becomes (.rampTargetRaise cluster) s s)) ∧
  (∀ s : State,
     (∀ half, half < 8 →
       let due := s.half half = .run ∧ s.holdRun half = false ∧ s.halfBusy half = false ∧ s.halfFill half = false ∧
         s.halfIdleSince half + 25 * s.fld Reg.clkIdle 9 0 ≤ s.tick
       (due → Becomes (.halfStandby half) s (s.setHalf half .standby)) ∧
       (¬ due → Becomes (.halfStandby half) s s) ∧
       (s.half half = .standby → s.fld Reg.clkIdle 25 16 ≠ 0 →
         SMap.get (fun _ => 0) s.clocks.idle half + 25000 * s.fld Reg.clkIdle 25 16 ≤ s.tick →
         Becomes (.halfAsleep half) s (s.setHalf half .asleep)) ∧
       (s.fld Reg.clkIdle 25 16 = 0 → Becomes (.halfAsleep half) s s)) ∧
     (∀ core margin, core < 256 →
       (margin < 20 → 60 < s.ceiling core → Completes (.ceilingUpdate core margin) s (fun t => t.ceiling core = s.ceiling core - 1 ∧
         SMap.get (fun _ => 0) t.nvm.ceilHours core = 0)) ∧
       (margin < 20 → s.ceiling core ≤ 60 → Completes (.ceilingUpdate core margin) s (fun t => t.bit (Reg.clkCore core) 30 = true ∧
         t.ceiling core = s.ceiling core)) ∧
       (50 < margin → SMap.get (fun _ => 0) s.nvm.ceilHours core + 1 < 24 → Completes (.ceilingUpdate core margin) s (fun t =>
         t.ceiling core = s.ceiling core ∧ SMap.get (fun _ => 0) t.nvm.ceilHours core = SMap.get (fun _ => 0) s.nvm.ceilHours core + 1)) ∧
       (50 < margin → 23 ≤ SMap.get (fun _ => 0) s.nvm.ceilHours core → s.ceiling core < min (s.factory core) (s.abftCap core) →
         Completes (.ceilingUpdate core margin) s (fun t => t.ceiling core = s.ceiling core + 1)) ∧
       (20 ≤ margin → margin ≤ 50 → Completes (.ceilingUpdate core margin) s (fun t =>
         SMap.get (fun _ => 0) t.nvm.ceilHours core = 0 ∧ t.ceiling core = s.ceiling core ∧ t.regs = s.regs))))

/-- Grants and the heat meter (R503–R506, R512, R513). POWER_GRANT over MCTP is applied within its bounds, with its lease, and answered; on a
master it is the group's grant; a lease above 60,000 ms is refused, and in recovery mode the answer is ST_NO_IMAGE. EV_GRANT_LAPSE at the
lease's end returns to the default, and before it does nothing. SLACK_WINDOW_END numbers its windows and shows the slack; a master keeps its
own, and a member sends it to the master. GRANT_REDISTRIBUTION outside a group does nothing, and on a master with a group grant gives a new
serial, the grants being scaled to the group grant. HEAT_METER_UPDATE adds one window to the sums; EV_HEAT_MISMATCH judges only a whole
minute. -/
def Obligations.GrantsAndHeat : Prop :=
  ∀ s : State,
    (∀ b inst watts lease, b < 2 → watts < 2 ^ 32 → lease < 2 ^ 16 → s.mctpServed b = true →
      (s.recovery = true → Becomes (.powerGrant b inst watts lease) s (s.vendorReply b 0x10 inst St.noImage [])) ∧
      (s.recovery = false → 60000 < lease → Becomes (.powerGrant b inst watts lease) s (s.vendorReply b 0x10 inst St.badDescriptor [])) ∧
      (s.recovery = false → lease ≤ 60000 → s.isMaster = false →
        let t := (s.applyGrant watts lease 1).showCap
        Becomes (.powerGrant b inst watts lease) s
          (t.vendorReply b 0x10 inst St.ok (leBytes 4 t.grantW ++ [BitVec.ofNat 8 (b2n (t.bit Reg.pwrStatus 7))])) ∧
        Completes (.powerGrant b inst watts lease) s (fun u => u.grantW = max 500 (min watts (powerLimit s.variant)) ∧
          u.fld Reg.pwrStatus 6 4 = 1 ∧ u.power.leaseEnd = (if lease = 0 then none else some (s.tick + 25000 * lease)) ∧
          u.out.length = s.out.length + 1 ∧ u.cmds = s.cmds)) ∧
      (s.recovery = false → lease ≤ 60000 → s.isMaster = true → Completes (.powerGrant b inst watts lease) s (fun u =>
        u.power = { s.power with groupGrant := some watts } ∧ u.grantW = s.grantW ∧ u.out.length = s.out.length + 1))) ∧
    (∀ t, s.power.leaseEnd = some t →
      (t ≤ s.tick →
        Becomes .grantLapse s (((s.event 0x0707 Src.module none (dataOf [(0, s.grantW), (4, s.inforce Key.grantDefault)])).defaultGrant).showCap) ∧
        Completes .grantLapse s (fun u => u.power.leaseEnd = none ∧ u.fld Reg.pwrStatus 6 4 = 0 ∧
          u.grantW = max 500 (min (s.inforce Key.grantDefault) (powerLimit s.variant)))) ∧
      (s.tick < t → Becomes .grantLapse s s)) ∧
    (s.power.leaseEnd = none → Becomes .grantLapse s s) ∧
    (∀ slack, slack < 65536 →
      let t : State := { s.setNat Reg.pwrSlack slack with power := { s.power with window := (s.power.window + 1) % 2 ^ 32 } }
      ((s.group? = none ∨ s.inGroup = false) → Becomes (.slackWindowEnd slack) s t) ∧
      (∀ g, s.group? = some g → s.inGroup = true → s.isMaster = true →
        Becomes (.slackWindowEnd slack) s (t.setSlack (s.fld Reg.imgMember 3 0) slack)) ∧
      (∀ g, s.group? = some g → s.inGroup = true → s.isMaster = false →
        Becomes (.slackWindowEnd slack) s (t.sendSeq (g.devices.getD g.master 0) 0x61 0 0
          (beBytes 2 slack ++ [0, 0] ++ beBytes 4 s.power.window ++ beBytes 4 (s.fld Reg.pwrInW 15 0) ++ beBytes 4 s.grantW) [] none))) ∧
    ((s.group? = none ∨ s.power.groupGrant = none ∨ s.isMaster = false) → Becomes .grantRedistribution s s) ∧
    (∀ g total, s.group? = some g → s.power.groupGrant = some total → s.isMaster = true → Completes .grantRedistribution s (fun t =>
      t.power.grantSerial = (s.power.grantSerial + 1) % 2 ^ 32 ∧ t.power.groupGrant = some total ∧ t.mem = s.mem ∧
      ((∀ m, m < g.members → SMap.get (fun _ => none) s.power.slackRep m = none) → ∀ m, m < g.members →
        SMap.get (fun _ => 0) t.power.memberGrant m =
          (scaleGrants total ((List.range g.members).map (SMap.get (fun _ => 0) s.power.memberGrant))).getD m 0))) ∧
    Completes .heatMeterUpdate s (fun t => t.power.sums = s.power.sums + 1 ∧ t.power.heatSum = s.power.heatSum + s.heatNum ∧
      t.power.inSum = s.power.inSum + s.power.avg ∧ t.power.report ≠ [] ∧ t.cmds = s.cmds) ∧
    (s.power.sums < 6000 → Becomes .heatMismatch s s) ∧
    (6000 ≤ s.power.sums → Completes .heatMismatch s (fun t => t.power.sums = 0 ∧ t.power.heatSum = 0 ∧ t.power.inSum = 0 ∧ t.cnts = s.cnts))

/-- The scaling of member grants to a group grant (R506): it keeps the number of members; grants that already sum to it stay; and
otherwise the new ones sum to it. -/
def Obligations.GrantsScale : Prop :=
  ∀ (total : Nat) (gs : List Nat), gs ≠ [] →
    (scaleGrants total gs).length = gs.length ∧ (scaleGrants total gs).foldl (· + ·) 0 = total ∧
    (gs.foldl (· + ·) 0 = total → scaleGrants total gs = gs)

/-! ### Heat and coolant -/

/-- Thermal control (R522–R531, R541). THERMAL_SAMPLE takes BD's readings and shows those of the core it carries. THERMAL_STEP: a hot usable
core takes a step and a cool one gives one back, and one in between stays; a half most of whose clocked cores are hot takes one. MEM_DUTY_STEP:
a hot memory layer's duty falls, down to 1, and a cool one's rises, up to 4. THERMAL_MODEL_UPDATE models every layer's temperature from its
outlet and the powers given, and changes nothing else but the watches. EV_THM_MODEL, EV_THM_SUSPECT and MODEL_RELEASE follow the times of
R527, and before them do nothing.
Coolant and bond wear (R533–R538, R541). COOLANT_SAMPLE shows the readings of its levels; FLOW_LIMIT_UPDATE puts the limit in force;
OUTLET_REDUCTION_STEP grows the reduction by 50 W while an outlet has been hot for 100 ms, and takes it back by 50 W while all are cool;
EV_CLT_RESTART ends the flow stop when the conditions have held for 2 s. BOND_WEAR_SAMPLE takes in every layer's temperature, the first as
the start of its turning points; BOND_WEAR_WRITE makes the indices durable. -/
def Obligations.HeatAndCoolant : Prop :=
  (∀ s : State,
     (∀ r, Completes (.thermalSample r) s (fun t => t.thermal.bd = r.bd.take 8 ∧ t.image = s.image ∧ t.sets = s.sets)) ∧
     (∀ r n d q, n < 256 → r.cores = [(n, d, q)] → Completes (.thermalSample r) s (fun t =>
       t.fld (Reg.thmCoreT n) 11 0 = min 4095 d ∧ t.fld (Reg.thmCoreT n) 27 16 = min 4095 q)) ∧
     (∀ n, n < 256 →
       (tHot ≤ s.fld (Reg.thmCore n) 11 0 → s.coreUsable n = true → Becomes (.thermalStep false n) s (s.coreStep n) ∧
         Completes (.thermalStep false n) s (fun t => t.fld (Reg.thmCore n) 23 20 = min (s.fld (Reg.thmCore n) 23 20 + 1) 15 ∧
           t.bit Reg.thmEvent 3 = true ∧ t.mem = s.mem)) ∧
       (s.fld (Reg.thmCore n) 11 0 ≤ tCool → Becomes (.thermalStep false n) s
         ((s.settleFill n).setFld (Reg.thmCore n) 23 20 (s.fld (Reg.thmCore n) 23 20 - 1))) ∧
       (tCool < s.fld (Reg.thmCore n) 11 0 → s.fld (Reg.thmCore n) 11 0 < tHot → Becomes (.thermalStep false n) s s)) ∧
     (∀ h, h < 8 →
       let on := ((List.range 32).map (fun i => 32 * h + i)).filter s.clocked
       on.length < 2 * on.countP (fun c => decide (tHot ≤ s.fld (Reg.thmCore c) 11 0)) → Completes (.thermalStep true h) s (fun t =>
         t.fld (Reg.thmHalf h) 3 0 = min (s.fld (Reg.thmHalf h) 3 0 + 1) 15 ∧ t.bit (Reg.thmHalf h) 16 = true ∧
         t.bit Reg.thmEvent 3 = true ∧ t.mem = s.mem)) ∧
     (∀ ml, ml < 8 →
       (tMemHot ≤ s.fld (Reg.thmLayer (memLayer ml)) 11 0 → 1 < s.fld (Reg.thmMemDuty ml) 2 0 → Completes (.memDutyStep ml) s (fun t =>
         t.fld (Reg.thmMemDuty ml) 2 0 = s.fld (Reg.thmMemDuty ml) 2 0 - 1 ∧ t.bit Reg.thmEvent 4 = true ∧ t.mem = s.mem ∧
         t.nbus = s.nbus ∧ t.image = s.image)) ∧
       (s.fld (Reg.thmLayer (memLayer ml)) 11 0 ≤ tMemCool → Completes (.memDutyStep ml) s (fun t =>
         t.fld (Reg.thmMemDuty ml) 2 0 = min 4 (s.fld (Reg.thmMemDuty ml) 2 0 + 1) ∧ t.cmds = s.cmds))) ∧
     (∀ watts, Completes (.thermalModelUpdate watts) s (fun t =>
       { t with regs := s.regs } = { s with thermal := { s.thermal with watch := t.thermal.watch } } ∧
       ∀ l, l < 13 → t.modelT l = min 4095 (s.fld (Reg.cltTOut (levelOfLayer l)) 11 0 + SMap.get (fun _ => 0) s.fuses.theta l * watts.getD l 0 +
         (if l ≠ 0 ∧ l % 3 = 0 then SMap.get (fun _ => 0) s.fuses.theta (l - 1) * watts.getD (l - 1) 0 else 0)))) ∧
     (∀ l t0, l < 13 →
       ((s.watch l).excess = some t0 → t0 + 250000 ≤ s.tick → s.byModel l = false →
         Completes (.thmModel l) s (fun t => (t.watch l).governed = some s.tick ∧ t.bit Reg.thmStatus l = true)) ∧
       ((s.watch l).excess = some t0 → s.tick < t0 + 250000 → Becomes (.thmModel l) s s) ∧
       ((s.watch l).governed = some t0 → t0 + 1500000000 ≤ s.tick → s.bit Reg.thmSuspect l = false →
         Completes (.thmSuspect l) s (fun t => t.bit Reg.thmSuspect l = true ∧ Alert.suspect l ∈ t.pins.alerts)) ∧
       ((s.watch l).governed = some t0 → s.tick < t0 + 1500000000 → Becomes (.thmSuspect l) s s) ∧
       ((s.watch l).under = some t0 → t0 + 250000000 ≤ s.tick → s.bit Reg.thmSuspect l = false →
         Completes (.modelRelease l) s (fun t => (t.watch l).governed = none ∧ (t.watch l).under = none ∧ t.bit Reg.thmStatus l = false)) ∧
       ((s.watch l).under = some t0 → s.tick < t0 + 250000000 → Becomes (.modelRelease l) s s))) ∧
  (∀ s : State,
     (∀ r, Completes (.coolantSample r) s (fun t => t.sets = s.sets ∧ t.image = s.image ∧
       t.thermal.dpHist.length = 5 ∧ t.thermal.flowHist.length = 5 ∧
       ∀ l x, l < 5 → r[l]? = some x → t.fld (Reg.cltTIn l) 11 0 = min 4095 x.tin ∧ t.fld (Reg.cltTOut l) 11 0 = min 4095 x.tout ∧
         t.fld (Reg.cltLevelFlow l) 15 0 = min 65535 x.flow)) ∧
     Completes .flowLimitUpdate s (fun t => t.thermal.flowLimit = some (s.flowLimitOf - s.thermal.outletRed) ∧ t.cmds = s.cmds) ∧
     (∀ t0, some t0 ∈ s.thermal.outletSince → t0 + 2500000 ≤ s.tick → Completes .outletReductionStep s (fun t =>
       t.thermal.outletRed = s.thermal.outletRed + 50 ∧ t.bit Reg.cltStatus 6 = true)) ∧
     ((∀ t0, some t0 ∈ s.thermal.outletSince → s.tick < t0 + 2500000) → (∀ l, l < 5 → s.fld (Reg.cltTOut l) 11 0 ≤ 1232) →
       Completes .outletReductionStep s (fun t => t.thermal.outletRed = s.thermal.outletRed - 50 ∧
         (t.bit Reg.cltStatus 6 = true ↔ 50 < s.thermal.outletRed))) ∧
     (∀ t0 f, s.thermal.flowStop = some t0 → s.thermal.restartFrom = some f → f + 50000000 ≤ s.tick → s.bit Reg.thmStatus 31 = false →
       Completes .cltRestart s (fun t => t.thermal.flowStop = none ∧ t.bit Reg.cltStatus 2 = false ∧ t.cmds.length = s.cmds.length ∧
         t.mem = s.mem)) ∧
     ((s.thermal.flowStop = none ∨ s.thermal.restartFrom = none) → Becomes .cltRestart s s) ∧
     Becomes .bondWearSample s ((List.range 13).foldl State.wearSample s) ∧
     Completes .bondWearSample s (fun t => t.mem = s.mem ∧ t.cmds = s.cmds ∧ ∀ l, l < 13 → SMap.get (fun _ => []) s.thermal.turns l = [] →
       SMap.get (fun _ => []) t.thermal.turns l = [s.fld (Reg.thmLayer l) 11 0]) ∧
     Becomes .bondWearWrite s s.wearWrite ∧
     Completes .bondWearWrite s (fun t => t.regs = s.regs ∧ ∀ l, l < 13 → SMap.get (fun _ => 0) t.nvm.wear l = s.nat (Reg.thmWearLo l) ∧
       SMap.get (fun _ => 0) t.nvm.wearCycles l = s.fld (Reg.thmWearHi l) 15 0))

/-! ### The fabric -/

/-- Ports (R440, R476, R635). PORT_LINK_UP of a port of the variant sets its link and 8 lanes; PORT_LINK_DOWN clears both and
ends its retraining. A retraining goes through its three steps, on 7 lanes during the second.
Other packets of a port (R439). An ARP request for the port's own address is answered and its asker learnt, another is discarded; an
echo request is answered while FAB_CTRL allows it, one above 9,216 bytes is discarded; a PAUSE frame and a frame of no use are counted and
discarded, PAUSE_SEEN telling the first; a port without its link receives nothing. ARP_REFRESH asks again
for the address of a peer not exchanged with for 30 s and takes the answer in, and of a module that is not ready does nothing. -/
def Obligations.PortsAndPackets : Prop :=
  (∀ (s : State) (port : Nat), port < 8 →
     (s.recovery = false → s.pcie.bring = none → port < portCount s.variant → s.portUp port = false →
       Becomes (.portLinkUp port) s (s.peerDevices.foldl State.pump ((s.setBit (Reg.fabPortStatus port) 0 true).setFld (Reg.fabPortStatus port) 19 16 8)) ∧
       Completes (.portLinkUp port) s (fun t => t.portUp port = true ∧ t.fld (Reg.fabPortStatus port) 19 16 = 8 ∧ t.cmds = s.cmds)) ∧
     (s.portUp port = true → s.retraining port = none → s.fab.retrainQ = [] →
       Completes (.portLinkDown port) s (fun t => t.portUp port = false ∧ t.fld (Reg.fabPortStatus port) 19 16 = 0 ∧ t.retraining port = none ∧
         t.cmds = s.cmds ∧ t.mem = s.mem)) ∧
     (s.portUp port = false → Becomes (.portLinkDown port) s s) ∧
     (∀ lane, lane < 8 → s.portUp port = true → s.fab.retrain = [] → s.fab.retrainQ = [] →
       Completes (.laneRetrainTrigger port lane) s (fun t => t.retraining port = some ⟨lane, 1, [], none⟩ ∧ t.bit (Reg.fabPortStatus port) 3 = true)) ∧
     (∀ r, s.retraining port = some r →
       (r.step = 1 → Completes (.laneRetrainStepDone port) s (fun t => t.retraining port = some { r with step := 2 } ∧
         t.fld (Reg.fabPortStatus port) 19 16 = 7)) ∧
       (r.step = 2 → Completes (.laneRetrainStepDone port) s (fun t => t.retraining port = some { r with step := 3 } ∧
         t.fld (Reg.fabPortStatus port) 19 16 = 8)) ∧
       (r.step = 3 → r.todo = [] → r.cmd = none → s.fab.retrainQ = [] → Completes (.laneRetrainStepDone port) s (fun t =>
         t.retraining port = none ∧ t.bit (Reg.fabPortStatus port) 3 = false ∧ t.cmds = s.cmds)))) ∧
  (∀ (s : State) (port target asker mac : Nat) (data : List Byte), port < 8 →
     (s.receives port = true →
       (s.inService port = true → target = s.portAddr port → Becomes (.arpRequest port target asker mac) s
         (((s.countRx port (arpSize target) false).setArp port asker mac).putEther port 2 mac asker (arpSize asker)
           (beBytes 16 target ++ s.macBytes port))) ∧
       (target ≠ s.portAddr port → Becomes (.arpRequest port target asker mac) s ((s.countRx port (arpSize target) false).rxDrop port)) ∧
       (s.inService port = true → s.bit Reg.fabCtrl 8 = true → target = s.portAddr port → data.length + ipOver target ≤ 9216 →
         Becomes (.icmpEcho port target asker data) s
           ((s.countRx port (data.length + ipOver target) false).putPacket port 3 asker (data.length + ipOver asker) data)) ∧
       ((s.bit Reg.fabCtrl 8 = false ∨ 9216 < data.length + ipOver target) → Becomes (.icmpEcho port target asker data) s
         ((s.countRx port (data.length + ipOver target) false).rxDrop port)) ∧
       Completes (.pauseFrame port) s (fun t => t.bit (Reg.fabPortStatus port) 2 = true ∧
         t.cnt (Reg.fabPortCntRxDiscard port) = s.cnt (Reg.fabPortCntRxDiscard port) + 1 ∧ t.out = s.out) ∧
       Completes (.rxDiscard port) s (fun t => t.cnt (Reg.fabPortCntRxDiscard port) = s.cnt (Reg.fabPortCntRxDiscard port) + 1 ∧
         t.cnt (Reg.fabPortCntRxFrames port) = s.cnt (Reg.fabPortCntRxFrames port) + 1 ∧ t.regs = s.regs)) ∧
     (s.receives port = false → Becomes (.arpRequest port target asker mac) s s ∧ Becomes (.icmpEcho port target asker data) s s ∧
       Becomes (.pauseFrame port) s s ∧ Becomes (.rxDiscard port) s s) ∧
     (s.ready = true → (s.arpTargets = [] → Becomes .arpRefresh s s) ∧
       (∀ p a, s.arpTargets = [(p, a)] →
         (∀ e ∈ s.fab.arp, ¬ (e.1 = p ∧ e.2.1 = a)) → Becomes .arpRefresh s (s.askArp p a)) ∧
       (∀ p a e, s.arpTargets = [(p, a)] → s.fab.arp = [e] → e.1 = p → e.2.1 = a →
         (s.tick < e.2.2.2 + 750000000 → Becomes .arpRefresh s s) ∧
         (e.2.2.2 + 750000000 ≤ s.tick → Becomes .arpRefresh s (s.askArp p a) ∧ Completes .arpRefresh s (fun t =>
           t.ethOf p a = some (Config.freeNat s.freeCtr % 2 ^ 48) ∧ t.out.length = s.out.length + 1)))) ∧
     (s.ready = false → Becomes .arpRefresh s s))

/-- The frames of Ralwick (R445–R452). A datagram that R447 discards has no further effect; one that is taken in takes its turn; a frame that
comes again is acknowledged again; a frame of a flow that is not known and starts none is answered with RESYNC.
A frame in its turn has its effect and its PSN is accepted: WRITE stores its bytes at the endpoint (R455, R458), READ_REQ reads and answers,
and is accepted once its last answer has been sent, READ_RSP writes its bytes where the DMA that asked for them wants them (R457), COLL_DATA
reaches the collective it belongs to (R465), PAR_DELTA is added to its unit (R590), PAR_READ_REQ is answered with its units and PAR_READ_RSP
kept for the rebuild (R593), HARV_REPORT and SLACK are kept by the master (R602, R505), BREACH latches and goes on to the other peers, and a
second one of a breach does nothing more (R470, R471), RECKON_REQ is answered and RECKON_RSP judged (R473), and GRANT is applied (R504).
ACK lets the frames it covers leave their flow (R449); NAK with ST_BUSY holds its frame, with another STATUS ends it, and with RESYNC starts a
new generation (R451, R453). -/
def Obligations.Frames : Prop :=
  ∀ (s : State) (env : Env) (f : Rx),
    let rows : List (Instr × Bool × Nat) := [(.fabWrite f env, true, 0x01), (.fabReadReq f env, true, 0x02), (.fabReadRsp f env, true, 0x03),
      (.collData f env, true, 0x20), (.parDelta f env, true, 0x30), (.parReadReq f env, true, 0x31), (.parReadRsp f env, true, 0x32),
      (.harvReport f, false, 0x33), (.breachFrame f, false, 0x40), (.reckonReq f, false, 0x50), (.reckonRsp f, false, 0x51),
      (.slackFrame f, false, 0x61)]
    (∀ r ∈ rows, ∀ h t, TakenIn (if r.2.1 then s.arrive env else s) f r.2.2 h t →
      Becomes r.1 s (State.turnWaiting applyFrame ((((t.receive applyFrame f h).rxOf h.src).map (fun q => q.waiting.length)).getD 0)
        (t.receive applyFrame f h) h.src)) ∧
    (∀ r ∈ rows, ∀ t, f.port < 8 → f.typ = r.2.2 → (if r.2.1 then s.arrive env else s).intake f = (none, t) → Becomes r.1 s t) ∧
    (∀ h, s.rxState f h = none → s.receive applyFrame f h = s.sendNak h.src f.port f.src h.gen h.psn 0 true) ∧
    (∀ h r, s.rxState f h = some r → psnBefore h.psn r.next = true → s.receive applyFrame f h = (s.setRx h.src r).sendAck h.src) ∧
    (∀ h t r, InTurn t h r →
      let x := cameTo f r
      let T := t.setRx h.src x
      (TakenIn (s.arrive env) f 0x01 h t → T.peerCheck h.src (h.be 0x18 2) (h.be 0x1C 4 % 2 ^ 28) h.payload.length 1 = St.ok →
        ∀ u, T.physWrite Req.peer (addrCore (T.epAddr (h.be 0x18 2) (h.be 0x1C 4 % 2 ^ 28)).2)
            (addrOff (T.epAddr (h.be 0x18 2) (h.be 0x1C 4 % 2 ^ 28)).2) h.payload = (0, u) →
          TakesTurn (.fabWrite f env) s u h x) ∧
      (TakenIn (s.arrive env) f 0x02 h t → T.peerCheck h.src (h.be 0x18 2) (h.be 0x1C 4 % 2 ^ 28) (h.be 0x20 4) 0 = St.ok →
        0 < h.be 0x20 4 → h.be 0x20 4 ≤ 65536 →
        ∀ data u, T.physRead Req.peer (addrCore (T.epAddr (h.be 0x18 2) (h.be 0x1C 4 % 2 ^ 28)).2)
            (addrOff (T.epAddr (h.be 0x18 2) (h.be 0x1C 4 % 2 ^ 28)).2) (h.be 0x20 4) = (data, [], u) →
          let a := u.sendResponses h.src h.psn data
          let last := ((a.flow h.src).next + 2 ^ 32 - 1) % 2 ^ 32
          (a.wasSent h.src last = true → TakesTurn (.fabReadReq f env) s a h x) ∧
          (a.wasSent h.src last = false → a.rxOf h.src = some x →
            Becomes (.fabReadReq f env) s { a with fab := { a.fab with reads := a.fab.reads ++ [(h.src, h.psn, last)] } })) ∧
      (TakenIn (s.arrive env) f 0x03 h t → T.responseHeld h = false → TakesTurn (.fabReadRsp f env) s (T.gotResponse h) h x) ∧
      (TakenIn (s.arrive env) f 0x03 h t → T.responseHeld h = false →
        ∀ c w base left v, T.cmds.find? (fun c => decide (c.phase = .running) && c.work.wants.any (fun y => y.1 == 2 ^ 32 * h.src + h.be 0x20 4)) = some c →
          c.work = .fabric w → w.find? (fun y => y.1 == 2 ^ 32 * h.src + h.be 0x20 4) = some (2 ^ 32 * h.src + h.be 0x20 4, base, left) →
          let a := T.setWork c.id (.fabric (w.map (fun y => if y.1 = 2 ^ 32 * h.src + h.be 0x20 4 then (y.1, y.2.1, y.2.2 - h.payload.length) else y)))
          let n := a.dmaCore c (base / 65536)
          Run.write (reqDma c n) c.id (a.polderOf c) (c.addr 0x18 + base + h.be 0x1C 4) h.payload a = .ok () v →
          TakesTurn (.fabReadRsp f env) s ((v.addCnt (Reg.coreCntDma n) h.payload.length).fabricCheck c.id) h x) ∧
      (TakenIn (s.arrive env) f 0x20 h t → T.flowStopped = false →
        ∀ c step data early, T.cmds.find? (fun c => decide (c.op = 0x30) && decide (c.phase = .running) &&
            ((List.range 32).filter (fun p => T.peerRight p h.src 2)).contains (T.polderOf c) && !T.hostHeld c &&
            decide (T.collPrev (T.polderOf c) = h.src) && decide (clId c.desc = h.be 0x18 2) && decide (clEpoch c.desc = h.msg)) = some c →
          c.work = .coll step data early → h.be 0x1A 1 = clOp c.desc → h.be 0x1B 1 = clFmt c.desc → h.be 0x1C 4 = clCount c.desc % 2 ^ 32 →
          TakesTurn (.collData f env) s ((T.runOn c.id (Run.collTake c h step data early)).collCheck c.id) h x) ∧
      (TakenIn (s.arrive env) f 0x30 h t → ∀ g i u, g = h.be 0x18 2 → i = h.be 0x1A 1 → u = h.be 0x20 4 →
        T.parValid g = true → h.be 0x1B 1 = T.parShard g → T.parK g ≤ T.parShard g → i < T.parK g → T.parDev g i = h.src →
        T.parLost g i = false → u < T.parUnits g → h.payload.length = 4096 → T.regrouping g = none →
        ∀ tag a, T.tagRead g i u = (.ok tag, a) → tag ≠ 0xFFFFFFFF →
          (tag = h.be 0x1C 4 → TakesTurn (.parDelta f env) s (a.addCnt Reg.parCntDup 1) h x) ∧
          (tag ≠ h.be 0x1C 4 → (a.unitRead g u).err = none →
            let w := (a.unitRead g u).st.unitWrite g u (((a.unitRead g u).data.zip h.payload).map (fun y => y.1 ^^^ y.2))
            w.err = none → TakesTurn (.parDelta f env) s
              (((w.st.tagWrite g i u (h.be 0x1C 4)).addCnt Reg.parCntDeltaRx 4096).setNat (Reg.parGrpStep g) (h.be 0x1C 4)) h x)) ∧
      (TakenIn (s.arrive env) f 0x31 h t → ∀ g, g = h.be 0x18 2 → T.parValid g = true → h.be 0x1B 1 = T.parShard g →
        h.be 0x1A 1 < T.parK g + T.parM g → T.parDev g (h.be 0x1A 1) = h.src → 0 < h.be 0x20 1 → h.be 0x20 1 ≤ 16 →
        h.be 0x1C 4 + h.be 0x20 1 ≤ T.parUnits g →
        ∀ u, (List.range (h.be 0x20 1)).foldl (fun (a : Nat × State) k =>
            if a.1 ≠ St.ok then a else a.2.answerUnit g h.src (h.be 0x21 1) (h.be 0x1C 4 + k)) (St.ok, T) = (St.ok, u) →
          TakesTurn (.parReadReq f env) s u h x) ∧
      (TakenIn (s.arrive env) f 0x32 h t → T.rebuildHeld h = false →
        ∀ c left hv bad tags failed chunks', T.regrouping (h.be 0x18 2) = some c → c.work = .rebuild left hv bad tags failed chunks' →
          T.parDev (h.be 0x18 2) (h.be 0x1A 1) = h.src → h.be 0x1C 4 ∈ left → h.payload.length = 4096 →
          (∀ y ∈ hv, ¬ (y.1 = h.be 0x1C 4 ∧ y.2.1 = h.be 0x1A 1)) →
          TakesTurn (.parReadRsp f env) s ((T.setWork c.id (.rebuild left (hv ++ [(h.be 0x1C 4, h.be 0x1A 1, h.be 0x20 4, h.payload)]) bad tags failed
            chunks')).rebuildUnit c.id (h.be 0x1C 4)) h x) ∧
      (∀ g m, T.group? = some g → g.memberOf h.src = some m → T.isMaster = true →
        (TakenIn s f 0x33 h t → h.be 0x18 2 = g.groupId → TakesTurn (.harvReport f) s { T with parity := { T.parity with
          reports := SMap.set (fun _ => none) T.parity.reports m (some (h.be 0x1C 4, h.be 0x20 2, h.be 0x22 2, T.tick)) } } h x) ∧
        (TakenIn s f 0x61 h t → TakesTurn (.slackFrame f) s (T.setSlack m (h.be 0x18 2)) h x) ∧
        (TakenIn s f 0x51 h t → T.casc.roundOpen = true → h.be 0x18 2 = g.groupId → h.be 0x1C 4 = T.nat Reg.casReckonRound →
          h.payload.length = 96 → T.casc.answered = [] → T.casc.mismatched = [] →
          let a := T.setDigest (Reg.casMemberDigest m 0) (digestOf h.payload)
          (digestOf h.payload = digestOf a.threeDigests → TakesTurn (.reckonRsp f) s { a with casc := { a.casc with answered := [m] } } h x) ∧
          (digestOf h.payload ≠ digestOf a.threeDigests →
            TakesTurn (.reckonRsp f) s { a with casc := { a.casc with answered := [m], mismatched := [m] } } h x))) ∧
      (TakenIn s f 0x40 h t →
        let origin := h.be 0x18 2 % 4096
        let a := T.addCnt Reg.fabCntBreachRx 1
        let ps := (List.range 32).filter (fun p => (a.peer p h.src).isSome)
        ((origin, h.be 0x1C 4) ∈ T.fab.seen → TakesTurn (.breachFrame f) s a h x) ∧
        ((origin, h.be 0x1C 4) ∉ T.fab.seen →
          let b := ps.foldl (fun (b : State) p => b.breachPolder p origin (h.be 0x20 1)) (a.seeBreach origin (h.be 0x1C 4))
          TakesTurn (.breachFrame f) s (b.breachTo (((ps.flatMap b.peersOf).eraseDups).filter (· ≠ h.src)) origin (h.be 0x1C 4) (h.be 0x20 1)) h x)) ∧
      (∀ g, T.group? = some g → T.inGroup = true → h.src = g.masterDevice →
        (TakenIn s f 0x50 h t → h.be 0x18 2 = g.groupId →
          let a := ({ T with casc := { T.casc with lastReq := some T.tick } } : State).setBit Reg.casStatus 29 false
          TakesTurn (.reckonReq f) s (a.sendSeq h.src 0x51 0 0 (beBytes 2 g.groupId ++ [BitVec.ofNat 8 a.memberId, 0] ++
            beBytes 4 (h.be 0x1C 4)) a.threeDigests none) h x) ∧
        (TakenIn s f 0x60 h t → Machine.bit h.flags 1 = false → T.grantNewer (h.be 0x1C 4) = true → h.be 0x20 2 ≤ 60000 →
          Machine.bit (h.be 0x22 1) 0 = false → TakesTurn (.grantFrame f) s
            (({ T with power := { T.power with grantSeen := some (h.be 0x1C 4) } } : State).applyGrant (h.be 0x18 4) (h.be 0x20 2) 3).showCap h x))) ∧
    (∀ h t, TakenIn s f 0x60 h t → Machine.bit h.flags 1 = true → f.src = t.grantSource → t.grantNewer (h.be 0x1C 4) = true →
      h.be 0x20 2 ≤ 60000 → Machine.bit (h.be 0x22 1) 0 = false → t.inGroup = false → NoneWaits t h.src →
        Becomes (.grantFrame f) s (({ t with power := { t.power with grantSeen := some (h.be 0x1C 4) } } : State).applyGrant
          (h.be 0x18 4) (h.be 0x20 2) 2).showCap) ∧
    (∀ h t fl, SMap.get (fun _ => none) t.fab.flows h.src = some fl → fl.gen = h.gen → NoneWaits t h.src → t.parity.pending = [] →
      (∀ y ∈ fl.unacked, y.owner = none) →
      (TakenIn s f 0x10 h t → Completes (.fabAck f) s (fun u => u.cmds = s.cmds ∧ (u.flow h.src).gen = fl.gen ∧
        (u.flow h.src).unacked.map (fun y => y.psn) =
          (fl.unacked.filter (fun y => !ackCovers (h.be 0x18 4) h.payload y.psn)).map (fun y => y.psn))) ∧
      (TakenIn s f 0x11 h t → Machine.bit (h.be 0x1D 1) 0 = false → ∀ y, fl.unacked.find? (fun y => y.psn == h.be 0x18 4) = some y →
        (h.be 0x1C 1 = St.busy → Becomes (.fabNak f) s ((t.addCnt Reg.fabCntNakRx 1).setFlow h.src { fl with
          unacked := fl.unacked.map (fun u => if u.psn = h.be 0x18 4 then { u with busy := true, sent := some t.tick } else u) })) ∧
        (h.be 0x1C 1 ≠ St.busy → Completes (.fabNak f) s (fun u => u.cmds = s.cmds ∧
          (u.flow h.src).unacked.map (fun y => y.psn) = (fl.unacked.filter (fun y => y.psn != h.be 0x18 4)).map (fun y => y.psn)))) ∧
      (TakenIn s f 0x11 h t → Machine.bit (h.be 0x1D 1) 0 = true → Completes (.fabNak f) s (fun u =>
        (u.flow h.src).gen = (fl.gen + 1) % 65536 ∧ (u.flow h.src).unacked.map (fun y => y.psn) = List.range fl.unacked.length)))

/-- The timers of the fabric (R449, R450, R453, R454). ACK_TIMER sends the ACK 1 µs after the oldest frame; a timeout sends the overdue
frames again, doubles, and halves the rates, and the eighth in a row makes the peer DOWN; a DOWN peer gets one frame each 10 ms; a frame
refused as busy is tried again; a path without a decrease speeds up. Each has no effect before its time. -/
def Obligations.FabricTimers : Prop :=
  ∀ (s : State) (d : Nat), d < 4096 →
    (∀ r t, s.rxOf d = some r → r.oldest = some t →
      (t + 25 ≤ s.tick → Becomes (.ackTimer d) s ((s.sendBack d r.port r.src 0x10 r.gen (beBytes 4 r.next ++ beBytes 2 r.ce) (sackBytes r)).setRx d
        { r with ce := 0, unacked := 0, oldest := none })) ∧
      (s.tick < t + 25 → Becomes (.ackTimer d) s s)) ∧
    ((s.flow d).down = false → s.overdue (s.flow d) ≠ [] →
      (s.paths d = [] → (s.flow d).expiries < 7 → Completes (.retransmitTimeout d) s (fun t =>
        (t.flow d).expiries = (s.flow d).expiries + 1 ∧ (t.flow d).down = false ∧ t.cnt Reg.fabCntRto = s.cnt Reg.fabCntRto + 1)) ∧
      ((s.flow d).expiries < 7 → Completes (.retransmitTimeout d) s (fun t =>
        (t.flow d).expiries = (s.flow d).expiries + 1 ∧ (t.flow d).down = false ∧ (t.flow d).lastRto = s.tick ∧
        (t.flow d).timeout = min (64 * s.inforce Key.rto) (2 * (if (s.flow d).timeout = 0 then s.inforce Key.rto else (s.flow d).timeout)) ∧
        t.cnt Reg.fabCntRto = s.cnt Reg.fabCntRto + 1 ∧
        (s.paths d ≠ [] → t.cnt Reg.fabCntRetransmit = s.cnt Reg.fabCntRetransmit + BitVec.ofNat 64 (s.overdue (s.flow d)).length) ∧
        ((∀ p ∈ s.paths d, p.2 < 256) → ∀ p ∈ s.paths d, (t.rate d p.1 p.2).rate = max 1000 (min 800000 ((s.rate d p.1 p.2).rate / 2))))) ∧
      (7 ≤ (s.flow d).expiries → Completes (.retransmitTimeout d) s (fun t => (t.flow d).down = true ∧
        (t.flow d).expiries = (s.flow d).expiries + 1))) ∧
    (s.overdue (s.flow d) = [] → Becomes (.retransmitTimeout d) s s) ∧
    (∀ t l, (s.flow d).down = true → (s.flow d).lastRto + 250000 ≤ s.tick → (s.flow d).unacked = t :: l →
      Becomes (.peerDownRetransmit d) s ((s.setFlow d { s.flow d with lastRto := s.tick }).resend d t)) ∧
    ((s.flow d).down = false → Becomes (.peerDownRetransmit d) s s) ∧
    (∀ psn t, (s.flow d).unacked.find? (fun t => decide (t.psn = psn) && t.busy) = some t → t.sent.getD 0 + s.rtoTicks (s.flow d) ≤ s.tick →
      Becomes (.busyRetry d psn) s ((s.setFlow d { s.flow d with
        unacked := (s.flow d).unacked.map (fun u => if u.psn = psn then { t with busy := false } else u) }).resend d { t with busy := false })) ∧
    (∀ port entry, port < 8 → entry < 16 → (s.paths d).contains (port, entry) = true →
      ((∀ x, (s.rate d port entry).lastDec = some x → x + 250 ≤ s.tick) →
        Completes (.rateIncrease d port entry) s (fun t => (t.rate d port entry).rate =
          max 1000 (min 800000 ((s.rate d port entry).rate + (if (s.rate d port entry).quiet < 5 then 8000 else 40000))) ∧
          t.fab.flows = s.fab.flows)) ∧
      (∀ x, (s.rate d port entry).lastDec = some x → s.tick < x + 250 → Becomes (.rateIncrease d port entry) s s))

/-- Breaches and exported endpoints (R456, R469, R470). BREACH_SEND with GO originates a breach of the polder, with a status that is a free
value, a frame of it entering the flow to each peer of the polder, and without GO does nothing; BREACH_LATCH_CLEAR clears the latch alone.
FAB_EP_VALID: an endpoint that passes its checks becomes VALID, one that fails them stays invalid with EP_ERR, and a VALID one takes only a
write that clears VALID. -/
def Obligations.BreachesAndEndpoints : Prop :=
  ∀ (s : State) (v : Word), s.hostOpen = true →
    (v.getLsbD 31 = true → Becomes (.breachSend v) s (s.fresh.originBreach (Machine.fld v 4 0) (Config.freeNat s.freeCtr % 256)) ∧
      (s.peersOf (Machine.fld v 4 0) = [] → Becomes (.breachSend v) s s.fresh) ∧
      (s.peersOf (Machine.fld v 4 0) ≠ [] → Completes (.breachSend v) s (fun t =>
        t.fab.breachSerial = (s.fab.breachSerial + 1) % 2 ^ 32 ∧ (s.device, s.fab.breachSerial) ∈ t.fab.seen ∧ t.cmds = s.cmds ∧
        ∀ d ∈ s.peersOf (Machine.fld v 4 0), ∃ y ∈ (t.flow d).unacked, y.typ = 0x40 ∧ y.area =
          beBytes 2 s.device ++ [0, 0] ++ beBytes 4 s.fab.breachSerial ++ [BitVec.ofNat 8 (Config.freeNat s.freeCtr % 256)]))) ∧
    (v.getLsbD 31 = false → Becomes (.breachSend v) s s) ∧
    (∀ p, p < 32 → Becomes (.breachLatchClear p) s (s.setBit (Reg.fabBreach p) 31 false) ∧
      Completes (.breachLatchClear p) s (fun t => t.bit (Reg.fabBreach p) 31 = false)) ∧
    (∀ e, e < 4096 →
      (s.bit (Reg.fabEpCtrl e) 31 = false → v.getLsbD 31 = true → s.epOk e v = true → Completes (.fabEpValid e v) s (fun t =>
        t.bit (Reg.fabEpCtrl e) 31 = true ∧ { t with regs := s.regs } = s)) ∧
      (s.bit (Reg.fabEpCtrl e) 31 = false → v.getLsbD 31 = true → s.epOk e v = false → Completes (.fabEpValid e v) s (fun t =>
        t.bit (Reg.fabEpCtrl e) 31 = false ∧ t.bit Reg.fabStatus 8 = true ∧ { t with regs := s.regs } = s)) ∧
      (s.bit (Reg.fabEpCtrl e) 31 = true → v.getLsbD 31 = true → Becomes (.fabEpValid e v) s s) ∧
      (v.getLsbD 31 = false → Completes (.fabEpValid e v) s (fun t => t.bit (Reg.fabEpCtrl e) 31 = false)))

/-- RoCEv2 requests (R467, R468): a WRITE in its turn stores its data where its R_Key and address name, a last or only packet ends the
message, the PSN advances and it is acknowledged; a repeated one is acknowledged again and changes nothing else, one
beyond is refused with PSN Sequence Error; a READ in its turn is served from memory, one beyond refused; any other request is refused as
invalid. A packet whose queue pair or port is not there, or whose ICRC is wrong, is discarded. -/
def Obligations.RemoteMemory : Prop :=
  ∀ (s : State) (q : Rdma) (env : Env) (t : State), q.qpn < 2 ^ 24 → q.port < 8 →
    (q.kind < 4 → (s.arrive env).qpIntake q = (true, t) →
      (t.qpOrder q = 0 → Becomes (.rdmaWrite q env) s (t.rdmaWrite q) ∧
        (∀ rkey va left p a u, t.writePart q = some (rkey, va, left) → t.qpAccess q.qp rkey va left 1 = some (p, a) →
          t.physWrite Req.peer (addrCore a) (addrOff a) q.data = (0, u) →
          let ended := fun (x : Option (Nat × Nat × Nat)) =>
            ((({ u with fab := { u.fab with qps := SMap.set (fun _ => none) u.fab.qps q.qp x } } : State).qpAdvance q 1).qpSend q.port q.qp 5 q.psn 20 [])
          (2 ≤ q.kind → Becomes (.rdmaWrite q env) s (ended none)) ∧
          (q.kind < 2 → Becomes (.rdmaWrite q env) s (ended (some (rkey, va + q.data.length, left - q.data.length)))))) ∧
      (t.qpOrder q = 1 → Becomes (.rdmaWrite q env) s (t.qpSend q.port q.qp 5 (t.fld (Reg.fabQpPsn q.qp) 23 0 + 2 ^ 24 - 1) 20 [])) ∧
      (t.qpOrder q = 2 → Becomes (.rdmaWrite q env) s (t.qpNak q (t.fld (Reg.fabQpPsn q.qp) 23 0) 0))) ∧
    (q.kind < 4 → (s.arrive env).qpIntake q = (false, t) → Becomes (.rdmaWrite q env) s t) ∧
    (q.kind = 4 → (s.arrive env).qpIntake q = (true, t) → SMap.get (fun _ => none) t.fab.qps q.qp = none →
      (t.qpOrder q = 0 → Becomes (.rdmaRead q env) s (t.rdmaRead q true) ∧
        (∀ p a data u, t.qpAccess q.qp q.rkey q.va q.len 0 = some (p, a) → t.physRead Req.peer (addrCore a) (addrOff a) q.len = (data, [], u) →
          Becomes (.rdmaRead q env) s ((u.qpAdvance q (max 1 (cdiv q.len 4096))).qpRespond q data))) ∧
      (t.qpOrder q = 1 → Becomes (.rdmaRead q env) s (t.rdmaRead q false)) ∧
      (t.qpOrder q = 2 → Becomes (.rdmaRead q env) s (t.qpNak q (t.fld (Reg.fabQpPsn q.qp) 23 0) 0))) ∧
    (q.kind = 4 → (s.arrive env).qpIntake q = (false, t) → Becomes (.rdmaRead q env) s t) ∧
    (s.qpIntake q = (true, t) → Becomes (.rdmaInvalid q) s (t.qpNak q q.psn 1)) ∧
    (s.qpIntake q = (false, t) → Becomes (.rdmaInvalid q) s t) ∧
    ((q.icrc = false ∨ q.qpn < 0x100000 ∨ 0x100400 ≤ q.qpn) → s.receives q.port = true →
      Completes (.rdmaInvalid q) s (fun u => u.out = s.out ∧ u.mem = s.mem))

/-! ### Cascade groups and parity -/

/-- The reckoning and the harvest's advice (R473, R601, R602): on the master in a group, RECKON_PERIOD when it is due and NOW start a
round with the next number and a request to every other member; RECKON_DEADLINE judges an open round half a period after it began: the round
closes, who did not answer is kept for the next, and a member whose digests differ is shown; a member that has heard no request for three
periods reports its master lost, once. HARV_REPORT_PERIOD of a member sends its report; HARV_ADVISE_UPDATE recomputes the failure interval
and, where the steps give a period, the advice.
Parity group entries (R585, R586, R589): a VALID entry takes only a write that clears VALID; another takes its fields, and VALID only when
its checks pass, with an error named otherwise; LOST drops the deltas pending to the shards it marks; while the host has
no way in they change nothing but what has arrived. -/
def Obligations.CascadeAndParity : Prop :=
  (∀ s : State,
     (s.ready = true → s.isMaster = true → s.inGroup = true → s.casc.roundAt = none → Becomes .reckonPeriod s s.startRound) ∧
     (∀ t, s.casc.roundAt = some t → s.tick < t + s.reckonTicks → Becomes .reckonPeriod s s) ∧
     (s.hostOpen = true → s.isMaster = true → s.inGroup = true → Becomes .reckonNow s s.startRound) ∧
     (∀ g, s.group? = some g → s.isMaster = true → s.inGroup = true →
       let started := fun (t : State) => t.nat Reg.casReckonRound = (s.nat Reg.casReckonRound + 1) % 2 ^ 32 ∧ t.casc.roundAt = some s.tick ∧
         t.casc.roundOpen = true ∧ t.casc.answered = [] ∧ t.cmds = s.cmds ∧ ∀ m, m < g.members → m ≠ s.memberId →
           ∃ y ∈ (t.flow (g.devices.getD m 0)).unacked, y.typ = 0x50
       (s.hostOpen = true → Completes .reckonNow s started) ∧
       (s.ready = true → (∀ t, s.casc.roundAt = some t → t + s.reckonTicks ≤ s.tick) → Completes .reckonPeriod s started)) ∧
     (s.isMaster = false → Becomes .reckonNow s s ∧ Becomes .reckonPeriod s s) ∧
     (∀ t, s.ready = true → s.casc.roundOpen = true → s.casc.roundAt = some t → 2 * t + s.reckonTicks ≤ 2 * s.tick →
       Becomes .reckonDeadline s s.judgeRound ∧
       (∀ g, s.group? = some g →
         let missing := (List.range g.members).filter (fun m => m != s.memberId && !s.casc.answered.contains m)
         (s.casc.mismatched = [] → (∀ m ∈ missing, m ∉ s.casc.missedBefore) →
           Becomes .reckonDeadline s { s with casc := { s.casc with missedBefore := missing, roundOpen := false } }) ∧
         Completes .reckonDeadline s (fun u => u.casc.roundOpen = false ∧ u.casc.missedBefore = missing ∧
           ∀ m, m < g.members → m < 16 → m ∈ s.casc.mismatched → u.bit Reg.casReckonMismatch m = true))) ∧
     (s.casc.roundOpen = false → Becomes .reckonDeadline s s) ∧
     (∀ t, s.ready = true → s.inGroup = true → s.isMaster = false → s.bit Reg.casStatus 29 = false → s.casc.lastReq = some t →
       t + 3 * s.reckonTicks ≤ s.tick → Completes .casMasterLost s (fun u => u.bit Reg.casStatus 29 = true ∧ u.casc = s.casc ∧ u.cmds = s.cmds)) ∧
     (s.bit Reg.casStatus 29 = true → Becomes .casMasterLost s s) ∧
     (∀ g, s.group? = some g → s.ready = true → s.inGroup = true → s.isMaster = false → Becomes .harvReportPeriod s
       (s.sendSeq g.masterDevice 0x33 0 0 (beBytes 2 g.groupId ++ [BitVec.ofNat 8 s.memberId, 0] ++ beBytes 4 (s.fld Reg.harvCostMs 23 0) ++
         beBytes 2 (min 65535 s.eventCount) ++ beBytes 2 s.eventHours) [] none)) ∧
     (s.group? = none → Becomes .harvReportPeriod s s) ∧
     (s.ready = true → Becomes .harvAdviseUpdate s s.advise ∧
       let own := failureRate (s.inforce Key.fleetMtbf) [(s.eventCount, s.eventHours)]
       (s.stepPeriod = none → Completes .harvAdviseUpdate s (fun t => t.nat Reg.harvMtbfS = 3600 * own.2 / own.1 % 2 ^ 32 ∧
         t.bit Reg.harvAdvise 31 = false ∧ t.bit Reg.harvGroupAdvise 31 = false ∧ t.cmds = s.cmds)) ∧
       (∀ p, s.stepPeriod = some p → 0 < s.fld Reg.harvCostMs 23 0 → Completes .harvAdviseUpdate s (fun t =>
         t.nat Reg.harvMtbfS = 3600 * own.2 / own.1 % 2 ^ 32 ∧
         t.nat Reg.harvStepUs = min (2 ^ 32 - 1) (p.1 / (25 * p.2)) ∧
         t.nat Reg.harvAdvise = 2 ^ 31 + adviseSteps (s.fld Reg.harvCostMs 23 0) own p ∧ t.cmds = s.cmds)))) ∧
  (∀ (s : State) (g r : Nat) (v : Word) (env : Env), g < 64 → r < 9 →
     let T := s.arrive env
     (T.hostOpen = true → Becomes (.parGrpValid g v env) s (T.writeGrpCtrl g v) ∧
       (T.parValid g = true → v.getLsbD 31 = true → Becomes (.parGrpValid g v env) s T) ∧
       (T.parValid g = true → v.getLsbD 31 = false → Completes (.parGrpValid g v env) s (fun t => t.parValid g = false ∧ t.parMap g = [])) ∧
       (T.parValid g = false → v.getLsbD 31 = false → Becomes (.parGrpValid g v env) s (T.setReg (Reg.parGrpCtrl g) (v &&& 0x1F1F7F))) ∧
       (T.parValid g = false → v.getLsbD 31 = true → ∀ code es u, (T.setReg (Reg.parGrpCtrl g) (v &&& 0x1F1F7F)).grpCheck g v = (code, es, u) →
         (code = 0 → Completes (.parGrpValid g v env) s (fun t => t.parValid g = true ∧ t.parMap g = es ∧ t.mem = u.mem)) ∧
         (code ≠ 0 → Becomes (.parGrpValid g v env) s (u.grpErr g code)))) ∧
     (T.hostOpen = false → Becomes (.parGrpValid g v env) s T) ∧
     (s.hostOpen = true → Becomes (.parGrpLost g v) s (s.writeGrpLost g v) ∧ Becomes (.parGrpDev g r v) s (s.writeGrpDev g r v) ∧
       Completes (.parGrpLost g v) s (fun t => t.reg (Reg.parGrpLost g) = v &&& 0x3FFFF ∧
         ∀ x ∈ t.parity.pending, ¬ (x.group = g ∧ t.parLost g x.shard = true)) ∧
       (s.parValid g = false → Becomes (.parGrpDev g r v) s (s.setReg (Reg.parGrpDev g r) (v &&& 0x0FFF0FFF))) ∧
       (s.parValid g = true → s.parDev g (2 * r) = Machine.fld v 11 0 → s.parDev g (2 * r + 1) ≠ Machine.fld v 27 16 →
         s.parLost g (2 * r + 1) = true → s.peerRight (s.parPolder g) (Machine.fld v 27 16) 3 = true → Machine.fld v 27 16 ∉ s.parDevs g →
         Completes (.parGrpDev g r v) s (fun t => t.parDev g (2 * r + 1) = Machine.fld v 27 16 ∧ t.parDev g (2 * r) = s.parDev g (2 * r)))) ∧
     (s.hostOpen = false → Becomes (.parGrpLost g v) s s ∧ Becomes (.parGrpDev g r v) s s))
end

