-- ==== Sys2Proof/Laws/Bits.lean ====
section
/-! SUPPORT. Laws of bit fields: what a field or a bit reads after one of them is set. -/
namespace Sys2Proof.Machine

/-- The bits of a register value with a field replaced: those of the new value inside the field, the old ones outside. -/
theorem getLsbD_setFld (w : Word) {hi lo : Nat} (v : Nat) (h2 : hi < 32) (i : Nat) :
    (setFld w hi lo v).getLsbD i = if lo ≤ i ∧ i ≤ hi then v.testBit (i - lo) else w.getLsbD i := by
  unfold setFld
  simp only [BitVec.getLsbD_or, BitVec.getLsbD_and, BitVec.getLsbD_not, BitVec.getLsbD_ofNat, Nat.testBit_shiftLeft,
    Nat.testBit_two_pow_sub_one, Nat.testBit_mod_two_pow]
  by_cases h : lo ≤ i ∧ i ≤ hi
  · have a1 : i < 32 := by omega
    have a2 : lo ≤ i := h.1
    have a3 : i - lo < hi + 1 - lo := by omega
    simp [h, a1, a3]
  · by_cases hi32 : i < 32
    · by_cases a2 : lo ≤ i
      · have a3 : ¬ (i - lo < hi + 1 - lo) := by omega
        have a4 : ¬ i ≤ hi := by omega
        simp [a2, a3, a4, hi32]
      · simp [a2, hi32]
    · have : w.getLsbD i = false := BitVec.getLsbD_of_ge _ _ (by omega)
      simp [h, this, hi32]

theorem getLsbD_setBit_same (w : Word) (i : Nat) (b : Bool) (h : i < 32) : (setBit w i b).getLsbD i = b := by
  unfold setBit
  rw [getLsbD_setFld w (b2n b) h]
  cases b <;> simp [b2n]

theorem getLsbD_setBit_ne (w : Word) (i : Nat) (b : Bool) {j : Nat} (h : j ≠ i) : (setBit w i b).getLsbD j = w.getLsbD j := by
  by_cases hi : i < 32
  · unfold setBit
    rw [getLsbD_setFld w (b2n b) hi]
    have : ¬ (i ≤ j ∧ j ≤ i) := by omega
    simp [this]
  · unfold setBit setFld
    simp only [BitVec.getLsbD_or, BitVec.getLsbD_and, BitVec.getLsbD_not, BitVec.getLsbD_ofNat, Nat.testBit_shiftLeft]
    by_cases hj : j < 32
    · have h1 : ¬ (i ≤ j) := by omega
      simp [hj, h1]
    · have : w.getLsbD j = false := BitVec.getLsbD_of_ge _ _ (by omega)
      simp [this, hj]

/-- A field reads as it was set, modulo its width. -/
theorem fld_setFld_same (w : Word) {hi lo : Nat} (v : Nat) (h1 : lo ≤ hi) (h2 : hi < 32) :
    fld (setFld w hi lo v) hi lo = v % 2 ^ (hi + 1 - lo) := by
  unfold fld bits
  apply Nat.eq_of_testBit_eq
  intro i
  rw [Nat.testBit_mod_two_pow, Nat.testBit_mod_two_pow, Nat.testBit_shiftRight]
  by_cases h : i < hi + 1 - lo
  · have := getLsbD_setFld w v h2 (lo + i) (lo := lo)
    have c : lo ≤ lo + i ∧ lo + i ≤ hi := by omega
    rw [if_pos c, show lo + i - lo = i by omega] at this
    simp only [h, decide_true, Bool.true_and]
    exact this
  · simp [h]

end Sys2Proof.Machine
end

