-- ==== Sys2Proof/Laws/SMap.lean ====
section
/-! SUPPORT. Laws of the sparse maps: a read after a write, what a write leaves alone, and that every operation keeps the
canonical form, in which equal contents are equal lists. -/
namespace Sys2Proof.Machine

variable {β : Type}

/-! ### Reads -/

@[simp] theorem SMap.get_nil (d : Nat → β) (k : Nat) : SMap.get d ([] : SMap β) k = d k := rfl

theorem SMap.get_erase (d : Nat → β) (m : SMap β) (k j : Nat) :
    SMap.get d (m.erase k) j = if j = k then d k else SMap.get d m j := by
  induction m with
  | nil => by_cases h : j = k <;> simp [SMap.erase, h]
  | cons e m ih =>
    obtain ⟨a, v⟩ := e
    by_cases h : k = a
    · subst h
      by_cases h' : j = k
      · subst h'; simpa [SMap.erase] using ih
      · simp [SMap.erase, SMap.get, h', ih]
    · by_cases h' : j = a
      · subst h'; simp [SMap.erase, SMap.get, h, Ne.symm h]
      · simp [SMap.erase, SMap.get, h, h', ih]

theorem SMap.get_insert (d : Nat → β) (m : SMap β) (k : Nat) (v : β) (j : Nat) :
    SMap.get d (m.insert k v) j = if j = k then v else SMap.get d m j := by
  induction m with
  | nil => by_cases h : j = k <;> simp [SMap.insert, SMap.get, h]
  | cons e m ih =>
    obtain ⟨a, w⟩ := e
    by_cases h1 : k < a
    · by_cases h : j = k <;> simp [SMap.insert, SMap.get, h1, h]
    · by_cases h2 : k = a
      · subst h2
        by_cases h : j = k <;> simp [SMap.insert, SMap.get, h]
      · by_cases h : j = a
        · subst h; simp [SMap.insert, SMap.get, h1, h2, Ne.symm h2]
        · simp [SMap.insert, SMap.get, h1, h2, h, ih]

/-- A read after a write: the value written, or what stood there before. -/
theorem SMap.get_set [DecidableEq β] (d : Nat → β) (m : SMap β) (k : Nat) (v : β) (j : Nat) :
    SMap.get d (SMap.set d m k v) j = if j = k then v else SMap.get d m j := by
  unfold SMap.set
  by_cases h : v = d k
  · simp only [h, if_true, SMap.get_erase]
  · simp only [h, if_false, SMap.get_insert]

@[simp] theorem SMap.get_set_same [DecidableEq β] (d : Nat → β) (m : SMap β) (k : Nat) (v : β) :
    SMap.get d (SMap.set d m k v) k = v := by simp [SMap.get_set]

theorem SMap.get_set_ne [DecidableEq β] (d : Nat → β) (m : SMap β) (k : Nat) (v : β) {j : Nat} (h : j ≠ k) :
    SMap.get d (SMap.set d m k v) j = SMap.get d m j := by simp [SMap.get_set, h]

/-! ### The canonical form -/

theorem SMap.above_mono {k a : Nat} (h : k < a) {m : SMap β} (hm : SMap.above a m = true) : SMap.above k m = true := by
  induction m with
  | nil => rfl
  | cons e m ih =>
    obtain ⟨b, v⟩ := e
    simp only [SMap.above, Bool.and_eq_true, decide_eq_true_eq] at hm ⊢
    exact ⟨by omega, ih hm.2⟩

theorem SMap.above_erase {k a : Nat} {m : SMap β} (hm : SMap.above a m = true) : SMap.above a (m.erase k) = true := by
  induction m with
  | nil => rfl
  | cons e m ih =>
    obtain ⟨b, v⟩ := e
    simp only [SMap.above, Bool.and_eq_true, decide_eq_true_eq] at hm
    by_cases h : k = b
    · simpa [SMap.erase, h] using h ▸ ih hm.2
    · simp [SMap.erase, h, SMap.above, hm.1, ih hm.2]

theorem SMap.above_insert {k a : Nat} (hk : a < k) (v : β) {m : SMap β} (hm : SMap.above a m = true) :
    SMap.above a (m.insert k v) = true := by
  induction m with
  | nil => simp [SMap.insert, SMap.above, hk]
  | cons e m ih =>
    obtain ⟨b, w⟩ := e
    simp only [SMap.above, Bool.and_eq_true, decide_eq_true_eq] at hm
    by_cases h1 : k < b
    · simp [SMap.insert, h1, SMap.above, hk, hm.1, hm.2]
    · by_cases h2 : k = b
      · simp [SMap.insert, h2, SMap.above, hm.1, hm.2]
      · simp [SMap.insert, h1, h2, SMap.above, hm.1, ih hm.2]

theorem SMap.wf_erase [DecidableEq β] (d : Nat → β) {m : SMap β} (k : Nat) (hm : SMap.wf d m = true) :
    SMap.wf d (m.erase k) = true := by
  induction m with
  | nil => rfl
  | cons e m ih =>
    obtain ⟨a, v⟩ := e
    simp only [SMap.wf, Bool.and_eq_true, decide_eq_true_eq] at hm
    by_cases h : k = a
    · simpa [SMap.erase, h] using h ▸ ih hm.2
    · simp [SMap.erase, h, SMap.wf, SMap.above_erase hm.1.1, hm.1.2, ih hm.2]

theorem SMap.wf_insert [DecidableEq β] (d : Nat → β) {m : SMap β} (k : Nat) {v : β} (hv : v ≠ d k)
    (hm : SMap.wf d m = true) : SMap.wf d (m.insert k v) = true := by
  induction m with
  | nil => simp [SMap.insert, SMap.wf, SMap.above, hv]
  | cons e m ih =>
    obtain ⟨a, w⟩ := e
    simp only [SMap.wf, Bool.and_eq_true, decide_eq_true_eq] at hm
    by_cases h1 : k < a
    · simp [SMap.insert, h1, SMap.wf, SMap.above, hv, hm.1.1, hm.1.2, hm.2, SMap.above_mono h1 hm.1.1]
    · by_cases h2 : k = a
      · subst h2; simp [SMap.insert, SMap.wf, hv, hm.1.1, hm.2]
      · have h3 : a < k := by omega
        simp [SMap.insert, h1, h2, SMap.wf, hm.1.2, ih hm.2, SMap.above_insert h3 v hm.1.1]

/-- A write keeps the canonical form. -/
theorem SMap.wf_set [DecidableEq β] (d : Nat → β) {m : SMap β} (k : Nat) (v : β) (hm : SMap.wf d m = true) :
    SMap.wf d (SMap.set d m k v) = true := by
  unfold SMap.set
  by_cases h : v = d k
  · simpa [h] using SMap.wf_erase d k hm
  · simpa [h] using SMap.wf_insert d k h hm

theorem SMap.above_clear {a : Nat} (p : Nat → Bool) {m : SMap β} (hm : SMap.above a m = true) :
    SMap.above a (m.clear p) = true := by
  induction m with
  | nil => rfl
  | cons e m ih =>
    obtain ⟨b, v⟩ := e
    simp only [SMap.above, Bool.and_eq_true, decide_eq_true_eq] at hm
    by_cases h : p b = true
    · simpa [SMap.clear, List.filter, h] using ih hm.2
    · simp only [Bool.not_eq_true] at h
      simp only [SMap.clear, List.filter, h, Bool.not_false, SMap.above, Bool.and_eq_true, decide_eq_true_eq]
      exact ⟨hm.1, ih hm.2⟩

/-- Clearing keys keeps the canonical form. -/
theorem SMap.wf_clear [DecidableEq β] (d : Nat → β) (p : Nat → Bool) {m : SMap β} (hm : SMap.wf d m = true) :
    SMap.wf d (m.clear p) = true := by
  induction m with
  | nil => rfl
  | cons e m ih =>
    obtain ⟨a, v⟩ := e
    simp only [SMap.wf, Bool.and_eq_true, decide_eq_true_eq] at hm
    by_cases h : p a = true
    · simpa [SMap.clear, List.filter, h] using ih hm.2
    · simp only [Bool.not_eq_true] at h
      simp only [SMap.clear, List.filter, h, Bool.not_false, SMap.wf, Bool.and_eq_true, decide_eq_true_eq]
      exact ⟨⟨SMap.above_clear p hm.1.1, hm.1.2⟩, ih hm.2⟩

theorem SMap.get_clear (d : Nat → β) (m : SMap β) (p : Nat → Bool) (j : Nat) :
    SMap.get d (m.clear p) j = if p j then d j else SMap.get d m j := by
  induction m with
  | nil => by_cases h : p j <;> simp [SMap.clear, h]
  | cons e m ih =>
    obtain ⟨a, v⟩ := e
    unfold SMap.clear at ih ⊢
    by_cases h : p a = true
    · by_cases h' : j = a
      · subst h'; simp [List.filter, h, ih]
      · simp [List.filter, h, ih, SMap.get, h']
    · simp only [Bool.not_eq_true] at h
      by_cases h' : j = a
      · subst h'; simp [List.filter, h, SMap.get]
      · simp [List.filter, h, SMap.get, h', ih]

/-- What lies below every key of a map reads as its default. -/
theorem SMap.get_of_above (d : Nat → β) {m : SMap β} {a k : Nat} (hk : k ≤ a) (hm : SMap.above a m = true) :
    SMap.get d m k = d k := by
  induction m with
  | nil => rfl
  | cons e m ih =>
    obtain ⟨b, v⟩ := e
    simp only [SMap.above, Bool.and_eq_true, decide_eq_true_eq] at hm
    have : k ≠ b := by omega
    simp [SMap.get, this, ih hm.2]

/-! ### Byte memories -/

@[simp] theorem Mem.byte_set (m : Mem) (a : Nat) (b : Byte) (j : Nat) :
    Mem.byte (SMap.set (fun _ => 0) m a b) j = if j = a then b else m.byte j := SMap.get_set _ m a b j

theorem Mem.wf_write {m : Mem} (a : Nat) (bs : List Byte) (hm : SMap.wf (fun _ => (0 : Byte)) m = true) :
    SMap.wf (fun _ => (0 : Byte)) (m.write a bs) = true := by
  induction bs generalizing m a with
  | nil => exact hm
  | cons b bs ih => exact ih (a + 1) (SMap.wf_set _ a b hm)

theorem Mem.wf_zero {m : Mem} (a n : Nat) (hm : SMap.wf (fun _ => (0 : Byte)) m = true) :
    SMap.wf (fun _ => (0 : Byte)) (m.zero a n) = true := SMap.wf_clear _ _ hm

end Sys2Proof.Machine
end

