-- ==== Sys2Proof/Laws/State.lean ====
section
/-! SUPPORT. What each basic update of the state leaves alone: one lemma for each field and update, true by definition, and what a
register or counter reads after it. -/
namespace Sys2Proof.Machine

/-! ### withQueue -/

@[simp] theorem State.withQueue_tick (s : State) (q : List Instr) : (s.withQueue q).tick = s.tick := rfl
@[simp] theorem State.withQueue_freeCtr (s : State) (q : List Instr) : (s.withQueue q).freeCtr = s.freeCtr := rfl
@[simp] theorem State.withQueue_regs (s : State) (q : List Instr) : (s.withQueue q).regs = s.regs := rfl
@[simp] theorem State.withQueue_cnts (s : State) (q : List Instr) : (s.withQueue q).cnts = s.cnts := rfl
@[simp] theorem State.withQueue_latches (s : State) (q : List Instr) : (s.withQueue q).latches = s.latches := rfl
@[simp] theorem State.withQueue_host (s : State) (q : List Instr) : (s.withQueue q).host = s.host := rfl
@[simp] theorem State.withQueue_fuses (s : State) (q : List Instr) : (s.withQueue q).fuses = s.fuses := rfl
@[simp] theorem State.withQueue_nvm (s : State) (q : List Instr) : (s.withQueue q).nvm = s.nvm := rfl
@[simp] theorem State.withQueue_alm (s : State) (q : List Instr) : (s.withQueue q).alm = s.alm := rfl
@[simp] theorem State.withQueue_sets (s : State) (q : List Instr) : (s.withQueue q).sets = s.sets := rfl
@[simp] theorem State.withQueue_mbx (s : State) (q : List Instr) : (s.withQueue q).mbx = s.mbx := rfl
@[simp] theorem State.withQueue_image (s : State) (q : List Instr) : (s.withQueue q).image = s.image := rfl
@[simp] theorem State.withQueue_loader (s : State) (q : List Instr) : (s.withQueue q).loader = s.loader := rfl
@[simp] theorem State.withQueue_runs (s : State) (q : List Instr) : (s.withQueue q).runs = s.runs := rfl
@[simp] theorem State.withQueue_ctxs (s : State) (q : List Instr) : (s.withQueue q).ctxs = s.ctxs := rfl
@[simp] theorem State.withQueue_arbs (s : State) (q : List Instr) : (s.withQueue q).arbs = s.arbs := rfl
@[simp] theorem State.withQueue_cmds (s : State) (q : List Instr) : (s.withQueue q).cmds = s.cmds := rfl
@[simp] theorem State.withQueue_nextId (s : State) (q : List Instr) : (s.withQueue q).nextId = s.nextId := rfl
@[simp] theorem State.withQueue_cores (s : State) (q : List Instr) : (s.withQueue q).cores = s.cores := rfl
@[simp] theorem State.withQueue_mem (s : State) (q : List Instr) : (s.withQueue q).mem = s.mem := rfl
@[simp] theorem State.withQueue_nbus (s : State) (q : List Instr) : (s.withQueue q).nbus = s.nbus := rfl
@[simp] theorem State.withQueue_nbuReady (s : State) (q : List Instr) : (s.withQueue q).nbuReady = s.nbuReady := rfl
@[simp] theorem State.withQueue_kv (s : State) (q : List Instr) : (s.withQueue q).kv = s.kv := rfl
@[simp] theorem State.withQueue_copies (s : State) (q : List Instr) : (s.withQueue q).copies = s.copies := rfl
@[simp] theorem State.withQueue_sentinel (s : State) (q : List Instr) : (s.withQueue q).sentinel = s.sentinel := rfl
@[simp] theorem State.withQueue_drifted (s : State) (q : List Instr) : (s.withQueue q).drifted = s.drifted := rfl
@[simp] theorem State.withQueue_resets (s : State) (q : List Instr) : (s.withQueue q).resets = s.resets := rfl
@[simp] theorem State.withQueue_sec (s : State) (q : List Instr) : (s.withQueue q).sec = s.sec := rfl
@[simp] theorem State.withQueue_mctp (s : State) (q : List Instr) : (s.withQueue q).mctp = s.mctp := rfl
@[simp] theorem State.withQueue_pcie (s : State) (q : List Instr) : (s.withQueue q).pcie = s.pcie := rfl
@[simp] theorem State.withQueue_pins (s : State) (q : List Instr) : (s.withQueue q).pins = s.pins := rfl
@[simp] theorem State.withQueue_power (s : State) (q : List Instr) : (s.withQueue q).power = s.power := rfl
@[simp] theorem State.withQueue_clocks (s : State) (q : List Instr) : (s.withQueue q).clocks = s.clocks := rfl
@[simp] theorem State.withQueue_thermal (s : State) (q : List Instr) : (s.withQueue q).thermal = s.thermal := rfl
@[simp] theorem State.withQueue_fab (s : State) (q : List Instr) : (s.withQueue q).fab = s.fab := rfl
@[simp] theorem State.withQueue_casc (s : State) (q : List Instr) : (s.withQueue q).casc = s.casc := rfl
@[simp] theorem State.withQueue_parity (s : State) (q : List Instr) : (s.withQueue q).parity = s.parity := rfl
@[simp] theorem State.withQueue_out (s : State) (q : List Instr) : (s.withQueue q).out = s.out := rfl

/-! ### setReg -/

@[simp] theorem State.setReg_pending (s : State) (a : Nat) (v : Word) : (s.setReg a v).pending = s.pending := rfl
@[simp] theorem State.setReg_tick (s : State) (a : Nat) (v : Word) : (s.setReg a v).tick = s.tick := rfl
@[simp] theorem State.setReg_freeCtr (s : State) (a : Nat) (v : Word) : (s.setReg a v).freeCtr = s.freeCtr := rfl
@[simp] theorem State.setReg_cnts (s : State) (a : Nat) (v : Word) : (s.setReg a v).cnts = s.cnts := rfl
@[simp] theorem State.setReg_latches (s : State) (a : Nat) (v : Word) : (s.setReg a v).latches = s.latches := rfl
@[simp] theorem State.setReg_host (s : State) (a : Nat) (v : Word) : (s.setReg a v).host = s.host := rfl
@[simp] theorem State.setReg_fuses (s : State) (a : Nat) (v : Word) : (s.setReg a v).fuses = s.fuses := rfl
@[simp] theorem State.setReg_nvm (s : State) (a : Nat) (v : Word) : (s.setReg a v).nvm = s.nvm := rfl
@[simp] theorem State.setReg_alm (s : State) (a : Nat) (v : Word) : (s.setReg a v).alm = s.alm := rfl
@[simp] theorem State.setReg_sets (s : State) (a : Nat) (v : Word) : (s.setReg a v).sets = s.sets := rfl
@[simp] theorem State.setReg_mbx (s : State) (a : Nat) (v : Word) : (s.setReg a v).mbx = s.mbx := rfl
@[simp] theorem State.setReg_image (s : State) (a : Nat) (v : Word) : (s.setReg a v).image = s.image := rfl
@[simp] theorem State.setReg_loader (s : State) (a : Nat) (v : Word) : (s.setReg a v).loader = s.loader := rfl
@[simp] theorem State.setReg_runs (s : State) (a : Nat) (v : Word) : (s.setReg a v).runs = s.runs := rfl
@[simp] theorem State.setReg_ctxs (s : State) (a : Nat) (v : Word) : (s.setReg a v).ctxs = s.ctxs := rfl
@[simp] theorem State.setReg_arbs (s : State) (a : Nat) (v : Word) : (s.setReg a v).arbs = s.arbs := rfl
@[simp] theorem State.setReg_cmds (s : State) (a : Nat) (v : Word) : (s.setReg a v).cmds = s.cmds := rfl
@[simp] theorem State.setReg_nextId (s : State) (a : Nat) (v : Word) : (s.setReg a v).nextId = s.nextId := rfl
@[simp] theorem State.setReg_cores (s : State) (a : Nat) (v : Word) : (s.setReg a v).cores = s.cores := rfl
@[simp] theorem State.setReg_mem (s : State) (a : Nat) (v : Word) : (s.setReg a v).mem = s.mem := rfl
@[simp] theorem State.setReg_nbus (s : State) (a : Nat) (v : Word) : (s.setReg a v).nbus = s.nbus := rfl
@[simp] theorem State.setReg_nbuReady (s : State) (a : Nat) (v : Word) : (s.setReg a v).nbuReady = s.nbuReady := rfl
@[simp] theorem State.setReg_kv (s : State) (a : Nat) (v : Word) : (s.setReg a v).kv = s.kv := rfl
@[simp] theorem State.setReg_copies (s : State) (a : Nat) (v : Word) : (s.setReg a v).copies = s.copies := rfl
@[simp] theorem State.setReg_sentinel (s : State) (a : Nat) (v : Word) : (s.setReg a v).sentinel = s.sentinel := rfl
@[simp] theorem State.setReg_drifted (s : State) (a : Nat) (v : Word) : (s.setReg a v).drifted = s.drifted := rfl
@[simp] theorem State.setReg_resets (s : State) (a : Nat) (v : Word) : (s.setReg a v).resets = s.resets := rfl
@[simp] theorem State.setReg_sec (s : State) (a : Nat) (v : Word) : (s.setReg a v).sec = s.sec := rfl
@[simp] theorem State.setReg_mctp (s : State) (a : Nat) (v : Word) : (s.setReg a v).mctp = s.mctp := rfl
@[simp] theorem State.setReg_pcie (s : State) (a : Nat) (v : Word) : (s.setReg a v).pcie = s.pcie := rfl
@[simp] theorem State.setReg_pins (s : State) (a : Nat) (v : Word) : (s.setReg a v).pins = s.pins := rfl
@[simp] theorem State.setReg_power (s : State) (a : Nat) (v : Word) : (s.setReg a v).power = s.power := rfl
@[simp] theorem State.setReg_clocks (s : State) (a : Nat) (v : Word) : (s.setReg a v).clocks = s.clocks := rfl
@[simp] theorem State.setReg_thermal (s : State) (a : Nat) (v : Word) : (s.setReg a v).thermal = s.thermal := rfl
@[simp] theorem State.setReg_fab (s : State) (a : Nat) (v : Word) : (s.setReg a v).fab = s.fab := rfl
@[simp] theorem State.setReg_casc (s : State) (a : Nat) (v : Word) : (s.setReg a v).casc = s.casc := rfl
@[simp] theorem State.setReg_parity (s : State) (a : Nat) (v : Word) : (s.setReg a v).parity = s.parity := rfl
@[simp] theorem State.setReg_out (s : State) (a : Nat) (v : Word) : (s.setReg a v).out = s.out := rfl

/-! ### setFld -/

@[simp] theorem State.setFld_pending (s : State) (a hi lo v : Nat) : (s.setFld a hi lo v).pending = s.pending := rfl
@[simp] theorem State.setFld_tick (s : State) (a hi lo v : Nat) : (s.setFld a hi lo v).tick = s.tick := rfl
@[simp] theorem State.setFld_freeCtr (s : State) (a hi lo v : Nat) : (s.setFld a hi lo v).freeCtr = s.freeCtr := rfl
@[simp] theorem State.setFld_cnts (s : State) (a hi lo v : Nat) : (s.setFld a hi lo v).cnts = s.cnts := rfl
@[simp] theorem State.setFld_latches (s : State) (a hi lo v : Nat) : (s.setFld a hi lo v).latches = s.latches := rfl
@[simp] theorem State.setFld_host (s : State) (a hi lo v : Nat) : (s.setFld a hi lo v).host = s.host := rfl
@[simp] theorem State.setFld_fuses (s : State) (a hi lo v : Nat) : (s.setFld a hi lo v).fuses = s.fuses := rfl
@[simp] theorem State.setFld_nvm (s : State) (a hi lo v : Nat) : (s.setFld a hi lo v).nvm = s.nvm := rfl
@[simp] theorem State.setFld_alm (s : State) (a hi lo v : Nat) : (s.setFld a hi lo v).alm = s.alm := rfl
@[simp] theorem State.setFld_sets (s : State) (a hi lo v : Nat) : (s.setFld a hi lo v).sets = s.sets := rfl
@[simp] theorem State.setFld_mbx (s : State) (a hi lo v : Nat) : (s.setFld a hi lo v).mbx = s.mbx := rfl
@[simp] theorem State.setFld_image (s : State) (a hi lo v : Nat) : (s.setFld a hi lo v).image = s.image := rfl
@[simp] theorem State.setFld_loader (s : State) (a hi lo v : Nat) : (s.setFld a hi lo v).loader = s.loader := rfl
@[simp] theorem State.setFld_runs (s : State) (a hi lo v : Nat) : (s.setFld a hi lo v).runs = s.runs := rfl
@[simp] theorem State.setFld_ctxs (s : State) (a hi lo v : Nat) : (s.setFld a hi lo v).ctxs = s.ctxs := rfl
@[simp] theorem State.setFld_arbs (s : State) (a hi lo v : Nat) : (s.setFld a hi lo v).arbs = s.arbs := rfl
@[simp] theorem State.setFld_cmds (s : State) (a hi lo v : Nat) : (s.setFld a hi lo v).cmds = s.cmds := rfl
@[simp] theorem State.setFld_nextId (s : State) (a hi lo v : Nat) : (s.setFld a hi lo v).nextId = s.nextId := rfl
@[simp] theorem State.setFld_cores (s : State) (a hi lo v : Nat) : (s.setFld a hi lo v).cores = s.cores := rfl
@[simp] theorem State.setFld_mem (s : State) (a hi lo v : Nat) : (s.setFld a hi lo v).mem = s.mem := rfl
@[simp] theorem State.setFld_nbus (s : State) (a hi lo v : Nat) : (s.setFld a hi lo v).nbus = s.nbus := rfl
@[simp] theorem State.setFld_nbuReady (s : State) (a hi lo v : Nat) : (s.setFld a hi lo v).nbuReady = s.nbuReady := rfl
@[simp] theorem State.setFld_kv (s : State) (a hi lo v : Nat) : (s.setFld a hi lo v).kv = s.kv := rfl
@[simp] theorem State.setFld_copies (s : State) (a hi lo v : Nat) : (s.setFld a hi lo v).copies = s.copies := rfl
@[simp] theorem State.setFld_sentinel (s : State) (a hi lo v : Nat) : (s.setFld a hi lo v).sentinel = s.sentinel := rfl
@[simp] theorem State.setFld_drifted (s : State) (a hi lo v : Nat) : (s.setFld a hi lo v).drifted = s.drifted := rfl
@[simp] theorem State.setFld_resets (s : State) (a hi lo v : Nat) : (s.setFld a hi lo v).resets = s.resets := rfl
@[simp] theorem State.setFld_sec (s : State) (a hi lo v : Nat) : (s.setFld a hi lo v).sec = s.sec := rfl
@[simp] theorem State.setFld_mctp (s : State) (a hi lo v : Nat) : (s.setFld a hi lo v).mctp = s.mctp := rfl
@[simp] theorem State.setFld_pcie (s : State) (a hi lo v : Nat) : (s.setFld a hi lo v).pcie = s.pcie := rfl
@[simp] theorem State.setFld_pins (s : State) (a hi lo v : Nat) : (s.setFld a hi lo v).pins = s.pins := rfl
@[simp] theorem State.setFld_power (s : State) (a hi lo v : Nat) : (s.setFld a hi lo v).power = s.power := rfl
@[simp] theorem State.setFld_clocks (s : State) (a hi lo v : Nat) : (s.setFld a hi lo v).clocks = s.clocks := rfl
@[simp] theorem State.setFld_thermal (s : State) (a hi lo v : Nat) : (s.setFld a hi lo v).thermal = s.thermal := rfl
@[simp] theorem State.setFld_fab (s : State) (a hi lo v : Nat) : (s.setFld a hi lo v).fab = s.fab := rfl
@[simp] theorem State.setFld_casc (s : State) (a hi lo v : Nat) : (s.setFld a hi lo v).casc = s.casc := rfl
@[simp] theorem State.setFld_parity (s : State) (a hi lo v : Nat) : (s.setFld a hi lo v).parity = s.parity := rfl
@[simp] theorem State.setFld_out (s : State) (a hi lo v : Nat) : (s.setFld a hi lo v).out = s.out := rfl

/-! ### setBit -/

@[simp] theorem State.setBit_pending (s : State) (a i : Nat) (b : Bool) : (s.setBit a i b).pending = s.pending := rfl
@[simp] theorem State.setBit_tick (s : State) (a i : Nat) (b : Bool) : (s.setBit a i b).tick = s.tick := rfl
@[simp] theorem State.setBit_freeCtr (s : State) (a i : Nat) (b : Bool) : (s.setBit a i b).freeCtr = s.freeCtr := rfl
@[simp] theorem State.setBit_cnts (s : State) (a i : Nat) (b : Bool) : (s.setBit a i b).cnts = s.cnts := rfl
@[simp] theorem State.setBit_latches (s : State) (a i : Nat) (b : Bool) : (s.setBit a i b).latches = s.latches := rfl
@[simp] theorem State.setBit_host (s : State) (a i : Nat) (b : Bool) : (s.setBit a i b).host = s.host := rfl
@[simp] theorem State.setBit_fuses (s : State) (a i : Nat) (b : Bool) : (s.setBit a i b).fuses = s.fuses := rfl
@[simp] theorem State.setBit_nvm (s : State) (a i : Nat) (b : Bool) : (s.setBit a i b).nvm = s.nvm := rfl
@[simp] theorem State.setBit_alm (s : State) (a i : Nat) (b : Bool) : (s.setBit a i b).alm = s.alm := rfl
@[simp] theorem State.setBit_sets (s : State) (a i : Nat) (b : Bool) : (s.setBit a i b).sets = s.sets := rfl
@[simp] theorem State.setBit_mbx (s : State) (a i : Nat) (b : Bool) : (s.setBit a i b).mbx = s.mbx := rfl
@[simp] theorem State.setBit_image (s : State) (a i : Nat) (b : Bool) : (s.setBit a i b).image = s.image := rfl
@[simp] theorem State.setBit_loader (s : State) (a i : Nat) (b : Bool) : (s.setBit a i b).loader = s.loader := rfl
@[simp] theorem State.setBit_runs (s : State) (a i : Nat) (b : Bool) : (s.setBit a i b).runs = s.runs := rfl
@[simp] theorem State.setBit_ctxs (s : State) (a i : Nat) (b : Bool) : (s.setBit a i b).ctxs = s.ctxs := rfl
@[simp] theorem State.setBit_arbs (s : State) (a i : Nat) (b : Bool) : (s.setBit a i b).arbs = s.arbs := rfl
@[simp] theorem State.setBit_cmds (s : State) (a i : Nat) (b : Bool) : (s.setBit a i b).cmds = s.cmds := rfl
@[simp] theorem State.setBit_nextId (s : State) (a i : Nat) (b : Bool) : (s.setBit a i b).nextId = s.nextId := rfl
@[simp] theorem State.setBit_cores (s : State) (a i : Nat) (b : Bool) : (s.setBit a i b).cores = s.cores := rfl
@[simp] theorem State.setBit_mem (s : State) (a i : Nat) (b : Bool) : (s.setBit a i b).mem = s.mem := rfl
@[simp] theorem State.setBit_nbus (s : State) (a i : Nat) (b : Bool) : (s.setBit a i b).nbus = s.nbus := rfl
@[simp] theorem State.setBit_nbuReady (s : State) (a i : Nat) (b : Bool) : (s.setBit a i b).nbuReady = s.nbuReady := rfl
@[simp] theorem State.setBit_kv (s : State) (a i : Nat) (b : Bool) : (s.setBit a i b).kv = s.kv := rfl
@[simp] theorem State.setBit_copies (s : State) (a i : Nat) (b : Bool) : (s.setBit a i b).copies = s.copies := rfl
@[simp] theorem State.setBit_sentinel (s : State) (a i : Nat) (b : Bool) : (s.setBit a i b).sentinel = s.sentinel := rfl
@[simp] theorem State.setBit_drifted (s : State) (a i : Nat) (b : Bool) : (s.setBit a i b).drifted = s.drifted := rfl
@[simp] theorem State.setBit_resets (s : State) (a i : Nat) (b : Bool) : (s.setBit a i b).resets = s.resets := rfl
@[simp] theorem State.setBit_sec (s : State) (a i : Nat) (b : Bool) : (s.setBit a i b).sec = s.sec := rfl
@[simp] theorem State.setBit_mctp (s : State) (a i : Nat) (b : Bool) : (s.setBit a i b).mctp = s.mctp := rfl
@[simp] theorem State.setBit_pcie (s : State) (a i : Nat) (b : Bool) : (s.setBit a i b).pcie = s.pcie := rfl
@[simp] theorem State.setBit_pins (s : State) (a i : Nat) (b : Bool) : (s.setBit a i b).pins = s.pins := rfl
@[simp] theorem State.setBit_power (s : State) (a i : Nat) (b : Bool) : (s.setBit a i b).power = s.power := rfl
@[simp] theorem State.setBit_clocks (s : State) (a i : Nat) (b : Bool) : (s.setBit a i b).clocks = s.clocks := rfl
@[simp] theorem State.setBit_thermal (s : State) (a i : Nat) (b : Bool) : (s.setBit a i b).thermal = s.thermal := rfl
@[simp] theorem State.setBit_fab (s : State) (a i : Nat) (b : Bool) : (s.setBit a i b).fab = s.fab := rfl
@[simp] theorem State.setBit_casc (s : State) (a i : Nat) (b : Bool) : (s.setBit a i b).casc = s.casc := rfl
@[simp] theorem State.setBit_parity (s : State) (a i : Nat) (b : Bool) : (s.setBit a i b).parity = s.parity := rfl
@[simp] theorem State.setBit_out (s : State) (a i : Nat) (b : Bool) : (s.setBit a i b).out = s.out := rfl

/-! ### setNat -/

@[simp] theorem State.setNat_pending (s : State) (a v : Nat) : (s.setNat a v).pending = s.pending := rfl
@[simp] theorem State.setNat_tick (s : State) (a v : Nat) : (s.setNat a v).tick = s.tick := rfl
@[simp] theorem State.setNat_freeCtr (s : State) (a v : Nat) : (s.setNat a v).freeCtr = s.freeCtr := rfl
@[simp] theorem State.setNat_cnts (s : State) (a v : Nat) : (s.setNat a v).cnts = s.cnts := rfl
@[simp] theorem State.setNat_latches (s : State) (a v : Nat) : (s.setNat a v).latches = s.latches := rfl
@[simp] theorem State.setNat_host (s : State) (a v : Nat) : (s.setNat a v).host = s.host := rfl
@[simp] theorem State.setNat_fuses (s : State) (a v : Nat) : (s.setNat a v).fuses = s.fuses := rfl
@[simp] theorem State.setNat_nvm (s : State) (a v : Nat) : (s.setNat a v).nvm = s.nvm := rfl
@[simp] theorem State.setNat_alm (s : State) (a v : Nat) : (s.setNat a v).alm = s.alm := rfl
@[simp] theorem State.setNat_sets (s : State) (a v : Nat) : (s.setNat a v).sets = s.sets := rfl
@[simp] theorem State.setNat_mbx (s : State) (a v : Nat) : (s.setNat a v).mbx = s.mbx := rfl
@[simp] theorem State.setNat_image (s : State) (a v : Nat) : (s.setNat a v).image = s.image := rfl
@[simp] theorem State.setNat_loader (s : State) (a v : Nat) : (s.setNat a v).loader = s.loader := rfl
@[simp] theorem State.setNat_runs (s : State) (a v : Nat) : (s.setNat a v).runs = s.runs := rfl
@[simp] theorem State.setNat_ctxs (s : State) (a v : Nat) : (s.setNat a v).ctxs = s.ctxs := rfl
@[simp] theorem State.setNat_arbs (s : State) (a v : Nat) : (s.setNat a v).arbs = s.arbs := rfl
@[simp] theorem State.setNat_cmds (s : State) (a v : Nat) : (s.setNat a v).cmds = s.cmds := rfl
@[simp] theorem State.setNat_nextId (s : State) (a v : Nat) : (s.setNat a v).nextId = s.nextId := rfl
@[simp] theorem State.setNat_cores (s : State) (a v : Nat) : (s.setNat a v).cores = s.cores := rfl
@[simp] theorem State.setNat_mem (s : State) (a v : Nat) : (s.setNat a v).mem = s.mem := rfl
@[simp] theorem State.setNat_nbus (s : State) (a v : Nat) : (s.setNat a v).nbus = s.nbus := rfl
@[simp] theorem State.setNat_nbuReady (s : State) (a v : Nat) : (s.setNat a v).nbuReady = s.nbuReady := rfl
@[simp] theorem State.setNat_kv (s : State) (a v : Nat) : (s.setNat a v).kv = s.kv := rfl
@[simp] theorem State.setNat_copies (s : State) (a v : Nat) : (s.setNat a v).copies = s.copies := rfl
@[simp] theorem State.setNat_sentinel (s : State) (a v : Nat) : (s.setNat a v).sentinel = s.sentinel := rfl
@[simp] theorem State.setNat_drifted (s : State) (a v : Nat) : (s.setNat a v).drifted = s.drifted := rfl
@[simp] theorem State.setNat_resets (s : State) (a v : Nat) : (s.setNat a v).resets = s.resets := rfl
@[simp] theorem State.setNat_sec (s : State) (a v : Nat) : (s.setNat a v).sec = s.sec := rfl
@[simp] theorem State.setNat_mctp (s : State) (a v : Nat) : (s.setNat a v).mctp = s.mctp := rfl
@[simp] theorem State.setNat_pcie (s : State) (a v : Nat) : (s.setNat a v).pcie = s.pcie := rfl
@[simp] theorem State.setNat_pins (s : State) (a v : Nat) : (s.setNat a v).pins = s.pins := rfl
@[simp] theorem State.setNat_power (s : State) (a v : Nat) : (s.setNat a v).power = s.power := rfl
@[simp] theorem State.setNat_clocks (s : State) (a v : Nat) : (s.setNat a v).clocks = s.clocks := rfl
@[simp] theorem State.setNat_thermal (s : State) (a v : Nat) : (s.setNat a v).thermal = s.thermal := rfl
@[simp] theorem State.setNat_fab (s : State) (a v : Nat) : (s.setNat a v).fab = s.fab := rfl
@[simp] theorem State.setNat_casc (s : State) (a v : Nat) : (s.setNat a v).casc = s.casc := rfl
@[simp] theorem State.setNat_parity (s : State) (a v : Nat) : (s.setNat a v).parity = s.parity := rfl
@[simp] theorem State.setNat_out (s : State) (a v : Nat) : (s.setNat a v).out = s.out := rfl

/-! ### bumpFld -/

@[simp] theorem State.bumpFld_pending (s : State) (a hi lo n : Nat) : (s.bumpFld a hi lo n).pending = s.pending := rfl
@[simp] theorem State.bumpFld_tick (s : State) (a hi lo n : Nat) : (s.bumpFld a hi lo n).tick = s.tick := rfl
@[simp] theorem State.bumpFld_freeCtr (s : State) (a hi lo n : Nat) : (s.bumpFld a hi lo n).freeCtr = s.freeCtr := rfl
@[simp] theorem State.bumpFld_cnts (s : State) (a hi lo n : Nat) : (s.bumpFld a hi lo n).cnts = s.cnts := rfl
@[simp] theorem State.bumpFld_latches (s : State) (a hi lo n : Nat) : (s.bumpFld a hi lo n).latches = s.latches := rfl
@[simp] theorem State.bumpFld_host (s : State) (a hi lo n : Nat) : (s.bumpFld a hi lo n).host = s.host := rfl
@[simp] theorem State.bumpFld_fuses (s : State) (a hi lo n : Nat) : (s.bumpFld a hi lo n).fuses = s.fuses := rfl
@[simp] theorem State.bumpFld_nvm (s : State) (a hi lo n : Nat) : (s.bumpFld a hi lo n).nvm = s.nvm := rfl
@[simp] theorem State.bumpFld_alm (s : State) (a hi lo n : Nat) : (s.bumpFld a hi lo n).alm = s.alm := rfl
@[simp] theorem State.bumpFld_sets (s : State) (a hi lo n : Nat) : (s.bumpFld a hi lo n).sets = s.sets := rfl
@[simp] theorem State.bumpFld_mbx (s : State) (a hi lo n : Nat) : (s.bumpFld a hi lo n).mbx = s.mbx := rfl
@[simp] theorem State.bumpFld_image (s : State) (a hi lo n : Nat) : (s.bumpFld a hi lo n).image = s.image := rfl
@[simp] theorem State.bumpFld_loader (s : State) (a hi lo n : Nat) : (s.bumpFld a hi lo n).loader = s.loader := rfl
@[simp] theorem State.bumpFld_runs (s : State) (a hi lo n : Nat) : (s.bumpFld a hi lo n).runs = s.runs := rfl
@[simp] theorem State.bumpFld_ctxs (s : State) (a hi lo n : Nat) : (s.bumpFld a hi lo n).ctxs = s.ctxs := rfl
@[simp] theorem State.bumpFld_arbs (s : State) (a hi lo n : Nat) : (s.bumpFld a hi lo n).arbs = s.arbs := rfl
@[simp] theorem State.bumpFld_cmds (s : State) (a hi lo n : Nat) : (s.bumpFld a hi lo n).cmds = s.cmds := rfl
@[simp] theorem State.bumpFld_nextId (s : State) (a hi lo n : Nat) : (s.bumpFld a hi lo n).nextId = s.nextId := rfl
@[simp] theorem State.bumpFld_cores (s : State) (a hi lo n : Nat) : (s.bumpFld a hi lo n).cores = s.cores := rfl
@[simp] theorem State.bumpFld_mem (s : State) (a hi lo n : Nat) : (s.bumpFld a hi lo n).mem = s.mem := rfl
@[simp] theorem State.bumpFld_nbus (s : State) (a hi lo n : Nat) : (s.bumpFld a hi lo n).nbus = s.nbus := rfl
@[simp] theorem State.bumpFld_nbuReady (s : State) (a hi lo n : Nat) : (s.bumpFld a hi lo n).nbuReady = s.nbuReady := rfl
@[simp] theorem State.bumpFld_kv (s : State) (a hi lo n : Nat) : (s.bumpFld a hi lo n).kv = s.kv := rfl
@[simp] theorem State.bumpFld_copies (s : State) (a hi lo n : Nat) : (s.bumpFld a hi lo n).copies = s.copies := rfl
@[simp] theorem State.bumpFld_sentinel (s : State) (a hi lo n : Nat) : (s.bumpFld a hi lo n).sentinel = s.sentinel := rfl
@[simp] theorem State.bumpFld_drifted (s : State) (a hi lo n : Nat) : (s.bumpFld a hi lo n).drifted = s.drifted := rfl
@[simp] theorem State.bumpFld_resets (s : State) (a hi lo n : Nat) : (s.bumpFld a hi lo n).resets = s.resets := rfl
@[simp] theorem State.bumpFld_sec (s : State) (a hi lo n : Nat) : (s.bumpFld a hi lo n).sec = s.sec := rfl
@[simp] theorem State.bumpFld_mctp (s : State) (a hi lo n : Nat) : (s.bumpFld a hi lo n).mctp = s.mctp := rfl
@[simp] theorem State.bumpFld_pcie (s : State) (a hi lo n : Nat) : (s.bumpFld a hi lo n).pcie = s.pcie := rfl
@[simp] theorem State.bumpFld_pins (s : State) (a hi lo n : Nat) : (s.bumpFld a hi lo n).pins = s.pins := rfl
@[simp] theorem State.bumpFld_power (s : State) (a hi lo n : Nat) : (s.bumpFld a hi lo n).power = s.power := rfl
@[simp] theorem State.bumpFld_clocks (s : State) (a hi lo n : Nat) : (s.bumpFld a hi lo n).clocks = s.clocks := rfl
@[simp] theorem State.bumpFld_thermal (s : State) (a hi lo n : Nat) : (s.bumpFld a hi lo n).thermal = s.thermal := rfl
@[simp] theorem State.bumpFld_fab (s : State) (a hi lo n : Nat) : (s.bumpFld a hi lo n).fab = s.fab := rfl
@[simp] theorem State.bumpFld_casc (s : State) (a hi lo n : Nat) : (s.bumpFld a hi lo n).casc = s.casc := rfl
@[simp] theorem State.bumpFld_parity (s : State) (a hi lo n : Nat) : (s.bumpFld a hi lo n).parity = s.parity := rfl
@[simp] theorem State.bumpFld_out (s : State) (a hi lo n : Nat) : (s.bumpFld a hi lo n).out = s.out := rfl

/-! ### bump -/

@[simp] theorem State.bump_pending (s : State) (a : Nat) : (s.bump a).pending = s.pending := rfl
@[simp] theorem State.bump_tick (s : State) (a : Nat) : (s.bump a).tick = s.tick := rfl
@[simp] theorem State.bump_freeCtr (s : State) (a : Nat) : (s.bump a).freeCtr = s.freeCtr := rfl
@[simp] theorem State.bump_cnts (s : State) (a : Nat) : (s.bump a).cnts = s.cnts := rfl
@[simp] theorem State.bump_latches (s : State) (a : Nat) : (s.bump a).latches = s.latches := rfl
@[simp] theorem State.bump_host (s : State) (a : Nat) : (s.bump a).host = s.host := rfl
@[simp] theorem State.bump_fuses (s : State) (a : Nat) : (s.bump a).fuses = s.fuses := rfl
@[simp] theorem State.bump_nvm (s : State) (a : Nat) : (s.bump a).nvm = s.nvm := rfl
@[simp] theorem State.bump_alm (s : State) (a : Nat) : (s.bump a).alm = s.alm := rfl
@[simp] theorem State.bump_sets (s : State) (a : Nat) : (s.bump a).sets = s.sets := rfl
@[simp] theorem State.bump_mbx (s : State) (a : Nat) : (s.bump a).mbx = s.mbx := rfl
@[simp] theorem State.bump_image (s : State) (a : Nat) : (s.bump a).image = s.image := rfl
@[simp] theorem State.bump_loader (s : State) (a : Nat) : (s.bump a).loader = s.loader := rfl
@[simp] theorem State.bump_runs (s : State) (a : Nat) : (s.bump a).runs = s.runs := rfl
@[simp] theorem State.bump_ctxs (s : State) (a : Nat) : (s.bump a).ctxs = s.ctxs := rfl
@[simp] theorem State.bump_arbs (s : State) (a : Nat) : (s.bump a).arbs = s.arbs := rfl
@[simp] theorem State.bump_cmds (s : State) (a : Nat) : (s.bump a).cmds = s.cmds := rfl
@[simp] theorem State.bump_nextId (s : State) (a : Nat) : (s.bump a).nextId = s.nextId := rfl
@[simp] theorem State.bump_cores (s : State) (a : Nat) : (s.bump a).cores = s.cores := rfl
@[simp] theorem State.bump_mem (s : State) (a : Nat) : (s.bump a).mem = s.mem := rfl
@[simp] theorem State.bump_nbus (s : State) (a : Nat) : (s.bump a).nbus = s.nbus := rfl
@[simp] theorem State.bump_nbuReady (s : State) (a : Nat) : (s.bump a).nbuReady = s.nbuReady := rfl
@[simp] theorem State.bump_kv (s : State) (a : Nat) : (s.bump a).kv = s.kv := rfl
@[simp] theorem State.bump_copies (s : State) (a : Nat) : (s.bump a).copies = s.copies := rfl
@[simp] theorem State.bump_sentinel (s : State) (a : Nat) : (s.bump a).sentinel = s.sentinel := rfl
@[simp] theorem State.bump_drifted (s : State) (a : Nat) : (s.bump a).drifted = s.drifted := rfl
@[simp] theorem State.bump_resets (s : State) (a : Nat) : (s.bump a).resets = s.resets := rfl
@[simp] theorem State.bump_sec (s : State) (a : Nat) : (s.bump a).sec = s.sec := rfl
@[simp] theorem State.bump_mctp (s : State) (a : Nat) : (s.bump a).mctp = s.mctp := rfl
@[simp] theorem State.bump_pcie (s : State) (a : Nat) : (s.bump a).pcie = s.pcie := rfl
@[simp] theorem State.bump_pins (s : State) (a : Nat) : (s.bump a).pins = s.pins := rfl
@[simp] theorem State.bump_power (s : State) (a : Nat) : (s.bump a).power = s.power := rfl
@[simp] theorem State.bump_clocks (s : State) (a : Nat) : (s.bump a).clocks = s.clocks := rfl
@[simp] theorem State.bump_thermal (s : State) (a : Nat) : (s.bump a).thermal = s.thermal := rfl
@[simp] theorem State.bump_fab (s : State) (a : Nat) : (s.bump a).fab = s.fab := rfl
@[simp] theorem State.bump_casc (s : State) (a : Nat) : (s.bump a).casc = s.casc := rfl
@[simp] theorem State.bump_parity (s : State) (a : Nat) : (s.bump a).parity = s.parity := rfl
@[simp] theorem State.bump_out (s : State) (a : Nat) : (s.bump a).out = s.out := rfl

/-! ### addCnt -/

@[simp] theorem State.addCnt_pending (s : State) (a n : Nat) : (s.addCnt a n).pending = s.pending := rfl
@[simp] theorem State.addCnt_tick (s : State) (a n : Nat) : (s.addCnt a n).tick = s.tick := rfl
@[simp] theorem State.addCnt_freeCtr (s : State) (a n : Nat) : (s.addCnt a n).freeCtr = s.freeCtr := rfl
@[simp] theorem State.addCnt_regs (s : State) (a n : Nat) : (s.addCnt a n).regs = s.regs := rfl
@[simp] theorem State.addCnt_latches (s : State) (a n : Nat) : (s.addCnt a n).latches = s.latches := rfl
@[simp] theorem State.addCnt_host (s : State) (a n : Nat) : (s.addCnt a n).host = s.host := rfl
@[simp] theorem State.addCnt_fuses (s : State) (a n : Nat) : (s.addCnt a n).fuses = s.fuses := rfl
@[simp] theorem State.addCnt_nvm (s : State) (a n : Nat) : (s.addCnt a n).nvm = s.nvm := rfl
@[simp] theorem State.addCnt_alm (s : State) (a n : Nat) : (s.addCnt a n).alm = s.alm := rfl
@[simp] theorem State.addCnt_sets (s : State) (a n : Nat) : (s.addCnt a n).sets = s.sets := rfl
@[simp] theorem State.addCnt_mbx (s : State) (a n : Nat) : (s.addCnt a n).mbx = s.mbx := rfl
@[simp] theorem State.addCnt_image (s : State) (a n : Nat) : (s.addCnt a n).image = s.image := rfl
@[simp] theorem State.addCnt_loader (s : State) (a n : Nat) : (s.addCnt a n).loader = s.loader := rfl
@[simp] theorem State.addCnt_runs (s : State) (a n : Nat) : (s.addCnt a n).runs = s.runs := rfl
@[simp] theorem State.addCnt_ctxs (s : State) (a n : Nat) : (s.addCnt a n).ctxs = s.ctxs := rfl
@[simp] theorem State.addCnt_arbs (s : State) (a n : Nat) : (s.addCnt a n).arbs = s.arbs := rfl
@[simp] theorem State.addCnt_cmds (s : State) (a n : Nat) : (s.addCnt a n).cmds = s.cmds := rfl
@[simp] theorem State.addCnt_nextId (s : State) (a n : Nat) : (s.addCnt a n).nextId = s.nextId := rfl
@[simp] theorem State.addCnt_cores (s : State) (a n : Nat) : (s.addCnt a n).cores = s.cores := rfl
@[simp] theorem State.addCnt_mem (s : State) (a n : Nat) : (s.addCnt a n).mem = s.mem := rfl
@[simp] theorem State.addCnt_nbus (s : State) (a n : Nat) : (s.addCnt a n).nbus = s.nbus := rfl
@[simp] theorem State.addCnt_nbuReady (s : State) (a n : Nat) : (s.addCnt a n).nbuReady = s.nbuReady := rfl
@[simp] theorem State.addCnt_kv (s : State) (a n : Nat) : (s.addCnt a n).kv = s.kv := rfl
@[simp] theorem State.addCnt_copies (s : State) (a n : Nat) : (s.addCnt a n).copies = s.copies := rfl
@[simp] theorem State.addCnt_sentinel (s : State) (a n : Nat) : (s.addCnt a n).sentinel = s.sentinel := rfl
@[simp] theorem State.addCnt_drifted (s : State) (a n : Nat) : (s.addCnt a n).drifted = s.drifted := rfl
@[simp] theorem State.addCnt_resets (s : State) (a n : Nat) : (s.addCnt a n).resets = s.resets := rfl
@[simp] theorem State.addCnt_sec (s : State) (a n : Nat) : (s.addCnt a n).sec = s.sec := rfl
@[simp] theorem State.addCnt_mctp (s : State) (a n : Nat) : (s.addCnt a n).mctp = s.mctp := rfl
@[simp] theorem State.addCnt_pcie (s : State) (a n : Nat) : (s.addCnt a n).pcie = s.pcie := rfl
@[simp] theorem State.addCnt_pins (s : State) (a n : Nat) : (s.addCnt a n).pins = s.pins := rfl
@[simp] theorem State.addCnt_power (s : State) (a n : Nat) : (s.addCnt a n).power = s.power := rfl
@[simp] theorem State.addCnt_clocks (s : State) (a n : Nat) : (s.addCnt a n).clocks = s.clocks := rfl
@[simp] theorem State.addCnt_thermal (s : State) (a n : Nat) : (s.addCnt a n).thermal = s.thermal := rfl
@[simp] theorem State.addCnt_fab (s : State) (a n : Nat) : (s.addCnt a n).fab = s.fab := rfl
@[simp] theorem State.addCnt_casc (s : State) (a n : Nat) : (s.addCnt a n).casc = s.casc := rfl
@[simp] theorem State.addCnt_parity (s : State) (a n : Nat) : (s.addCnt a n).parity = s.parity := rfl
@[simp] theorem State.addCnt_out (s : State) (a n : Nat) : (s.addCnt a n).out = s.out := rfl

/-! ### setCnt -/

@[simp] theorem State.setCnt_pending (s : State) (a n : Nat) : (s.setCnt a n).pending = s.pending := rfl
@[simp] theorem State.setCnt_tick (s : State) (a n : Nat) : (s.setCnt a n).tick = s.tick := rfl
@[simp] theorem State.setCnt_freeCtr (s : State) (a n : Nat) : (s.setCnt a n).freeCtr = s.freeCtr := rfl
@[simp] theorem State.setCnt_regs (s : State) (a n : Nat) : (s.setCnt a n).regs = s.regs := rfl
@[simp] theorem State.setCnt_latches (s : State) (a n : Nat) : (s.setCnt a n).latches = s.latches := rfl
@[simp] theorem State.setCnt_host (s : State) (a n : Nat) : (s.setCnt a n).host = s.host := rfl
@[simp] theorem State.setCnt_fuses (s : State) (a n : Nat) : (s.setCnt a n).fuses = s.fuses := rfl
@[simp] theorem State.setCnt_nvm (s : State) (a n : Nat) : (s.setCnt a n).nvm = s.nvm := rfl
@[simp] theorem State.setCnt_alm (s : State) (a n : Nat) : (s.setCnt a n).alm = s.alm := rfl
@[simp] theorem State.setCnt_sets (s : State) (a n : Nat) : (s.setCnt a n).sets = s.sets := rfl
@[simp] theorem State.setCnt_mbx (s : State) (a n : Nat) : (s.setCnt a n).mbx = s.mbx := rfl
@[simp] theorem State.setCnt_image (s : State) (a n : Nat) : (s.setCnt a n).image = s.image := rfl
@[simp] theorem State.setCnt_loader (s : State) (a n : Nat) : (s.setCnt a n).loader = s.loader := rfl
@[simp] theorem State.setCnt_runs (s : State) (a n : Nat) : (s.setCnt a n).runs = s.runs := rfl
@[simp] theorem State.setCnt_ctxs (s : State) (a n : Nat) : (s.setCnt a n).ctxs = s.ctxs := rfl
@[simp] theorem State.setCnt_arbs (s : State) (a n : Nat) : (s.setCnt a n).arbs = s.arbs := rfl
@[simp] theorem State.setCnt_cmds (s : State) (a n : Nat) : (s.setCnt a n).cmds = s.cmds := rfl
@[simp] theorem State.setCnt_nextId (s : State) (a n : Nat) : (s.setCnt a n).nextId = s.nextId := rfl
@[simp] theorem State.setCnt_cores (s : State) (a n : Nat) : (s.setCnt a n).cores = s.cores := rfl
@[simp] theorem State.setCnt_mem (s : State) (a n : Nat) : (s.setCnt a n).mem = s.mem := rfl
@[simp] theorem State.setCnt_nbus (s : State) (a n : Nat) : (s.setCnt a n).nbus = s.nbus := rfl
@[simp] theorem State.setCnt_nbuReady (s : State) (a n : Nat) : (s.setCnt a n).nbuReady = s.nbuReady := rfl
@[simp] theorem State.setCnt_kv (s : State) (a n : Nat) : (s.setCnt a n).kv = s.kv := rfl
@[simp] theorem State.setCnt_copies (s : State) (a n : Nat) : (s.setCnt a n).copies = s.copies := rfl
@[simp] theorem State.setCnt_sentinel (s : State) (a n : Nat) : (s.setCnt a n).sentinel = s.sentinel := rfl
@[simp] theorem State.setCnt_drifted (s : State) (a n : Nat) : (s.setCnt a n).drifted = s.drifted := rfl
@[simp] theorem State.setCnt_resets (s : State) (a n : Nat) : (s.setCnt a n).resets = s.resets := rfl
@[simp] theorem State.setCnt_sec (s : State) (a n : Nat) : (s.setCnt a n).sec = s.sec := rfl
@[simp] theorem State.setCnt_mctp (s : State) (a n : Nat) : (s.setCnt a n).mctp = s.mctp := rfl
@[simp] theorem State.setCnt_pcie (s : State) (a n : Nat) : (s.setCnt a n).pcie = s.pcie := rfl
@[simp] theorem State.setCnt_pins (s : State) (a n : Nat) : (s.setCnt a n).pins = s.pins := rfl
@[simp] theorem State.setCnt_power (s : State) (a n : Nat) : (s.setCnt a n).power = s.power := rfl
@[simp] theorem State.setCnt_clocks (s : State) (a n : Nat) : (s.setCnt a n).clocks = s.clocks := rfl
@[simp] theorem State.setCnt_thermal (s : State) (a n : Nat) : (s.setCnt a n).thermal = s.thermal := rfl
@[simp] theorem State.setCnt_fab (s : State) (a n : Nat) : (s.setCnt a n).fab = s.fab := rfl
@[simp] theorem State.setCnt_casc (s : State) (a n : Nat) : (s.setCnt a n).casc = s.casc := rfl
@[simp] theorem State.setCnt_parity (s : State) (a n : Nat) : (s.setCnt a n).parity = s.parity := rfl
@[simp] theorem State.setCnt_out (s : State) (a n : Nat) : (s.setCnt a n).out = s.out := rfl

/-! ### emit -/

@[simp] theorem State.emit_pending (s : State) (o : Out) : (s.emit o).pending = s.pending := rfl
@[simp] theorem State.emit_tick (s : State) (o : Out) : (s.emit o).tick = s.tick := rfl
@[simp] theorem State.emit_freeCtr (s : State) (o : Out) : (s.emit o).freeCtr = s.freeCtr := rfl
@[simp] theorem State.emit_regs (s : State) (o : Out) : (s.emit o).regs = s.regs := rfl
@[simp] theorem State.emit_cnts (s : State) (o : Out) : (s.emit o).cnts = s.cnts := rfl
@[simp] theorem State.emit_latches (s : State) (o : Out) : (s.emit o).latches = s.latches := rfl
@[simp] theorem State.emit_host (s : State) (o : Out) : (s.emit o).host = s.host := rfl
@[simp] theorem State.emit_fuses (s : State) (o : Out) : (s.emit o).fuses = s.fuses := rfl
@[simp] theorem State.emit_nvm (s : State) (o : Out) : (s.emit o).nvm = s.nvm := rfl
@[simp] theorem State.emit_alm (s : State) (o : Out) : (s.emit o).alm = s.alm := rfl
@[simp] theorem State.emit_sets (s : State) (o : Out) : (s.emit o).sets = s.sets := rfl
@[simp] theorem State.emit_mbx (s : State) (o : Out) : (s.emit o).mbx = s.mbx := rfl
@[simp] theorem State.emit_image (s : State) (o : Out) : (s.emit o).image = s.image := rfl
@[simp] theorem State.emit_loader (s : State) (o : Out) : (s.emit o).loader = s.loader := rfl
@[simp] theorem State.emit_runs (s : State) (o : Out) : (s.emit o).runs = s.runs := rfl
@[simp] theorem State.emit_ctxs (s : State) (o : Out) : (s.emit o).ctxs = s.ctxs := rfl
@[simp] theorem State.emit_arbs (s : State) (o : Out) : (s.emit o).arbs = s.arbs := rfl
@[simp] theorem State.emit_cmds (s : State) (o : Out) : (s.emit o).cmds = s.cmds := rfl
@[simp] theorem State.emit_nextId (s : State) (o : Out) : (s.emit o).nextId = s.nextId := rfl
@[simp] theorem State.emit_cores (s : State) (o : Out) : (s.emit o).cores = s.cores := rfl
@[simp] theorem State.emit_mem (s : State) (o : Out) : (s.emit o).mem = s.mem := rfl
@[simp] theorem State.emit_nbus (s : State) (o : Out) : (s.emit o).nbus = s.nbus := rfl
@[simp] theorem State.emit_nbuReady (s : State) (o : Out) : (s.emit o).nbuReady = s.nbuReady := rfl
@[simp] theorem State.emit_kv (s : State) (o : Out) : (s.emit o).kv = s.kv := rfl
@[simp] theorem State.emit_copies (s : State) (o : Out) : (s.emit o).copies = s.copies := rfl
@[simp] theorem State.emit_sentinel (s : State) (o : Out) : (s.emit o).sentinel = s.sentinel := rfl
@[simp] theorem State.emit_drifted (s : State) (o : Out) : (s.emit o).drifted = s.drifted := rfl
@[simp] theorem State.emit_resets (s : State) (o : Out) : (s.emit o).resets = s.resets := rfl
@[simp] theorem State.emit_sec (s : State) (o : Out) : (s.emit o).sec = s.sec := rfl
@[simp] theorem State.emit_mctp (s : State) (o : Out) : (s.emit o).mctp = s.mctp := rfl
@[simp] theorem State.emit_pcie (s : State) (o : Out) : (s.emit o).pcie = s.pcie := rfl
@[simp] theorem State.emit_pins (s : State) (o : Out) : (s.emit o).pins = s.pins := rfl
@[simp] theorem State.emit_power (s : State) (o : Out) : (s.emit o).power = s.power := rfl
@[simp] theorem State.emit_clocks (s : State) (o : Out) : (s.emit o).clocks = s.clocks := rfl
@[simp] theorem State.emit_thermal (s : State) (o : Out) : (s.emit o).thermal = s.thermal := rfl
@[simp] theorem State.emit_fab (s : State) (o : Out) : (s.emit o).fab = s.fab := rfl
@[simp] theorem State.emit_casc (s : State) (o : Out) : (s.emit o).casc = s.casc := rfl
@[simp] theorem State.emit_parity (s : State) (o : Out) : (s.emit o).parity = s.parity := rfl

/-! ### fresh -/

@[simp] theorem State.fresh_pending (s : State) : (s.fresh).pending = s.pending := rfl
@[simp] theorem State.fresh_tick (s : State) : (s.fresh).tick = s.tick := rfl
@[simp] theorem State.fresh_regs (s : State) : (s.fresh).regs = s.regs := rfl
@[simp] theorem State.fresh_cnts (s : State) : (s.fresh).cnts = s.cnts := rfl
@[simp] theorem State.fresh_latches (s : State) : (s.fresh).latches = s.latches := rfl
@[simp] theorem State.fresh_host (s : State) : (s.fresh).host = s.host := rfl
@[simp] theorem State.fresh_fuses (s : State) : (s.fresh).fuses = s.fuses := rfl
@[simp] theorem State.fresh_nvm (s : State) : (s.fresh).nvm = s.nvm := rfl
@[simp] theorem State.fresh_alm (s : State) : (s.fresh).alm = s.alm := rfl
@[simp] theorem State.fresh_sets (s : State) : (s.fresh).sets = s.sets := rfl
@[simp] theorem State.fresh_mbx (s : State) : (s.fresh).mbx = s.mbx := rfl
@[simp] theorem State.fresh_image (s : State) : (s.fresh).image = s.image := rfl
@[simp] theorem State.fresh_loader (s : State) : (s.fresh).loader = s.loader := rfl
@[simp] theorem State.fresh_runs (s : State) : (s.fresh).runs = s.runs := rfl
@[simp] theorem State.fresh_ctxs (s : State) : (s.fresh).ctxs = s.ctxs := rfl
@[simp] theorem State.fresh_arbs (s : State) : (s.fresh).arbs = s.arbs := rfl
@[simp] theorem State.fresh_cmds (s : State) : (s.fresh).cmds = s.cmds := rfl
@[simp] theorem State.fresh_nextId (s : State) : (s.fresh).nextId = s.nextId := rfl
@[simp] theorem State.fresh_cores (s : State) : (s.fresh).cores = s.cores := rfl
@[simp] theorem State.fresh_mem (s : State) : (s.fresh).mem = s.mem := rfl
@[simp] theorem State.fresh_nbus (s : State) : (s.fresh).nbus = s.nbus := rfl
@[simp] theorem State.fresh_nbuReady (s : State) : (s.fresh).nbuReady = s.nbuReady := rfl
@[simp] theorem State.fresh_kv (s : State) : (s.fresh).kv = s.kv := rfl
@[simp] theorem State.fresh_copies (s : State) : (s.fresh).copies = s.copies := rfl
@[simp] theorem State.fresh_sentinel (s : State) : (s.fresh).sentinel = s.sentinel := rfl
@[simp] theorem State.fresh_drifted (s : State) : (s.fresh).drifted = s.drifted := rfl
@[simp] theorem State.fresh_resets (s : State) : (s.fresh).resets = s.resets := rfl
@[simp] theorem State.fresh_sec (s : State) : (s.fresh).sec = s.sec := rfl
@[simp] theorem State.fresh_mctp (s : State) : (s.fresh).mctp = s.mctp := rfl
@[simp] theorem State.fresh_pcie (s : State) : (s.fresh).pcie = s.pcie := rfl
@[simp] theorem State.fresh_pins (s : State) : (s.fresh).pins = s.pins := rfl
@[simp] theorem State.fresh_power (s : State) : (s.fresh).power = s.power := rfl
@[simp] theorem State.fresh_clocks (s : State) : (s.fresh).clocks = s.clocks := rfl
@[simp] theorem State.fresh_thermal (s : State) : (s.fresh).thermal = s.thermal := rfl
@[simp] theorem State.fresh_fab (s : State) : (s.fresh).fab = s.fab := rfl
@[simp] theorem State.fresh_casc (s : State) : (s.fresh).casc = s.casc := rfl
@[simp] theorem State.fresh_parity (s : State) : (s.fresh).parity = s.parity := rfl
@[simp] theorem State.fresh_out (s : State) : (s.fresh).out = s.out := rfl

/-! ### updCmd -/

@[simp] theorem State.updCmd_pending (s : State) (id : Nat) (f : Cmd → Cmd) : (s.updCmd id f).pending = s.pending := rfl
@[simp] theorem State.updCmd_tick (s : State) (id : Nat) (f : Cmd → Cmd) : (s.updCmd id f).tick = s.tick := rfl
@[simp] theorem State.updCmd_freeCtr (s : State) (id : Nat) (f : Cmd → Cmd) : (s.updCmd id f).freeCtr = s.freeCtr := rfl
@[simp] theorem State.updCmd_regs (s : State) (id : Nat) (f : Cmd → Cmd) : (s.updCmd id f).regs = s.regs := rfl
@[simp] theorem State.updCmd_cnts (s : State) (id : Nat) (f : Cmd → Cmd) : (s.updCmd id f).cnts = s.cnts := rfl
@[simp] theorem State.updCmd_latches (s : State) (id : Nat) (f : Cmd → Cmd) : (s.updCmd id f).latches = s.latches := rfl
@[simp] theorem State.updCmd_host (s : State) (id : Nat) (f : Cmd → Cmd) : (s.updCmd id f).host = s.host := rfl
@[simp] theorem State.updCmd_fuses (s : State) (id : Nat) (f : Cmd → Cmd) : (s.updCmd id f).fuses = s.fuses := rfl
@[simp] theorem State.updCmd_nvm (s : State) (id : Nat) (f : Cmd → Cmd) : (s.updCmd id f).nvm = s.nvm := rfl
@[simp] theorem State.updCmd_alm (s : State) (id : Nat) (f : Cmd → Cmd) : (s.updCmd id f).alm = s.alm := rfl
@[simp] theorem State.updCmd_sets (s : State) (id : Nat) (f : Cmd → Cmd) : (s.updCmd id f).sets = s.sets := rfl
@[simp] theorem State.updCmd_mbx (s : State) (id : Nat) (f : Cmd → Cmd) : (s.updCmd id f).mbx = s.mbx := rfl
@[simp] theorem State.updCmd_image (s : State) (id : Nat) (f : Cmd → Cmd) : (s.updCmd id f).image = s.image := rfl
@[simp] theorem State.updCmd_loader (s : State) (id : Nat) (f : Cmd → Cmd) : (s.updCmd id f).loader = s.loader := rfl
@[simp] theorem State.updCmd_runs (s : State) (id : Nat) (f : Cmd → Cmd) : (s.updCmd id f).runs = s.runs := rfl
@[simp] theorem State.updCmd_ctxs (s : State) (id : Nat) (f : Cmd → Cmd) : (s.updCmd id f).ctxs = s.ctxs := rfl
@[simp] theorem State.updCmd_arbs (s : State) (id : Nat) (f : Cmd → Cmd) : (s.updCmd id f).arbs = s.arbs := rfl
@[simp] theorem State.updCmd_nextId (s : State) (id : Nat) (f : Cmd → Cmd) : (s.updCmd id f).nextId = s.nextId := rfl
@[simp] theorem State.updCmd_cores (s : State) (id : Nat) (f : Cmd → Cmd) : (s.updCmd id f).cores = s.cores := rfl
@[simp] theorem State.updCmd_mem (s : State) (id : Nat) (f : Cmd → Cmd) : (s.updCmd id f).mem = s.mem := rfl
@[simp] theorem State.updCmd_nbus (s : State) (id : Nat) (f : Cmd → Cmd) : (s.updCmd id f).nbus = s.nbus := rfl
@[simp] theorem State.updCmd_nbuReady (s : State) (id : Nat) (f : Cmd → Cmd) : (s.updCmd id f).nbuReady = s.nbuReady := rfl
@[simp] theorem State.updCmd_kv (s : State) (id : Nat) (f : Cmd → Cmd) : (s.updCmd id f).kv = s.kv := rfl
@[simp] theorem State.updCmd_copies (s : State) (id : Nat) (f : Cmd → Cmd) : (s.updCmd id f).copies = s.copies := rfl
@[simp] theorem State.updCmd_sentinel (s : State) (id : Nat) (f : Cmd → Cmd) : (s.updCmd id f).sentinel = s.sentinel := rfl
@[simp] theorem State.updCmd_drifted (s : State) (id : Nat) (f : Cmd → Cmd) : (s.updCmd id f).drifted = s.drifted := rfl
@[simp] theorem State.updCmd_resets (s : State) (id : Nat) (f : Cmd → Cmd) : (s.updCmd id f).resets = s.resets := rfl
@[simp] theorem State.updCmd_sec (s : State) (id : Nat) (f : Cmd → Cmd) : (s.updCmd id f).sec = s.sec := rfl
@[simp] theorem State.updCmd_mctp (s : State) (id : Nat) (f : Cmd → Cmd) : (s.updCmd id f).mctp = s.mctp := rfl
@[simp] theorem State.updCmd_pcie (s : State) (id : Nat) (f : Cmd → Cmd) : (s.updCmd id f).pcie = s.pcie := rfl
@[simp] theorem State.updCmd_pins (s : State) (id : Nat) (f : Cmd → Cmd) : (s.updCmd id f).pins = s.pins := rfl
@[simp] theorem State.updCmd_power (s : State) (id : Nat) (f : Cmd → Cmd) : (s.updCmd id f).power = s.power := rfl
@[simp] theorem State.updCmd_clocks (s : State) (id : Nat) (f : Cmd → Cmd) : (s.updCmd id f).clocks = s.clocks := rfl
@[simp] theorem State.updCmd_thermal (s : State) (id : Nat) (f : Cmd → Cmd) : (s.updCmd id f).thermal = s.thermal := rfl
@[simp] theorem State.updCmd_fab (s : State) (id : Nat) (f : Cmd → Cmd) : (s.updCmd id f).fab = s.fab := rfl
@[simp] theorem State.updCmd_casc (s : State) (id : Nat) (f : Cmd → Cmd) : (s.updCmd id f).casc = s.casc := rfl
@[simp] theorem State.updCmd_parity (s : State) (id : Nat) (f : Cmd → Cmd) : (s.updCmd id f).parity = s.parity := rfl
@[simp] theorem State.updCmd_out (s : State) (id : Nat) (f : Cmd → Cmd) : (s.updCmd id f).out = s.out := rfl

/-! ### setAux -/

@[simp] theorem State.setAux_pending (s : State) (c : Nat) (x : CtxAux) : (s.setAux c x).pending = s.pending := rfl
@[simp] theorem State.setAux_tick (s : State) (c : Nat) (x : CtxAux) : (s.setAux c x).tick = s.tick := rfl
@[simp] theorem State.setAux_freeCtr (s : State) (c : Nat) (x : CtxAux) : (s.setAux c x).freeCtr = s.freeCtr := rfl
@[simp] theorem State.setAux_regs (s : State) (c : Nat) (x : CtxAux) : (s.setAux c x).regs = s.regs := rfl
@[simp] theorem State.setAux_cnts (s : State) (c : Nat) (x : CtxAux) : (s.setAux c x).cnts = s.cnts := rfl
@[simp] theorem State.setAux_latches (s : State) (c : Nat) (x : CtxAux) : (s.setAux c x).latches = s.latches := rfl
@[simp] theorem State.setAux_host (s : State) (c : Nat) (x : CtxAux) : (s.setAux c x).host = s.host := rfl
@[simp] theorem State.setAux_fuses (s : State) (c : Nat) (x : CtxAux) : (s.setAux c x).fuses = s.fuses := rfl
@[simp] theorem State.setAux_nvm (s : State) (c : Nat) (x : CtxAux) : (s.setAux c x).nvm = s.nvm := rfl
@[simp] theorem State.setAux_alm (s : State) (c : Nat) (x : CtxAux) : (s.setAux c x).alm = s.alm := rfl
@[simp] theorem State.setAux_sets (s : State) (c : Nat) (x : CtxAux) : (s.setAux c x).sets = s.sets := rfl
@[simp] theorem State.setAux_mbx (s : State) (c : Nat) (x : CtxAux) : (s.setAux c x).mbx = s.mbx := rfl
@[simp] theorem State.setAux_image (s : State) (c : Nat) (x : CtxAux) : (s.setAux c x).image = s.image := rfl
@[simp] theorem State.setAux_loader (s : State) (c : Nat) (x : CtxAux) : (s.setAux c x).loader = s.loader := rfl
@[simp] theorem State.setAux_runs (s : State) (c : Nat) (x : CtxAux) : (s.setAux c x).runs = s.runs := rfl
@[simp] theorem State.setAux_arbs (s : State) (c : Nat) (x : CtxAux) : (s.setAux c x).arbs = s.arbs := rfl
@[simp] theorem State.setAux_cmds (s : State) (c : Nat) (x : CtxAux) : (s.setAux c x).cmds = s.cmds := rfl
@[simp] theorem State.setAux_nextId (s : State) (c : Nat) (x : CtxAux) : (s.setAux c x).nextId = s.nextId := rfl
@[simp] theorem State.setAux_cores (s : State) (c : Nat) (x : CtxAux) : (s.setAux c x).cores = s.cores := rfl
@[simp] theorem State.setAux_mem (s : State) (c : Nat) (x : CtxAux) : (s.setAux c x).mem = s.mem := rfl
@[simp] theorem State.setAux_nbus (s : State) (c : Nat) (x : CtxAux) : (s.setAux c x).nbus = s.nbus := rfl
@[simp] theorem State.setAux_nbuReady (s : State) (c : Nat) (x : CtxAux) : (s.setAux c x).nbuReady = s.nbuReady := rfl
@[simp] theorem State.setAux_kv (s : State) (c : Nat) (x : CtxAux) : (s.setAux c x).kv = s.kv := rfl
@[simp] theorem State.setAux_copies (s : State) (c : Nat) (x : CtxAux) : (s.setAux c x).copies = s.copies := rfl
@[simp] theorem State.setAux_sentinel (s : State) (c : Nat) (x : CtxAux) : (s.setAux c x).sentinel = s.sentinel := rfl
@[simp] theorem State.setAux_drifted (s : State) (c : Nat) (x : CtxAux) : (s.setAux c x).drifted = s.drifted := rfl
@[simp] theorem State.setAux_resets (s : State) (c : Nat) (x : CtxAux) : (s.setAux c x).resets = s.resets := rfl
@[simp] theorem State.setAux_sec (s : State) (c : Nat) (x : CtxAux) : (s.setAux c x).sec = s.sec := rfl
@[simp] theorem State.setAux_mctp (s : State) (c : Nat) (x : CtxAux) : (s.setAux c x).mctp = s.mctp := rfl
@[simp] theorem State.setAux_pcie (s : State) (c : Nat) (x : CtxAux) : (s.setAux c x).pcie = s.pcie := rfl
@[simp] theorem State.setAux_pins (s : State) (c : Nat) (x : CtxAux) : (s.setAux c x).pins = s.pins := rfl
@[simp] theorem State.setAux_power (s : State) (c : Nat) (x : CtxAux) : (s.setAux c x).power = s.power := rfl
@[simp] theorem State.setAux_clocks (s : State) (c : Nat) (x : CtxAux) : (s.setAux c x).clocks = s.clocks := rfl
@[simp] theorem State.setAux_thermal (s : State) (c : Nat) (x : CtxAux) : (s.setAux c x).thermal = s.thermal := rfl
@[simp] theorem State.setAux_fab (s : State) (c : Nat) (x : CtxAux) : (s.setAux c x).fab = s.fab := rfl
@[simp] theorem State.setAux_casc (s : State) (c : Nat) (x : CtxAux) : (s.setAux c x).casc = s.casc := rfl
@[simp] theorem State.setAux_parity (s : State) (c : Nat) (x : CtxAux) : (s.setAux c x).parity = s.parity := rfl
@[simp] theorem State.setAux_out (s : State) (c : Nat) (x : CtxAux) : (s.setAux c x).out = s.out := rfl

/-! ### endCmd -/

@[simp] theorem State.endCmd_pending (s : State) (id st : Nat) (x : Option Nat) : (s.endCmd id st x).pending = s.pending := rfl
@[simp] theorem State.endCmd_tick (s : State) (id st : Nat) (x : Option Nat) : (s.endCmd id st x).tick = s.tick := rfl
@[simp] theorem State.endCmd_freeCtr (s : State) (id st : Nat) (x : Option Nat) : (s.endCmd id st x).freeCtr = s.freeCtr := rfl
@[simp] theorem State.endCmd_regs (s : State) (id st : Nat) (x : Option Nat) : (s.endCmd id st x).regs = s.regs := rfl
@[simp] theorem State.endCmd_cnts (s : State) (id st : Nat) (x : Option Nat) : (s.endCmd id st x).cnts = s.cnts := rfl
@[simp] theorem State.endCmd_latches (s : State) (id st : Nat) (x : Option Nat) : (s.endCmd id st x).latches = s.latches := rfl
@[simp] theorem State.endCmd_host (s : State) (id st : Nat) (x : Option Nat) : (s.endCmd id st x).host = s.host := rfl
@[simp] theorem State.endCmd_fuses (s : State) (id st : Nat) (x : Option Nat) : (s.endCmd id st x).fuses = s.fuses := rfl
@[simp] theorem State.endCmd_nvm (s : State) (id st : Nat) (x : Option Nat) : (s.endCmd id st x).nvm = s.nvm := rfl
@[simp] theorem State.endCmd_alm (s : State) (id st : Nat) (x : Option Nat) : (s.endCmd id st x).alm = s.alm := rfl
@[simp] theorem State.endCmd_sets (s : State) (id st : Nat) (x : Option Nat) : (s.endCmd id st x).sets = s.sets := rfl
@[simp] theorem State.endCmd_mbx (s : State) (id st : Nat) (x : Option Nat) : (s.endCmd id st x).mbx = s.mbx := rfl
@[simp] theorem State.endCmd_image (s : State) (id st : Nat) (x : Option Nat) : (s.endCmd id st x).image = s.image := rfl
@[simp] theorem State.endCmd_loader (s : State) (id st : Nat) (x : Option Nat) : (s.endCmd id st x).loader = s.loader := rfl
@[simp] theorem State.endCmd_runs (s : State) (id st : Nat) (x : Option Nat) : (s.endCmd id st x).runs = s.runs := rfl
@[simp] theorem State.endCmd_ctxs (s : State) (id st : Nat) (x : Option Nat) : (s.endCmd id st x).ctxs = s.ctxs := rfl
@[simp] theorem State.endCmd_arbs (s : State) (id st : Nat) (x : Option Nat) : (s.endCmd id st x).arbs = s.arbs := rfl
@[simp] theorem State.endCmd_nextId (s : State) (id st : Nat) (x : Option Nat) : (s.endCmd id st x).nextId = s.nextId := rfl
@[simp] theorem State.endCmd_cores (s : State) (id st : Nat) (x : Option Nat) : (s.endCmd id st x).cores = s.cores := rfl
@[simp] theorem State.endCmd_mem (s : State) (id st : Nat) (x : Option Nat) : (s.endCmd id st x).mem = s.mem := rfl
@[simp] theorem State.endCmd_nbus (s : State) (id st : Nat) (x : Option Nat) : (s.endCmd id st x).nbus = s.nbus := rfl
@[simp] theorem State.endCmd_nbuReady (s : State) (id st : Nat) (x : Option Nat) : (s.endCmd id st x).nbuReady = s.nbuReady := rfl
@[simp] theorem State.endCmd_kv (s : State) (id st : Nat) (x : Option Nat) : (s.endCmd id st x).kv = s.kv := rfl
@[simp] theorem State.endCmd_copies (s : State) (id st : Nat) (x : Option Nat) : (s.endCmd id st x).copies = s.copies := rfl
@[simp] theorem State.endCmd_sentinel (s : State) (id st : Nat) (x : Option Nat) : (s.endCmd id st x).sentinel = s.sentinel := rfl
@[simp] theorem State.endCmd_drifted (s : State) (id st : Nat) (x : Option Nat) : (s.endCmd id st x).drifted = s.drifted := rfl
@[simp] theorem State.endCmd_resets (s : State) (id st : Nat) (x : Option Nat) : (s.endCmd id st x).resets = s.resets := rfl
@[simp] theorem State.endCmd_sec (s : State) (id st : Nat) (x : Option Nat) : (s.endCmd id st x).sec = s.sec := rfl
@[simp] theorem State.endCmd_mctp (s : State) (id st : Nat) (x : Option Nat) : (s.endCmd id st x).mctp = s.mctp := rfl
@[simp] theorem State.endCmd_pcie (s : State) (id st : Nat) (x : Option Nat) : (s.endCmd id st x).pcie = s.pcie := rfl
@[simp] theorem State.endCmd_pins (s : State) (id st : Nat) (x : Option Nat) : (s.endCmd id st x).pins = s.pins := rfl
@[simp] theorem State.endCmd_power (s : State) (id st : Nat) (x : Option Nat) : (s.endCmd id st x).power = s.power := rfl
@[simp] theorem State.endCmd_clocks (s : State) (id st : Nat) (x : Option Nat) : (s.endCmd id st x).clocks = s.clocks := rfl
@[simp] theorem State.endCmd_thermal (s : State) (id st : Nat) (x : Option Nat) : (s.endCmd id st x).thermal = s.thermal := rfl
@[simp] theorem State.endCmd_fab (s : State) (id st : Nat) (x : Option Nat) : (s.endCmd id st x).fab = s.fab := rfl
@[simp] theorem State.endCmd_casc (s : State) (id st : Nat) (x : Option Nat) : (s.endCmd id st x).casc = s.casc := rfl
@[simp] theorem State.endCmd_parity (s : State) (id st : Nat) (x : Option Nat) : (s.endCmd id st x).parity = s.parity := rfl
@[simp] theorem State.endCmd_out (s : State) (id st : Nat) (x : Option Nat) : (s.endCmd id st x).out = s.out := rfl

/-! ### failCmd -/

@[simp] theorem State.failCmd_pending (s : State) (id : Nat) (e : Nat × Nat) : (s.failCmd id e).pending = s.pending := rfl
@[simp] theorem State.failCmd_tick (s : State) (id : Nat) (e : Nat × Nat) : (s.failCmd id e).tick = s.tick := rfl
@[simp] theorem State.failCmd_freeCtr (s : State) (id : Nat) (e : Nat × Nat) : (s.failCmd id e).freeCtr = s.freeCtr := rfl
@[simp] theorem State.failCmd_regs (s : State) (id : Nat) (e : Nat × Nat) : (s.failCmd id e).regs = s.regs := rfl
@[simp] theorem State.failCmd_cnts (s : State) (id : Nat) (e : Nat × Nat) : (s.failCmd id e).cnts = s.cnts := rfl
@[simp] theorem State.failCmd_latches (s : State) (id : Nat) (e : Nat × Nat) : (s.failCmd id e).latches = s.latches := rfl
@[simp] theorem State.failCmd_host (s : State) (id : Nat) (e : Nat × Nat) : (s.failCmd id e).host = s.host := rfl
@[simp] theorem State.failCmd_fuses (s : State) (id : Nat) (e : Nat × Nat) : (s.failCmd id e).fuses = s.fuses := rfl
@[simp] theorem State.failCmd_nvm (s : State) (id : Nat) (e : Nat × Nat) : (s.failCmd id e).nvm = s.nvm := rfl
@[simp] theorem State.failCmd_alm (s : State) (id : Nat) (e : Nat × Nat) : (s.failCmd id e).alm = s.alm := rfl
@[simp] theorem State.failCmd_sets (s : State) (id : Nat) (e : Nat × Nat) : (s.failCmd id e).sets = s.sets := rfl
@[simp] theorem State.failCmd_mbx (s : State) (id : Nat) (e : Nat × Nat) : (s.failCmd id e).mbx = s.mbx := rfl
@[simp] theorem State.failCmd_image (s : State) (id : Nat) (e : Nat × Nat) : (s.failCmd id e).image = s.image := rfl
@[simp] theorem State.failCmd_loader (s : State) (id : Nat) (e : Nat × Nat) : (s.failCmd id e).loader = s.loader := rfl
@[simp] theorem State.failCmd_runs (s : State) (id : Nat) (e : Nat × Nat) : (s.failCmd id e).runs = s.runs := rfl
@[simp] theorem State.failCmd_ctxs (s : State) (id : Nat) (e : Nat × Nat) : (s.failCmd id e).ctxs = s.ctxs := rfl
@[simp] theorem State.failCmd_arbs (s : State) (id : Nat) (e : Nat × Nat) : (s.failCmd id e).arbs = s.arbs := rfl
@[simp] theorem State.failCmd_nextId (s : State) (id : Nat) (e : Nat × Nat) : (s.failCmd id e).nextId = s.nextId := rfl
@[simp] theorem State.failCmd_cores (s : State) (id : Nat) (e : Nat × Nat) : (s.failCmd id e).cores = s.cores := rfl
@[simp] theorem State.failCmd_mem (s : State) (id : Nat) (e : Nat × Nat) : (s.failCmd id e).mem = s.mem := rfl
@[simp] theorem State.failCmd_nbus (s : State) (id : Nat) (e : Nat × Nat) : (s.failCmd id e).nbus = s.nbus := rfl
@[simp] theorem State.failCmd_nbuReady (s : State) (id : Nat) (e : Nat × Nat) : (s.failCmd id e).nbuReady = s.nbuReady := rfl
@[simp] theorem State.failCmd_kv (s : State) (id : Nat) (e : Nat × Nat) : (s.failCmd id e).kv = s.kv := rfl
@[simp] theorem State.failCmd_copies (s : State) (id : Nat) (e : Nat × Nat) : (s.failCmd id e).copies = s.copies := rfl
@[simp] theorem State.failCmd_sentinel (s : State) (id : Nat) (e : Nat × Nat) : (s.failCmd id e).sentinel = s.sentinel := rfl
@[simp] theorem State.failCmd_drifted (s : State) (id : Nat) (e : Nat × Nat) : (s.failCmd id e).drifted = s.drifted := rfl
@[simp] theorem State.failCmd_resets (s : State) (id : Nat) (e : Nat × Nat) : (s.failCmd id e).resets = s.resets := rfl
@[simp] theorem State.failCmd_sec (s : State) (id : Nat) (e : Nat × Nat) : (s.failCmd id e).sec = s.sec := rfl
@[simp] theorem State.failCmd_mctp (s : State) (id : Nat) (e : Nat × Nat) : (s.failCmd id e).mctp = s.mctp := rfl
@[simp] theorem State.failCmd_pcie (s : State) (id : Nat) (e : Nat × Nat) : (s.failCmd id e).pcie = s.pcie := rfl
@[simp] theorem State.failCmd_pins (s : State) (id : Nat) (e : Nat × Nat) : (s.failCmd id e).pins = s.pins := rfl
@[simp] theorem State.failCmd_power (s : State) (id : Nat) (e : Nat × Nat) : (s.failCmd id e).power = s.power := rfl
@[simp] theorem State.failCmd_clocks (s : State) (id : Nat) (e : Nat × Nat) : (s.failCmd id e).clocks = s.clocks := rfl
@[simp] theorem State.failCmd_thermal (s : State) (id : Nat) (e : Nat × Nat) : (s.failCmd id e).thermal = s.thermal := rfl
@[simp] theorem State.failCmd_fab (s : State) (id : Nat) (e : Nat × Nat) : (s.failCmd id e).fab = s.fab := rfl
@[simp] theorem State.failCmd_casc (s : State) (id : Nat) (e : Nat × Nat) : (s.failCmd id e).casc = s.casc := rfl
@[simp] theorem State.failCmd_parity (s : State) (id : Nat) (e : Nat × Nat) : (s.failCmd id e).parity = s.parity := rfl
@[simp] theorem State.failCmd_out (s : State) (id : Nat) (e : Nat × Nat) : (s.failCmd id e).out = s.out := rfl

/-! ### setWork -/

@[simp] theorem State.setWork_pending (s : State) (id : Nat) (w : Work) : (s.setWork id w).pending = s.pending := rfl
@[simp] theorem State.setWork_tick (s : State) (id : Nat) (w : Work) : (s.setWork id w).tick = s.tick := rfl
@[simp] theorem State.setWork_freeCtr (s : State) (id : Nat) (w : Work) : (s.setWork id w).freeCtr = s.freeCtr := rfl
@[simp] theorem State.setWork_regs (s : State) (id : Nat) (w : Work) : (s.setWork id w).regs = s.regs := rfl
@[simp] theorem State.setWork_cnts (s : State) (id : Nat) (w : Work) : (s.setWork id w).cnts = s.cnts := rfl
@[simp] theorem State.setWork_latches (s : State) (id : Nat) (w : Work) : (s.setWork id w).latches = s.latches := rfl
@[simp] theorem State.setWork_host (s : State) (id : Nat) (w : Work) : (s.setWork id w).host = s.host := rfl
@[simp] theorem State.setWork_fuses (s : State) (id : Nat) (w : Work) : (s.setWork id w).fuses = s.fuses := rfl
@[simp] theorem State.setWork_nvm (s : State) (id : Nat) (w : Work) : (s.setWork id w).nvm = s.nvm := rfl
@[simp] theorem State.setWork_alm (s : State) (id : Nat) (w : Work) : (s.setWork id w).alm = s.alm := rfl
@[simp] theorem State.setWork_sets (s : State) (id : Nat) (w : Work) : (s.setWork id w).sets = s.sets := rfl
@[simp] theorem State.setWork_mbx (s : State) (id : Nat) (w : Work) : (s.setWork id w).mbx = s.mbx := rfl
@[simp] theorem State.setWork_image (s : State) (id : Nat) (w : Work) : (s.setWork id w).image = s.image := rfl
@[simp] theorem State.setWork_loader (s : State) (id : Nat) (w : Work) : (s.setWork id w).loader = s.loader := rfl
@[simp] theorem State.setWork_runs (s : State) (id : Nat) (w : Work) : (s.setWork id w).runs = s.runs := rfl
@[simp] theorem State.setWork_ctxs (s : State) (id : Nat) (w : Work) : (s.setWork id w).ctxs = s.ctxs := rfl
@[simp] theorem State.setWork_arbs (s : State) (id : Nat) (w : Work) : (s.setWork id w).arbs = s.arbs := rfl
@[simp] theorem State.setWork_nextId (s : State) (id : Nat) (w : Work) : (s.setWork id w).nextId = s.nextId := rfl
@[simp] theorem State.setWork_cores (s : State) (id : Nat) (w : Work) : (s.setWork id w).cores = s.cores := rfl
@[simp] theorem State.setWork_mem (s : State) (id : Nat) (w : Work) : (s.setWork id w).mem = s.mem := rfl
@[simp] theorem State.setWork_nbus (s : State) (id : Nat) (w : Work) : (s.setWork id w).nbus = s.nbus := rfl
@[simp] theorem State.setWork_nbuReady (s : State) (id : Nat) (w : Work) : (s.setWork id w).nbuReady = s.nbuReady := rfl
@[simp] theorem State.setWork_kv (s : State) (id : Nat) (w : Work) : (s.setWork id w).kv = s.kv := rfl
@[simp] theorem State.setWork_copies (s : State) (id : Nat) (w : Work) : (s.setWork id w).copies = s.copies := rfl
@[simp] theorem State.setWork_sentinel (s : State) (id : Nat) (w : Work) : (s.setWork id w).sentinel = s.sentinel := rfl
@[simp] theorem State.setWork_drifted (s : State) (id : Nat) (w : Work) : (s.setWork id w).drifted = s.drifted := rfl
@[simp] theorem State.setWork_resets (s : State) (id : Nat) (w : Work) : (s.setWork id w).resets = s.resets := rfl
@[simp] theorem State.setWork_sec (s : State) (id : Nat) (w : Work) : (s.setWork id w).sec = s.sec := rfl
@[simp] theorem State.setWork_mctp (s : State) (id : Nat) (w : Work) : (s.setWork id w).mctp = s.mctp := rfl
@[simp] theorem State.setWork_pcie (s : State) (id : Nat) (w : Work) : (s.setWork id w).pcie = s.pcie := rfl
@[simp] theorem State.setWork_pins (s : State) (id : Nat) (w : Work) : (s.setWork id w).pins = s.pins := rfl
@[simp] theorem State.setWork_power (s : State) (id : Nat) (w : Work) : (s.setWork id w).power = s.power := rfl
@[simp] theorem State.setWork_clocks (s : State) (id : Nat) (w : Work) : (s.setWork id w).clocks = s.clocks := rfl
@[simp] theorem State.setWork_thermal (s : State) (id : Nat) (w : Work) : (s.setWork id w).thermal = s.thermal := rfl
@[simp] theorem State.setWork_fab (s : State) (id : Nat) (w : Work) : (s.setWork id w).fab = s.fab := rfl
@[simp] theorem State.setWork_casc (s : State) (id : Nat) (w : Work) : (s.setWork id w).casc = s.casc := rfl
@[simp] theorem State.setWork_parity (s : State) (id : Nat) (w : Work) : (s.setWork id w).parity = s.parity := rfl
@[simp] theorem State.setWork_out (s : State) (id : Nat) (w : Work) : (s.setWork id w).out = s.out := rfl

/-! ### beginCmd -/

@[simp] theorem State.beginCmd_pending (s : State) (id : Nat) (w : Work) : (s.beginCmd id w).pending = s.pending := rfl
@[simp] theorem State.beginCmd_tick (s : State) (id : Nat) (w : Work) : (s.beginCmd id w).tick = s.tick := rfl
@[simp] theorem State.beginCmd_freeCtr (s : State) (id : Nat) (w : Work) : (s.beginCmd id w).freeCtr = s.freeCtr := rfl
@[simp] theorem State.beginCmd_regs (s : State) (id : Nat) (w : Work) : (s.beginCmd id w).regs = s.regs := rfl
@[simp] theorem State.beginCmd_cnts (s : State) (id : Nat) (w : Work) : (s.beginCmd id w).cnts = s.cnts := rfl
@[simp] theorem State.beginCmd_latches (s : State) (id : Nat) (w : Work) : (s.beginCmd id w).latches = s.latches := rfl
@[simp] theorem State.beginCmd_host (s : State) (id : Nat) (w : Work) : (s.beginCmd id w).host = s.host := rfl
@[simp] theorem State.beginCmd_fuses (s : State) (id : Nat) (w : Work) : (s.beginCmd id w).fuses = s.fuses := rfl
@[simp] theorem State.beginCmd_nvm (s : State) (id : Nat) (w : Work) : (s.beginCmd id w).nvm = s.nvm := rfl
@[simp] theorem State.beginCmd_alm (s : State) (id : Nat) (w : Work) : (s.beginCmd id w).alm = s.alm := rfl
@[simp] theorem State.beginCmd_sets (s : State) (id : Nat) (w : Work) : (s.beginCmd id w).sets = s.sets := rfl
@[simp] theorem State.beginCmd_mbx (s : State) (id : Nat) (w : Work) : (s.beginCmd id w).mbx = s.mbx := rfl
@[simp] theorem State.beginCmd_image (s : State) (id : Nat) (w : Work) : (s.beginCmd id w).image = s.image := rfl
@[simp] theorem State.beginCmd_loader (s : State) (id : Nat) (w : Work) : (s.beginCmd id w).loader = s.loader := rfl
@[simp] theorem State.beginCmd_runs (s : State) (id : Nat) (w : Work) : (s.beginCmd id w).runs = s.runs := rfl
@[simp] theorem State.beginCmd_ctxs (s : State) (id : Nat) (w : Work) : (s.beginCmd id w).ctxs = s.ctxs := rfl
@[simp] theorem State.beginCmd_nextId (s : State) (id : Nat) (w : Work) : (s.beginCmd id w).nextId = s.nextId := rfl
@[simp] theorem State.beginCmd_cores (s : State) (id : Nat) (w : Work) : (s.beginCmd id w).cores = s.cores := rfl
@[simp] theorem State.beginCmd_mem (s : State) (id : Nat) (w : Work) : (s.beginCmd id w).mem = s.mem := rfl
@[simp] theorem State.beginCmd_nbus (s : State) (id : Nat) (w : Work) : (s.beginCmd id w).nbus = s.nbus := rfl
@[simp] theorem State.beginCmd_nbuReady (s : State) (id : Nat) (w : Work) : (s.beginCmd id w).nbuReady = s.nbuReady := rfl
@[simp] theorem State.beginCmd_kv (s : State) (id : Nat) (w : Work) : (s.beginCmd id w).kv = s.kv := rfl
@[simp] theorem State.beginCmd_copies (s : State) (id : Nat) (w : Work) : (s.beginCmd id w).copies = s.copies := rfl
@[simp] theorem State.beginCmd_sentinel (s : State) (id : Nat) (w : Work) : (s.beginCmd id w).sentinel = s.sentinel := rfl
@[simp] theorem State.beginCmd_drifted (s : State) (id : Nat) (w : Work) : (s.beginCmd id w).drifted = s.drifted := rfl
@[simp] theorem State.beginCmd_resets (s : State) (id : Nat) (w : Work) : (s.beginCmd id w).resets = s.resets := rfl
@[simp] theorem State.beginCmd_sec (s : State) (id : Nat) (w : Work) : (s.beginCmd id w).sec = s.sec := rfl
@[simp] theorem State.beginCmd_mctp (s : State) (id : Nat) (w : Work) : (s.beginCmd id w).mctp = s.mctp := rfl
@[simp] theorem State.beginCmd_pcie (s : State) (id : Nat) (w : Work) : (s.beginCmd id w).pcie = s.pcie := rfl
@[simp] theorem State.beginCmd_pins (s : State) (id : Nat) (w : Work) : (s.beginCmd id w).pins = s.pins := rfl
@[simp] theorem State.beginCmd_power (s : State) (id : Nat) (w : Work) : (s.beginCmd id w).power = s.power := rfl
@[simp] theorem State.beginCmd_clocks (s : State) (id : Nat) (w : Work) : (s.beginCmd id w).clocks = s.clocks := rfl
@[simp] theorem State.beginCmd_thermal (s : State) (id : Nat) (w : Work) : (s.beginCmd id w).thermal = s.thermal := rfl
@[simp] theorem State.beginCmd_fab (s : State) (id : Nat) (w : Work) : (s.beginCmd id w).fab = s.fab := rfl
@[simp] theorem State.beginCmd_casc (s : State) (id : Nat) (w : Work) : (s.beginCmd id w).casc = s.casc := rfl
@[simp] theorem State.beginCmd_parity (s : State) (id : Nat) (w : Work) : (s.beginCmd id w).parity = s.parity := rfl
@[simp] theorem State.beginCmd_out (s : State) (id : Nat) (w : Work) : (s.beginCmd id w).out = s.out := rfl

/-! ### aer -/

@[simp] theorem State.aer_pending (s : State) (c : Nat) : (s.aer c).pending = s.pending := rfl
@[simp] theorem State.aer_tick (s : State) (c : Nat) : (s.aer c).tick = s.tick := rfl
@[simp] theorem State.aer_freeCtr (s : State) (c : Nat) : (s.aer c).freeCtr = s.freeCtr := rfl
@[simp] theorem State.aer_regs (s : State) (c : Nat) : (s.aer c).regs = s.regs := rfl
@[simp] theorem State.aer_cnts (s : State) (c : Nat) : (s.aer c).cnts = s.cnts := rfl
@[simp] theorem State.aer_latches (s : State) (c : Nat) : (s.aer c).latches = s.latches := rfl
@[simp] theorem State.aer_host (s : State) (c : Nat) : (s.aer c).host = s.host := rfl
@[simp] theorem State.aer_fuses (s : State) (c : Nat) : (s.aer c).fuses = s.fuses := rfl
@[simp] theorem State.aer_nvm (s : State) (c : Nat) : (s.aer c).nvm = s.nvm := rfl
@[simp] theorem State.aer_alm (s : State) (c : Nat) : (s.aer c).alm = s.alm := rfl
@[simp] theorem State.aer_sets (s : State) (c : Nat) : (s.aer c).sets = s.sets := rfl
@[simp] theorem State.aer_mbx (s : State) (c : Nat) : (s.aer c).mbx = s.mbx := rfl
@[simp] theorem State.aer_image (s : State) (c : Nat) : (s.aer c).image = s.image := rfl
@[simp] theorem State.aer_loader (s : State) (c : Nat) : (s.aer c).loader = s.loader := rfl
@[simp] theorem State.aer_runs (s : State) (c : Nat) : (s.aer c).runs = s.runs := rfl
@[simp] theorem State.aer_ctxs (s : State) (c : Nat) : (s.aer c).ctxs = s.ctxs := rfl
@[simp] theorem State.aer_arbs (s : State) (c : Nat) : (s.aer c).arbs = s.arbs := rfl
@[simp] theorem State.aer_cmds (s : State) (c : Nat) : (s.aer c).cmds = s.cmds := rfl
@[simp] theorem State.aer_nextId (s : State) (c : Nat) : (s.aer c).nextId = s.nextId := rfl
@[simp] theorem State.aer_cores (s : State) (c : Nat) : (s.aer c).cores = s.cores := rfl
@[simp] theorem State.aer_mem (s : State) (c : Nat) : (s.aer c).mem = s.mem := rfl
@[simp] theorem State.aer_nbus (s : State) (c : Nat) : (s.aer c).nbus = s.nbus := rfl
@[simp] theorem State.aer_nbuReady (s : State) (c : Nat) : (s.aer c).nbuReady = s.nbuReady := rfl
@[simp] theorem State.aer_kv (s : State) (c : Nat) : (s.aer c).kv = s.kv := rfl
@[simp] theorem State.aer_copies (s : State) (c : Nat) : (s.aer c).copies = s.copies := rfl
@[simp] theorem State.aer_sentinel (s : State) (c : Nat) : (s.aer c).sentinel = s.sentinel := rfl
@[simp] theorem State.aer_drifted (s : State) (c : Nat) : (s.aer c).drifted = s.drifted := rfl
@[simp] theorem State.aer_resets (s : State) (c : Nat) : (s.aer c).resets = s.resets := rfl
@[simp] theorem State.aer_sec (s : State) (c : Nat) : (s.aer c).sec = s.sec := rfl
@[simp] theorem State.aer_mctp (s : State) (c : Nat) : (s.aer c).mctp = s.mctp := rfl
@[simp] theorem State.aer_pins (s : State) (c : Nat) : (s.aer c).pins = s.pins := rfl
@[simp] theorem State.aer_power (s : State) (c : Nat) : (s.aer c).power = s.power := rfl
@[simp] theorem State.aer_clocks (s : State) (c : Nat) : (s.aer c).clocks = s.clocks := rfl
@[simp] theorem State.aer_thermal (s : State) (c : Nat) : (s.aer c).thermal = s.thermal := rfl
@[simp] theorem State.aer_fab (s : State) (c : Nat) : (s.aer c).fab = s.fab := rfl
@[simp] theorem State.aer_casc (s : State) (c : Nat) : (s.aer c).casc = s.casc := rfl
@[simp] theorem State.aer_parity (s : State) (c : Nat) : (s.aer c).parity = s.parity := rfl
@[simp] theorem State.aer_out (s : State) (c : Nat) : (s.aer c).out = s.out := rfl

/-! ### setNbu -/

@[simp] theorem State.setNbu_pending (s : State) (col bank : Nat) (q : Option NbuSeq) : (s.setNbu col bank q).pending = s.pending := rfl
@[simp] theorem State.setNbu_tick (s : State) (col bank : Nat) (q : Option NbuSeq) : (s.setNbu col bank q).tick = s.tick := rfl
@[simp] theorem State.setNbu_freeCtr (s : State) (col bank : Nat) (q : Option NbuSeq) : (s.setNbu col bank q).freeCtr = s.freeCtr := rfl
@[simp] theorem State.setNbu_regs (s : State) (col bank : Nat) (q : Option NbuSeq) : (s.setNbu col bank q).regs = s.regs := rfl
@[simp] theorem State.setNbu_cnts (s : State) (col bank : Nat) (q : Option NbuSeq) : (s.setNbu col bank q).cnts = s.cnts := rfl
@[simp] theorem State.setNbu_latches (s : State) (col bank : Nat) (q : Option NbuSeq) : (s.setNbu col bank q).latches = s.latches := rfl
@[simp] theorem State.setNbu_host (s : State) (col bank : Nat) (q : Option NbuSeq) : (s.setNbu col bank q).host = s.host := rfl
@[simp] theorem State.setNbu_fuses (s : State) (col bank : Nat) (q : Option NbuSeq) : (s.setNbu col bank q).fuses = s.fuses := rfl
@[simp] theorem State.setNbu_nvm (s : State) (col bank : Nat) (q : Option NbuSeq) : (s.setNbu col bank q).nvm = s.nvm := rfl
@[simp] theorem State.setNbu_alm (s : State) (col bank : Nat) (q : Option NbuSeq) : (s.setNbu col bank q).alm = s.alm := rfl
@[simp] theorem State.setNbu_sets (s : State) (col bank : Nat) (q : Option NbuSeq) : (s.setNbu col bank q).sets = s.sets := rfl
@[simp] theorem State.setNbu_mbx (s : State) (col bank : Nat) (q : Option NbuSeq) : (s.setNbu col bank q).mbx = s.mbx := rfl
@[simp] theorem State.setNbu_image (s : State) (col bank : Nat) (q : Option NbuSeq) : (s.setNbu col bank q).image = s.image := rfl
@[simp] theorem State.setNbu_loader (s : State) (col bank : Nat) (q : Option NbuSeq) : (s.setNbu col bank q).loader = s.loader := rfl
@[simp] theorem State.setNbu_runs (s : State) (col bank : Nat) (q : Option NbuSeq) : (s.setNbu col bank q).runs = s.runs := rfl
@[simp] theorem State.setNbu_ctxs (s : State) (col bank : Nat) (q : Option NbuSeq) : (s.setNbu col bank q).ctxs = s.ctxs := rfl
@[simp] theorem State.setNbu_arbs (s : State) (col bank : Nat) (q : Option NbuSeq) : (s.setNbu col bank q).arbs = s.arbs := rfl
@[simp] theorem State.setNbu_cmds (s : State) (col bank : Nat) (q : Option NbuSeq) : (s.setNbu col bank q).cmds = s.cmds := rfl
@[simp] theorem State.setNbu_nextId (s : State) (col bank : Nat) (q : Option NbuSeq) : (s.setNbu col bank q).nextId = s.nextId := rfl
@[simp] theorem State.setNbu_cores (s : State) (col bank : Nat) (q : Option NbuSeq) : (s.setNbu col bank q).cores = s.cores := rfl
@[simp] theorem State.setNbu_mem (s : State) (col bank : Nat) (q : Option NbuSeq) : (s.setNbu col bank q).mem = s.mem := rfl
@[simp] theorem State.setNbu_nbuReady (s : State) (col bank : Nat) (q : Option NbuSeq) : (s.setNbu col bank q).nbuReady = s.nbuReady := rfl
@[simp] theorem State.setNbu_kv (s : State) (col bank : Nat) (q : Option NbuSeq) : (s.setNbu col bank q).kv = s.kv := rfl
@[simp] theorem State.setNbu_copies (s : State) (col bank : Nat) (q : Option NbuSeq) : (s.setNbu col bank q).copies = s.copies := rfl
@[simp] theorem State.setNbu_sentinel (s : State) (col bank : Nat) (q : Option NbuSeq) : (s.setNbu col bank q).sentinel = s.sentinel := rfl
@[simp] theorem State.setNbu_drifted (s : State) (col bank : Nat) (q : Option NbuSeq) : (s.setNbu col bank q).drifted = s.drifted := rfl
@[simp] theorem State.setNbu_resets (s : State) (col bank : Nat) (q : Option NbuSeq) : (s.setNbu col bank q).resets = s.resets := rfl
@[simp] theorem State.setNbu_sec (s : State) (col bank : Nat) (q : Option NbuSeq) : (s.setNbu col bank q).sec = s.sec := rfl
@[simp] theorem State.setNbu_mctp (s : State) (col bank : Nat) (q : Option NbuSeq) : (s.setNbu col bank q).mctp = s.mctp := rfl
@[simp] theorem State.setNbu_pcie (s : State) (col bank : Nat) (q : Option NbuSeq) : (s.setNbu col bank q).pcie = s.pcie := rfl
@[simp] theorem State.setNbu_pins (s : State) (col bank : Nat) (q : Option NbuSeq) : (s.setNbu col bank q).pins = s.pins := rfl
@[simp] theorem State.setNbu_power (s : State) (col bank : Nat) (q : Option NbuSeq) : (s.setNbu col bank q).power = s.power := rfl
@[simp] theorem State.setNbu_clocks (s : State) (col bank : Nat) (q : Option NbuSeq) : (s.setNbu col bank q).clocks = s.clocks := rfl
@[simp] theorem State.setNbu_thermal (s : State) (col bank : Nat) (q : Option NbuSeq) : (s.setNbu col bank q).thermal = s.thermal := rfl
@[simp] theorem State.setNbu_fab (s : State) (col bank : Nat) (q : Option NbuSeq) : (s.setNbu col bank q).fab = s.fab := rfl
@[simp] theorem State.setNbu_casc (s : State) (col bank : Nat) (q : Option NbuSeq) : (s.setNbu col bank q).casc = s.casc := rfl
@[simp] theorem State.setNbu_parity (s : State) (col bank : Nat) (q : Option NbuSeq) : (s.setNbu col bank q).parity = s.parity := rfl
@[simp] theorem State.setNbu_out (s : State) (col bank : Nat) (q : Option NbuSeq) : (s.setNbu col bank q).out = s.out := rfl

/-! ### setCore -/

@[simp] theorem State.setCore_pending (s : State) (n : Nat) (k : CoreState) : (s.setCore n k).pending = s.pending := rfl
@[simp] theorem State.setCore_tick (s : State) (n : Nat) (k : CoreState) : (s.setCore n k).tick = s.tick := rfl
@[simp] theorem State.setCore_freeCtr (s : State) (n : Nat) (k : CoreState) : (s.setCore n k).freeCtr = s.freeCtr := rfl
@[simp] theorem State.setCore_regs (s : State) (n : Nat) (k : CoreState) : (s.setCore n k).regs = s.regs := rfl
@[simp] theorem State.setCore_cnts (s : State) (n : Nat) (k : CoreState) : (s.setCore n k).cnts = s.cnts := rfl
@[simp] theorem State.setCore_latches (s : State) (n : Nat) (k : CoreState) : (s.setCore n k).latches = s.latches := rfl
@[simp] theorem State.setCore_host (s : State) (n : Nat) (k : CoreState) : (s.setCore n k).host = s.host := rfl
@[simp] theorem State.setCore_fuses (s : State) (n : Nat) (k : CoreState) : (s.setCore n k).fuses = s.fuses := rfl
@[simp] theorem State.setCore_nvm (s : State) (n : Nat) (k : CoreState) : (s.setCore n k).nvm = s.nvm := rfl
@[simp] theorem State.setCore_alm (s : State) (n : Nat) (k : CoreState) : (s.setCore n k).alm = s.alm := rfl
@[simp] theorem State.setCore_sets (s : State) (n : Nat) (k : CoreState) : (s.setCore n k).sets = s.sets := rfl
@[simp] theorem State.setCore_mbx (s : State) (n : Nat) (k : CoreState) : (s.setCore n k).mbx = s.mbx := rfl
@[simp] theorem State.setCore_image (s : State) (n : Nat) (k : CoreState) : (s.setCore n k).image = s.image := rfl
@[simp] theorem State.setCore_loader (s : State) (n : Nat) (k : CoreState) : (s.setCore n k).loader = s.loader := rfl
@[simp] theorem State.setCore_runs (s : State) (n : Nat) (k : CoreState) : (s.setCore n k).runs = s.runs := rfl
@[simp] theorem State.setCore_ctxs (s : State) (n : Nat) (k : CoreState) : (s.setCore n k).ctxs = s.ctxs := rfl
@[simp] theorem State.setCore_arbs (s : State) (n : Nat) (k : CoreState) : (s.setCore n k).arbs = s.arbs := rfl
@[simp] theorem State.setCore_cmds (s : State) (n : Nat) (k : CoreState) : (s.setCore n k).cmds = s.cmds := rfl
@[simp] theorem State.setCore_nextId (s : State) (n : Nat) (k : CoreState) : (s.setCore n k).nextId = s.nextId := rfl
@[simp] theorem State.setCore_mem (s : State) (n : Nat) (k : CoreState) : (s.setCore n k).mem = s.mem := rfl
@[simp] theorem State.setCore_nbus (s : State) (n : Nat) (k : CoreState) : (s.setCore n k).nbus = s.nbus := rfl
@[simp] theorem State.setCore_nbuReady (s : State) (n : Nat) (k : CoreState) : (s.setCore n k).nbuReady = s.nbuReady := rfl
@[simp] theorem State.setCore_kv (s : State) (n : Nat) (k : CoreState) : (s.setCore n k).kv = s.kv := rfl
@[simp] theorem State.setCore_copies (s : State) (n : Nat) (k : CoreState) : (s.setCore n k).copies = s.copies := rfl
@[simp] theorem State.setCore_sentinel (s : State) (n : Nat) (k : CoreState) : (s.setCore n k).sentinel = s.sentinel := rfl
@[simp] theorem State.setCore_drifted (s : State) (n : Nat) (k : CoreState) : (s.setCore n k).drifted = s.drifted := rfl
@[simp] theorem State.setCore_resets (s : State) (n : Nat) (k : CoreState) : (s.setCore n k).resets = s.resets := rfl
@[simp] theorem State.setCore_sec (s : State) (n : Nat) (k : CoreState) : (s.setCore n k).sec = s.sec := rfl
@[simp] theorem State.setCore_mctp (s : State) (n : Nat) (k : CoreState) : (s.setCore n k).mctp = s.mctp := rfl
@[simp] theorem State.setCore_pcie (s : State) (n : Nat) (k : CoreState) : (s.setCore n k).pcie = s.pcie := rfl
@[simp] theorem State.setCore_pins (s : State) (n : Nat) (k : CoreState) : (s.setCore n k).pins = s.pins := rfl
@[simp] theorem State.setCore_power (s : State) (n : Nat) (k : CoreState) : (s.setCore n k).power = s.power := rfl
@[simp] theorem State.setCore_clocks (s : State) (n : Nat) (k : CoreState) : (s.setCore n k).clocks = s.clocks := rfl
@[simp] theorem State.setCore_thermal (s : State) (n : Nat) (k : CoreState) : (s.setCore n k).thermal = s.thermal := rfl
@[simp] theorem State.setCore_fab (s : State) (n : Nat) (k : CoreState) : (s.setCore n k).fab = s.fab := rfl
@[simp] theorem State.setCore_casc (s : State) (n : Nat) (k : CoreState) : (s.setCore n k).casc = s.casc := rfl
@[simp] theorem State.setCore_parity (s : State) (n : Nat) (k : CoreState) : (s.setCore n k).parity = s.parity := rfl
@[simp] theorem State.setCore_out (s : State) (n : Nat) (k : CoreState) : (s.setCore n k).out = s.out := rfl

/-! ### mapCores -/

@[simp] theorem State.mapCores_pending (s : State) (f : CoreState → CoreState) : (s.mapCores f).pending = s.pending := rfl
@[simp] theorem State.mapCores_tick (s : State) (f : CoreState → CoreState) : (s.mapCores f).tick = s.tick := rfl
@[simp] theorem State.mapCores_freeCtr (s : State) (f : CoreState → CoreState) : (s.mapCores f).freeCtr = s.freeCtr := rfl
@[simp] theorem State.mapCores_regs (s : State) (f : CoreState → CoreState) : (s.mapCores f).regs = s.regs := rfl
@[simp] theorem State.mapCores_cnts (s : State) (f : CoreState → CoreState) : (s.mapCores f).cnts = s.cnts := rfl
@[simp] theorem State.mapCores_latches (s : State) (f : CoreState → CoreState) : (s.mapCores f).latches = s.latches := rfl
@[simp] theorem State.mapCores_host (s : State) (f : CoreState → CoreState) : (s.mapCores f).host = s.host := rfl
@[simp] theorem State.mapCores_fuses (s : State) (f : CoreState → CoreState) : (s.mapCores f).fuses = s.fuses := rfl
@[simp] theorem State.mapCores_nvm (s : State) (f : CoreState → CoreState) : (s.mapCores f).nvm = s.nvm := rfl
@[simp] theorem State.mapCores_alm (s : State) (f : CoreState → CoreState) : (s.mapCores f).alm = s.alm := rfl
@[simp] theorem State.mapCores_sets (s : State) (f : CoreState → CoreState) : (s.mapCores f).sets = s.sets := rfl
@[simp] theorem State.mapCores_mbx (s : State) (f : CoreState → CoreState) : (s.mapCores f).mbx = s.mbx := rfl
@[simp] theorem State.mapCores_image (s : State) (f : CoreState → CoreState) : (s.mapCores f).image = s.image := rfl
@[simp] theorem State.mapCores_loader (s : State) (f : CoreState → CoreState) : (s.mapCores f).loader = s.loader := rfl
@[simp] theorem State.mapCores_runs (s : State) (f : CoreState → CoreState) : (s.mapCores f).runs = s.runs := rfl
@[simp] theorem State.mapCores_ctxs (s : State) (f : CoreState → CoreState) : (s.mapCores f).ctxs = s.ctxs := rfl
@[simp] theorem State.mapCores_arbs (s : State) (f : CoreState → CoreState) : (s.mapCores f).arbs = s.arbs := rfl
@[simp] theorem State.mapCores_cmds (s : State) (f : CoreState → CoreState) : (s.mapCores f).cmds = s.cmds := rfl
@[simp] theorem State.mapCores_nextId (s : State) (f : CoreState → CoreState) : (s.mapCores f).nextId = s.nextId := rfl
@[simp] theorem State.mapCores_mem (s : State) (f : CoreState → CoreState) : (s.mapCores f).mem = s.mem := rfl
@[simp] theorem State.mapCores_nbus (s : State) (f : CoreState → CoreState) : (s.mapCores f).nbus = s.nbus := rfl
@[simp] theorem State.mapCores_nbuReady (s : State) (f : CoreState → CoreState) : (s.mapCores f).nbuReady = s.nbuReady := rfl
@[simp] theorem State.mapCores_kv (s : State) (f : CoreState → CoreState) : (s.mapCores f).kv = s.kv := rfl
@[simp] theorem State.mapCores_copies (s : State) (f : CoreState → CoreState) : (s.mapCores f).copies = s.copies := rfl
@[simp] theorem State.mapCores_sentinel (s : State) (f : CoreState → CoreState) : (s.mapCores f).sentinel = s.sentinel := rfl
@[simp] theorem State.mapCores_drifted (s : State) (f : CoreState → CoreState) : (s.mapCores f).drifted = s.drifted := rfl
@[simp] theorem State.mapCores_resets (s : State) (f : CoreState → CoreState) : (s.mapCores f).resets = s.resets := rfl
@[simp] theorem State.mapCores_sec (s : State) (f : CoreState → CoreState) : (s.mapCores f).sec = s.sec := rfl
@[simp] theorem State.mapCores_mctp (s : State) (f : CoreState → CoreState) : (s.mapCores f).mctp = s.mctp := rfl
@[simp] theorem State.mapCores_pcie (s : State) (f : CoreState → CoreState) : (s.mapCores f).pcie = s.pcie := rfl
@[simp] theorem State.mapCores_pins (s : State) (f : CoreState → CoreState) : (s.mapCores f).pins = s.pins := rfl
@[simp] theorem State.mapCores_power (s : State) (f : CoreState → CoreState) : (s.mapCores f).power = s.power := rfl
@[simp] theorem State.mapCores_clocks (s : State) (f : CoreState → CoreState) : (s.mapCores f).clocks = s.clocks := rfl
@[simp] theorem State.mapCores_thermal (s : State) (f : CoreState → CoreState) : (s.mapCores f).thermal = s.thermal := rfl
@[simp] theorem State.mapCores_fab (s : State) (f : CoreState → CoreState) : (s.mapCores f).fab = s.fab := rfl
@[simp] theorem State.mapCores_casc (s : State) (f : CoreState → CoreState) : (s.mapCores f).casc = s.casc := rfl
@[simp] theorem State.mapCores_parity (s : State) (f : CoreState → CoreState) : (s.mapCores f).parity = s.parity := rfl
@[simp] theorem State.mapCores_out (s : State) (f : CoreState → CoreState) : (s.mapCores f).out = s.out := rfl

/-! ### setFlow -/

@[simp] theorem State.setFlow_pending (s : State) (d : Nat) (f : Flow) : (s.setFlow d f).pending = s.pending := rfl
@[simp] theorem State.setFlow_tick (s : State) (d : Nat) (f : Flow) : (s.setFlow d f).tick = s.tick := rfl
@[simp] theorem State.setFlow_freeCtr (s : State) (d : Nat) (f : Flow) : (s.setFlow d f).freeCtr = s.freeCtr := rfl
@[simp] theorem State.setFlow_regs (s : State) (d : Nat) (f : Flow) : (s.setFlow d f).regs = s.regs := rfl
@[simp] theorem State.setFlow_cnts (s : State) (d : Nat) (f : Flow) : (s.setFlow d f).cnts = s.cnts := rfl
@[simp] theorem State.setFlow_latches (s : State) (d : Nat) (f : Flow) : (s.setFlow d f).latches = s.latches := rfl
@[simp] theorem State.setFlow_host (s : State) (d : Nat) (f : Flow) : (s.setFlow d f).host = s.host := rfl
@[simp] theorem State.setFlow_fuses (s : State) (d : Nat) (f : Flow) : (s.setFlow d f).fuses = s.fuses := rfl
@[simp] theorem State.setFlow_nvm (s : State) (d : Nat) (f : Flow) : (s.setFlow d f).nvm = s.nvm := rfl
@[simp] theorem State.setFlow_alm (s : State) (d : Nat) (f : Flow) : (s.setFlow d f).alm = s.alm := rfl
@[simp] theorem State.setFlow_sets (s : State) (d : Nat) (f : Flow) : (s.setFlow d f).sets = s.sets := rfl
@[simp] theorem State.setFlow_mbx (s : State) (d : Nat) (f : Flow) : (s.setFlow d f).mbx = s.mbx := rfl
@[simp] theorem State.setFlow_image (s : State) (d : Nat) (f : Flow) : (s.setFlow d f).image = s.image := rfl
@[simp] theorem State.setFlow_loader (s : State) (d : Nat) (f : Flow) : (s.setFlow d f).loader = s.loader := rfl
@[simp] theorem State.setFlow_runs (s : State) (d : Nat) (f : Flow) : (s.setFlow d f).runs = s.runs := rfl
@[simp] theorem State.setFlow_ctxs (s : State) (d : Nat) (f : Flow) : (s.setFlow d f).ctxs = s.ctxs := rfl
@[simp] theorem State.setFlow_arbs (s : State) (d : Nat) (f : Flow) : (s.setFlow d f).arbs = s.arbs := rfl
@[simp] theorem State.setFlow_cmds (s : State) (d : Nat) (f : Flow) : (s.setFlow d f).cmds = s.cmds := rfl
@[simp] theorem State.setFlow_nextId (s : State) (d : Nat) (f : Flow) : (s.setFlow d f).nextId = s.nextId := rfl
@[simp] theorem State.setFlow_cores (s : State) (d : Nat) (f : Flow) : (s.setFlow d f).cores = s.cores := rfl
@[simp] theorem State.setFlow_mem (s : State) (d : Nat) (f : Flow) : (s.setFlow d f).mem = s.mem := rfl
@[simp] theorem State.setFlow_nbus (s : State) (d : Nat) (f : Flow) : (s.setFlow d f).nbus = s.nbus := rfl
@[simp] theorem State.setFlow_nbuReady (s : State) (d : Nat) (f : Flow) : (s.setFlow d f).nbuReady = s.nbuReady := rfl
@[simp] theorem State.setFlow_kv (s : State) (d : Nat) (f : Flow) : (s.setFlow d f).kv = s.kv := rfl
@[simp] theorem State.setFlow_copies (s : State) (d : Nat) (f : Flow) : (s.setFlow d f).copies = s.copies := rfl
@[simp] theorem State.setFlow_sentinel (s : State) (d : Nat) (f : Flow) : (s.setFlow d f).sentinel = s.sentinel := rfl
@[simp] theorem State.setFlow_drifted (s : State) (d : Nat) (f : Flow) : (s.setFlow d f).drifted = s.drifted := rfl
@[simp] theorem State.setFlow_resets (s : State) (d : Nat) (f : Flow) : (s.setFlow d f).resets = s.resets := rfl
@[simp] theorem State.setFlow_sec (s : State) (d : Nat) (f : Flow) : (s.setFlow d f).sec = s.sec := rfl
@[simp] theorem State.setFlow_mctp (s : State) (d : Nat) (f : Flow) : (s.setFlow d f).mctp = s.mctp := rfl
@[simp] theorem State.setFlow_pcie (s : State) (d : Nat) (f : Flow) : (s.setFlow d f).pcie = s.pcie := rfl
@[simp] theorem State.setFlow_pins (s : State) (d : Nat) (f : Flow) : (s.setFlow d f).pins = s.pins := rfl
@[simp] theorem State.setFlow_power (s : State) (d : Nat) (f : Flow) : (s.setFlow d f).power = s.power := rfl
@[simp] theorem State.setFlow_clocks (s : State) (d : Nat) (f : Flow) : (s.setFlow d f).clocks = s.clocks := rfl
@[simp] theorem State.setFlow_thermal (s : State) (d : Nat) (f : Flow) : (s.setFlow d f).thermal = s.thermal := rfl
@[simp] theorem State.setFlow_casc (s : State) (d : Nat) (f : Flow) : (s.setFlow d f).casc = s.casc := rfl
@[simp] theorem State.setFlow_parity (s : State) (d : Nat) (f : Flow) : (s.setFlow d f).parity = s.parity := rfl
@[simp] theorem State.setFlow_out (s : State) (d : Nat) (f : Flow) : (s.setFlow d f).out = s.out := rfl

/-! ### setRx -/

@[simp] theorem State.setRx_pending (s : State) (d : Nat) (r : RxFlow) : (s.setRx d r).pending = s.pending := rfl
@[simp] theorem State.setRx_tick (s : State) (d : Nat) (r : RxFlow) : (s.setRx d r).tick = s.tick := rfl
@[simp] theorem State.setRx_freeCtr (s : State) (d : Nat) (r : RxFlow) : (s.setRx d r).freeCtr = s.freeCtr := rfl
@[simp] theorem State.setRx_regs (s : State) (d : Nat) (r : RxFlow) : (s.setRx d r).regs = s.regs := rfl
@[simp] theorem State.setRx_cnts (s : State) (d : Nat) (r : RxFlow) : (s.setRx d r).cnts = s.cnts := rfl
@[simp] theorem State.setRx_latches (s : State) (d : Nat) (r : RxFlow) : (s.setRx d r).latches = s.latches := rfl
@[simp] theorem State.setRx_host (s : State) (d : Nat) (r : RxFlow) : (s.setRx d r).host = s.host := rfl
@[simp] theorem State.setRx_fuses (s : State) (d : Nat) (r : RxFlow) : (s.setRx d r).fuses = s.fuses := rfl
@[simp] theorem State.setRx_nvm (s : State) (d : Nat) (r : RxFlow) : (s.setRx d r).nvm = s.nvm := rfl
@[simp] theorem State.setRx_alm (s : State) (d : Nat) (r : RxFlow) : (s.setRx d r).alm = s.alm := rfl
@[simp] theorem State.setRx_sets (s : State) (d : Nat) (r : RxFlow) : (s.setRx d r).sets = s.sets := rfl
@[simp] theorem State.setRx_mbx (s : State) (d : Nat) (r : RxFlow) : (s.setRx d r).mbx = s.mbx := rfl
@[simp] theorem State.setRx_image (s : State) (d : Nat) (r : RxFlow) : (s.setRx d r).image = s.image := rfl
@[simp] theorem State.setRx_loader (s : State) (d : Nat) (r : RxFlow) : (s.setRx d r).loader = s.loader := rfl
@[simp] theorem State.setRx_runs (s : State) (d : Nat) (r : RxFlow) : (s.setRx d r).runs = s.runs := rfl
@[simp] theorem State.setRx_ctxs (s : State) (d : Nat) (r : RxFlow) : (s.setRx d r).ctxs = s.ctxs := rfl
@[simp] theorem State.setRx_arbs (s : State) (d : Nat) (r : RxFlow) : (s.setRx d r).arbs = s.arbs := rfl
@[simp] theorem State.setRx_cmds (s : State) (d : Nat) (r : RxFlow) : (s.setRx d r).cmds = s.cmds := rfl
@[simp] theorem State.setRx_nextId (s : State) (d : Nat) (r : RxFlow) : (s.setRx d r).nextId = s.nextId := rfl
@[simp] theorem State.setRx_cores (s : State) (d : Nat) (r : RxFlow) : (s.setRx d r).cores = s.cores := rfl
@[simp] theorem State.setRx_mem (s : State) (d : Nat) (r : RxFlow) : (s.setRx d r).mem = s.mem := rfl
@[simp] theorem State.setRx_nbus (s : State) (d : Nat) (r : RxFlow) : (s.setRx d r).nbus = s.nbus := rfl
@[simp] theorem State.setRx_nbuReady (s : State) (d : Nat) (r : RxFlow) : (s.setRx d r).nbuReady = s.nbuReady := rfl
@[simp] theorem State.setRx_kv (s : State) (d : Nat) (r : RxFlow) : (s.setRx d r).kv = s.kv := rfl
@[simp] theorem State.setRx_copies (s : State) (d : Nat) (r : RxFlow) : (s.setRx d r).copies = s.copies := rfl
@[simp] theorem State.setRx_sentinel (s : State) (d : Nat) (r : RxFlow) : (s.setRx d r).sentinel = s.sentinel := rfl
@[simp] theorem State.setRx_drifted (s : State) (d : Nat) (r : RxFlow) : (s.setRx d r).drifted = s.drifted := rfl
@[simp] theorem State.setRx_resets (s : State) (d : Nat) (r : RxFlow) : (s.setRx d r).resets = s.resets := rfl
@[simp] theorem State.setRx_sec (s : State) (d : Nat) (r : RxFlow) : (s.setRx d r).sec = s.sec := rfl
@[simp] theorem State.setRx_mctp (s : State) (d : Nat) (r : RxFlow) : (s.setRx d r).mctp = s.mctp := rfl
@[simp] theorem State.setRx_pcie (s : State) (d : Nat) (r : RxFlow) : (s.setRx d r).pcie = s.pcie := rfl
@[simp] theorem State.setRx_pins (s : State) (d : Nat) (r : RxFlow) : (s.setRx d r).pins = s.pins := rfl
@[simp] theorem State.setRx_power (s : State) (d : Nat) (r : RxFlow) : (s.setRx d r).power = s.power := rfl
@[simp] theorem State.setRx_clocks (s : State) (d : Nat) (r : RxFlow) : (s.setRx d r).clocks = s.clocks := rfl
@[simp] theorem State.setRx_thermal (s : State) (d : Nat) (r : RxFlow) : (s.setRx d r).thermal = s.thermal := rfl
@[simp] theorem State.setRx_casc (s : State) (d : Nat) (r : RxFlow) : (s.setRx d r).casc = s.casc := rfl
@[simp] theorem State.setRx_parity (s : State) (d : Nat) (r : RxFlow) : (s.setRx d r).parity = s.parity := rfl
@[simp] theorem State.setRx_out (s : State) (d : Nat) (r : RxFlow) : (s.setRx d r).out = s.out := rfl

/-! ### setArp -/

@[simp] theorem State.setArp_pending (s : State) (port ip eth : Nat) : (s.setArp port ip eth).pending = s.pending := rfl
@[simp] theorem State.setArp_tick (s : State) (port ip eth : Nat) : (s.setArp port ip eth).tick = s.tick := rfl
@[simp] theorem State.setArp_freeCtr (s : State) (port ip eth : Nat) : (s.setArp port ip eth).freeCtr = s.freeCtr := rfl
@[simp] theorem State.setArp_regs (s : State) (port ip eth : Nat) : (s.setArp port ip eth).regs = s.regs := rfl
@[simp] theorem State.setArp_cnts (s : State) (port ip eth : Nat) : (s.setArp port ip eth).cnts = s.cnts := rfl
@[simp] theorem State.setArp_latches (s : State) (port ip eth : Nat) : (s.setArp port ip eth).latches = s.latches := rfl
@[simp] theorem State.setArp_host (s : State) (port ip eth : Nat) : (s.setArp port ip eth).host = s.host := rfl
@[simp] theorem State.setArp_fuses (s : State) (port ip eth : Nat) : (s.setArp port ip eth).fuses = s.fuses := rfl
@[simp] theorem State.setArp_nvm (s : State) (port ip eth : Nat) : (s.setArp port ip eth).nvm = s.nvm := rfl
@[simp] theorem State.setArp_alm (s : State) (port ip eth : Nat) : (s.setArp port ip eth).alm = s.alm := rfl
@[simp] theorem State.setArp_sets (s : State) (port ip eth : Nat) : (s.setArp port ip eth).sets = s.sets := rfl
@[simp] theorem State.setArp_mbx (s : State) (port ip eth : Nat) : (s.setArp port ip eth).mbx = s.mbx := rfl
@[simp] theorem State.setArp_image (s : State) (port ip eth : Nat) : (s.setArp port ip eth).image = s.image := rfl
@[simp] theorem State.setArp_loader (s : State) (port ip eth : Nat) : (s.setArp port ip eth).loader = s.loader := rfl
@[simp] theorem State.setArp_runs (s : State) (port ip eth : Nat) : (s.setArp port ip eth).runs = s.runs := rfl
@[simp] theorem State.setArp_ctxs (s : State) (port ip eth : Nat) : (s.setArp port ip eth).ctxs = s.ctxs := rfl
@[simp] theorem State.setArp_arbs (s : State) (port ip eth : Nat) : (s.setArp port ip eth).arbs = s.arbs := rfl
@[simp] theorem State.setArp_cmds (s : State) (port ip eth : Nat) : (s.setArp port ip eth).cmds = s.cmds := rfl
@[simp] theorem State.setArp_nextId (s : State) (port ip eth : Nat) : (s.setArp port ip eth).nextId = s.nextId := rfl
@[simp] theorem State.setArp_cores (s : State) (port ip eth : Nat) : (s.setArp port ip eth).cores = s.cores := rfl
@[simp] theorem State.setArp_mem (s : State) (port ip eth : Nat) : (s.setArp port ip eth).mem = s.mem := rfl
@[simp] theorem State.setArp_nbus (s : State) (port ip eth : Nat) : (s.setArp port ip eth).nbus = s.nbus := rfl
@[simp] theorem State.setArp_nbuReady (s : State) (port ip eth : Nat) : (s.setArp port ip eth).nbuReady = s.nbuReady := rfl
@[simp] theorem State.setArp_kv (s : State) (port ip eth : Nat) : (s.setArp port ip eth).kv = s.kv := rfl
@[simp] theorem State.setArp_copies (s : State) (port ip eth : Nat) : (s.setArp port ip eth).copies = s.copies := rfl
@[simp] theorem State.setArp_sentinel (s : State) (port ip eth : Nat) : (s.setArp port ip eth).sentinel = s.sentinel := rfl
@[simp] theorem State.setArp_drifted (s : State) (port ip eth : Nat) : (s.setArp port ip eth).drifted = s.drifted := rfl
@[simp] theorem State.setArp_resets (s : State) (port ip eth : Nat) : (s.setArp port ip eth).resets = s.resets := rfl
@[simp] theorem State.setArp_sec (s : State) (port ip eth : Nat) : (s.setArp port ip eth).sec = s.sec := rfl
@[simp] theorem State.setArp_mctp (s : State) (port ip eth : Nat) : (s.setArp port ip eth).mctp = s.mctp := rfl
@[simp] theorem State.setArp_pcie (s : State) (port ip eth : Nat) : (s.setArp port ip eth).pcie = s.pcie := rfl
@[simp] theorem State.setArp_pins (s : State) (port ip eth : Nat) : (s.setArp port ip eth).pins = s.pins := rfl
@[simp] theorem State.setArp_power (s : State) (port ip eth : Nat) : (s.setArp port ip eth).power = s.power := rfl
@[simp] theorem State.setArp_clocks (s : State) (port ip eth : Nat) : (s.setArp port ip eth).clocks = s.clocks := rfl
@[simp] theorem State.setArp_thermal (s : State) (port ip eth : Nat) : (s.setArp port ip eth).thermal = s.thermal := rfl
@[simp] theorem State.setArp_casc (s : State) (port ip eth : Nat) : (s.setArp port ip eth).casc = s.casc := rfl
@[simp] theorem State.setArp_parity (s : State) (port ip eth : Nat) : (s.setArp port ip eth).parity = s.parity := rfl
@[simp] theorem State.setArp_out (s : State) (port ip eth : Nat) : (s.setArp port ip eth).out = s.out := rfl

/-! ### What reads after a write -/

@[simp] theorem State.withQueue_pending_same (s : State) (q : List Instr) : (s.withQueue q).pending = q := rfl

@[simp] theorem State.reg_setReg (s : State) (a : Nat) (v : Word) (b : Nat) :
    (s.setReg a v).reg b = if b = a then v else s.reg b := SMap.get_set _ s.regs a v b

theorem State.reg_setReg_same (s : State) (a : Nat) (v : Word) : (s.setReg a v).reg a = v := by simp

theorem State.reg_setReg_ne (s : State) (v : Word) {a b : Nat} (h : b ≠ a) : (s.setReg a v).reg b = s.reg b := by simp [h]

theorem State.reg_setFld (s : State) (a hi lo v b : Nat) :
    (s.setFld a hi lo v).reg b = if b = a then Machine.setFld (s.reg a) hi lo v else s.reg b := State.reg_setReg s a _ b

theorem State.reg_setBit (s : State) (a i : Nat) (x : Bool) (b : Nat) :
    (s.setBit a i x).reg b = if b = a then Machine.setBit (s.reg a) i x else s.reg b := State.reg_setReg s a _ b

theorem State.reg_setNat (s : State) (a v b : Nat) :
    (s.setNat a v).reg b = if b = a then BitVec.ofNat 32 v else s.reg b := State.reg_setReg s a _ b

theorem State.reg_setFld_ne (s : State) (hi lo v : Nat) {a b : Nat} (h : b ≠ a) : (s.setFld a hi lo v).reg b = s.reg b := by
  simp [State.reg_setFld, h]

theorem State.reg_setBit_ne (s : State) (i : Nat) (x : Bool) {a b : Nat} (h : b ≠ a) : (s.setBit a i x).reg b = s.reg b := by
  simp [State.reg_setBit, h]

theorem State.reg_setNat_ne (s : State) (v : Nat) {a b : Nat} (h : b ≠ a) : (s.setNat a v).reg b = s.reg b := by
  simp [State.reg_setNat, h]

/-- A bit reads as it was set. -/
theorem State.bit_setBit_same (s : State) (a i : Nat) (x : Bool) (h : i < 32) : (s.setBit a i x).bit a i = x := by
  simp [State.bit, State.reg_setBit, getLsbD_setBit_same _ _ _ h]

/-- A bit of another register or place is left alone. -/
theorem State.bit_setBit_ne (s : State) (a i : Nat) (x : Bool) (b j : Nat) (h : b ≠ a ∨ j ≠ i) :
    (s.setBit a i x).bit b j = s.bit b j := by
  by_cases hb : b = a
  · subst hb
    have hj : j ≠ i := by rcases h with h | h <;> simp_all
    simp [State.bit, State.reg_setBit, getLsbD_setBit_ne _ _ _ hj]
  · simp [State.bit, State.reg_setBit, hb]

/-- A field reads as it was set, modulo its width. -/
theorem State.fld_setFld_same (s : State) (a hi lo v : Nat) (h1 : lo ≤ hi) (h2 : hi < 32) :
    (s.setFld a hi lo v).fld a hi lo = v % 2 ^ (hi + 1 - lo) := by
  simp [State.fld, State.reg_setFld, Machine.fld_setFld_same _ _ h1 h2]

/-- A register reads as it was set, modulo 2^32. -/
theorem State.nat_setNat_same (s : State) (a v : Nat) : (s.setNat a v).nat a = v % 2 ^ 32 := by
  simp [State.nat, State.reg_setNat]

theorem State.cnt_addCnt (s : State) (a n b : Nat) :
    (s.addCnt a n).cnt b = if b = a then s.cnt a + BitVec.ofNat 64 n else s.cnt b := SMap.get_set _ s.cnts a _ b

theorem State.cnt_setCnt (s : State) (a n b : Nat) :
    (s.setCnt a n).cnt b = if b = a then BitVec.ofNat 64 n else s.cnt b := SMap.get_set _ s.cnts a _ b

end Sys2Proof.Machine
end

