-- ==== Sys2Proof/Laws/Event.lean ====
section
/-! SUPPORT. Everything that recording an event can do: it changes the almanac, its freezes in NVM, the count of local events, two registers
of the almanac and what leaves the module, and nothing else. -/
namespace Sys2Proof.Machine

/-- What an event may change: the rest of the state is as it was. -/
def EventFrame (s t : State) : Prop :=
  t = { s with regs := t.regs, alm := t.alm, nvm := { s.nvm with frozen := t.nvm.frozen, frozenLost := t.nvm.frozenLost },
               parity := { s.parity with events := t.parity.events }, out := t.out } ∧
  ∀ a, a ≠ Reg.almLost → a ≠ Reg.almStatus → t.reg a = s.reg a

theorem EventFrame.refl (s : State) : EventFrame s s := ⟨rfl, fun _ _ _ => rfl⟩

theorem EventFrame.trans {s t u : State} (h : EventFrame s t) (k : EventFrame t u) : EventFrame s u := by
  refine ⟨?_, fun a h1 h2 => (k.2 a h1 h2).trans (h.2 a h1 h2)⟩
  obtain ⟨h, -⟩ := h; obtain ⟨k, -⟩ := k
  rw [k]; simp only; rw [h]

theorem EventFrame.noteLocal (s : State) : EventFrame s s.noteLocal := ⟨rfl, fun _ _ _ => rfl⟩

theorem EventFrame.platformEvent (s : State) (e : Entry) : EventFrame s (s.platformEvent e) := by
  unfold State.platformEvent
  split
  · split
    · exact ⟨rfl, fun _ _ _ => rfl⟩
    · exact .refl s
  · exact .refl s

theorem EventFrame.startFreeze (s : State) (e : Entry) (o : Nat) (r : Option Nat) : EventFrame s (s.startFreeze e o r) := by
  cases r <;> exact ⟨rfl, fun _ _ _ => rfl⟩

theorem EventFrame.ringPut (s : State) (e : Entry) : EventFrame s (s.ringPut e) :=
  EventFrame.trans ⟨rfl, fun _ _ _ => rfl⟩ (.platformEvent _ e)

theorem EventFrame.toRing (s : State) (e : Entry) : EventFrame s (s.toRing e) := by
  simp only [State.toRing]
  split
  · exact (EventFrame.ringPut s e).trans (.startFreeze _ _ _ _)
  · exact .ringPut s e

theorem EventFrame.lossTold (s : State) : EventFrame s s.lossTold := ⟨rfl, fun _ _ _ => rfl⟩

theorem EventFrame.toQueue (s : State) (e : Entry) : EventFrame s (s.toQueue e) := by
  unfold State.toQueue
  split
  · exact ⟨rfl, fun _ _ _ => rfl⟩
  · refine ⟨rfl, fun a h1 h2 => ?_⟩
    rw [State.reg_setBit_ne _ _ _ h2]
    exact State.reg_setFld_ne _ _ _ _ h1

/-- The frame of an event. -/
theorem State.event_frame (s : State) (code : Nat) (src : Nat × Nat) (ctx : Option Nat) (data : Nat) :
    EventFrame s (s.event code src ctx data) := by
  simp only [State.event]
  have h1 : EventFrame s (if [0x0404, 0x0805, 0x0815, 0x0906].contains code then s.noteLocal else s) := by
    split
    · exact .noteLocal s
    · exact .refl s
  generalize (if [0x0404, 0x0805, 0x0815, 0x0906].contains code then s.noteLocal else s) = t at h1 ⊢
  split
  · exact h1
  · split
    · exact h1.trans (.trans (.lossTold _) (.toRing _ _))
    · refine h1.trans (.trans ?_ (.toQueue _ _))
      split
      · exact ⟨rfl, fun _ _ _ => rfl⟩
      · exact .refl _

/-- A register of no almanac reads after an event as before. -/
theorem State.reg_event (s : State) (code : Nat) (src : Nat × Nat) (ctx : Option Nat) (data a : Nat) (h1 : a ≠ Reg.almLost)
    (h2 : a ≠ Reg.almStatus) : (s.event code src ctx data).reg a = s.reg a := (s.event_frame code src ctx data).2 a h1 h2

/-! ### Field by field -/

variable (s : State) (code : Nat) (src : Nat × Nat) (ctx : Option Nat) (data : Nat)

@[simp] theorem State.event_pending : (s.event code src ctx data).pending = s.pending := (congrArg State.pending (s.event_frame code src ctx data).1).trans rfl
@[simp] theorem State.event_tick : (s.event code src ctx data).tick = s.tick := (congrArg State.tick (s.event_frame code src ctx data).1).trans rfl
@[simp] theorem State.event_freeCtr : (s.event code src ctx data).freeCtr = s.freeCtr := (congrArg State.freeCtr (s.event_frame code src ctx data).1).trans rfl
@[simp] theorem State.event_cnts : (s.event code src ctx data).cnts = s.cnts := (congrArg State.cnts (s.event_frame code src ctx data).1).trans rfl
@[simp] theorem State.event_latches : (s.event code src ctx data).latches = s.latches := (congrArg State.latches (s.event_frame code src ctx data).1).trans rfl
@[simp] theorem State.event_host : (s.event code src ctx data).host = s.host := (congrArg State.host (s.event_frame code src ctx data).1).trans rfl
@[simp] theorem State.event_fuses : (s.event code src ctx data).fuses = s.fuses := (congrArg State.fuses (s.event_frame code src ctx data).1).trans rfl
@[simp] theorem State.event_sets : (s.event code src ctx data).sets = s.sets := (congrArg State.sets (s.event_frame code src ctx data).1).trans rfl
@[simp] theorem State.event_mbx : (s.event code src ctx data).mbx = s.mbx := (congrArg State.mbx (s.event_frame code src ctx data).1).trans rfl
@[simp] theorem State.event_image : (s.event code src ctx data).image = s.image := (congrArg State.image (s.event_frame code src ctx data).1).trans rfl
@[simp] theorem State.event_loader : (s.event code src ctx data).loader = s.loader := (congrArg State.loader (s.event_frame code src ctx data).1).trans rfl
@[simp] theorem State.event_runs : (s.event code src ctx data).runs = s.runs := (congrArg State.runs (s.event_frame code src ctx data).1).trans rfl
@[simp] theorem State.event_ctxs : (s.event code src ctx data).ctxs = s.ctxs := (congrArg State.ctxs (s.event_frame code src ctx data).1).trans rfl
@[simp] theorem State.event_arbs : (s.event code src ctx data).arbs = s.arbs := (congrArg State.arbs (s.event_frame code src ctx data).1).trans rfl
@[simp] theorem State.event_cmds : (s.event code src ctx data).cmds = s.cmds := (congrArg State.cmds (s.event_frame code src ctx data).1).trans rfl
@[simp] theorem State.event_nextId : (s.event code src ctx data).nextId = s.nextId := (congrArg State.nextId (s.event_frame code src ctx data).1).trans rfl
@[simp] theorem State.event_cores : (s.event code src ctx data).cores = s.cores := (congrArg State.cores (s.event_frame code src ctx data).1).trans rfl
@[simp] theorem State.event_mem : (s.event code src ctx data).mem = s.mem := (congrArg State.mem (s.event_frame code src ctx data).1).trans rfl
@[simp] theorem State.event_nbus : (s.event code src ctx data).nbus = s.nbus := (congrArg State.nbus (s.event_frame code src ctx data).1).trans rfl
@[simp] theorem State.event_nbuReady : (s.event code src ctx data).nbuReady = s.nbuReady := (congrArg State.nbuReady (s.event_frame code src ctx data).1).trans rfl
@[simp] theorem State.event_kv : (s.event code src ctx data).kv = s.kv := (congrArg State.kv (s.event_frame code src ctx data).1).trans rfl
@[simp] theorem State.event_copies : (s.event code src ctx data).copies = s.copies := (congrArg State.copies (s.event_frame code src ctx data).1).trans rfl
@[simp] theorem State.event_sentinel : (s.event code src ctx data).sentinel = s.sentinel := (congrArg State.sentinel (s.event_frame code src ctx data).1).trans rfl
@[simp] theorem State.event_drifted : (s.event code src ctx data).drifted = s.drifted := (congrArg State.drifted (s.event_frame code src ctx data).1).trans rfl
@[simp] theorem State.event_resets : (s.event code src ctx data).resets = s.resets := (congrArg State.resets (s.event_frame code src ctx data).1).trans rfl
@[simp] theorem State.event_sec : (s.event code src ctx data).sec = s.sec := (congrArg State.sec (s.event_frame code src ctx data).1).trans rfl
@[simp] theorem State.event_mctp : (s.event code src ctx data).mctp = s.mctp := (congrArg State.mctp (s.event_frame code src ctx data).1).trans rfl
@[simp] theorem State.event_pcie : (s.event code src ctx data).pcie = s.pcie := (congrArg State.pcie (s.event_frame code src ctx data).1).trans rfl
@[simp] theorem State.event_pins : (s.event code src ctx data).pins = s.pins := (congrArg State.pins (s.event_frame code src ctx data).1).trans rfl
@[simp] theorem State.event_power : (s.event code src ctx data).power = s.power := (congrArg State.power (s.event_frame code src ctx data).1).trans rfl
@[simp] theorem State.event_clocks : (s.event code src ctx data).clocks = s.clocks := (congrArg State.clocks (s.event_frame code src ctx data).1).trans rfl
@[simp] theorem State.event_thermal : (s.event code src ctx data).thermal = s.thermal := (congrArg State.thermal (s.event_frame code src ctx data).1).trans rfl
@[simp] theorem State.event_fab : (s.event code src ctx data).fab = s.fab := (congrArg State.fab (s.event_frame code src ctx data).1).trans rfl
@[simp] theorem State.event_casc : (s.event code src ctx data).casc = s.casc := (congrArg State.casc (s.event_frame code src ctx data).1).trans rfl
@[simp] theorem State.event_nvm_fwSlot : (s.event code src ctx data).nvm.fwSlot = s.nvm.fwSlot := (congrArg (fun (t : State) => t.nvm.fwSlot) (s.event_frame code src ctx data).1).trans rfl
@[simp] theorem State.event_nvm_slot0 : (s.event code src ctx data).nvm.slot0 = s.nvm.slot0 := (congrArg (fun (t : State) => t.nvm.slot0) (s.event_frame code src ctx data).1).trans rfl
@[simp] theorem State.event_nvm_slot1 : (s.event code src ctx data).nvm.slot1 = s.nvm.slot1 := (congrArg (fun (t : State) => t.nvm.slot1) (s.event_frame code src ctx data).1).trans rfl
@[simp] theorem State.event_nvm_storeCount : (s.event code src ctx data).nvm.storeCount = s.nvm.storeCount := (congrArg (fun (t : State) => t.nvm.storeCount) (s.event_frame code src ctx data).1).trans rfl
@[simp] theorem State.event_nvm_ownerHash : (s.event code src ctx data).nvm.ownerHash = s.nvm.ownerHash := (congrArg (fun (t : State) => t.nvm.ownerHash) (s.event_frame code src ctx data).1).trans rfl
@[simp] theorem State.event_nvm_retire : (s.event code src ctx data).nvm.retire = s.nvm.retire := (congrArg (fun (t : State) => t.nvm.retire) (s.event_frame code src ctx data).1).trans rfl
@[simp] theorem State.event_nvm_remap : (s.event code src ctx data).nvm.remap = s.nvm.remap := (congrArg (fun (t : State) => t.nvm.remap) (s.event_frame code src ctx data).1).trans rfl
@[simp] theorem State.event_nvm_remapFull : (s.event code src ctx data).nvm.remapFull = s.nvm.remapFull := (congrArg (fun (t : State) => t.nvm.remapFull) (s.event_frame code src ctx data).1).trans rfl
@[simp] theorem State.event_nvm_ceilings : (s.event code src ctx data).nvm.ceilings = s.nvm.ceilings := (congrArg (fun (t : State) => t.nvm.ceilings) (s.event_frame code src ctx data).1).trans rfl
@[simp] theorem State.event_nvm_abftCaps : (s.event code src ctx data).nvm.abftCaps = s.nvm.abftCaps := (congrArg (fun (t : State) => t.nvm.abftCaps) (s.event_frame code src ctx data).1).trans rfl
@[simp] theorem State.event_nvm_ceilHours : (s.event code src ctx data).nvm.ceilHours = s.nvm.ceilHours := (congrArg (fun (t : State) => t.nvm.ceilHours) (s.event_frame code src ctx data).1).trans rfl
@[simp] theorem State.event_nvm_phaseLife : (s.event code src ctx data).nvm.phaseLife = s.nvm.phaseLife := (congrArg (fun (t : State) => t.nvm.phaseLife) (s.event_frame code src ctx data).1).trans rfl
@[simp] theorem State.event_nvm_wear : (s.event code src ctx data).nvm.wear = s.nvm.wear := (congrArg (fun (t : State) => t.nvm.wear) (s.event_frame code src ctx data).1).trans rfl
@[simp] theorem State.event_nvm_wearCycles : (s.event code src ctx data).nvm.wearCycles = s.nvm.wearCycles := (congrArg (fun (t : State) => t.nvm.wearCycles) (s.event_frame code src ctx data).1).trans rfl
@[simp] theorem State.event_nvm_fabIncarnation : (s.event code src ctx data).nvm.fabIncarnation = s.nvm.fabIncarnation := (congrArg (fun (t : State) => t.nvm.fabIncarnation) (s.event_frame code src ctx data).1).trans rfl
@[simp] theorem State.event_nvm_macs : (s.event code src ctx data).nvm.macs = s.nvm.macs := (congrArg (fun (t : State) => t.nvm.macs) (s.event_frame code src ctx data).1).trans rfl
@[simp] theorem State.event_nvm_flowStops : (s.event code src ctx data).nvm.flowStops = s.nvm.flowStops := (congrArg (fun (t : State) => t.nvm.flowStops) (s.event_frame code src ctx data).1).trans rfl
@[simp] theorem State.event_nvm_trips : (s.event code src ctx data).nvm.trips = s.nvm.trips := (congrArg (fun (t : State) => t.nvm.trips) (s.event_frame code src ctx data).1).trans rfl
@[simp] theorem State.event_nvm_powerOns : (s.event code src ctx data).nvm.powerOns = s.nvm.powerOns := (congrArg (fun (t : State) => t.nvm.powerOns) (s.event_frame code src ctx data).1).trans rfl
@[simp] theorem State.event_nvm_frozenHold : (s.event code src ctx data).nvm.frozenHold = s.nvm.frozenHold := (congrArg (fun (t : State) => t.nvm.frozenHold) (s.event_frame code src ctx data).1).trans rfl
@[simp] theorem State.event_nvm_frozenSeq : (s.event code src ctx data).nvm.frozenSeq = s.nvm.frozenSeq := (congrArg (fun (t : State) => t.nvm.frozenSeq) (s.event_frame code src ctx data).1).trans rfl
@[simp] theorem State.event_nvm_frozenLast : (s.event code src ctx data).nvm.frozenLast = s.nvm.frozenLast := (congrArg (fun (t : State) => t.nvm.frozenLast) (s.event_frame code src ctx data).1).trans rfl
@[simp] theorem State.event_parity_maps : (s.event code src ctx data).parity.maps = s.parity.maps := (congrArg (fun (t : State) => t.parity.maps) (s.event_frame code src ctx data).1).trans rfl
@[simp] theorem State.event_parity_pending : (s.event code src ctx data).parity.pending = s.parity.pending := (congrArg (fun (t : State) => t.parity.pending) (s.event_frame code src ctx data).1).trans rfl
@[simp] theorem State.event_parity_reports : (s.event code src ctx data).parity.reports = s.parity.reports := (congrArg (fun (t : State) => t.parity.reports) (s.event_frame code src ctx data).1).trans rfl
@[simp] theorem State.event_parity_steps : (s.event code src ctx data).parity.steps = s.parity.steps := (congrArg (fun (t : State) => t.parity.steps) (s.event_frame code src ctx data).1).trans rfl
@[simp] theorem State.event_parity_powered : (s.event code src ctx data).parity.powered = s.parity.powered := (congrArg (fun (t : State) => t.parity.powered) (s.event_frame code src ctx data).1).trans rfl

/-! ### Reads -/

@[simp] theorem State.event_read_cmd (id : Nat) : (s.event code src ctx data).cmd? id = s.cmd? id := by simp [State.cmd?]
@[simp] theorem State.event_read_aux (c : Nat) : (s.event code src ctx data).aux c = s.aux c := by simp [State.aux]
@[simp] theorem State.event_read_core (n : Nat) : (s.event code src ctx data).core n = s.core n := by simp [State.core]
@[simp] theorem State.event_read_nbu (col bank : Nat) : (s.event code src ctx data).nbu col bank = s.nbu col bank := by simp [State.nbu]
@[simp] theorem State.event_read_feed (n : Nat) : (s.event code src ctx data).feed n = s.feed n := by simp [State.feed]
@[simp] theorem State.event_read_rampOf (c : Nat) : (s.event code src ctx data).rampOf c = s.rampOf c := by simp [State.rampOf]
@[simp] theorem State.event_read_runState (p : Nat) : (s.event code src ctx data).runState p = s.runState p := by simp [State.runState]
@[simp] theorem State.event_read_watch (l : Nat) : (s.event code src ctx data).watch l = s.watch l := by simp [State.watch]
@[simp] theorem State.event_read_eid (b : Nat) : (s.event code src ctx data).eid b = s.eid b := by simp [State.eid]
@[simp] theorem State.event_read_rxOf (d : Nat) : (s.event code src ctx data).rxOf d = s.rxOf d := by simp [State.rxOf]
@[simp] theorem State.event_read_rate (d p e : Nat) : (s.event code src ctx data).rate d p e = s.rate d p e := by simp [State.rate]
@[simp] theorem State.event_read_retraining (p : Nat) : (s.event code src ctx data).retraining p = s.retraining p := by simp [State.retraining]
@[simp] theorem State.event_read_half (h : Nat) : (s.event code src ctx data).half h = s.half h := by simp [State.half]
@[simp] theorem State.event_read_cnt (a : Nat) : (s.event code src ctx data).cnt a = s.cnt a := by simp [State.cnt]

theorem State.event_bit (a i : Nat) (h1 : a ≠ Reg.almLost) (h2 : a ≠ Reg.almStatus) : (s.event code src ctx data).bit a i = s.bit a i := by
  simp [State.bit, State.reg_event, h1, h2]

theorem State.event_fld (a hi lo : Nat) (h1 : a ≠ Reg.almLost) (h2 : a ≠ Reg.almStatus) :
    (s.event code src ctx data).fld a hi lo = s.fld a hi lo := by simp [State.fld, State.reg_event, h1, h2]

/-! ### Reads with another queue -/

@[simp] theorem State.withQueue_read_cmd (q : List Instr) (id : Nat) : (s.withQueue q).cmd? id = s.cmd? id := rfl
@[simp] theorem State.withQueue_read_aux (q : List Instr) (c : Nat) : (s.withQueue q).aux c = s.aux c := rfl
@[simp] theorem State.withQueue_read_core (q : List Instr) (n : Nat) : (s.withQueue q).core n = s.core n := rfl
@[simp] theorem State.withQueue_read_nbu (q : List Instr) (col bank : Nat) : (s.withQueue q).nbu col bank = s.nbu col bank := rfl
@[simp] theorem State.withQueue_read_feed (q : List Instr) (n : Nat) : (s.withQueue q).feed n = s.feed n := rfl
@[simp] theorem State.withQueue_read_rampOf (q : List Instr) (c : Nat) : (s.withQueue q).rampOf c = s.rampOf c := rfl
@[simp] theorem State.withQueue_read_runState (q : List Instr) (p : Nat) : (s.withQueue q).runState p = s.runState p := rfl
@[simp] theorem State.withQueue_read_watch (q : List Instr) (l : Nat) : (s.withQueue q).watch l = s.watch l := rfl
@[simp] theorem State.withQueue_read_eid (q : List Instr) (b : Nat) : (s.withQueue q).eid b = s.eid b := rfl
@[simp] theorem State.withQueue_read_rxOf (q : List Instr) (d : Nat) : (s.withQueue q).rxOf d = s.rxOf d := rfl
@[simp] theorem State.withQueue_read_rate (q : List Instr) (d p e : Nat) : (s.withQueue q).rate d p e = s.rate d p e := rfl
@[simp] theorem State.withQueue_read_retraining (q : List Instr) (p : Nat) : (s.withQueue q).retraining p = s.retraining p := rfl
@[simp] theorem State.withQueue_read_half (q : List Instr) (h : Nat) : (s.withQueue q).half h = s.half h := rfl
@[simp] theorem State.withQueue_read_cnt (q : List Instr) (a : Nat) : (s.withQueue q).cnt a = s.cnt a := rfl
@[simp] theorem State.withQueue_read_reg (q : List Instr) (a : Nat) : (s.withQueue q).reg a = s.reg a := rfl
@[simp] theorem State.withQueue_read_bit (q : List Instr) (a i : Nat) : (s.withQueue q).bit a i = s.bit a i := rfl
@[simp] theorem State.withQueue_read_fld (q : List Instr) (a hi lo : Nat) : (s.withQueue q).fld a hi lo = s.fld a hi lo := rfl
@[simp] theorem State.withQueue_read_nat (q : List Instr) (a : Nat) : (s.withQueue q).nat a = s.nat a := rfl
@[simp] theorem State.withQueue_read_enabled (q : List Instr) (c : Nat) : (s.withQueue q).enabled c = s.enabled c := rfl
@[simp] theorem State.withQueue_read_sqHead (q : List Instr) (c : Nat) : (s.withQueue q).sqHead c = s.sqHead c := rfl
@[simp] theorem State.withQueue_read_sqTail (q : List Instr) (c : Nat) : (s.withQueue q).sqTail c = s.sqTail c := rfl
@[simp] theorem State.withQueue_read_cqHead (q : List Instr) (c : Nat) : (s.withQueue q).cqHead c = s.cqHead c := rfl
@[simp] theorem State.withQueue_read_cqTail (q : List Instr) (c : Nat) : (s.withQueue q).cqTail c = s.cqTail c := rfl
@[simp] theorem State.withQueue_read_flow (q : List Instr) (d : Nat) : (s.withQueue q).flow d = s.flow d := rfl
@[simp] theorem State.withQueue_read_latch (q : List Instr) (a : Nat) : (s.withQueue q).latch a = s.latch a := rfl
@[simp] theorem State.withQueue_read_ceiling (q : List Instr) (n : Nat) : (s.withQueue q).ceiling n = s.ceiling n := rfl
@[simp] theorem State.withQueue_read_portUp (q : List Instr) (p : Nat) : (s.withQueue q).portUp p = s.portUp p := rfl

/-! ### What arrives with a command changes host memory and the errors of the memories alone -/

@[simp] theorem State.arrive_pending (env : Env) : (s.arrive env).pending = s.pending := rfl
@[simp] theorem State.arrive_tick (env : Env) : (s.arrive env).tick = s.tick := rfl
@[simp] theorem State.arrive_freeCtr (env : Env) : (s.arrive env).freeCtr = s.freeCtr := rfl
@[simp] theorem State.arrive_cnts (env : Env) : (s.arrive env).cnts = s.cnts := rfl
@[simp] theorem State.arrive_latches (env : Env) : (s.arrive env).latches = s.latches := rfl
@[simp] theorem State.arrive_fuses (env : Env) : (s.arrive env).fuses = s.fuses := rfl
@[simp] theorem State.arrive_sets (env : Env) : (s.arrive env).sets = s.sets := rfl
@[simp] theorem State.arrive_mbx (env : Env) : (s.arrive env).mbx = s.mbx := rfl
@[simp] theorem State.arrive_image (env : Env) : (s.arrive env).image = s.image := rfl
@[simp] theorem State.arrive_loader (env : Env) : (s.arrive env).loader = s.loader := rfl
@[simp] theorem State.arrive_runs (env : Env) : (s.arrive env).runs = s.runs := rfl
@[simp] theorem State.arrive_ctxs (env : Env) : (s.arrive env).ctxs = s.ctxs := rfl
@[simp] theorem State.arrive_arbs (env : Env) : (s.arrive env).arbs = s.arbs := rfl
@[simp] theorem State.arrive_cmds (env : Env) : (s.arrive env).cmds = s.cmds := rfl
@[simp] theorem State.arrive_nextId (env : Env) : (s.arrive env).nextId = s.nextId := rfl
@[simp] theorem State.arrive_cores (env : Env) : (s.arrive env).cores = s.cores := rfl
@[simp] theorem State.arrive_nbus (env : Env) : (s.arrive env).nbus = s.nbus := rfl
@[simp] theorem State.arrive_nbuReady (env : Env) : (s.arrive env).nbuReady = s.nbuReady := rfl
@[simp] theorem State.arrive_kv (env : Env) : (s.arrive env).kv = s.kv := rfl
@[simp] theorem State.arrive_copies (env : Env) : (s.arrive env).copies = s.copies := rfl
@[simp] theorem State.arrive_sentinel (env : Env) : (s.arrive env).sentinel = s.sentinel := rfl
@[simp] theorem State.arrive_drifted (env : Env) : (s.arrive env).drifted = s.drifted := rfl
@[simp] theorem State.arrive_resets (env : Env) : (s.arrive env).resets = s.resets := rfl
@[simp] theorem State.arrive_sec (env : Env) : (s.arrive env).sec = s.sec := rfl
@[simp] theorem State.arrive_mctp (env : Env) : (s.arrive env).mctp = s.mctp := rfl
@[simp] theorem State.arrive_pcie (env : Env) : (s.arrive env).pcie = s.pcie := rfl
@[simp] theorem State.arrive_pins (env : Env) : (s.arrive env).pins = s.pins := rfl
@[simp] theorem State.arrive_power (env : Env) : (s.arrive env).power = s.power := rfl
@[simp] theorem State.arrive_clocks (env : Env) : (s.arrive env).clocks = s.clocks := rfl
@[simp] theorem State.arrive_thermal (env : Env) : (s.arrive env).thermal = s.thermal := rfl
@[simp] theorem State.arrive_fab (env : Env) : (s.arrive env).fab = s.fab := rfl
@[simp] theorem State.arrive_casc (env : Env) : (s.arrive env).casc = s.casc := rfl
@[simp] theorem State.arrive_regs (env : Env) : (s.arrive env).regs = s.regs := rfl
@[simp] theorem State.arrive_alm (env : Env) : (s.arrive env).alm = s.alm := rfl
@[simp] theorem State.arrive_nvm (env : Env) : (s.arrive env).nvm = s.nvm := rfl
@[simp] theorem State.arrive_parity (env : Env) : (s.arrive env).parity = s.parity := rfl
@[simp] theorem State.arrive_out (env : Env) : (s.arrive env).out = s.out := rfl
@[simp] theorem State.arrive_mem_dram (env : Env) : (s.arrive env).mem.dram = s.mem.dram := rfl
@[simp] theorem State.arrive_mem_shared (env : Env) : (s.arrive env).mem.shared = s.mem.shared := rfl
@[simp] theorem State.arrive_mem_locals (env : Env) : (s.arrive env).mem.locals = s.mem.locals := rfl
@[simp] theorem State.arrive_mem_owed (env : Env) : (s.arrive env).mem.owed = s.mem.owed := rfl
@[simp] theorem State.arrive_mem_scrubPos (env : Env) : (s.arrive env).mem.scrubPos = s.mem.scrubPos := rfl
@[simp] theorem State.arrive_mem_calPending (env : Env) : (s.arrive env).mem.calPending = s.mem.calPending := rfl
@[simp] theorem State.arrive_mem_calTick (env : Env) : (s.arrive env).mem.calTick = s.mem.calTick := rfl
@[simp] theorem State.arrive_mem_calTemp (env : Env) : (s.arrive env).mem.calTemp = s.mem.calTemp := rfl
@[simp] theorem State.arrive_mem_retired (env : Env) : (s.arrive env).mem.retired = s.mem.retired := rfl
@[simp] theorem State.arrive_mem_pendingRetire (env : Env) : (s.arrive env).mem.pendingRetire = s.mem.pendingRetire := rfl
@[simp] theorem State.arrive_read_cmd (env : Env) (id : Nat) : (s.arrive env).cmd? id = s.cmd? id := rfl
@[simp] theorem State.arrive_read_aux (env : Env) (c : Nat) : (s.arrive env).aux c = s.aux c := rfl
@[simp] theorem State.arrive_read_core (env : Env) (n : Nat) : (s.arrive env).core n = s.core n := rfl
@[simp] theorem State.arrive_read_nbu (env : Env) (col bank : Nat) : (s.arrive env).nbu col bank = s.nbu col bank := rfl
@[simp] theorem State.arrive_read_feed (env : Env) (n : Nat) : (s.arrive env).feed n = s.feed n := rfl
@[simp] theorem State.arrive_read_rampOf (env : Env) (c : Nat) : (s.arrive env).rampOf c = s.rampOf c := rfl
@[simp] theorem State.arrive_read_runState (env : Env) (p : Nat) : (s.arrive env).runState p = s.runState p := rfl
@[simp] theorem State.arrive_read_watch (env : Env) (l : Nat) : (s.arrive env).watch l = s.watch l := rfl
@[simp] theorem State.arrive_read_eid (env : Env) (b : Nat) : (s.arrive env).eid b = s.eid b := rfl
@[simp] theorem State.arrive_read_rxOf (env : Env) (d : Nat) : (s.arrive env).rxOf d = s.rxOf d := rfl
@[simp] theorem State.arrive_read_rate (env : Env) (d p e : Nat) : (s.arrive env).rate d p e = s.rate d p e := rfl
@[simp] theorem State.arrive_read_retraining (env : Env) (p : Nat) : (s.arrive env).retraining p = s.retraining p := rfl
@[simp] theorem State.arrive_read_half (env : Env) (h : Nat) : (s.arrive env).half h = s.half h := rfl
@[simp] theorem State.arrive_read_cnt (env : Env) (a : Nat) : (s.arrive env).cnt a = s.cnt a := rfl
@[simp] theorem State.arrive_read_reg (env : Env) (a : Nat) : (s.arrive env).reg a = s.reg a := rfl
@[simp] theorem State.arrive_read_bit (env : Env) (a i : Nat) : (s.arrive env).bit a i = s.bit a i := rfl
@[simp] theorem State.arrive_read_fld (env : Env) (a hi lo : Nat) : (s.arrive env).fld a hi lo = s.fld a hi lo := rfl
@[simp] theorem State.arrive_read_nat (env : Env) (a : Nat) : (s.arrive env).nat a = s.nat a := rfl

end Sys2Proof.Machine
end

