-- ==== Sys2Proof/Laws/Access.lean ====
section
/-! SUPPORT. Everything that an access to memory, a micro-op, and the stop of a command can do: each changes the memories, the commands and
sequences it acts on, counters, the almanac, and the registers of the memory and near-bank blocks, and nothing else. -/
namespace Sys2Proof.Machine

/-- Registers that accesses to stack memory and micro-ops write: those of the columns, the flip and the near-bank units, and two of the
almanac. -/
def AccessReg (a : Nat) : Prop := (0x200000 ≤ a ∧ a < 0x240020) ∨ a = Reg.almLost ∨ a = Reg.almStatus

/-- What an access, a micro-op or a stop may change: the rest of the state is as it was, no command enters or leaves, and no register
changes but those of `AccessReg`. -/
def Steady (s t : State) : Prop :=
  t = { s with freeCtr := t.freeCtr, regs := t.regs, cnts := t.cnts, host := t.host, nvm := t.nvm, alm := t.alm, cmds := t.cmds,
               cores := t.cores, mem := t.mem, nbus := t.nbus, nbuReady := t.nbuReady, parity := t.parity, out := t.out } ∧
  t.cmds.map (fun c => c.id) = s.cmds.map (fun c => c.id) ∧ ∀ a, ¬ AccessReg a → t.reg a = s.reg a

theorem Steady.refl (s : State) : Steady s s := ⟨rfl, rfl, fun _ _ => rfl⟩

theorem Steady.trans {s t u : State} (h : Steady s t) (k : Steady t u) : Steady s u := by
  refine ⟨?_, k.2.1.trans h.2.1, fun a ha => (k.2.2 a ha).trans (h.2.2 a ha)⟩
  obtain ⟨h, -⟩ := h; obtain ⟨k, -⟩ := k
  rw [k]; simp only; rw [h]

/-- A change that touches neither commands nor registers. -/
theorem Steady.of_same {s t : State}
    (h : t = { s with freeCtr := t.freeCtr, cnts := t.cnts, host := t.host, nvm := t.nvm, alm := t.alm, cores := t.cores,
                      mem := t.mem, nbus := t.nbus, nbuReady := t.nbuReady, parity := t.parity, out := t.out }) : Steady s t := by
  rw [h]; exact ⟨rfl, rfl, fun _ _ => rfl⟩

/-- A register of `AccessReg` written. -/
theorem Steady.setReg (s : State) (v : Word) {a : Nat} (h : AccessReg a) : Steady s (s.setReg a v) :=
  ⟨rfl, rfl, fun _ hb => State.reg_setReg_ne _ _ (fun e => hb (e ▸ h))⟩

theorem Steady.setFld (s : State) (hi lo v : Nat) {a : Nat} (h : AccessReg a) : Steady s (s.setFld a hi lo v) := .setReg s _ h
theorem Steady.setBit (s : State) (i : Nat) (x : Bool) {a : Nat} (h : AccessReg a) : Steady s (s.setBit a i x) := .setReg s _ h
theorem Steady.setNat (s : State) (v : Nat) {a : Nat} (h : AccessReg a) : Steady s (s.setNat a v) := .setReg s _ h
theorem Steady.bumpFld (s : State) (hi lo n : Nat) {a : Nat} (h : AccessReg a) : Steady s (s.bumpFld a hi lo n) := .setReg s _ h
theorem Steady.bump (s : State) {a : Nat} (h : AccessReg a) : Steady s (s.bump a) := .setReg s _ h

/-- A record of a command changed, its identity left alone. -/
theorem Steady.updCmd (s : State) (id : Nat) (f : Cmd → Cmd) (hf : ∀ c, (f c).id = c.id) : Steady s (s.updCmd id f) := by
  refine ⟨rfl, ?_, fun _ _ => rfl⟩
  simp only [State.updCmd, List.map_map]
  apply List.map_congr_left
  intro c _
  simp only [Function.comp]
  split
  · exact hf c
  · rfl

theorem Steady.warnCmd (s : State) (id b : Nat) : Steady s (s.warnCmd id b) := .updCmd s id _ (fun _ => rfl)
theorem Steady.wroteCmd (s : State) (id : Nat) : Steady s (s.wroteCmd id) := .updCmd s id _ (fun _ => rfl)
theorem Steady.failCmd (s : State) (id : Nat) (e : Nat × Nat) : Steady s (s.failCmd id e) :=
  .updCmd s id _ (fun c => by split <;> rfl)
theorem Steady.endCmd (s : State) (id st : Nat) (x : Option Nat) : Steady s (s.endCmd id st x) :=
  .updCmd s id _ (fun c => by split <;> rfl)

theorem Steady.event (s : State) (code : Nat) (src : Nat × Nat) (ctx : Option Nat) (data : Nat) : Steady s (s.event code src ctx data) := by
  have h := s.event_frame code src ctx data
  refine ⟨?_, by simp, fun a ha => State.reg_event s code src ctx data a (fun e => ha (.inr (.inl e))) (fun e => ha (.inr (.inr e)))⟩
  rw [h.1]

/-- A fold of changes, seen through a projection of its accumulator. -/
theorem Steady.foldl_via {α β : Type} (g : α → State) (f : α → β → α) (h : ∀ a x, Steady (g a) (g (f a x))) (l : List β) (a : α) :
    Steady (g a) (g (l.foldl f a)) := by
  induction l generalizing a with
  | nil => exact .refl _
  | cons x l ih => exact (h a x).trans (ih _)

theorem Steady.foldl {β : Type} (f : State → β → State) (h : ∀ s x, Steady s (f s x)) (l : List β) (s : State) :
    Steady s (l.foldl f s) := Steady.foldl_via id f h l s

/-! ### Blocks -/

/-- A register of a column is one of `AccessReg`. -/
theorem accessReg_col {a : Nat} (h1 : 0x200000 ≤ a) (h2 : a < 0x240020) : AccessReg a := .inl ⟨h1, h2⟩

theorem Steady.ueRecord (s : State) (rq : Req) (addr : Nat) {col : Nat} (q : Nat) (hc : col < 256) : Steady s (s.ueRecord rq addr col q) := by
  unfold State.ueRecord
  refine Steady.trans ?_ (.event _ _ _ _ _)
  refine Steady.trans ?_ (.setNat _ _ (accessReg_col (by simp only [Reg.memUeSrc]; omega) (by simp only [Reg.memUeSrc]; omega)))
  refine Steady.trans ?_ (.setReg _ _ (accessReg_col (by simp only [Reg.memUeLoc]; omega) (by simp only [Reg.memUeLoc]; omega)))
  exact .bump _ (accessReg_col (by simp only [Reg.memUeCount]; omega) (by simp only [Reg.memUeCount]; omega))

theorem range_find {n i : Nat} {p : Nat → Bool} (h : (List.range n).find? p = some i) : i < n :=
  List.mem_range.mp (List.mem_of_find?_eq_some h)

theorem Steady.ceLog (s : State) {col : Nat} (q n : Nat) (hc : col < 256) : Steady s (s.ceLog col q n) := by
  simp only [State.ceLog]
  have h1 : Steady s (s.bump (Reg.memCeCount col)) :=
    .bump _ (accessReg_col (by simp only [Reg.memCeCount]; omega) (by simp only [Reg.memCeCount]; omega))
  generalize hs : s.bump (Reg.memCeCount col) = s1 at h1 ⊢
  refine h1.trans ?_
  have inf : ∀ i, i < 16 → AccessReg (Reg.memCeInfo col i) := fun i hi =>
    accessReg_col (by simp only [Reg.memCeInfo]; omega) (by simp only [Reg.memCeInfo]; omega)
  have lg : ∀ i, i < 16 → AccessReg (Reg.memCeLog col i) := fun i hi =>
    accessReg_col (by simp only [Reg.memCeLog]; omega) (by simp only [Reg.memCeLog]; omega)
  split
  · rename_i h
    exact (Steady.bumpFld _ _ _ _ (inf _ (range_find h))).trans (.setFld _ _ _ _ (inf _ (range_find h)))
  · rename_i h
    exact ((Steady.setReg _ _ (lg _ (range_find h))).trans (.setNat _ _ (inf _ (range_find h)))).trans (.event _ _ _ _ _)
  · exact .bump _ (accessReg_col (by simp only [Reg.memCeLogLost]; omega) (by simp only [Reg.memCeLogLost]; omega))

theorem Steady.hardFault (s : State) {col : Nat} (q : Nat) (hc : col < 256) : Steady s (s.hardFault col q) := by
  have inf : ∀ i, i < 16 → AccessReg (Reg.memCeInfo col i) := fun i hi =>
    accessReg_col (by simp only [Reg.memCeInfo]; omega) (by simp only [Reg.memCeInfo]; omega)
  have cs : AccessReg (Reg.memColStatus col) := accessReg_col (by simp only [Reg.memColStatus]; omega) (by simp only [Reg.memColStatus]; omega)
  have key : ∀ s1 : State, Steady s1 (match s1.remapOf col (locatorOf q), (List.range 8).find? (fun j => !s1.bit (Reg.memRemap col j) 31) with
      | some _, _ => s1
      | none, some j =>
        let s := s1.setReg (Reg.memRemap col j) (locatorOf q)
        let s := s.setFld (Reg.memColStatus col) 23 20 (s.fld (Reg.memColStatus col) 23 20 + 1)
        { s with mem := { s.mem with errs := s.mem.errs.erase (blockKey col q) } }
      | none, none =>
        let s := { s1 with nvm := { s1.nvm with remapFull := SMap.set (fun _ => false) s1.nvm.remapFull col true } }
        (s.setBit (Reg.memColStatus col) 1 true).event 0x0403 (Src.column col) none (dataOf [(0, (locatorOf q).toNat)])) := by
    intro s1
    split
    · exact .refl _
    · rename_i j _ h
      have hj := range_find h
      have h1 := Steady.setReg s1 (locatorOf q) (a := Reg.memRemap col j)
        (accessReg_col (by simp only [Reg.memRemap]; omega) (by simp only [Reg.memRemap]; omega))
      exact (h1.trans (.setFld _ _ _ _ cs)).trans (.of_same rfl)
    · refine Steady.trans (t := { s1 with nvm := { s1.nvm with remapFull := SMap.set (fun _ => false) s1.nvm.remapFull col true } }) (.of_same rfl) ?_
      exact (Steady.setBit _ _ _ cs).trans (.event _ _ _ _ _)
  unfold State.hardFault
  simp only
  cases h : s.ceEntry col (locatorOf q) with
  | none => exact key s
  | some i => exact (Steady.setBit s 3 true (inf i (range_find h))).trans (key _)

theorem Steady.putBlock (s : State) (col q : Nat) (bs : List Byte) (x : Pattern) : Steady s (s.putBlock col q bs x) := .of_same rfl

/-- What follows a corrected read: a block written back, and the fault or the error that its second reading finds. -/
theorem Steady.secondRead (s : State) (rq : Req) (addr : Nat) {col : Nat} (q : Nat) (bs : List Byte) (k : Option (Nat × BitVec 512))
    (hc : col < 256) : Steady s (match k with
      | some (0, _) => (some bs, s)
      | some _ => (some bs, s.hardFault col q)
      | none => (some bs, s.ueRecord rq addr col q)).2 := by
  split
  · exact .refl _
  · exact .hardFault s q hc
  · exact .ueRecord s rq addr q hc

theorem Steady.readBlock (s : State) (rq : Req) (addr : Nat) {col : Nat} (q : Nat) (w : Bool) (hc : col < 256) :
    Steady s (s.readBlock rq addr col q w).2 := by
  simp only [State.readBlock]
  split
  · exact .ueRecord s rq addr q hc
  · split
    · exact .ueRecord s rq addr q hc
    · rename_i n left _
      split
      · exact .refl _
      · have h1 := Steady.ceLog s q n hc
        generalize s.ceLog col q n = s1 at h1 ⊢
        generalize leBytes 64 (leNat (s.blockData col q) ^^^ left.toNat) = bs
        split <;>
        · split
          · exact h1
          · exact (h1.trans (.putBlock s1 col q bs (s1.blockErr col q).hard)).trans (.secondRead _ rq addr q bs _ hc)

theorem Steady.flipDone (s : State) (col q : Nat) : Steady s (s.flipDone col q) := by
  simp only [State.flipDone]
  refine Steady.trans ?_ (.event _ _ _ _ _)
  have h1 : Steady s ((s.setReg Reg.memFlipLoc (locatorOf q)).setBit Reg.memFliptarget 31 false) :=
    (Steady.setReg _ _ (accessReg_col (by decide) (by decide))).trans (.setBit _ _ _ (accessReg_col (by decide) (by decide)))
  refine h1.trans ?_
  generalize (s.setReg Reg.memFlipLoc (locatorOf q)).setBit Reg.memFliptarget 31 false = s1
  have key : ∀ (l : List Nat), (∀ i ∈ l, i < 18) → ∀ s : State, Steady s (l.foldl (fun s i => s.setReg (Reg.memFlipmask i) 0) s) := by
    intro l
    induction l with
    | nil => intro _ s; exact .refl _
    | cons i l ih =>
      intro h s
      have hi := h i (List.mem_cons_self ..)
      exact (Steady.setReg s 0 (accessReg_col (by simp only [Reg.memFlipmask]; omega) (by simp only [Reg.memFlipmask]; omega))).trans
        (ih (fun j hj => h j (List.mem_cons_of_mem _ hj)) _)
  exact key _ (fun i h => List.mem_range.mp h) s1

theorem Steady.storeBlock (s : State) (col q : Nat) (bs : List Byte) : Steady s (s.storeBlock col q bs) := by
  simp only [State.storeBlock]
  split
  · exact (Steady.putBlock _ _ _ _ _).trans (.flipDone _ _ _)
  · exact .putBlock _ _ _ _ _

theorem Steady.writeBlock (s : State) (rq : Req) (addr : Nat) {col : Nat} (q off : Nat) (bs : List Byte) (hc : col < 256) :
    Steady s (s.writeBlock rq addr col q off bs).2 := by
  unfold State.writeBlock
  split
  · exact .ueRecord _ _ _ _ hc
  · split
    · exact .storeBlock _ _ _ _
    · have h := Steady.readBlock s rq addr q true hc
      split
      · rename_i e; rw [e] at h; exact h.trans (.storeBlock _ _ _ _)
      · rename_i e; rw [e] at h; exact h

/-! ### Micro-ops -/

theorem Steady.setNbu (s : State) (col bank : Nat) (q : Option NbuSeq) : Steady s (s.setNbu col bank q) := .of_same rfl
theorem Steady.addCnt (s : State) (a n : Nat) : Steady s (s.addCnt a n) := .of_same rfl
theorem Steady.fresh (s : State) : Steady s s.fresh := .of_same rfl
theorem Steady.runOwed (s : State) (col bank : Nat) : Steady s (s.runOwed col bank) := .of_same rfl
theorem Steady.putMicro (s : State) (q : NbuSeq) (u : DWord) (o : Bool) : Steady s (s.putMicro q u o) := .of_same rfl

theorem Steady.openRow (s : State) (q : NbuSeq) (row : Nat) : Steady s (s.openRow q row).1 := by
  unfold State.openRow
  split
  · exact .refl _
  · exact .runOwed _ _ _

/-- The row opened changes no place of its NBU. -/
theorem openRow_place (s : State) (q : NbuSeq) (row : Nat) : (s.openRow q row).2.col = q.col ∧ (s.openRow q row).2.bank = q.bank := by
  unfold State.openRow
  split <;> exact ⟨rfl, rfl⟩

theorem Steady.resolveClash (s : State) (q : NbuSeq) : Steady s (s.resolveClash q) := by
  simp only [State.resolveClash]
  exact .foldl _ (fun s k => .of_same rfl) _ _

theorem Steady.nbuFail (s : State) (q : NbuSeq) (st addr : Nat) : Steady s (s.nbuFail q st addr) := by
  simp only [State.nbuFail]
  have h1 : Steady s (if st = St.uncorrectable then s.setBit Reg.nbuEvent 3 true else s) := by
    split
    · exact .setBit _ _ _ (accessReg_col (by decide) (by decide))
    · exact .refl _
  refine h1.trans ?_
  generalize (if st = St.uncorrectable then s.setBit Reg.nbuEvent 3 true else s) = s1
  split
  · split
    · exact .failCmd _ _ _
    · exact .refl _
  · exact .refl _

theorem Steady.badAccess (s : State) (q : NbuSeq) (addr : Nat) : Steady s (s.badAccess q addr) :=
  (Steady.nbuFail _ _ _ _).trans (.setNbu _ _ _ _)

theorem Steady.nbuLoad (s : State) (q : NbuSeq) (u : DWord) (hc : q.col < 256) : Steady s (s.nbuLoad q u) := by
  unfold State.nbuLoad
  split
  · exact .badAccess _ _ _
  · exact .refl _
  · rename_i p n c _ _
    simp only
    have h1 := Steady.openRow s q (cellRow (s.cellOf q.col p))
    generalize s.openRow q (cellRow (s.cellOf q.col p)) = x at h1 ⊢
    have h2 := Steady.foldl_via (fun (a : List Byte × Option Nat × State) => a.2.2)
      (fun (a : List Byte × Option Nat × State) (y : Nat × Nat × Nat) => match a.2.1 with
        | some _ => a
        | none =>
          let cell := a.2.2.cellOf q.col y.2.1
          match a.2.2.readBlock (reqNbu c) (2 ^ 32 * q.col + y.2.1 / 64 * 64) q.col cell false with
          | (some bs, s) => (a.1 ++ lslice bs (cell % 64) y.2.2, none, s)
          | (none, s) => (a.1, some (y.2.1 / 64 * 64), s))
      (by
        intro a y
        dsimp only
        split
        · exact .refl _
        · have h := Steady.readBlock a.2.2 (reqNbu c) (2 ^ 32 * q.col + y.2.1 / 64 * 64) (a.2.2.cellOf q.col y.2.1) false hc
          split
          · rename_i e; rw [e] at h; exact h
          · rename_i e; rw [e] at h; exact h)
      (pieces p n) ([], none, x.1)
    refine h1.trans ?_
    refine Steady.trans h2 ?_
    generalize (pieces p n).foldl _ (([], none, x.1) : List Byte × Option Nat × State) = r
    split
    · exact ((Steady.nbuFail _ _ _ _).trans (.of_same rfl)).trans (.putMicro _ _ _ _)
    · exact (Steady.addCnt _ _ _).trans (.putMicro _ _ _ _)

theorem Steady.nbuStore (s : State) (q : NbuSeq) (u : DWord) (hc : q.col < 256) : Steady s (s.nbuStore q u) := by
  unfold State.nbuStore
  split
  · exact .badAccess _ _ _
  · exact .refl _
  · rename_i p n c _ _
    simp only
    have h1 := Steady.openRow s q (cellRow (s.cellOf q.col p))
    generalize s.openRow q (cellRow (s.cellOf q.col p)) = x at h1 ⊢
    have h2 : Steady x.1 { x.1 with freeCtr := s.freeCtr + 16 * (uCnt u + 1) } := .of_same rfl
    generalize hx : ({ x.1 with freeCtr := s.freeCtr + 16 * (uCnt u + 1) } : State) = s0 at h2 ⊢
    generalize ((List.range (uCnt u + 1)).map (fun j => storeGroup (uFmt u) (s.freeCtr + 16 * j) (q.v (uVd u + j)))) = gs
    have h3 := Steady.foldl_via (fun (a : List Nat × State) => a.2)
      (fun (a : List Nat × State) (y : Nat × Nat × Nat) =>
        let cell := a.2.cellOf q.col y.2.1
        if q.bad.contains (blockKey q.col cell) then a
        else match a.2.writeBlock (reqNbu c) (2 ^ 32 * q.col + y.2.1 / 64 * 64) q.col cell (cell % 64)
            (lslice (gs.flatMap (fun y => y.1)) y.1 y.2.2) with
          | (true, s) => (a.1, s.wroteCmd c.id)
          | (false, s) => (blockKey q.col cell :: a.1, s.nbuFail q St.uncorrectable (2 ^ 32 * q.col + y.2.1 / 64 * 64)))
      (by
        intro a y
        dsimp only
        split
        · exact .refl _
        · have h := Steady.writeBlock a.2 (reqNbu c) (2 ^ 32 * q.col + y.2.1 / 64 * 64) (a.2.cellOf q.col y.2.1)
            (a.2.cellOf q.col y.2.1 % 64) (lslice (gs.flatMap (fun y => y.1)) y.1 y.2.2) hc
          split
          · rename_i e; rw [e] at h; exact h.trans (.wroteCmd _ _)
          · rename_i e; rw [e] at h; exact h.trans (.nbuFail _ _ _ _))
      (pieces p n) ([], s0)
    refine h1.trans (h2.trans (Steady.trans h3 ?_))
    generalize (pieces p n).foldl _ (([], s0) : List Nat × State) = r
    refine Steady.trans (Steady.addCnt r.2 Reg.nbuCntBytes n) ?_
    refine Steady.trans ?_ (.putMicro _ _ _ _)
    split
    · exact .warnCmd _ _ _
    · exact .refl _

theorem Steady.nbuEnd (s : State) (q : NbuSeq) : Steady s (s.nbuEnd q) :=
  ((Steady.resolveClash _ _).trans (.runOwed _ _ _)).trans (.setNbu _ _ _ _)

theorem Steady.runMicro (s : State) (q : NbuSeq) (u : DWord) (hc : q.col < 256) : Steady s (s.runMicro q u) := by
  unfold State.runMicro
  split
  · exact .nbuEnd _ _
  · split
    · exact .nbuLoad _ _ _ hc
    · split
      · exact .nbuStore _ _ _ hc
      · exact .of_same rfl

/-- A running sequence stands where it is kept, in one of the 256 columns. -/
theorem nbu_col {s : State} {col bank : Nat} {q : NbuSeq} (h : s.nbu col bank = some q) : q.col = col ∧ q.bank = bank ∧ q.col < 256 := by
  simp only [State.nbu, Option.filter_eq_some_iff] at h
  simp at h
  omega

theorem Steady.toBoundary (k : Nat) (s : State) (col bank : Nat) : Steady s (State.toBoundary k s col bank) := by
  induction k generalizing s with
  | zero => exact .refl _
  | succ k ih =>
    unfold State.toBoundary
    split
    · rename_i q h
      split
      · split
        · exact (Steady.runMicro _ _ _ (nbu_col h).2.2).trans (ih _)
        · exact .refl _
      · exact .refl _
    · exact .refl _

theorem Steady.dropSeq (s : State) (col bank : Nat) : Steady s (s.dropSeq col bank) := by
  unfold State.dropSeq
  split
  · exact ((Steady.resolveClash _ _).trans (.runOwed _ _ _)).trans (.setNbu _ _ _ _)
  · exact .refl _

theorem Steady.releaseNbus (s : State) (id : Nat) : Steady s (s.releaseNbus id) := by
  simp only [State.releaseNbus]
  exact (Steady.foldl _ (fun s (n : Nat × Nat) => .dropSeq s n.1 n.2) _ s).trans (.of_same rfl)

theorem Steady.stopSeqs (s : State) (id : Nat) : Steady s (s.stopSeqs id) := by
  unfold State.stopSeqs
  exact (Steady.foldl _ (fun s (n : Nat × Nat) => .toBoundary 2 s n.1 n.2) _ s).trans (.releaseNbus _ _)

theorem Steady.afterMicro (s : State) (id : Nat) : Steady s (s.afterMicro id) := by
  unfold State.afterMicro
  split
  · split
    · exact .refl _
    · exact .stopSeqs _ _
  · exact .refl _

/-! ### The stop of a command -/

theorem Steady.mapCores (s : State) (f : CoreState → CoreState) : Steady s (s.mapCores f) := .of_same rfl

/-- The stop of a command (R173, R175). -/
theorem State.stopCmd_steady (s : State) (id st : Nat) : Steady s (s.stopCmd id st) := by
  simp only [State.stopCmd]
  split
  · exact .refl _
  · split
    · exact .refl _
    · refine Steady.trans ?_ (.updCmd _ _ _ (fun c => by split <;> rfl))
      refine Steady.trans (t := (s.dropShadow id).mapCores (fun k => { k with redo := k.redo.filter (fun r => r.1 != id) })) ?_ ?_
      · exact (Steady.mapCores _ _).trans (.mapCores _ _)
      · split
        · exact .stopSeqs _ _
        · exact .refl _

/-- The stop of several. -/
theorem State.stopAll_steady (s : State) (ids : List Nat) (st : Nat) : Steady s (s.stopAll ids st) :=
  .foldl _ (fun s i => s.stopCmd_steady i st) ids s

/-! ### Accesses -/

theorem Steady.yieldTo (s : State) (col q : Nat) : Steady s (s.yieldTo col q) := by
  simp only [State.yieldTo]
  split
  · exact .refl _
  · split
    · exact .refl _
    · refine Steady.trans ?_ (.afterMicro _ _)
      have h1 := Steady.toBoundary 2 s col (cellBankIdx q)
      generalize State.toBoundary 2 s col (cellBankIdx q) = s1 at h1 ⊢
      refine h1.trans ?_
      split
      · rename_i sq c h _
        split
        · split
          · exact (Steady.runMicro _ _ _ (nbu_col h).2.2).trans (.toBoundary _ _ _ _)
          · exact .refl _
        · exact .refl _
      · exact .refl _

theorem Steady.countYield (s : State) (col q : Nat) : Steady s (s.countYield col q) := by
  simp only [State.countYield]
  refine (Steady.yieldTo s col q).trans ?_
  split
  · split
    · exact .refl _
    · exact .of_same rfl
  · exact .refl _

theorem Steady.firstNote (s : State) (b lo hi code addr col : Nat) (ctx : Option Nat) (h1 : AccessReg lo) (h2 : AccessReg hi) :
    Steady s (s.firstNote b lo hi code addr col ctx) := by
  simp only [State.firstNote]
  split
  · exact .refl _
  · exact (((Steady.setNat _ _ h1).trans (.setNat _ _ h2)).trans (.setBit _ _ _ (accessReg_col (by decide) (by decide)))).trans
      (.event _ _ _ _ _)

theorem Steady.noteTorn (s : State) (rq : Req) (addr col q n : Nat) : Steady s (s.noteTorn rq addr col q n) := by
  simp only [State.noteTorn]
  split
  · split
    · exact ((Steady.warnCmd _ _ _).trans (.addCnt _ _ _)).trans
        (.firstNote _ _ _ _ _ _ _ _ (accessReg_col (by decide) (by decide)) (accessReg_col (by decide) (by decide)))
    · exact .refl _
  · exact .refl _

theorem Steady.noteClash (s : State) (rq : Req) (addr col q n : Nat) : Steady s (s.noteClash rq addr col q n) := by
  simp only [State.noteClash]
  split
  · split
    · refine Steady.trans ?_ (.firstNote _ _ _ _ _ _ _ _ (accessReg_col (by decide) (by decide)) (accessReg_col (by decide) (by decide)))
      exact ((Steady.warnCmd _ _ _).trans (.addCnt _ _ _)).trans (.of_same rfl)
    · exact .refl _
  · exact .refl _

theorem Steady.chanRead (s : State) (rq : Req) (addr : Nat) {col : Nat} (q n : Nat) (hc : col < 256) :
    Steady s (s.chanRead rq addr col q n).2 := by
  simp only [State.chanRead]
  exact (((Steady.countYield _ _ _).trans (.noteTorn _ _ _ _ _ _)).trans (.addCnt _ _ _)).trans (.readBlock _ _ _ _ _ hc)

theorem Steady.chanWrite (s : State) (rq : Req) (addr : Nat) {col : Nat} (q : Nat) (bs : List Byte) (hc : col < 256) :
    Steady s (s.chanWrite rq addr col q bs).2 := by
  simp only [State.chanWrite]
  exact (((Steady.countYield _ _ _).trans (.noteClash _ _ _ _ _ _)).trans (.addCnt _ _ _)).trans (.writeBlock _ _ _ _ _ _ hc)

/-- A read by physical address. -/
theorem State.physRead_steady (s : State) (rq : Req) {col : Nat} (p n : Nat) (hc : col < 256) : Steady s (s.physRead rq col p n).2.2 := by
  unfold State.physRead
  refine Steady.foldl_via (fun (a : List Byte × List Nat × State) => a.2.2) _ (fun a x => ?_) _ ([], [], s)
  have h := Steady.chanRead a.2.2 rq (2 ^ 32 * col + x.2.1) (a.2.2.cellOf col x.2.1) x.2.2 hc
  split
  · rename_i e; rw [e] at h; exact h
  · rename_i e; rw [e] at h; exact h

/-- A write by physical address. -/
theorem State.physWrite_steady (s : State) (rq : Req) {col : Nat} (p : Nat) (bs : List Byte) (hc : col < 256) :
    Steady s (s.physWrite rq col p bs).2 := by
  unfold State.physWrite
  refine Steady.foldl_via (fun (a : Nat × State) => a.2) _ (fun a x => ?_) _ (0, s)
  have h := Steady.chanWrite a.2 rq (2 ^ 32 * col + x.2.1) (a.2.cellOf col x.2.1) (lslice bs x.1 x.2.2) hc
  split
  · rename_i e; rw [e] at h; exact h
  · rename_i e; rw [e] at h; exact h

/-! ### Field by field -/

theorem Steady.pending {s t : State} (h : Steady s t) : t.pending = s.pending := (congrArg State.pending h.1).trans rfl
theorem Steady.tick {s t : State} (h : Steady s t) : t.tick = s.tick := (congrArg State.tick h.1).trans rfl
theorem Steady.latches {s t : State} (h : Steady s t) : t.latches = s.latches := (congrArg State.latches h.1).trans rfl
theorem Steady.fuses {s t : State} (h : Steady s t) : t.fuses = s.fuses := (congrArg State.fuses h.1).trans rfl
theorem Steady.sets {s t : State} (h : Steady s t) : t.sets = s.sets := (congrArg State.sets h.1).trans rfl
theorem Steady.mbx {s t : State} (h : Steady s t) : t.mbx = s.mbx := (congrArg State.mbx h.1).trans rfl
theorem Steady.image {s t : State} (h : Steady s t) : t.image = s.image := (congrArg State.image h.1).trans rfl
theorem Steady.loader {s t : State} (h : Steady s t) : t.loader = s.loader := (congrArg State.loader h.1).trans rfl
theorem Steady.runs {s t : State} (h : Steady s t) : t.runs = s.runs := (congrArg State.runs h.1).trans rfl
theorem Steady.ctxs {s t : State} (h : Steady s t) : t.ctxs = s.ctxs := (congrArg State.ctxs h.1).trans rfl
theorem Steady.arbs {s t : State} (h : Steady s t) : t.arbs = s.arbs := (congrArg State.arbs h.1).trans rfl
theorem Steady.nextId {s t : State} (h : Steady s t) : t.nextId = s.nextId := (congrArg State.nextId h.1).trans rfl
theorem Steady.kv {s t : State} (h : Steady s t) : t.kv = s.kv := (congrArg State.kv h.1).trans rfl
theorem Steady.copies {s t : State} (h : Steady s t) : t.copies = s.copies := (congrArg State.copies h.1).trans rfl
theorem Steady.sentinel {s t : State} (h : Steady s t) : t.sentinel = s.sentinel := (congrArg State.sentinel h.1).trans rfl
theorem Steady.drifted {s t : State} (h : Steady s t) : t.drifted = s.drifted := (congrArg State.drifted h.1).trans rfl
theorem Steady.resets {s t : State} (h : Steady s t) : t.resets = s.resets := (congrArg State.resets h.1).trans rfl
theorem Steady.sec {s t : State} (h : Steady s t) : t.sec = s.sec := (congrArg State.sec h.1).trans rfl
theorem Steady.mctp {s t : State} (h : Steady s t) : t.mctp = s.mctp := (congrArg State.mctp h.1).trans rfl
theorem Steady.pcie {s t : State} (h : Steady s t) : t.pcie = s.pcie := (congrArg State.pcie h.1).trans rfl
theorem Steady.pins {s t : State} (h : Steady s t) : t.pins = s.pins := (congrArg State.pins h.1).trans rfl
theorem Steady.power {s t : State} (h : Steady s t) : t.power = s.power := (congrArg State.power h.1).trans rfl
theorem Steady.clocks {s t : State} (h : Steady s t) : t.clocks = s.clocks := (congrArg State.clocks h.1).trans rfl
theorem Steady.thermal {s t : State} (h : Steady s t) : t.thermal = s.thermal := (congrArg State.thermal h.1).trans rfl
theorem Steady.fab {s t : State} (h : Steady s t) : t.fab = s.fab := (congrArg State.fab h.1).trans rfl
theorem Steady.casc {s t : State} (h : Steady s t) : t.casc = s.casc := (congrArg State.casc h.1).trans rfl
theorem Steady.reg {s t : State} (h : Steady s t) {a : Nat} (ha : ¬ AccessReg a) : t.reg a = s.reg a := h.2.2 a ha

@[simp] theorem State.stopCmd_pending (s : State) (id st : Nat) : (s.stopCmd id st).pending = s.pending := (s.stopCmd_steady id st).pending
@[simp] theorem State.stopCmd_tick (s : State) (id st : Nat) : (s.stopCmd id st).tick = s.tick := (s.stopCmd_steady id st).tick
@[simp] theorem State.stopCmd_latches (s : State) (id st : Nat) : (s.stopCmd id st).latches = s.latches := (s.stopCmd_steady id st).latches
@[simp] theorem State.stopCmd_fuses (s : State) (id st : Nat) : (s.stopCmd id st).fuses = s.fuses := (s.stopCmd_steady id st).fuses
@[simp] theorem State.stopCmd_sets (s : State) (id st : Nat) : (s.stopCmd id st).sets = s.sets := (s.stopCmd_steady id st).sets
@[simp] theorem State.stopCmd_mbx (s : State) (id st : Nat) : (s.stopCmd id st).mbx = s.mbx := (s.stopCmd_steady id st).mbx
@[simp] theorem State.stopCmd_image (s : State) (id st : Nat) : (s.stopCmd id st).image = s.image := (s.stopCmd_steady id st).image
@[simp] theorem State.stopCmd_loader (s : State) (id st : Nat) : (s.stopCmd id st).loader = s.loader := (s.stopCmd_steady id st).loader
@[simp] theorem State.stopCmd_runs (s : State) (id st : Nat) : (s.stopCmd id st).runs = s.runs := (s.stopCmd_steady id st).runs
@[simp] theorem State.stopCmd_ctxs (s : State) (id st : Nat) : (s.stopCmd id st).ctxs = s.ctxs := (s.stopCmd_steady id st).ctxs
@[simp] theorem State.stopCmd_arbs (s : State) (id st : Nat) : (s.stopCmd id st).arbs = s.arbs := (s.stopCmd_steady id st).arbs
@[simp] theorem State.stopCmd_nextId (s : State) (id st : Nat) : (s.stopCmd id st).nextId = s.nextId := (s.stopCmd_steady id st).nextId
@[simp] theorem State.stopCmd_kv (s : State) (id st : Nat) : (s.stopCmd id st).kv = s.kv := (s.stopCmd_steady id st).kv
@[simp] theorem State.stopCmd_copies (s : State) (id st : Nat) : (s.stopCmd id st).copies = s.copies := (s.stopCmd_steady id st).copies
@[simp] theorem State.stopCmd_sentinel (s : State) (id st : Nat) : (s.stopCmd id st).sentinel = s.sentinel := (s.stopCmd_steady id st).sentinel
@[simp] theorem State.stopCmd_drifted (s : State) (id st : Nat) : (s.stopCmd id st).drifted = s.drifted := (s.stopCmd_steady id st).drifted
@[simp] theorem State.stopCmd_resets (s : State) (id st : Nat) : (s.stopCmd id st).resets = s.resets := (s.stopCmd_steady id st).resets
@[simp] theorem State.stopCmd_sec (s : State) (id st : Nat) : (s.stopCmd id st).sec = s.sec := (s.stopCmd_steady id st).sec
@[simp] theorem State.stopCmd_mctp (s : State) (id st : Nat) : (s.stopCmd id st).mctp = s.mctp := (s.stopCmd_steady id st).mctp
@[simp] theorem State.stopCmd_pcie (s : State) (id st : Nat) : (s.stopCmd id st).pcie = s.pcie := (s.stopCmd_steady id st).pcie
@[simp] theorem State.stopCmd_pins (s : State) (id st : Nat) : (s.stopCmd id st).pins = s.pins := (s.stopCmd_steady id st).pins
@[simp] theorem State.stopCmd_power (s : State) (id st : Nat) : (s.stopCmd id st).power = s.power := (s.stopCmd_steady id st).power
@[simp] theorem State.stopCmd_clocks (s : State) (id st : Nat) : (s.stopCmd id st).clocks = s.clocks := (s.stopCmd_steady id st).clocks
@[simp] theorem State.stopCmd_thermal (s : State) (id st : Nat) : (s.stopCmd id st).thermal = s.thermal := (s.stopCmd_steady id st).thermal
@[simp] theorem State.stopCmd_fab (s : State) (id st : Nat) : (s.stopCmd id st).fab = s.fab := (s.stopCmd_steady id st).fab
@[simp] theorem State.stopCmd_casc (s : State) (id st : Nat) : (s.stopCmd id st).casc = s.casc := (s.stopCmd_steady id st).casc
theorem State.reg_stopCmd (s : State) (id st : Nat) {a : Nat} (h : ¬ AccessReg a) : (s.stopCmd id st).reg a = s.reg a := (s.stopCmd_steady id st).reg h

@[simp] theorem State.stopAll_pending (s : State) (ids : List Nat) (st : Nat) : (s.stopAll ids st).pending = s.pending := (s.stopAll_steady ids st).pending
@[simp] theorem State.stopAll_tick (s : State) (ids : List Nat) (st : Nat) : (s.stopAll ids st).tick = s.tick := (s.stopAll_steady ids st).tick
@[simp] theorem State.stopAll_latches (s : State) (ids : List Nat) (st : Nat) : (s.stopAll ids st).latches = s.latches := (s.stopAll_steady ids st).latches
@[simp] theorem State.stopAll_fuses (s : State) (ids : List Nat) (st : Nat) : (s.stopAll ids st).fuses = s.fuses := (s.stopAll_steady ids st).fuses
@[simp] theorem State.stopAll_sets (s : State) (ids : List Nat) (st : Nat) : (s.stopAll ids st).sets = s.sets := (s.stopAll_steady ids st).sets
@[simp] theorem State.stopAll_mbx (s : State) (ids : List Nat) (st : Nat) : (s.stopAll ids st).mbx = s.mbx := (s.stopAll_steady ids st).mbx
@[simp] theorem State.stopAll_image (s : State) (ids : List Nat) (st : Nat) : (s.stopAll ids st).image = s.image := (s.stopAll_steady ids st).image
@[simp] theorem State.stopAll_loader (s : State) (ids : List Nat) (st : Nat) : (s.stopAll ids st).loader = s.loader := (s.stopAll_steady ids st).loader
@[simp] theorem State.stopAll_runs (s : State) (ids : List Nat) (st : Nat) : (s.stopAll ids st).runs = s.runs := (s.stopAll_steady ids st).runs
@[simp] theorem State.stopAll_ctxs (s : State) (ids : List Nat) (st : Nat) : (s.stopAll ids st).ctxs = s.ctxs := (s.stopAll_steady ids st).ctxs
@[simp] theorem State.stopAll_arbs (s : State) (ids : List Nat) (st : Nat) : (s.stopAll ids st).arbs = s.arbs := (s.stopAll_steady ids st).arbs
@[simp] theorem State.stopAll_nextId (s : State) (ids : List Nat) (st : Nat) : (s.stopAll ids st).nextId = s.nextId := (s.stopAll_steady ids st).nextId
@[simp] theorem State.stopAll_kv (s : State) (ids : List Nat) (st : Nat) : (s.stopAll ids st).kv = s.kv := (s.stopAll_steady ids st).kv
@[simp] theorem State.stopAll_copies (s : State) (ids : List Nat) (st : Nat) : (s.stopAll ids st).copies = s.copies := (s.stopAll_steady ids st).copies
@[simp] theorem State.stopAll_sentinel (s : State) (ids : List Nat) (st : Nat) : (s.stopAll ids st).sentinel = s.sentinel := (s.stopAll_steady ids st).sentinel
@[simp] theorem State.stopAll_drifted (s : State) (ids : List Nat) (st : Nat) : (s.stopAll ids st).drifted = s.drifted := (s.stopAll_steady ids st).drifted
@[simp] theorem State.stopAll_resets (s : State) (ids : List Nat) (st : Nat) : (s.stopAll ids st).resets = s.resets := (s.stopAll_steady ids st).resets
@[simp] theorem State.stopAll_sec (s : State) (ids : List Nat) (st : Nat) : (s.stopAll ids st).sec = s.sec := (s.stopAll_steady ids st).sec
@[simp] theorem State.stopAll_mctp (s : State) (ids : List Nat) (st : Nat) : (s.stopAll ids st).mctp = s.mctp := (s.stopAll_steady ids st).mctp
@[simp] theorem State.stopAll_pcie (s : State) (ids : List Nat) (st : Nat) : (s.stopAll ids st).pcie = s.pcie := (s.stopAll_steady ids st).pcie
@[simp] theorem State.stopAll_pins (s : State) (ids : List Nat) (st : Nat) : (s.stopAll ids st).pins = s.pins := (s.stopAll_steady ids st).pins
@[simp] theorem State.stopAll_power (s : State) (ids : List Nat) (st : Nat) : (s.stopAll ids st).power = s.power := (s.stopAll_steady ids st).power
@[simp] theorem State.stopAll_clocks (s : State) (ids : List Nat) (st : Nat) : (s.stopAll ids st).clocks = s.clocks := (s.stopAll_steady ids st).clocks
@[simp] theorem State.stopAll_thermal (s : State) (ids : List Nat) (st : Nat) : (s.stopAll ids st).thermal = s.thermal := (s.stopAll_steady ids st).thermal
@[simp] theorem State.stopAll_fab (s : State) (ids : List Nat) (st : Nat) : (s.stopAll ids st).fab = s.fab := (s.stopAll_steady ids st).fab
@[simp] theorem State.stopAll_casc (s : State) (ids : List Nat) (st : Nat) : (s.stopAll ids st).casc = s.casc := (s.stopAll_steady ids st).casc
theorem State.reg_stopAll (s : State) (ids : List Nat) (st : Nat) {a : Nat} (h : ¬ AccessReg a) : (s.stopAll ids st).reg a = s.reg a := (s.stopAll_steady ids st).reg h

end Sys2Proof.Machine
end

