-- ==== Sys2Proof/Laws/Exec.lean ====
section
/-! SUPPORT. What every meaning does, said once: a well-formed command answers the state of its effect with the queue left alone, and a
command that is not well formed stops with the one fault. -/
namespace Sys2Proof.Machine

/-- A well-formed command answers the state that its effect gives, with the queue as it was. -/
theorem guarded_next {ok : Bool} {s : State} {f : State → State} (h : ok = true) :
    guarded ok s f = .next ((f s).withQueue s.pending) := by simp [guarded, h]

/-- Any other command stops. -/
theorem guarded_fault {ok : Bool} {s : State} {f : State → State} (h : ok = false) : guarded ok s f = .fault .illFormed := by
  simp [guarded, h]

/-- A meaning answers a next state exactly where its command is well formed. -/
theorem guarded_eq_next {ok : Bool} {s t : State} {f : State → State} (h : guarded ok s f = .next t) :
    ok = true ∧ t = (f s).withQueue s.pending := by
  cases ok
  · simp [guarded] at h
  · simp [guarded] at h; exact ⟨rfl, h.symm⟩

/-- A command becomes what its effect gives: the first premise is true by rfl for every constructor. -/
theorem becomes_of {c : Instr} {s t : State} {ok : Bool} {f : State → State} (e : exec c s = guarded ok s f) (h : ok = true)
    (r : f s = t) : Becomes c s t := by
  unfold Becomes; rw [e, guarded_next h, r]

/-- A command completes with what holds of its effect: the first premise is true by rfl for every constructor. -/
theorem completes_of {c : Instr} {s : State} {P : State → Prop} {ok : Bool} {f : State → State} (e : exec c s = guarded ok s f)
    (h : ok = true) (r : P ((f s).withQueue s.pending)) : Completes c s P := ⟨_, by rw [e, guarded_next h], r⟩

/-- An exact answer gives every property it has. -/
theorem Becomes.completes {c : Instr} {s t : State} {P : State → Prop} (h : Becomes c s t) (r : P (t.withQueue s.pending)) :
    Completes c s P := ⟨_, h, r⟩

/-- A well-formed command answers a next state with its queue left alone, and any other command stops: every constructor's meaning has
this form. -/
theorem answers_of {c : Instr} {s : State} {f : State → State} (e : exec c s = guarded c.wf s f) :
    (c.wf = true → ∃ t, exec c s = .next t ∧ t.pending = s.pending) ∧ (c.wf = false → exec c s = .fault .illFormed) := by
  rw [e]
  exact ⟨fun h => ⟨_, guarded_next h, rfl⟩, fun h => guarded_fault h⟩

/-! ### Every constructor: its meaning in the one form of them all -/

theorem exec_powerOn (feed : Nat) (b : BootIn) (s : State) : exec (.powerOn feed b) s = guarded (Instr.powerOn feed b).wf s (doPowerOn feed b) := rfl
theorem exec_perstAssert (ns : Nat) (s : State) : exec (.perstAssert ns) s = guarded (Instr.perstAssert ns).wf s (doPerstAssert ns) := rfl
theorem exec_pcieHotReset (s : State) : exec .pcieHotReset s = guarded Instr.pcieHotReset.wf s doPcieHotReset := rfl
theorem exec_pcieLinkLoss (s : State) : exec .pcieLinkLoss s = guarded Instr.pcieLinkLoss.wf s doPcieLinkLoss := rfl
theorem exec_strapChange (level : Nat) (s : State) : exec (.strapChange level) s = guarded (Instr.strapChange level).wf s (doStrapChange level) := rfl
theorem exec_vfEnable (vfs : Nat) (s : State) : exec (.vfEnable vfs) s = guarded (Instr.vfEnable vfs).wf s (doVfEnable vfs) := rfl
theorem exec_flrVf (v : Nat) (s : State) : exec (.flrVf v) s = guarded (Instr.flrVf v).wf s (doFlrVf v) := rfl
theorem exec_flrPf (s : State) : exec .flrPf s = guarded Instr.flrPf.wf s doFlrPf := rfl
theorem exec_d3hotEntry (fn : Nat) (s : State) : exec (.d3hotEntry fn) s = guarded (Instr.d3hotEntry fn).wf s (doD3hotEntry fn) := rfl
theorem exec_d0Return (fn : Nat) (env : Env) (s : State) : exec (.d0Return fn env) s = guarded (Instr.d0Return fn env).wf s (doD0Return fn env) := rfl
theorem exec_ideIntegrityFailure (stream : Nat) (s : State) : exec (.ideIntegrityFailure stream) s = guarded (Instr.ideIntegrityFailure stream).wf s (doIdeIntegrityFailure stream) := rfl
theorem exec_bar2Read (off len : Nat) (env : Env) (s : State) : exec (.bar2Read off len env) s = guarded (Instr.bar2Read off len env).wf s (doBar2Read off len env) := rfl
theorem exec_bar2Write (off : Nat) (data : List Byte) (env : Env) (s : State) : exec (.bar2Write off data env) s = guarded (Instr.bar2Write off data env).wf s (doBar2Write off data env) := rfl
theorem exec_remapNvmWrite (col entry : Nat) (s : State) : exec (.remapNvmWrite col entry) s = guarded (Instr.remapNvmWrite col entry).wf s (doRemapNvmWrite col entry) := rfl
theorem exec_counterLoRead (fn addr : Nat) (s : State) : exec (.counterLoRead fn addr) s = guarded (Instr.counterLoRead fn addr).wf s (doCounterLoRead fn addr) := rfl
theorem exec_registerWrite (fn addr : Nat) (v : Word) (env : Env) (s : State) : exec (.registerWrite fn addr v env) s = guarded (Instr.registerWrite fn addr v env).wf s (doRegisterWrite fn addr v env) := rfl
theorem exec_ctxBind (fn idx : Nat) (v : Word) (s : State) : exec (.ctxBind fn idx v) s = guarded (Instr.ctxBind fn idx v).wf s (doCtxBind fn idx v) := rfl
theorem exec_ctxEnable (fn idx : Nat) (irqEn : Bool) (s : State) : exec (.ctxEnable fn idx irqEn) s = guarded (Instr.ctxEnable fn idx irqEn).wf s (doCtxEnable fn idx irqEn) := rfl
theorem exec_ctxDisable (fn idx : Nat) (irqEn : Bool) (s : State) : exec (.ctxDisable fn idx irqEn) s = guarded (Instr.ctxDisable fn idx irqEn).wf s (doCtxDisable fn idx irqEn) := rfl
theorem exec_contextReset (fn idx : Nat) (s : State) : exec (.contextReset fn idx) s = guarded (Instr.contextReset fn idx).wf s (doContextReset fn idx) := rfl
theorem exec_dbSqTail (fn idx : Nat) (v : Word) (s : State) : exec (.dbSqTail fn idx v) s = guarded (Instr.dbSqTail fn idx v).wf s (doDbSqTail fn idx v) := rfl
theorem exec_dbCqHead (fn idx : Nat) (v : Word) (s : State) : exec (.dbCqHead fn idx v) s = guarded (Instr.dbCqHead fn idx v).wf s (doDbCqHead fn idx v) := rfl
theorem exec_descriptorFetch (ctx : Nat) (env : Env) (s : State) : exec (.descriptorFetch ctx env) s = guarded (Instr.descriptorFetch ctx env).wf s (doDescriptorFetch ctx env) := rfl
theorem exec_commandCommit (id : Nat) (env : Env) (s : State) : exec (.commandCommit id env) s = guarded (Instr.commandCommit id env).wf s (doCommandCommit id env) := rfl
theorem exec_irqHoldExpiry (ctx : Nat) (s : State) : exec (.irqHoldExpiry ctx) s = guarded (Instr.irqHoldExpiry ctx).wf s (doIrqHoldExpiry ctx) := rfl
theorem exec_gemm (id : Nat) (env : Env) (s : State) : exec (.gemm id env) s = guarded (Instr.gemm id env).wf s (doGemm id env) := rfl
theorem exec_conv (id : Nat) (env : Env) (s : State) : exec (.conv id env) s = guarded (Instr.conv id env).wf s (doConv id env) := rfl
theorem exec_elementwise (id : Nat) (env : Env) (s : State) : exec (.elementwise id env) s = guarded (Instr.elementwise id env).wf s (doElementwise id env) := rfl
theorem exec_passStart (core : Nat) (env : Env) (s : State) : exec (.passStart core env) s = guarded (Instr.passStart core env).wf s (doPassStart core env) := rfl
theorem exec_drainComplete (core : Nat) (defects : List Defect) (env : Env) (s : State) : exec (.drainComplete core defects env) s = guarded (Instr.drainComplete core defects env).wf s (doDrainComplete core defects env) := rfl
theorem exec_shadowSampleEnd (core : Nat) (s : State) : exec (.shadowSampleEnd core) s = guarded (Instr.shadowSampleEnd core).wf s (doShadowSampleEnd core) := rfl
theorem exec_attnFwd (id : Nat) (env : Env) (s : State) : exec (.attnFwd id env) s = guarded (Instr.attnFwd id env).wf s (doAttnFwd id env) := rfl
theorem exec_attnCombine (id : Nat) (env : Env) (s : State) : exec (.attnCombine id env) s = guarded (Instr.attnCombine id env).wf s (doAttnCombine id env) := rfl
theorem exec_attnBwd (id : Nat) (env : Env) (s : State) : exec (.attnBwd id env) s = guarded (Instr.attnBwd id env).wf s (doAttnBwd id env) := rfl
theorem exec_kvRegister (id : Nat) (env : Env) (s : State) : exec (.kvRegister id env) s = guarded (Instr.kvRegister id env).wf s (doKvRegister id env) := rfl
theorem exec_kvRelease (id : Nat) (env : Env) (s : State) : exec (.kvRelease id env) s = guarded (Instr.kvRelease id env).wf s (doKvRelease id env) := rfl
theorem exec_kvActivate (id : Nat) (env : Env) (s : State) : exec (.kvActivate id env) s = guarded (Instr.kvActivate id env).wf s (doKvActivate id env) := rfl
theorem exec_kvDeactivate (id : Nat) (env : Env) (s : State) : exec (.kvDeactivate id env) s = guarded (Instr.kvDeactivate id env).wf s (doKvDeactivate id env) := rfl
theorem exec_kvFork (id : Nat) (env : Env) (s : State) : exec (.kvFork id env) s = guarded (Instr.kvFork id env).wf s (doKvFork id env) := rfl
theorem exec_kvTruncate (id : Nat) (env : Env) (s : State) : exec (.kvTruncate id env) s = guarded (Instr.kvTruncate id env).wf s (doKvTruncate id env) := rfl
theorem exec_kvSetFormat (id : Nat) (env : Env) (s : State) : exec (.kvSetFormat id env) s = guarded (Instr.kvSetFormat id env).wf s (doKvSetFormat id env) := rfl
theorem exec_kvPublish (id : Nat) (env : Env) (s : State) : exec (.kvPublish id env) s = guarded (Instr.kvPublish id env).wf s (doKvPublish id env) := rfl
theorem exec_kvEvict (id : Nat) (env : Env) (s : State) : exec (.kvEvict id env) s = guarded (Instr.kvEvict id env).wf s (doKvEvict id env) := rfl
theorem exec_kvRef (id : Nat) (env : Env) (s : State) : exec (.kvRef id env) s = guarded (Instr.kvRef id env).wf s (doKvRef id env) := rfl
theorem exec_kvFree (id : Nat) (env : Env) (s : State) : exec (.kvFree id env) s = guarded (Instr.kvFree id env).wf s (doKvFree id env) := rfl
theorem exec_prefixLookup (id : Nat) (env : Env) (s : State) : exec (.prefixLookup id env) s = guarded (Instr.prefixLookup id env).wf s (doPrefixLookup id env) := rfl
theorem exec_copyOnWriteEnd (polder new : Nat) (env : Env) (s : State) : exec (.copyOnWriteEnd polder new env) s = guarded (Instr.copyOnWriteEnd polder new env).wf s (doCopyOnWriteEnd polder new env) := rfl
theorem exec_optStep (id : Nat) (env : Env) (s : State) : exec (.optStep id env) s = guarded (Instr.optStep id env).wf s (doOptStep id env) := rfl
theorem exec_allReduce (id : Nat) (env : Env) (s : State) : exec (.allReduce id env) s = guarded (Instr.allReduce id env).wf s (doAllReduce id env) := rfl
theorem exec_reduceScatter (id : Nat) (env : Env) (s : State) : exec (.reduceScatter id env) s = guarded (Instr.reduceScatter id env).wf s (doReduceScatter id env) := rfl
theorem exec_allGather (id : Nat) (env : Env) (s : State) : exec (.allGather id env) s = guarded (Instr.allGather id env).wf s (doAllGather id env) := rfl
theorem exec_broadcast (id : Nat) (env : Env) (s : State) : exec (.broadcast id env) s = guarded (Instr.broadcast id env).wf s (doBroadcast id env) := rfl
theorem exec_signVote (id : Nat) (env : Env) (s : State) : exec (.signVote id env) s = guarded (Instr.signVote id env).wf s (doSignVote id env) := rfl
theorem exec_nbuRun (id : Nat) (env : Env) (s : State) : exec (.nbuRun id env) s = guarded (Instr.nbuRun id env).wf s (doNbuRun id env) := rfl
theorem exec_nbuDispatch (id : Nat) (s : State) : exec (.nbuDispatch id) s = guarded (Instr.nbuDispatch id).wf s (doNbuDispatch id) := rfl
theorem exec_nbuSequenceEnd (col bank : Nat) (s : State) : exec (.nbuSequenceEnd col bank) s = guarded (Instr.nbuSequenceEnd col bank).wf s (doNbuSequenceEnd col bank) := rfl
theorem exec_nbuEnd (col bank : Nat) (s : State) : exec (.nbuEnd col bank) s = guarded (Instr.nbuEnd col bank).wf s (doNbuEnd col bank) := rfl
theorem exec_nbuLd (col bank : Nat) (env : Env) (s : State) : exec (.nbuLd col bank env) s = guarded (Instr.nbuLd col bank env).wf s (doNbuLd col bank env) := rfl
theorem exec_nbuSt (col bank : Nat) (env : Env) (s : State) : exec (.nbuSt col bank env) s = guarded (Instr.nbuSt col bank env).wf s (doNbuSt col bank env) := rfl
theorem exec_nbuFma (col bank : Nat) (s : State) : exec (.nbuFma col bank) s = guarded (Instr.nbuFma col bank).wf s (doNbuFma col bank) := rfl
theorem exec_nbuMul (col bank : Nat) (s : State) : exec (.nbuMul col bank) s = guarded (Instr.nbuMul col bank).wf s (doNbuMul col bank) := rfl
theorem exec_nbuAdd (col bank : Nat) (s : State) : exec (.nbuAdd col bank) s = guarded (Instr.nbuAdd col bank).wf s (doNbuAdd col bank) := rfl
theorem exec_nbuMax (col bank : Nat) (s : State) : exec (.nbuMax col bank) s = guarded (Instr.nbuMax col bank).wf s (doNbuMax col bank) := rfl
theorem exec_nbuScale (col bank : Nat) (s : State) : exec (.nbuScale col bank) s = guarded (Instr.nbuScale col bank).wf s (doNbuScale col bank) := rfl
theorem exec_nbuSgn (col bank : Nat) (s : State) : exec (.nbuSgn col bank) s = guarded (Instr.nbuSgn col bank).wf s (doNbuSgn col bank) := rfl
theorem exec_nbuClip (col bank : Nat) (s : State) : exec (.nbuClip col bank) s = guarded (Instr.nbuClip col bank).wf s (doNbuClip col bank) := rfl
theorem exec_nbuExp (col bank : Nat) (s : State) : exec (.nbuExp col bank) s = guarded (Instr.nbuExp col bank).wf s (doNbuExp col bank) := rfl
theorem exec_nbuHsum (col bank : Nat) (s : State) : exec (.nbuHsum col bank) s = guarded (Instr.nbuHsum col bank).wf s (doNbuHsum col bank) := rfl
theorem exec_nbuHmax (col bank : Nat) (s : State) : exec (.nbuHmax col bank) s = guarded (Instr.nbuHmax col bank).wf s (doNbuHmax col bank) := rfl
theorem exec_nbuArg (col bank : Nat) (s : State) : exec (.nbuArg col bank) s = guarded (Instr.nbuArg col bank).wf s (doNbuArg col bank) := rfl
theorem exec_nbuPset (col bank : Nat) (s : State) : exec (.nbuPset col bank) s = guarded (Instr.nbuPset col bank).wf s (doNbuPset col bank) := rfl
theorem exec_nbuPadd (col bank : Nat) (s : State) : exec (.nbuPadd col bank) s = guarded (Instr.nbuPadd col bank).wf s (doNbuPadd col bank) := rfl
theorem exec_nbuParg (col bank : Nat) (s : State) : exec (.nbuParg col bank) s = guarded (Instr.nbuParg col bank).wf s (doNbuParg col bank) := rfl
theorem exec_nbuLset (col bank : Nat) (s : State) : exec (.nbuLset col bank) s = guarded (Instr.nbuLset col bank).wf s (doNbuLset col bank) := rfl
theorem exec_nbuLoop (col bank : Nat) (s : State) : exec (.nbuLoop col bank) s = guarded (Instr.nbuLoop col bank).wf s (doNbuLoop col bank) := rfl
theorem exec_nbuBrlt (col bank : Nat) (s : State) : exec (.nbuBrlt col bank) s = guarded (Instr.nbuBrlt col bank).wf s (doNbuBrlt col bank) := rfl
theorem exec_nbuJmp (col bank : Nat) (s : State) : exec (.nbuJmp col bank) s = guarded (Instr.nbuJmp col bank).wf s (doNbuJmp col bank) := rfl
theorem exec_dma (id : Nat) (env : Env) (s : State) : exec (.dma id env) s = guarded (Instr.dma id env).wf s (doDma id env) := rfl
theorem exec_fence (id : Nat) (s : State) : exec (.fence id) s = guarded (Instr.fence id).wf s (doFence id) := rfl
theorem exec_counterAdd (id : Nat) (s : State) : exec (.counterAdd id) s = guarded (Instr.counterAdd id).wf s (doCounterAdd id) := rfl
theorem exec_counterWaitGe (id : Nat) (s : State) : exec (.counterWaitGe id) s = guarded (Instr.counterWaitGe id).wf s (doCounterWaitGe id) := rfl
theorem exec_harvest (id : Nat) (env : Env) (s : State) : exec (.harvest id env) s = guarded (Instr.harvest id env).wf s (doHarvest id env) := rfl
theorem exec_restore (id : Nat) (env : Env) (s : State) : exec (.restore id env) s = guarded (Instr.restore id env).wf s (doRestore id env) := rfl
theorem exec_parityRebuild (id : Nat) (env : Env) (s : State) : exec (.parityRebuild id env) s = guarded (Instr.parityRebuild id env).wf s (doParityRebuild id env) := rfl
theorem exec_abort (id : Nat) (s : State) : exec (.abort id) s = guarded (Instr.abort id).wf s (doAbort id) := rfl
theorem exec_abortOverrun (id : Nat) (s : State) : exec (.abortOverrun id) s = guarded (Instr.abortOverrun id).wf s (doAbortOverrun id) := rfl
theorem exec_testArray (id : Nat) (bad : Option (Nat × Nat)) (s : State) : exec (.testArray id bad) s = guarded (Instr.testArray id bad).wf s (doTestArray id bad) := rfl
theorem exec_testVector (id : Nat) (bad : Option Nat) (s : State) : exec (.testVector id bad) s = guarded (Instr.testVector id bad).wf s (doTestVector id bad) := rfl
theorem exec_testSramScrub (id : Nat) (env : Env) (s : State) : exec (.testSramScrub id env) s = guarded (Instr.testSramScrub id env).wf s (doTestSramScrub id env) := rfl
theorem exec_testMemCal (id : Nat) (s : State) : exec (.testMemCal id) s = guarded (Instr.testMemCal id).wf s (doTestMemCal id) := rfl
theorem exec_testFabRetrain (id : Nat) (s : State) : exec (.testFabRetrain id) s = guarded (Instr.testFabRetrain id).wf s (doTestFabRetrain id) := rfl
theorem exec_selftestDeadline (id : Nat) (s : State) : exec (.selftestDeadline id) s = guarded (Instr.selftestDeadline id).wf s (doSelftestDeadline id) := rfl
theorem exec_mbxSet (s : State) : exec .mbxSet s = guarded Instr.mbxSet.wf s doMbxSet := rfl
theorem exec_mbxGet (s : State) : exec .mbxGet s = guarded Instr.mbxGet.wf s doMbxGet := rfl
theorem exec_mbxStore (s : State) : exec .mbxStore s = guarded Instr.mbxStore.wf s doMbxStore := rfl
theorem exec_storeComplete (ok : Bool) (s : State) : exec (.storeComplete ok) s = guarded (Instr.storeComplete ok).wf s (doStoreComplete ok) := rfl
theorem exec_mbxRevert (s : State) : exec .mbxRevert s = guarded Instr.mbxRevert.wf s doMbxRevert := rfl
theorem exec_mbxDefaults (s : State) : exec .mbxDefaults s = guarded Instr.mbxDefaults.wf s doMbxDefaults := rfl
theorem exec_mbxQuiesce (s : State) : exec .mbxQuiesce s = guarded Instr.mbxQuiesce.wf s doMbxQuiesce := rfl
theorem exec_drainDeadline (polder : Nat) (s : State) : exec (.drainDeadline polder) s = guarded (Instr.drainDeadline polder).wf s (doDrainDeadline polder) := rfl
theorem exec_polderStopped (polder : Nat) (s : State) : exec (.polderStopped polder) s = guarded (Instr.polderStopped polder).wf s (doPolderStopped polder) := rfl
theorem exec_mbxResume (s : State) : exec .mbxResume s = guarded Instr.mbxResume.wf s doMbxResume := rfl
theorem exec_imgGo (src : Nat) (s : State) : exec (.imgGo src) s = guarded (Instr.imgGo src).wf s (doImgGo src) := rfl
theorem exec_imgAbort (s : State) : exec .imgAbort s = guarded Instr.imgAbort.wf s doImgAbort := rfl
theorem exec_imgSrc (src : Nat) (s : State) : exec (.imgSrc src) s = guarded (Instr.imgSrc src).wf s (doImgSrc src) := rfl
theorem exec_imgPortWrite (data : List Byte) (env : Env) (s : State) : exec (.imgPortWrite data env) s = guarded (Instr.imgPortWrite data env).wf s (doImgPortWrite data env) := rfl
theorem exec_imageCopyDone (env : Env) (s : State) : exec (.imageCopyDone env) s = guarded (Instr.imageCopyDone env).wf s (doImageCopyDone env) := rfl
theorem exec_imageValidationDone (env : Env) (s : State) : exec (.imageValidationDone env) s = guarded (Instr.imageValidationDone env).wf s (doImageValidationDone env) := rfl
theorem exec_imageCommit (s : State) : exec .imageCommit s = guarded Instr.imageCommit.wf s doImageCommit := rfl
theorem exec_memArm (v : Word) (s : State) : exec (.memArm v) s = guarded (Instr.memArm v).wf s (doMemArm v) := rfl
theorem exec_memClrLog (col : Nat) (s : State) : exec (.memClrLog col) s = guarded (Instr.memClrLog col).wf s (doMemClrLog col) := rfl
theorem exec_memClrCounts (col : Nat) (s : State) : exec (.memClrCounts col) s = guarded (Instr.memClrCounts col).wf s (doMemClrCounts col) := rfl
theorem exec_memAppend (s : State) : exec .memAppend s = guarded Instr.memAppend.wf s doMemAppend := rfl
theorem exec_retireAppendDone (ok : Bool) (s : State) : exec (.retireAppendDone ok) s = guarded (Instr.retireAppendDone ok).wf s (doRetireAppendDone ok) := rfl
theorem exec_arrClrCounters (core : Nat) (s : State) : exec (.arrClrCounters core) s = guarded (Instr.arrClrCounters core).wf s (doArrClrCounters core) := rfl
theorem exec_precClr (core : Nat) (s : State) : exec (.precClr core) s = guarded (Instr.precClr core).wf s (doPrecClr core) := rfl
theorem exec_precClear (polder : Nat) (s : State) : exec (.precClear polder) s = guarded (Instr.precClear polder).wf s (doPrecClear polder) := rfl
theorem exec_patrolScrub (col : Nat) (env : Env) (s : State) : exec (.patrolScrub col env) s = guarded (Instr.patrolScrub col env).wf s (doPatrolScrub col env) := rfl
theorem exec_refreshDue (col bank : Nat) (s : State) : exec (.refreshDue col bank) s = guarded (Instr.refreshDue col bank).wf s (doRefreshDue col bank) := rfl
theorem exec_memCalibrationDue (col : Nat) (s : State) : exec (.memCalibrationDue col) s = guarded (Instr.memCalibrationDue col).wf s (doMemCalibrationDue col) := rfl
theorem exec_memCalibrationDone (col : Nat) (s : State) : exec (.memCalibrationDone col) s = guarded (Instr.memCalibrationDone col).wf s (doMemCalibrationDone col) := rfl
theorem exec_vigilExpiry (id : Nat) (s : State) : exec (.vigilExpiry id) s = guarded (Instr.vigilExpiry id).wf s (doVigilExpiry id) := rfl
theorem exec_stopOverrun (id unitKind unit : Nat) (s : State) : exec (.stopOverrun id unitKind unit) s = guarded (Instr.stopOverrun id unitKind unit).wf s (doStopOverrun id unitKind unit) := rfl
theorem exec_engineReset (core : Nat) (s : State) : exec (.engineReset core) s = guarded (Instr.engineReset core).wf s (doEngineReset core) := rfl
theorem exec_polderReset (polder : Nat) (s : State) : exec (.polderReset polder) s = guarded (Instr.polderReset polder).wf s (doPolderReset polder) := rfl
theorem exec_chipReset (key : Nat) (s : State) : exec (.chipReset key) s = guarded (Instr.chipReset key).wf s (doChipReset key) := rfl
theorem exec_moduleReset (key : Nat) (s : State) : exec (.moduleReset key) s = guarded (Instr.moduleReset key).wf s (doModuleReset key) := rfl
theorem exec_powerCycleRequest (key : Nat) (s : State) : exec (.powerCycleRequest key) s = guarded (Instr.powerCycleRequest key).wf s (doPowerCycleRequest key) := rfl
theorem exec_powerCycleRepeat (s : State) : exec .powerCycleRepeat s = guarded Instr.powerCycleRepeat.wf s doPowerCycleRepeat := rfl
theorem exec_sluiceClose (level unit : Nat) (s : State) : exec (.sluiceClose level unit) s = guarded (Instr.sluiceClose level unit).wf s (doSluiceClose level unit) := rfl
theorem exec_resetComplete (level unit : Nat) (b : BootIn) (s : State) : exec (.resetComplete level unit b) s = guarded (Instr.resetComplete level unit b).wf s (doResetComplete level unit b) := rfl
theorem exec_resetOverrun (level unit : Nat) (s : State) : exec (.resetOverrun level unit) s = guarded (Instr.resetOverrun level unit).wf s (doResetOverrun level unit) := rfl
theorem exec_feedLost (feed mv : Nat) (s : State) : exec (.feedLost feed mv) s = guarded (Instr.feedLost feed mv).wf s (doFeedLost feed mv) := rfl
theorem exec_feedRejoin (feed mv : Nat) (s : State) : exec (.feedRejoin feed mv) s = guarded (Instr.feedRejoin feed mv).wf s (doFeedRejoin feed mv) := rfl
theorem exec_pwrHoldup (s : State) : exec .pwrHoldup s = guarded Instr.pwrHoldup.wf s doPwrHoldup := rfl
theorem exec_pwrPhaseFail (cluster phase : Nat) (s : State) : exec (.pwrPhaseFail cluster phase) s = guarded (Instr.pwrPhaseFail cluster phase).wf s (doPwrPhaseFail cluster phase) := rfl
theorem exec_powerSample (r : PowerReading) (s : State) : exec (.powerSample r) s = guarded (Instr.powerSample r).wf s (doPowerSample r) := rfl
theorem exec_rampStart (cluster mask : Nat) (s : State) : exec (.rampStart cluster mask) s = guarded (Instr.rampStart cluster mask).wf s (doRampStart cluster mask) := rfl
theorem exec_rampRetry (cluster : Nat) (s : State) : exec (.rampRetry cluster) s = guarded (Instr.rampRetry cluster).wf s (doRampRetry cluster) := rfl
theorem exec_rampForcedAdmit (cluster : Nat) (s : State) : exec (.rampForcedAdmit cluster) s = guarded (Instr.rampForcedAdmit cluster).wf s (doRampForcedAdmit cluster) := rfl
theorem exec_rampDensityStep (cluster : Nat) (s : State) : exec (.rampDensityStep cluster) s = guarded (Instr.rampDensityStep cluster).wf s (doRampDensityStep cluster) := rfl
theorem exec_rampTargetRaise (cluster : Nat) (s : State) : exec (.rampTargetRaise cluster) s = guarded (Instr.rampTargetRaise cluster).wf s (doRampTargetRaise cluster) := rfl
theorem exec_halfStandby (half : Nat) (s : State) : exec (.halfStandby half) s = guarded (Instr.halfStandby half).wf s (doHalfStandby half) := rfl
theorem exec_halfAsleep (half : Nat) (s : State) : exec (.halfAsleep half) s = guarded (Instr.halfAsleep half).wf s (doHalfAsleep half) := rfl
theorem exec_ceilingUpdate (core margin : Nat) (s : State) : exec (.ceilingUpdate core margin) s = guarded (Instr.ceilingUpdate core margin).wf s (doCeilingUpdate core margin) := rfl
theorem exec_powerGrant (binding inst watts leaseMs : Nat) (s : State) : exec (.powerGrant binding inst watts leaseMs) s = guarded (Instr.powerGrant binding inst watts leaseMs).wf s (doPowerGrant binding inst watts leaseMs) := rfl
theorem exec_grantFrame (f : Rx) (s : State) : exec (.grantFrame f) s = guarded (Instr.grantFrame f).wf s (doGrantFrame f) := rfl
theorem exec_grantLapse (s : State) : exec .grantLapse s = guarded Instr.grantLapse.wf s doGrantLapse := rfl
theorem exec_slackWindowEnd (slack : Nat) (s : State) : exec (.slackWindowEnd slack) s = guarded (Instr.slackWindowEnd slack).wf s (doSlackWindowEnd slack) := rfl
theorem exec_slackFrame (f : Rx) (s : State) : exec (.slackFrame f) s = guarded (Instr.slackFrame f).wf s (doSlackFrame f) := rfl
theorem exec_grantRedistribution (s : State) : exec .grantRedistribution s = guarded Instr.grantRedistribution.wf s doGrantRedistribution := rfl
theorem exec_heatMeterUpdate (s : State) : exec .heatMeterUpdate s = guarded Instr.heatMeterUpdate.wf s doHeatMeterUpdate := rfl
theorem exec_heatMismatch (s : State) : exec .heatMismatch s = guarded Instr.heatMismatch.wf s doHeatMismatch := rfl
theorem exec_thermalSample (r : ThermReading) (s : State) : exec (.thermalSample r) s = guarded (Instr.thermalSample r).wf s (doThermalSample r) := rfl
theorem exec_thermalStep (half : Bool) (n : Nat) (s : State) : exec (.thermalStep half n) s = guarded (Instr.thermalStep half n).wf s (doThermalStep half n) := rfl
theorem exec_memDutyStep (ml : Nat) (s : State) : exec (.memDutyStep ml) s = guarded (Instr.memDutyStep ml).wf s (doMemDutyStep ml) := rfl
theorem exec_thermalModelUpdate (watts : List Nat) (s : State) : exec (.thermalModelUpdate watts) s = guarded (Instr.thermalModelUpdate watts).wf s (doThermalModelUpdate watts) := rfl
theorem exec_thmModel (layer : Nat) (s : State) : exec (.thmModel layer) s = guarded (Instr.thmModel layer).wf s (doThmModel layer) := rfl
theorem exec_thmSuspect (layer : Nat) (s : State) : exec (.thmSuspect layer) s = guarded (Instr.thmSuspect layer).wf s (doThmSuspect layer) := rfl
theorem exec_modelRelease (layer : Nat) (s : State) : exec (.modelRelease layer) s = guarded (Instr.modelRelease layer).wf s (doModelRelease layer) := rfl
theorem exec_coolantSample (r : List CoolantReading) (s : State) : exec (.coolantSample r) s = guarded (Instr.coolantSample r).wf s (doCoolantSample r) := rfl
theorem exec_flowLimitUpdate (s : State) : exec .flowLimitUpdate s = guarded Instr.flowLimitUpdate.wf s doFlowLimitUpdate := rfl
theorem exec_outletReductionStep (s : State) : exec .outletReductionStep s = guarded Instr.outletReductionStep.wf s doOutletReductionStep := rfl
theorem exec_cltRestart (s : State) : exec .cltRestart s = guarded Instr.cltRestart.wf s doCltRestart := rfl
theorem exec_bondWearSample (s : State) : exec .bondWearSample s = guarded Instr.bondWearSample.wf s doBondWearSample := rfl
theorem exec_bondWearWrite (s : State) : exec .bondWearWrite s = guarded Instr.bondWearWrite.wf s doBondWearWrite := rfl
theorem exec_portLinkUp (port : Nat) (s : State) : exec (.portLinkUp port) s = guarded (Instr.portLinkUp port).wf s (doPortLinkUp port) := rfl
theorem exec_portLinkDown (port : Nat) (s : State) : exec (.portLinkDown port) s = guarded (Instr.portLinkDown port).wf s (doPortLinkDown port) := rfl
theorem exec_laneRetrainTrigger (port lane : Nat) (s : State) : exec (.laneRetrainTrigger port lane) s = guarded (Instr.laneRetrainTrigger port lane).wf s (doLaneRetrainTrigger port lane) := rfl
theorem exec_laneRetrainStepDone (port : Nat) (s : State) : exec (.laneRetrainStepDone port) s = guarded (Instr.laneRetrainStepDone port).wf s (doLaneRetrainStepDone port) := rfl
theorem exec_arpRefresh (s : State) : exec .arpRefresh s = guarded Instr.arpRefresh.wf s doArpRefresh := rfl
theorem exec_arpRequest (port target asker mac : Nat) (s : State) : exec (.arpRequest port target asker mac) s = guarded (Instr.arpRequest port target asker mac).wf s (doArpRequest port target asker mac) := rfl
theorem exec_icmpEcho (port target asker : Nat) (data : List Byte) (s : State) : exec (.icmpEcho port target asker data) s = guarded (Instr.icmpEcho port target asker data).wf s (doIcmpEcho port target asker data) := rfl
theorem exec_pauseFrame (port : Nat) (s : State) : exec (.pauseFrame port) s = guarded (Instr.pauseFrame port).wf s (doPauseFrame port) := rfl
theorem exec_rxDiscard (port : Nat) (s : State) : exec (.rxDiscard port) s = guarded (Instr.rxDiscard port).wf s (doRxDiscard port) := rfl
theorem exec_fabWrite (f : Rx) (env : Env) (s : State) : exec (.fabWrite f env) s = guarded (Instr.fabWrite f env).wf s (doFabWrite f env) := rfl
theorem exec_fabReadReq (f : Rx) (env : Env) (s : State) : exec (.fabReadReq f env) s = guarded (Instr.fabReadReq f env).wf s (doFabReadReq f env) := rfl
theorem exec_fabReadRsp (f : Rx) (env : Env) (s : State) : exec (.fabReadRsp f env) s = guarded (Instr.fabReadRsp f env).wf s (doFabReadRsp f env) := rfl
theorem exec_fabAck (f : Rx) (s : State) : exec (.fabAck f) s = guarded (Instr.fabAck f).wf s (doFabAck f) := rfl
theorem exec_fabNak (f : Rx) (s : State) : exec (.fabNak f) s = guarded (Instr.fabNak f).wf s (doFabNak f) := rfl
theorem exec_ackTimer (device : Nat) (s : State) : exec (.ackTimer device) s = guarded (Instr.ackTimer device).wf s (doAckTimer device) := rfl
theorem exec_retransmitTimeout (device : Nat) (s : State) : exec (.retransmitTimeout device) s = guarded (Instr.retransmitTimeout device).wf s (doRetransmitTimeout device) := rfl
theorem exec_peerDownRetransmit (device : Nat) (s : State) : exec (.peerDownRetransmit device) s = guarded (Instr.peerDownRetransmit device).wf s (doPeerDownRetransmit device) := rfl
theorem exec_busyRetry (device psn : Nat) (s : State) : exec (.busyRetry device psn) s = guarded (Instr.busyRetry device psn).wf s (doBusyRetry device psn) := rfl
theorem exec_rateIncrease (device port entry : Nat) (s : State) : exec (.rateIncrease device port entry) s = guarded (Instr.rateIncrease device port entry).wf s (doRateIncrease device port entry) := rfl
theorem exec_collData (f : Rx) (env : Env) (s : State) : exec (.collData f env) s = guarded (Instr.collData f env).wf s (doCollData f env) := rfl
theorem exec_breachFrame (f : Rx) (s : State) : exec (.breachFrame f) s = guarded (Instr.breachFrame f).wf s (doBreachFrame f) := rfl
theorem exec_breachSend (v : Word) (s : State) : exec (.breachSend v) s = guarded (Instr.breachSend v).wf s (doBreachSend v) := rfl
theorem exec_breachLatchClear (polder : Nat) (s : State) : exec (.breachLatchClear polder) s = guarded (Instr.breachLatchClear polder).wf s (doBreachLatchClear polder) := rfl
theorem exec_fabEpValid (ep : Nat) (v : Word) (s : State) : exec (.fabEpValid ep v) s = guarded (Instr.fabEpValid ep v).wf s (doFabEpValid ep v) := rfl
theorem exec_rdmaWrite (q : Rdma) (env : Env) (s : State) : exec (.rdmaWrite q env) s = guarded (Instr.rdmaWrite q env).wf s (doRdmaWrite q env) := rfl
theorem exec_rdmaRead (q : Rdma) (env : Env) (s : State) : exec (.rdmaRead q env) s = guarded (Instr.rdmaRead q env).wf s (doRdmaRead q env) := rfl
theorem exec_reckonPeriod (s : State) : exec .reckonPeriod s = guarded Instr.reckonPeriod.wf s doReckonPeriod := rfl
theorem exec_reckonNow (s : State) : exec .reckonNow s = guarded Instr.reckonNow.wf s doReckonNow := rfl
theorem exec_reckonReq (f : Rx) (s : State) : exec (.reckonReq f) s = guarded (Instr.reckonReq f).wf s (doReckonReq f) := rfl
theorem exec_reckonRsp (f : Rx) (s : State) : exec (.reckonRsp f) s = guarded (Instr.reckonRsp f).wf s (doReckonRsp f) := rfl
theorem exec_reckonDeadline (s : State) : exec .reckonDeadline s = guarded Instr.reckonDeadline.wf s doReckonDeadline := rfl
theorem exec_casMasterLost (s : State) : exec .casMasterLost s = guarded Instr.casMasterLost.wf s doCasMasterLost := rfl
theorem exec_parDelta (f : Rx) (env : Env) (s : State) : exec (.parDelta f env) s = guarded (Instr.parDelta f env).wf s (doParDelta f env) := rfl
theorem exec_parReadReq (f : Rx) (env : Env) (s : State) : exec (.parReadReq f env) s = guarded (Instr.parReadReq f env).wf s (doParReadReq f env) := rfl
theorem exec_parReadRsp (f : Rx) (env : Env) (s : State) : exec (.parReadRsp f env) s = guarded (Instr.parReadRsp f env).wf s (doParReadRsp f env) := rfl
theorem exec_harvReport (f : Rx) (s : State) : exec (.harvReport f) s = guarded (Instr.harvReport f).wf s (doHarvReport f) := rfl
theorem exec_harvReportPeriod (s : State) : exec .harvReportPeriod s = guarded Instr.harvReportPeriod.wf s doHarvReportPeriod := rfl
theorem exec_harvAdviseUpdate (s : State) : exec .harvAdviseUpdate s = guarded Instr.harvAdviseUpdate.wf s doHarvAdviseUpdate := rfl
theorem exec_parGrpValid (group : Nat) (v : Word) (env : Env) (s : State) : exec (.parGrpValid group v env) s = guarded (Instr.parGrpValid group v env).wf s (doParGrpValid group v env) := rfl
theorem exec_parGrpLost (group : Nat) (v : Word) (s : State) : exec (.parGrpLost group v) s = guarded (Instr.parGrpLost group v).wf s (doParGrpLost group v) := rfl
theorem exec_parGrpDev (group r : Nat) (v : Word) (s : State) : exec (.parGrpDev group r v) s = guarded (Instr.parGrpDev group r v).wf s (doParGrpDev group r v) := rfl
theorem exec_fwOpen (s : State) : exec .fwOpen s = guarded Instr.fwOpen.wf s doFwOpen := rfl
theorem exec_fwPortWrite (data : List Byte) (s : State) : exec (.fwPortWrite data) s = guarded (Instr.fwPortWrite data).wf s (doFwPortWrite data) := rfl
theorem exec_fwVerify (s : State) : exec .fwVerify s = guarded Instr.fwVerify.wf s doFwVerify := rfl
theorem exec_fwVerifyDone (s : State) : exec .fwVerifyDone s = guarded Instr.fwVerifyDone.wf s doFwVerifyDone := rfl
theorem exec_fwCommit (key : Nat) (s : State) : exec (.fwCommit key) s = guarded (Instr.fwCommit key).wf s (doFwCommit key) := rfl
theorem exec_fwCommitDone (s : State) : exec .fwCommitDone s = guarded Instr.fwCommitDone.wf s doFwCommitDone := rfl
theorem exec_fwCancel (s : State) : exec .fwCancel s = guarded Instr.fwCancel.wf s doFwCancel := rfl
theorem exec_fwRecover (key : Nat) (s : State) : exec (.fwRecover key) s = guarded (Instr.fwRecover key).wf s (doFwRecover key) := rfl
theorem exec_ownerEnroll (s : State) : exec .ownerEnroll s = guarded Instr.ownerEnroll.wf s doOwnerEnroll := rfl
theorem exec_ownerTransfer (env : Env) (s : State) : exec (.ownerTransfer env) s = guarded (Instr.ownerTransfer env).wf s (doOwnerTransfer env) := rfl
theorem exec_ownerLock (key : Nat) (s : State) : exec (.ownerLock key) s = guarded (Instr.ownerLock key).wf s (doOwnerLock key) := rfl
theorem exec_spdmGetVersion (binding : Nat) (req : List Byte) (s : State) : exec (.spdmGetVersion binding req) s = guarded (Instr.spdmGetVersion binding req).wf s (doSpdmGetVersion binding req) := rfl
theorem exec_spdmGetCapabilities (binding : Nat) (req : List Byte) (s : State) : exec (.spdmGetCapabilities binding req) s = guarded (Instr.spdmGetCapabilities binding req).wf s (doSpdmGetCapabilities binding req) := rfl
theorem exec_spdmNegotiateAlgorithms (binding : Nat) (req : List Byte) (s : State) : exec (.spdmNegotiateAlgorithms binding req) s = guarded (Instr.spdmNegotiateAlgorithms binding req).wf s (doSpdmNegotiateAlgorithms binding req) := rfl
theorem exec_spdmGetDigests (binding : Nat) (req : List Byte) (s : State) : exec (.spdmGetDigests binding req) s = guarded (Instr.spdmGetDigests binding req).wf s (doSpdmGetDigests binding req) := rfl
theorem exec_spdmGetCertificate (binding slot off len : Nat) (s : State) : exec (.spdmGetCertificate binding slot off len) s = guarded (Instr.spdmGetCertificate binding slot off len).wf s (doSpdmGetCertificate binding slot off len) := rfl
theorem exec_spdmChallenge (binding : Nat) (req : List Byte) (s : State) : exec (.spdmChallenge binding req) s = guarded (Instr.spdmChallenge binding req).wf s (doSpdmChallenge binding req) := rfl
theorem exec_spdmGetMeasurements (binding index : Nat) (req : List Byte) (s : State) : exec (.spdmGetMeasurements binding index req) s = guarded (Instr.spdmGetMeasurements binding index req).wf s (doSpdmGetMeasurements binding index req) := rfl
theorem exec_spdmKeyExchange (binding : Nat) (req : List Byte) (s : State) : exec (.spdmKeyExchange binding req) s = guarded (Instr.spdmKeyExchange binding req).wf s (doSpdmKeyExchange binding req) := rfl
theorem exec_spdmFinish (binding session : Nat) (req : List Byte) (s : State) : exec (.spdmFinish binding session req) s = guarded (Instr.spdmFinish binding session req).wf s (doSpdmFinish binding session req) := rfl
theorem exec_spdmHeartbeat (binding session : Nat) (s : State) : exec (.spdmHeartbeat binding session) s = guarded (Instr.spdmHeartbeat binding session).wf s (doSpdmHeartbeat binding session) := rfl
theorem exec_spdmKeyUpdate (binding session : Nat) (s : State) : exec (.spdmKeyUpdate binding session) s = guarded (Instr.spdmKeyUpdate binding session).wf s (doSpdmKeyUpdate binding session) := rfl
theorem exec_spdmEndSession (binding session : Nat) (s : State) : exec (.spdmEndSession binding session) s = guarded (Instr.spdmEndSession binding session).wf s (doSpdmEndSession binding session) := rfl
theorem exec_ideKm (session stream : Nat) (active : Bool) (s : State) : exec (.ideKm session stream active) s = guarded (Instr.ideKm session stream active).wf s (doIdeKm session stream active) := rfl
theorem exec_mctpSetEid (binding src eid : Nat) (s : State) : exec (.mctpSetEid binding src eid) s = guarded (Instr.mctpSetEid binding src eid).wf s (doMctpSetEid binding src eid) := rfl
theorem exec_mctpGetEid (binding : Nat) (s : State) : exec (.mctpGetEid binding) s = guarded (Instr.mctpGetEid binding).wf s (doMctpGetEid binding) := rfl
theorem exec_mctpGetUuid (binding : Nat) (s : State) : exec (.mctpGetUuid binding) s = guarded (Instr.mctpGetUuid binding).wf s (doMctpGetUuid binding) := rfl
theorem exec_mctpGetVersion (binding type : Nat) (s : State) : exec (.mctpGetVersion binding type) s = guarded (Instr.mctpGetVersion binding type).wf s (doMctpGetVersion binding type) := rfl
theorem exec_mctpGetTypes (binding : Nat) (s : State) : exec (.mctpGetTypes binding) s = guarded (Instr.mctpGetTypes binding).wf s (doMctpGetTypes binding) := rfl
theorem exec_mctpGetVendor (binding : Nat) (s : State) : exec (.mctpGetVendor binding) s = guarded (Instr.mctpGetVendor binding).wf s (doMctpGetVendor binding) := rfl
theorem exec_mctpMailbox (binding inst op a0 a1 a2 : Nat) (s : State) : exec (.mctpMailbox binding inst op a0 a1 a2) s = guarded (Instr.mctpMailbox binding inst op a0 a1 a2).wf s (doMctpMailbox binding inst op a0 a1 a2) := rfl
theorem exec_mctpAlmRead (binding inst source first count : Nat) (s : State) : exec (.mctpAlmRead binding inst source first count) s = guarded (Instr.mctpAlmRead binding inst source first count).wf s (doMctpAlmRead binding inst source first count) := rfl
theorem exec_mctpAlmFreeze (binding inst : Nat) (s : State) : exec (.mctpAlmFreeze binding inst) s = guarded (Instr.mctpAlmFreeze binding inst).wf s (doMctpAlmFreeze binding inst) := rfl
theorem exec_mctpHeatReport (binding inst : Nat) (s : State) : exec (.mctpHeatReport binding inst) s = guarded (Instr.mctpHeatReport binding inst).wf s (doMctpHeatReport binding inst) := rfl
theorem exec_pldmGetTid (binding inst : Nat) (s : State) : exec (.pldmGetTid binding inst) s = guarded (Instr.pldmGetTid binding inst).wf s (doPldmGetTid binding inst) := rfl
theorem exec_pldmGetVersion (binding inst type : Nat) (s : State) : exec (.pldmGetVersion binding inst type) s = guarded (Instr.pldmGetVersion binding inst type).wf s (doPldmGetVersion binding inst type) := rfl
theorem exec_pldmGetTypes (binding inst : Nat) (s : State) : exec (.pldmGetTypes binding inst) s = guarded (Instr.pldmGetTypes binding inst).wf s (doPldmGetTypes binding inst) := rfl
theorem exec_pldmGetCommands (binding inst type : Nat) (s : State) : exec (.pldmGetCommands binding inst type) s = guarded (Instr.pldmGetCommands binding inst type).wf s (doPldmGetCommands binding inst type) := rfl
theorem exec_pldmGetPdrInfo (binding inst : Nat) (s : State) : exec (.pldmGetPdrInfo binding inst) s = guarded (Instr.pldmGetPdrInfo binding inst).wf s (doPldmGetPdrInfo binding inst) := rfl
theorem exec_pldmGetPdr (binding inst record : Nat) (s : State) : exec (.pldmGetPdr binding inst record) s = guarded (Instr.pldmGetPdr binding inst record).wf s (doPldmGetPdr binding inst record) := rfl
theorem exec_pldmGetSensor (binding inst sensor : Nat) (s : State) : exec (.pldmGetSensor binding inst sensor) s = guarded (Instr.pldmGetSensor binding inst sensor).wf s (doPldmGetSensor binding inst sensor) := rfl
theorem exec_pldmSetReceiver (binding inst eid : Nat) (s : State) : exec (.pldmSetReceiver binding inst eid) s = guarded (Instr.pldmSetReceiver binding inst eid).wf s (doPldmSetReceiver binding inst eid) := rfl
theorem exec_pldmQueryDevice (binding inst : Nat) (s : State) : exec (.pldmQueryDevice binding inst) s = guarded (Instr.pldmQueryDevice binding inst).wf s (doPldmQueryDevice binding inst) := rfl
theorem exec_pldmGetFwParams (binding inst : Nat) (s : State) : exec (.pldmGetFwParams binding inst) s = guarded (Instr.pldmGetFwParams binding inst).wf s (doPldmGetFwParams binding inst) := rfl
theorem exec_pldmRequestUpdate (binding inst : Nat) (s : State) : exec (.pldmRequestUpdate binding inst) s = guarded (Instr.pldmRequestUpdate binding inst).wf s (doPldmRequestUpdate binding inst) := rfl
theorem exec_pldmPassComponents (binding inst : Nat) (s : State) : exec (.pldmPassComponents binding inst) s = guarded (Instr.pldmPassComponents binding inst).wf s (doPldmPassComponents binding inst) := rfl
theorem exec_pldmUpdateComponent (binding inst length : Nat) (s : State) : exec (.pldmUpdateComponent binding inst length) s = guarded (Instr.pldmUpdateComponent binding inst length).wf s (doPldmUpdateComponent binding inst length) := rfl
theorem exec_pldmFirmwareData (data : List Byte) (s : State) : exec (.pldmFirmwareData data) s = guarded (Instr.pldmFirmwareData data).wf s (doPldmFirmwareData data) := rfl
theorem exec_pldmActivate (binding inst : Nat) (s : State) : exec (.pldmActivate binding inst) s = guarded (Instr.pldmActivate binding inst).wf s (doPldmActivate binding inst) := rfl
theorem exec_pldmGetStatus (binding inst : Nat) (s : State) : exec (.pldmGetStatus binding inst) s = guarded (Instr.pldmGetStatus binding inst).wf s (doPldmGetStatus binding inst) := rfl
theorem exec_pldmCancel (binding inst : Nat) (s : State) : exec (.pldmCancel binding inst) s = guarded (Instr.pldmCancel binding inst).wf s (doPldmCancel binding inst) := rfl
theorem exec_almFreeze (key : Nat) (s : State) : exec (.almFreeze key) s = guarded (Instr.almFreeze key).wf s (doAlmFreeze key) := rfl
theorem exec_almFreezeComplete (s : State) : exec .almFreezeComplete s = guarded Instr.almFreezeComplete.wf s doAlmFreezeComplete := rfl
theorem exec_perstRelease (b : BootIn) (s : State) : exec (.perstRelease b) s = guarded (Instr.perstRelease b).wf s (doPerstRelease b) := rfl
theorem exec_feedRise (feed mv : Nat) (s : State) : exec (.feedRise feed mv) s = guarded (Instr.feedRise feed mv).wf s (doFeedRise feed mv) := rfl
theorem exec_hotSwapConnect (feed : Nat) (s : State) : exec (.hotSwapConnect feed) s = guarded (Instr.hotSwapConnect feed).wf s (doHotSwapConnect feed) := rfl
theorem exec_i3cBusReset (s : State) : exec .i3cBusReset s = guarded Instr.i3cBusReset.wf s doI3cBusReset := rfl
theorem exec_rdmaInvalid (q : Rdma) (s : State) : exec (.rdmaInvalid q) s = guarded (Instr.rdmaInvalid q).wf s (doRdmaInvalid q) := rfl
theorem exec_ownerDone (ok : Bool) (s : State) : exec (.ownerDone ok) s = guarded (Instr.ownerDone ok).wf s (doOwnerDone ok) := rfl

end Sys2Proof.Machine
end

