-- ==== Sys2Proof/Laws/PerInstr.lean ====
section
/-! SUPPORT. One family over all commands: a command acts exactly when it is well formed, as syntax tells, and then by one function of the
state; a command that is not well formed stops. One lemma per constructor. -/
namespace Sys2Proof.Laws
open Sys2Proof.Machine

/-- What a command does is one effect on the state, held back only by its well-formedness, which the syntax alone decides. -/
def Guarded.Statement (i : Instr) : Prop := ∃ f : State → State, ∀ s, exec i s = guarded i.wf s f

theorem Guarded.powerOn (feed : Nat) (b : BootIn) : Guarded.Statement (.powerOn feed b) := ⟨_, fun _ => rfl⟩
theorem Guarded.perstAssert (ns : Nat) : Guarded.Statement (.perstAssert ns) := ⟨_, fun _ => rfl⟩
theorem Guarded.pcieHotReset : Guarded.Statement .pcieHotReset := ⟨_, fun _ => rfl⟩
theorem Guarded.pcieLinkLoss : Guarded.Statement .pcieLinkLoss := ⟨_, fun _ => rfl⟩
theorem Guarded.strapChange (level : Nat) : Guarded.Statement (.strapChange level) := ⟨_, fun _ => rfl⟩
theorem Guarded.vfEnable (vfs : Nat) : Guarded.Statement (.vfEnable vfs) := ⟨_, fun _ => rfl⟩
theorem Guarded.flrVf (v : Nat) : Guarded.Statement (.flrVf v) := ⟨_, fun _ => rfl⟩
theorem Guarded.flrPf : Guarded.Statement .flrPf := ⟨_, fun _ => rfl⟩
theorem Guarded.d3hotEntry (fn : Nat) : Guarded.Statement (.d3hotEntry fn) := ⟨_, fun _ => rfl⟩
theorem Guarded.d0Return (fn : Nat) (env : Env) : Guarded.Statement (.d0Return fn env) := ⟨_, fun _ => rfl⟩
theorem Guarded.ideIntegrityFailure (stream : Nat) : Guarded.Statement (.ideIntegrityFailure stream) := ⟨_, fun _ => rfl⟩
theorem Guarded.bar2Read (off len : Nat) (env : Env) : Guarded.Statement (.bar2Read off len env) := ⟨_, fun _ => rfl⟩
theorem Guarded.bar2Write (off : Nat) (data : List Byte) (env : Env) : Guarded.Statement (.bar2Write off data env) := ⟨_, fun _ => rfl⟩
theorem Guarded.remapNvmWrite (col entry : Nat) : Guarded.Statement (.remapNvmWrite col entry) := ⟨_, fun _ => rfl⟩
theorem Guarded.counterLoRead (fn addr : Nat) : Guarded.Statement (.counterLoRead fn addr) := ⟨_, fun _ => rfl⟩
theorem Guarded.registerWrite (fn addr : Nat) (v : Word) (env : Env) : Guarded.Statement (.registerWrite fn addr v env) := ⟨_, fun _ => rfl⟩
theorem Guarded.ctxBind (fn idx : Nat) (v : Word) : Guarded.Statement (.ctxBind fn idx v) := ⟨_, fun _ => rfl⟩
theorem Guarded.ctxEnable (fn idx : Nat) (irqEn : Bool) : Guarded.Statement (.ctxEnable fn idx irqEn) := ⟨_, fun _ => rfl⟩
theorem Guarded.ctxDisable (fn idx : Nat) (irqEn : Bool) : Guarded.Statement (.ctxDisable fn idx irqEn) := ⟨_, fun _ => rfl⟩
theorem Guarded.contextReset (fn idx : Nat) : Guarded.Statement (.contextReset fn idx) := ⟨_, fun _ => rfl⟩
theorem Guarded.dbSqTail (fn idx : Nat) (v : Word) : Guarded.Statement (.dbSqTail fn idx v) := ⟨_, fun _ => rfl⟩
theorem Guarded.dbCqHead (fn idx : Nat) (v : Word) : Guarded.Statement (.dbCqHead fn idx v) := ⟨_, fun _ => rfl⟩
theorem Guarded.descriptorFetch (ctx : Nat) (env : Env) : Guarded.Statement (.descriptorFetch ctx env) := ⟨_, fun _ => rfl⟩
theorem Guarded.commandCommit (id : Nat) (env : Env) : Guarded.Statement (.commandCommit id env) := ⟨_, fun _ => rfl⟩
theorem Guarded.irqHoldExpiry (ctx : Nat) : Guarded.Statement (.irqHoldExpiry ctx) := ⟨_, fun _ => rfl⟩
theorem Guarded.gemm (id : Nat) (env : Env) : Guarded.Statement (.gemm id env) := ⟨_, fun _ => rfl⟩
theorem Guarded.conv (id : Nat) (env : Env) : Guarded.Statement (.conv id env) := ⟨_, fun _ => rfl⟩
theorem Guarded.elementwise (id : Nat) (env : Env) : Guarded.Statement (.elementwise id env) := ⟨_, fun _ => rfl⟩
theorem Guarded.passStart (core : Nat) (env : Env) : Guarded.Statement (.passStart core env) := ⟨_, fun _ => rfl⟩
theorem Guarded.drainComplete (core : Nat) (defects : List Defect) (env : Env) : Guarded.Statement (.drainComplete core defects env) := ⟨_, fun _ => rfl⟩
theorem Guarded.shadowSampleEnd (core : Nat) : Guarded.Statement (.shadowSampleEnd core) := ⟨_, fun _ => rfl⟩
theorem Guarded.attnFwd (id : Nat) (env : Env) : Guarded.Statement (.attnFwd id env) := ⟨_, fun _ => rfl⟩
theorem Guarded.attnCombine (id : Nat) (env : Env) : Guarded.Statement (.attnCombine id env) := ⟨_, fun _ => rfl⟩
theorem Guarded.attnBwd (id : Nat) (env : Env) : Guarded.Statement (.attnBwd id env) := ⟨_, fun _ => rfl⟩
theorem Guarded.kvRegister (id : Nat) (env : Env) : Guarded.Statement (.kvRegister id env) := ⟨_, fun _ => rfl⟩
theorem Guarded.kvRelease (id : Nat) (env : Env) : Guarded.Statement (.kvRelease id env) := ⟨_, fun _ => rfl⟩
theorem Guarded.kvActivate (id : Nat) (env : Env) : Guarded.Statement (.kvActivate id env) := ⟨_, fun _ => rfl⟩
theorem Guarded.kvDeactivate (id : Nat) (env : Env) : Guarded.Statement (.kvDeactivate id env) := ⟨_, fun _ => rfl⟩
theorem Guarded.kvFork (id : Nat) (env : Env) : Guarded.Statement (.kvFork id env) := ⟨_, fun _ => rfl⟩
theorem Guarded.kvTruncate (id : Nat) (env : Env) : Guarded.Statement (.kvTruncate id env) := ⟨_, fun _ => rfl⟩
theorem Guarded.kvSetFormat (id : Nat) (env : Env) : Guarded.Statement (.kvSetFormat id env) := ⟨_, fun _ => rfl⟩
theorem Guarded.kvPublish (id : Nat) (env : Env) : Guarded.Statement (.kvPublish id env) := ⟨_, fun _ => rfl⟩
theorem Guarded.kvEvict (id : Nat) (env : Env) : Guarded.Statement (.kvEvict id env) := ⟨_, fun _ => rfl⟩
theorem Guarded.kvRef (id : Nat) (env : Env) : Guarded.Statement (.kvRef id env) := ⟨_, fun _ => rfl⟩
theorem Guarded.kvFree (id : Nat) (env : Env) : Guarded.Statement (.kvFree id env) := ⟨_, fun _ => rfl⟩
theorem Guarded.prefixLookup (id : Nat) (env : Env) : Guarded.Statement (.prefixLookup id env) := ⟨_, fun _ => rfl⟩
theorem Guarded.copyOnWriteEnd (polder new : Nat) (env : Env) : Guarded.Statement (.copyOnWriteEnd polder new env) := ⟨_, fun _ => rfl⟩
theorem Guarded.optStep (id : Nat) (env : Env) : Guarded.Statement (.optStep id env) := ⟨_, fun _ => rfl⟩
theorem Guarded.allReduce (id : Nat) (env : Env) : Guarded.Statement (.allReduce id env) := ⟨_, fun _ => rfl⟩
theorem Guarded.reduceScatter (id : Nat) (env : Env) : Guarded.Statement (.reduceScatter id env) := ⟨_, fun _ => rfl⟩
theorem Guarded.allGather (id : Nat) (env : Env) : Guarded.Statement (.allGather id env) := ⟨_, fun _ => rfl⟩
theorem Guarded.broadcast (id : Nat) (env : Env) : Guarded.Statement (.broadcast id env) := ⟨_, fun _ => rfl⟩
theorem Guarded.signVote (id : Nat) (env : Env) : Guarded.Statement (.signVote id env) := ⟨_, fun _ => rfl⟩
theorem Guarded.nbuRun (id : Nat) (env : Env) : Guarded.Statement (.nbuRun id env) := ⟨_, fun _ => rfl⟩
theorem Guarded.nbuDispatch (id : Nat) : Guarded.Statement (.nbuDispatch id) := ⟨_, fun _ => rfl⟩
theorem Guarded.nbuSequenceEnd (col bank : Nat) : Guarded.Statement (.nbuSequenceEnd col bank) := ⟨_, fun _ => rfl⟩
theorem Guarded.nbuEnd (col bank : Nat) : Guarded.Statement (.nbuEnd col bank) := ⟨_, fun _ => rfl⟩
theorem Guarded.nbuLd (col bank : Nat) (env : Env) : Guarded.Statement (.nbuLd col bank env) := ⟨_, fun _ => rfl⟩
theorem Guarded.nbuSt (col bank : Nat) (env : Env) : Guarded.Statement (.nbuSt col bank env) := ⟨_, fun _ => rfl⟩
theorem Guarded.nbuFma (col bank : Nat) : Guarded.Statement (.nbuFma col bank) := ⟨_, fun _ => rfl⟩
theorem Guarded.nbuMul (col bank : Nat) : Guarded.Statement (.nbuMul col bank) := ⟨_, fun _ => rfl⟩
theorem Guarded.nbuAdd (col bank : Nat) : Guarded.Statement (.nbuAdd col bank) := ⟨_, fun _ => rfl⟩
theorem Guarded.nbuMax (col bank : Nat) : Guarded.Statement (.nbuMax col bank) := ⟨_, fun _ => rfl⟩
theorem Guarded.nbuScale (col bank : Nat) : Guarded.Statement (.nbuScale col bank) := ⟨_, fun _ => rfl⟩
theorem Guarded.nbuSgn (col bank : Nat) : Guarded.Statement (.nbuSgn col bank) := ⟨_, fun _ => rfl⟩
theorem Guarded.nbuClip (col bank : Nat) : Guarded.Statement (.nbuClip col bank) := ⟨_, fun _ => rfl⟩
theorem Guarded.nbuExp (col bank : Nat) : Guarded.Statement (.nbuExp col bank) := ⟨_, fun _ => rfl⟩
theorem Guarded.nbuHsum (col bank : Nat) : Guarded.Statement (.nbuHsum col bank) := ⟨_, fun _ => rfl⟩
theorem Guarded.nbuHmax (col bank : Nat) : Guarded.Statement (.nbuHmax col bank) := ⟨_, fun _ => rfl⟩
theorem Guarded.nbuArg (col bank : Nat) : Guarded.Statement (.nbuArg col bank) := ⟨_, fun _ => rfl⟩
theorem Guarded.nbuPset (col bank : Nat) : Guarded.Statement (.nbuPset col bank) := ⟨_, fun _ => rfl⟩
theorem Guarded.nbuPadd (col bank : Nat) : Guarded.Statement (.nbuPadd col bank) := ⟨_, fun _ => rfl⟩
theorem Guarded.nbuParg (col bank : Nat) : Guarded.Statement (.nbuParg col bank) := ⟨_, fun _ => rfl⟩
theorem Guarded.nbuLset (col bank : Nat) : Guarded.Statement (.nbuLset col bank) := ⟨_, fun _ => rfl⟩
theorem Guarded.nbuLoop (col bank : Nat) : Guarded.Statement (.nbuLoop col bank) := ⟨_, fun _ => rfl⟩
theorem Guarded.nbuBrlt (col bank : Nat) : Guarded.Statement (.nbuBrlt col bank) := ⟨_, fun _ => rfl⟩
theorem Guarded.nbuJmp (col bank : Nat) : Guarded.Statement (.nbuJmp col bank) := ⟨_, fun _ => rfl⟩
theorem Guarded.dma (id : Nat) (env : Env) : Guarded.Statement (.dma id env) := ⟨_, fun _ => rfl⟩
theorem Guarded.fence (id : Nat) : Guarded.Statement (.fence id) := ⟨_, fun _ => rfl⟩
theorem Guarded.counterAdd (id : Nat) : Guarded.Statement (.counterAdd id) := ⟨_, fun _ => rfl⟩
theorem Guarded.counterWaitGe (id : Nat) : Guarded.Statement (.counterWaitGe id) := ⟨_, fun _ => rfl⟩
theorem Guarded.harvest (id : Nat) (env : Env) : Guarded.Statement (.harvest id env) := ⟨_, fun _ => rfl⟩
theorem Guarded.restore (id : Nat) (env : Env) : Guarded.Statement (.restore id env) := ⟨_, fun _ => rfl⟩
theorem Guarded.parityRebuild (id : Nat) (env : Env) : Guarded.Statement (.parityRebuild id env) := ⟨_, fun _ => rfl⟩
theorem Guarded.abort (id : Nat) : Guarded.Statement (.abort id) := ⟨_, fun _ => rfl⟩
theorem Guarded.abortOverrun (id : Nat) : Guarded.Statement (.abortOverrun id) := ⟨_, fun _ => rfl⟩
theorem Guarded.testArray (id : Nat) (bad : Option (Nat × Nat)) : Guarded.Statement (.testArray id bad) := ⟨_, fun _ => rfl⟩
theorem Guarded.testVector (id : Nat) (bad : Option Nat) : Guarded.Statement (.testVector id bad) := ⟨_, fun _ => rfl⟩
theorem Guarded.testSramScrub (id : Nat) (env : Env) : Guarded.Statement (.testSramScrub id env) := ⟨_, fun _ => rfl⟩
theorem Guarded.testMemCal (id : Nat) : Guarded.Statement (.testMemCal id) := ⟨_, fun _ => rfl⟩
theorem Guarded.testFabRetrain (id : Nat) : Guarded.Statement (.testFabRetrain id) := ⟨_, fun _ => rfl⟩
theorem Guarded.selftestDeadline (id : Nat) : Guarded.Statement (.selftestDeadline id) := ⟨_, fun _ => rfl⟩
theorem Guarded.mbxSet : Guarded.Statement .mbxSet := ⟨_, fun _ => rfl⟩
theorem Guarded.mbxGet : Guarded.Statement .mbxGet := ⟨_, fun _ => rfl⟩
theorem Guarded.mbxStore : Guarded.Statement .mbxStore := ⟨_, fun _ => rfl⟩
theorem Guarded.storeComplete (ok : Bool) : Guarded.Statement (.storeComplete ok) := ⟨_, fun _ => rfl⟩
theorem Guarded.mbxRevert : Guarded.Statement .mbxRevert := ⟨_, fun _ => rfl⟩
theorem Guarded.mbxDefaults : Guarded.Statement .mbxDefaults := ⟨_, fun _ => rfl⟩
theorem Guarded.mbxQuiesce : Guarded.Statement .mbxQuiesce := ⟨_, fun _ => rfl⟩
theorem Guarded.drainDeadline (polder : Nat) : Guarded.Statement (.drainDeadline polder) := ⟨_, fun _ => rfl⟩
theorem Guarded.polderStopped (polder : Nat) : Guarded.Statement (.polderStopped polder) := ⟨_, fun _ => rfl⟩
theorem Guarded.mbxResume : Guarded.Statement .mbxResume := ⟨_, fun _ => rfl⟩
theorem Guarded.imgGo (src : Nat) : Guarded.Statement (.imgGo src) := ⟨_, fun _ => rfl⟩
theorem Guarded.imgAbort : Guarded.Statement .imgAbort := ⟨_, fun _ => rfl⟩
theorem Guarded.imgSrc (src : Nat) : Guarded.Statement (.imgSrc src) := ⟨_, fun _ => rfl⟩
theorem Guarded.imgPortWrite (data : List Byte) (env : Env) : Guarded.Statement (.imgPortWrite data env) := ⟨_, fun _ => rfl⟩
theorem Guarded.imageCopyDone (env : Env) : Guarded.Statement (.imageCopyDone env) := ⟨_, fun _ => rfl⟩
theorem Guarded.imageValidationDone (env : Env) : Guarded.Statement (.imageValidationDone env) := ⟨_, fun _ => rfl⟩
theorem Guarded.imageCommit : Guarded.Statement .imageCommit := ⟨_, fun _ => rfl⟩
theorem Guarded.memArm (v : Word) : Guarded.Statement (.memArm v) := ⟨_, fun _ => rfl⟩
theorem Guarded.memClrLog (col : Nat) : Guarded.Statement (.memClrLog col) := ⟨_, fun _ => rfl⟩
theorem Guarded.memClrCounts (col : Nat) : Guarded.Statement (.memClrCounts col) := ⟨_, fun _ => rfl⟩
theorem Guarded.memAppend : Guarded.Statement .memAppend := ⟨_, fun _ => rfl⟩
theorem Guarded.retireAppendDone (ok : Bool) : Guarded.Statement (.retireAppendDone ok) := ⟨_, fun _ => rfl⟩
theorem Guarded.arrClrCounters (core : Nat) : Guarded.Statement (.arrClrCounters core) := ⟨_, fun _ => rfl⟩
theorem Guarded.precClr (core : Nat) : Guarded.Statement (.precClr core) := ⟨_, fun _ => rfl⟩
theorem Guarded.precClear (polder : Nat) : Guarded.Statement (.precClear polder) := ⟨_, fun _ => rfl⟩
theorem Guarded.patrolScrub (col : Nat) (env : Env) : Guarded.Statement (.patrolScrub col env) := ⟨_, fun _ => rfl⟩
theorem Guarded.refreshDue (col bank : Nat) : Guarded.Statement (.refreshDue col bank) := ⟨_, fun _ => rfl⟩
theorem Guarded.memCalibrationDue (col : Nat) : Guarded.Statement (.memCalibrationDue col) := ⟨_, fun _ => rfl⟩
theorem Guarded.memCalibrationDone (col : Nat) : Guarded.Statement (.memCalibrationDone col) := ⟨_, fun _ => rfl⟩
theorem Guarded.vigilExpiry (id : Nat) : Guarded.Statement (.vigilExpiry id) := ⟨_, fun _ => rfl⟩
theorem Guarded.stopOverrun (id unitKind unit : Nat) : Guarded.Statement (.stopOverrun id unitKind unit) := ⟨_, fun _ => rfl⟩
theorem Guarded.engineReset (core : Nat) : Guarded.Statement (.engineReset core) := ⟨_, fun _ => rfl⟩
theorem Guarded.polderReset (polder : Nat) : Guarded.Statement (.polderReset polder) := ⟨_, fun _ => rfl⟩
theorem Guarded.chipReset (key : Nat) : Guarded.Statement (.chipReset key) := ⟨_, fun _ => rfl⟩
theorem Guarded.moduleReset (key : Nat) : Guarded.Statement (.moduleReset key) := ⟨_, fun _ => rfl⟩
theorem Guarded.powerCycleRequest (key : Nat) : Guarded.Statement (.powerCycleRequest key) := ⟨_, fun _ => rfl⟩
theorem Guarded.powerCycleRepeat : Guarded.Statement .powerCycleRepeat := ⟨_, fun _ => rfl⟩
theorem Guarded.sluiceClose (level unit : Nat) : Guarded.Statement (.sluiceClose level unit) := ⟨_, fun _ => rfl⟩
theorem Guarded.resetComplete (level unit : Nat) (b : BootIn) : Guarded.Statement (.resetComplete level unit b) := ⟨_, fun _ => rfl⟩
theorem Guarded.resetOverrun (level unit : Nat) : Guarded.Statement (.resetOverrun level unit) := ⟨_, fun _ => rfl⟩
theorem Guarded.feedLost (feed mv : Nat) : Guarded.Statement (.feedLost feed mv) := ⟨_, fun _ => rfl⟩
theorem Guarded.feedRejoin (feed mv : Nat) : Guarded.Statement (.feedRejoin feed mv) := ⟨_, fun _ => rfl⟩
theorem Guarded.pwrHoldup : Guarded.Statement .pwrHoldup := ⟨_, fun _ => rfl⟩
theorem Guarded.pwrPhaseFail (cluster phase : Nat) : Guarded.Statement (.pwrPhaseFail cluster phase) := ⟨_, fun _ => rfl⟩
theorem Guarded.powerSample (r : PowerReading) : Guarded.Statement (.powerSample r) := ⟨_, fun _ => rfl⟩
theorem Guarded.rampStart (cluster mask : Nat) : Guarded.Statement (.rampStart cluster mask) := ⟨_, fun _ => rfl⟩
theorem Guarded.rampRetry (cluster : Nat) : Guarded.Statement (.rampRetry cluster) := ⟨_, fun _ => rfl⟩
theorem Guarded.rampForcedAdmit (cluster : Nat) : Guarded.Statement (.rampForcedAdmit cluster) := ⟨_, fun _ => rfl⟩
theorem Guarded.rampDensityStep (cluster : Nat) : Guarded.Statement (.rampDensityStep cluster) := ⟨_, fun _ => rfl⟩
theorem Guarded.rampTargetRaise (cluster : Nat) : Guarded.Statement (.rampTargetRaise cluster) := ⟨_, fun _ => rfl⟩
theorem Guarded.halfStandby (half : Nat) : Guarded.Statement (.halfStandby half) := ⟨_, fun _ => rfl⟩
theorem Guarded.halfAsleep (half : Nat) : Guarded.Statement (.halfAsleep half) := ⟨_, fun _ => rfl⟩
theorem Guarded.ceilingUpdate (core margin : Nat) : Guarded.Statement (.ceilingUpdate core margin) := ⟨_, fun _ => rfl⟩
theorem Guarded.powerGrant (binding inst watts leaseMs : Nat) : Guarded.Statement (.powerGrant binding inst watts leaseMs) := ⟨_, fun _ => rfl⟩
theorem Guarded.grantFrame (f : Rx) : Guarded.Statement (.grantFrame f) := ⟨_, fun _ => rfl⟩
theorem Guarded.grantLapse : Guarded.Statement .grantLapse := ⟨_, fun _ => rfl⟩
theorem Guarded.slackWindowEnd (slack : Nat) : Guarded.Statement (.slackWindowEnd slack) := ⟨_, fun _ => rfl⟩
theorem Guarded.slackFrame (f : Rx) : Guarded.Statement (.slackFrame f) := ⟨_, fun _ => rfl⟩
theorem Guarded.grantRedistribution : Guarded.Statement .grantRedistribution := ⟨_, fun _ => rfl⟩
theorem Guarded.heatMeterUpdate : Guarded.Statement .heatMeterUpdate := ⟨_, fun _ => rfl⟩
theorem Guarded.heatMismatch : Guarded.Statement .heatMismatch := ⟨_, fun _ => rfl⟩
theorem Guarded.thermalSample (r : ThermReading) : Guarded.Statement (.thermalSample r) := ⟨_, fun _ => rfl⟩
theorem Guarded.thermalStep (half : Bool) (n : Nat) : Guarded.Statement (.thermalStep half n) := ⟨_, fun _ => rfl⟩
theorem Guarded.memDutyStep (ml : Nat) : Guarded.Statement (.memDutyStep ml) := ⟨_, fun _ => rfl⟩
theorem Guarded.thermalModelUpdate (watts : List Nat) : Guarded.Statement (.thermalModelUpdate watts) := ⟨_, fun _ => rfl⟩
theorem Guarded.thmModel (layer : Nat) : Guarded.Statement (.thmModel layer) := ⟨_, fun _ => rfl⟩
theorem Guarded.thmSuspect (layer : Nat) : Guarded.Statement (.thmSuspect layer) := ⟨_, fun _ => rfl⟩
theorem Guarded.modelRelease (layer : Nat) : Guarded.Statement (.modelRelease layer) := ⟨_, fun _ => rfl⟩
theorem Guarded.coolantSample (r : List CoolantReading) : Guarded.Statement (.coolantSample r) := ⟨_, fun _ => rfl⟩
theorem Guarded.flowLimitUpdate : Guarded.Statement .flowLimitUpdate := ⟨_, fun _ => rfl⟩
theorem Guarded.outletReductionStep : Guarded.Statement .outletReductionStep := ⟨_, fun _ => rfl⟩
theorem Guarded.cltRestart : Guarded.Statement .cltRestart := ⟨_, fun _ => rfl⟩
theorem Guarded.bondWearSample : Guarded.Statement .bondWearSample := ⟨_, fun _ => rfl⟩
theorem Guarded.bondWearWrite : Guarded.Statement .bondWearWrite := ⟨_, fun _ => rfl⟩
theorem Guarded.portLinkUp (port : Nat) : Guarded.Statement (.portLinkUp port) := ⟨_, fun _ => rfl⟩
theorem Guarded.portLinkDown (port : Nat) : Guarded.Statement (.portLinkDown port) := ⟨_, fun _ => rfl⟩
theorem Guarded.laneRetrainTrigger (port lane : Nat) : Guarded.Statement (.laneRetrainTrigger port lane) := ⟨_, fun _ => rfl⟩
theorem Guarded.laneRetrainStepDone (port : Nat) : Guarded.Statement (.laneRetrainStepDone port) := ⟨_, fun _ => rfl⟩
theorem Guarded.arpRefresh : Guarded.Statement .arpRefresh := ⟨_, fun _ => rfl⟩
theorem Guarded.arpRequest (port target asker mac : Nat) : Guarded.Statement (.arpRequest port target asker mac) := ⟨_, fun _ => rfl⟩
theorem Guarded.icmpEcho (port target asker : Nat) (data : List Byte) : Guarded.Statement (.icmpEcho port target asker data) := ⟨_, fun _ => rfl⟩
theorem Guarded.pauseFrame (port : Nat) : Guarded.Statement (.pauseFrame port) := ⟨_, fun _ => rfl⟩
theorem Guarded.rxDiscard (port : Nat) : Guarded.Statement (.rxDiscard port) := ⟨_, fun _ => rfl⟩
theorem Guarded.fabWrite (f : Rx) (env : Env) : Guarded.Statement (.fabWrite f env) := ⟨_, fun _ => rfl⟩
theorem Guarded.fabReadReq (f : Rx) (env : Env) : Guarded.Statement (.fabReadReq f env) := ⟨_, fun _ => rfl⟩
theorem Guarded.fabReadRsp (f : Rx) (env : Env) : Guarded.Statement (.fabReadRsp f env) := ⟨_, fun _ => rfl⟩
theorem Guarded.fabAck (f : Rx) : Guarded.Statement (.fabAck f) := ⟨_, fun _ => rfl⟩
theorem Guarded.fabNak (f : Rx) : Guarded.Statement (.fabNak f) := ⟨_, fun _ => rfl⟩
theorem Guarded.ackTimer (device : Nat) : Guarded.Statement (.ackTimer device) := ⟨_, fun _ => rfl⟩
theorem Guarded.retransmitTimeout (device : Nat) : Guarded.Statement (.retransmitTimeout device) := ⟨_, fun _ => rfl⟩
theorem Guarded.peerDownRetransmit (device : Nat) : Guarded.Statement (.peerDownRetransmit device) := ⟨_, fun _ => rfl⟩
theorem Guarded.busyRetry (device psn : Nat) : Guarded.Statement (.busyRetry device psn) := ⟨_, fun _ => rfl⟩
theorem Guarded.rateIncrease (device port entry : Nat) : Guarded.Statement (.rateIncrease device port entry) := ⟨_, fun _ => rfl⟩
theorem Guarded.collData (f : Rx) (env : Env) : Guarded.Statement (.collData f env) := ⟨_, fun _ => rfl⟩
theorem Guarded.breachFrame (f : Rx) : Guarded.Statement (.breachFrame f) := ⟨_, fun _ => rfl⟩
theorem Guarded.breachSend (v : Word) : Guarded.Statement (.breachSend v) := ⟨_, fun _ => rfl⟩
theorem Guarded.breachLatchClear (polder : Nat) : Guarded.Statement (.breachLatchClear polder) := ⟨_, fun _ => rfl⟩
theorem Guarded.fabEpValid (ep : Nat) (v : Word) : Guarded.Statement (.fabEpValid ep v) := ⟨_, fun _ => rfl⟩
theorem Guarded.rdmaWrite (q : Rdma) (env : Env) : Guarded.Statement (.rdmaWrite q env) := ⟨_, fun _ => rfl⟩
theorem Guarded.rdmaRead (q : Rdma) (env : Env) : Guarded.Statement (.rdmaRead q env) := ⟨_, fun _ => rfl⟩
theorem Guarded.reckonPeriod : Guarded.Statement .reckonPeriod := ⟨_, fun _ => rfl⟩
theorem Guarded.reckonNow : Guarded.Statement .reckonNow := ⟨_, fun _ => rfl⟩
theorem Guarded.reckonReq (f : Rx) : Guarded.Statement (.reckonReq f) := ⟨_, fun _ => rfl⟩
theorem Guarded.reckonRsp (f : Rx) : Guarded.Statement (.reckonRsp f) := ⟨_, fun _ => rfl⟩
theorem Guarded.reckonDeadline : Guarded.Statement .reckonDeadline := ⟨_, fun _ => rfl⟩
theorem Guarded.casMasterLost : Guarded.Statement .casMasterLost := ⟨_, fun _ => rfl⟩
theorem Guarded.parDelta (f : Rx) (env : Env) : Guarded.Statement (.parDelta f env) := ⟨_, fun _ => rfl⟩
theorem Guarded.parReadReq (f : Rx) (env : Env) : Guarded.Statement (.parReadReq f env) := ⟨_, fun _ => rfl⟩
theorem Guarded.parReadRsp (f : Rx) (env : Env) : Guarded.Statement (.parReadRsp f env) := ⟨_, fun _ => rfl⟩
theorem Guarded.harvReport (f : Rx) : Guarded.Statement (.harvReport f) := ⟨_, fun _ => rfl⟩
theorem Guarded.harvReportPeriod : Guarded.Statement .harvReportPeriod := ⟨_, fun _ => rfl⟩
theorem Guarded.harvAdviseUpdate : Guarded.Statement .harvAdviseUpdate := ⟨_, fun _ => rfl⟩
theorem Guarded.parGrpValid (group : Nat) (v : Word) (env : Env) : Guarded.Statement (.parGrpValid group v env) := ⟨_, fun _ => rfl⟩
theorem Guarded.parGrpLost (group : Nat) (v : Word) : Guarded.Statement (.parGrpLost group v) := ⟨_, fun _ => rfl⟩
theorem Guarded.parGrpDev (group r : Nat) (v : Word) : Guarded.Statement (.parGrpDev group r v) := ⟨_, fun _ => rfl⟩
theorem Guarded.fwOpen : Guarded.Statement .fwOpen := ⟨_, fun _ => rfl⟩
theorem Guarded.fwPortWrite (data : List Byte) : Guarded.Statement (.fwPortWrite data) := ⟨_, fun _ => rfl⟩
theorem Guarded.fwVerify : Guarded.Statement .fwVerify := ⟨_, fun _ => rfl⟩
theorem Guarded.fwVerifyDone : Guarded.Statement .fwVerifyDone := ⟨_, fun _ => rfl⟩
theorem Guarded.fwCommit (key : Nat) : Guarded.Statement (.fwCommit key) := ⟨_, fun _ => rfl⟩
theorem Guarded.fwCommitDone : Guarded.Statement .fwCommitDone := ⟨_, fun _ => rfl⟩
theorem Guarded.fwCancel : Guarded.Statement .fwCancel := ⟨_, fun _ => rfl⟩
theorem Guarded.fwRecover (key : Nat) : Guarded.Statement (.fwRecover key) := ⟨_, fun _ => rfl⟩
theorem Guarded.ownerEnroll : Guarded.Statement .ownerEnroll := ⟨_, fun _ => rfl⟩
theorem Guarded.ownerTransfer (env : Env) : Guarded.Statement (.ownerTransfer env) := ⟨_, fun _ => rfl⟩
theorem Guarded.ownerLock (key : Nat) : Guarded.Statement (.ownerLock key) := ⟨_, fun _ => rfl⟩
theorem Guarded.spdmGetVersion (binding : Nat) (req : List Byte) : Guarded.Statement (.spdmGetVersion binding req) := ⟨_, fun _ => rfl⟩
theorem Guarded.spdmGetCapabilities (binding : Nat) (req : List Byte) : Guarded.Statement (.spdmGetCapabilities binding req) := ⟨_, fun _ => rfl⟩
theorem Guarded.spdmNegotiateAlgorithms (binding : Nat) (req : List Byte) : Guarded.Statement (.spdmNegotiateAlgorithms binding req) := ⟨_, fun _ => rfl⟩
theorem Guarded.spdmGetDigests (binding : Nat) (req : List Byte) : Guarded.Statement (.spdmGetDigests binding req) := ⟨_, fun _ => rfl⟩
theorem Guarded.spdmGetCertificate (binding slot off len : Nat) : Guarded.Statement (.spdmGetCertificate binding slot off len) := ⟨_, fun _ => rfl⟩
theorem Guarded.spdmChallenge (binding : Nat) (req : List Byte) : Guarded.Statement (.spdmChallenge binding req) := ⟨_, fun _ => rfl⟩
theorem Guarded.spdmGetMeasurements (binding index : Nat) (req : List Byte) : Guarded.Statement (.spdmGetMeasurements binding index req) := ⟨_, fun _ => rfl⟩
theorem Guarded.spdmKeyExchange (binding : Nat) (req : List Byte) : Guarded.Statement (.spdmKeyExchange binding req) := ⟨_, fun _ => rfl⟩
theorem Guarded.spdmFinish (binding session : Nat) (req : List Byte) : Guarded.Statement (.spdmFinish binding session req) := ⟨_, fun _ => rfl⟩
theorem Guarded.spdmHeartbeat (binding session : Nat) : Guarded.Statement (.spdmHeartbeat binding session) := ⟨_, fun _ => rfl⟩
theorem Guarded.spdmKeyUpdate (binding session : Nat) : Guarded.Statement (.spdmKeyUpdate binding session) := ⟨_, fun _ => rfl⟩
theorem Guarded.spdmEndSession (binding session : Nat) : Guarded.Statement (.spdmEndSession binding session) := ⟨_, fun _ => rfl⟩
theorem Guarded.ideKm (session stream : Nat) (active : Bool) : Guarded.Statement (.ideKm session stream active) := ⟨_, fun _ => rfl⟩
theorem Guarded.mctpSetEid (binding src eid : Nat) : Guarded.Statement (.mctpSetEid binding src eid) := ⟨_, fun _ => rfl⟩
theorem Guarded.mctpGetEid (binding : Nat) : Guarded.Statement (.mctpGetEid binding) := ⟨_, fun _ => rfl⟩
theorem Guarded.mctpGetUuid (binding : Nat) : Guarded.Statement (.mctpGetUuid binding) := ⟨_, fun _ => rfl⟩
theorem Guarded.mctpGetVersion (binding type : Nat) : Guarded.Statement (.mctpGetVersion binding type) := ⟨_, fun _ => rfl⟩
theorem Guarded.mctpGetTypes (binding : Nat) : Guarded.Statement (.mctpGetTypes binding) := ⟨_, fun _ => rfl⟩
theorem Guarded.mctpGetVendor (binding : Nat) : Guarded.Statement (.mctpGetVendor binding) := ⟨_, fun _ => rfl⟩
theorem Guarded.mctpMailbox (binding inst op a0 a1 a2 : Nat) : Guarded.Statement (.mctpMailbox binding inst op a0 a1 a2) := ⟨_, fun _ => rfl⟩
theorem Guarded.mctpAlmRead (binding inst source first count : Nat) : Guarded.Statement (.mctpAlmRead binding inst source first count) := ⟨_, fun _ => rfl⟩
theorem Guarded.mctpAlmFreeze (binding inst : Nat) : Guarded.Statement (.mctpAlmFreeze binding inst) := ⟨_, fun _ => rfl⟩
theorem Guarded.mctpHeatReport (binding inst : Nat) : Guarded.Statement (.mctpHeatReport binding inst) := ⟨_, fun _ => rfl⟩
theorem Guarded.pldmGetTid (binding inst : Nat) : Guarded.Statement (.pldmGetTid binding inst) := ⟨_, fun _ => rfl⟩
theorem Guarded.pldmGetVersion (binding inst type : Nat) : Guarded.Statement (.pldmGetVersion binding inst type) := ⟨_, fun _ => rfl⟩
theorem Guarded.pldmGetTypes (binding inst : Nat) : Guarded.Statement (.pldmGetTypes binding inst) := ⟨_, fun _ => rfl⟩
theorem Guarded.pldmGetCommands (binding inst type : Nat) : Guarded.Statement (.pldmGetCommands binding inst type) := ⟨_, fun _ => rfl⟩
theorem Guarded.pldmGetPdrInfo (binding inst : Nat) : Guarded.Statement (.pldmGetPdrInfo binding inst) := ⟨_, fun _ => rfl⟩
theorem Guarded.pldmGetPdr (binding inst record : Nat) : Guarded.Statement (.pldmGetPdr binding inst record) := ⟨_, fun _ => rfl⟩
theorem Guarded.pldmGetSensor (binding inst sensor : Nat) : Guarded.Statement (.pldmGetSensor binding inst sensor) := ⟨_, fun _ => rfl⟩
theorem Guarded.pldmSetReceiver (binding inst eid : Nat) : Guarded.Statement (.pldmSetReceiver binding inst eid) := ⟨_, fun _ => rfl⟩
theorem Guarded.pldmQueryDevice (binding inst : Nat) : Guarded.Statement (.pldmQueryDevice binding inst) := ⟨_, fun _ => rfl⟩
theorem Guarded.pldmGetFwParams (binding inst : Nat) : Guarded.Statement (.pldmGetFwParams binding inst) := ⟨_, fun _ => rfl⟩
theorem Guarded.pldmRequestUpdate (binding inst : Nat) : Guarded.Statement (.pldmRequestUpdate binding inst) := ⟨_, fun _ => rfl⟩
theorem Guarded.pldmPassComponents (binding inst : Nat) : Guarded.Statement (.pldmPassComponents binding inst) := ⟨_, fun _ => rfl⟩
theorem Guarded.pldmUpdateComponent (binding inst length : Nat) : Guarded.Statement (.pldmUpdateComponent binding inst length) := ⟨_, fun _ => rfl⟩
theorem Guarded.pldmFirmwareData (data : List Byte) : Guarded.Statement (.pldmFirmwareData data) := ⟨_, fun _ => rfl⟩
theorem Guarded.pldmActivate (binding inst : Nat) : Guarded.Statement (.pldmActivate binding inst) := ⟨_, fun _ => rfl⟩
theorem Guarded.pldmGetStatus (binding inst : Nat) : Guarded.Statement (.pldmGetStatus binding inst) := ⟨_, fun _ => rfl⟩
theorem Guarded.pldmCancel (binding inst : Nat) : Guarded.Statement (.pldmCancel binding inst) := ⟨_, fun _ => rfl⟩
theorem Guarded.almFreeze (key : Nat) : Guarded.Statement (.almFreeze key) := ⟨_, fun _ => rfl⟩
theorem Guarded.almFreezeComplete : Guarded.Statement .almFreezeComplete := ⟨_, fun _ => rfl⟩
theorem Guarded.perstRelease (b : BootIn) : Guarded.Statement (.perstRelease b) := ⟨_, fun _ => rfl⟩
theorem Guarded.feedRise (feed mv : Nat) : Guarded.Statement (.feedRise feed mv) := ⟨_, fun _ => rfl⟩
theorem Guarded.hotSwapConnect (feed : Nat) : Guarded.Statement (.hotSwapConnect feed) := ⟨_, fun _ => rfl⟩
theorem Guarded.i3cBusReset : Guarded.Statement .i3cBusReset := ⟨_, fun _ => rfl⟩
theorem Guarded.rdmaInvalid (q : Rdma) : Guarded.Statement (.rdmaInvalid q) := ⟨_, fun _ => rfl⟩
theorem Guarded.ownerDone (ok : Bool) : Guarded.Statement (.ownerDone ok) := ⟨_, fun _ => rfl⟩

end Sys2Proof.Laws
end

