-- ==== Sys2Proof/Tests/Slice0.lean ====
section
/-! SUPPORT. Small tests of the model, each with its source in the manual, and for the hypotheses of every statement a theorem that shows a
concrete state and operands that meet them. -/
namespace Sys2Proof.Tests
open Sys2Proof Sys2Proof.Machine
set_option maxRecDepth 20000
set_option Elab.async false

/-! ### States to test on -/

/-- Surroundings that bring nothing. -/
def env0 : Env := ⟨[], [], [], [], [], none⟩
/-- Bring-up without a failure. -/
def boot0 : BootIn := ⟨[], [], false, true, 0⟩
/-- The state after reset. -/
def r0 : State := State.reset
/-- A module without a feed. -/
def dark : State := { r0 with power := { r0.power with feedA := .absent, feedB := .absent } }
/-- The state after reset, later. -/
def late (t : Nat) : State := { r0 with tick := t }
/-- Binding 1 has an endpoint identifier. -/
def told : State := { r0 with mctp := { r0.mctp with eidPcie := 9 } }
/-- A descriptor from its fields, each as offset, size and value. -/
def descOf (fs : List (Nat × Nat × Nat)) : Desc := BitVec.ofNat 512 (fs.foldl (fun a f => a + 2 ^ (8 * f.1) * (f.2.2 % 2 ^ (8 * f.2.1))) 0)
/-- A waiting command of context 0 with its opcode and further fields of its descriptor. -/
def cmdOf (id op : Nat) (fs : List (Nat × Nat × Nat)) : Cmd :=
  ⟨id, 0, id, descOf ((0, 1, op) :: fs), 0, 0, 100000, 0, .waiting, 0, false, none, false, false, false, .none⟩
/-- An image with one polder of one cluster that may use the first two device pages of every column. -/
def image0 : Image :=
  { polders := [⟨0, false, 1, 255⟩], counters := [⟨0, 255, 0, 4, 0⟩], trees := [], grants := [⟨0, 15, 0, 0, 0x400000, 3⟩], formats := [⟨0, 0, 0xFFFF, 0⟩], templates := [⟨1, [1, 0, 0, 0]⟩, ⟨2, [2, 0, 0, 0]⟩, ⟨3, [3, 0, 0, 0, 0, 0, 1]⟩], nbuCode := [⟨5, [0, 0, 0, 0, 0, 0, 0, 0]⟩],
    rules := [⟨0, 0, 1, false, 0x3F800000, 0x3F800000, 0, 0, 0, 0⟩], attn := [⟨0, 4, 8, 4, 4, 4, 64⟩], locals := [], peers := [], cascade := [], power := [], group := false, member := 0, digest := 0, serial := 1 }
/-- An image is in force. -/
def imaged : State := { r0 with image := some image0 }
/-- Commands in flight under that image. -/
def busy (cs : List Cmd) : State := { imaged with cmds := cs, nextId := 100 }
/-- Bytes stand in the block of an offset of column 0. -/
def putMem (s : State) (off : Nat) (bs : List Byte) : State := { s with mem := { s.mem with dram := s.mem.dram.write (dramKey 0 (r0.cellOf 0 off)) bs } }
/-- Column 1 has failed. -/
def broken (s : State) : State := s.setReg (Reg.idMemFailed 0) 2
/-- Whether a run meets no failure. -/
def goes {α : Type} (r : Run α) (s : State) : Bool := match r s with
  | .ok _ _ => true
  | .error _ _ => false

/-- Virtual functions, one of them in D3hot. -/
def virtual : State := { imaged with pcie := { imaged.pcie with vfs := 2, d3 := [2] } }

/-! ### The hypotheses of the statements can be met -/

theorem witness_StepRunsFront : ({ r0 with pending := [Instr.flrPf, Instr.pwrHoldup] } : State).pending = Instr.flrPf :: [Instr.pwrHoldup] := rfl

/-- The rail of cluster 0 at a voltage in 0.1 mV, lower than it since a tick where one is given, on an idle module. -/
def railed (dmv : Nat) (since : Option Nat) (t : Nat) : State := { late t with clocks := { r0.clocks with rails := [(0, ⟨dmv, since⟩)] } }
theorem witness_IdleStepTicks : r0.pending = [] ∧
    (let goal := fun (s : State) => railNeed ((List.range 8).map (fun i => (8 * 0 + i, s.freqWant (8 * 0 + i))))
     ((railed 4998 none 0).rail 0).dmv < goal (railed 4998 none 0) ∧ ((railed 5000 none 0).rail 0).dmv = goal (railed 5000 none 0) ∧
     (goal (railed 5100 none 7) < ((railed 5100 none 7).rail 0).dmv ∧ ((railed 5100 none 7).rail 0).since = none) ∧
     (goal (railed 5100 (some 7) 132) < ((railed 5100 (some 7) 132).rail 0).dmv ∧ ((railed 5100 (some 7) 132).rail 0).since = some 7 ∧
      7 + 125 ≤ (railed 5100 (some 7) 132).tick)) := by decide +kernel

theorem witness_EveryCommandAnswers : (Instr.strapChange 15).wf = true ∧ (Instr.strapChange 16).wf = false := by decide

theorem witness_StepKeepsQueue : queueWf { r0 with pending := [Instr.strapChange 15, Instr.flrPf] } ∧ queueWf r0 := by
  refine ⟨fun c hc => ?_, fun c hc => absurd hc (by simp [r0, State.reset])⟩
  simp at hc
  rcases hc with rfl | rfl <;> rfl

theorem witness_RunsAreSafe : queueWf { r0 with pending := [Instr.vfEnable 63] } := fun c hc => by
  simp at hc; subst hc; rfl

theorem witness_RegistersAndFields : (0 ≤ 0 ∧ 0 < 32) ∧ (31 ≤ 31 ∧ 31 < 32) ∧ (4 ≤ 7 ∧ 7 < 32 ∧ (3 < 4 ∨ 7 < 3) ∧ (8 < 4 ∨ 7 < 8)) := by decide

theorem witness_MemoryReadAfterWrite : SMap.wf (fun _ => (0 : Byte)) [(3, (5 : Byte)), (9, 1)] = true ∧
    SMap.wf (fun _ => (0 : Byte)) ([] : Mem) = true ∧ (∀ j, Mem.byte [] j = Mem.byte [] j) := ⟨by decide, by decide, fun _ => rfl⟩

theorem witness_BlockReadAfterWrite : r0.colFailed 255 = false ∧ r0.flipArmed 255 = false ∧ (r0.blockErr 255 0x2FFFFFC0).hard = 0 ∧
    (List.replicate 64 (7 : Byte)).length = 64 ∧ dramKey 255 (0x2FFFFFC0 / 64 * 64) + 64 ≤ dramKey 256 0 := by decide +kernel

theorem witness_EventEntersRing : r0.recovery = false ∧ 0 < r0.stage ∧ r0.alm.freeze = none := by decide +kernel

theorem witness_PowerAndPins : (1 < 2 ∧ dark.powered = false) ∧
    ({ r0 with pcie := { r0.pcie with bring := some true } } : State).pcie.bring = some true ∧ r0.pcie.bring = none ∧
    (3 ≠ r0.fld Reg.idSideband 3 0 ∧ 3 < 16) := by decide +kernel

theorem witness_PerstAssertion : 999 < 1000 ∧ (1000 ≤ 1000 ∧ r0.powered = true ∧ r0.pins.perst = false ∧ r0.pcie.bring = none) ∧
    dark.powered = false := by decide +kernel

theorem witness_ResetRequests : (r0.pcie.linkUp = true ∧ r0.pins.perst = false ∧ r0.loader.stage ≠ .committing ∧ r0.resets.jobs = []) ∧
    ({ r0 with pcie := { r0.pcie with linkUp := false } } : State).pcie.linkUp = false ∧
    (let s : State := { r0 with loader := { r0.loader with stage := .committing } }
     s.pcie.linkUp = true ∧ s.pins.perst = false ∧ s.loader.stage = .committing ∧ s.hostOpen = true ∧ s.resets.jobs = []) ∧
    r0.hostOpen = true ∧ (0xFF < 256 ∧ 0xFF ≠ 0xA5) ∧
    ((imaged.polderRec 0).isSome = true ∧ imaged.hostOpen = true ∧ imaged.resets.jobs = [] ∧ imaged.loader.stage ≠ .committing) ∧
    (31 < 32 ∧ imaged.polderRec 31 = none) ∧
    (3 ≤ 3 ∧ 5 ≤ 5 ∧ 31 < 32 ∧ (r0.resets.jobs.all (fun j => !r0.resetCovers j.level j.unit 3 31)) = true) := by decide +kernel

theorem witness_FunctionsAndLinkEncryption : (r0.pcie.linkUp = true ∧ r0.pins.perst = false ∧ r0.pcie.vfs = 0 ∧ r0.rangesOk = true) ∧
    (let s : State := { r0 with regs := [(Reg.fnRange 1, 0x20FFF)] }
     s.pcie.linkUp = true ∧ s.pins.perst = false ∧ s.pcie.vfs = 0 ∧ s.rangesOk = false) ∧
    (virtual.pcie.linkUp = true ∧ virtual.pins.perst = false ∧ 1 ≤ virtual.pcie.vfs ∧ virtual.pcie.d3.contains 1 = false ∧
      virtual.pcie.d3.contains 2 = true) ∧
    (4 < 5 ∧ ({ r0 with sec := { r0.sec with ideActive := 16 } } : State).sec.ideActive.testBit 4 = true ∧ r0.sec.ideInsecure.testBit 4 = false) ∧
    (let s : State := { r0 with sec := { r0.sec with sessions := [⟨1, 2, true, 0⟩] } }
     s.spdmServed 2 = true ∧ s.session 2 1 = some ⟨1, 2, true, 0⟩) := by decide +kernel

/-- The last page of column 0 is retired. -/
def retired : State := { imaged with mem := { imaged.mem with retired := [0x80000000] } }
/-- The module in recovery mode. -/
def recovering : State := r0.setBit Reg.idBoot 8 true
/-- A counter whose HI half is latched. -/
def latched : State := { r0 with latches := [(Reg.arrCntBusy 0, some 7)] }
/-- Context 7 is enabled, with rings of 64 and one descriptor submitted. -/
def open7 : State := (((imaged.setReg (Reg.ctxRingSize 7) 0x606).setReg (Reg.ctxCtrl 7) 5).setReg (Reg.ctxSqTail 7) 1).setReg (Reg.ctxIrq 7) 0x00100003
/-- Nothing of host memory is mapped. -/
def unmapped : Env := ⟨[], [(0, 2 ^ 44)], [], [], [], none⟩

/-- What an access to the aperture finds on arrival, with nothing brought along. -/
def host0 (s : State) : State := (s.resizeBar env0).arrive env0
/-- A module reset is in progress. -/
def remaking : State := { r0 with resets := { r0.resets with jobs := [⟨5, 0, 1, none, 0, [], 0, none, [], none⟩] } }
theorem witness_HostAperture :
    ((r0.resizeBar env0).bar2Open 0x2FFFFFFC 4 = true ∧ (host0 r0).bar2Early = false ∧ (host0 r0).moduleResetting = false ∧
      beyondColumn 0x2FFFFFFC 4 = false ∧ (host0 r0).physRetired ((host0 r0).apertureCol 0x2FFFFFFC) (bits 0x2FFFFFFC 29 0) 4 = false) ∧
    ((r0.resizeBar env0).bar2Open 0x2FFFFFFD 4 = true ∧ beyondColumn 0x2FFFFFFD 4 = true) ∧
    ((retired.resizeBar env0).bar2Open 0 4 = true ∧ (host0 retired).bar2Early = false ∧ (host0 retired).moduleResetting = false ∧
      beyondColumn 0 4 = false ∧ (host0 retired).physRetired ((host0 retired).apertureCol 0) (bits 0 29 0) 4 = true) ∧
    ((recovering.resizeBar env0).bar2Open 0 4 = true ∧ (host0 recovering).bar2Early = true) ∧
    ((remaking.resizeBar env0).bar2Open 0 4 = true ∧ (host0 remaking).bar2Early = false ∧ (host0 remaking).moduleResetting = true) ∧
    ((r0.resizeBar env0).bar2Open 0 ([1, 2] : List Byte).length = true ∧
      ((host0 r0).physWrite Req.host ((host0 r0).apertureCol 0) (bits 0 29 0) [1, 2]).1 = 0 ∧
      beyondColumn 0 2 = false ∧ (host0 r0).physRetired ((host0 r0).apertureCol 0) (bits 0 29 0) 2 = false) :=
  ⟨by decide +kernel, by decide +kernel, by decide +kernel, by decide +kernel, by decide +kernel, by decide +kernel⟩

theorem witness_HostRegisters :
    (0 < 64 ∧ (r0.arrive env0).seenReg 0 Reg.mbxCmd = some Reg.mbxCmd) ∧
    (63 < 64 ∧ (r0.arrive env0).seenReg 63 Reg.mbxCmd = none) ∧
    (r0.seenReg 0 (Reg.arrCntBusy 0) = some (Reg.arrCntBusy 0)) ∧
    (((findReg (Reg.arrCntBusy 0)).map (fun d => d.wide)) = some true) ∧
    (4 ≤ Reg.arrCntBusy 0 + 4 ∧ latched.seenReg 0 (Reg.arrCntBusy 0 + 4 - 4) = some (Reg.arrCntBusy 0)) ∧
    (((latched.seenReg 0 (Reg.arrCntBusy 0 + 4)).bind (fun x => (findReg x).filter (fun e => e.wide))) = none ∧
      latched.latch (Reg.arrCntBusy 0 + 4 - 4) = some 7) := ⟨by decide +kernel, by decide +kernel, by decide +kernel, by decide +kernel,
      by decide +kernel, by decide +kernel⟩

theorem witness_PlainRegisterWrite :
    (31 < 32 ∧ 1 ≠ 0 ∧ ((findReg Reg.fnStatus).map (fun d => d.w1c.testBit 0)) = some true) := by decide +kernel

theorem witness_VirtualFunctionIsolation :
    (1 ≤ 63 ∧ 63 < 64 ∧ 0x10000 ≤ 0x3FFFC ∧ 0x3FFFC < 0x40000) ∧
    (0x100000 ≤ 0x100000 ∧ 1 ≤ 1) ∧
    (r0.localCtx 1 ((0x40000 - 0x40000) / 64) = none) := ⟨by decide +kernel, by decide +kernel, by decide +kernel⟩

theorem witness_ContextControl :
    (imaged.reachCtx 0 4095 = some 4095 ∧ 4095 < 4096 ∧ imaged.enabled 4095 = false ∧ imaged.inflight 4095 = 0) ∧
    (open7.reachCtx 0 7 = some 7 ∧ (open7.enabled 7 = true ∨ open7.inflight 7 ≠ 0)) ∧
    ((virtual.setReg (Reg.fnRange 1) 0x20004).reachCtx 1 1 = some 5) ∧
    ((let s := open7.setReg (Reg.ctxCtrl 7) 0; s.reachCtx 0 7 = some 7 ∧ s.enabled 7 = false ∧ s.resets.jobs = [] ∧ (s.aux 7).resetting = none ∧
      s.ringsOk 7 = true)) ∧
    (imaged.resets.jobs = [] ∧ (imaged.aux 4095).resetting = none ∧ imaged.ringsOk 4095 = false) := ⟨by decide +kernel, by decide +kernel,
      by decide +kernel, by decide +kernel, by decide +kernel⟩

theorem witness_Doorbells :
    (open7.reachCtx 0 7 = some 7 ∧ open7.fnOf 7 = 0 ∧ open7.enabled 7 = true ∧ (open7.aux 7).guilty = false) ∧
    (fld (63 : Word) 15 0 < open7.sqSize 7 ∧ open7.sqSize 7 ≤ fld (64 : Word) 15 0 ∧ fld (63 : Word) 15 0 < open7.cqSize 7 ∧
      open7.cqSize 7 ≤ fld (64 : Word) 15 0) ∧
    (imaged.reachCtx 0 7 = some 7 ∧ imaged.fnOf 7 = 0 ∧ imaged.enabled 7 = false) := ⟨by decide +kernel, by decide +kernel, by decide +kernel⟩

/-- A FENCE stands at the head of the submission ring of context 7, which is bound to polder 0. -/
def fencing : State := open7.setReg (Reg.ctxBind 7) 0x80
/-- What brings the FENCE's descriptor into host memory. -/
def fence0 : Env := ⟨[(0, 0x60)], [], [], [], [], none⟩
theorem witness_FetchAndCommit :
    (let u := open7.arrive env0
     let c := u.newCmd 7 (BitVec.ofNat 512 (leNat (u.host.mem.read (u.sqBase 7 + 64 * u.sqHead 7) 64)))
     7 < 4096 ∧ u.fetchable 7 = true ∧ u.hostMapped (u.sqBase 7 + 64 * u.sqHead 7) 64 = true ∧ u.hostClean (u.sqBase 7 + 64 * u.sqHead 7) 64 = true ∧
     u.slotMark 7 c.slot = none ∧ (u.takeSlot 7 c).fetchCheck c ≠ St.ok) ∧
    (let u := fencing.arrive fence0
     let c := u.newCmd 7 (BitVec.ofNat 512 (leNat (u.host.mem.read (u.sqBase 7 + 64 * u.sqHead 7) 64)))
     u.fetchable 7 = true ∧ u.hostMapped (u.sqBase 7 + 64 * u.sqHead 7) 64 = true ∧ u.hostClean (u.sqBase 7 + 64 * u.sqHead 7) 64 = true ∧
     u.slotMark 7 c.slot = none ∧ (u.takeSlot 7 c).fetchCheck c = St.ok) ∧
    (let u := ({ open7 with ctxs := [(7, ⟨[(0, 9)], 0, none, false, none⟩)] } : State).arrive env0
     u.fetchable 7 = true ∧ u.hostMapped (u.sqBase 7 + 64 * u.sqHead 7) 64 = true ∧ u.hostClean (u.sqBase 7 + 64 * u.sqHead 7) 64 = true ∧
      u.slotMark 7 0 = some 9) ∧
    ((open7.arrive unmapped).fetchable 7 = true ∧
      ((open7.arrive unmapped).hostMapped ((open7.arrive unmapped).sqBase 7 + 64 * (open7.arrive unmapped).sqHead 7) 64 && (open7.arrive unmapped).hostClean ((open7.arrive unmapped).sqBase 7 + 64 * (open7.arrive unmapped).sqHead 7) 64) = false) ∧
    ((imaged.arrive env0).fetchable 7 = false) ∧
    (let c := { cmdOf 1 0x60 [] with phase := .done 0 }
     let u := (busy [c]).arrive env0
     u.cmd? 1 = some c ∧ c.ctx < 4096 ∧ u.sluiced c = false ∧ c.work = .none ∧ c.op ≠ 0x20 ∧ c.op ≠ 0x30 ∧ c.op ≠ 0x70 ∧
     SMap.get (fun _ => false) u.sentinel (u.polderOf c) = false ∧ u.seqsOf 1 = [] ∧ (u.aux c.ctx).resetting = none ∧
     u.resets.replay = none ∧ u.configOpen = true ∧ u.pcie.d3.contains (u.fnOf c.ctx) = false ∧
      u.hostMapped (u.cqBase c.ctx + 16 * u.cqTail c.ctx) 16 = true ∧
     ((u.optFinish c).appendFinish c).cmd? 1 = some c ∧ ((u.optFinish c).appendFinish c).commitStatus c = some 0) ∧
    (let c := cmdOf 1 0x60 []
     let u := (busy [c]).arrive env0
     u.cmd? 1 = some c ∧ c.work = .none ∧ c.phase = .waiting ∧ u.sluiced c = false ∧ ((u.optFinish c).appendFinish c).cmd? 1 = some c ∧
     ((u.optFinish c).appendFinish c).commitStatus c = none) ∧
    (let c := cmdOf 1 0x60 []
     let u := ({ busy [c] with resets := { r0.resets with jobs := [⟨4, 0, 1, none, 0, [], 0, none, [], none⟩] } } : State).arrive env0
     u.cmd? 1 = some c ∧ u.sluiced c = true) ∧
    ((let s := { open7 with tick := 25, ctxs := [(7, ⟨[], 1, some 0, false, none⟩)] }; (s.aux 7).firstUnsig = some 0 ∧
      s.bit (Reg.ctxCtrl 7) 2 = true ∧ s.fld (Reg.ctxIrq 7) 31 20 ≠ 0 ∧ 0 + 25 * s.fld (Reg.ctxIrq 7) 31 20 ≤ s.tick ∧
      s.pcie.d3.contains (s.fnOf 7) = false)) ∧
    ((let s := { open7 with tick := 24, ctxs := [(7, ⟨[], 1, some 0, false, none⟩)] }; (s.aux 7).firstUnsig = some 0 ∧
      s.tick < 0 + 25 * s.fld (Reg.ctxIrq 7) 31 20)) :=
  ⟨by decide +kernel, by decide +kernel, by decide +kernel, by decide +kernel, by decide +kernel, by decide +kernel, by decide +kernel,
      by decide +kernel, by decide +kernel, by decide +kernel⟩

theorem witness_StartOrder :
    ((let c := cmdOf 1 0x60 []; (busy [c]).starts 1 0x60 = some c ∧ c.op = 0x60)) ∧
    ((let c := cmdOf 2 0x50 []; (busy [cmdOf 1 0x40 [], c]).starts 2 0x50 = some c ∧
      ((busy [cmdOf 1 0x40 [], c]).earlier c).length = 1)) := ⟨by decide +kernel, by decide +kernel⟩

theorem witness_CompletionRecord :
    (open7.tick < 2 ^ 64 ∧ (cmdOf 65535 1 []).slot < 2 ^ 16 ∧ 255 < 256 ∧ 65535 < 2 ^ 16) := by decide +kernel

/-- A GEMM of 16 × 16 × 16, its tensors in BF16. -/
def gemm1 : Cmd := cmdOf 1 0x01 [(0x18, 6, 0x1000), (0x20, 6, 0x2000), (0x28, 2, 1), (0x2A, 1, 9), (0x2B, 1, 9), (0x2C, 1, 9), (0x30, 4, 16), (0x34, 4, 16), (0x38, 4, 16)]
/-- A CONV of one 4 × 4 image. -/
def conv2 : Cmd := cmdOf 2 0x02 [(0x18, 6, 0x1000), (0x20, 6, 0x2000), (0x28, 2, 2), (0x30, 2, 4), (0x32, 2, 4), (0x34, 2, 1), (0x36, 2, 1), (0x38, 2, 1), (0x3A, 1, 1), (0x3B, 1, 1), (0x3C, 1, 0x11)]
/-- An ELEMENTWISE of 16 FP32 elements. -/
def elem3 : Cmd := cmdOf 3 0x03 [(0x18, 6, 0x1000), (0x20, 6, 0x2000), (0x28, 2, 3), (0x2A, 1, 11), (0x2B, 1, 11), (0x2C, 1, 11), (0x30, 4, 16)]
/-- The GEMM runs on core 0, with a set to drain behind it. -/
def arrayed : State := busy [{ gemm1 with phase := .running, work := .array [(0, [[(0, 0, 16), (1, 0, 16)]])] 0 none 0 }]

/-- A GEMM of 16 rows that appends them to sequence 0 as the keys and values of its one head. -/
def append4 : Cmd := cmdOf 4 0x01 [(0x18, 6, 0x1000), (0x20, 6, 0x2000), (0x28, 2, 1), (0x2A, 1, 9), (0x2B, 1, 9), (0x2C, 1, 9), (0x2D, 1, 4), (0x30, 4, 16), (0x34, 4, 128), (0x38, 4, 16)]
/-- Sequence 0, of up to 64 tokens, has page 0 as its last one, with room for 16 tokens; the append's record stands at 0x2000. -/
def appendTo (room : Byte) : State :=
  let s : State := { busy [append4] with kv := [(0, { data := [0x200000], header := [0x300000], index := [0x200000], entered := [], pages := [(0, ⟨.live, 1, 0⟩)], seqs := [(0, some ⟨true, 0x100000, 1, 1, 64, 9, 64, []⟩)], sweep := 0, used := 0 })] }
  putMem (putMem (putMem s 0x2000 [0, 0, 0, 0, 0, 1]) 0x100000 [0, 0, 0, 0x80]) 0x300004 [room, 0]
/-- Whether the append is admitted. -/
def admits (s : State) : Bool := goes (Run.admission (reqBd append4) append4 (s.polderOf append4) (extent append4.desc 0) (extent append4.desc 1) (fmtDst append4.desc) true) (s.arrive env0)
/-- Whether an ELEMENTWISE meets no failure, with its cores as they are. -/
def vecGoes (s : State) (c : Cmd) (ok : Bool) : Bool := ((s.arrive env0).template c).any (fun t =>
  let cores := coreTiles t c.desc ((s.arrive env0).partCores ((s.arrive env0).polderOf c) t.cores) (fun x => [x])
  (s.arrive env0).coresWarm (cores.map (fun x => x.1)) && goes (Run.elementwise t c ((s.arrive env0).polderOf c))
    (cores.foldl (fun (s : State) x => s.spanStart x.1 c) ((s.arrive env0).beginCmd c.id .none)) == ok)
/-- Every half runs, and every core is kept warm by filler. -/
def warmed (s : State) : State :=
  { s with power := { s.power with fillerDemand := 16 }, clocks := { s.clocks with half := (List.range 8).map (fun h => (h, .run)) } }
theorem witness_ArrayAndVectorCommands :
    ((let s := busy [gemm1, conv2, elem3]; s.meetsDike gemm1 = false ∧ s.starts 1 0x01 = some gemm1 ∧
      ((s.arrive env0).template gemm1).isSome = true ∧ tfAppend gemm1.desc = false)) ∧
    ((let s := busy [gemm1, conv2, elem3]; s.meetsDike conv2 = false ∧ s.starts 2 0x02 = some conv2 ∧
      ((s.arrive env0).template conv2).isSome = true ∧ tfAppend conv2.desc = false)) ∧
    ((let s := appendTo 16; s.meetsDike append4 = false ∧ s.starts 4 0x01 = some append4 ∧
      ((s.arrive env0).template append4).map (fun t => t.layD) = some 0 ∧ tfAppend append4.desc = true ∧ admits s = true)) ∧
    ((let s := busy [append4]; s.meetsDike append4 = false ∧ s.starts 4 0x01 = some append4 ∧ ((s.arrive env0).template append4).isSome = true ∧
      admits s = false)) ∧
    (∀ c ∈ [{ gemm1 with desc := descOf [(0, 1, 1), (0x28, 2, 99)] }, { elem3 with desc := descOf [(0, 1, 3), (0x28, 2, 99)] }],
      (busy [c]).meetsDike c = false ∧ (busy [c]).starts c.id c.op = some c ∧ ((busy [c]).arrive env0).template c = none) ∧
    ((let s := warmed (busy [elem3]); s.meetsDike elem3 = false ∧ s.starts 3 0x03 = some elem3 ∧ vecGoes s elem3 true = true)) ∧
    ((let c := { elem3 with desc := descOf [(0, 1, 3), (0x18, 8, 0x7FFFFFF0), (0x20, 6, 0x2000), (0x28, 2, 3), (0x2A, 1, 11), (0x2B, 1, 11), (0x2C, 1, 11), (0x30, 4, 16)] }
      let s := warmed (busy [c]); s.meetsDike c = false ∧ s.starts 3 0x03 = some c ∧ vecGoes s c false = true)) ∧
    ((let s := busy [elem3]; s.starts 3 0x03 = some elem3 ∧ s.meetsDike elem3 = false ∧
      (s.arrive env0).coresWarm [0] = false)) := ⟨by decide +kernel, by decide +kernel, by decide +kernel, by decide +kernel,
      by decide +kernel, by decide +kernel, by decide +kernel, by decide +kernel⟩

/-- Whether a core can stage the piece of its next pass. -/
def stages (s : State) (n : Nat) : Option Bool := (s.nextPass n).bind (fun x => (s.cmd? x.1).bind (fun c => (s.template c).map (fun t =>
  match (((s.arrive env0).beginPass n c x.2.2 (passCycles t c.desc)).stagePiece n c t x.2.1).1 with
  | .ok _ => true
  | .error _ => false)))
/-- The GEMM, its set of one accumulator in core 0 to drain, with a checksum that passes or fails and a tile of another core left. -/
def draining (retry : Bool) (sum : Word) : State :=
  let s := busy [{ gemm1 with phase := .running, work := .array [(1, [[(0, 0, 16), (1, 0, 16)]])] 0 none 0 }]
  s.setCore 0 { s.core 0 with sets := [⟨1, [(0, 0, 1), (1, 0, 1)], retry, [[0]], [sum], [sum]⟩] }
/-- How that set drains: the verdicts of its rows, whether it waits, and whether its tile is written with work left. -/
def drains (s : State) : Option (List Nat × Bool × Bool) := ((s.core 0).sets.head?).bind (fun set => (s.cmd? set.cmd).bind (fun c => (s.template c).map (fun t =>
  let vs := drainVerdicts t c.desc [] set
  (vs, (s.arrive env0).drainWaits 0 t c set,
    match Run.writeTile 0 t c set (((drainRows [] set).zip set.acc).map (fun x => x.1.take x.2.length)) ((s.arrive env0).popSet 0 [] vs) with
    | .ok () w => !w.arrayDone c.id && (w.cmd? c.id).any (fun k => decide (k.phase = .running))
    | .error _ _ => false))))
/-- The shadow lane of core 0 holds a tile of polder 0 without a sample, or with one. -/
def sampling (e : Option Word) : State := arrayed.setCore 0 { arrayed.core 0 with shadow := some ⟨1, 0, 0, 1, e⟩ }
/-- A GEMM of 1 × 1 × 1 from an address, whose pass core 0 is to start. -/
def single (src : Nat) : State := warmed (busy [{ cmdOf 1 0x01 [(0x10, 6, src), (0x18, 6, 0x1000), (0x20, 6, 0x2000), (0x28, 2, 1), (0x2A, 1, 9), (0x2B, 1, 9), (0x2C, 1, 9), (0x30, 4, 1), (0x34, 4, 1), (0x38, 4, 1)] with phase := .running, work := .array [(0, [[(0, 0, 1), (1, 0, 1)]])] 0 none 0 }])
theorem witness_CorePassesAndClears :
    (0 < 256 ∧ (single 0).canPass 0 = true ∧ (single 0).nextPass 0 = some (1, [(0, 0, 1), (1, 0, 1)], false) ∧ (single 0).idHeld 1 = false ∧
      stages (single 0) 0 = some true) ∧
    ((single 0x7FFFF000).canPass 0 = true ∧ (single 0x7FFFF000).nextPass 0 = some (1, [(0, 0, 1), (1, 0, 1)], false) ∧
      (single 0x7FFFF000).idHeld 1 = false ∧ stages (single 0x7FFFF000) 0 = some false) ∧
    (arrayed.canPass 0 = false) ∧
    ((let s := arrayed.setCore 255 { arrayed.core 255 with sets := [⟨99, [(0, 0, 16)], false, [], [], []⟩] }; 255 < 256 ∧
      (s.core 255).sets = [⟨99, [(0, 0, 16)], false, [], [], []⟩] ∧ s.fencedCore 255 = false ∧ s.halted = false ∧ s.idHeld 99 = false ∧
      s.cmd? 99 = none)) ∧
    ((draining false 0).fencedCore 0 = false ∧ (draining false 0).halted = false ∧ (draining false 0).idHeld 1 = false ∧
      drains (draining false 0) = some ([0], false, true)) ∧
    (drains (draining false 0x3F800000) = some ([1], false, true) ∧ drains (draining true 0x3F800000) = some ([1], false, true)) ∧
    (((sampling none).core 0).shadow = some ⟨1, 0, 0, 1, none⟩ ∧ ((sampling (some 0x3F800000)).core 0).shadow = some ⟨1, 0, 0, 1, some 0x3F800000⟩) ∧
    (imaged.hostOpen = true ∧ 255 < 256 ∧ 0 < 32 ∧ (imaged.polderRec 0).isSome = true ∧ imaged.polderRec 31 = none) := ⟨by decide +kernel,
      by decide +kernel, by decide +kernel, by decide +kernel, by decide +kernel, by decide +kernel, by decide +kernel, by decide +kernel⟩

/-- An active sequence 0 of one layer and head, and an inactive one, sequence 1, each without a page. -/
def seqs0 : KvPolder := { data := [0x200000], header := [0x200000], index := [0x200000], entered := [], pages := [(0, ⟨.live, 1, 0⟩)], seqs := [(0, some ⟨true, 0x100000, 1, 1, 64, 9, 0, []⟩), (1, some ⟨false, 0x110000, 1, 1, 64, 9, 0, []⟩)], sweep := 0, used := 0 }
/-- Commands in flight with a page manager that has sequences. -/
def paged (cs : List Cmd) : State := { busy cs with kv := [(0, seqs0)] }
/-- Attention of one row over sequence 0: on the NBUs, on a core, and backward. -/
def fwd1 : Cmd := cmdOf 1 0x10 [(0x10, 6, 0x1000), (0x18, 6, 0x2000), (0x2D, 1, 1), (0x30, 2, 0xFFFF), (0x38, 2, 1)]
def fwd2 : Cmd := cmdOf 2 0x10 [(0x10, 6, 0x1000), (0x18, 6, 0x2000), (0x2D, 1, 1), (0x2F, 1, 4), (0x30, 2, 0xFFFF), (0x38, 2, 1)]
def bwd3 : Cmd := cmdOf 3 0x11 [(0x10, 6, 0x1000), (0x18, 6, 0x2000), (0x2D, 1, 1), (0x30, 2, 0xFFFF), (0x38, 2, 1)]

/-- How an attention on a state starts: whether its checks pass, and then whether it waits for a copy. -/
def attnGoes (s : State) (c : Cmd) (core : Bool) : Option Bool := match Run.attnStart ((s.arrive env0).attnReq c core) c ((s.arrive env0).polderOf c) (s.arrive env0) with
  | .ok a t => some (t.attnWaits ((s.arrive env0).polderOf c) a)
  | .error _ _ => none
/-- Whether one on warm cores meets no failure. -/
def attnRuns (s : State) (c : Cmd) (back : Bool) : Option Bool :=
  let u := s.arrive env0
  match Run.attnStart (u.attnReq c true) c (u.polderOf c) u with
  | .ok a t =>
    let r := ((t.beginCmd c.id (.attn a.q.headDim (a.pages.map (fun v => v.page)) a.plan [])).spanAll c).countVec c
    if t.attnWaits (u.polderOf c) a || !u.partWarm c then none
    else some (if back then goes (Run.attnBack (u.attnReq c true) c (u.polderOf c) a) r else goes (Run.attnCore (u.attnReq c true) c (u.polderOf c) a) r)
  | .error _ _ => none
/-- The same commands on a sequence that is not registered. -/
def unseen (c : Cmd) : Cmd := { c with desc := descOf [(0, 1, c.op), (0x10, 6, 0x1000), (0x18, 6, 0x2000), (0x28, 2, 7), (0x2D, 1, 1), (0x2F, 1, if c.id = 2 then 4 else 0), (0x30, 2, 0xFFFF), (0x38, 2, 1)] }
/-- The argument block of the backward one, with a count of positions. -/
def backs (count : Byte) : State := putMem (warmed (paged [bwd3])) 0x2000
  ([0, 0, 0, 0, 0, 0, 0, 0, 0, 0x10, 0, 0, 0, 0, 0, 0, 0, 0, 1, 0, 0, 0, 0, 0, 0, 0, 2, 0, 0, 0, 0, 0, 0, 0, 3, 0, 0, 0, 0, 0, 0, 0, 0, 0, count] ++ List.replicate 19 0)
/-- Sequence 0 has one key, in page 0; a copy to that page is pending where so said. -/
def keyed (c : Cmd) (copy : Bool) : State :=
  warmed { putMem (appendTo 16) 0x300004 [16, 0, 1, 0] with cmds := [c], copies := if copy then [⟨0, 1, 0, 0, 0, 1⟩] else [] }
/-- Its Q and O in column 1. -/
def beside (c : Cmd) : Cmd := { c with desc := descOf [(0, 1, c.op), (0x10, 6, 0x100001000), (0x18, 6, 0x100002000), (0x2D, 1, 1), (0x2F, 1, if c.id = 2 then 4 else 0), (0x30, 2, 0xFFFF), (0x38, 2, 1)] }
/-- A decode whose parts are written but for those of `left`. -/
def decoding (left : List (Nat × Nat)) : Cmd := { fwd1 with phase := .running, work := .attn 64 [] [[]] left }
/-- Whether its combiner meets no failure. -/
def combines (s : State) (c : Cmd) (pages : List Nat) : Bool := goes (Run.attnCombine (reqBd c) c ((s.arrive env0).polderOf c) 64 pages ((s.arrive env0).attnNbus ((s.arrive env0).polderOf c) pages)) (s.arrive env0)
theorem witness_AttentionCommands :
    (∀ c ∈ [fwd1, fwd2, bwd3], ∀ s ∈ [paged [c], keyed c true], s.starts c.id c.op = some c ∧ s.meetsDike c = false) ∧
    ((let s := paged [fwd1]; (s.arrive env0).nbuPath fwd1.desc = true ∧ attnGoes s fwd1 false = some false ∧
      attnGoes (keyed fwd1 true) fwd1 false = some true)) ∧
    (∀ c ∈ [fwd1, fwd2, bwd3], (paged [unseen c]).starts c.id c.op = some (unseen c) ∧ (paged [unseen c]).meetsDike (unseen c) = false ∧
      attnGoes (paged [unseen c]) (unseen c) (c.id != 1) = none) ∧
    (((paged [fwd2]).arrive env0).nbuPath fwd2.desc = false ∧ attnGoes (keyed fwd2 true) fwd2 true = some true ∧
      ((paged [fwd2]).arrive env0).partWarm fwd2 = false ∧ attnGoes (paged [fwd2]) fwd2 true = some false) ∧
    (attnRuns (warmed (paged [fwd2])) fwd2 false = some true ∧ attnRuns (broken (keyed (beside fwd2) false)) (beside fwd2) false = some false) ∧
    (attnRuns (backs 1) bwd3 true = some true ∧ attnRuns (backs 0) bwd3 true = some false) ∧
    ((let c := decoding []; let s := paged [c]; s.cmd? 1 = some c ∧ c.op = 0x10 ∧ c.phase = .running ∧ s.nbuReady.contains c.id = false ∧
      combines s c [] = true)) ∧
    ((let c := { decoding [] with desc := (beside fwd1).desc }; let s := broken (paged [c]); s.cmd? 1 = some c ∧ s.nbuReady.contains c.id = false ∧
      combines s c [] = false)) ∧
    ((let c := decoding [(0, 0)]; (paged [c]).cmd? 1 = some c ∧ c.op = 0x10 ∧ c.work = .attn 64 [] [[]] [(0, 0)])) := ⟨by decide +kernel,
      by decide +kernel, by decide +kernel, by decide +kernel, by decide +kernel, by decide +kernel, by decide +kernel, by decide +kernel,
      by decide +kernel⟩

/-- Page operations by their code: on sequence 2 a REGISTER, on sequence 1 an ACTIVATE, on sequence 0 the rest. -/
def kvOf (sub : Nat) : Cmd := cmdOf 1 0x12 [(0x10, 1, sub), (0x14, 2, if sub = 1 then 2 else if sub = 3 then 1 else 0), (0x16, 2, 0), (0x20, 8, 0x120000), (0x30, 2, if sub = 5 then 1 else 1), (0x32, 2, 1), (0x34, 2, if sub = 1 then 64 else 0), (0x36, 1, if sub = 5 || sub = 6 then 0 else 9)]
/-- Whether a page operation starts and goes to its end. -/
def kvGoes (sub : Nat) (r : Cmd → Nat → Run Nat) : Bool :=
  let s := paged [kvOf sub]
  decide (s.kvStarts 1 sub = some (kvOf sub)) && decide ((kvOf sub).addr 0x28 = 0) && goes (r (kvOf sub) ((s.arrive env0).polderOf (kvOf sub))) ((s.arrive env0).beginCmd 1 .none)
/-- A lookup of no token. -/
def look1 : Cmd := cmdOf 1 0x13 [(0x10, 6, 0x1000), (0x18, 6, 0x2000), (0x24, 2, 0), (0x26, 2, 0)]

/-- A page operation on what is not there: sequence 7, page 3, or for a REGISTER a sequence that is registered. -/
def kvLost (sub : Nat) : Cmd := cmdOf 1 0x12 [(0x10, 1, sub), (0x14, 2, if sub = 1 then 0 else 7), (0x18, 4, 3), (0x30, 2, 1), (0x32, 2, 1), (0x34, 2, 64), (0x36, 1, 9)]
/-- Its polder's index stands in a column that has failed. -/
def kvSick (sub : Nat) : State := { broken (busy [kvLost sub]) with kv := [(0, { seqs0 with index := [0x100200000], entered := [(0, true)] })] }
/-- Whether a page operation starts and meets a failure. -/
def kvFails (sub : Nat) (r : Cmd → Nat → Run Nat) : Bool :=
  let s := kvSick sub
  decide (s.kvStarts 1 sub = some (kvLost sub)) && decide ((kvLost sub).addr 0x28 = 0) && !goes (r (kvLost sub) ((s.arrive env0).polderOf (kvLost sub))) ((s.arrive env0).beginCmd 1 .none)
/-- A page operation on page 0 alone, or an ACTIVATE with a result record at 0x3000. -/
def kvOn (sub : Nat) : Cmd := cmdOf 1 0x12 [(0x10, 1, sub)]
def kvTold : Cmd := cmdOf 1 0x12 [(0x10, 1, 3), (0x14, 2, 1), (0x28, 6, 0x3000)]
/-- Page 0 has two references. -/
def twice (c : Cmd) : State := { busy [c] with kv := [(0, { seqs0 with pages := [(0, ⟨.live, 2, 0⟩)] })] }
theorem witness_PageOperationsComplete :
    (kvGoes 0x01 Run.kvRegister = true ∧ kvFails 0x01 Run.kvRegister = true) ∧
    (kvGoes 0x02 Run.kvRelease = true ∧ kvFails 0x02 Run.kvRelease = true) ∧
    (kvGoes 0x03 Run.kvActivate = true ∧ kvFails 0x03 Run.kvActivate = true) ∧
    (kvGoes 0x04 Run.kvDeactivate = true ∧ kvFails 0x04 Run.kvDeactivate = true) ∧
    (kvGoes 0x05 Run.kvFork = true ∧ kvFails 0x05 Run.kvFork = true) ∧
    (kvGoes 0x06 Run.kvTruncate = true ∧ kvFails 0x06 Run.kvTruncate = true) ∧
    (kvGoes 0x07 Run.kvSetFormat = true ∧ kvFails 0x07 Run.kvSetFormat = true) ∧
    (kvGoes 0x08 Run.kvPublish = true ∧ kvFails 0x08 Run.kvPublish = true) ∧
    (kvGoes 0x09 Run.kvEvict = true ∧ kvFails 0x09 Run.kvEvict = true) ∧
    (kvGoes 0x0A Run.kvRef = true ∧ kvFails 0x0A Run.kvRef = true) ∧
    (kvGoes 0x0B Run.kvFree = true ∧ kvFails 0x0B Run.kvFree = true) ∧
    ((let s := paged [kvTold]; let u := (s.arrive env0).beginCmd 1 .none; s.kvStarts 1 3 = some kvTold ∧ kvTold.addr 0x28 ≠ 0 ∧ goes (do
      let v ← Run.kvActivate kvTold ((s.arrive env0).polderOf kvTold)
      Run.report (fun _ => reqBd kvTold) ((s.arrive env0).polderOf kvTold) (kvTold.addr 0x28)
        (leBytes 4 v ++ leBytes 1 0 ++ [0, 0, 0] ++ leBytes 4 0xFFFFFFFF ++ leBytes 4 ((← get).freePages ((s.arrive env0).polderOf kvTold)).length)) u = true)) ∧
    ((let s := paged [look1]; s.starts 1 0x13 = some look1 ∧ look1.addr 0x28 = 0 ∧
      goes (Run.prefixLookup look1 ((s.arrive env0).polderOf look1)) ((s.arrive env0).beginCmd 1 .none) = true)) ∧
    ((let s := busy [look1]; s.starts 1 0x13 = some look1 ∧
      goes (Run.prefixLookup look1 ((s.arrive env0).polderOf look1)) ((s.arrive env0).beginCmd 1 .none) = false)) ∧
    ((let s := paged [kvOf 3]; s.kvStarts 1 3 = some (kvOf 3) ∧
      ((s.kvp ((s.arrive env0).polderOf (kvOf 3))).seq (kvSeq (kvOf 3).desc)).isSome = true ∧
      (s.kvp ((s.arrive env0).polderOf (kvOf 3))).activeSeqs < ((s.attnRec ((s.arrive env0).polderOf (kvOf 3))).map (fun r => r.maxActive)).getD 0)) ∧
    ((let s := paged [kvOf 4]; s.kvStarts 1 4 = some (kvOf 4) ∧
      ((s.kvp ((s.arrive env0).polderOf (kvOf 4))).seq (kvSeq (kvOf 4).desc)).map (fun q => q.appending) = some [])) ∧
    ((kvOn 0x0A).addr 0x28 = 0 ∧ kvCount (kvOn 0x0A).desc = 0 ∧ (twice (kvOn 0x0A)).kvStarts 1 0x0A = some (kvOn 0x0A) ∧
      (twice (kvOn 0x0B)).kvStarts 1 0x0B = some (kvOn 0x0B) ∧
      ((twice (kvOn 0x0B)).kvp (((twice (kvOn 0x0B)).arrive env0).polderOf (kvOn 0x0B))).page 0 = ⟨.live, 2, 0⟩ ∧ kvPage (kvOn 0x0B).desc = 0) :=
  ⟨by decide +kernel, by decide +kernel, by decide +kernel, by decide +kernel, by decide +kernel, by decide +kernel, by decide +kernel,
      by decide +kernel, by decide +kernel, by decide +kernel, by decide +kernel, by decide +kernel, by decide +kernel, by decide +kernel,
      by decide +kernel, by decide +kernel, by decide +kernel⟩

theorem witness_PagesAndSequences :
    ((seqs0.page 0).state = .live ∧ (seqs0.page 0).refs < 65535 ∧ (seqs0.page 0).refs ≤ 1 ∧ 1 ≠ 0) ∧
    ((let k := seqs0.setPage 3 ⟨.live, 65535, 2⟩; (k.page 3).state = .live ∧ (k.page 3).refs = 65535 ∧ 1 < (k.page 3).refs)) ∧
    ((seqs0.page 1).state ≠ .live ∧ (let k := seqs0.setPage 1 ⟨.draining, 0, 1⟩; (k.page 1).state = .draining ∧ (k.page 1).leases ≤ 1)) ∧
    (goes (Run.kvRegister (kvOf 1) 0) (paged [kvOf 1]) = true ∧ goes (Run.kvRelease (kvOf 2) 0) (paged [kvOf 2]) = true ∧
      goes (Run.kvActivate (kvOf 3) 0) (paged [kvOf 3]) = true ∧ goes (Run.kvDeactivate (kvOf 4) 0) (paged [kvOf 4]) = true ∧
      goes (Run.kvSetFormat (kvOf 7) 0) (paged [kvOf 7]) = true) := ⟨by decide +kernel, by decide +kernel, by decide +kernel, by decide +kernel⟩

/-- A step of one element: its weight at 0, its sign mask at 0x20000, its tensor descriptor at 0x100000 as the bytes say. -/
def opt1 : Cmd := cmdOf 1 0x20 [(0x18, 8, 0x10000), (0x20, 8, 0x20000), (0x28, 8, 0x100000), (0x30, 4, 1), (0x34, 4, 0x3F800000)]
def stepping (flags cols mask : Byte) : State := putMem (busy [opt1]) 0x100000
  ([1, 0, 0, 0, 0, 0, 0, 0, 0, 0, 0, 0, 1, 0, 0, 0, flags, 0, 0xFF, 0xFF] ++ List.replicate 38 0 ++ [cols, 0, mask, 0, 0, 0])
/-- Whether the step's checks pass, with its placement. -/
def optGoes (s : State) (banked : Bool) : Bool := match Run.optCheck opt1 ((s.arrive env0).polderOf opt1) (s.arrive env0) with
  | .ok td t => tdBanked td.1 == banked && t.cap 0
  | .error _ _ => false
/-- A page copy that is pending. -/
def copying : State := { paged [fwd1] with copies := [⟨0, 0, 1, 0, 0, 1⟩], kv := [(0, { seqs0 with data := [0x200000], header := [0x300000] })] }

/-- Who a page copy is made for. -/
def copyReq (s : State) : Req := ⟨5, (s.cmd? 1).map (fun x => x.ctx), (s.cmd? 1).map (fun x => x.id), .bd⟩
theorem witness_CopiesAndSteps :
    (0 < 32 ∧ copying.copies.find? (fun x => x.polder == 0 && x.new == 1) = some ⟨0, 0, 1, 0, 0, 1⟩ ∧ (copying.arrive env0).copying 0 0 = false) ∧
    (goes (Run.copyPage (copyReq copying) ⟨0, 0, 1, 0, 0, 1⟩) { copying.arrive env0 with copies := copying.copies.erase ⟨0, 0, 1, 0, 0, 1⟩ } = true) ∧
    ((let s := { broken copying with kv := [(0, { seqs0 with data := [0x200000], header := [0x100300000] })] }
      s.copies.find? (fun x => x.polder == 0 && x.new == 1) = some ⟨0, 0, 1, 0, 0, 1⟩ ∧ (s.arrive env0).copying 0 0 = false ∧
      goes (Run.copyPage (copyReq s) ⟨0, 0, 1, 0, 0, 1⟩) { s.arrive env0 with copies := s.copies.erase ⟨0, 0, 1, 0, 0, 1⟩ } = false)) ∧
    ((let s := { copying with copies := [⟨0, 0, 1, 0, 0, 1⟩, ⟨0, 1, 2, 0, 0, 1⟩] }; s.copies.find? (fun x => x.polder == 0 && x.new == 2) = some ⟨0, 1, 2, 0, 0, 1⟩ ∧ (s.arrive env0).copying 0 1 = true)) ∧
    (copying.copies.find? (fun x => x.polder == 31 && x.new == 1) = none) ∧
    ((stepping 2 1 1).starts 1 0x20 = some opt1 ∧ optGoes (stepping 2 1 1) true = true) ∧
    ((stepping 0 0 0).starts 1 0x20 = some opt1 ∧ optGoes (stepping 0 0 0) false = true) ∧
    ((busy [opt1]).starts 1 0x20 = some opt1 ∧
      goes (Run.optCheck opt1 (((busy [opt1]).arrive env0).polderOf opt1)) ((busy [opt1]).arrive env0) = false) := ⟨by decide +kernel,
      by decide +kernel, by decide +kernel, by decide +kernel, by decide +kernel, by decide +kernel, by decide +kernel, by decide +kernel⟩

/-- An NBU command of one NBU with the program of slot 5. -/
def nbu1 : Cmd := cmdOf 1 0x40 [(0x10, 2, 5), (0x12, 1, 0), (0x14, 2, 1), (0x18, 4, 1)]
/-- It is ready. -/
def ready1 : State := { busy [{ nbu1 with phase := .running, work := .nbu [] }] with nbuReady := [1] }
/-- A sequence of it on column 0, bank 0, with a program of one micro-op. -/
def seqOf (op : Nat) : NbuSeq := newSeq 1 0 0 [BitVec.ofNat 64 (2 ^ 58 * op)] 0 0x1000 0 0x1000 [0, 0, 0, 0]
def running (q : NbuSeq) : State := { busy [{ nbu1 with phase := .running, work := .nbu [(0, 0)] }] with nbus := [(0, some q)] }
/-- Whether the sequence stands at the micro-op. -/
def stands (op : Nat) : Bool := decide ((running (seqOf op)).microOp 0 0 op = some (seqOf op, BitVec.ofNat 64 (2 ^ 58 * op)))

/-- A command whose declared source lies in a retired page; the decode and the step whose one NBU's program has ended. -/
def nbuGone : Cmd := { cmdOf 1 0x40 [(0x10, 2, 5), (0x12, 1, 0), (0x14, 2, 1), (0x18, 4, 1), (0x20, 4, 65536)] with phase := .running, work := .nbu [] }
def endOf (c : Cmd) (s : State) : State := { s with cmds := [c], nbus := [(0, some { seqOf 0 with pc := 1, ended := true })] }
def stepEnd : Cmd := { opt1 with phase := .running, work := .opt [(0, 0)] (List.replicate 64 0) true [] }
/-- What is left of its command when the unit's part is done. -/
def afterPart (c : Cmd) (s : State) : Option Work :=
  let o : State := { endOf c s with mem := { s.mem with owed := [] } }
  let q : NbuSeq := { seqOf 0 with pc := 1, ended := true }
  let w := match c.work with
    | .attn _ _ _ _ => o.firmwareWork q c
    | _ => ((o.resolveClash q).firmwareWork q c).resolveClash { q with stored := [] }
  (w.cmd? c.id).bind (fun k => if k.phase = .running then some k.work else none)
theorem witness_NbuCommands :
    ((busy [nbu1]).starts 1 0x40 = some nbu1) ∧
    ((let c := { nbu1 with phase := .running, work := .nbu [] }; ready1.cmd? 1 = some c ∧ ready1.mayDispatch c = true ∧ c.work = .nbu [] ∧
      ready1.retiredOf c = none)) ∧
    ((let s := { busy [nbuGone] with nbuReady := [1], mem := { r0.mem with retired := [0x80000000] } }; s.cmd? 1 = some nbuGone ∧
      s.mayDispatch nbuGone = true ∧ (s.retiredOf nbuGone).isSome = true)) ∧
    ((busy [nbuGone]).cmd? 1 = some nbuGone ∧ (busy [nbuGone]).mayDispatch nbuGone = false) ∧
    ((let q := { seqOf 0 with pc := 1, ended := true }; let s := running q; s.nbu 0 0 = some q ∧ q.prog.length ≤ q.pc ∧
      (s.cmd? q.cmd).map (fun c => (c.phase, c.work)) = some (.running, .nbu [(0, 0)]) ∧
      [(0, 0)].filter (fun x => x != ((0 : Nat), (0 : Nat))) = [])) ∧
    ((let q := { seqOf 0 with pc := 1 }; (running q).firmwareIssues q = true)) ∧
    ((let c := decoding [(0, 0)]; let s := endOf c (paged []); s.nbu 0 0 = some { seqOf 0 with pc := 1, ended := true } ∧ s.cmd? 1 = some c ∧
      afterPart c (paged []) = some c.work)) ∧
    ((endOf stepEnd (busy [])).cmd? 1 = some stepEnd ∧ afterPart stepEnd (busy []) = some stepEnd.work) ∧
    ((running (seqOf 1)).nbu 0 0 = some (seqOf 1) ∧ (seqOf 1).pc < (seqOf 1).prog.length) := ⟨by decide +kernel, by decide +kernel,
      by decide +kernel, by decide +kernel, by decide +kernel, by decide +kernel, by decide +kernel, by decide +kernel, by decide +kernel⟩

/-- The duty of the layer of that unit is cut. -/
def slowed (q : NbuSeq) : State := (running q).setFld (Reg.thmMemDuty (bankLayer 0 0)) 2 0 3
theorem witness_NbuRegisterOps :
    (0 < 256 ∧ 0 < 32 ∧ [0x08, 0x09, 0x0A, 0x0B, 0x0C, 0x0D, 0x0E, 0x0F, 0x10, 0x11].all stands = true) ∧
    ((running (seqOf 8)).dutyCut 0 0 = false ∧ (slowed (seqOf 8)).dutyCut 0 0 = true ∧ ((slowed (seqOf 8)).microOp 0 0 8).isSome = true) ∧
    ([0x08, 0x09, 0x0A, 0x0B, 0x0C, 0x0D, 0x0E, 0x10, 0x11].all (fun op => (r0.microOp 0 0 op).isNone) = true) := by decide +kernel

/-- Whether an access is refused at an address. -/
def refusedAt (a : Nat) : Except Nat (Nat × Nat) → Bool
  | .error x => x == a
  | .ok _ => false

/-- A sequence at a micro-op of some registers, its stream the 4,096 bytes from 0. -/
def streaming (op cnt : Nat) : NbuSeq := { seqOf op with prog := [BitVec.ofNat 64 (2 ^ 58 * op + 2 ^ 42 * cnt)] }
/-- Whether its access fits its stream, and reads or writes without an error. -/
def fits (q : NbuSeq) : Bool :=
  let s := running q
  let u := q.prog.getD 0 0
  match (s.microOp 0 0 (uOp u)), ((s.warnDuty q).arrive env0).streamAccess q u with
  | some x, .ok (p, n) => decide (x = (q, u)) && !s.colFailed 0 && !s.flipArmed 0 && decide (uVd u + uCnt u < 16) && decide (q.vregs.length = 16) && decide (q.bad = []) &&
      (List.range n).all (fun i => decide (s.blockErr 0 (s.cellOf 0 (p + i)) = ⟨0, 0⟩))
  | _, _ => false
theorem witness_NbuControlAndMemoryOps :
    (0 < 256 ∧ 0 < 32 ∧ [0x18, 0x20, 0x21, 0x22, 0x28, 0x29, 0x2A, 0x2B, 0x00, 0x01, 0x02].all stands = true) ∧
    ((slowed (seqOf 0x18)).dutyCut 0 0 = true ∧ ((slowed (seqOf 0x18)).microOp 0 0 0x18).isSome = true ∧ (running (seqOf 0x18)).dutyCut 0 0 = false) ∧
    ([0x18, 0x20, 0x21, 0x22, 0x28, 0x29, 0x2A, 0x2B].all (fun op => (r0.microOp 0 0 op).isNone) = true) ∧
    ((seqOf 0).clashed = [] ∧ ((running (seqOf 0)).cmd? (seqOf 0).cmd).isSome = true) ∧
    (∀ op ∈ [1, 2], (let q := { seqOf op with srcLen := 0, dstLen := 0 }; let s := running q; (s.microOp 0 0 op).map (fun x => x.1) = some q ∧
      refusedAt 0 (((s.warnDuty q).arrive env0).streamAccess q (q.prog.getD 0 0)) = true)) ∧
    (fits (streaming 1 0) = true ∧ uCnt ((streaming 2 0).prog.getD 0 0) = 0) ∧
    (fits (streaming 1 15) = true ∧ fits (streaming 2 0) = true) := ⟨by decide +kernel, by decide +kernel, by decide +kernel,
      by decide +kernel, by decide +kernel, by decide +kernel, by decide +kernel⟩

/-- The dike of polder 0 is up. -/
def diked (cs : List Cmd) : State := (busy cs).setBit Reg.dikePolder 0 true
/-- A DMA of 64 bytes with no tree, between addresses of its own. -/
def dmaOf (src dst : Nat) : Cmd := cmdOf 1 0x50 [(0x10, 8, src), (0x18, 8, dst), (0x20, 4, 64), (0x28, 2, 0xFFFF), (0x2A, 2, 0xFFFF)]
/-- A counter operation on the core counter 0 of core 0. -/
def ctrOf (op v : Nat) : Cmd := cmdOf 1 0x61 [(0x18, 1, op), (0x1C, 4, v)]

/-- A DMA by a multicast tree of the polder to the local stores of cores 0 and 1, its source with the tree's core or with the base die. -/
def spread (bd : Bool) (src : Nat) : State × Cmd :=
  let c := cmdOf 1 0x50 [(0x10, 8, src), (0x18, 8, 2 ^ 41), (0x20, 4, 64), (0x28, 2, 5), (0x2A, 2, 0xFFFF)]
  ({ busy [c] with image := some { image0 with trees := [⟨5, 0, 0, bd, 3⟩] } }, c)
/-- Whether it starts, and meets no failure. -/
def spreads (x : State × Cmd) : Option Bool :=
  let u := x.1.arrive env0
  if x.1.starts 1 0x50 = some x.2 ∧ x.1.meetsDike x.2 = false ∧ addrSpace (x.2.addr 0x18) ≠ 0x20 ∧ addrSpace (x.2.addr 0x10) ≠ 0x20 ∧ dmaTree x.2.desc ≠ 0xFFFF ∧ dmaSignal x.2.desc = false then
    (u.tree? (dmaTree x.2.desc)).map (fun t => goes (Run.dmaTree x.2 (u.polderOf x.2) t)
      (if t.bdRoot then u.beginCmd 1 .none else (u.beginCmd 1 .none).spanStart t.source x.2))
  else none
/-- A counter operation on a counter by scope and index, and what it finds there. -/
def ctrAt (scope op v : Nat) : Cmd := cmdOf 1 0x61 [(0x10, 1, scope), (0x18, 1, op), (0x1C, 4, v)]
def ctrFinds (s : State) (c : Cmd) (op : Nat) : Option (Bool × Option Nat) :=
  let w := s.beginCmd 1 (if op = 0 then .none else .wait)
  let b := if op ≠ 0 ∧ (ctrRef c.desc 0x10).scope = 0 then w.waitOpens (ctrRef c.desc 0x10).unit else w
  (s.counterStarts 1 op).map (fun _ => (b.ctrFenced (ctrRef c.desc 0x10) (s.polderOf c), (b.ctrGet (s.polderOf c) (ctrRef c.desc 0x10)).1))
/-- The shared memory that holds the device counters has two wrong bits. -/
def sick (s : State) : State := { s with mem := { s.mem with sharedErr := [(0, 2)] } }
/-- The writes of context 0 to device 2 that are unacknowledged. -/
def writing (c : Cmd) : State := { busy [c] with fab := { r0.fab with flows := [(2, some ⟨1, 1, [⟨0, 0x01, 0, 0, List.replicate 16 0, [], some 1, some 0, some 0, false, false, none⟩], 0, 0, false, 0, 0, false⟩)] } }
theorem witness_MoveAndSync :
    ([(1, 0x01), (2, 0x02), (3, 0x03), (4, 0x10), (5, 0x11)].all (fun x => (((diked [gemm1, conv2, elem3, { fwd2 with id := 4 }, { bwd3 with id := 5 }]).starts x.1 x.2).map (fun c => (diked []).meetsDike c)) == some true) = true) ∧
    ((diked [dmaOf 0 0x1000]).starts 1 0x50 = some (dmaOf 0 0x1000) ∧ (diked [dmaOf 0 0x1000]).meetsDike (dmaOf 0 0x1000) = true) ∧
    ((let c := dmaOf 0 0x1000; let s := busy [c]; s.starts 1 0x50 = some c ∧ s.meetsDike c = false ∧ addrSpace (c.addr 0x18) ≠ 0x20 ∧
      addrSpace (c.addr 0x10) ≠ 0x20 ∧ dmaTree c.desc = 0xFFFF ∧ dmaSignal c.desc = false ∧
      goes (Run.dmaLocal c ((s.arrive env0).polderOf c)) (((s.arrive env0).beginCmd c.id .none).dmaSpans c) = true)) ∧
    ((let c := dmaOf 0x100001000 0x1000; let s := broken (busy [c]); s.starts 1 0x50 = some c ∧ s.meetsDike c = false ∧
      goes (Run.dmaLocal c ((s.arrive env0).polderOf c)) (((s.arrive env0).beginCmd c.id .none).dmaSpans c) = false)) ∧
    ((let c := dmaOf (2 ^ 40 * 0x20) 0x1000; let s := busy [c]; s.starts 1 0x50 = some c ∧ s.meetsDike c = false ∧ addrSpace (c.addr 0x18) ≠ 0x20 ∧
      addrSpace (c.addr 0x10) = 0x20)) ∧
    ((let c := dmaOf 0 (2 ^ 40 * 0x20); let s := busy [c]; s.starts 1 0x50 = some c ∧ s.meetsDike c = false ∧ addrSpace (c.addr 0x18) = 0x20 ∧
      goes (Run.dmaOut c ((s.arrive env0).polderOf c)) (((s.arrive env0).beginCmd c.id (.fabric [])).dmaSpans c) = true)) ∧
    ((let c := dmaOf 0x100001000 (2 ^ 40 * 0x20); let s := broken (busy [c]); s.starts 1 0x50 = some c ∧ s.meetsDike c = false ∧
      goes (Run.dmaOut c ((s.arrive env0).polderOf c)) (((s.arrive env0).beginCmd c.id (.fabric [])).dmaSpans c) = false)) ∧
    (spreads (spread true 0) = some true ∧ spreads (spread false 0) = some true ∧
      spreads (broken (spread true 0x100001000).1, (spread true 0x100001000).2) = some false) ∧
    ((let c := cmdOf 1 0x60 [(0x10, 1, 2)]; (busy [c]).starts 1 0x60 = some c ∧ dbyte c.desc 0x10 = 2 ∧ (busy [c]).peerWrites c.ctx = 0 ∧
      (writing c).starts 1 0x60 = some c ∧ 0 < (writing c).peerWrites c.ctx)) ∧
    (ctrFinds (busy [ctrAt 0 0 1]) (ctrAt 0 0 1) 0 = some (false, some 0) ∧ ctrFinds (busy [ctrAt 1 0 1]) (ctrAt 1 0 1) 0 = some (false, some 0) ∧
      ctrFinds (busy [ctrAt 3 0 1]) (ctrAt 3 0 1) 0 = some (false, some 0)) ∧
    (ctrFinds (diked [ctrAt 0 0 1]) (ctrAt 0 0 1) 0 = some (true, some 0) ∧ ctrFinds (diked [ctrAt 0 1 0]) (ctrAt 0 1 0) 1 = some (true, some 0)) ∧
    (ctrFinds (sick (busy [ctrAt 3 0 1])) (ctrAt 3 0 1) 0 = some (false, none) ∧
      ctrFinds (sick (busy [ctrAt 3 1 0])) (ctrAt 3 1 0) 1 = some (false, none)) ∧
    (ctrFinds (busy [ctrAt 0 1 0]) (ctrAt 0 1 0) 1 = some (false, some 0) ∧ waitHolds 0 (ctrValue (ctrAt 0 1 0).desc) = true ∧
      waitHolds 0 (ctrValue (ctrAt 0 1 1).desc) = false) := ⟨by decide +kernel, by decide +kernel, by decide +kernel, by decide +kernel,
      by decide +kernel, by decide +kernel, by decide +kernel, by decide +kernel, by decide +kernel, by decide +kernel, by decide +kernel,
      by decide +kernel, by decide +kernel⟩

/-- A collective by its operation, and the harvest commands. -/
def collOf (op : Nat) : Cmd := cmdOf 1 0x30 [(0x2E, 1, op)]
/-- Group 1 of two shards without a unit, and a rebuild of it. -/
def rebuild1 : Cmd := cmdOf 1 0x72 [(0x10, 2, 1), (0x12, 1, 0), (0x20, 8, 64)]
def grouped : State := (busy [rebuild1]).setReg (Reg.parGrpCtrl 1) 0x80000000

/-- The ends of a HARVEST of 64 bytes at address 0, of no group or of group 1. -/
def harvestOf (g : Nat) : Cmd := cmdOf 1 0x70 [(0x10, 8, 0), (0x18, 8, 2 ^ 40 * 0x10), (0x20, 8, 64), (0x28, 8, 2 ^ 40 * 0x10 + 0x1000), (0x30, 2, g)]
def harvested (g : Nat) : State := match exec (.harvest 1 env0) ((busy [harvestOf g]).setReg (Reg.parGrpCtrl 1) 0x80000000) with
  | .next t => t
  | _ => r0
/-- A RESTORE of what it left, and what its run answers: the chunks that fail, where it meets no failure. -/
def restoreOf (g : Nat) : Cmd := cmdOf 2 0x71 [(0x10, 8, 2 ^ 40 * 0x10), (0x18, 8, 0), (0x20, 8, 64), (0x28, 8, 2 ^ 40 * 0x10 + 0x1000), (0x30, 2, g)]
def restores (s : State) (c : Cmd) : Option (List Nat) :=
  let u := s.arrive env0
  let b := if hvHasGroup c.desc then (u.beginCmd c.id (.restore [] [])).setBit (Reg.parGrpCtrl (hvGroup c.desc)) 30 true else u.beginCmd c.id (.restore [] [])
  let n := u.hvTotal c.desc
  let run : Run (List Nat) := do
    let rec' ← Run.read (fun _ => reqBdDma c) (u.polderOf c) (c.addr 0x28) (recordLen n)
    Run.restoreBody c (u.polderOf c) rec' (fun k => Run.read (fun _ => reqBdDma c) (u.polderOf c) (c.addr 0x10 + k * hvChunk) (chunkLen n k))
  match run b with
  | .ok l _ => some l
  | .error _ _ => none
def restoring (g : Nat) (bs : List Host.Cell) : State := { harvested g with cmds := [restoreOf g], host := ⟨bs.foldl (fun m c => SMap.set (fun _ => 0) m c.1 c.2) (harvested g).host.mem, [], []⟩ }
/-- How a collective begins on a state, and whether its steps are then done and no frame of it is unacknowledged. -/
def collGoes (s : State) (c : Cmd) : Option (Bool × Bool) :=
  let u := s.arrive env0
  if s.starts 1 0x30 = some c ∧ s.meetsDike c = false ∧ u.collRunning < 256 then
    match Run.collBegin c (u.polderOf c) (u.beginCmd c.id (.coll 0 [] [])) with
    | .ok () t => (t.cmd? 1).bind (fun k => match k.work with
      | .coll step _ _ => if k.phase = .running ∧ k.op = 0x30 then
          some (decide (if clOp k.desc = 3 then clCount k.desc ≤ step else clSteps k.desc (t.collSet (t.polderOf k)).length ≤ step), t.unackedOf 1 == 0) else none
      | _ => none)
    | .error _ _ => none
  else none
/-- A collective of 16 elements from column 1. -/
def collFar (op : Nat) : Cmd := cmdOf 1 0x30 [(0x10, 8, 0x100001000), (0x18, 8, 0x3000), (0x20, 8, 16), (0x2C, 1, 11), (0x2E, 1, op)]
/-- How a HARVEST goes: whether its body meets no failure, and whether no frame of it is then unacknowledged and its header is written. -/
def harvests (s : State) (c : Cmd) : Option (Bool × Bool) :=
  let u := s.arrive env0
  if s.starts 1 0x70 = some c ∧ s.meetsDike c = false then
    match Run.harvestBody c (u.polderOf c) (u.beginCmd c.id (.harvest none)) with
    | .ok hdr t => (t.cmd? 1).map (fun k =>
        let h : Cmd := { k with work := .harvest (some hdr) }
        let w := t.setWork 1 h.work
        (decide (k.phase = .running), w.unackedOf 1 == 0 && decide (addrSpace (h.addr 0x28) ≠ 0x20) &&
          goes (Run.write (fun _ => reqBdDma h) 1 (w.polderOf h) (h.addr 0x28) (withTick hdr w.tick)) w))
    | .error _ _ => some (false, false)
  else none
/-- A rebuild of group 1 whose descriptor or group registers differ. -/
def rebuildOf (ctrl : Word) : State := (busy [rebuild1]).setReg (Reg.parGrpCtrl 1) ctrl
theorem witness_CollectivesAndHarvests :
    (∀ op ∈ [0, 1, 2, 3, 4], (busy [collOf op]).starts 1 0x30 = some (collOf op) ∧ (busy [collOf op]).meetsDike (collOf op) = false ∧
      clOp (collOf op).desc = op ∧ clOp (collOf op).desc ≠ (op + 1) % 5 ∧
      collGoes (busy [collOf op]) (collOf op) = some (true, true) ∧ collGoes (writing (collOf op)) (collOf op) = some (true, false)) ∧
    (∀ op ∈ [0, 1, 2, 3, 4], (let c := collFar op; let s := broken (busy [c]); s.starts 1 0x30 = some c ∧ s.meetsDike c = false ∧
      s.collRunning < 256 ∧ collGoes s c = none)) ∧
    (∀ op ∈ [0, 1, 2, 3, 4], (let c := collOf op; let s := busy ((List.replicate 256 { c with id := 99, phase := .running }) ++ [c]); s.starts 1 0x30 = some c ∧ s.meetsDike c = false ∧ 256 ≤ (s.arrive env0).collRunning)) ∧
    (∀ op ∈ [0, 1, 2, 3, 4], (let c := collOf op; let s := busy [{ c with id := 99, phase := .running }, c]; s.starts 1 0x30 = some c ∧
      (s.arrive env0).collRunning < 256 ∧
      ((s.arrive env0).cmds.takeWhile (fun k => k.id != 1)).any (fun k => decide (k.op = 0x30) && decide ((s.arrive env0).polderOf k = (s.arrive env0).polderOf c) && decide (clId k.desc = clId c.desc) && decide (clEpoch k.desc = clEpoch c.desc)) = true)) ∧
    ((let c := harvestOf 1; (busy [c]).starts 1 0x70 = some c ∧ (busy [c]).meetsDike c = false ∧ hvHasGroup c.desc = true ∧
      ((busy [c]).arrive env0).parValid (hvGroup c.desc) = false)) ∧
    (hvHasGroup (harvestOf 0xFFFF).desc = false ∧ harvests (busy [harvestOf 0xFFFF]) (harvestOf 0xFFFF) = some (true, true) ∧
      harvests (writing (harvestOf 0xFFFF)) (harvestOf 0xFFFF) = some (true, false)) ∧
    ((let c := cmdOf 1 0x70 [(0x10, 8, 0x100001000), (0x18, 8, 2 ^ 40 * 0x10), (0x20, 8, 64), (0x28, 8, 2 ^ 40 * 0x10 + 0x1000), (0x30, 2, 0xFFFF)]; harvests (broken (busy [c])) c = some (false, false))) ∧
    ((let c := restoreOf 1; (busy [c]).starts 2 0x71 = some c ∧ (busy [c]).meetsDike c = false ∧ hvHasGroup c.desc = true ∧
      ((busy [c]).arrive env0).parValid (hvGroup c.desc) = false)) ∧
    ((let c := restoreOf 0xFFFF; (busy [c]).starts 2 0x71 = some c ∧ hvHasGroup c.desc = false ∧ addrSpace (c.addr 0x10) ≠ 0x20 ∧
      addrSpace (c.addr 0x28) ≠ 0x20 ∧ restores (busy [c]) c = none)) ∧
    ((restoring 0xFFFF []).starts 2 0x71 = some (restoreOf 0xFFFF) ∧ restores (restoring 0xFFFF []) (restoreOf 0xFFFF) = some []) ∧
    (restores (restoring 0xFFFF [(0, 1)]) (restoreOf 0xFFFF) = some [0]) ∧
    ((restoring 1 []).starts 2 0x71 = some (restoreOf 1) ∧ ((restoring 1 []).arrive env0).parValid (hvGroup (restoreOf 1).desc) = true ∧
      restores (restoring 1 []) (restoreOf 1) = some []) ∧
    ((let c := cmdOf 1 0x71 [(0x10, 8, 2 ^ 40 * 0x20), (0x20, 8, 64), (0x28, 8, 2 ^ 40 * 0x20), (0x30, 2, 0xFFFF)]; (busy [c]).starts 1 0x71 = some c ∧ (busy [c]).meetsDike c = false ∧ addrSpace (c.addr 0x10) = 0x20 ∧ addrSpace (c.addr 0x28) = 0x20)) ∧
    ((let c := rebuild1; let u := grouped.arrive env0; grouped.meetsDike c = false ∧ grouped.starts 1 0x72 = some c ∧
      (u.cmds.takeWhile (fun k => k.id != c.id)).any (fun k => k.op = 0x72 && decide (pbGroup k.desc = pbGroup c.desc)) = false ∧
      u.parValid (pbGroup c.desc) = true ∧ u.parShard (pbGroup c.desc) = pbLost c.desc ∧
      64 + 4 * u.parUnits (pbGroup c.desc) ≤ dfld c.desc 0x20 8 ∧ u.parPolder (pbGroup c.desc) = u.polderOf c ∧
      (u.helpersFor (pbGroup c.desc) 0 []).isSome = true)) ∧
    ((let s := busy [{ rebuild1 with id := 99, phase := .running }, rebuild1]; s.starts 1 0x72 = some rebuild1 ∧
      (s.cmds.takeWhile (fun k => k.id != 1)).any (fun k => k.op = 0x72 && decide (pbGroup k.desc = pbGroup rebuild1.desc)) = true)) ∧
    ((busy [rebuild1]).starts 1 0x72 = some rebuild1 ∧ ((busy [rebuild1]).arrive env0).parValid 1 = false) ∧
    ((let u := (rebuildOf 0x80010000).arrive env0; (rebuildOf 0x80010000).starts 1 0x72 = some rebuild1 ∧ u.parValid 1 = true ∧
      u.parShard 1 = pbLost rebuild1.desc ∧ 64 + 4 * u.parUnits 1 ≤ dfld rebuild1.desc 0x20 8 ∧ u.parPolder 1 ≠ u.polderOf rebuild1)) ∧
    ((let u := (rebuildOf 0x80000002).arrive env0; (rebuildOf 0x80000002).starts 1 0x72 = some rebuild1 ∧ u.parValid 1 = true ∧
      u.parShard 1 = pbLost rebuild1.desc ∧ u.parPolder 1 = u.polderOf rebuild1 ∧ u.helpersFor 1 0 [] = none)) :=
  ⟨by decide +kernel, by decide +kernel, by decide +kernel, by decide +kernel, by decide +kernel, by decide +kernel, by decide +kernel,
      by decide +kernel, by decide +kernel, by decide +kernel, by decide +kernel, by decide +kernel, by decide +kernel, by decide +kernel,
      by decide +kernel, by decide +kernel, by decide +kernel, by decide +kernel⟩

/-- An ABORT of command context 0: all of it, or one command by slot and tag. -/
def abort9 (all : Bool) (slot tag : Nat) : Cmd := cmdOf 9 0x7F [(0x10, 2, 0), (0x12, 2, slot), (0x14, 2, tag), (0x16, 1, if all then 1 else 0)]
/-- A started command, and one that is to stop. -/
def begun (c : Cmd) (w : Work) : Cmd := { c with phase := .running, work := w }
def halting (c : Cmd) (st since : Nat) : Cmd := { c with phase := .stopping st since }

theorem witness_AbortsAndOverruns :
    ((let c := { abort9 true 0 0 with ctx := 0, desc := descOf [(0, 1, 0x7F), (0x10, 2, 4096)] }; let s := busy [c]; s.abortStarts 9 = some c ∧
      s.abortCtx c = none)) ∧
    ((let c := abort9 true 0 0; let s := busy [c]; s.abortStarts 9 = some c ∧ s.abortCtx c = some 0 ∧ abortAll c.desc = true ∧ s.submitted 0 = [] ∧
      (s.cmds.filter (fun k => decide (k.ctx = 0) && decide (k.op ≠ 0x7F))).map (fun k => k.id) = [])) ∧
    ((let c := abort9 true 0 0; let s := busy [gemm1, c]; s.abortStarts 9 = some c ∧ s.abortCtx c = some 0 ∧ abortAll c.desc = true ∧
      (s.cmds.filter (fun k => decide (k.ctx = 0) && decide (k.op ≠ 0x7F))).map (fun k => k.id) = [1])) ∧
    ((let c := abort9 true 0 0; let s := ((busy [c]).setReg (Reg.ctxRingSize 0) 0x4).setReg (Reg.ctxSqTail 0) 1; s.abortStarts 9 = some c ∧
      s.abortCtx c = some 0 ∧ abortAll c.desc = true ∧ s.submitted 0 = [0] ∧
      (s.cmds.filter (fun k => decide (k.ctx = 0) && decide (k.op ≠ 0x7F))).map (fun k => k.id) = [])) ∧
    ((let c := abort9 false 9 0; let s := busy [c]; s.abortStarts 9 = some c ∧ s.abortCtx c = some 0 ∧ abortAll c.desc = false ∧
      s.cmds.find? (fun k => decide (k.ctx = 0) && decide (k.slot = dfld c.desc 0x12 2) && decide (dfld k.desc 2 2 = dfld c.desc 0x14 2)) = some c ∧ c.op = 0x7F)) ∧
    ((let c := abort9 false 1 0; let s := busy [gemm1, c]; s.abortStarts 9 = some c ∧ s.abortCtx c = some 0 ∧ abortAll c.desc = false ∧
      s.cmds.find? (fun k => decide (k.ctx = 0) && decide (k.slot = dfld c.desc 0x12 2) && decide (dfld k.desc 2 2 = dfld c.desc 0x14 2)) = some gemm1 ∧ gemm1.op ≠ 0x7F)) ∧
    ((let c := begun (abort9 false 1 0) (.abort [1]); let k := halting gemm1 St.aborted 5; let s := { busy [k, c] with tick := 25000 }; s.cmd? 9 = some c ∧ c.phase = .running ∧ c.work = .abort [1] ∧ c.fetched + 25000 ≤ s.tick ∧ s.cmd? 1 = some k ∧ k.phase = .stopping St.aborted 5)) ∧
    ((let c := begun gemm1 (.array [] 0 none 0); let s := { busy [c] with tick := 2500000000 }; s.cmd? 1 = some c ∧ c.vigilEnd ≤ s.tick ∧
      s.flowStopped = false ∧ c.stoppable = true ∧ c.replayed = false ∧ c.holdsUnits = true)) ∧
    ((let s := { busy [gemm1] with tick := 2500000000 }; s.cmd? 1 = some gemm1 ∧ gemm1.vigilEnd ≤ s.tick ∧ s.flowStopped = false ∧
      gemm1.stoppable = true ∧ gemm1.replayed = false ∧ gemm1.holdsUnits = false)) ∧
    ((let c := halting { gemm1 with work := .array [] 0 none 0 } St.aborted 100; let s := { busy [c] with tick := 25100 }; s.cmd? 1 = some c ∧
      c.phase = .stopping St.aborted 100 ∧ 100 + 25000 ≤ s.tick ∧ (s.cmdCores c).contains 0 = true)) ∧
    ((let c := halting nbu1 St.aborted 100; let s := { busy [c] with tick := 25100 }; s.cmd? 1 = some c ∧ c.phase = .stopping St.aborted 100 ∧
      100 + 25000 ≤ s.tick ∧ 2 ≤ 2 ∧ 4 ≤ 4)) ∧
    ((let c := cmdOf 1 0x80 [(0x10, 1, 1), (0x14, 4, 7)]; let s := { busy [c] with tick := 175000 }; s.cmd? 1 = some c ∧ c.op = 0x80 ∧
      stTest c.desc ≤ 1 ∧ c.phase = .waiting ∧ stDeadline c.desc ≠ 0 ∧ c.fetched + 25000 * stDeadline c.desc ≤ s.tick)) ∧
    ((let c := abort9 false 0 0; let s := ((busy [c]).setReg (Reg.ctxRingSize 0) 0x4).setReg (Reg.ctxSqTail 0) 1; s.abortStarts 9 = some c ∧
      s.abortCtx c = some 0 ∧ abortAll c.desc = false ∧
      s.cmds.find? (fun k => decide (k.ctx = 0) && decide (k.slot = dfld c.desc 0x12 2) && decide (dfld k.desc 2 2 = dfld c.desc 0x14 2)) = none ∧
      (s.submitted 0).contains (dfld c.desc 0x12 2) = true)) ∧
    ((let c := abort9 false 0 0; let s := busy [c]; s.abortStarts 9 = some c ∧ s.abortCtx c = some 0 ∧ abortAll c.desc = false ∧
      s.cmds.find? (fun k => decide (k.ctx = 0) && decide (k.slot = dfld c.desc 0x12 2) && decide (dfld k.desc 2 2 = dfld c.desc 0x14 2)) = none ∧
      (s.submitted 0).contains (dfld c.desc 0x12 2) = false)) ∧
    ((let c := begun (abort9 false 1 0) (.abort [1]); let s := { busy [c] with tick := 24999 }; s.cmd? 9 = some c ∧ c.phase = .running ∧
      c.work = .abort [1] ∧ s.tick < c.fetched + 25000)) ∧
    ((busy [gemm1]).tick < gemm1.vigilEnd ∧ (busy [gemm1]).resets.jobs = [] ∧ (busy [gemm1]).loader.stage ≠ .committing) ∧
    ((let c := { begun gemm1 (.array [] 0 none 0) with replayed := true }; let s := { busy [c] with tick := 2500000000, resets := { r0.resets with replay := some ⟨0, [], some 1, 0, 0⟩ } }; s.cmd? 1 = some c ∧ c.vigilEnd ≤ s.tick ∧ s.flowStopped = false ∧ c.stoppable = true ∧ c.replayed = true ∧ c.holdsUnits = true)) ∧
    ((let c := { gemm1 with replayed := true }; let s := { busy [c] with tick := 2500000000 }; s.cmd? 1 = some c ∧
      c.vigilEnd ≤ s.tick ∧ s.flowStopped = false ∧ c.stoppable = true ∧ c.replayed = true ∧ c.holdsUnits = false)) ∧
    ((let c := halting nbu1 St.aborted 100; let s := { busy [c] with tick := 25099 }; s.cmd? 1 = some c ∧ c.phase = .stopping St.aborted 100 ∧
      s.tick < 100 + 25000)) ∧
    ((let c := cmdOf 1 0x80 [(0x10, 1, 1), (0x14, 4, 7)]; let s := { busy [c] with tick := 174999 }; s.cmd? 1 = some c ∧ c.op = 0x80 ∧
      stTest c.desc ≤ 1 ∧ c.phase = .waiting ∧ stDeadline c.desc ≠ 0 ∧
      s.tick < c.fetched + 25000 * stDeadline c.desc)) := ⟨by decide +kernel, by decide +kernel, by decide +kernel, by decide +kernel,
      by decide +kernel, by decide +kernel, by decide +kernel, by decide +kernel, by decide +kernel, by decide +kernel, by decide +kernel,
      by decide +kernel, by decide +kernel, by decide +kernel, by decide +kernel, by decide +kernel, by decide +kernel, by decide +kernel,
      by decide +kernel, by decide +kernel⟩

/-- A self-test by its code, of unit 0. -/
def testOf (test : Nat) : Cmd := cmdOf 1 0x80 [(0x10, 1, test)]
/-- It runs on core 0. -/
def inTest (test : Nat) : State := (busy [begun (testOf test) .test]).setCore 0 { imaged.core 0 with test := some 1 }

/-- The cluster of core 0 is held. -/
def heldCluster (cs : List Cmd) : State := (busy cs).setBit (Reg.pwrGroup 0) 16 true

theorem witness_SelfTests :
    ([0, 1, 2, 3, 4].all (fun x => !(busy [testOf x]).meetsDike (testOf x) && !(busy [testOf x]).clusterHeld (stCore (testOf x).desc / 8)) = true) ∧
    ([0, 1].all (fun x => (busy [testOf x]).runningTest 1 x == none && (busy [testOf x]).startsTest 1 x == some (testOf x) && (busy [testOf x]).coreIdle (stCore (testOf x).desc)) = true) ∧
    ([0, 1].all (fun x => let s := busy [testOf x, { begun gemm1 (.array [] 0 none 0) with id := 2 }]
      let s := s.setCore 0 { s.core 0 with sets := [⟨2, [(0, 0, 16)], false, [], [], []⟩] }
      s.runningTest 1 x == none && s.startsTest 1 x == some (testOf x) && !s.coreIdle (stCore (testOf x).desc)) = true) ∧
    ([0, 1].all (fun x => (inTest x).runningTest 1 x == some (begun (testOf x) .test) && !(inTest x).meetsDike (begun (testOf x) .test)) = true) ∧
    ((let s := (busy [testOf 2]).arrive env0; s.startsTest 1 2 = some (testOf 2) ∧ s.meetsDike (testOf 2) = false ∧ s.clusterHeld 0 = false ∧
      (s.scrubStore (stCore (testOf 2).desc)).1 = true)) ∧
    ((busy [testOf 3]).startsTest 1 3 = some (testOf 3)) ∧
    ([0, 1, 3].all (fun x => (heldCluster [testOf x]).clusterHeld (stCore (testOf x).desc / 8) && (heldCluster [testOf x]).startsTest 1 x == some (testOf x) && (heldCluster [testOf x]).runningTest 1 x == none && !(heldCluster [testOf x]).meetsDike (testOf x)) = true) ∧
    ((busy [testOf 4]).startsTest 1 4 = some (testOf 4) ∧ (busy [testOf 4]).portUp (stCore (testOf 4).desc) = false) ∧
    ((let s := (busy [testOf 4]).setReg (Reg.fabPortStatus 0) 1; s.startsTest 1 4 = some (testOf 4) ∧
      s.portUp (stCore (testOf 4).desc) = true)) := ⟨by decide +kernel, by decide +kernel, by decide +kernel, by decide +kernel,
      by decide +kernel, by decide +kernel, by decide +kernel, by decide +kernel, by decide +kernel⟩

/-- A STORE is being written. -/
def storing : State := { r0.setBit Reg.nvsStatus 0 true with mbx := ⟨some (⟨none, 3, 0, 0, 0⟩, []), []⟩ }

/-- The mailbox's arguments. -/
def argued (s : State) (a0 a1 a2 : Word) : State := ((s.setReg (Reg.mbxArg 0) a0).setReg (Reg.mbxArg 1) a1).setReg (Reg.mbxArg 2) a2
/-- The mailbox is free, and what a command of MBX_CMD then finds: its key's range, whether its polders are stopping. -/
def mbxFree (s : State) : Bool := s.hostOpen && !s.bit Reg.mbxStatus 0 && s.mbx.running.isNone && s.mbx.queue.isEmpty
theorem witness_MailboxAndStore :
    ((let s := r0.setBit Reg.mbxStatus 0 true; s.hostOpen = true ∧ s.bit Reg.mbxStatus 0 = true)) ∧
    (mbxFree r0 = true ∧ r0.hostOpen = true ∧ r0.bit Reg.mbxStatus 0 = false ∧ r0.mbx.running = none ∧ r0.mbx.queue = [] ∧ r0.sets.lastStore = none) ∧
    ((let s := argued r0 4 10 0; mbxFree s = true ∧ s.setting? (s.nat (Reg.mbxArg 0) % 65536) = some (Key.rto, 10, 10000, 50) ∧
      10 ≤ s.nat (Reg.mbxArg 1) ∧ s.nat (Reg.mbxArg 1) ≤ 10000 ∧ Key.rto ≠ Key.minImageSerial ∧ s.nat (Reg.mbxArg 1) % 4 ≠ 3)) ∧
    ((let s := argued imaged 1 1 60000; mbxFree s = true ∧ s.image.isSome = true ∧ s.nat (Reg.mbxArg 2) ≤ 60000 ∧
      (s.nat (Reg.mbxArg 1)).testBit 1 = false ∧ 0 ∈ s.polders ∧ (s.nat (Reg.mbxArg 0)).testBit 0 = true ∧ s.runState 0 = .running)) ∧
    ((let s := argued (imaged.setRun 0 .stopped) 1 0 0; mbxFree s = true ∧ s.image.isSome = true ∧ s.bit Reg.imgStatus 0 = false ∧
      s.polders = [0] ∧ s.runState 0 = .stopped)) ∧
    ((let s := argued (imaged.setRun 0 (.stopping 100 false true 0)) 1 0 0; mbxFree s = true ∧ s.image.isSome = true ∧ 0 ∈ s.polders ∧
      (s.nat (Reg.mbxArg 0)).testBit 0 = true ∧ s.runState 0 = .stopping 100 false true 0)) ∧
    ((let s : State := { late 25000000 with sets := { r0.sets with lastStore := some 0 } }; mbxFree s = true ∧ s.sets.lastStore = some 0 ∧
      0 + 25000000 ≤ s.tick)) ∧
    ((let s : State := { late 24999999 with sets := { r0.sets with lastStore := some 0 } }; mbxFree s = true ∧ s.sets.lastStore = some 0 ∧
      s.tick < 0 + 25000000)) ∧
    ((⟨none, 3, 0, 0, 0⟩ : MbxReq).src = none ∧ (255 : Nat) < 256) ∧
    (({ r0 with pins := { r0.pins with perst := true } } : State).hostOpen = false) ∧
    (storing.mbx.running = some (⟨none, 3, 0, 0, 0⟩, []) ∧ storing.mbx.queue = []) := ⟨by decide +kernel, by decide +kernel,
      by decide +kernel, by decide +kernel, by decide +kernel, by decide +kernel, by decide +kernel, by decide +kernel, by decide +kernel,
      by decide +kernel, by decide +kernel⟩

theorem witness_MailboxCommands :
    ((r0.setting? 0xFFFF).isNone = true ∧ (3 % 4 = 3) ∧ (r0.setting? Key.minImageSerial).isSome = true ∧ r0.setting? 0xFFFF = none) ∧
    (((r0.setting? Key.rto).map (fun r => (r.2.1, r.2.2.1))) = some (10, 10000) ∧ 9 < 10 ∧ 10000 < 10001) ∧
    ((let s := { r0 with sets := { r0.sets with durable := [(Key.minImageSerial, 5)] } }; (s.setting? Key.minImageSerial).map (fun r => (r.2.1, r.2.2.1)) = some (0, 0xFFFFFFFF) ∧ Key.minImageSerial % 65536 = Key.minImageSerial ∧ 4 < s.durableVal Key.minImageSerial)) ∧
    (r0.image = none ∧ 0x03 ∉ [0x01, 0x02, 0x04, 0x05, 0x10, 0x11]) := ⟨by decide +kernel, by decide +kernel, by decide +kernel, by decide +kernel⟩

/-- Polder 0 in a run state. -/
def polder (r : RunState) : State := imaged.setRun 0 r

theorem witness_RunStates :
    (imaged.runState 31 = .running ∧ (polder (.stopping 100 false true 0)).runState 0 = .stopping 100 false true 0 ∧
      (polder .stopped).runState 0 = .stopped) ∧
    ((let s := { polder (.stopping 100 false false 0) with tick := 100 }; s.runState 0 = .stopping 100 false false 0 ∧ 100 ≤ s.tick ∧
      s.polderCmds 0 = [])) ∧
    ((let s := { polder (.stopping 100 false true 0) with tick := 99 }; s.runState 0 = .stopping 100 false true 0 ∧ s.tick < 100 ∧
      s.polderCmds 0 = [])) ∧
    (((busy [gemm1]).setReg (Reg.ctxBind 0) 0x80).polderCmds 0 ≠ []) ∧
    ((let s := polder (.stopping 100 true false 0); s.runState 0 = .stopping 100 true false 0 ∧
      s.polderCmds 0 = [])) := ⟨by decide +kernel, by decide +kernel, by decide +kernel, by decide +kernel, by decide +kernel⟩

/-- The settings owner of the test image is the holder of the firmware key. -/
def owned : State := { r0 with nvm := { r0.nvm with ownerHash := r0.fuses.fwKeys.getD 0 0 } }
/-- A load that copies or validates `n` bytes from `src`. -/
def loading (st : LoadStage) (src n : Nat) : State := { owned with loader := { owned.loader with stage := st, srcAddr := src, length := n } }
/-- Whether a check fails. -/
def isErr {α ε : Type} (r : Except ε α) : Bool := match r with
  | .ok _ => false
  | .error _ => true
/-- An image of one polder of all clusters, with a FORMATS and a POWER record, signed by the key of the firmware image. -/
def imageBytes : List Byte :=
  (List.range 512).map (fun i => ((([(0, 70), (1, 73), (2, 87), (3, 68), (6, 1), (9, 6), (13, 1), (24, 4), (28, 1), (32, 3), (37, 1), (256, 1), (257, 255), (260, 64), (261, 1), (264, 64), (268, 1), (272, 5), (273, 255), (276, 128), (277, 1), (280, 16), (284, 1), (288, 13), (289, 255), (292, 192), (293, 1), (296, 8), (300, 1), (324, 1), (328, 255), (385, 6), (389, 8), (394, 128), (395, 63), (451, 4)] : List (Nat × Byte)).find? (fun x => x.1 == i)).map (fun x => x.2)).getD 0) ++ (fwImage.drop 1024).take 512 ++
  beBytes 384 0xad4bd3c2df4aed99a061704768721b8275e2c6ff1a807c739a7a2bb6209acd38c1b39eff3c32136d78cb4204ee7d6c8138ac2203436bb4a2f87848321e8197ab57dda83be07d6391f3b07060158faa6bbb4020509f40f34d601398a2f64360040f9c96a0688b29de121954979181a192888af78301543073409b31ef147d5d024b8ee14ae1aa815ec0129914158beac684895570a5d1a156064afbc0e5b4c13d56a1f0a9ad7bd731aa9f0fc81c63528f6bab08aadd0abc0c06279300849eeca6901e916a8081ba9e87dde79fc97ba7b30e08fde41be629ecfc199f0e4a4a9a72b7c824f5c33a2459139926f1925da6f6972a29f4206ec3aac92458eff4dbd4808892475141b7b6330684fd621ae6799bf90588d1639e36b4f0ad86218df361355f46d83351a5f73e99df4ce92dc3e8b6c1be1d6b4cd609638930445adc8b94e94145513075d8481fa0d7a28e420e911a134b1f8593c5672c53ec6c0f7d8151e6bbcf89b132b18098b183d699891ab290de91da5164e151667583f8459e186e69 ++ List.replicate 128 0

/-- The address and the length that a load is to take. -/
def asked (lo hi len : Word) : State := ((r0.setReg Reg.imgSrcAddrLo lo).setReg Reg.imgSrcAddrHi hi).setReg Reg.imgLength len
/-- Whether the shadow area of a state holds an image that passes validation. -/
def validates (s : State) : Bool := match Val.image s.loader.length (s.arrive env0) with
  | .ok _ _ => true
  | .error _ _ => false
/-- The columns of the shadow area fail. -/
def shadowLost (s : State) : State := s.setReg (Reg.idMemFailed 0) 1
theorem witness_ImageLoads :
    (3 < 4 ∧ r0.hostOpen = true ∧ r0.loader.stage = .idle ∧ (loading .copying 0 0).loader.stage ≠ .idle) ∧
    (r0.areaNone = false ∧ (r0.setBit Reg.idBoot 27 true).areaNone = true ∧ r0.sourceOk 0 = true ∧ r0.sourceOk 3 = false ∧
      (asked 0 0x1000 64).areaNone = false ∧ (asked 0 0x1000 64).sourceOk 1 = true ∧ (asked 0 0 64).sourceOk 2 = true) ∧
    (({ r0 with pins := { r0.pins with perst := true } } : State).hostOpen = false) ∧
    ((loading .copying 0 0).hostOpen = true ∧ (loading .copying 0 0).loader.stage = .copying ∧ (loading .validating 0 0).loader.stage = .validating) ∧
    ((let s := loading .copying 0x400000 64; s.loader.stage = .copying ∧ (isHost s.loader.srcAddr && s.pcie.d3.contains 0) = false ∧
      (s.arrive env0).sourceRead.1 = some (List.replicate 64 0))) ∧
    ((let s := loading .copying (2 ^ 40 * 0x10) 64; s.loader.stage = .copying ∧ (isHost s.loader.srcAddr && s.pcie.d3.contains 0) = false ∧
      (s.arrive { env0 with unmapped := [(0, 64)] }).sourceRead.1 = none)) ∧
    ((let s := loading .validating 0 64; s.loader.stage = .validating ∧ validates s = false)) ∧
    (isErr ((loading .validating 0 1536).verdict imageBytes 1536) = false) ∧
    ((let s := { loading .committing 0 64 with loader := { (loading .committing 0 64).loader with next := some image0 } }; s.loader.stage = .committing ∧ s.loader.next = some image0 ∧ s.loader.heldResets = [] ∧ (s.shadowRead 64).2.1 = false ∧ ((shadowLost s).shadowRead 64).2.1 = true)) := ⟨by decide +kernel, by decide +kernel, by decide +kernel, by decide +kernel, by decide +kernel, by decide +kernel, by decide +kernel, by decide +kernel, by decide +kernel⟩

/-- One entry of the retirement list: a page of column 0. -/
def page0 : Word := 0
/-- A sequence runs on column 0, bank 0. -/
def running0 : State := running (seqOf 0)

theorem witness_MemoryUpkeep :
    ((let s := r0.setReg (Reg.memRemap 255 7) 0x80000005; 255 < 256 ∧ 7 < 8 ∧ (s.reg (Reg.memRemap 255 7)).getLsbD 31 = true ∧
      SMap.get (fun _ => 0) s.nvm.remap (8 * 255 + 7) ≠ s.reg (Reg.memRemap 255 7))) ∧
    ((r0.reg (Reg.memRemap 255 7)).getLsbD 31 = false) ∧
    (r0.hostOpen = true ∧ r0.mem.pendingRetire = none) ∧
    (retireOk (r0.reg Reg.memRetireEntry) = true ∧ r0.retireArea (r0.reg Reg.memRetireEntry) = false ∧
      r0.retireKnown (r0.reg Reg.memRetireEntry) = false ∧ r0.nvm.retire.length < 4096) ∧
    (retireOk ((r0.setReg Reg.memRetireEntry 0xC0000000).reg Reg.memRetireEntry) = false) ∧
    ((let s := r0.setReg Reg.memRetireEntry 0x17F; retireOk (s.reg Reg.memRetireEntry) = true ∧ s.retireArea (s.reg Reg.memRetireEntry) = true)) ∧
    ((let s := { r0 with nvm := { r0.nvm with retire := [page0] } }; retireOk (s.reg Reg.memRetireEntry) = true ∧
      s.retireArea (s.reg Reg.memRetireEntry) = false ∧ s.retireKnown (s.reg Reg.memRetireEntry) = true)) ∧
    ((let s := { r0 with nvm := { r0.nvm with retire := List.replicate 4096 1 } }; retireOk (s.reg Reg.memRetireEntry) = true ∧
      s.retireArea (s.reg Reg.memRetireEntry) = false ∧ s.retireKnown (s.reg Reg.memRetireEntry) = false ∧ 4096 ≤ s.nvm.retire.length)) ∧
    (({ r0 with mem := { r0.mem with pendingRetire := some page0 } } : State).mem.pendingRetire = some page0) ∧
    (255 < 256 ∧ (r0.arrive env0).colFailed 255 = false ∧
      ((r0.arrive env0).blockErr 255 (64 * SMap.get (fun _ => 0) (r0.arrive env0).mem.scrubPos 255)).now = 0) ∧
    (255 < 256 ∧ 31 < 32 ∧ r0.inSeq 255 31 = false) ∧
    (running0.inSeq 0 0 = true ∧ SMap.get (fun _ => 0) running0.mem.owed (32 * 0 + 0) < 4) ∧
    ((let s := { running0 with mem := { running0.mem with owed := [(0, 4)] } }; s.inSeq 0 0 = true ∧
      4 ≤ SMap.get (fun _ => 0) s.mem.owed (32 * 0 + 0))) ∧
    ((let s := late 45000000000; s.calDue 255 = true ∧ s.calibrating 255 = false ∧ r0.calDue 255 = false)) ∧
    ((let c := begun (cmdOf 1 0x80 [(0x10, 1, 3), (0x11, 1, 255)]) .test; let s := { busy [c] with mem := { r0.mem with calPending := [(255, 2)] } }; s.calibrating 255 = true ∧ s.cmd? 1 = some c ∧ c.op = 0x80 ∧ dbyte c.desc 0x10 = 3 ∧ dbyte c.desc 0x11 = 255 ∧ c.phase = .running)) := ⟨by decide +kernel, by decide +kernel, by decide +kernel, by decide +kernel, by decide +kernel, by decide +kernel, by decide +kernel, by decide +kernel, by decide +kernel, by decide +kernel, by decide +kernel, by decide +kernel, by decide +kernel, by decide +kernel, by decide +kernel⟩

/-- A reset of the level in progress: of core or polder 0. -/
def resetting (level : Nat) (closed : Option Nat) : State := { imaged with tick := 50000000, resets := { imaged.resets with jobs := [⟨level, 0, 1, none, 0, [], 0, closed, [], none⟩] } }
/-- The reset it finds. -/
def found (level : Nat) (closed : Option Nat) : Bool := decide ((resetting level closed).resets.jobs.find? (fun j => decide (j.level = level) && (decide (j.unit = 0) || decide (4 ≤ level))) = some ⟨level, 0, 1, none, 0, [], 0, closed, [], none⟩)

theorem witness_ResetCourse :
    ([2, 3, 4, 5].all (fun l => found l none && found l (some 7)) = true) ∧
    ([2, 3, 4, 5].all (fun l => let s := resetting l (some 7); !s.flowStopped && s.scopeEmpty l 0 && s.resets.queued.isEmpty && s.resets.replay.isNone) = true) ∧
    ((resetting 2 none).resets.jobs.length = 1) ∧
    ((let s := { resetting 2 (some 7) with cmds := [begun gemm1 (.array [(0, [[(0, 0, 16), (1, 0, 16)]])] 0 none 0)] }; s.flowStopped = false ∧
      s.scopeEmpty 2 0 = false)) ∧
    ([2, 3, 4, 5].all (fun l => decide (({ resetting l (some 7) with tick := 7 } : State).tick < 7 + resetBound l)) = true) ∧
    ((resetting 3 (some 7)).polderClusters 0 = [0] ∧ (resetting 3 (some 7)).clusterHeld 0 = false) ∧
    ((let s := resetting 2 (some 7); 7 + resetBound 2 ≤ s.tick ∧ s.flowStopped = false ∧ s.corePolder 0 = some 0 ∧ s.loader.stage ≠ .committing)) ∧
    ((let s := { resetting 2 (some 7) with image := none }; 7 + resetBound 2 ≤ s.tick ∧ s.flowStopped = false ∧ s.corePolder 0 = none)) ∧
    ([3, 4, 5].all (fun l => decide (7 + resetBound l ≤ (resetting l (some 7)).tick) && !(resetting l (some 7)).flowStopped && (resetting l (some 7)).resets.powerReq.isNone) = true) ∧
    (r0.hostOpen = true ∧ r0.resets.powerReq = none) ∧
    ((let s := { late 25000000 with resets := { r0.resets with powerReq := some (1, 0) } }; s.resets.powerReq = some (1, 0) ∧
      s.resets.lastPowerReq + 25000000 ≤ s.tick)) ∧
    ((let s := { late 24999999 with resets := { r0.resets with powerReq := some (1, 0) } }; s.resets.powerReq = some (1, 0) ∧
      s.tick < s.resets.lastPowerReq + 25000000)) := ⟨by decide +kernel, by decide +kernel, by decide +kernel, by decide +kernel,
      by decide +kernel, by decide +kernel, by decide +kernel, by decide +kernel, by decide +kernel, by decide +kernel, by decide +kernel,
      by decide +kernel⟩

/-- A firmware update over BAR0 or over PLDM, or a part of one. -/
def updating (p : FwPath) (b : FwBusy) : State := { r0 with sec := { r0.sec with path := some p, busy := b } }
/-- A verified copy of the firmware image of the slot. -/
def verified : State := let s := updating .bar0 .idle
  (s.setBit Reg.secFwStatus 2 true |>.setReg Reg.secFwLength 2048 |> fun t => { t with sec := { t.sec with staging := fwImage, verifiedLen := some 2048 } })

theorem witness_FirmwareUpdate :
    (r0.fwServed = true ∧ r0.sec.path = none) ∧
    ((updating .pldm .idle).fwServed = true ∧ (updating .pldm .idle).sec.path = some .pldm) ∧
    ((updating .bar0 .idle).fwServed = true ∧ (updating .bar0 .idle).sec.path = some .bar0 ∧ (updating .bar0 .idle).sec.busy = .idle ∧
      (updating .bar0 .idle).fwVerified = false) ∧
    (verified.fwServed = true ∧ verified.sec.path = some .bar0 ∧ verified.sec.busy = .idle ∧ verified.fwVerified = true) ∧
    (255 < 256 ∧ 255 ≠ 0xA5) ∧
    ((let s := { verified with sec := { verified.sec with busy := .verifying } }; s.sec.busy = .verifying ∧ s.sec.path = some .bar0 ∧
      s.fwVerdict = 0)) ∧
    ((let s := updating .bar0 .verifying; s.sec.busy = .verifying ∧ s.sec.path = some .bar0 ∧ s.fwVerdict ≠ 0 ∧ s.fwVerdict < 16)) ∧
    ((updating .bar0 .committing).sec.busy = .committing ∧ (updating .bar0 .committing).sec.path = some .bar0) := ⟨by decide +kernel,
      by decide +kernel, by decide +kernel, by decide +kernel, by decide +kernel, by decide +kernel, by decide +kernel, by decide +kernel⟩

/-- A module whose ownership is fixed by its fuse. -/
def locked : State := { r0 with fuses := { r0.fuses with ownerLocked := true } }

/-- A transfer record is asked for at host address 0. -/
def moving : State := owned.setReg Reg.secXferAddrHi 0x1000
/-- A record that R625 accepts cannot be written out here: it carries the nonce, which is a free value, under a signature. -/
theorem witness_Ownership :
    (imaged.ownerServed = true ∧ imaged.imagePresent = true) ∧
    (locked.ownerServed = true ∧ locked.imagePresent = false ∧ locked.fuses.ownerLocked = true) ∧
    (owned.ownerServed = true ∧ owned.imagePresent = false ∧ owned.fuses.ownerLocked = false ∧ owned.nvm.ownerHash ≠ 0) ∧
    (r0.ownerServed = true ∧ r0.imagePresent = false ∧ r0.fuses.ownerLocked = false ∧ r0.nvm.ownerHash = 0 ∧ r0.ownerRegs = 0) ∧
    ((let s := r0.setReg (Reg.secOwnerHash 7) 1; s.ownerServed = true ∧ s.imagePresent = false ∧ s.fuses.ownerLocked = false ∧
      s.nvm.ownerHash = 0 ∧ s.ownerRegs ≠ 0)) ∧
    ((imaged.arrive env0).imagePresent = true ∧ (imaged.arrive env0).ownerServed = true) ∧
    ((locked.arrive env0).ownerServed = true ∧ (locked.arrive env0).imagePresent = false ∧ (locked.arrive env0).fuses.ownerLocked = true) ∧
    ((let u := owned.arrive env0; u.ownerServed = true ∧ u.imagePresent = false ∧ u.fuses.ownerLocked = false ∧
      isHost (owned.nat Reg.secXferAddrLo + 2 ^ 32 * owned.fld Reg.secXferAddrHi 15 0) = false)) ∧
    ((let u := moving.arrive env0; let a := moving.nat Reg.secXferAddrLo + 2 ^ 32 * moving.fld Reg.secXferAddrHi 15 0; u.ownerServed = true ∧
      u.imagePresent = false ∧ u.fuses.ownerLocked = false ∧
      isHost a = true ∧ addrIova a + 896 ≤ 2 ^ 44 ∧ u.hostMapped (addrIova a) 896 = true ∧ u.hostClean (addrIova a) 896 = true ∧
      u.recordOk (u.host.mem.read (addrIova a) 896) = false)) ∧
    (r0.sec.owner = none) ∧
    ((let s := { r0 with sec := { r0.sec with owner := some ⟨1, 5⟩ } }; s.sec.owner = some ⟨1, 5⟩ ∧ (1 ≠ 3))) ∧
    (({ r0 with sec := { r0.sec with owner := some ⟨3, 5⟩ } } : State).sec.owner = some ⟨3, 5⟩) := ⟨by decide +kernel, by decide +kernel,
      by decide +kernel, by decide +kernel, by decide +kernel, by decide +kernel, by decide +kernel, by decide +kernel, by decide +kernel,
      by decide +kernel, by decide +kernel, by decide +kernel⟩

/-- The responder at a stage, with the sessions. -/
def spdmAt (stage : Nat) (xs : List Session) : State := { r0 with sec := { r0.sec with spdmStage := stage, sessions := xs } }

theorem witness_SpdmResponder :
    ((spdmAt 3 []).spdmServed 2 = true ∧ 2 < 3 ∧ (spdmAt 3 []).sec.spdmStage = 3 ∧ lbyte [] 2 = 0 ∧ lbyte [] 3 = 0 ∧
      (spdmAt 3 []).sec.sessions.length < 4 ∧ (spdmAt 3 []).session 2 1 = none) ∧
    ((spdmAt 2 []).spdmServed 2 = true ∧ 2 ≤ (spdmAt 2 []).sec.spdmStage ∧ (spdmAt 2 []).sec.spdmStage < 3) ∧
    ((0 ≤ Config.certChain.length) ∧ ((0 : Nat) = 0 ∨ 0 = 0xFF)) ∧
    ((let s := spdmAt 3 [⟨1, 0, true, 0⟩, ⟨2, 0, true, 0⟩, ⟨3, 1, true, 0⟩, ⟨4, 2, true, 0⟩]; s.spdmServed 2 = true ∧ 3 ≤ s.sec.spdmStage ∧
      4 ≤ s.sec.sessions.length ∧ s.session 2 4 = some ⟨4, 2, true, 0⟩)) ∧
    ((spdmAt 3 [⟨1, 2, false, 0⟩]).spdmServed 2 = true ∧
      (spdmAt 3 [⟨1, 2, false, 0⟩]).session 2 1 = some ⟨1, 2, false, 0⟩) := ⟨by decide +kernel, by decide +kernel, by decide +kernel,
      by decide +kernel, by decide +kernel⟩

/-- A freeze that has taken its entries. -/
def freezing : State := { r0 with alm := { r0.alm with freeze := some ⟨some 0, 1, 0, 0xA5, 1, 1, [7], 0⟩ } }

theorem witness_AlmanacCommands :
    (r0.barsOpen 0 = true ∧ r0.recovery = false ∧ (255 < 256 ∧ 255 ≠ 0xA5) ∧ r0.alm.freeze = none ∧ 0 < r0.stage) ∧
    (freezing.barsOpen 0 = true ∧ freezing.recovery = false ∧ freezing.alm.freeze = some ⟨some 0, 1, 0, 0xA5, 1, 1, [7], 0⟩ ∧ (1 ≠ 0) ∧
      freezing.alm.queue = []) ∧
    ((let s : State := { r0 with alm := { r0.alm with freeze := some ⟨none, 1, 0, 0xA5, 1, 1, [7], 0⟩ } }; s.alm.freeze = some ⟨none, 1, 0, 0xA5, 1, 1, [7], 0⟩ ∧ s.alm.queue = [])) ∧
    (1 < 2 ∧ told.mctpServed 1 = true ∧ told.recovery = false ∧ told.alm.freeze = none ∧ 0 < told.stage ∧ told.power.report = [] ∧
      (told.almEntries 0 0 1).isSome = true ∧ told.almEntries 9 0 1 = none) ∧
    ((let s := told.setBit Reg.idBoot 8 true; s.mctpServed 1 = true ∧ s.recovery = true)) ∧
    ((let s := { told with power := { told.power with report := [1] } }; s.mctpServed 1 = true ∧ s.recovery = false ∧
      s.power.report ≠ [])) := ⟨by decide +kernel, by decide +kernel, by decide +kernel, by decide +kernel, by decide +kernel, by decide +kernel⟩

theorem witness_ManagementControl :
    ((r0.bindingUp 0 = true ∧ 255 < 256 ∧ 8 ≤ 8 ∧ 8 < 255) ∧ (7 < 256 ∧ 7 < 8) ∧ (8 ≤ 254 ∧ 254 < 255)) ∧
    ((let s := { r0 with mctp := { r0.mctp with i3cAddr := 8 } }; s.bindingUp 0 = true ∧ s.mctp.i3cAddr ≠ 0 ∧ (255 < 256 ∧ 255 = 255))) ∧
    (r0.mctpUp 1 = true ∧ 0x7E ∈ [0x00, 0x01, 0x05, 0x7E, 0xFF] ∧ 0x02 ∉ [0x00, 0x01, 0x05, 0x7E, 0xFF]) ∧
    (told.mctpServed 1 = true ∧ told.recovery = false ∧ told.ready = true ∧ told.mbx.running = none ∧ told.mbx.queue = [] ∧ 0x02 % 256 ≠ 0x03 ∧
      (told.mbxDo ⟨some (1, 0), 2, 4, 0, 0⟩).1 = (St.ok, some 50) ∧ told.setting? (4 % 65536) = some (Key.rto, 10, 10000, 50) ∧
      Key.rto ≠ Key.minImageSerial) ∧
    ((let s := { told with mbx := storing.mbx }; s.mctpServed 1 = true ∧ s.recovery = false ∧ s.ready = true ∧ s.mbx.running.isSome = true)) ∧
    ((let s := told.setReg Reg.idBoot 1; s.mctpServed 1 = true ∧ s.recovery = false ∧ s.ready = false)) := ⟨by decide +kernel,
      by decide +kernel, by decide +kernel, by decide +kernel, by decide +kernel, by decide +kernel⟩

theorem witness_PldmMonitoring :
    (1 < 2 ∧ told.mctpServed 1 = true ∧ told.recovery = false) ∧
    ([0, 2, 5].contains 5 = true ∧ [0, 2, 5].contains 1 = false) ∧
    ((told.sensorReading 34).isSome = true ∧ (told.sensorReading 1).isSome = true ∧ told.sensorReading 0 = none ∧
      told.sensorReading 35 = none) := ⟨by decide +kernel, by decide +kernel, by decide +kernel⟩

/-- An update over PLDM in a state. -/
def pldmAt (st off len : Nat) : State := { told with sec := { told.sec with path := some .pldm, pldm := ⟨st, off, len, 1⟩ } }

theorem witness_PldmUpdates :
    (1 < 2 ∧ told.mctpServed 1 = true ∧ told.sec.path = none) ∧
    ((let s := { told with sec := { told.sec with path := some .bar0 } }; s.mctpServed 1 = true ∧ s.sec.path = some .bar0)) ∧
    ((pldmAt 1 0 0).mctpServed 1 = true ∧ (pldmAt 1 0 0).sec.path = some .pldm ∧ (pldmAt 1 0 0).sec.pldm.state = 1 ∧
      (pldmAt 2 0 0).sec.pldm.state = 2 ∧ (0 < 4194304 ∧ 4194304 ≤ 4194304) ∧ (pldmAt 7 0 0).sec.pldm.state = 7 ∧
      (pldmAt 7 0 0).mctpServed 1 = true) ∧
    ((let s := pldmAt 3 0 1024; s.sec.pldm.state = 3 ∧ s.bindingUp s.sec.pldm.binding = true ∧
      s.sec.pldm.offset + ((List.replicate 1023 (0 : Byte)).take (min 1024 (s.sec.pldm.length - s.sec.pldm.offset))).length < s.sec.pldm.length)) ∧
    ((let s := pldmAt 3 0 1024; s.sec.pldm.length ≤ s.sec.pldm.offset + ((List.replicate 1024 (0 : Byte)).take (min 1024 (s.sec.pldm.length - s.sec.pldm.offset))).length)) := ⟨by decide +kernel, by decide +kernel, by decide +kernel, by decide +kernel, by decide +kernel⟩

/-- Feed A in a state. -/
def fed (f : FeedSt) : State := { r0 with power := { r0.power with feedA := f } }

theorem witness_FeedsAndPhases :
    (0 < 2 ∧ feedClass 7000 = 2 ∧ (fed .inRange).feed 0 = .inRange ∧ (fed .marginal).feed 0 = .marginal) ∧
    (feedClass 4800 ≠ 2 ∧ (fed .lost).feed 0 = .lost ∧ (fed .lost).powered = true ∧ feedClass 4800 = 0) ∧
    ((fed .absent).feed 0 = .absent ∧ (fed .absent).powered = true ∧ 3800 ≤ 3800 ∧ 3800 ≤ 6200) ∧
    ((fed .charging).feed 0 = .charging ∧ (fed .absent).feed 0 ≠ .charging) ∧
    (dark.powered = false ∧ dark.power.holdup = false ∧ r0.powered = true) ∧
    (31 < 32 ∧ (r0.failedPhases 31).testBit 31 = false ∧ (r0.isolatePhase 31 31).phasesFailed 31 < 3) ∧
    ((let s := { r0 with power := { r0.power with phases := [(31, 2 ^ 31)] } }; (s.failedPhases 31).testBit 31 = true)) ∧
    ((let s := { r0 with power := { r0.power with phases := [(31, 3)] } }; (s.failedPhases 31).testBit 31 = false ∧
      3 ≤ (s.isolatePhase 31 31).phasesFailed 31 ∧ (s.isolatePhase 31 31).clusterHeld 31 = false)) ∧
    (r0.power.winN + 1 < 10000 ∧ 9999 ≤ ({ r0 with power := { r0.power with winN := 9999 } } : State).power.winN) := ⟨by decide +kernel,
      by decide +kernel, by decide +kernel, by decide +kernel, by decide +kernel, by decide +kernel, by decide +kernel, by decide +kernel,
      by decide +kernel⟩

/-- A start of core 0 at a point of its way. -/
def climbing (admitted forced : Bool) (density raised : Nat) : RampStart := ⟨1, 0, admitted, forced, density, raised⟩
def onRamp (r : RampStart) : State := { imaged with tick := 100, clocks := { imaged.clocks with starts := [(0, some r)] } }
/-- The state after reset, with hours above 5% and the ceiling of core 255. -/
def aged (hours ceil : Nat) : State := { r0 with nvm := { r0.nvm with ceilHours := [(255, hours)], ceilings := [(255, ceil)] } }

theorem witness_RampsAndClocks :
    (31 < 32 ∧ 255 < 256 ∧ imaged.halted = false ∧ imaged.rampOf 0 = none ∧ (7 < 8 ∧ (255 : Nat).testBit 7 = true ∧
      imaged.coreUsable (8 * 0 + 7) = true ∧ imaged.arrayCold (8 * 0 + 7) = true)) ∧
    (∀ i, i < 8 → (0 : Nat).testBit i = false) ∧
    ((onRamp (climbing false false 0 0)).rampOf 0 = some (climbing false false 0 0) ∧
      (climbing false false 0 0).since + 100 ≤ (onRamp (climbing false false 0 0)).tick ∧
      ({ onRamp (climbing false false 0 0) with tick := 99 } : State).tick < (climbing false false 0 0).since + 100) ∧
    ((onRamp (climbing true false 14 0)).rampOf 0 = some (climbing true false 14 0) ∧ (climbing true false 14 0).density < 15 ∧
      (onRamp (climbing true false 15 0)).rampOf 0 = some (climbing true false 15 0)) ∧
    ((onRamp (climbing true true 16 2)).rampOf 0 = some (climbing true true 16 2) ∧ (climbing true true 16 2).raised < 3 ∧
      (onRamp (climbing true true 16 3)).rampOf 0 = some (climbing true true 16 3)) ∧
    ((let s := { late 100000 with clocks := { r0.clocks with half := [(7, .run)] } }; 7 < 8 ∧ s.half 7 = .run ∧ s.holdRun 7 = false ∧
      s.halfBusy 7 = false ∧ s.halfFill 7 = false ∧ s.halfIdleSince 7 + 25 * s.fld Reg.clkIdle 9 0 ≤ s.tick)) ∧
    (r0.half 7 ≠ .run) ∧
    ((let s := { late 250000000 with clocks := { r0.clocks with half := [(7, .standby)] } }; s.half 7 = .standby ∧ s.fld Reg.clkIdle 25 16 ≠ 0 ∧
      SMap.get (fun _ => 0) s.clocks.idle 7 + 25000 * s.fld Reg.clkIdle 25 16 ≤ s.tick)) ∧
    ((r0.setReg Reg.clkIdle 0).fld Reg.clkIdle 25 16 = 0) ∧
    (255 < 256 ∧ 19 < 20 ∧ 60 < (aged 0 61).ceiling 255 ∧ (aged 0 60).ceiling 255 ≤ 60) ∧
    (50 < 51 ∧ SMap.get (fun _ => 0) (aged 22 0).nvm.ceilHours 255 + 1 < 24 ∧ 23 ≤ SMap.get (fun _ => 0) (aged 23 100).nvm.ceilHours 255 ∧
      (aged 23 100).ceiling 255 < min ((aged 23 100).factory 255) ((aged 23 100).abftCap 255) ∧ (20 ≤ 20 ∧
      50 ≤ 50)) := ⟨by decide +kernel, by decide +kernel, by decide +kernel, by decide +kernel, by decide +kernel, by decide +kernel,
      by decide +kernel, by decide +kernel, by decide +kernel, by decide +kernel, by decide +kernel⟩

/-- A group of two members whose first member is the module and the master. -/
def group0 : CascadeRec := ⟨1, 2, 0, 1, 10, [1, 2]⟩
def inGroup : State := { r0.setReg Reg.casStatus 0xC0000000 with image := some { image0 with group := true, member := 0, cascade := [group0], locals := [⟨1, 4791, 1, [1]⟩], peers := [⟨255, 0, 2, 1, 0, 1, 2⟩] } }
/-- A lease that ends at a tick. -/
def leased (t : Nat) : State := { late 100 with power := { r0.power with leaseEnd := some t } }

theorem witness_GrantsAndHeat :
    (1 < 2 ∧ told.mctpServed 1 = true ∧ told.recovery = false ∧ (60000 < 60001 ∧ 60001 < 2 ^ 16) ∧ (60000 ≤ 60000 ∧ told.isMaster = false)) ∧
    ((let s := told.setBit Reg.idBoot 8 true; s.mctpServed 1 = true ∧ s.recovery = true)) ∧
    ((let s := { inGroup with mctp := told.mctp }; s.mctpServed 1 = true ∧ s.recovery = false ∧ s.isMaster = true)) ∧
    ((leased 100).power.leaseEnd = some 100 ∧ 100 ≤ (leased 100).tick ∧ (leased 101).power.leaseEnd = some 101 ∧ (leased 101).tick < 101 ∧
      r0.power.leaseEnd = none) ∧
    (65535 < 65536 ∧ r0.group? = none ∧ inGroup.group? = some group0 ∧ inGroup.inGroup = true ∧ inGroup.isMaster = true) ∧
    ((let s := inGroup.setReg Reg.casStatus 0x80000000; s.group? = some group0 ∧ s.inGroup = true ∧ s.isMaster = false)) ∧
    ((let s := { inGroup with power := { inGroup.power with groupGrant := some 5000 } }; s.group? = some group0 ∧ s.power.groupGrant = some 5000 ∧
      s.isMaster = true ∧ s.power.slackRep = [])) ∧
    (r0.power.sums < 6000 ∧ 6000 ≤ ({ r0 with power := { r0.power with sums := 6000 } } : State).power.sums) := ⟨by decide +kernel,
      by decide +kernel, by decide +kernel, by decide +kernel, by decide +kernel, by decide +kernel, by decide +kernel, by decide +kernel⟩

theorem witness_GrantsScale :
    ([300, 400, (500 : Nat)] ≠ [] ∧ [300, 400, (500 : Nat)].foldl (· + ·) 0 = 1200) := by decide +kernel

/-- Core 7, or memory layer 7, at a temperature in 1/16 °C, and its duty. -/
def warm (t : Nat) : State := imaged.setFld (Reg.thmCore 7) 11 0 t
def warmMem (t duty : Nat) : State := (imaged.setFld (Reg.thmLayer (memLayer 7)) 11 0 t).setFld (Reg.thmMemDuty 7) 2 0 duty
/-- The watch of layer 12 since tick 0, at a later tick. -/
def watched (w : ModelWatch) (t : Nat) : State := { late t with thermal := { r0.thermal with watch := [(12, w)] } }

/-- Every clocked core of half 0 is hot. -/
def hotHalf : State := (List.range 8).foldl (fun (s : State) n => s.setFld (Reg.thmCore n) 11 0 tHot)
  { imaged with clocks := { imaged.clocks with half := [(0, .run)] } }
theorem witness_HeatAndCoolant :
    ((⟨[(7, 100, 100)], [], []⟩ : ThermReading).cores = [(7, 100, 100)]) ∧
    (7 < 256 ∧ tHot ≤ (warm tHot).fld (Reg.thmCore 7) 11 0 ∧ (warm tHot).coreUsable 7 = true ∧ (warm tCool).fld (Reg.thmCore 7) 11 0 ≤ tCool ∧
      tCool < (warm (tCool + 1)).fld (Reg.thmCore 7) 11 0 ∧ (warm (tHot - 1)).fld (Reg.thmCore 7) 11 0 < tHot) ∧
    ((let on := ((List.range 32).map (fun i => 32 * 0 + i)).filter hotHalf.clocked; on.length < 2 * on.countP (fun c => decide (tHot ≤ hotHalf.fld (Reg.thmCore c) 11 0)))) ∧
    (7 < 8 ∧ tMemHot ≤ (warmMem tMemHot 2).fld (Reg.thmLayer (memLayer 7)) 11 0 ∧ 1 < (warmMem tMemHot 2).fld (Reg.thmMemDuty 7) 2 0 ∧
      (warmMem tMemCool 3).fld (Reg.thmLayer (memLayer 7)) 11 0 ≤ tMemCool) ∧
    ((let s := watched ⟨some 0, none, none⟩ 250000; 12 < 13 ∧ (s.watch 12).excess = some 0 ∧ 0 + 250000 ≤ s.tick ∧ s.byModel 12 = false ∧
      (watched ⟨some 0, none, none⟩ 249999).tick < 0 + 250000)) ∧
    ((let s := watched ⟨none, none, some 0⟩ 1500000000; (s.watch 12).governed = some 0 ∧ 0 + 1500000000 ≤ s.tick ∧
      s.bit Reg.thmSuspect 12 = false ∧ (watched ⟨none, none, some 0⟩ 1499999999).tick < 0 + 1500000000)) ∧
    ((let s := watched ⟨none, some 0, some 0⟩ 250000000; (s.watch 12).under = some 0 ∧ 0 + 250000000 ≤ s.tick ∧ s.bit Reg.thmSuspect 12 = false ∧
      (watched ⟨none, some 0, some 0⟩ 249999999).tick < 0 + 250000000)) ∧
    ((let s := { late 2500000 with thermal := { r0.thermal with outletSince := [some 0] } }; some 0 ∈ s.thermal.outletSince ∧ 0 + 2500000 ≤ s.tick)) ∧
    (r0.thermal.outletSince = [] ∧ (∀ l, l < 5 → r0.fld (Reg.cltTOut l) 11 0 ≤ 1232)) ∧
    ((let s := { late 50000000 with thermal := { r0.thermal with flowStop := some 0, restartFrom := some 0 } }; s.thermal.flowStop = some 0 ∧
      s.thermal.restartFrom = some 0 ∧ 0 + 50000000 ≤ s.tick ∧ s.bit Reg.thmStatus 31 = false)) ∧
    (r0.thermal.flowStop = none ∧ 12 < 13 ∧ SMap.get (fun _ => []) r0.thermal.turns 12 = []) := ⟨by decide +kernel, by decide +kernel,
      by decide +kernel, by decide +kernel, by decide +kernel, by decide +kernel, by decide +kernel, by decide +kernel, by decide +kernel,
      by decide +kernel, by decide +kernel⟩

/-- The device 1 in service on port 0, with one peer, device 2. -/
def netted : State := inGroup.setReg (Reg.fabPortStatus 0) 0x80001
/-- A retraining of lane 7 on port 0 in a step. -/
def trained (step : Nat) : State := { netted with fab := { netted.fab with retrain := [(0, some ⟨7, step, [], none⟩)] } }

theorem witness_PortsAndPackets :
    (7 < 8 ∧ r0.recovery = false ∧ r0.pcie.bring = none ∧ 7 < portCount r0.variant ∧ r0.portUp 7 = false) ∧
    (netted.portUp 0 = true ∧ netted.retraining 0 = none ∧ netted.fab.retrainQ = [] ∧ 7 < 8 ∧ netted.fab.retrain = []) ∧
    ([1, 2, 3].all (fun n => (trained n).retraining 0 == some ⟨7, n, [], none⟩) = true ∧ (trained 3).fab.retrainQ = []) ∧
    (netted.receives 0 = true ∧ netted.inService 0 = true ∧ 1 = netted.portAddr 0 ∧ 2 ≠ netted.portAddr 0 ∧ r0.receives 7 = false) ∧
    ((netted.setBit Reg.fabCtrl 8 true).receives 0 = true ∧ (netted.setBit Reg.fabCtrl 8 true).inService 0 = true ∧
      (netted.setBit Reg.fabCtrl 8 true).bit Reg.fabCtrl 8 = true ∧ 1 = (netted.setBit Reg.fabCtrl 8 true).portAddr 0 ∧
      ([] : List Byte).length + ipOver 1 ≤ 9216 ∧ 9216 < (List.replicate 9217 (0 : Byte)).length + ipOver 1) ∧
    ((netted.setBit Reg.fabCtrl 8 false).receives 0 = true ∧ (netted.setBit Reg.fabCtrl 8 false).bit Reg.fabCtrl 8 = false) ∧
    (r0.ready = true ∧ r0.arpTargets = [] ∧ netted.ready = true ∧ netted.arpTargets = [(0, 2)] ∧ netted.fab.arp = []) ∧
    ((let s := { netted with tick := 749999999, fab := { netted.fab with arp := [(0, 2, 7, 0)] } }; s.ready = true ∧ s.arpTargets = [(0, 2)] ∧
      s.fab.arp = [(0, 2, 7, 0)] ∧ s.tick < 0 + 750000000)) ∧
    ((let s := { netted with tick := 750000000, fab := { netted.fab with arp := [(0, 2, 7, 0)] } }; s.ready = true ∧ s.arpTargets = [(0, 2)] ∧
      s.fab.arp = [(0, 2, 7, 0)] ∧ 0 + 750000000 ≤ s.tick)) ∧
    ((r0.setReg Reg.idBoot 1).ready = false) := ⟨by decide +kernel, by decide +kernel, by decide +kernel, by decide +kernel,
      by decide +kernel, by decide +kernel, by decide +kernel, by decide +kernel, by decide +kernel, by decide +kernel⟩

/-- A frame of device 2 by type, flags and PSN, and one of a device that is no peer. -/
def frameOf (typ flags psn : Nat) : Rx := ⟨0, 2, false, datagramBytes typ flags 0 2 1 1 psn 0 (List.replicate 16 0) [], 1, 4791, false⟩
def strange (typ : Nat) : Rx := ⟨0, 3, false, datagramBytes typ 0 0 3 1 1 0 0 (List.replicate 16 0) [], 1, 4791, false⟩
/-- Its header, where the frame is taken in. -/
def taken (s : State) (f : Rx) : Option Hdr := (s.intake f).1
/-- The flow of device 2 as the receiver knows it, and as the sender has it. -/
def rx0 : RxFlow := ⟨1, 5, [], 1, some 0, 0, [], none, 0, 2⟩
def known : State := { netted with tick := 25, fab := { netted.fab with rx := [(2, some rx0)] } }
def tx0 (busy : Bool) : TxFrame := ⟨0, 0x61, 0, 0, List.replicate 16 0, [], none, none, some 0, busy, false, none⟩
def flow0 (down : Bool) (ts : List TxFrame) : Flow := ⟨1, 1, ts, 0, 0, down, 0, 0, false⟩
def sending (s : State) (f : Flow) : State := { s with tick := 1000000, fab := { s.fab with flows := [(2, some f)] } }

/-- A frame of device 2 in its turn, by type, flags, type area and payload. -/
def inTurn (typ flags : Nat) (area payload : List Byte) : Rx :=
  ⟨0, 2, false, datagramBytes typ flags (r0.nat Reg.nvsCfgTag) 2 1 1 5 7 area payload, 1, 4791, false⟩

/-- The module with device 2 as its peer of polder 0 with every right, endpoint 0 on polder 0, and commands in
flight; the registers of digests and of limits read 0. -/
def peered (cs : List Cmd) : State :=
  { ((({ netted with regs := netted.regs.filter (fun x => decide (x.1 < 0x100100 ∨ (0x200000 ≤ x.1 ∧ x.1 < 0x500000) ∨ x.1 = Reg.nvsCfgTag)) } : State).setReg (Reg.fabEpCtrl 0) 0x80030000).setReg (Reg.fabEpLength 0) 4096).setReg (Reg.fabEpBaseLo 0) 0x100000 with
    cmds := cs, nextId := 100, tick := 25, fab := { netted.fab with rx := [(2, some rx0)] },
    image := some { image0 with group := true, member := 0, cascade := [group0], locals := [⟨1, 4791, 1, [1]⟩], peers := [⟨0, 255, 2, 1, 0, 16, 2⟩] } }

/-- The same as a member of a group that device 2 leads. -/
def led : State := { (peered []).setReg Reg.casStatus 0x80000000 with image := (peered []).image.map (fun im => { im with cascade := [⟨1, 2, 1, 1, 10, [1, 2]⟩] }) }

/-- Whether a frame that a state takes in comes in its turn and meets a condition on the state with its flow moved on, its header and that flow. -/
def inIts (s : State) (f : Rx) (typ : Nat) (P : State → Hdr → RxFlow → Bool) : Bool := match s.intake f with
  | (some h, t) =>
    decide (f.port < 8 ∧ f.typ = typ ∧ h.typ = typ ∧ t.rxOf h.src = some rx0 ∧ rx0.gen = h.gen ∧ h.psn = rx0.next ∧ rx0.beyond = [] ∧
      rx0.waiting = [] ∧ rx0.unacked < 15 ∧ (∀ x ∈ t.fab.reads, x.1 ≠ h.src) ∧ h.tag = t.nat Reg.nvsCfgTag) &&
    P (t.setRx h.src (cameTo f rx0)) h (cameTo f rx0)
  | _ => false

/-- Whether the receiving side of a frame's flow stands in a state as the frame left it. -/
def leaves (u : State) (h : Hdr) (x : RxFlow) : Bool := decide (u.rxOf h.src = some x)

/-- Whether a WRITE of 64 bytes to endpoint 0 meets the conditions. -/
def putIt (s : State) : Bool := inIts (s.arrive env0) (inTurn 0x01 0 (beBytes 2 0) (List.replicate 64 7)) 0x01 (fun T h x =>
  decide (T.peerCheck h.src (h.be 0x18 2) (h.be 0x1C 4 % 2 ^ 28) h.payload.length 1 = St.ok) &&
  match T.physWrite Req.peer (addrCore (T.epAddr (h.be 0x18 2) (h.be 0x1C 4 % 2 ^ 28)).2) (addrOff (T.epAddr (h.be 0x18 2) (h.be 0x1C 4 % 2 ^ 28)).2) h.payload with
  | (0, u) => leaves u h x
  | _ => false)

/-- Whether a READ_REQ of 64 bytes reads, its answer sent or not. -/
def readIt (s : State) (sent : Bool) : Bool := inIts (s.arrive env0) (inTurn 0x02 0 (beBytes 2 0 ++ [0, 0, 0, 0, 0, 0] ++ beBytes 4 64) []) 0x02 (fun T h x =>
  decide (T.peerCheck h.src (h.be 0x18 2) (h.be 0x1C 4 % 2 ^ 28) (h.be 0x20 4) 0 = St.ok ∧ 0 < h.be 0x20 4 ∧ h.be 0x20 4 ≤ 65536) &&
  match T.physRead Req.peer (addrCore (T.epAddr (h.be 0x18 2) (h.be 0x1C 4 % 2 ^ 28)).2) (addrOff (T.epAddr (h.be 0x18 2) (h.be 0x1C 4 % 2 ^ 28)).2) (h.be 0x20 4) with
  | (data, [], u) =>
    let a := u.sendResponses h.src h.psn data
    a.wasSent h.src (((a.flow h.src).next + 2 ^ 32 - 1) % 2 ^ 32) == sent && leaves a h x
  | _ => false)

/-- The DMA of 64 bytes that device 2 answers under request 9. -/
def asking : Cmd := begun (dmaOf 0x2000000000000 0x2000) (.fabric [(2 ^ 32 * 2 + 9, 0, 64)])

/-- Whether device 2's READ_RSP to a command in flight meets the conditions. -/
def gotRsp (s : State) : Bool := inIts (s.arrive env0) (inTurn 0x03 1 ([0, 0, 0, 0] ++ beBytes 4 0 ++ beBytes 4 9) (List.replicate 64 7)) 0x03 (fun T h x =>
  !T.responseHeld h && leaves (T.gotResponse h) h x &&
  (T.cmds.find? (fun c => decide (c.phase = .running) && c.work.wants.any (fun y => y.1 == 2 ^ 32 * h.src + h.be 0x20 4))).any (fun c => match c.work with
    | .fabric w => (w.find? (fun y => y.1 == 2 ^ 32 * h.src + h.be 0x20 4)).any (fun y =>
        let a := T.setWork c.id (.fabric (w.map (fun y => if y.1 = 2 ^ 32 * h.src + h.be 0x20 4 then (y.1, y.2.1, y.2.2 - h.payload.length) else y)))
        let n := a.dmaCore c (y.2.1 / 65536)
        match Run.write (reqDma c n) c.id (a.polderOf c) (c.addr 0x18 + y.2.1 + h.be 0x1C 4) h.payload a with
        | .ok _ v => leaves ((v.addCnt (Reg.coreCntDma n) h.payload.length).fabricCheck c.id) h x
        | .error _ _ => false)
    | _ => false))

/-- An ALL_REDUCE of 16 bytes, epoch 7, that has run to its first step. -/
def reducing : Cmd := begun (cmdOf 1 0x30 [(0x10, 8, 0x1000), (0x18, 8, 0x3000), (0x20, 8, 4), (0x28, 4, 7), (0x2C, 2, 1), (0x2E, 1, 0), (0x2F, 1, 11)]) (.coll 0 (List.replicate 16 0) [])

/-- Whether a COLL_DATA of it meets the conditions. -/
def tookColl (s : State) : Bool := inIts (s.arrive env0) (inTurn 0x20 0 (beBytes 2 1 ++ [0, 11] ++ beBytes 4 4 ++ [0, 5, 0, 0] ++ beBytes 4 0) (List.replicate 8 0)) 0x20 (fun T h x =>
  !T.flowStopped && (T.cmds.find? (fun c => decide (c.op = 0x30) && decide (c.phase = .running) &&
      ((List.range 32).filter (fun p => T.peerRight p h.src 2)).contains (T.polderOf c) && !T.hostHeld c &&
      decide (T.collPrev (T.polderOf c) = h.src) && decide (clId c.desc = h.be 0x18 2) && decide (clEpoch c.desc = h.msg))).any (fun c => match c.work with
    | .coll step data early => decide (h.be 0x1A 1 = clOp c.desc ∧ h.be 0x1B 1 = clFmt c.desc ∧ h.be 0x1C 4 = clCount c.desc % 2 ^ 32) &&
        leaves ((T.runOn c.id (Run.collTake c h step data early)).collCheck c.id) h x
    | _ => false))

/-- Parity group 1 of two data shards and the parity shard 2, which the module keeps as one unit of 4 KiB. -/
def shard : State := { (((((peered []).setReg (Reg.parGrpCtrl 1) 0x80000212).setReg (Reg.parGrpDev 1 0) 0x00020002).setReg (Reg.parGrpUnits 1) 1).setReg (Reg.parGrpTagLo 1) 0x200000) with
  parity := { r0.parity with maps := [(1, [(0x100000, 4096)])] } }

/-- A PAR_DELTA of unit 0 of that group under a step. -/
def delta (tag : Nat) : Rx := inTurn 0x30 0 (beBytes 2 1 ++ [1, 2] ++ beBytes 4 tag ++ beBytes 4 0) (List.replicate 4096 0)

/-- Whether that PAR_DELTA meets the conditions, as one seen before or as a new one. -/
def deltaIt (s : State) (f : Rx) (dup : Bool) : Bool := inIts (s.arrive env0) f 0x30 (fun T h x =>
  let g := h.be 0x18 2
  let i := h.be 0x1A 1
  let u := h.be 0x20 4
  decide (T.parValid g = true ∧ h.be 0x1B 1 = T.parShard g ∧ T.parK g ≤ T.parShard g ∧ i < T.parK g ∧ T.parDev g i = h.src ∧
    T.parLost g i = false ∧ u < T.parUnits g ∧ h.payload.length = 4096 ∧ T.regrouping g = none) &&
  match T.tagRead g i u with
  | (.ok tag, a) => tag != 0xFFFFFFFF && (tag == h.be 0x1C 4) == dup && (if dup then leaves (a.addCnt Reg.parCntDup 1) h x else
      let w := (a.unitRead g u).st.unitWrite g u (((a.unitRead g u).data.zip h.payload).map (fun y => y.1 ^^^ y.2))
      decide ((a.unitRead g u).err = none ∧ w.err = none) &&
      leaves (((w.st.tagWrite g i u (h.be 0x1C 4)).addCnt Reg.parCntDeltaRx 4096).setNat (Reg.parGrpStep g) (h.be 0x1C 4)) h x)
  | _ => false)

/-- Whether a PAR_READ_REQ meets the conditions. -/
def unitsIt (s : State) (f : Rx) : Bool := inIts (s.arrive env0) f 0x31 (fun T h x =>
  let g := h.be 0x18 2
  decide (T.parValid g = true ∧ h.be 0x1B 1 = T.parShard g ∧ h.be 0x1A 1 < T.parK g + T.parM g ∧ T.parDev g (h.be 0x1A 1) = h.src ∧
    0 < h.be 0x20 1 ∧ h.be 0x20 1 ≤ 16 ∧ h.be 0x1C 4 + h.be 0x20 1 ≤ T.parUnits g) &&
  match (List.range (h.be 0x20 1)).foldl (fun (a : Nat × State) k =>
            if a.1 ≠ St.ok then a else a.2.answerUnit g h.src (h.be 0x21 1) (h.be 0x1C 4 + k)) (St.ok, T) with
  | (st, u) => st == St.ok && leaves u h x)

/-- A rebuild of that group with unit 0 left. -/
def rebuilding : State := { shard with cmds := [begun rebuild1 (.rebuild [0] [] [] [] [] [])] }

/-- Whether a PAR_READ_RSP meets the conditions. -/
def keptIt (s : State) (f : Rx) : Bool := inIts (s.arrive env0) f 0x32 (fun T h x =>
  !T.rebuildHeld h && (T.regrouping (h.be 0x18 2)).any (fun c => match c.work with
  | .rebuild left hv bad tags failed chunks' => decide (T.parDev (h.be 0x18 2) (h.be 0x1A 1) = h.src ∧ h.be 0x1C 4 ∈ left ∧ h.payload.length = 4096 ∧
      (∀ y ∈ hv, ¬ (y.1 = h.be 0x1C 4 ∧ y.2.1 = h.be 0x1A 1))) &&
      leaves ((T.setWork c.id (.rebuild left (hv ++ [(h.be 0x1C 4, h.be 0x1A 1, h.be 0x20 4, h.payload)]) bad tags failed chunks')).rebuildUnit c.id (h.be 0x1C 4)) h x
  | _ => false))

/-- Whether the module is the master of a group of which the frame's sender is a member. -/
def leads (s : State) (h : Hdr) (m : Nat) : Bool := s.isMaster && (s.group?).any (fun g => g.memberOf h.src == some m)

/-- The master's round is open. -/
def asks : State := { peered [] with casc := { r0.casc with roundOpen := true } }

/-- A RECKON_RSP with the module's own digests, or with others. -/
def digests (same : Bool) : Rx := inTurn 0x51 0 (beBytes 2 1 ++ [1, 0] ++ beBytes 4 0) (if same then asks.threeDigests else List.replicate 96 1)

/-- Whether that RECKON_RSP meets the conditions. -/
def reckons (same : Bool) : Bool := inIts asks (digests same) 0x51 (fun T h x => leads T h 1 &&
    decide (T.casc.roundOpen = true ∧ h.be 0x18 2 = 1 ∧ h.be 0x1C 4 = T.nat Reg.casReckonRound ∧ h.payload.length = 96 ∧ T.casc.answered = [] ∧ T.casc.mismatched = []) &&
    let a := T.setDigest (Reg.casMemberDigest 1 0) (digestOf h.payload)
    (digestOf h.payload == digestOf a.threeDigests) == same && leaves a h x)

/-- Device 2 is a member of the group, and no polder's peer. -/
def unbound : State := { peered [] with image := (peered []).image.map (fun im => { im with peers := [] }) }

/-- Whether a BREACH meets the conditions, seen before or not. -/
def breachIt (s : State) (seen : Bool) : Bool := inIts s (inTurn 0x40 0 (beBytes 2 2 ++ [0, 0] ++ beBytes 4 9 ++ [1]) []) 0x40 (fun T h x =>
  let origin := h.be 0x18 2 % 4096
  let a := T.addCnt Reg.fabCntBreachRx 1
  let ps := (List.range 32).filter (fun p => (a.peer p h.src).isSome)
  decide ((origin, h.be 0x1C 4) ∈ T.fab.seen) == seen &&
  if seen then leaves a h x else
    let b := ps.foldl (fun (b : State) p => b.breachPolder p origin (h.be 0x20 1)) (a.seeBreach origin (h.be 0x1C 4))
    leaves (b.breachTo (((ps.flatMap b.peersOf).eraseDups).filter (· ≠ h.src)) origin (h.be 0x1C 4) (h.be 0x20 1)) h x)

/-- Whether the frame's sender is the master of the module's group. -/
def leadBy (s : State) (h : Hdr) : Bool := s.inGroup && (s.group?).any (fun g => h.src == g.masterDevice && h.be 0x18 2 == g.groupId)

/-- Device 2 as the source of grants, of no group. -/
def alone : State := { (netted.setReg Reg.casStatus 0) with image := netted.image.map (fun im => { im with cascade := [] }) }

/-- Whether nothing of a flow waits. -/
def noneWaits (s : State) (d : Nat) : Bool := ((s.rxOf d).map (fun r => r.waiting.isEmpty)).getD true

/-- Two frames of flow 2 await their ACK. -/
def flying : State := sending (peered []) (flow0 false [tx0 false, { tx0 false with psn := 1 }])

/-- Whether an ACK or a NAK of that flow meets a condition. -/
def answers (f : Rx) (typ : Nat) (P : State → Hdr → Flow → Bool) : Bool := match flying.intake f with
  | (some h, t) => decide (h.typ = typ) && noneWaits t h.src && t.parity.pending.isEmpty && (SMap.get (fun _ => none) t.fab.flows h.src).any (fun fl => fl.gen == h.gen &&
     fl.unacked.all (fun y => y.owner == none) && P t h fl)
  | _ => false
/-! Parts of `witness_Frames`. -/

theorem frames_responses : gotRsp (peered [asking]) = true := by decide +kernel
theorem frames_collective : tookColl (peered [reducing]) = true := by decide +kernel
theorem frames_delta_again : deltaIt shard (delta 0) true = true := by decide +kernel
theorem frames_delta_new : deltaIt shard (delta 3) false = true := by decide +kernel
theorem frames_rebuild : keptIt rebuilding (inTurn 0x32 0 (beBytes 2 1 ++ [1, 0] ++ beBytes 4 0 ++ beBytes 4 0) (List.replicate 4096 0)) = true := by decide +kernel
theorem frames_reckon_same : reckons true = true := by decide +kernel
theorem frames_reckon_other : reckons false = true := by decide +kernel
theorem frames_breach : breachIt unbound false = true := by decide +kernel

theorem witness_Frames :
    (7 < 8 ∧ [0x01, 0x02, 0x03, 0x20, 0x30, 0x31, 0x32, 0x33, 0x40, 0x50, 0x51, 0x61].all (fun t => (taken (netted.arrive env0) (frameOf t 8 0)).map (fun h => h.typ) == some t && (frameOf t 8 0).typ == t) = true) ∧
    ([0x01, 0x02, 0x03, 0x20, 0x30, 0x31, 0x32, 0x33, 0x40, 0x50, 0x51, 0x61].all (fun t => taken (netted.arrive env0) (strange t) == none && (strange t).typ == t) = true) ∧
    ([0x33, 0x40, 0x50, 0x51, 0x61].all (fun t => (taken netted (frameOf t 8 0)).map (fun h => h.typ) == some t && taken netted (strange t) == none) = true) ∧
    (netted.rxState (frameOf 0x61 0 0) (parseHdr (frameOf 0x61 0 0).bytes) = none) ∧
    (known.rxState (frameOf 0x61 0 4) (parseHdr (frameOf 0x61 0 4).bytes) = some rx0 ∧
      psnBefore (parseHdr (frameOf 0x61 0 4).bytes).psn rx0.next = true) ∧
    (putIt (peered []) = true) ∧
    (readIt (peered []) true = true ∧ readIt { peered [] with fab := { (peered []).fab with flows := [(2, some (flow0 true []))] } } false = true) ∧
    (gotRsp (peered [asking]) = true) ∧
    (tookColl (peered [reducing]) = true) ∧
    (deltaIt shard (delta 0) true = true) ∧
    (deltaIt shard (delta 3) false = true) ∧
    (unitsIt shard (inTurn 0x31 0 (beBytes 2 1 ++ [1, 2] ++ beBytes 4 0 ++ [1, 0]) []) = true) ∧
    (keptIt rebuilding (inTurn 0x32 0 (beBytes 2 1 ++ [1, 0] ++ beBytes 4 0 ++ beBytes 4 0) (List.replicate 4096 0)) = true) ∧
    (inIts (peered []) (inTurn 0x33 0 (beBytes 2 1 ++ [0, 0] ++ beBytes 4 20 ++ beBytes 2 1 ++ beBytes 2 2) []) 0x33 (fun T h x => leads T h 1 && h.be 0x18 2 == 1 && leaves T h x) = true) ∧
    (inIts (peered []) (inTurn 0x61 0 (beBytes 2 100) []) 0x61 (fun T h x => leads T h 1 && leaves (T.setSlack 1 (h.be 0x18 2)) h x) = true) ∧
    (reckons true = true) ∧
    (reckons false = true) ∧
    (breachIt unbound false = true) ∧
    (breachIt { peered [] with fab := { (peered []).fab with seen := [(2, 9)] } } true = true) ∧
    (inIts led (inTurn 0x50 0 (beBytes 2 1 ++ [0, 0] ++ beBytes 4 9) []) 0x50 (fun T h x => leadBy T h &&
    let a := ({ T with casc := { T.casc with lastReq := some T.tick } } : State).setBit Reg.casStatus 29 false
    leaves (a.sendSeq h.src 0x51 0 0 (beBytes 2 1 ++ [BitVec.ofNat 8 a.memberId, 0] ++ beBytes 4 (h.be 0x1C 4)) a.threeDigests none) h x) = true) ∧
    (inIts led (inTurn 0x60 0 (beBytes 4 5000 ++ beBytes 4 1 ++ beBytes 2 60000) []) 0x60 (fun T h x => T.inGroup && (T.group?).any (fun g => h.src == g.masterDevice) &&
    !Machine.bit h.flags 1 && T.grantNewer (h.be 0x1C 4) && decide (h.be 0x20 2 ≤ 60000) && !Machine.bit (h.be 0x22 1) 0 &&
    leaves (({ T with power := { T.power with grantSeen := some (h.be 0x1C 4) } } : State).applyGrant (h.be 0x18 4) (h.be 0x20 2) 3).showCap h x) = true) ∧
    ((let s := alone.setReg (Reg.casGrantSrc 3) 0x02000000
   match s.intake (inTurn 0x60 2 (beBytes 4 5000 ++ beBytes 4 1 ++ beBytes 2 60000) []) with
   | (some h, t) => decide (h.typ = 0x60 ∧ Machine.bit h.flags 1 = true ∧ t.grantSource = 2 ∧ t.grantNewer (h.be 0x1C 4) = true ∧
      h.be 0x20 2 ≤ 60000 ∧ Machine.bit (h.be 0x22 1) 0 = false ∧ t.inGroup = false) && noneWaits t h.src
   | _ => false) = true) ∧
    (answers (inTurn 0x10 0 (beBytes 4 1) []) 0x10 (fun _ h fl => (fl.unacked.map (fun y => ackCovers (h.be 0x18 4) h.payload y.psn)) == [true, false]) = true) ∧
    (answers (inTurn 0x11 0 (beBytes 4 1 ++ [BitVec.ofNat 8 St.busy]) []) 0x11 (fun _ h fl => !Machine.bit (h.be 0x1D 1) 0 && (fl.unacked.find? (fun y => y.psn == h.be 0x18 4)).isSome && h.be 0x1C 1 == St.busy) = true) ∧
    (answers (inTurn 0x11 0 (beBytes 4 1 ++ [BitVec.ofNat 8 St.notPermitted]) []) 0x11 (fun _ h fl => !Machine.bit (h.be 0x1D 1) 0 && (fl.unacked.find? (fun y => y.psn == h.be 0x18 4)).isSome && h.be 0x1C 1 != St.busy) = true) ∧
    (answers (inTurn 0x11 0 (beBytes 4 1 ++ [0, 1]) []) 0x11 (fun _ h _ => Machine.bit (h.be 0x1D 1) 0) = true) :=
  ⟨by decide +kernel, by decide +kernel, by decide +kernel, by decide +kernel, by decide +kernel, by decide +kernel,
      by decide +kernel, frames_responses, frames_collective, frames_delta_again, frames_delta_new, by decide +kernel, frames_rebuild,
      by decide +kernel, by decide +kernel, frames_reckon_same, frames_reckon_other, frames_breach, by decide +kernel, by decide +kernel,
      by decide +kernel, by decide +kernel, by decide +kernel, by decide +kernel, by decide +kernel, by decide +kernel⟩

theorem witness_FabricTimers :
    (2 < 4096 ∧ known.rxOf 2 = some rx0 ∧ rx0.oldest = some 0 ∧ 0 + 25 ≤ known.tick ∧ ({ known with tick := 24 } : State).tick < 0 + 25) ∧
    ((let s := sending imaged (flow0 false [tx0 false]); (s.flow 2).down = false ∧ s.overdue (s.flow 2) ≠ [] ∧ (s.flow 2).expiries < 7 ∧
      s.paths 2 = [])) ∧
    ((let s := sending netted (flow0 false [tx0 false]); (s.flow 2).down = false ∧ s.overdue (s.flow 2) ≠ [] ∧ (s.flow 2).expiries < 7 ∧
      s.paths 2 = [(0, 0)] ∧ ∀ p ∈ s.paths 2, p.2 < 256)) ∧
    ((let s := sending netted { flow0 false [tx0 false] with expiries := 7 }; (s.flow 2).down = false ∧ s.overdue (s.flow 2) ≠ [] ∧
      7 ≤ (s.flow 2).expiries)) ∧
    ((let s := sending netted (flow0 false []); s.overdue (s.flow 2) = [] ∧ (s.flow 2).down = false)) ∧
    ((let s := sending netted (flow0 true [tx0 false]); (s.flow 2).down = true ∧ (s.flow 2).lastRto + 250000 ≤ s.tick ∧
      (s.flow 2).unacked = tx0 false :: [])) ∧
    ((let s := sending netted (flow0 false [tx0 true]); (s.flow 2).unacked.find? (fun t => decide (t.psn = 0) && t.busy) = some (tx0 true) ∧
      (tx0 true).sent.getD 0 + s.rtoTicks (s.flow 2) ≤ s.tick)) ∧
    (0 < 8 ∧ 0 < 16 ∧ (netted.paths 2).contains (0, 0) = true ∧ (netted.rate 2 0 0).lastDec = none) ∧
    ((let s := netted.setRate 2 0 0 ⟨100000, 0, some 0, none⟩; (s.paths 2).contains (0, 0) = true ∧ (s.rate 2 0 0).lastDec = some 0 ∧
      s.tick < 0 + 250 ∧ 0 + 250 ≤ ({ s with tick := 250 } : State).tick)) := ⟨by decide +kernel, by decide +kernel, by decide +kernel,
      by decide +kernel, by decide +kernel, by decide +kernel, by decide +kernel, by decide +kernel, by decide +kernel⟩

/-- Endpoint 4095 with a page as its range. -/
def endpoint : State := imaged.setReg (Reg.fabEpLength 4095) 4096

theorem witness_BreachesAndEndpoints :
    (r0.hostOpen = true ∧ (0x80000000 : Word).getLsbD 31 = true ∧ (0 : Word).getLsbD 31 = false ∧ 31 < 32 ∧ r0.peersOf 0 = []) ∧
    ((peered []).hostOpen = true ∧ (peered []).peersOf (Machine.fld (0x80000000 : Word) 4 0) = [2]) ∧
    (4095 < 4096 ∧ endpoint.hostOpen = true ∧ endpoint.bit (Reg.fabEpCtrl 4095) 31 = false ∧ endpoint.epOk 4095 0x80030000 = true ∧
      (0x80030000 : Word).getLsbD 31 = true ∧ endpoint.epOk 4095 0x9F030000 = false) ∧
    ((endpoint.setReg (Reg.fabEpCtrl 4095) 0x80030000).hostOpen = true ∧
      (endpoint.setReg (Reg.fabEpCtrl 4095) 0x80030000).bit (Reg.fabEpCtrl 4095) 31 = true) := ⟨by decide +kernel, by decide +kernel,
      by decide +kernel, by decide +kernel⟩

/-- Queue pair 1023 is there, its next PSN 100; a request of it by kind and PSN. -/
def paired : State := (((peered []).setReg (Reg.fabQpCtrl 1023) 0x80000000).setReg (Reg.fabQpPsn 1023) 100).arrive env0
def askOf (kind psn : Nat) : Rdma := ⟨0, 0x100000 + 1023, kind, psn, 0, 0, 0, [], false, true⟩

/-- A request of 64 bytes on endpoint 0: a WRITE of one packet, or a READ. -/
def askFor (kind : Nat) : Rdma := ⟨0, 0x100000 + 1023, kind, 100, 0, 0, 64, if kind = 3 then List.replicate 64 7 else [], false, true⟩
/-- The queue pair is within a WRITE of which as much is left. -/
def within (left : Nat) : State := { paired with fab := { paired.fab with qps := [(1023, some (0, 0, left))] } }
/-- Whether a packet of a WRITE is taken in its turn and its bytes are stored. -/
def storesAt (s : State) (q : Rdma) : Bool :=
  let t := (s.qpIntake q).2
  (s.qpIntake q).1 && t.qpOrder q == 0 && (t.writePart q).any (fun x => (t.qpAccess q.qp x.1 x.2.1 x.2.2 1).any (fun y =>
    (t.physWrite Req.peer (addrCore y.2) (addrOff y.2) q.data).1 == 0))
theorem witness_RemoteMemory :
    ([0, 1, 2, 3, 4].all (fun k => (paired.qpIntake (askOf k 100)).1 && !((netted.arrive env0).qpIntake (askOf k 100)).1) = true ∧ 1023 < 1024 ∧
      7 < 8) ∧
    ((paired.qpIntake (askOf 3 100)).2.qpOrder (askOf 3 100) = 0 ∧ (paired.qpIntake (askOf 3 99)).2.qpOrder (askOf 3 99) = 1 ∧
      (paired.qpIntake (askOf 3 101)).2.qpOrder (askOf 3 101) = 2) ∧
    ((askFor 3).kind = 3 ∧ (askFor 3).qpn < 2 ^ 24 ∧ storesAt paired (askFor 3) = true) ∧
    ((let q := { askFor 3 with kind := 2 }; q.kind = 2 ∧ storesAt (within 64) q = true)) ∧
    ((let q := { askFor 3 with kind := 1, data := List.replicate 4096 0, len := 0 }; q.kind = 1 ∧
      (within 4160).fab.qps = [(1023, some (0, 0, 4160))] ∧
      ((within 4160).qpIntake q).1 = true ∧ ((within 4160).qpIntake q).2.qpOrder q = 0 ∧
      ((within 4160).qpIntake q).2.writePart q = some (0, 0, 4160))) ∧
    (SMap.get (fun _ => none) (paired.qpIntake (askOf 4 100)).2.fab.qps 1023 = none ∧ (paired.qpIntake (askOf 4 100)).2.qpOrder (askOf 4 100) = 0 ∧
      (paired.qpIntake (askOf 4 99)).2.qpOrder (askOf 4 99) = 1 ∧ (paired.qpIntake (askOf 4 101)).2.qpOrder (askOf 4 101) = 2) ∧
    ((let q := askFor 4; let t := (paired.qpIntake q).2; q.kind = 4 ∧ (paired.qpIntake q).1 = true ∧
      SMap.get (fun _ => none) t.fab.qps q.qp = none ∧ t.qpOrder q = 0 ∧
      (t.qpAccess q.qp q.rkey q.va q.len 0).any (fun y => (t.physRead Req.peer (addrCore y.2) (addrOff y.2) q.len).2.1 == []) = true)) ∧
    (({ askFor 3 with icrc := false } : Rdma).icrc = false ∧ (0x0FFFFF : Nat) < 0x100000 ∧ 0x100400 ≤ 0x100400 ∧
      paired.receives 0 = true) := ⟨by decide +kernel, by decide +kernel, by decide +kernel, by decide +kernel, by decide +kernel,
      by decide +kernel, by decide +kernel, by decide +kernel⟩

/-- The master of a group, and a member that is not, with the state of their rounds. -/
def master (c : Casc) (t : Nat) : State := { inGroup with tick := t, casc := c }
def follower (c : Casc) (t : Nat) : State := { inGroup.setReg Reg.casStatus 0x80000000 with tick := t, casc := c }

/-- Parity group 1 as it is checked: one data shard on device 2 and the parity shard 1 here, in one unit of 4 KiB at 0x100000. -/
def grouping : State := putMem (putMem ((((((peered []).setReg (Reg.parGrpDev 1 0) 0x00010002).setReg (Reg.parGrpUnits 1) 1).setReg (Reg.parGrpMapCount 1) 1).setReg (Reg.parGrpMapLo 1) 0x200000).setReg
  (Reg.parGrpTagLo 1) 0x300000) 0x200000 [0, 0, 0x10]) 0x200008 [0, 0x10]
/-- Group 1 of device 2 and of the module, whose second shard is LOST. -/
def mending : State := ((((peered []).setReg (Reg.parGrpCtrl 1) 0x80000111).setReg (Reg.parGrpDev 1 0) 0x00010000).setReg (Reg.parGrpLost 1) 2)
theorem witness_CascadeAndParity :
    (inGroup.ready = true ∧ inGroup.isMaster = true ∧ inGroup.inGroup = true ∧ inGroup.casc.roundAt = none ∧ inGroup.hostOpen = true ∧
      inGroup.group? = some group0) ∧
    ((let s := master ⟨[], [], [], some 0, false, none⟩ 249999; s.casc.roundAt = some 0 ∧ s.tick < 0 + s.reckonTicks)) ∧
    ((let s := master ⟨[], [], [], some 0, false, none⟩ 250000; s.ready = true ∧ s.isMaster = true ∧ s.inGroup = true ∧ s.group? = some group0 ∧
      ∀ t ∈ s.casc.roundAt, t + s.reckonTicks ≤ s.tick)) ∧
    (r0.isMaster = false ∧ r0.casc.roundOpen = false ∧ r0.group? = none ∧ r0.ready = true) ∧
    ((let s := master ⟨[], [], [], some 0, true, none⟩ 125000; s.ready = true ∧ s.casc.roundOpen = true ∧ s.casc.roundAt = some 0 ∧
      2 * 0 + s.reckonTicks ≤ 2 * s.tick ∧
      s.group? = some group0 ∧ s.casc.mismatched = [] ∧
      ∀ m ∈ (List.range group0.members).filter (fun m => m != s.memberId && !s.casc.answered.contains m), m ∉ s.casc.missedBefore)) ∧
    ((let s := master { r0.casc with roundAt := some 0, roundOpen := true, answered := [1], mismatched := [1] } 125000; 1 < group0.members ∧
      1 < 16 ∧ 1 ∈ s.casc.mismatched ∧ s.group? = some group0)) ∧
    ((let s := follower ⟨[], [], [], none, false, some 0⟩ 750000; s.ready = true ∧ s.inGroup = true ∧ s.isMaster = false ∧
      s.bit Reg.casStatus 29 = false ∧ s.casc.lastReq = some 0 ∧ 0 + 3 * s.reckonTicks ≤ s.tick ∧ s.group? = some group0)) ∧
    ((inGroup.setReg Reg.casStatus 0xA0000000).bit Reg.casStatus 29 = true) ∧
    (r0.stepPeriod = none ∧
      (let s := { r0.setReg Reg.harvCostMs 20 with parity := { r0.parity with steps := [(200, 2), (100, 1)] } }; s.ready = true ∧
      s.stepPeriod = some (100, 1) ∧ 0 < s.fld Reg.harvCostMs 23 0)) ∧
    (63 < 64 ∧ 8 < 9 ∧ (r0.arrive env0).hostOpen = true ∧ r0.hostOpen = true ∧
      ({ r0 with pins := { r0.pins with perst := true } } : State).hostOpen = false ∧
      (({ r0 with pins := { r0.pins with perst := true } } : State).arrive env0).hostOpen = false) ∧
    ((mending.arrive env0).parValid 1 = true ∧ (r0.arrive env0).parValid 1 = false ∧ (0x80000111 : Word).getLsbD 31 = true ∧
      (0 : Word).getLsbD 31 = false) ∧
    ((((grouping.arrive env0).setReg (Reg.parGrpCtrl 1) ((0x80000111 : Word) &&& 0x1F1F7F)).grpCheck 1 0x80000111).1 = 0 ∧
      (grouping.arrive env0).parValid 1 = false ∧ (grouping.arrive env0).hostOpen = true) ∧
    ((((r0.arrive env0).setReg (Reg.parGrpCtrl 1) ((0x80000111 : Word) &&& 0x1F1F7F)).grpCheck 1 0x80000111).1 ≠ 0) ∧
    (mending.hostOpen = true ∧ mending.parValid 1 = true ∧ mending.parDev 1 (2 * 0) = Machine.fld (0x00020000 : Word) 11 0 ∧
      mending.parDev 1 (2 * 0 + 1) ≠ Machine.fld (0x00020000 : Word) 27 16 ∧
      mending.parLost 1 (2 * 0 + 1) = true ∧ mending.peerRight (mending.parPolder 1) (Machine.fld (0x00020000 : Word) 27 16) 3 = true ∧
      Machine.fld (0x00020000 : Word) 27 16 ∉ mending.parDevs 1) := ⟨by decide +kernel, by decide +kernel, by decide +kernel,
      by decide +kernel, by decide +kernel, by decide +kernel, by decide +kernel, by decide +kernel, by decide +kernel, by decide +kernel,
      by decide +kernel, by decide +kernel, by decide +kernel, by decide +kernel⟩

/-! ### Ill-formed commands are refused -/

/-- Operands outside their ranges are refused: part 1. -/
theorem test_ill_formed_1 : [(.powerOn 2 boot0 : Instr),
    .strapChange 16, .vfEnable 0, .vfEnable 64, .flrVf 0, .flrVf 64, .d3hotEntry 64,
    .d0Return 64 env0, .ideIntegrityFailure 5, .remapNvmWrite 256 1, .remapNvmWrite 1 8, .counterLoRead 64 1, .registerWrite 64 1 0 env0,
    .ctxBind 64 1 0, .ctxEnable 64 1 false, .ctxDisable 64 1 false, .contextReset 64 1, .dbSqTail 64 1 0, .dbCqHead 64 1 0,
    .descriptorFetch 4096 env0, .irqHoldExpiry 4096, .passStart 256 env0, .drainComplete 256 [] env0, .shadowSampleEnd 256, .copyOnWriteEnd 32 1 env0,
    .nbuSequenceEnd 256 1, .nbuSequenceEnd 1 32, .nbuEnd 256 1, .nbuEnd 1 32, .nbuLd 256 1 env0, .nbuLd 1 32 env0,
    .nbuSt 256 1 env0, .nbuSt 1 32 env0, .nbuFma 256 1, .nbuFma 1 32, .nbuMul 256 1, .nbuMul 1 32,
    .nbuAdd 256 1, .nbuAdd 1 32, .nbuMax 256 1].all (fun i => !i.wf) = true := by decide +kernel

/-- Operands outside their ranges are refused: part 2. -/
theorem test_ill_formed_2 : [(.nbuMax 1 32 : Instr),
    .nbuScale 256 1, .nbuScale 1 32, .nbuSgn 256 1, .nbuSgn 1 32, .nbuClip 256 1, .nbuClip 1 32,
    .nbuExp 256 1, .nbuExp 1 32, .nbuHsum 256 1, .nbuHsum 1 32, .nbuHmax 256 1, .nbuHmax 1 32,
    .nbuArg 256 1, .nbuArg 1 32, .nbuPset 256 1, .nbuPset 1 32, .nbuPadd 256 1, .nbuPadd 1 32,
    .nbuParg 256 1, .nbuParg 1 32, .nbuLset 256 1, .nbuLset 1 32, .nbuLoop 256 1, .nbuLoop 1 32,
    .nbuBrlt 256 1, .nbuBrlt 1 32, .nbuJmp 256 1, .nbuJmp 1 32, .drainDeadline 32, .polderStopped 32,
    .imgGo 4, .imgSrc 4, .memClrLog 256, .memClrCounts 256, .arrClrCounters 256, .precClr 256,
    .precClear 32, .patrolScrub 256 env0, .refreshDue 256 1].all (fun i => !i.wf) = true := by decide +kernel

/-- Operands outside their ranges are refused: part 3. -/
theorem test_ill_formed_3 : [(.refreshDue 1 32 : Instr),
    .memCalibrationDue 256, .memCalibrationDone 256, .engineReset 256, .polderReset 32, .chipReset 256, .moduleReset 256,
    .powerCycleRequest 256, .sluiceClose 1 1, .sluiceClose 6 1, .resetComplete 1 1 boot0, .resetComplete 6 1 boot0, .resetOverrun 1 1,
    .resetOverrun 6 1, .fwCommit 256, .fwRecover 256, .ownerLock 256, .spdmGetVersion 3 [], .spdmGetCapabilities 3 [],
    .spdmNegotiateAlgorithms 3 [], .spdmGetDigests 3 [], .spdmGetCertificate 3 1 1 1, .spdmChallenge 3 [], .spdmGetMeasurements 3 1 [], .spdmKeyExchange 3 [],
    .spdmFinish 3 1 [], .spdmHeartbeat 3 1, .spdmKeyUpdate 3 1, .spdmEndSession 3 1, .ideKm 1 5 false, .mctpSetEid 2 1 1,
    .mctpSetEid 1 256 1, .mctpSetEid 1 1 256, .mctpGetEid 2, .mctpGetUuid 2, .mctpGetVersion 2 1, .mctpGetTypes 2,
    .mctpGetVendor 2, .mctpMailbox 2 1 1 1 1 1, .mctpAlmRead 2 1 1 1 1].all (fun i => !i.wf) = true := by decide +kernel

/-- Operands outside their ranges are refused: part 4. -/
theorem test_ill_formed_4 : [(.mctpAlmFreeze 2 1 : Instr),
    .mctpHeatReport 2 1, .pldmGetTid 2 1, .pldmGetVersion 2 1 1, .pldmGetTypes 2 1, .pldmGetCommands 2 1 1, .pldmGetPdrInfo 2 1,
    .pldmGetPdr 2 1 1, .pldmGetSensor 2 1 1, .pldmSetReceiver 2 1 1, .pldmQueryDevice 2 1, .pldmGetFwParams 2 1, .pldmRequestUpdate 2 1,
    .pldmPassComponents 2 1, .pldmUpdateComponent 2 1 1, .pldmActivate 2 1, .pldmGetStatus 2 1, .pldmCancel 2 1, .almFreeze 256,
    .feedRise 2 1, .hotSwapConnect 2, .feedLost 2 1, .feedRejoin 2 1, .pwrPhaseFail 32 1, .pwrPhaseFail 1 32,
    .rampStart 32 1, .rampStart 1 256, .rampRetry 32, .rampForcedAdmit 32, .rampDensityStep 32, .rampTargetRaise 32,
    .halfStandby 8, .halfAsleep 8, .ceilingUpdate 256 1, .powerGrant 2 1 1 1, .powerGrant 1 1 (2 ^ 32) 1, .powerGrant 1 1 1 (2 ^ 16),
    .grantFrame { frameOf 0x60 0 0 with port := 8 }, .grantFrame (frameOf 0x99 0 0), .slackWindowEnd 65536].all (fun i => !i.wf) = true := by decide +kernel

/-- Operands outside their ranges are refused: part 5. -/
theorem test_ill_formed_5 : [(.slackFrame { frameOf 0x61 0 0 with port := 8 } : Instr),
    .slackFrame (frameOf 0x99 0 0), .thermalStep false 256, .thermalStep true 8, .memDutyStep 8, .thmModel 13, .thmSuspect 13,
    .modelRelease 13, .portLinkUp 8, .portLinkDown 8, .laneRetrainTrigger 8 1, .laneRetrainTrigger 1 8, .laneRetrainStepDone 8,
    .arpRequest 8 1 1 1, .icmpEcho 8 1 1 [], .pauseFrame 8, .rxDiscard 8, .fabWrite { frameOf 0x01 0 0 with port := 8 } env0, .fabWrite (frameOf 0x02 0 0) env0,
    .fabReadReq { frameOf 0x02 0 0 with port := 8 } env0, .fabReadReq (frameOf 0x99 0 0) env0, .fabReadRsp { frameOf 0x03 0 0 with port := 8 } env0, .fabReadRsp (frameOf 0x99 0 0) env0, .fabAck { frameOf 0x10 0 0 with port := 8 }, .fabAck (frameOf 0x99 0 0),
    .fabNak { frameOf 0x11 0 0 with port := 8 }, .fabNak (frameOf 0x99 0 0), .ackTimer 4096, .retransmitTimeout 4096, .peerDownRetransmit 4096, .busyRetry 4096 1,
    .rateIncrease 4096 1 1, .rateIncrease 1 8 1, .rateIncrease 1 1 16, .collData { frameOf 0x20 0 0 with port := 8 } env0, .collData (frameOf 0x99 0 0) env0, .breachFrame { frameOf 0x40 0 0 with port := 8 },
    .breachFrame (frameOf 0x99 0 0), .breachLatchClear 32, .fabEpValid 4096 0].all (fun i => !i.wf) = true := by decide +kernel

/-- Operands outside their ranges are refused: part 6. -/
theorem test_ill_formed_6 : [(.rdmaWrite { askOf 0 0 with qpn := 2 ^ 24 } env0 : Instr),
    .rdmaWrite { askOf 0 0 with port := 8 } env0, .rdmaWrite (askOf 4 0) env0, .rdmaRead { askOf 4 0 with qpn := 2 ^ 24 } env0, .rdmaRead { askOf 4 0 with port := 8 } env0, .rdmaRead (askOf 3 0) env0, .rdmaInvalid { askOf 0 0 with port := 8 },
    .reckonReq { frameOf 0x50 0 0 with port := 8 }, .reckonReq (frameOf 0x99 0 0), .reckonRsp { frameOf 0x51 0 0 with port := 8 }, .reckonRsp (frameOf 0x99 0 0), .parDelta { frameOf 0x30 0 0 with port := 8 } env0, .parDelta (frameOf 0x99 0 0) env0,
    .parReadReq { frameOf 0x31 0 0 with port := 8 } env0, .parReadReq (frameOf 0x99 0 0) env0, .parReadRsp { frameOf 0x32 0 0 with port := 8 } env0, .parReadRsp (frameOf 0x99 0 0) env0, .harvReport { frameOf 0x33 0 0 with port := 8 }, .harvReport (frameOf 0x99 0 0),
    .parGrpValid 64 0 env0, .parGrpLost 64 0, .parGrpDev 64 1 0, .parGrpDev 1 9 0].all (fun i => !i.wf) = true := by decide +kernel

/-- A well-formed command of each shape is taken. -/
theorem test_wf_takes : [Instr.powerOn 1 boot0, .strapChange 15, .vfEnable 63, .flrVf 1, .nbuFma 255 31, .descriptorFetch 4095 env0,
    .fabAck (frameOf 0x10 0 0), .rdmaRead (askOf 4 0) env0, .rampStart 31 255].all Instr.wf = true := by decide +kernel

/-- An ill-formed command faults, and changes nothing (log entry 6). -/
theorem test_ill_formed_faults : (match exec (.strapChange 16) r0 with
    | .fault .illFormed => true
    | _ => false) = true := by decide +kernel

/-! ### Values that the manual works out -/

/-- The worked example of R299–R303: the address 0x0043_0400_5923 under a POLDER grant of the columns of cores 0x40–0x4F lies in the column of core
0x45 at 0x0430_0923, and the address 0x1000 higher in column 0x46 at the same offset. -/
theorem test_polder_interleave : (⟨0, 3, 3, 0x04000000, 0x01000000, 2 ^ 64 * 0xFFFF⟩ : GrantRec).map 0x43 0x04005923 = (0x45, 0x04300923) ∧
    (⟨0, 3, 3, 0x04000000, 0x01000000, 2 ^ 64 * 0xFFFF⟩ : GrantRec).map 0x43 0x04006923 = (0x46, 0x04300923) := by decide +kernel

/-- The same example: the rotated form places it in bank 1, row 2,144, byte 0x123 of block 4. -/
theorem test_rotated_form : (let q := ({ r0 with image := some { image0 with grants := [⟨0, 3, 3, 0x04000000, 0x01000000, 2 ^ 64 * 0xFFFF⟩] } } : State).cellOf 0x45 0x04300923
    (cellLayer q, cellBank q, cellRow q, bits q 10 0, bits q 10 6)) = (0, 1, 2144, 0x123, 4) := by decide +kernel

/-- The locators of the manual's two examples: of the flip test and of the almanac's entry. -/
theorem test_locators : locatorOf (r0.cellOf 0x45 0x04300900) = 0x84A01200 ∧ locatorOf (r0.cellOf 0x45 0x00621A80) = 0x8C043500 := by decide +kernel

/-- The almanac entry that the manual shows byte for byte. -/
theorem test_almanac_entry : leBytes 32 (mkEntry 0x0A3F1C20 0x0404 (5, 0x45) (some 0x205) false
      (dataOf [(0, 0x004500621A80), (8, 0x8C043500), (12, 1)])).toNat =
    [0x20, 0x1C, 0x3F, 0x0A, 0, 0, 0, 0, 0x04, 0x04, 0x45, 0x50, 0x03, 0x01, 0x05, 0x02,
     0x80, 0x1A, 0x62, 0x00, 0x45, 0, 0, 0, 0x00, 0x35, 0x04, 0x8C, 0x01, 0, 0, 0] := by decide +kernel

/-- The example of R133: the settings digest of the defaults is the SHA-256 of these 48 bytes. -/
theorem test_settings_digest : r0.settingsDigest = digestOf
    [1, 0, 0, 0, 0, 0, 0, 0, 2, 0, 0, 0, 0, 0, 0, 0, 3, 0, 0, 0, 0, 0, 0, 0, 4, 0, 0, 0, 0x32, 0, 0, 0,
     5, 0, 0, 0, 0x80, 0, 0, 0, 6, 0, 0, 0, 0, 0, 0, 0] := by decide +kernel

/-- The published check values of SHA-256, CRC-32 and CRC-32C. -/
theorem test_digests : digestOf [0x61, 0x62, 0x63] = 0xba7816bf8f01cfea414140de5dae2223b00361a396177a9cb410ff61f20015ad ∧
    crc32 [0x31, 0x32, 0x33, 0x34, 0x35, 0x36, 0x37, 0x38, 0x39] = 0xCBF43926 ∧
    crc32c [0x31, 0x32, 0x33, 0x34, 0x35, 0x36, 0x37, 0x38, 0x39] = 0xE3069283 := by decide +kernel

/-- The example of R239: 1.30078125 rounds to 1.296875 at the tie, to 1.3046875 under the state 0x9A3C_0F21, and down where the top
16 bits are below 0x8000. -/
theorem test_bf16_rounding : (elemRound Fm.bf16 .nearest false 0xA68 (-11) 1).1 = 0x3FA6 ∧ (f32 0x3FA68000).sub (.fin false 0xA68000 (-23)) = .zero ∧
    (elemRound Fm.bf16 .nearest false 0xA68000 (-23) 1).1 = 0x3FA6 ∧
    (elemRound Fm.bf16 (.stochastic 0x9A3C0F21) false 0xA68000 (-23) 1).1 = 0x3FA7 ∧
    (elemRound Fm.bf16 (.stochastic 0x7FFF0F21) false 0xA68000 (-23) 1).1 = 0x3FA6 := by decide +kernel

/-- The example of R241: a block whose greatest magnitude is 21.504 has the G16 scale 0x47. -/
theorem test_g16_scale : g16Scale 22020 (-10) = (0x47, false) := by decide +kernel

/-- R583's example: c(0, 0) is 4^−1 = 0x47; and a block that the code takes apart again. -/
theorem test_field_inverse : gfInv 4 = 0x47 ∧ gfMul 4 0x47 = 1 := by decide +kernel

/-- The micro-ops of the manual's program 5, field by field. -/
theorem test_micro_ops : (let u : DWord := 0x04001C1000000000; (uOp u, uVd u, uCnt u, uFmt u, uDst u)) = (1, 0, 7, 1, false) ∧
    (let u : DWord := 0x06001C1C00000000; (uOp u, uVd u, uCnt u, uFmt u, uDst u)) = (1, 8, 7, 1, true) ∧
    (let u : DWord := 0x8400000000000100; (uOp u, uPtr u, uImm u)) = (0x21, 0, 256) ∧
    (let u : DWord := 0xA800000800000001; (uOp u, uPtr u, uDst u, uImm u)) = (0x2A, 0, true, 1) := by decide +kernel

/-- R506's example: four members of 2,500 W each that report slacks of 0.02, 0.30, 0.30 and 0.20. -/
theorem test_grants_shift : shiftGrants 3000 [(2500, 1311), (2500, 19661), (2500, 19661), (2500, 13107)] = [2732, 2381, 2381, 2506] := by
  decide +kernel

/-- The example of R602: an advice of 2,254 steps. -/
theorem test_harvest_advice : adviseSteps 6400 (failureRate 20 [(1, 720)]) (10500000, 1) = 2254 := by decide +kernel

/-- The manual's example after R176: the entry of context 517 lies at BAR0 0x0004_8140, its CTX_BIND at +0x04 (R178). -/
theorem test_context_entry : Reg.ctxCtrl 517 = 0x48140 ∧ Reg.ctxBind 517 = 0x48144 := by decide +kernel

/-! ### Single steps -/

/-- What a property of the state after one step of a queued command is. -/
def after (c : Instr) (s : State) (p : State → Bool) : Bool := match step { s with pending := [c] } with
  | .next t => p t && t.pending.isEmpty
  | _ => false

/-- The example of R133: SET of key 3 to 3 changes the shadow copy; the value in force stays 0. -/
theorem test_mailbox_set : after .mbxSet ((r0.setReg (Reg.mbxArg 0) 3).setReg (Reg.mbxArg 1) 3) (fun t =>
    t.shadowVal 3 == 3 && t.inforce 3 == 0 && t.fld Reg.mbxStatus 15 8 == 0 && t.bit Reg.mbxStatus 1 && t.bit Reg.nvsStatus 1) = true := by
  decide +kernel

/-- VOTE_MARGIN 128 is outside its range (R122): ST_BAD_DESCRIPTOR, and the shadow copy stays. -/
theorem test_mailbox_set_out_of_range : after .mbxSet ((r0.setReg (Reg.mbxArg 0) 3).setReg (Reg.mbxArg 1) 128) (fun t =>
    t.shadowVal 3 == 0 && t.fld Reg.mbxStatus 15 8 == St.badDescriptor) = true := by decide +kernel

/-- With nothing queued the clock goes on (log entry 4). -/
theorem test_idle_step : (match step r0 with
    | .next t => t.tick == 1 && t.regs == r0.regs
    | _ => false) = true := by decide +kernel

/-- FLIP armed by MEM_ARM: the manual's 0x8000_0045 stays, other bits are dropped (R323). -/
theorem test_arm : after (.memArm 0xFFFFFFFF) r0 (fun t => t.reg Reg.memFliptarget == 0x800000FF) = true := by decide +kernel

/-- IMG_GO with the port as its source goes to the validation at once (R100, R101). -/
theorem test_image_go : after (.imgGo 0) r0 (fun t => t.loader.stage == .validating) = true := by decide +kernel

/-- A stand-by half that has been idle for ASLEEP_MS goes to sleep, and not a tick before (R495). -/
theorem test_half_asleep : after (.halfAsleep 7) { late 250000000 with clocks := { r0.clocks with half := [(7, .standby)] } } (fun t => t.half 7 == .asleep) = true ∧
    after (.halfAsleep 7) { late 100 with clocks := { r0.clocks with half := [(7, .standby)] } } (fun t => t.half 7 == .standby) = true := by decide +kernel

/-- A micro-op ADD of the manual's program 5 adds: 1.5 + 2.25 in lane 0 of VR 8 (R346). -/
theorem test_nbu_add : after (.nbuAdd 0 0) (running { newSeq 1 0 0 [0x2A201C0400000000] 0 0x1000 0 0x1000 [0, 0, 0, 0] with
      vregs := (List.range 16).map (fun i => List.replicate 16 (if i = 8 then 0x3FC00000 else if i = 0 then 0x40100000 else 0)) }) (fun t =>
    match t.nbu 0 0 with
    | some q => (q.vregs.getD 8 []).getD 0 0 == 0x40700000 && q.pc == 1
    | none => false) = true := by decide +kernel

end Sys2Proof.Tests
end

