-- ==== Sys2Proof/Proofs/StartOrder.lean ====
section
/-! PROOF. The order in which commands of one context start (R166–R168). -/
namespace Sys2Proof.Machine

/-- The command that starts is the one of this identity; it has the opcode, is startable and has its turn. -/
theorem starts_eq_some_iff {s : State} {id op : Nat} {c : Cmd} :
    s.starts id op = some c ↔ s.cmd? id = some c ∧ c.op = op ∧ s.startable c = true ∧ s.myTurn c = true := by
  unfold State.starts
  cases s.cmd? id with
  | none => simp
  | some d =>
    simp only [Option.ite_none_right_eq_some, Option.some.injEq, Bool.and_eq_true, decide_eq_true_eq]
    constructor
    · rintro ⟨⟨⟨hop, hst⟩, hturn⟩, rfl⟩
      exact ⟨rfl, hop, hst, hturn⟩
    · rintro ⟨rfl, hop, hst, hturn⟩
      exact ⟨⟨⟨hop, hst⟩, hturn⟩, rfl⟩

/-- The order part of `startable` (R167, R168): while an earlier command of the context is in flight, only a command that is neither
ORDERED nor a FENCE may start, and only when that earlier one is no FENCE. -/
theorem startable_earlier {s : State} {c d : Cmd} (h : s.startable c = true) (hd : d ∈ s.earlier c) :
    c.ordered = false ∧ c.op ≠ 0x60 ∧ d.op ≠ 0x60 := by
  unfold State.startable at h
  obtain ⟨-, hall⟩ := Bool.and_eq_true_iff.mp h
  simpa [and_assoc] using List.all_eq_true.mp hall d hd

/-- An ORDERED command or a FENCE that is startable has no earlier command of its context in flight (R167, R168). -/
theorem earlier_eq_nil_of_startable {s : State} {c : Cmd} (h : s.startable c = true)
    (hc : c.ordered = true ∨ c.op = 0x60) : s.earlier c = [] := by
  refine List.eq_nil_iff_forall_not_mem.mpr fun d hd => ?_
  obtain ⟨hord, hop, -⟩ := startable_earlier h hd
  rcases hc with hc | hc
  · exact Bool.false_ne_true (hord.symm.trans hc)
  · exact hop hc

end Sys2Proof.Machine

namespace Sys2Proof.Proofs
open Sys2Proof.Machine

/-- Settles O22: what starts is startable, and `startable` looks at every earlier command of the context. -/
theorem startOrder : Obligations.StartOrder := by
  unfold Obligations.StartOrder
  intro s id op c h
  obtain ⟨-, -, hst, -⟩ := starts_eq_some_iff.mp h
  refine ⟨earlier_eq_nil_of_startable hst, fun d hd => ?_⟩
  obtain ⟨-, -, hd60⟩ := startable_earlier hst hd
  exact hd60

end Sys2Proof.Proofs
end

section
/-! PROOF. A reset that is begun runs (R40, R561), and what an assertion of PERST_N does (R615, R674). -/
namespace Sys2Proof.Machine

/-! ### What the parts of a beginning reset leave alone -/

@[simp] theorem State.setDike_resets (s : State) (level unit : Nat) (up : Bool) : (s.setDike level unit up).resets = s.resets := by
  unfold State.setDike
  split
  · rfl
  · split <;> rfl

@[simp] theorem State.showResets_resets (s : State) : s.showResets.resets = s.resets := rfl

@[simp] theorem State.resetEndsLoad_resets (s : State) (level : Nat) : (s.resetEndsLoad level).resets = s.resets := by
  unfold State.resetEndsLoad
  split
  · split <;> rfl
  · split <;> rfl

/-- A wider reset ends replays, and no reset. -/
@[simp] theorem State.resetEndsReplay_jobs (s : State) (level unit : Nat) :
    (s.resetEndsReplay level unit).resets.jobs = s.resets.jobs := by
  simp only [State.resetEndsReplay]
  split
  · rfl
  · split
    · split <;> rfl
    · rfl

/-- A command that meets a reset wider than a core's is stopped, has its status changed, or is left alone. -/
theorem State.meetReset_steady (s : State) {level : Nat} (hl : level ≠ 2) (c : Cmd) : Steady s (s.meetReset level c) := by
  unfold State.meetReset
  rw [if_neg hl]
  split
  · split
    · exact .updCmd _ _ _ fun _ => rfl
    · exact .refl s
  · exact s.stopCmd_steady _ _

theorem State.meetScope_steady (s : State) {level : Nat} (hl : level ≠ 2) (unit : Nat) : Steady s (s.meetScope level unit) :=
  .foldl _ (fun s c => s.meetReset_steady hl c) _ s

/-! ### A reset that is begun runs -/

/-- A reset takes itself in (R40). -/
theorem State.resetCovers_self (s : State) (level unit : Nat) : s.resetCovers level unit level unit = true := by
  simp [State.resetCovers]

/-- A reset in progress goes on, with what it takes in, when another is merged into it. -/
theorem mergeReset_resetRuns {s : State} {j : ResetJob} {level unit : Nat} (hj : j ∈ s.resets.jobs)
    (hc : s.resetCovers j.level j.unit level unit = true) (w : ResetJob) (l : Nat) (suspects : List Nat) :
    ResetRuns (s.mergeReset w l suspects) level unit := by
  refine ⟨_, List.mem_map_of_mem hj, ?_⟩
  split <;> exact hc

/-- The reset that joins those in progress is among them. -/
theorem State.mem_jobs_addJob (s : State) (job : ResetJob) : job ∈ (s.addJob job).resets.jobs := by
  simp [State.addJob]

/-- A reset wider than a core's runs once it is begun: merged into one in progress that takes it in, or on its own (R40, R561). -/
theorem beginReset_resetRuns (s : State) {level : Nat} (hl : level ≠ 2) (unit trigger : Nat) (by' : Option Cmd)
    (odd : Option (Nat × Nat × Nat)) (suspects : List Nat) :
    ResetRuns (s.beginReset level unit trigger by' odd suspects) level unit := by
  unfold State.beginReset
  split
  next w hw =>
    have hcover : s.resetCovers w.level w.unit level unit = true := by simpa using List.find?_some hw
    exact mergeReset_resetRuns (List.mem_of_find?_eq_some hw) hcover w level suspects
  next =>
    refine ⟨(s.giveWay level unit).newJob level unit trigger by' odd suspects, ?_, State.resetCovers_self _ _ _⟩
    simp [(State.meetScope_steady _ hl unit).resets, State.mem_jobs_addJob]

/-- No commit of an image holds a module reset back (R102). -/
theorem reachReset_module (s : State) (unit trigger : Nat) (by' : Option Cmd) (odd : Option (Nat × Nat × Nat)) (suspects : List Nat) :
    s.reachReset 5 unit trigger by' odd suspects = s.beginReset 5 unit trigger by' odd suspects := by
  simp [State.reachReset, State.heldByCommit]

/-- After a PCIe event of R615 a module reset runs. -/
theorem pcieReset_resetRuns (s : State) : ResetRuns s.pcieReset 5 0 := by
  unfold State.pcieReset
  rw [reachReset_module]
  exact beginReset_resetRuns _ (by decide) _ _ _ _ _

/-! ### An assertion of PERST_N -/

theorem doPerstAssert_short {ns : Nat} (h : ns < 1000) (s : State) : doPerstAssert ns s = s := by
  simp [doPerstAssert, h]

theorem doPerstAssert_unpowered (ns : Nat) {s : State} (h : s.powered = false) : doPerstAssert ns s = s := by
  simp [doPerstAssert, h]

/-- From 1 µs on, with a feed and bring-up over, the pin reads asserted, the link is down and a PCIe reset is reached. -/
theorem doPerstAssert_long {ns : Nat} {s : State} (hns : 1000 ≤ ns) (hpow : s.powered = true) (hpin : s.pins.perst = false)
    (hbring : s.pcie.bring = none) : doPerstAssert ns s =
      ({ s with pins := { s.pins with perst := true }, pcie := { s.pcie with linkUp := false } } : State).pcieReset := by
  simp [doPerstAssert, Nat.not_lt.mpr hns, hpow, hpin, hbring]

end Sys2Proof.Machine

namespace Sys2Proof.Proofs
open Sys2Proof.Machine

/-- Settles O12: the short and the unpowered assertion are the branch of `doPerstAssert` that leaves the state alone; the other reaches a
module reset, which runs since no commit holds it back. -/
theorem perstAssertion : Obligations.PerstAssertion := by
  unfold Obligations.PerstAssertion
  intro s ns
  refine ⟨fun hshort => ?_, fun hlong hpow hpin hbring => ?_, fun hdark => ?_⟩
  · exact becomes_of (exec_perstAssert ns s) rfl (doPerstAssert_short hshort s)
  · refine completes_of (exec_perstAssert ns s) rfl ?_
    rw [doPerstAssert_long hlong hpow hpin hbring]
    exact pcieReset_resetRuns _
  · exact becomes_of (exec_perstAssert ns s) rfl (doPerstAssert_unpowered ns hdark)

end Sys2Proof.Proofs
end

section
/-! PROOF. The queue and the step: every command answers, and a step takes the front of the queue (95_what_each_step_holds.md). -/
namespace Sys2Proof.Machine

/-- The meaning of every constructor is one effect on the state, held back only by well-formedness. -/
theorem exec_guarded (c : Instr) : Laws.Guarded.Statement c := by
  cases c <;> exact ⟨_, fun _ => rfl⟩

theorem step_cons {c : Instr} {rest : List Instr} {s : State} (h : s.pending = c :: rest) : step s = exec c (s.withQueue rest) := by
  simp [step, h]

theorem step_nil {s : State} (h : s.pending = []) : step s = .next (clockTick s) := by
  simp [step, h]

/-- The state with other rails and other core frequencies (R493). -/
def State.withRails (s : State) (rails : SMap Rail) (freq : SMap Nat) : State :=
  { s with clocks := { s.clocks with rails := rails, freq := freq } }

section
variable (s : State) (rails : SMap Rail) (freq : SMap Nat)

theorem State.withRails_coreActive : (s.withRails rails freq).coreActive = s.coreActive := rfl
theorem State.withRails_coreUsable : (s.withRails rails freq).coreUsable = s.coreUsable := rfl
theorem State.withRails_coreTarget : (s.withRails rails freq).coreTarget = s.coreTarget := rfl
theorem State.withRails_half : (s.withRails rails freq).half = s.half := rfl
theorem State.withRails_halted : (s.withRails rails freq).halted = s.halted := rfl
theorem State.withRails_variant : (s.withRails rails freq).variant = s.variant := rfl
theorem State.withRails_clocked : (s.withRails rails freq).clocked = s.clocked := rfl

theorem State.withRails_halfPll (h : Nat) : (s.withRails rails freq).halfPll h = s.halfPll h := by
  simp only [State.halfPll, withRails_coreActive, withRails_coreUsable, withRails_coreTarget, withRails_half, withRails_halted,
    withRails_variant]
  rfl

/-- R496 gives a core its frequency whatever the rails and the frequencies stand at. -/
theorem State.withRails_freqWant (n : Nat) : (s.withRails rails freq).freqWant n = s.freqWant n := by
  simp only [State.freqWant, State.coreN, withRails_halfPll, withRails_clocked, withRails_coreTarget]

end

/-- Only the rails and the core frequencies differ. -/
def RailFrame (s t : State) : Prop := ∃ rails freq, t = s.withRails rails freq

theorem RailFrame.refl (s : State) : RailFrame s s := ⟨s.clocks.rails, s.clocks.freq, rfl⟩

theorem RailFrame.trans {s t u : State} (h : RailFrame s t) (k : RailFrame t u) : RailFrame s u := by
  obtain ⟨r, f, rfl⟩ := h
  obtain ⟨r', f', rfl⟩ := k
  exact ⟨r', f', rfl⟩

theorem railTick_frame (s : State) (c : Nat) : RailFrame s (s.railTick c) := by
  simp only [RailFrame, State.railTick]
  exact ⟨_, _, rfl⟩

theorem foldl_railTick_frame (l : List Nat) (s : State) : RailFrame s (l.foldl State.railTick s) := by
  induction l generalizing s with
  | nil => exact .refl s
  | cons c l ih =>
    rw [List.foldl_cons]
    exact (railTick_frame s c).trans (ih (s.railTick c))

theorem RailFrame.pending {s t : State} (h : RailFrame s t) : t.pending = s.pending := by
  obtain ⟨r, f, rfl⟩ := h; rfl

theorem RailFrame.tick {s t : State} (h : RailFrame s t) : t.tick = s.tick := by
  obtain ⟨r, f, rfl⟩ := h; rfl

theorem RailFrame.freqWant {s t : State} (h : RailFrame s t) (n : Nat) : t.freqWant n = s.freqWant n := by
  obtain ⟨r, f, rfl⟩ := h; exact s.withRails_freqWant r f n

theorem clockTick_pending (s : State) : (clockTick s).pending = s.pending := by
  simp only [clockTick]
  exact (foldl_railTick_frame _ s).pending

/-! ### The rails and the core frequencies (R493) -/

/-- Entries set one after the other, each to a value of its key. -/
theorem SMap.get_foldl_set {β : Type} [DecidableEq β] (d f : Nat → β) (l : List Nat) (m : SMap β) (j : Nat) :
    SMap.get d (l.foldl (fun m n => SMap.set d m n (f n)) m) j = if j ∈ l then f j else SMap.get d m j := by
  induction l generalizing m with
  | nil => simp
  | cons n l ih =>
    rw [List.foldl_cons, ih, SMap.get_set]
    by_cases hl : j ∈ l
    · simp [hl]
    · by_cases hn : j = n <;> simp [hl, hn]

/-- What the frequencies of a cluster's cores ask of their rail. -/
def State.railGoal (s : State) (c : Nat) : Nat := railNeed ((List.range 8).map (fun i => (8 * c + i, s.freqWant (8 * c + i))))

/-- A rail after a tick. -/
def State.railNext (s : State) (c : Nat) : Rail :=
  if (s.rail c).dmv < s.railGoal c then ⟨min (s.railGoal c) ((s.rail c).dmv + 4), none⟩
  else if (s.rail c).dmv = s.railGoal c then ⟨s.railGoal c, none⟩
  else match (s.rail c).since with
    | none => ⟨(s.rail c).dmv, some s.tick⟩
    | some t => if t + 125 ≤ s.tick then ⟨s.railGoal c, none⟩ else s.rail c

theorem State.railNext_of_lt {s : State} {c : Nat} (h : (s.rail c).dmv < s.railGoal c) :
    s.railNext c = ⟨min (s.railGoal c) ((s.rail c).dmv + 4), none⟩ := by
  simp [State.railNext, h]

theorem State.railNext_of_eq {s : State} {c : Nat} (h : (s.rail c).dmv = s.railGoal c) : s.railNext c = ⟨s.railGoal c, none⟩ := by
  simp [State.railNext, h]

/-- A rail that carries more than is asked for waits 5 µs, and then follows. -/
theorem State.railNext_of_gt {s : State} {c : Nat} (h : s.railGoal c < (s.rail c).dmv) :
    s.railNext c = match (s.rail c).since with
      | none => ⟨(s.rail c).dmv, some s.tick⟩
      | some t => if t + 125 ≤ s.tick then ⟨s.railGoal c, none⟩ else s.rail c := by
  simp only [State.railNext, if_neg (Nat.not_lt.mpr (Nat.le_of_lt h)), if_neg (Nat.ne_of_gt h)]

theorem railTick_rail (s : State) (c d : Nat) : (s.railTick c).rail d = if d = c then s.railNext c else s.rail d := by
  simp only [State.railTick, State.rail, SMap.get_set, State.railNext, State.railGoal, List.map_map, Function.comp_def]
  rfl

/-- On a rail that carries what its cores ask for, each runs at its frequency; the cores of other clusters keep theirs. -/
theorem railTick_freq (s : State) (c n : Nat) (h : s.railGoal c ≤ (s.rail c).dmv) :
    (s.railTick c).freq n = if 8 * c ≤ n ∧ n < 8 * c + 8 then s.freqWant n else s.freq n := by
  simp only [State.railGoal] at h
  simp only [State.railTick, State.freq, List.map_map, Function.comp_def, h, if_true, SMap.get_foldl_set]
  have hmem : (n ∈ (List.range 8).map (fun i => 8 * c + i)) ↔ (8 * c ≤ n ∧ n < 8 * c + 8) := by
    simp only [List.mem_map, List.mem_range]
    exact ⟨by rintro ⟨i, hi, rfl⟩; omega, fun hn => ⟨n - 8 * c, by omega, by omega⟩⟩
  simp only [hmem]

theorem railTick_freq_other (s : State) (c n : Nat) (h : ¬ (8 * c ≤ n ∧ n < 8 * c + 8)) : (s.railTick c).freq n = s.freq n := by
  simp only [State.railTick, State.freq, SMap.get_foldl_set]
  have hmem : n ∉ (List.range 8).map (fun i => 8 * c + i) := by
    simp only [List.mem_map, List.mem_range, not_exists, not_and]
    intro i hi; omega
  simp only [hmem, if_false]

/-- The tick of one rail changes nothing that another's goes by. -/
theorem railTick_goal (s : State) (c d : Nat) : (s.railTick c).railGoal d = s.railGoal d := by
  simp only [State.railGoal, (railTick_frame s c).freqWant]

theorem railTick_railNext (s : State) {c d : Nat} (h : d ≠ c) : (s.railTick c).railNext d = s.railNext d := by
  have hrail : (s.railTick c).rail d = s.rail d := by rw [railTick_rail, if_neg h]
  simp only [State.railNext, railTick_goal, hrail, (railTick_frame s c).tick]

theorem foldl_railTick_rail_other {l : List Nat} {c : Nat} (h : c ∉ l) (s : State) : (l.foldl State.railTick s).rail c = s.rail c := by
  induction l generalizing s with
  | nil => rfl
  | cons d l ih =>
    obtain ⟨hd, hl⟩ : c ≠ d ∧ c ∉ l := by simpa using h
    rw [List.foldl_cons, ih hl, railTick_rail, if_neg hd]

theorem foldl_railTick_rail {l : List Nat} {c : Nat} (hnd : l.Nodup) (h : c ∈ l) (s : State) :
    (l.foldl State.railTick s).rail c = s.railNext c := by
  induction l generalizing s with
  | nil => simp at h
  | cons d l ih =>
    obtain ⟨hd, hnd⟩ := List.nodup_cons.mp hnd
    rw [List.foldl_cons]
    by_cases hc : c = d
    · subst hc
      rw [foldl_railTick_rail_other hd, railTick_rail, if_pos rfl]
    · rw [ih hnd ((List.mem_cons.mp h).resolve_left hc), railTick_railNext s hc]

theorem foldl_railTick_freq_other {l : List Nat} {c i : Nat} (h : c ∉ l) (hi : i < 8) (s : State) :
    (l.foldl State.railTick s).freq (8 * c + i) = s.freq (8 * c + i) := by
  induction l generalizing s with
  | nil => rfl
  | cons d l ih =>
    obtain ⟨hd, hl⟩ : c ≠ d ∧ c ∉ l := by simpa using h
    rw [List.foldl_cons, ih hl, railTick_freq_other]
    omega

theorem foldl_railTick_freq {l : List Nat} {c i : Nat} (hnd : l.Nodup) (h : c ∈ l) (hi : i < 8) (s : State)
    (hg : s.railGoal c ≤ (s.rail c).dmv) : (l.foldl State.railTick s).freq (8 * c + i) = s.freqWant (8 * c + i) := by
  induction l generalizing s with
  | nil => simp at h
  | cons d l ih =>
    obtain ⟨hd, hnd⟩ := List.nodup_cons.mp hnd
    rw [List.foldl_cons]
    by_cases hc : c = d
    · subst hc
      rw [foldl_railTick_freq_other hd hi, railTick_freq s c _ hg, if_pos (by omega)]
    · have hg' : (s.railTick d).railGoal c ≤ ((s.railTick d).rail c).dmv := by
        rw [railTick_goal, railTick_rail, if_neg hc]; exact hg
      rw [ih hnd ((List.mem_cons.mp h).resolve_left hc) _ hg', (railTick_frame s d).freqWant]

theorem clockTick_rail (s : State) {c : Nat} (h : c < 32) : (clockTick s).rail c = s.railNext c := by
  have hfold := foldl_railTick_rail List.nodup_range (List.mem_range.mpr h) s
  simp only [State.rail] at hfold
  simp only [clockTick, State.rail, hfold]

theorem clockTick_freq (s : State) {c i : Nat} (h : c < 32) (hi : i < 8) (hg : s.railGoal c ≤ (s.rail c).dmv) :
    (clockTick s).freq (8 * c + i) = s.freqWant (8 * c + i) := by
  have hfold := foldl_railTick_freq List.nodup_range (List.mem_range.mpr h) hi s hg
  simp only [State.freq] at hfold
  simp only [clockTick, State.freq, hfold]

/-- A tick of the clock changes the tick, the rails and the core frequencies alone. -/
theorem clockTick_eq (s : State) : ∃ rails freq, clockTick s = { s.withRails rails freq with tick := (s.tick + 1) % 2 ^ 64 } := by
  obtain ⟨rails, freq, h⟩ := foldl_railTick_frame (List.range 32) s
  refine ⟨rails, freq, ?_⟩
  simp only [clockTick, h]
  rfl

end Sys2Proof.Machine

namespace Sys2Proof.Proofs
open Sys2Proof.Machine

/-- Settles O3: every constructor's meaning is guarded by its well-formedness alone. -/
theorem everyCommandAnswers : Obligations.EveryCommandAnswers := by
  unfold Obligations.EveryCommandAnswers
  intro c s
  obtain ⟨f, hf⟩ := exec_guarded c
  exact answers_of (hf s)

/-- Settles O4: an idle step ticks; any other runs a well-formed command, which leaves the rest of the queue alone. -/
theorem stepKeepsQueue : Obligations.StepKeepsQueue := by
  unfold Obligations.StepKeepsQueue
  intro s hwf
  cases hq : s.pending with
  | nil =>
    refine ⟨clockTick s, step_nil hq, ?_, ?_⟩
    · rw [clockTick_pending, hq, List.tail_nil]
    · simp [queueWf, clockTick_pending, hq]
  | cons c rest =>
    have hc : c.wf = true := hwf c (by simp [hq])
    obtain ⟨t, ht, hpend⟩ := (everyCommandAnswers c (s.withQueue rest)).1 hc
    refine ⟨t, (step_cons hq).trans ht, hpend, fun d hd => hwf d ?_⟩
    rw [hpend] at hd
    rw [hq]
    exact List.mem_cons_of_mem c hd

/-- Settles O6, by induction on the number of steps: each answers a state whose queue is well formed again. -/
theorem runsAreSafe : Obligations.RunsAreSafe := by
  unfold Obligations.RunsAreSafe
  intro n
  induction n with
  | zero => exact fun s _ => ⟨s, rfl⟩
  | succ n ih =>
    intro s hwf
    obtain ⟨t, ht, -, hwf'⟩ := stepKeepsQueue s hwf
    obtain ⟨u, hu⟩ := ih t hwf'
    refine ⟨u, ?_⟩
    have hstep : core.step s = .next t := ht
    simpa only [Host.Core.run, hstep] using hu

/-- Settles O2: an idle step is a tick of the clock, which moves each rail and its cores by what they ask for alone. -/
theorem idleStepTicks : Obligations.IdleStepTicks := by
  unfold Obligations.IdleStepTicks
  intro s hq
  refine ⟨clockTick s, step_nil hq, ?_⟩
  obtain ⟨rails, freq, heq⟩ := clockTick_eq s
  refine ⟨by rw [heq], by rw [heq]; rfl, by rw [heq]; rfl, fun c hc => ?_⟩
  rw [clockTick_rail s hc]
  refine ⟨State.railNext_of_lt, State.railNext_of_eq, fun h hs => ?_, fun x h hs hx => ?_, fun h i hi => clockTick_freq s hc hi h⟩
  · rw [State.railNext_of_gt h, hs]
  · rw [State.railNext_of_gt h, hs]
    exact if_pos hx

/-- Settles O1. -/
theorem stepRunsFront : Obligations.StepRunsFront := by
  unfold Obligations.StepRunsFront
  exact fun c rest s h => step_cons h

end Sys2Proof.Proofs
end

section
/-! PROOF. Registers, byte memories, blocks of stack memory, the almanac's ring, completion records, plain register writes and the
scaling of grants. -/
namespace Sys2Proof.Machine

/-! ### Bytes -/

@[simp] theorem length_leBytes (n v : Nat) : (leBytes n v).length = n := by
  induction n generalizing v with
  | zero => rfl
  | succ n ih => simp [leBytes, ih]

/-- The little-endian bytes of a number spell it, modulo what they can hold. -/
theorem leNat_leBytes (n v : Nat) : leNat (leBytes n v) = v % 256 ^ n := by
  induction n generalizing v with
  | zero => simp [leBytes, leNat, Nat.mod_one]
  | succ n ih =>
    simp only [leBytes, leNat, ih, BitVec.toNat_ofNat]
    rw [show 256 ^ (n + 1) = 256 * 256 ^ n from Nat.pow_succ', Nat.mod_mul]

theorem leNat_leBytes_of_lt {n v : Nat} (h : v < 256 ^ n) : leNat (leBytes n v) = v := by
  rw [leNat_leBytes, Nat.mod_eq_of_lt h]

/-- A field of bytes that lies in the second part of two. -/
theorem lsub_append_right {l : List Byte} {off : Nat} (h : l.length ≤ off) (m : List Byte) (n : Nat) :
    lsub (l ++ m) off n = lsub m (off - l.length) n := by
  simp [lsub, List.drop_append, List.drop_of_length_le h]

/-- A field of bytes at the beginning. -/
theorem lsub_leBytes_append {n v : Nat} (h : v < 256 ^ n) (m : List Byte) : lsub (leBytes n v ++ m) 0 n = v := by
  rw [lsub, List.drop_zero, List.take_append_of_le_length (by simp), List.take_of_length_le (by simp), leNat_leBytes_of_lt h]

/-- Bytes are the little-endian bytes of the number they spell. -/
theorem leBytes_leNat (bs : List Byte) : leBytes bs.length (leNat bs) = bs := by
  induction bs with
  | nil => rfl
  | cons b bs ih =>
    have hdiv : (b.toNat + 256 * leNat bs) / 256 = leNat bs := by have := b.isLt; omega
    have hbyte : BitVec.ofNat 8 (b.toNat + 256 * leNat bs) = b := by
      apply BitVec.eq_of_toNat_eq
      simp only [BitVec.toNat_ofNat]
      have := b.isLt; omega
    simp only [List.length_cons, leNat, leBytes, hdiv, hbyte, ih]

/-! ### Sparse maps -/

/-- In canonical form, maps that read alike are equal. -/
theorem SMap.ext_of_wf {β : Type} [DecidableEq β] {d : Nat → β} {m m' : SMap β} (hm : SMap.wf d m = true) (hm' : SMap.wf d m' = true)
    (h : ∀ k, SMap.get d m k = SMap.get d m' k) : m = m' := by
  induction m generalizing m' with
  | nil =>
    cases m' with
    | nil => rfl
    | cons e m' =>
      obtain ⟨a, v⟩ := e
      simp only [SMap.wf, Bool.and_eq_true, decide_eq_true_eq] at hm'
      have := h a
      simp only [SMap.get, if_true] at this
      exact absurd this.symm hm'.1.2
  | cons e m ih =>
    obtain ⟨a, v⟩ := e
    cases m' with
    | nil =>
      simp only [SMap.wf, Bool.and_eq_true, decide_eq_true_eq] at hm
      have := h a
      simp only [SMap.get, if_true] at this
      exact absurd this hm.1.2
    | cons e' m' =>
      obtain ⟨b, w⟩ := e'
      simp only [SMap.wf, Bool.and_eq_true, decide_eq_true_eq] at hm hm'
      obtain ⟨⟨hab, hv⟩, hwf⟩ := hm
      obtain ⟨⟨hab', hw⟩, hwf'⟩ := hm'
      have hkey : a = b := by
        have ha := h a
        have hb := h b
        simp only [SMap.get, if_true] at ha hb
        rcases Nat.lt_trichotomy a b with hlt | heq | hgt
        · rw [if_neg (Nat.ne_of_lt hlt), SMap.get_of_above d (Nat.le_of_lt hlt) hab'] at ha
          exact absurd ha hv
        · exact heq
        · rw [if_neg (Nat.ne_of_lt hgt), SMap.get_of_above d (Nat.le_of_lt hgt) hab] at hb
          exact absurd hb.symm hw
      subst hkey
      have hval : v = w := by simpa [SMap.get] using h a
      subst hval
      congr 1
      refine ih hwf hwf' fun k => ?_
      by_cases hk : k = a
      · subst hk
        rw [SMap.get_of_above d (Nat.le_refl _) hab, SMap.get_of_above d (Nat.le_refl _) hab']
      · simpa [SMap.get, hk] using h k

/-! ### Byte memories and blocks -/

theorem Mem.byte_write (m : Mem) (a : Nat) (bs : List Byte) (j : Nat) :
    (m.write a bs).byte j = if a ≤ j ∧ j < a + bs.length then bs.getD (j - a) 0 else m.byte j := by
  induction bs generalizing m a with
  | nil =>
    rw [if_neg (by simp)]
    rfl
  | cons b bs ih =>
    simp only [Mem.write, ih, Mem.byte_set, List.length_cons]
    rcases Nat.lt_trichotomy j a with hlt | rfl | hgt
    · rw [if_neg (by omega), if_neg (by omega), if_neg (by omega)]
    · rw [if_neg (by omega), if_pos rfl, if_pos (by omega), Nat.sub_self, List.getD_cons_zero]
    · have hsub : j - a = (j - (a + 1)) + 1 := by omega
      rw [hsub, List.getD_cons_succ, if_neg (Nat.ne_of_gt hgt)]
      by_cases hin : j < a + (bs.length + 1)
      · rw [if_pos (by omega), if_pos (by omega)]
      · rw [if_neg (by omega), if_neg (by omega)]

/-- What has been written reads back. -/
theorem Mem.read_write (m : Mem) (a : Nat) (bs : List Byte) : (m.write a bs).read a bs.length = bs := by
  apply List.ext_getElem
  · simp [Mem.read]
  · intro i h1 h2
    simp only [Mem.read, List.getElem_map, List.getElem_range, Mem.byte_write]
    rw [if_pos (by omega), Nat.add_sub_cancel_left, List.getD_eq_getElem?_getD, List.getElem?_eq_getElem h2, Option.getD_some]

theorem blockErr_putBlock (s : State) (col q : Nat) (bs : List Byte) (x : Pattern) :
    (s.putBlock col q bs x).blockErr col q = ⟨x, (s.blockErr col q).hard⟩ := by
  simp [State.putBlock, State.blockErr]

theorem blockData_putBlock (s : State) (col q : Nat) {bs : List Byte} (x : Pattern) (h : bs.length = 64) :
    (s.putBlock col q bs x).blockData col q = bs := by
  have hread := Mem.read_write s.mem.dram (dramKey col (q / 64 * 64)) bs
  rw [h] at hread
  exact hread

/-- A block without an error pattern reads as it stands, and reading it changes nothing. -/
theorem readBlock_clean {s : State} {col q : Nat} (hcol : s.colFailed col = false) (hnow : (s.blockErr col q).now = 0) (rq : Req)
    (addr : Nat) (w : Bool) : s.readBlock rq addr col q w = (some (s.blockData col q), s) := by
  have hbytes : leBytes 64 (leNat (s.blockData col q)) = s.blockData col q := by
    have := leBytes_leNat (s.blockData col q)
    rwa [show (s.blockData col q).length = 64 by simp [State.blockData, Mem.read]] at this
  simp [State.readBlock, hcol, hnow, blockDecode, hbytes]

theorem writeBlock_whole {s : State} {col q : Nat} {bs : List Byte} (hcol : s.colFailed col = false) (hflip : s.flipArmed col = false)
    (hlen : bs.length = 64) (rq : Req) (addr off : Nat) :
    s.writeBlock rq addr col q off bs = (true, s.putBlock col q bs (s.blockErr col q).hard) := by
  simp [State.writeBlock, State.storeBlock, hcol, hflip, hlen]

/-! ### The almanac's ring (R641, R645) -/

theorem platformEvent_alm (s : State) (e : Entry) : (s.platformEvent e).alm = s.alm := by
  unfold State.platformEvent
  split
  · split <;> rfl
  · rfl

/-- An entry enters the ring, and starts a freeze where it is FATAL and none runs (R643, R649). -/
theorem toRing_alm (s : State) (e : Entry) (h : s.alm.freeze = none) :
    (s.toRing e).alm.count = s.alm.count + 1 ∧ (s.toRing e).alm.lostBefore = s.alm.lostBefore ∧
    (s.toRing e).alm.ring = SMap.set (fun _ => 0) s.alm.ring (s.alm.count % 4096) e ∧
    ((s.toRing e).alm.freeze.isSome = true ↔ entrySev e = 4) := by
  have hput : (s.ringPut e).alm =
      { s.alm with ring := SMap.set (fun _ => 0) s.alm.ring (s.alm.count % 4096) e, count := s.alm.count + 1 } :=
    platformEvent_alm _ e
  simp only [State.toRing, hput, h, Option.isNone_none, Bool.and_true, decide_eq_true_eq]
  split
  · next hsev => simp [State.startFreeze, hput, hsev]
  · next hsev => simp [hput, h, hsev]

/-- Outside recovery mode, with the firmware running and no freeze, an event enters the ring, as one that follows no loss any more. -/
theorem event_alm {s : State} (hrec : s.recovery = false) (hstage : 0 < s.stage) (hfreeze : s.alm.freeze = none) (code : Nat)
    (src : Nat × Nat) (ctx : Option Nat) (data : Nat) :
    ∃ u : State, u.alm = { s.alm with lostBefore := false } ∧ (s.event code src ctx data).alm =
      (u.toRing (entryWithLost (mkEntry s.tick code src ctx false data) s.alm.lostBefore)).alm := by
  have hgo : (s.recovery || decide (s.stage = 0)) = false := by simp [hrec, Nat.ne_of_gt hstage]
  unfold State.event
  split
  · refine ⟨s.noteLocal.lossTold, rfl, ?_⟩
    have hgo' : (s.noteLocal.recovery || decide (s.noteLocal.stage = 0)) = false := hgo
    have hfreeze' : s.noteLocal.alm.freeze = none := hfreeze
    simp only [hgo', hfreeze', Bool.false_eq_true, if_false]
    rfl
  · refine ⟨s.lossTold, rfl, ?_⟩
    simp only [hgo, hfreeze, Bool.false_eq_true, if_false]

/-! ### Records and register writes -/

/-- A plain register write, bit by bit (R11, R12). -/
theorem plainWrite_bit (s : State) (d : RegDesc) (a : Nat) (v : Word) {i : Nat} (h : i < 32) :
    ((s.plainWrite d a v).reg a).getLsbD i =
      (if d.w1c.testBit i && v.getLsbD i then false
       else if d.rw.testBit i || (d.rwl.testBit i && !s.bit Reg.imgStatus 3) then v.getLsbD i
       else (s.reg a).getLsbD i) := by
  simp only [State.plainWrite, State.reg_setReg_same, BitVec.getLsbD_and, BitVec.getLsbD_or, BitVec.getLsbD_not, BitVec.getLsbD_ofNat]
  rw [apply_ite (fun n => Nat.testBit n i), Nat.testBit_or]
  simp only [h, decide_true, Bool.true_and]
  generalize (s.reg a).getLsbD i = old, v.getLsbD i = new, d.w1c.testBit i = w1c, d.rw.testBit i = rw, d.rwl.testBit i = rwl,
    s.bit Reg.imgStatus 3 = present
  revert old new w1c rw rwl present
  decide

/-! ### The scaling of grants (R506) -/

theorem sum_zipIdx_extra (l : List Nat) (k rest : Nat) :
    ((l.zipIdx k).map (fun x => x.1 + b2n (decide (x.2 < rest)))).sum = l.sum + min (rest - k) l.length := by
  induction l generalizing k with
  | nil => simp
  | cons g l ih =>
    simp only [List.zipIdx_cons, List.map_cons, List.sum_cons, ih, List.length_cons]
    by_cases hk : k < rest
    · simp only [hk, decide_true, b2n, if_true]; omega
    · simp only [hk, decide_false, b2n]; simp; omega

/-- Rounding each share down loses less than 1 W a member. -/
theorem sum_floor_bounds (gs : List Nat) (total : Nat) {old : Nat} (h : 0 < old) :
    old * (gs.map (fun g => g * total / old)).sum ≤ gs.sum * total ∧
    gs.sum * total + gs.length ≤ old * ((gs.map (fun g => g * total / old)).sum + gs.length) := by
  induction gs with
  | nil => simp
  | cons g gs ih =>
    obtain ⟨h1, h2⟩ := ih
    have hdiv := Nat.div_add_mod (g * total) old
    have hmod := Nat.mod_lt (g * total) h
    simp only [List.map_cons, List.sum_cons, List.length_cons, Nat.mul_add, Nat.add_mul] at *
    constructor <;> omega

/-- What rounding down leaves over is given to the lowest members, 1 W each. -/
theorem scaleGrants_of_ne {total : Nat} {gs : List Nat} (h : gs.sum ≠ total) :
    scaleGrants total gs =
      ((gs.map (fun g => if gs.sum = 0 then total / max 1 gs.length else g * total / gs.sum)).zipIdx).map
        (fun x => x.1 + b2n (decide (x.2 <
          total - (gs.map (fun g => if gs.sum = 0 then total / max 1 gs.length else g * total / gs.sum)).sum))) := by
  simp only [scaleGrants, ← List.sum_eq_foldl, if_neg h]

/-- The rounded-down shares fall short of the group grant by less than 1 W a member. -/
theorem sum_shares_bounds {total : Nat} {gs : List Nat} (hne : gs ≠ []) :
    (gs.map (fun g => if gs.sum = 0 then total / max 1 gs.length else g * total / gs.sum)).sum ≤ total ∧
    total < (gs.map (fun g => if gs.sum = 0 then total / max 1 gs.length else g * total / gs.sum)).sum + gs.length := by
  have hlen : 0 < gs.length := List.length_pos_iff.mpr hne
  by_cases h0 : gs.sum = 0
  · simp only [h0, if_true, List.map_const', List.sum_replicate_nat, Nat.max_eq_right hlen]
    have hdiv := Nat.div_add_mod total gs.length
    have hmod := Nat.mod_lt total hlen
    omega
  · simp only [h0, if_false]
    have hpos : 0 < gs.sum := Nat.pos_of_ne_zero h0
    obtain ⟨h1, h2⟩ := sum_floor_bounds gs total hpos
    refine ⟨Nat.le_of_mul_le_mul_left h1 hpos, Nat.lt_of_mul_lt_mul_left (a := gs.sum) (by omega)⟩

end Sys2Proof.Machine

namespace Sys2Proof.Proofs
open Sys2Proof.Machine

/-- Settles O7: reads after writes of the sparse maps, and the bits of a replaced field. -/
theorem registersAndFields : Obligations.RegistersAndFields := by
  unfold Obligations.RegistersAndFields
  refine ⟨fun s a b v n => ⟨s.reg_setReg a v b, rfl, s.cnt_addCnt a n b, rfl⟩, fun w hi lo v hlo hhi => ?_⟩
  refine ⟨fld_setFld_same w v hlo hhi, fun i _ hout => ?_⟩
  rw [getLsbD_setFld w v hhi, if_neg (by omega)]

/-- Settles O8. -/
theorem memoryReadAfterWrite : Obligations.MemoryReadAfterWrite := by
  unfold Obligations.MemoryReadAfterWrite
  exact fun m a bs => ⟨m.byte_write a bs, Mem.wf_write a bs, fun m' hm hm' h => SMap.ext_of_wf hm hm' h⟩

/-- Settles O9: the block is put as it stands, without an error pattern, and a block without one reads as it stands. -/
theorem blockReadAfterWrite : Obligations.BlockReadAfterWrite := by
  unfold Obligations.BlockReadAfterWrite
  intro s rq addr col q bs hcol hflip hhard hlen
  rw [writeBlock_whole hcol hflip hlen rq addr 0, hhard]
  refine ⟨rfl, ?_, fun k hk => ?_⟩
  · have hclean := readBlock_clean (s := s.putBlock col q bs 0) (col := col) (q := q) hcol (by rw [blockErr_putBlock]) rq addr false
    rwa [blockData_putBlock s col q 0 hlen] at hclean
  · simp only [State.putBlock, Mem.byte_write, hlen]
    rw [if_neg (by omega)]

/-- Settles O10. -/
theorem eventEntersRing : Obligations.EventEntersRing := by
  unfold Obligations.EventEntersRing
  intro s code src ctx data hrec hstage hfreeze
  obtain ⟨u, hu, hevent⟩ := event_alm hrec hstage hfreeze code src ctx data
  obtain ⟨hcount, hlost, hring, hsev⟩ :=
    toRing_alm u (entryWithLost (mkEntry s.tick code src ctx false data) s.alm.lostBefore) (by rw [hu]; exact hfreeze)
  simp only [hevent]
  refine ⟨by rw [hcount, hu], by rw [hlost, hu], ?_, hsev⟩
  rw [hring, hu]
  exact SMap.get_set_same _ _ _ _

/-- Settles O17. -/
theorem plainRegisterWrite : Obligations.PlainRegisterWrite := by
  unfold Obligations.PlainRegisterWrite
  exact fun s d a v i b hi => ⟨plainWrite_bit s d a v hi, fun hb => State.reg_setReg_ne _ _ hb, rfl⟩

/-- Settles O23: each field is the number its bytes spell. -/
theorem completionRecord : Obligations.CompletionRecord := by
  unfold Obligations.CompletionRecord
  intro s c st warn detail htick hslot hst hwarn
  have htag : dfld c.desc 2 2 < 256 ^ 2 := Nat.mod_lt _ (by decide)
  have hphase : s.fld (Reg.ctxCqTail c.ctx) 16 16 < 2 := Nat.mod_lt _ (by decide)
  have hdetail : b2n detail ≤ 1 := by cases detail <;> decide
  simp only [State.recordOf]
  simp only [List.append_assoc]
  refine ⟨by simp, ?_, ?_, ?_, ?_, ?_, ?_⟩
  · exact lsub_leBytes_append htick _
  · rw [lsub_append_right (by simp)]
    exact lsub_leBytes_append hslot _
  · rw [lsub_append_right (by simp), lsub_append_right (by simp)]
    exact lsub_leBytes_append htag _
  · simp [lbyte, Nat.mod_eq_of_lt hst]
  · simp [lbyte]; omega
  · rw [lsub_append_right (by simp), lsub_append_right (by simp), lsub_append_right (by simp), lsub_append_right (by simp),
      ← List.append_nil (leBytes 2 warn)]
    exact lsub_leBytes_append hwarn []

/-- Settles O53: the shares rounded down fall short by less than their number, and the rest is given out 1 W each. -/
theorem grantsScale : Obligations.GrantsScale := by
  unfold Obligations.GrantsScale
  intro total gs hne
  simp only [← List.sum_eq_foldl]
  by_cases h : gs.sum = total
  · have hsame : scaleGrants total gs = gs := by simp [scaleGrants, ← List.sum_eq_foldl, h]
    exact ⟨by rw [hsame], by rw [hsame, h], fun _ => hsame⟩
  · obtain ⟨h1, h2⟩ := sum_shares_bounds (total := total) hne
    rw [scaleGrants_of_ne h]
    refine ⟨by simp, ?_, fun h' => absurd h' h⟩
    rw [sum_zipIdx_extra, List.length_map]
    omega

end Sys2Proof.Proofs
end

section
/-! PROOF. What giving back the work of a command can change, and how a reset begins (R40, R557, R561, R577, R615, R616). -/
namespace Sys2Proof.Machine

/-! ### Giving back the work of a command -/

/-- Registers that giving back a command's work can write: those of `AccessReg` and the control registers of parity groups, which stand a
multiple of 0x80 apart. -/
def ReleaseReg (a : Nat) : Prop := AccessReg a ∨ a % 0x80 = 0

/-- What giving back a command's work may change: all that an access may, the pages, the frames it owns, and its time on the cores. -/
def Released (s t : State) : Prop :=
  t = { s with freeCtr := t.freeCtr, regs := t.regs, cnts := t.cnts, host := t.host, nvm := t.nvm, alm := t.alm, cmds := t.cmds,
               cores := t.cores, mem := t.mem, nbus := t.nbus, nbuReady := t.nbuReady, kv := t.kv, fab := t.fab, parity := t.parity,
               out := t.out, resets := { s.resets with spans := t.resets.spans } } ∧
  ∀ a, ¬ ReleaseReg a → t.reg a = s.reg a

theorem Released.refl (s : State) : Released s s := ⟨rfl, fun _ _ => rfl⟩

theorem Released.trans {s t u : State} (h : Released s t) (k : Released t u) : Released s u := by
  refine ⟨?_, fun a ha => (k.2 a ha).trans (h.2 a ha)⟩
  obtain ⟨h, -⟩ := h; obtain ⟨k, -⟩ := k
  rw [k]; simp only; rw [h]

theorem Steady.released {s t : State} (h : Steady s t) : Released s t := by
  refine ⟨?_, fun a ha => h.reg fun hacc => ha (.inl hacc)⟩
  obtain ⟨h, -⟩ := h
  rw [h]

theorem Released.foldl {β : Type} (f : State → β → State) (h : ∀ s x, Released s (f s x)) (l : List β) (s : State) :
    Released s (l.foldl f s) := by
  induction l generalizing s with
  | nil => exact .refl s
  | cons x l ih =>
    rw [List.foldl_cons]
    exact (h s x).trans (ih (f s x))

theorem Released.setKv (s : State) (p : Nat) (k : KvPolder) : Released s (s.setKv p k) := ⟨rfl, fun _ _ => rfl⟩

theorem Released.parGrp (s : State) (g i : Nat) (b : Bool) : Released s (s.setBit (Reg.parGrpCtrl g) i b) := by
  refine ⟨rfl, fun a ha => State.reg_setBit_ne s i b fun heq => ha (.inr ?_)⟩
  subst heq
  simp only [Reg.parGrpCtrl]
  omega

theorem Released.setCore (s : State) (n : Nat) (k : CoreState) : Released s (s.setCore n k) := ⟨rfl, fun _ _ => rfl⟩

theorem Released.appendEnd (s : State) (c : Cmd) (r : KvReserve) (ok : Bool) : Released s (s.appendEnd c r ok) := by
  have hslots : ∀ t : State, Released t (match (t.kvp r.polder).seq r.seq with
      | some q => t.setKv r.polder ((t.kvp r.polder).setSeq r.seq (some { q with appending := q.appending.filter (fun x => x.2 != c.id) }))
      | none => t) := by
    intro t
    split
    · exact .setKv t _ _
    · exact .refl t
  unfold State.appendEnd
  refine Released.trans ?_ (hslots _)
  split
  · exact .refl s
  · exact .setKv s _ _

theorem Released.waitCloses (s : State) (n : Nat) : Released s (s.waitCloses n) := by
  unfold State.waitCloses
  split
  · exact .refl s
  · exact (Steady.addCnt s _ _).released.trans (.setCore _ _ _)

theorem Released.countSeam (s : State) (n : Nat) : Released s (s.countSeam n) :=
  ((Steady.addCnt s _ _).released.trans (Steady.addCnt _ _ _).released).trans ⟨rfl, fun _ _ => rfl⟩

theorem Released.spanEnd (s : State) (id : Nat) : Released s (s.spanEnd id) := by
  simp only [State.spanEnd]
  have hcount := Released.foldl (fun (s : State) (x : Span) => s.countSeam x.core) (fun s x => .countSeam s x.core)
    (s.resets.spans.filter (fun x => decide (x.cmd = id) && x.till.isNone)) s
  generalize (s.resets.spans.filter (fun x => decide (x.cmd = id) && x.till.isNone)).foldl
    (fun (s : State) (x : Span) => s.countSeam x.core) s = t at hcount ⊢
  exact hcount.trans ⟨rfl, fun _ _ => rfl⟩

theorem State.releaseWork_released (s : State) (c : Cmd) (ok : Bool) : Released s (s.releaseWork c ok) := by
  unfold State.releaseWork
  refine Released.trans ?_ (.spanEnd _ _)
  refine Released.trans (Released.trans ?_ (Steady.releaseNbus _ c.id).released) ⟨rfl, fun _ _ => rfl⟩
  refine Released.trans ?_ (Steady.mapCores _ _).released
  have hwait : ∀ t : State, Released t (if c.waitsOn (dbyte c.desc 0x11) &&
      t.cmds.all (fun x => decide (x.id = c.id) || !x.waitsOn (dbyte c.desc 0x11)) then t.waitCloses (dbyte c.desc 0x11) else t) := by
    intro t
    split
    · exact .waitCloses t _
    · exact .refl t
  refine Released.trans ?_ (hwait _)
  split
  · exact .appendEnd s c _ ok
  · exact .setKv s _ _
  · split
    · exact .parGrp s _ _ _
    · exact .refl s
  · split
    · exact .parGrp s _ _ _
    · exact .refl s
  · exact .refl s

theorem State.holdCmd_released (s : State) (c : Cmd) : Released s (s.holdCmd c) := by
  refine (s.releaseWork_released c false).trans ?_
  unfold State.holdCmd
  exact Steady.released (.updCmd _ _ _ fun _ => rfl)

theorem State.meetReset_released (s : State) (level : Nat) (c : Cmd) : Released s (s.meetReset level c) := by
  by_cases hl : level = 2
  · subst hl
    unfold State.meetReset
    rw [if_pos rfl]
    dsimp only
    split
    · split
      · exact s.holdCmd_released c
      · exact (s.stopCmd_steady _ _).released
    · split
      · exact s.holdCmd_released c
      · exact (s.stopCmd_steady _ _).released
    · split
      · exact s.holdCmd_released c
      · exact .refl s
    · exact .refl s
  · exact (s.meetReset_steady hl c).released

theorem State.meetScope_released (s : State) (level unit : Nat) : Released s (s.meetScope level unit) :=
  .foldl _ (fun s c => s.meetReset_released level c) _ s

/-! ### A reset begins -/

/-- Only registers differ. -/
def RegsOnly (s t : State) : Prop := t = { s with regs := t.regs }

theorem RegsOnly.refl (s : State) : RegsOnly s s := rfl

theorem RegsOnly.trans {s t u : State} (h : RegsOnly s t) (k : RegsOnly t u) : RegsOnly s u := by
  unfold RegsOnly at *
  rw [k, h]

theorem RegsOnly.setReg {s t : State} (h : RegsOnly s t) (a : Nat) (v : Word) : RegsOnly s (t.setReg a v) := h.trans rfl

theorem RegsOnly.setBit {s t : State} (h : RegsOnly s t) (a i : Nat) (b : Bool) : RegsOnly s (t.setBit a i b) := h.setReg a _

theorem RegsOnly.setFld {s t : State} (h : RegsOnly s t) (a hi lo v : Nat) : RegsOnly s (t.setFld a hi lo v) := h.setReg a _

theorem State.setDike_regsOnly (s : State) (level unit : Nat) (up : Bool) : RegsOnly s (s.setDike level unit up) := by
  unfold State.setDike
  split
  · exact (RegsOnly.refl s).setBit _ _ _
  · split
    · exact (RegsOnly.refl s).setBit _ _ _
    · exact .refl s

theorem State.giveWay_regsOnly (s : State) (level unit : Nat) : RegsOnly s (s.giveWay level unit) := by
  unfold State.giveWay
  generalize s.resets.jobs.filter (fun j => s.resetCovers level unit j.level j.unit) = l
  induction l generalizing s with
  | nil => exact .refl s
  | cons j l ih =>
    rw [List.foldl_cons]
    exact (s.setDike_regsOnly _ _ _).trans (ih _)

/-- Only registers, the loader, the resets and the count of free values differ. -/
def ResetFrame (s t : State) : Prop := t = { s with freeCtr := t.freeCtr, regs := t.regs, loader := t.loader, resets := t.resets }

theorem ResetFrame.trans {s t u : State} (h : ResetFrame s t) (k : ResetFrame t u) : ResetFrame s u := by
  unfold ResetFrame at *
  rw [k]; simp only; rw [h]

theorem RegsOnly.resetFrame {s t : State} (h : RegsOnly s t) : ResetFrame s t := by
  unfold RegsOnly at h
  unfold ResetFrame
  rw [h]

/-- IMG_STATUS as a failed load shows it. -/
def State.failShown (s : State) (code sect : Nat) : State :=
  ((((s.setBit Reg.imgStatus 0 false).setBit Reg.imgStatus 2 true).setBit Reg.imgStatus 1 false).setFld Reg.imgStatus 23 16 code).setFld
    Reg.imgStatus 31 24 sect

/-- The loader as it stands idle, with the source it had. -/
def State.loadOver (s : State) : State := { s with loader := { s.loader with stage := .idle, next := none, portPos := 0, portOver := false } }

theorem State.loadFail_eq (s : State) (code sect : Nat) : s.loadFail code sect = (s.failShown code sect).loadOver := by
  delta State.loadFail State.failShown State.loadOver
  rfl

theorem State.failShown_regsOnly (s : State) (code sect : Nat) : RegsOnly s (s.failShown code sect) :=
  (((((RegsOnly.refl s).setBit Reg.imgStatus 0 false).setBit Reg.imgStatus 2 true).setBit Reg.imgStatus 1 false).setFld
    Reg.imgStatus 23 16 code).setFld Reg.imgStatus 31 24 sect

theorem State.reg_failShown (s : State) (code sect : Nat) {a : Nat} (ha : a ≠ Reg.imgStatus) : (s.failShown code sect).reg a = s.reg a := by
  simp only [State.failShown, State.reg_setFld_ne _ _ _ _ ha, State.reg_setBit_ne _ _ _ ha]

theorem State.reg_loadOver (s : State) (a : Nat) : s.loadOver.reg a = s.reg a := rfl

theorem State.loadOver_frame (s : State) : ResetFrame s s.loadOver := rfl

theorem State.resetEndsLoad_frame (s : State) (level : Nat) : ResetFrame s (s.resetEndsLoad level) := by
  unfold State.resetEndsLoad
  generalize State.reset.loader = fresh
  split
  · split
    · rfl
    · exact ((RegsOnly.refl s).setBit Reg.imgStatus 0 false).resetFrame.trans rfl
  · split
    · rw [State.loadFail_eq]
      exact (s.failShown_regsOnly _ _).resetFrame.trans (State.loadOver_frame _)
    · rfl

/-- The end of a load writes IMG_STATUS alone. -/
theorem State.reg_resetEndsLoad (s : State) (level : Nat) {a : Nat} (h : a ≠ Reg.imgStatus) : (s.resetEndsLoad level).reg a = s.reg a := by
  unfold State.resetEndsLoad
  generalize State.reset.loader = fresh
  split
  · split
    · rfl
    · exact State.reg_setBit_ne s _ _ h
  · split
    · rw [State.loadFail_eq, State.reg_loadOver, s.reg_failShown _ _ h]
    · rfl

theorem State.resetEndsReplay_frame (s : State) (level unit : Nat) : ResetFrame s (s.resetEndsReplay level unit) := by
  simp only [State.resetEndsReplay]
  split
  · rfl
  · split
    · split <;> rfl
    · rfl

/-- The end of a replay writes VIG_STATUS alone. -/
theorem State.reg_resetEndsReplay (s : State) (level unit : Nat) {a : Nat} (h : a ≠ Reg.vigStatus) :
    (s.resetEndsReplay level unit).reg a = s.reg a := by
  simp only [State.resetEndsReplay]
  split
  · rfl
  · split
    · split
      · exact State.reg_setReg_ne _ _ h
      · rfl
    · rfl

/-- Whether a reset takes in another hangs on the image alone. -/
theorem resetCovers_of_image {s t : State} (h : t.image = s.image) (wl wu nl nu : Nat) :
    t.resetCovers wl wu nl nu = s.resetCovers wl wu nl nu := by
  have hpolder : t.corePolder nu = s.corePolder nu := by rw [State.corePolder, State.clusterPolder, h]; rfl
  rw [State.resetCovers, hpolder]; rfl

/-- The dike of a reset's unit is up once it is raised (R557). -/
theorem setDike_up (s : State) {level unit : Nat} (hunit : level = 3 → unit < 32) :
    (level = 2 → (s.setDike level unit true).flag (Reg.dikeEngine 0) unit = true) ∧
    (level = 3 → (s.setDike level unit true).bit Reg.dikePolder unit = true) := by
  refine ⟨fun hl => ?_, fun hl => ?_⟩
  · subst hl
    exact State.bit_setBit_same _ _ _ _ (Nat.mod_lt _ (by decide))
  · have hu := hunit hl
    subst hl
    simp only [State.setDike, Bool.true_or]
    exact State.bit_setBit_same _ _ _ _ hu

/-- RST_STATUS shows the resets in progress, in its own register. -/
theorem State.reg_showResets (s : State) {a : Nat} (h : a ≠ Reg.rstStatus) : s.showResets.reg a = s.reg a := by
  simp only [State.showResets, State.reg_setFld_ne _ _ _ _ h, State.reg_setBit_ne _ _ _ h]

theorem bit_setFld_ne (s : State) (a : Nat) {hi lo i : Nat} (v : Nat) (hhi : hi < 32) (h : i < lo ∨ hi < i) :
    (s.setFld a hi lo v).bit a i = s.bit a i := by
  simp only [State.bit, State.reg_setFld, if_true, getLsbD_setFld _ _ hhi]
  rw [if_neg (by omega)]

theorem showResets_busy (s : State) : s.showResets.bit Reg.rstStatus 0 = !s.resets.jobs.isEmpty := by
  rw [State.showResets, bit_setFld_ne _ _ _ (by decide) (by decide), State.bit_setBit_same _ _ _ _ (by decide)]

/-- The state of a reset that nothing takes in, before it reaches the commands. -/
def State.resetBegun (s : State) (level unit : Nat) (job : ResetJob) : State :=
  ((((s.giveWay level unit).addJob job).setDike level unit true).showResets.resetEndsLoad level).resetEndsReplay level unit

theorem beginReset_of_uncovered {s : State} {level unit : Nat} (h : ∀ j ∈ s.resets.jobs, s.resetCovers j.level j.unit level unit = false)
    (trigger : Nat) (by' : Option Cmd) (odd : Option (Nat × Nat × Nat)) (suspects : List Nat) :
    s.beginReset level unit trigger by' odd suspects =
      (s.resetBegun level unit ((s.giveWay level unit).newJob level unit trigger by' odd suspects)).meetScope level unit := by
  have hnone : s.resets.jobs.find? (fun j => s.resetCovers j.level j.unit level unit) = none := by
    rw [List.find?_eq_none]
    intro j hj
    simp [h j hj]
  unfold State.beginReset
  rw [hnone]
  rfl

theorem resetBegun_frame (s : State) (level unit : Nat) (job : ResetJob) : ResetFrame s (s.resetBegun level unit job) := by
  unfold State.resetBegun
  refine ResetFrame.trans (ResetFrame.trans ?_ (State.resetEndsLoad_frame _ _)) (State.resetEndsReplay_frame _ _ _)
  refine ResetFrame.trans (ResetFrame.trans (s.giveWay_regsOnly level unit).resetFrame ?_) (State.setDike_regsOnly _ level unit true).resetFrame
      |>.trans rfl
  rfl

theorem resetBegun_jobs (s : State) (level unit : Nat) (job : ResetJob) (hl : job.level = level) (hu : job.unit = unit) :
    (s.resetBegun level unit job).resets.jobs =
      s.resets.jobs.filter (fun x => !s.resetCovers level unit x.level x.unit) ++ [job] := by
  have hgive := s.giveWay_regsOnly level unit
  have himage : (s.giveWay level unit).image = s.image := (congrArg State.image hgive).trans rfl
  have hresets : (s.giveWay level unit).resets = s.resets := (congrArg State.resets hgive).trans rfl
  simp only [State.resetBegun, State.resetEndsReplay_jobs, State.resetEndsLoad_resets, State.showResets_resets, State.setDike_resets,
    State.addJob, hresets, hl, hu, resetCovers_of_image himage]

theorem resetBegun_reg (s : State) (level unit : Nat) (job : ResetJob) {a : Nat} (h1 : a ≠ Reg.imgStatus) (h2 : a ≠ Reg.vigStatus) :
    (s.resetBegun level unit job).reg a = (((s.giveWay level unit).addJob job).setDike level unit true).showResets.reg a := by
  rw [State.resetBegun, State.reg_resetEndsReplay _ _ _ h2, State.reg_resetEndsLoad _ _ h1]

theorem resetBegun_busy (s : State) (level unit : Nat) (job : ResetJob) : (s.resetBegun level unit job).bit Reg.rstStatus 0 = true := by
  have hjob : (((s.giveWay level unit).addJob job).setDike level unit true).resets.jobs ≠ [] := by
    simp [State.addJob]
  have hbusy := showResets_busy (((s.giveWay level unit).addJob job).setDike level unit true)
  rw [State.bit, resetBegun_reg s level unit job (by decide) (by decide)]
  rw [State.bit] at hbusy
  rw [hbusy]
  simpa using hjob

theorem resetBegun_dikes (s : State) {level unit : Nat} (job : ResetJob) (h2 : level = 2 → unit < 256) (h3 : level = 3 → unit < 32) :
    (level = 2 → (s.resetBegun level unit job).flag (Reg.dikeEngine 0) unit = true) ∧
    (level = 3 → (s.resetBegun level unit job).bit Reg.dikePolder unit = true) := by
  obtain ⟨hd2, hd3⟩ := setDike_up ((s.giveWay level unit).addJob job) h3
  refine ⟨fun hl => ?_, fun hl => ?_⟩
  · have hu := h2 hl
    have hreg := hd2 hl
    rw [State.flag, State.bit] at hreg ⊢
    simp only [Reg.dikeEngine] at hreg ⊢
    rw [resetBegun_reg s level unit job (by simp only [Reg.imgStatus]; omega) (by simp only [Reg.vigStatus]; omega),
      State.reg_showResets _ (by simp only [Reg.rstStatus]; omega), hreg]
  · have hreg := hd3 hl
    rw [State.bit] at hreg ⊢
    rw [resetBegun_reg s level unit job (by decide) (by decide), State.reg_showResets _ (by decide), hreg]

/-- A reset that none in progress takes in begins (R561). -/
theorem beginReset_begins {s : State} {level unit : Nat} (h : ∀ j ∈ s.resets.jobs, s.resetCovers j.level j.unit level unit = false)
    (h2 : level = 2 → unit < 256) (h3 : level = 3 → unit < 32)
    (trigger : Nat) (by' : Option Cmd) (odd : Option (Nat × Nat × Nat)) (suspects : List Nat) :
    ResetBegins s (s.beginReset level unit trigger by' odd suspects) level unit := by
  rw [beginReset_of_uncovered h]
  generalize hjob : (s.giveWay level unit).newJob level unit trigger by' odd suspects = job
  have htick : (s.giveWay level unit).tick = s.tick := (congrArg State.tick (s.giveWay_regsOnly level unit)).trans rfl
  have hlevel : job.level = level := by rw [← hjob]; rfl
  have hunit : job.unit = unit := by rw [← hjob]; rfl
  have hmeet := (s.resetBegun level unit job).meetScope_released level unit
  have hframe := resetBegun_frame s level unit job
  obtain ⟨hd2, hd3⟩ := resetBegun_dikes s job h2 h3
  have field {α : Type} (f : State → α) (hrel : f ((s.resetBegun level unit job).meetScope level unit) = f (s.resetBegun level unit job))
      (hbeg : f (s.resetBegun level unit job) = f s) : f ((s.resetBegun level unit job).meetScope level unit) = f s := hrel.trans hbeg
  refine ⟨⟨job, ?_, hlevel, hunit, by rw [← hjob, ← htick]; rfl, by rw [← hjob]; rfl⟩, ?_, fun hl => ?_, fun hl => ?_, ?_, ?_, ?_, ?_, ?_⟩
  · rw [← resetBegun_jobs s level unit job hlevel hunit]
    exact (congrArg (fun t : State => t.resets.jobs) hmeet.1).trans rfl
  · rw [State.bit, hmeet.2 Reg.rstStatus (by simp [ReleaseReg, AccessReg, Reg.rstStatus, Reg.almLost, Reg.almStatus])]
    exact resetBegun_busy s level unit job
  · have hu := h2 hl
    rw [State.flag, State.bit, hmeet.2 _ (by simp only [ReleaseReg, AccessReg, Reg.dikeEngine, Reg.almLost, Reg.almStatus]; omega)]
    exact hd2 hl
  · have hsteady := State.meetScope_steady (s.resetBegun level unit job) (level := level) (by omega) unit
    rw [State.bit, hsteady.reg (by simp [AccessReg, Reg.dikePolder, Reg.almLost, Reg.almStatus])]
    exact hd3 hl
  · exact field State.tick ((congrArg State.tick hmeet.1).trans rfl) ((congrArg State.tick hframe).trans rfl)
  · exact field State.image ((congrArg State.image hmeet.1).trans rfl) ((congrArg State.image hframe).trans rfl)
  · exact field State.sets ((congrArg State.sets hmeet.1).trans rfl) ((congrArg State.sets hframe).trans rfl)
  · exact field State.runs ((congrArg State.runs hmeet.1).trans rfl) ((congrArg State.runs hframe).trans rfl)
  · exact field State.fuses ((congrArg State.fuses hmeet.1).trans rfl) ((congrArg State.fuses hframe).trans rfl)

end Sys2Proof.Machine
end

section
/-! PROOF. Requests for resets (R40, R102, R561, R577, R615, R616). -/
namespace Sys2Proof.Machine

/-! ### Which reset takes in which -/

/-- No reset takes in a wider one. -/
theorem resetCovers_narrow (s : State) {wl nl : Nat} (wu nu : Nat) (h : wl < nl) : s.resetCovers wl wu nl nu = false := by
  rw [Bool.eq_false_iff]
  intro hc
  simp only [State.resetCovers, Bool.or_eq_true, Bool.and_eq_true, decide_eq_true_eq] at hc
  omega

/-- A reset of the chip or the module takes in every one that is not wider. -/
theorem resetCovers_wide (s : State) {wl nl : Nat} (wu nu : Nat) (h4 : 4 ≤ wl) (h : nl ≤ wl) : s.resetCovers wl wu nl nu = true := by
  simp only [State.resetCovers, Bool.or_eq_true, Bool.and_eq_true, decide_eq_true_eq]
  omega

/-- A request for a reset of the chip or the module never waits for another reset (R577): of two, one takes in the other. -/
theorem askReset_wide (s : State) {level : Nat} (h4 : 4 ≤ level) (unit : Nat) :
    s.askReset level unit = s.reachReset level unit 3 none none [] := by
  unfold State.askReset
  refine if_pos ?_
  cases hjobs : s.resets.jobs with
  | nil => rfl
  | cons j js =>
    rcases Nat.le_total j.level level with hle | hle
    · simp [resetCovers_wide s unit j.unit h4 hle]
    · simp [resetCovers_wide s j.unit unit (Nat.le_trans h4 hle) hle]

theorem askReset_alone {s : State} (h : s.resets.jobs = []) (level unit : Nat) :
    s.askReset level unit = s.reachReset level unit 3 none none [] := by
  unfold State.askReset
  exact if_pos (by simp [h])

theorem reachReset_free {s : State} {level : Nat} (h : s.heldByCommit level = false) (unit trigger : Nat) (by' : Option Cmd)
    (odd : Option (Nat × Nat × Nat)) (suspects : List Nat) :
    s.reachReset level unit trigger by' odd suspects = s.beginReset level unit trigger by' odd suspects := by
  simp [State.reachReset, h]

/-- The reset that a commit of an image holds back (R102). -/
theorem reachReset_held {s : State} {level : Nat} (h : s.heldByCommit level = true) (unit trigger : Nat) (by' : Option Cmd)
    (odd : Option (Nat × Nat × Nat)) (suspects : List Nat) :
    s.reachReset level unit trigger by' odd suspects =
      { s with loader := { s.loader with heldResets := s.loader.heldResets ++ [(level, unit, trigger)] } } := by
  simp [State.reachReset, h]

/-! ### A request that begins its reset -/

theorem Released.pcie {s t : State} (h : Released s t) : t.pcie = s.pcie := (congrArg State.pcie h.1).trans rfl

theorem ResetFrame.pcie {s t : State} (h : ResetFrame s t) : t.pcie = s.pcie := (congrArg State.pcie h).trans rfl

/-- The beginning of a reset leaves the PCIe functions alone. -/
theorem beginReset_pcie (s : State) (level unit trigger : Nat) (by' : Option Cmd) (odd : Option (Nat × Nat × Nat)) (suspects : List Nat) :
    (s.beginReset level unit trigger by' odd suspects).pcie = s.pcie := by
  by_cases h : ∃ j ∈ s.resets.jobs, s.resetCovers j.level j.unit level unit = true
  · unfold State.beginReset
    split
    · rfl
    next hnone =>
      obtain ⟨j, hj, hc⟩ := h
      exact absurd hc (by simpa using List.find?_eq_none.mp hnone j hj)
  · rw [beginReset_of_uncovered (by simpa using h)]
    exact (State.meetScope_released _ level unit).pcie.trans (resetBegun_frame s level unit _).pcie

/-- A reset that begins, with what it begins from replaced by a state that agrees with it on what the beginning speaks of. -/
theorem ResetBegins.of_same {s s' t : State} {level unit : Nat} (h : ResetBegins s' t level unit) (hresets : s'.resets = s.resets)
    (htick : s'.tick = s.tick) (himage : s'.image = s.image) (hsets : s'.sets = s.sets) (hruns : s'.runs = s.runs)
    (hfuses : s'.fuses = s.fuses) : ResetBegins s t level unit := by
  simpa only [ResetBegins, hresets, htick, himage, hsets, hruns, hfuses, resetCovers_of_image himage] using h

/-- A reset of the chip or the module that reaches the module runs, and begins where none as wide is in progress (R40, R561). -/
theorem beginReset_wide (s : State) {level : Nat} (h4 : 4 ≤ level) (trigger : Nat) :
    ResetRuns (s.beginReset level 0 trigger none none []) level 0 ∧
    ((∀ j ∈ s.resets.jobs, j.level < level) → ResetBegins s (s.beginReset level 0 trigger none none []) level 0) :=
  ⟨beginReset_resetRuns s (by omega) 0 trigger none none [],
   fun h => beginReset_begins (fun j hj => resetCovers_narrow s j.unit 0 (h j hj)) (by omega) (by omega) trigger none none []⟩

/-- A PCIe event of R615 resets the module and ends the virtual functions; the link it found stays as it was. -/
theorem pcieReset_module (s : State) :
    ResetRuns s.pcieReset 5 0 ∧ s.pcieReset.pcie.vfs = 0 ∧ s.pcieReset.pcie.linkUp = s.pcie.linkUp ∧
    ((∀ j ∈ s.resets.jobs, j.level < 5) → ResetBegins s s.pcieReset 5 0) := by
  have hpcie : s.pcieReset.pcie = s.fresh.linkDrop.pcie := by
    unfold State.pcieReset
    rw [reachReset_module, beginReset_pcie]
  refine ⟨pcieReset_resetRuns s, (congrArg Pcie.vfs hpcie).trans rfl, (congrArg Pcie.linkUp hpcie).trans rfl, fun h => ?_⟩
  unfold State.pcieReset
  rw [reachReset_module]
  exact ((beginReset_wide s.fresh.linkDrop (level := 5) (by decide) _).2 h).of_same rfl rfl rfl rfl rfl rfl

/-! ### The requests of the host -/

/-- A wide reset that the host asks for, or that reaches the module as an event, outside the commit of an image. -/
theorem reachReset_wide (s : State) {level : Nat} (h4 : 4 ≤ level) (hfree : s.heldByCommit level = false) (trigger : Nat) :
    ResetRuns (s.reachReset level 0 trigger none none []) level 0 ∧
    ((∀ j ∈ s.resets.jobs, j.level < level) → ResetBegins s (s.reachReset level 0 trigger none none []) level 0) := by
  rw [reachReset_free hfree]
  exact beginReset_wide s h4 trigger

/-- A narrow reset asked for while none is in progress begins. -/
theorem askReset_begins {s : State} (h : s.resets.jobs = []) {level unit : Nat} (hfree : s.heldByCommit level = false)
    (h2 : level = 2 → unit < 256) (h3 : level = 3 → unit < 32) : ResetBegins s (s.askReset level unit) level unit := by
  rw [askReset_alone h, reachReset_free hfree]
  exact beginReset_begins (by simp [h]) h2 h3 _ _ _ _

theorem heldByCommit_free {s : State} (h : s.loader.stage ≠ .committing) (level : Nat) : s.heldByCommit level = false := by
  simp [State.heldByCommit, h]

theorem heldByCommit_narrow (s : State) : s.heldByCommit 2 = false := by simp [State.heldByCommit]

theorem heldByCommit_module (s : State) : s.heldByCommit 5 = false := by simp [State.heldByCommit]

/-- The state from which the reset of the physical function begins: without virtual functions and what they held (R616). -/
def State.withoutVfs (s : State) : State := { s with pcie := { s.pcie with vfs := 0, d3 := [], heldRecords := [], heldMsix := [] } }

theorem doFlrPf_open {s : State} (hlink : s.pcie.linkUp = true) (hpin : s.pins.perst = false) :
    doFlrPf s = s.withoutVfs.reachReset 4 0 4 none none [] := by
  simp [doFlrPf, State.configOpen, hlink, hpin, State.withoutVfs]

theorem reachReset_pcie (s : State) {level : Nat} (hfree : s.heldByCommit level = false) (unit trigger : Nat) :
    (s.reachReset level unit trigger none none []).pcie = s.pcie := by
  rw [reachReset_free hfree, beginReset_pcie]

theorem flrPf_completes {s : State} (hlink : s.pcie.linkUp = true) (hpin : s.pins.perst = false) (hst : s.loader.stage ≠ .committing) :
    Completes .flrPf s (fun t => ResetRuns t 4 0 ∧ t.pcie.vfs = 0 ∧ ((∀ j ∈ s.resets.jobs, j.level < 4) → ResetBegins s t 4 0)) := by
  refine completes_of (exec_flrPf s) rfl ?_
  have hfree : s.withoutVfs.heldByCommit 4 = false := heldByCommit_free (s := s.withoutVfs) hst 4
  rw [doFlrPf_open hlink hpin]
  obtain ⟨hruns, hbegins⟩ := reachReset_wide s.withoutVfs (level := 4) (by decide) hfree 4
  exact ⟨hruns, congrArg Pcie.vfs (reachReset_pcie _ hfree 0 4), fun h => (hbegins h).of_same rfl rfl rfl rfl rfl rfl⟩

end Sys2Proof.Machine

namespace Sys2Proof.Proofs
open Sys2Proof.Machine

/-- Settles O13: every request that nothing holds back reaches `beginReset`, and a reset that none in progress takes in begins there
(`beginReset_begins`). -/
theorem resetRequests : Obligations.ResetRequests := by
  unfold Obligations.ResetRequests
  refine ⟨fun s => ⟨fun hlink => ?_, fun hlink => ?_, fun hlink => ⟨?_, ?_⟩, fun hlink hpin => ⟨?_, fun hst => ?_⟩, fun hopen => ⟨?_, ?_, fun hst => ?_⟩,
    fun key hk hne hopen => ⟨?_, ?_, ?_⟩, fun core hc hopen => ⟨?_, fun hj => ?_⟩, fun p hp hopen hrec => ⟨?_, fun hj hst => ?_⟩,
    fun p hp hopen hrec hst => ?_, fun p hp hopen hj hst => ?_⟩, fun s level unit trigger odd suspects h3 h5 hu => ⟨?_, fun h => ?_⟩⟩
  · refine completes_of (exec_pcieHotReset s) rfl ?_
    obtain ⟨hruns, hvfs, hup, hbegins⟩ := pcieReset_module s
    rw [doPcieHotReset, if_pos hlink]
    exact ⟨hruns, hvfs, hup.trans hlink, hbegins⟩
  · refine completes_of (exec_pcieLinkLoss s) rfl ?_
    rw [doPcieLinkLoss, if_pos hlink]
    obtain ⟨hruns, hvfs, hup, hbegins⟩ := pcieReset_module { s with pcie := { s.pcie with linkUp := false } }
    exact ⟨hruns, hvfs, hup, fun h => (hbegins h).of_same rfl rfl rfl rfl rfl rfl⟩
  · exact becomes_of (exec_pcieHotReset s) rfl (by simp [doPcieHotReset, hlink])
  · exact becomes_of (exec_pcieLinkLoss s) rfl (by simp [doPcieLinkLoss, hlink])
  · exact flrPf_completes hlink hpin
  · refine becomes_of (exec_flrPf s) rfl ?_
    rw [doFlrPf_open hlink hpin, reachReset_held (by simp [State.heldByCommit, State.withoutVfs, hst])]
    rfl
  · refine completes_of (exec_moduleReset 0xA5 s) rfl ?_
    have hask : doModuleReset 0xA5 s = s.askReset 5 0 := by simp [doModuleReset, hopen]
    rw [hask, askReset_wide s (by decide)]
    exact reachReset_wide s (by decide) (heldByCommit_module s) 3
  · intro hst
    refine completes_of (exec_chipReset 0xA5 s) rfl ?_
    have hask : doChipReset 0xA5 s = s.askReset 4 0 := by simp [doChipReset, hopen]
    rw [hask, askReset_wide s (by decide)]
    exact reachReset_wide s (by decide) (heldByCommit_free hst 4) 3
  · refine becomes_of (exec_chipReset 0xA5 s) rfl ?_
    have hask : doChipReset 0xA5 s = s.askReset 4 0 := by simp [doChipReset, hopen]
    rw [hask, askReset_wide s (by decide), reachReset_held (by simp [State.heldByCommit, hst])]
  · exact becomes_of (exec_moduleReset key s) (decide_eq_true hk) (by simp [doModuleReset, hopen, hne, State.resetErr])
  · exact becomes_of (exec_chipReset key s) (decide_eq_true hk) (by simp [doChipReset, hopen, hne, State.resetErr])
  · exact becomes_of (exec_powerCycleRequest key s) (decide_eq_true hk) (by simp [doPowerCycleRequest, hopen, hne, State.resetErr])
  · exact becomes_of (exec_engineReset core s) (decide_eq_true hc) (by simp [doEngineReset, hopen])
  · refine completes_of (exec_engineReset core s) (decide_eq_true hc) ?_
    rw [doEngineReset, if_pos hopen]
    exact askReset_begins hj (heldByCommit_narrow s) (fun _ => hc) (by omega)
  · exact becomes_of (exec_polderReset p s) (decide_eq_true hp) (by simp [doPolderReset, hopen, hrec])
  · refine completes_of (exec_polderReset p s) (decide_eq_true hp) ?_
    have hask : doPolderReset p s = s.askReset 3 p := by simp [doPolderReset, hopen, hrec]
    rw [hask]
    exact askReset_begins hj (heldByCommit_free hst 3) (by omega) (fun _ => hp)
  · exact becomes_of (exec_polderReset p s) (decide_eq_true hp) (by simp [doPolderReset, hopen, hrec, hst, State.resetErr])
  · refine becomes_of (exec_polderReset p s) (decide_eq_true hp) ?_
    have hask : doPolderReset p s = s.askReset 3 p := by simp [doPolderReset, hopen, hst]
    rw [hask, askReset_alone hj, reachReset_held (by simp [State.heldByCommit, hst])]
  · exact beginReset_resetRuns s (by omega) unit trigger none odd suspects
  · obtain ⟨-, hbusy, -, hdike, -⟩ := beginReset_begins (s := s) (level := level) (unit := unit) (by simpa using h) (by omega)
      (fun _ => hu) trigger none odd suspects
    exact ⟨hbusy, hdike⟩

end Sys2Proof.Proofs
end

section
/-! PROOF. The state after reset, the pins, and what a register access through a function's view does (R1, R142, R223, R611, R673). -/
namespace Sys2Proof.Machine

/-! ### Fields of one register -/

theorem fld_congr {w v : Word} {hi lo : Nat} (h : ∀ i, lo ≤ i → i ≤ hi → w.getLsbD i = v.getLsbD i) : fld w hi lo = fld v hi lo := by
  refine Nat.eq_of_testBit_eq fun i => ?_
  simp only [fld, bits, Nat.testBit_mod_two_pow, Nat.testBit_shiftRight]
  by_cases hi' : i < hi + 1 - lo
  · have hbit := h (lo + i) (by omega) (by omega)
    rw [BitVec.getLsbD, BitVec.getLsbD] at hbit
    rw [hbit]
  · simp [hi']

/-- A field keeps its value when another field is set. -/
theorem State.fld_setFld_ne (s : State) {a hi lo b hi' lo' : Nat} (v : Nat) (hhi : hi < 32) (h : b ≠ a ∨ hi < lo' ∨ hi' < lo) :
    (s.setFld a hi lo v).fld b hi' lo' = s.fld b hi' lo' := by
  simp only [State.fld, State.reg_setFld]
  split
  next heq =>
    subst heq
    refine fld_congr fun i hlo hhi' => ?_
    rw [getLsbD_setFld _ _ hhi, if_neg (by omega)]
  next => rfl

/-- A field keeps its value when a bit outside it is set. -/
theorem State.fld_setBit_ne (s : State) {a i b hi lo : Nat} (x : Bool) (h : b ≠ a ∨ i < lo ∨ hi < i) :
    (s.setBit a i x).fld b hi lo = s.fld b hi lo := by
  simp only [State.fld, State.reg_setBit]
  split
  next heq =>
    subst heq
    exact fld_congr fun j hlo hhi' => getLsbD_setBit_ne _ _ _ (by omega)
  next => rfl

/-- A bit keeps its value when a field that does not hold it is set. -/
theorem State.bit_setFld_ne (s : State) {a hi lo b i : Nat} (v : Nat) (hhi : hi < 32) (h : b ≠ a ∨ i < lo ∨ hi < i) :
    (s.setFld a hi lo v).bit b i = s.bit b i := by
  simp only [State.bit, State.reg_setFld]
  split
  next heq =>
    subst heq
    rw [getLsbD_setFld _ _ hhi, if_neg (by omega)]
  next => rfl

/-! ### Bring-up -/

/-- The last step of bring-up shows READY (R611 step 9). -/
theorem becomeReady_stage (s : State) (power : Bool) : (s.becomeReady power).stage = 6 := by
  have hfld : (s.setFld Reg.idBoot 3 0 6).fld Reg.idBoot 3 0 = 6 := State.fld_setFld_same s Reg.idBoot 3 0 6 (by decide) (by decide)
  unfold State.becomeReady
  rw [State.stage, State.fld, (Steady.event _ _ _ _ _).reg (a := Reg.idBoot) (by unfold AccessReg; decide)]
  exact hfld

/-- Steps 4 to 9 of R611 end in recovery mode or in READY. -/
theorem finishBoot_ends (s : State) (power : Bool) (b : BootIn) :
    (s.finishBoot power b).recovery = true ∨ (s.finishBoot power b).stage = 6 := by
  simp only [State.finishBoot]
  split
  next hrec => exact .inl hrec
  next => exact .inr (becomeReady_stage _ power)

/-! ### A function's view of the registers -/

/-- A virtual function sees no register outside the common ones and its own context entries (R142). -/
theorem seenReg_eq_none {s : State} {fn addr : Nat} (hfn : 1 ≤ fn) (haddr : 0x10000 ≤ addr)
    (h : addr < 0x40000 ∨ 0x100000 ≤ addr ∨ s.localCtx fn ((addr - 0x40000) / 64) = none) : s.seenReg fn addr = none := by
  have hno : (if fn = 0 || decide (addr < 0x10000) then some addr
      else if decide (0x40000 ≤ addr) && decide (addr < 0x100000) then
        (s.localCtx fn ((addr - 0x40000) / 64)).map (fun c => 0x40000 + 64 * c + addr % 64)
      else none) = none := by
    rw [if_neg (by simp; omega)]
    rcases h with h | h | h
    · exact if_neg (by simp; omega)
    · exact if_neg (by simp; omega)
    · simp [h]
  rw [State.seenReg, hno]

theorem doRegisterWrite_of_seen {s : State} {fn addr a : Nat} {env : Env} (h : (s.arrive env).seenReg fn addr = some a) (v : Word) :
    doRegisterWrite fn addr v env s = (s.arrive env).writeReg fn a v env := by
  simp [doRegisterWrite, h]

theorem doRegisterWrite_of_unseen {s : State} {fn addr : Nat} {env : Env} (h : (s.arrive env).seenReg fn addr = none) (v : Word) :
    doRegisterWrite fn addr v env s = s.arrive env := by
  simp [doRegisterWrite, h]

/-! ### Reads of 64-bit counters -/

/-- A read of the LO half answers its low 32 bits and latches the HI half; of the HI half, it answers what was latched (R223). -/
theorem doCounterLoRead_lo {s : State} {fn addr a : Nat} {d : RegDesc} (hseen : s.seenReg fn addr = some a) (hd : findReg a = some d)
    (hwide : d.wide = true) : doCounterLoRead fn addr s = s.readLo d addr := by
  simp [doCounterLoRead, hseen, hd, Option.filter, hwide]

theorem doCounterLoRead_hi {s : State} {fn addr a : Nat} {d : RegDesc} (h4 : 4 ≤ addr) (hseen : s.seenReg fn (addr - 4) = some a)
    (hd : findReg a = some d) (hwide : d.wide = true)
    (hlo : ((s.seenReg fn addr).bind (fun x => (findReg x).filter (fun e => e.wide))) = none) :
    doCounterLoRead fn addr s = s.readHi d (addr - 4) := by
  unfold doCounterLoRead
  cases hs : s.seenReg fn addr with
  | none => simp [hseen, hd, Option.filter, hwide, h4]
  | some x =>
    have hlo' : Option.filter (fun e => e.wide) (findReg x) = none := by simpa [hs] using hlo
    simp only [hlo', hseen, hd, Option.filter_some, hwide, if_true, if_pos h4]

theorem latch_setLatch (s : State) (a : Nat) (x : Option Word) : (s.setLatch a x).latch a = x := by
  simp [State.setLatch, State.latch]

theorem latch_emit (s : State) (m : Out) (a : Nat) : (s.emit m).latch a = s.latch a := rfl

theorem readLo_reads (s : State) (d : RegDesc) (a : Nat) :
    (s.readLo d a).out = .completion 0 (leBytes 4 ((s.counterValue d a).toNat % 2 ^ 32)) [] :: s.out ∧
    (s.readLo d a).latch a = some (BitVec.ofNat 32 ((s.counterValue d a).toNat / 2 ^ 32)) ∧
    { s.readLo d a with out := s.out, latches := s.latches } = s :=
  ⟨rfl, by simp only [State.readLo, latch_emit, latch_setLatch], rfl⟩

theorem readHi_reads (s : State) (d : RegDesc) (a : Nat) {h : Word} (hl : s.latch a = some h) :
    (s.readHi d a).out = .completion 0 (leBytes 4 h.toNat) [] :: s.out ∧ (s.readHi d a).latch a = none ∧
    { s.readHi d a with out := s.out, latches := s.latches } = s := by
  refine ⟨?_, by simp only [State.readHi, latch_emit, latch_setLatch], rfl⟩
  simp [State.readHi, hl, State.emit, State.setLatch]

end Sys2Proof.Machine

namespace Sys2Proof.Proofs
open Sys2Proof.Machine

/-- Settles O18: a virtual function sees no such register (`seenReg_eq_none`), whatever has arrived. -/
theorem virtualFunctionIsolation : Obligations.VirtualFunctionIsolation := by
  unfold Obligations.VirtualFunctionIsolation
  intro s fn addr v env hfn hfn64 haddr h
  exact becomes_of (exec_registerWrite fn addr v env s) (decide_eq_true hfn64)
    (doRegisterWrite_of_unseen (seenReg_eq_none hfn haddr h) v)

/-- Settles O5 by evaluating the state after reset. -/
theorem afterReset : Obligations.AfterReset := by
  unfold Obligations.AfterReset
  have hempty : State.reset.pending = [] := rfl
  refine ⟨⟨fun i hi => ?_, hempty⟩, by decide +kernel, by decide +kernel⟩
  rw [hempty] at hi
  exact absurd hi List.not_mem_nil

/-- Settles O11: bring-up ends in one of its two ends (`finishBoot_ends`), and the other rows change the field they name. -/
theorem powerAndPins : Obligations.PowerAndPins := by
  unfold Obligations.PowerAndPins
  refine fun s => ⟨fun feed b hfeed hdark => ?_, fun b p hp => ?_, fun b hp => ?_, fun level hlevel => ?_, ?_⟩
  · refine completes_of (exec_powerOn feed b s) (decide_eq_true hfeed) ?_
    simp only [doPowerOn, hdark, State.bringUp]
    split
    next h => exact absurd h (by decide)
    next =>
      split
      next => exact .inl rfl
      next => exact .inr (finishBoot_ends _ true b)
  · refine completes_of (exec_perstRelease b s) rfl ?_
    simp only [doPerstRelease, hp]
    exact finishBoot_ends _ p b
  · exact becomes_of (exec_perstRelease b s) rfl (by simp [doPerstRelease, hp])
  · refine completes_of (exec_strapChange level s) (decide_eq_true hlevel) ?_
    simp only [doStrapChange]
    by_cases hsame : level = ({ s with pins := { s.pins with straps := level } } : State).fld Reg.idSideband 3 0
    · rw [if_pos hsame]
      exact ⟨rfl, rfl, fun hne => absurd hsame hne, rfl⟩
    · rw [if_neg hsame]
      exact ⟨rfl, State.fld_setBit_ne _ true (.inr (.inr (by decide))), fun _ => State.bit_setBit_same _ _ _ _ (by decide), rfl⟩
  · exact becomes_of (exec_i3cBusReset s) rfl rfl

/-- Settles O16: each of the two views of a register access is a branch of the row (`doRegisterWrite_of_seen`, `doCounterLoRead_lo`). -/
theorem hostRegisters : Obligations.HostRegisters := by
  unfold Obligations.HostRegisters
  refine fun s fn addr v env hfn => ⟨fun a ha => ?_, fun hno => ?_, fun a d hseen hd hwide => ?_, fun a d h h4 hseen hd hwide hlo hl => ?_⟩
  · exact becomes_of (exec_registerWrite fn addr v env s) (decide_eq_true hfn) (doRegisterWrite_of_seen ha v)
  · exact becomes_of (exec_registerWrite fn addr v env s) (decide_eq_true hfn) (doRegisterWrite_of_unseen hno v)
  · refine completes_of (exec_counterLoRead fn addr s) (decide_eq_true hfn) ?_
    rw [doCounterLoRead_lo hseen hd hwide]
    exact readLo_reads s d addr
  · refine completes_of (exec_counterLoRead fn addr s) (decide_eq_true hfn) ?_
    rw [doCounterLoRead_hi h4 hseen hd hwide hlo]
    exact readHi_reads s d (addr - 4) hl

end Sys2Proof.Proofs
end

section
/-! PROOF. The stop of a command, as its record shows it (R107–R118, R173, R175). -/
namespace Sys2Proof.Machine

/-! ### Records of commands -/

theorem cmd?_id {s : State} {id : Nat} {c : Cmd} (h : s.cmd? id = some c) : c.id = id := by
  simpa using List.find?_some h

theorem cmd?_of_cmds {s t : State} (h : t.cmds = s.cmds) (id : Nat) : t.cmd? id = s.cmd? id := by
  rw [State.cmd?, State.cmd?, h]

/-- A record changed is that of its identity alone. -/
theorem cmd?_updCmd (s : State) (id j : Nat) {f : Cmd → Cmd} (hf : ∀ c, (f c).id = c.id) :
    (s.updCmd id f).cmd? j = (s.cmd? j).map (fun c => if c.id = id then f c else c) := by
  have hid : (fun c : Cmd => c.id == j) ∘ (fun c => if c.id = id then f c else c) = fun c => c.id == j := by
    funext c
    simp only [Function.comp]
    split
    · rw [hf]
    · rfl
  rw [State.cmd?, State.updCmd, List.find?_map, hid]
  rfl

theorem cmd?_updCmd_same {s : State} {id : Nat} {c : Cmd} (h : s.cmd? id = some c) {f : Cmd → Cmd} (hf : ∀ c, (f c).id = c.id) :
    (s.updCmd id f).cmd? id = some (f c) := by
  rw [cmd?_updCmd s id id hf, h, Option.map_some, if_pos (cmd?_id h)]

theorem cmd?_updCmd_ne (s : State) {id j : Nat} (hne : j ≠ id) {f : Cmd → Cmd} (hf : ∀ c, (f c).id = c.id) :
    (s.updCmd id f).cmd? j = s.cmd? j := by
  rw [cmd?_updCmd s id j hf]
  cases h : s.cmd? j with
  | none => rfl
  | some c => rw [Option.map_some, if_neg (by rw [cmd?_id h]; exact hne)]

/-! ### What a micro-op does to the phase of a command -/

/-- The work stays, and so does the phase, unless a running command has failed at its access. -/
def PhaseKept (c d : Cmd) : Prop :=
  d.work = c.work ∧ (d.phase = c.phase ∨ (c.phase = .running ∧ (d.phase = .done St.uncorrectable ∨ d.phase = .done St.badDescriptor)))

theorem PhaseKept.refl (c : Cmd) : PhaseKept c c := ⟨rfl, .inl rfl⟩

theorem PhaseKept.trans {c d e : Cmd} (h : PhaseKept c d) (k : PhaseKept d e) : PhaseKept c e := by
  obtain ⟨hw, h⟩ := h
  obtain ⟨kw, k⟩ := k
  refine ⟨kw.trans hw, ?_⟩
  rcases h with h | ⟨hrun, hdone⟩
  · rcases k with k | ⟨krun, kdone⟩
    · exact .inl (k.trans h)
    · exact .inr ⟨h ▸ krun, kdone⟩
  · rcases k with k | ⟨krun, -⟩
    · exact .inr ⟨hrun, by rwa [k]⟩
    · rcases hdone with h | h <;> rw [h] at krun <;> exact absurd krun (by simp)

theorem PhaseKept.stoppable {c d : Cmd} (h : PhaseKept c d) (hc : c.stoppable = true) : d.stoppable = true := by
  rcases h with ⟨-, h | ⟨-, h | h⟩⟩
  · rw [Cmd.stoppable, h]; exact hc
  · rw [Cmd.stoppable, h]; decide
  · rw [Cmd.stoppable, h]; decide

theorem PhaseKept.holdsUnits {c d : Cmd} (h : PhaseKept c d) (hc : c.holdsUnits = false) : d.holdsUnits = false := by
  rcases h with ⟨hw, h | ⟨-, h | h⟩⟩
  · rw [Cmd.holdsUnits, h, hw]; exact hc
  · rw [Cmd.holdsUnits, h]
  · rw [Cmd.holdsUnits, h]

/-- Every command in flight is still there, its phase kept. -/
def PhasesKept (s t : State) : Prop := ∀ id c, s.cmd? id = some c → ∃ d, t.cmd? id = some d ∧ PhaseKept c d

theorem PhasesKept.of_cmds {s t : State} (h : t.cmds = s.cmds) : PhasesKept s t := fun id c hc =>
  ⟨c, (cmd?_of_cmds h id).trans hc, .refl c⟩

theorem PhasesKept.refl (s : State) : PhasesKept s s := .of_cmds rfl

theorem PhasesKept.trans {s t u : State} (h : PhasesKept s t) (k : PhasesKept t u) : PhasesKept s u := fun id c hc => by
  obtain ⟨d, hd, hcd⟩ := h id c hc
  obtain ⟨e, he, hde⟩ := k id d hd
  exact ⟨e, he, hcd.trans hde⟩

theorem PhasesKept.foldl_via {α β : Type} (g : α → State) (f : α → β → α) (h : ∀ a x, PhasesKept (g a) (g (f a x))) (l : List β) (a : α) :
    PhasesKept (g a) (g (l.foldl f a)) := by
  induction l generalizing a with
  | nil => exact .refl _
  | cons x l ih =>
    rw [List.foldl_cons]
    exact (h a x).trans (ih _)

theorem PhasesKept.updCmd (s : State) (id : Nat) {f : Cmd → Cmd} (hid : ∀ c, (f c).id = c.id) (hf : ∀ c, s.cmd? id = some c → PhaseKept c (f c)) :
    PhasesKept s (s.updCmd id f) := fun j c hc => by
  by_cases hj : j = id
  · subst hj
    exact ⟨f c, cmd?_updCmd_same hc hid, hf c hc⟩
  · exact ⟨c, (cmd?_updCmd_ne s hj hid).trans hc, .refl c⟩

theorem PhasesKept.warnCmd (s : State) (id b : Nat) : PhasesKept s (s.warnCmd id b) := .updCmd s id (fun _ => rfl) fun _ _ => ⟨rfl, .inl rfl⟩

theorem PhasesKept.wroteCmd (s : State) (id : Nat) : PhasesKept s (s.wroteCmd id) := .updCmd s id (fun _ => rfl) fun _ _ => ⟨rfl, .inl rfl⟩

/-- A unit that fails at an access ends its command only where that still runs. -/
theorem PhasesKept.nbuFail (s : State) (q : NbuSeq) {st : Nat} (hst : st = St.uncorrectable ∨ st = St.badDescriptor) (addr : Nat) :
    PhasesKept s (s.nbuFail q st addr) := by
  simp only [State.nbuFail]
  have hbit : PhasesKept s (if st = St.uncorrectable then s.setBit Reg.nbuEvent 3 true else s) := by
    split
    · exact .of_cmds rfl
    · exact .refl s
  refine hbit.trans ?_
  generalize (if st = St.uncorrectable then s.setBit Reg.nbuEvent 3 true else s) = t
  split
  next c hc =>
    split
    next hrun =>
      refine .updCmd t q.cmd (fun c => by split <;> rfl) fun d hd => ?_
      rw [hc, Option.some.injEq] at hd
      subst hd
      rw [hrun]
      refine ⟨rfl, .inr ⟨hrun, ?_⟩⟩
      rcases hst with h | h
      · exact .inl (by rw [h])
      · exact .inr (by rw [h])
    next => exact .refl t
  next => exact .refl t

/-! ### Blocks leave the commands alone -/

@[simp] theorem State.ueRecord_cmds (s : State) (rq : Req) (addr col q : Nat) : (s.ueRecord rq addr col q).cmds = s.cmds := by
  simp [State.ueRecord]

@[simp] theorem State.ceLog_cmds (s : State) (col q n : Nat) : (s.ceLog col q n).cmds = s.cmds := by
  simp only [State.ceLog]
  split <;> simp

@[simp] theorem State.hardFault_cmds (s : State) (col q : Nat) : (s.hardFault col q).cmds = s.cmds := by
  simp only [State.hardFault]
  have hentry : (match s.ceEntry col (locatorOf q) with
      | some i => s.setBit (Reg.memCeInfo col i) 3 true
      | none => s).cmds = s.cmds := by
    split <;> rfl
  split
  · exact hentry
  · exact hentry
  · rw [State.event_cmds]
    exact hentry

@[simp] theorem State.putBlock_cmds (s : State) (col q : Nat) (bs : List Byte) (x : Pattern) : (s.putBlock col q bs x).cmds = s.cmds := rfl

theorem State.readBlock_cmds (s : State) (rq : Req) (addr col q : Nat) (w : Bool) : (s.readBlock rq addr col q w).2.cmds = s.cmds := by
  simp only [State.readBlock]
  split
  · simp
  · split
    · simp
    next n left _ =>
      split
      · rfl
      · have hlog := State.ceLog_cmds s col q n
        generalize s.ceLog col q n = t at hlog ⊢
        split <;>
        · split
          · exact hlog
          · split <;> simpa using hlog

theorem State.flipDone_cmds (s : State) (col q : Nat) : (s.flipDone col q).cmds = s.cmds := by
  have hmask : ∀ (l : List Nat) (t : State), (l.foldl (fun s i => s.setReg (Reg.memFlipmask i) 0) t).cmds = t.cmds := by
    intro l
    induction l with
    | nil => exact fun _ => rfl
    | cons i l ih => exact fun t => (ih _).trans rfl
  rw [State.flipDone, State.event_cmds, hmask, State.setBit_cmds, State.setReg_cmds]

theorem State.storeBlock_cmds (s : State) (col q : Nat) (bs : List Byte) : (s.storeBlock col q bs).cmds = s.cmds := by
  simp only [State.storeBlock]
  split
  · rw [State.flipDone_cmds, State.putBlock_cmds]
  · rfl

theorem State.writeBlock_cmds (s : State) (rq : Req) (addr col q off : Nat) (bs : List Byte) :
    (s.writeBlock rq addr col q off bs).2.cmds = s.cmds := by
  unfold State.writeBlock
  split
  · simp
  · split
    · exact State.storeBlock_cmds _ _ _ _
    · have hread := State.readBlock_cmds s rq addr col q true
      split
      next heq =>
        rw [heq] at hread
        rw [State.storeBlock_cmds, hread]
      next heq =>
        rw [heq] at hread
        exact hread

/-! ### Micro-ops and stops keep the phases -/

theorem State.openRow_cmds (s : State) (q : NbuSeq) (row : Nat) : (s.openRow q row).1.cmds = s.cmds := by
  unfold State.openRow
  split <;> rfl

theorem State.resolveClash_cmds (s : State) (q : NbuSeq) : (s.resolveClash q).cmds = s.cmds := by
  simp only [State.resolveClash]
  generalize (q.clashed ++ (q.stored.filter (fun e => e.2.any (fun b => q.clashed.contains b))).map (fun e => e.1)).eraseDups = l
  induction l generalizing s with
  | nil => rfl
  | cons k l ih =>
    rw [List.foldl_cons]
    exact (ih _).trans rfl

theorem PhasesKept.badAccess (s : State) (q : NbuSeq) (addr : Nat) : PhasesKept s (s.badAccess q addr) :=
  (PhasesKept.nbuFail s q (.inr rfl) addr).trans (.of_cmds rfl)

theorem PhasesKept.nbuLoad (s : State) (q : NbuSeq) (u : DWord) : PhasesKept s (s.nbuLoad q u) := by
  unfold State.nbuLoad
  split
  · exact .badAccess _ _ _
  · exact .refl _
  next p n c _ _ =>
    simp only
    have hopen : PhasesKept s (s.openRow q (cellRow (s.cellOf q.col p))).1 := .of_cmds (State.openRow_cmds _ _ _)
    generalize s.openRow q (cellRow (s.cellOf q.col p)) = x at hopen ⊢
    have hread := PhasesKept.foldl_via (fun (a : List Byte × Option Nat × State) => a.2.2)
      (fun (a : List Byte × Option Nat × State) (y : Nat × Nat × Nat) => match a.2.1 with
        | some _ => a
        | none =>
          let cell := a.2.2.cellOf q.col y.2.1
          match a.2.2.readBlock (reqNbu c) (2 ^ 32 * q.col + y.2.1 / 64 * 64) q.col cell false with
          | (some bs, s) => (a.1 ++ lslice bs (cell % 64) y.2.2, none, s)
          | (none, s) => (a.1, some (y.2.1 / 64 * 64), s))
      (by
        intro a y
        dsimp only
        split
        · exact .refl _
        · have hblock := State.readBlock_cmds a.2.2 (reqNbu c) (2 ^ 32 * q.col + y.2.1 / 64 * 64) q.col (a.2.2.cellOf q.col y.2.1) false
          split <;>
          next heq =>
            rw [heq] at hblock
            exact .of_cmds hblock)
      (pieces p n) ([], none, x.1)
    refine hopen.trans (hread.trans ?_)
    generalize (pieces p n).foldl _ (([], none, x.1) : List Byte × Option Nat × State) = r
    split
    · exact (PhasesKept.nbuFail _ _ (.inl rfl) _).trans (.of_cmds rfl)
    · exact .of_cmds rfl

theorem PhasesKept.nbuStore (s : State) (q : NbuSeq) (u : DWord) : PhasesKept s (s.nbuStore q u) := by
  unfold State.nbuStore
  split
  · exact .badAccess _ _ _
  · exact .refl _
  next p n c _ _ =>
    simp only
    have hopen : PhasesKept s { (s.openRow q (cellRow (s.cellOf q.col p))).1 with freeCtr := s.freeCtr + 16 * (uCnt u + 1) } :=
      .of_cmds (State.openRow_cmds _ _ _)
    generalize ({ (s.openRow q (cellRow (s.cellOf q.col p))).1 with freeCtr := s.freeCtr + 16 * (uCnt u + 1) } : State) = s0 at hopen ⊢
    generalize ((List.range (uCnt u + 1)).map (fun j => storeGroup (uFmt u) (s.freeCtr + 16 * j) (q.v (uVd u + j)))) = gs
    have hwrite := PhasesKept.foldl_via (fun (a : List Nat × State) => a.2)
      (fun (a : List Nat × State) (y : Nat × Nat × Nat) =>
        let cell := a.2.cellOf q.col y.2.1
        if q.bad.contains (blockKey q.col cell) then a
        else match a.2.writeBlock (reqNbu c) (2 ^ 32 * q.col + y.2.1 / 64 * 64) q.col cell (cell % 64)
            (lslice (gs.flatMap (fun y => y.1)) y.1 y.2.2) with
          | (true, s) => (a.1, s.wroteCmd c.id)
          | (false, s) => (blockKey q.col cell :: a.1, s.nbuFail q St.uncorrectable (2 ^ 32 * q.col + y.2.1 / 64 * 64)))
      (by
        intro a y
        dsimp only
        split
        · exact .refl _
        · have hblock := State.writeBlock_cmds a.2 (reqNbu c) (2 ^ 32 * q.col + y.2.1 / 64 * 64) q.col (a.2.cellOf q.col y.2.1)
            (a.2.cellOf q.col y.2.1 % 64) (lslice (gs.flatMap (fun y => y.1)) y.1 y.2.2)
          split
          next heq =>
            rw [heq] at hblock
            exact (PhasesKept.of_cmds hblock).trans (.wroteCmd _ _)
          next heq =>
            rw [heq] at hblock
            exact (PhasesKept.of_cmds hblock).trans (.nbuFail _ _ (.inl rfl) _))
      (pieces p n) ([], s0)
    refine hopen.trans (hwrite.trans ?_)
    generalize (pieces p n).foldl _ (([], s0) : List Nat × State) = r
    have hsat : ∀ t : State, PhasesKept t (if gs.any (fun y => y.2) then t.warnCmd c.id Wn.saturated else t) := by
      intro t
      split
      · exact .warnCmd _ _ _
      · exact .refl _
    exact (PhasesKept.of_cmds rfl).trans ((hsat (r.2.addCnt Reg.nbuCntBytes n)).trans (.of_cmds rfl))

theorem PhasesKept.runMicro (s : State) (q : NbuSeq) (u : DWord) : PhasesKept s (s.runMicro q u) := by
  unfold State.runMicro
  split
  · exact .of_cmds ((State.resolveClash_cmds s q).symm.symm)
  · split
    · exact .nbuLoad _ _ _
    · split
      · exact .nbuStore _ _ _
      · exact .of_cmds rfl

theorem PhasesKept.toBoundary (k : Nat) (s : State) (col bank : Nat) : PhasesKept s (State.toBoundary k s col bank) := by
  induction k generalizing s with
  | zero => exact .refl s
  | succ k ih =>
    unfold State.toBoundary
    split
    · split
      · split
        · exact (PhasesKept.runMicro _ _ _).trans (ih _)
        · exact .refl s
      · exact .refl s
    · exact .refl s

theorem PhasesKept.releaseNbus (s : State) (id : Nat) : PhasesKept s (s.releaseNbus id) := by
  have hdrop : ∀ (t : State) (n : Nat × Nat), PhasesKept t (t.dropSeq n.1 n.2) := by
    intro t n
    unfold State.dropSeq
    split
    · exact .of_cmds ((State.resolveClash_cmds t _).symm.symm)
    · exact .refl t
  exact (PhasesKept.foldl_via (fun t => t) _ hdrop _ s).trans (.of_cmds rfl)

theorem PhasesKept.stopSeqs (s : State) (id : Nat) : PhasesKept s (s.stopSeqs id) := by
  unfold State.stopSeqs
  exact (PhasesKept.foldl_via (fun t => t) _ (fun t (n : Nat × Nat) => .toBoundary 2 t n.1 n.2) _ s).trans (.releaseNbus _ _)

/-! ### The stop of a command -/

/-- A command asked to stop with a status stops with it, or has stopped with it. -/
def Stopped (t : State) (id st : Nat) : Prop := Stops t id st ∨ Ends t id st

theorem Stopped.kept {s t : State} {id st : Nat} (h : Stopped s id st) (k : PhasesKept s t) : Stopped t id st := by
  rcases h with ⟨c, since, hc, hph⟩ | ⟨c, hc, hph⟩
  · obtain ⟨d, hd, hkept⟩ := k id c hc
    rcases hkept with ⟨-, h | ⟨hrun, -⟩⟩
    · exact .inl ⟨d, since, hd, h.trans hph⟩
    · rw [hph] at hrun
      cases hrun
  · obtain ⟨d, hd, hkept⟩ := k id c hc
    rcases hkept with ⟨-, h | ⟨hrun, -⟩⟩
    · exact .inr ⟨d, hd, h.trans hph⟩
    · rw [hph] at hrun
      cases hrun

/-- A command asked to stop leaves the shadow lanes and the repeats of the cores. -/
def State.offCores (s : State) (id : Nat) : State :=
  (s.dropShadow id).mapCores (fun k => { k with redo := k.redo.filter (fun r => r.1 != id) })

/-- The record of a command asked to stop. -/
def Cmd.asked (tick st : Nat) (c : Cmd) : Cmd :=
  if c.holdsUnits then { c with phase := .stopping st tick, errAddr := none } else { c with phase := .done st, errAddr := none }

theorem Cmd.asked_id (tick st : Nat) (c : Cmd) : (c.asked tick st).id = c.id := by
  unfold Cmd.asked
  split <;> rfl

theorem Cmd.asked_work (tick st : Nat) (c : Cmd) : (c.asked tick st).work = c.work := by
  unfold Cmd.asked
  split <;> rfl

/-- What the units of a command do before its record shows the stop. -/
def State.stopUnits (s : State) (id : Nat) (w : Work) : State :=
  match w with
  | .nbu _ => (s.offCores id).stopSeqs id
  | _ => s.offCores id

theorem stopCmd_cmd {s : State} {id : Nat} {c : Cmd} (hc : s.cmd? id = some c) (hs : c.stoppable = true) (st : Nat) :
    s.stopCmd id st = (s.stopUnits id c.work).updCmd id (Cmd.asked (s.stopUnits id c.work).tick st) := by
  unfold State.stopCmd
  rw [hc]
  simp only [hs, Bool.not_true, Bool.false_eq_true, if_false]
  rfl

theorem stopCmd_none {s : State} {id : Nat} (hc : ∀ c, s.cmd? id = some c → c.stoppable = false) (st : Nat) : s.stopCmd id st = s := by
  unfold State.stopCmd
  split
  · rfl
  next c h => simp [hc c h]

/-- Before its record changes, the stop of a command keeps every phase. -/
theorem stopUnits_kept (s : State) (id : Nat) (w : Work) : PhasesKept s (s.stopUnits id w) := by
  unfold State.stopUnits
  split
  · exact (PhasesKept.of_cmds (s := s) (t := s.offCores id) rfl).trans (.stopSeqs _ _)
  · exact .of_cmds rfl

theorem stopUnits_of_ne {w : Work} (h : ∀ l, w ≠ .nbu l) (s : State) (id : Nat) : s.stopUnits id w = s.offCores id := by
  unfold State.stopUnits
  split
  next l => exact absurd rfl (h l)
  next => rfl

/-- A command can be stopped, or nothing of its number can. -/
theorem stoppable_cases (s : State) (id : Nat) : (∀ c, s.cmd? id = some c → c.stoppable = false) ∨ ∃ c, s.cmd? id = some c ∧ c.stoppable = true := by
  cases hc : s.cmd? id with
  | none => exact .inl fun _ hk => by cases hk
  | some c =>
    cases hs : c.stoppable with
    | false => exact .inl fun k hk => (congrArg Cmd.stoppable (Option.some.inj hk)).symm.trans hs
    | true => exact .inr ⟨c, rfl, hs⟩

/-- The stop of one command keeps the phases of the others. -/
theorem stopCmd_others (s : State) {id j : Nat} (hne : j ≠ id) (st : Nat) {c : Cmd} (hc : s.cmd? j = some c) :
    ∃ d, (s.stopCmd id st).cmd? j = some d ∧ PhaseKept c d := by
  rcases stoppable_cases s id with h | ⟨k, hk, hs⟩
  · rw [stopCmd_none h]
    exact ⟨c, hc, .refl c⟩
  · rw [stopCmd_cmd hk hs, cmd?_updCmd_ne _ hne (Cmd.asked_id _ _)]
    exact stopUnits_kept s id k.work j c hc

theorem stopCmd_stopped {s : State} {id : Nat} {c : Cmd} (hc : s.cmd? id = some c) (hs : c.stoppable = true) (st : Nat) :
    Stopped (s.stopCmd id st) id st := by
  rw [stopCmd_cmd hc hs]
  obtain ⟨d, hd, -⟩ := stopUnits_kept s id c.work id c hc
  generalize s.stopUnits id c.work = t at hd ⊢
  have hrec := cmd?_updCmd_same hd (Cmd.asked_id t.tick st)
  by_cases hu : d.holdsUnits = true
  · exact .inl ⟨_, t.tick, hrec, by rw [Cmd.asked, if_pos hu]⟩
  · exact .inr ⟨_, hrec, by rw [Cmd.asked, if_neg hu]⟩

/-- The statuses of a stop, which no later one replaces. -/
def stopStatus (st : Nat) : Bool := [St.aborted, St.timeout, St.guilty, St.resetLost, St.fenced, St.peerAbort].contains st

theorem Stopped.not_stoppable {s : State} {id st : Nat} (hst : stopStatus st = true) (h : Stopped s id st) :
    ∀ c, s.cmd? id = some c → c.stoppable = false := by
  intro c hc
  rcases h with ⟨d, since, hd, hph⟩ | ⟨d, hd, hph⟩
  · rw [hd, Option.some.injEq] at hc
    rw [← hc, Cmd.stoppable, hph]
  · rw [hd, Option.some.injEq] at hc
    rw [← hc, Cmd.stoppable, hph]
    exact congrArg (fun b => !b) hst

theorem Stopped.stopCmd {s : State} {id st : Nat} (hst : stopStatus st = true) (h : Stopped s id st) (j st' : Nat) :
    Stopped (s.stopCmd j st') id st := by
  by_cases hj : id = j
  · rw [← hj, stopCmd_none (h.not_stoppable hst)]
    exact h
  · rcases h with ⟨c, since, hc, hph⟩ | ⟨c, hc, hph⟩ <;>
    obtain ⟨d, hd, -, hkept | ⟨hrun, -⟩⟩ := stopCmd_others s hj st' hc
    · exact .inl ⟨d, since, hd, hkept.trans hph⟩
    · rw [hph] at hrun
      cases hrun
    · exact .inr ⟨d, hd, hkept.trans hph⟩
    · rw [hph] at hrun
      cases hrun

/-- Every command of a list that may be stopped is stopped, in whatever order (R175). -/
theorem stopAll_stopped {st : Nat} (hst : stopStatus st = true) (ids : List Nat) (s : State) {id : Nat} {c : Cmd} (hc : s.cmd? id = some c)
    (hs : c.stoppable = true) (hmem : id ∈ ids) : Stopped (s.stopAll ids st) id st := by
  have hafter : ∀ (l : List Nat) (t : State), Stopped t id st → Stopped (t.stopAll l st) id st := by
    intro l
    induction l with
    | nil => exact fun t h => h
    | cons i l ih =>
      intro t h
      rw [State.stopAll, List.foldl_cons]
      exact ih _ (h.stopCmd hst i st)
  induction ids generalizing s c with
  | nil => cases hmem
  | cons i ids ih =>
    rw [State.stopAll, List.foldl_cons]
    by_cases hi : id = i
    · rw [← hi]
      exact hafter ids _ (stopCmd_stopped hc hs st)
    · obtain ⟨d, hd, hkept⟩ := stopCmd_others s hi st hc
      exact ih _ hd (hkept.stoppable hs) ((List.mem_cons.mp hmem).resolve_left hi)

/-! ### A stop without near-bank units -/

/-- No command in flight has sequences on near-bank units. -/
def State.noNbus (s : State) : Prop := ∀ k ∈ s.cmds, ∀ l, k.work ≠ .nbu l

/-- The stop of a command that has no sequences leaves the memories alone. -/
theorem stopCmd_mem {s : State} (h : s.noNbus) (id st : Nat) : (s.stopCmd id st).mem = s.mem ∧ (s.stopCmd id st).noNbus := by
  rcases stoppable_cases s id with hno | ⟨c, hc, hs⟩
  · rw [stopCmd_none hno]
    exact ⟨rfl, h⟩
  · rw [stopCmd_cmd hc hs, stopUnits_of_ne (h c (List.mem_of_find?_eq_some hc))]
    refine ⟨rfl, fun k hk l => ?_⟩
    obtain ⟨d, hd, rfl⟩ := List.mem_map.mp hk
    split
    · rw [Cmd.asked_work]
      exact h d hd l
    · exact h d hd l

theorem stopAll_mem {s : State} (h : s.noNbus) (ids : List Nat) (st : Nat) : (s.stopAll ids st).mem = s.mem := by
  induction ids generalizing s with
  | nil => rfl
  | cons i ids ih =>
    rw [State.stopAll, List.foldl_cons]
    obtain ⟨hmem, hno⟩ := stopCmd_mem h i st
    exact (ih hno).trans hmem

/-! ### Run states -/

theorem runState_setRun (s : State) (p : Nat) (r : RunState) : (s.setRun p r).runState p = r := by
  simp [State.runState, State.setRun]

/-- The commands of a polder, marked as asked to stop by its quiesce (R112). -/
def State.markQuiesced (s : State) (ids : List Nat) : State :=
  { s with cmds := s.cmds.map (fun (c : Cmd) => if ids.contains c.id then { c with quiesced := true } else c) }

theorem cmd?_markQuiesced {s : State} {id : Nat} {c : Cmd} (h : s.cmd? id = some c) (ids : List Nat) :
    ∃ d, (s.markQuiesced ids).cmd? id = some d ∧ d.phase = c.phase := by
  have hid : (fun c : Cmd => c.id == id) ∘ (fun c => if ids.contains c.id then { c with quiesced := true } else c) = fun c => c.id == id := by
    funext c
    simp only [Function.comp]
    split <;> rfl
  refine ⟨if ids.contains c.id then { c with quiesced := true } else c, ?_, by split <;> rfl⟩
  rw [State.cmd?, State.markQuiesced, List.find?_map, hid, ← State.cmd?, h]
  rfl

theorem markQuiesced_noNbus {s : State} (h : s.noNbus) (ids : List Nat) : (s.markQuiesced ids).noNbus := by
  intro k hk l
  obtain ⟨d, hd, rfl⟩ := List.mem_map.mp hk
  split
  · exact h d hd l
  · exact h d hd l

/-- The commands of a polder that its drain asks to stop. -/
def State.drainIds (s : State) (p : Nat) : List Nat := ((s.polderCmds p).filter Cmd.stoppable).map (fun c => c.id)

theorem doDrainDeadline_due {s : State} {p d n : Nat} {a x : Bool} (hr : s.runState p = .stopping d a x n) (hdue : d ≤ s.tick ∨ a = true) :
    doDrainDeadline p s =
      ((s.markQuiesced (s.drainIds p)).stopAll (s.drainIds p) St.aborted).setRun p (.stopping d true x (n + (s.drainIds p).length)) := by
  unfold doDrainDeadline
  rw [hr]
  simp only
  rw [if_pos (by simpa using hdue.symm)]
  rfl

theorem doDrainDeadline_early {s : State} {p d n : Nat} {x : Bool} (hr : s.runState p = .stopping d false x n) (hd : s.tick < d) :
    doDrainDeadline p s = s := by
  unfold doDrainDeadline
  rw [hr]
  simp only
  rw [if_neg (by simpa using hd)]

/-- The deadline of a drain asks every command of the polder that may be stopped to stop, and changes the run state (R113). -/
theorem drain_stops {s : State} {p d n : Nat} {a x : Bool} (hr : s.runState p = .stopping d a x n) (hdue : d ≤ s.tick ∨ a = true) :
    (doDrainDeadline p s).runState p = .stopping d true x (n + ((s.polderCmds p).filter Cmd.stoppable).length) ∧
    (∀ k ∈ s.polderCmds p, k.stoppable = true →
      Stops (doDrainDeadline p s) k.id St.aborted ∨ Ends (doDrainDeadline p s) k.id St.aborted ∨ s.cmd? k.id ≠ some k) ∧
    (s.noNbus → (doDrainDeadline p s).mem = s.mem) ∧ (doDrainDeadline p s).image = s.image ∧ (doDrainDeadline p s).sets = s.sets := by
  rw [doDrainDeadline_due hr hdue]
  have hsteady := (s.markQuiesced (s.drainIds p)).stopAll_steady (s.drainIds p) St.aborted
  refine ⟨?_, fun k hk hs => ?_, fun hno => stopAll_mem (markQuiesced_noNbus hno _) _ _, hsteady.image, hsteady.sets⟩
  · rw [runState_setRun, State.drainIds, List.length_map]
  · by_cases hfirst : s.cmd? k.id = some k
    · obtain ⟨c, hc, hph⟩ := cmd?_markQuiesced hfirst (s.drainIds p)
      have hcs : c.stoppable = true := by
        rw [Cmd.stoppable, hph]
        exact hs
      have hmem : k.id ∈ s.drainIds p := List.mem_map_of_mem (List.mem_filter.mpr ⟨hk, hs⟩)
      rcases stopAll_stopped (st := St.aborted) (by decide) _ _ hc hcs hmem with h | h
      · exact .inl h
      · exact .inr (.inl h)
    · exact .inr (.inr hfirst)

/-- A stopping polder stops: its run state and registers say so, and only what it scrubs is cleared (R111). -/
theorem stopPolder_stops {s : State} {p d n : Nat} {a x : Bool} (hp : p < 32) (hr : s.runState p = .stopping d a x n) :
    (s.stopPolder p).runState p = .stopped ∧ (s.stopPolder p).bit Reg.mbxStopped p = true ∧ (s.stopPolder p).bit Reg.mbxStopping p = false ∧
    (s.stopPolder p).cmds = s.cmds ∧ (s.stopPolder p).image = s.image ∧ (x = false → (s.stopPolder p).mem = s.mem) ∧
    (x = true → (s.stopPolder p).mem = (s.scrubPolder p).mem) := by
  have hscrub : (if x then s.scrubPolder p else s).cmds = s.cmds ∧ (if x then s.scrubPolder p else s).image = s.image := by
    split <;> exact ⟨rfl, rfl⟩
  have hmem : (x = false → (if x then s.scrubPolder p else s).mem = s.mem) ∧
      (x = true → (if x then s.scrubPolder p else s).mem = (s.scrubPolder p).mem) := by
    refine ⟨fun h => ?_, fun h => ?_⟩ <;> rw [h] <;> rfl
  have hstop : s.stopPolder p = ((if x then s.scrubPolder p else s).setRun p .stopped).event 0x0202 (Src.polder p) none (n % 2 ^ 32) := by
    unfold State.stopPolder
    rw [hr]
  rw [hstop]
  generalize (if x then s.scrubPolder p else s) = t at hscrub hmem ⊢
  have hsteady := Steady.event (t.setRun p .stopped) 0x0202 (Src.polder p) none (n % 2 ^ 32)
  have hbit : ∀ r, ¬ AccessReg r → ((t.setRun p .stopped).event 0x0202 (Src.polder p) none (n % 2 ^ 32)).bit r p = (t.setRun p .stopped).bit r p :=
    fun r hr => by rw [State.bit, hsteady.reg hr, State.bit]
  refine ⟨?_, ?_, ?_, ?_, hsteady.image.trans hscrub.2, fun h => ?_, fun h => ?_⟩
  · rw [State.runState, hsteady.runs]
    exact runState_setRun t p .stopped
  · rw [hbit _ (by unfold AccessReg; decide)]
    exact State.bit_setBit_same _ _ _ _ hp
  · rw [hbit _ (by unfold AccessReg; decide)]
    exact (State.bit_setBit_ne _ _ _ _ _ _ (.inl (by decide))).trans (State.bit_setBit_same _ _ _ _ hp)
  · rw [State.event_cmds]
    exact hscrub.1
  · rw [State.event_mem]
    exact hmem.1 h
  · rw [State.event_mem]
    exact hmem.2 h

end Sys2Proof.Machine

namespace Sys2Proof.Proofs
open Sys2Proof.Machine

/-- Settles O39: by the run state; the drain asks every command to stop (`stopAll_stopped`), whatever the stops before it did. -/
theorem runStates : Obligations.RunStates := by
  unfold Obligations.RunStates
  refine fun s p hp => ⟨fun ab sc ms hr => ?_, fun ab sc ms d a x n hr => ?_, fun ab sc ms hr => ?_, fun d a x n hr => ⟨fun hdue => ?_, fun hd ha => ?_,
    fun hnone => ?_⟩, fun hr => ⟨?_, ?_⟩, fun hcmds => ?_⟩
  · rw [State.quiesce, hr]
    exact runState_setRun s p _
  · rw [State.quiesce, hr]
    exact runState_setRun s p _
  · rw [State.quiesce, hr]
    simp only
    split <;> exact hr
  · exact completes_of (exec_drainDeadline p s) (decide_eq_true hp) (drain_stops hr hdue)
  · subst ha
    exact becomes_of (exec_drainDeadline p s) (decide_eq_true hp) (doDrainDeadline_early hr hd)
  · refine completes_of (exec_polderStopped p s) (decide_eq_true hp) ?_
    have hdo : doPolderStopped p s = s.stopPolder p := by simp [doPolderStopped, hnone]
    rw [hdo]
    exact stopPolder_stops hp hr
  · refine becomes_of (exec_drainDeadline p s) (decide_eq_true hp) ?_
    unfold doDrainDeadline
    rcases hr with hr | hr <;> rw [hr]
  · refine becomes_of (exec_polderStopped p s) (decide_eq_true hp) ?_
    unfold doPolderStopped State.stopPolder
    rcases hr with hr | hr <;> rw [hr] <;> exact ite_self s
  · exact becomes_of (exec_polderStopped p s) (decide_eq_true hp) (if_neg (by simpa using hcmds))

end Sys2Proof.Proofs
end

section
/-! PROOF. ABORT, vigils, and what follows an overrun (R172–R175, R550–R554, R632). -/
namespace Sys2Proof.Machine

/-! ### Accesses to stack memory keep the phases -/

theorem PhasesKept.afterMicro (s : State) (id : Nat) : PhasesKept s (s.afterMicro id) := by
  unfold State.afterMicro
  split
  · split
    · exact .refl s
    · exact .stopSeqs s id
  · exact .refl s

theorem PhasesKept.countYield (s : State) (col q : Nat) : PhasesKept s (s.countYield col q) := by
  have hyield : PhasesKept s (s.yieldTo col q) := by
    simp only [State.yieldTo]
    split
    · exact .refl s
    · split
      · exact .refl s
      · refine PhasesKept.trans ?_ (.afterMicro _ _)
        have hbound := PhasesKept.toBoundary 2 s col (cellBankIdx q)
        generalize State.toBoundary 2 s col (cellBankIdx q) = t at hbound ⊢
        refine hbound.trans ?_
        split
        · split
          · split
            · exact (PhasesKept.runMicro _ _ _).trans (.toBoundary _ _ _ _)
            · exact .refl t
          · exact .refl t
        · exact .refl t
  simp only [State.countYield]
  refine hyield.trans ?_
  split
  · split
    · exact .refl _
    · exact .of_cmds rfl
  · exact .refl _

theorem State.firstNote_cmds (s : State) (b lo hi code addr col : Nat) (ctx : Option Nat) :
    (s.firstNote b lo hi code addr col ctx).cmds = s.cmds := by
  unfold State.firstNote
  split
  · rfl
  · rw [State.event_cmds, State.setBit_cmds, State.setNat_cmds, State.setNat_cmds]

theorem PhasesKept.noteClash (s : State) (rq : Req) (addr col q n : Nat) : PhasesKept s (s.noteClash rq addr col q n) := by
  simp only [State.noteClash]
  split
  · split
    · exact (PhasesKept.warnCmd s _ _).trans (.of_cmds (State.firstNote_cmds _ _ _ _ _ _ _ _))
    · exact .refl s
  · exact .refl s

theorem PhasesKept.physWrite (s : State) (rq : Req) (col p : Nat) (bs : List Byte) : PhasesKept s (s.physWrite rq col p bs).2 := by
  unfold State.physWrite
  refine PhasesKept.foldl_via (fun (a : Nat × State) => a.2) _ (fun a x => ?_) _ (0, s)
  have hchan : PhasesKept a.2 (a.2.chanWrite rq (2 ^ 32 * col + x.2.1) col (a.2.cellOf col x.2.1) (lslice bs x.1 x.2.2)).2 := by
    simp only [State.chanWrite]
    exact ((PhasesKept.countYield _ _ _).trans (.noteClash _ _ _ _ _ _)).trans (.of_cmds (State.writeBlock_cmds _ _ _ _ _ _ _))
  split <;>
  next heq =>
    rw [heq] at hchan
    exact hchan

theorem PhasesKept.putDossier (s : State) (bytes : List Byte) : PhasesKept s (s.putDossier bytes).2 := by
  simp only [State.putDossier]
  split
  · exact .of_cmds rfl
  next k _ =>
    generalize (chunks 0x100000 (bytes.take 4 ++ leBytes 4 ((s.nat Reg.rstDossierSeq + 1) % 2 ^ 32) ++ bytes.drop 8)).zipIdx = l
    have hstored := PhasesKept.foldl_via (fun t => t) (fun (s : State) (x : List Byte × Nat) =>
      (s.physWrite Req.bd (64 * s.fld Reg.idBoot 26 25 + (0x400000 * k / 0x100000 + x.2)) 0x2FE00000 x.1).2)
      (fun t x => .physWrite t _ _ _ _) l s
    refine hstored.trans (.of_cmds ?_)
    simp only [State.event_cmds, State.setNat_cmds, State.setFld_cmds]

/-- What is noted of a command whose vigil has run out leaves every phase alone (R550). -/
theorem PhasesKept.vigilNoted (s : State) (c : Cmd) (trigger : Nat) : PhasesKept s ((s.noteExpiry c).vigilDossier trigger c) := by
  refine PhasesKept.trans (t := s.noteExpiry c) (.of_cmds ?_) ?_
  · rw [State.noteExpiry, State.event_cmds]
    rfl
  · exact (PhasesKept.of_cmds (t := (s.noteExpiry c).fresh) rfl).trans (.putDossier _ _)

/-- A row that leaves the queue alone needs no queue given back. -/
theorem withQueue_self {s t : State} (h : t.pending = s.pending) : t.withQueue s.pending = t := by
  rw [← h]
  rfl

/-! ### The end of a command, and its beginning -/

/-- A command that is not being stopped ends with its status. -/
theorem endCmd_ends {s : State} {id : Nat} {c : Cmd} (hc : s.cmd? id = some c) (hph : ∀ st since, c.phase ≠ .stopping st since)
    (st : Nat) (a : Option Nat) : Ends (s.endCmd id st a) id st := by
  refine ⟨_, cmd?_updCmd_same hc (fun c => by split <;> rfl), ?_⟩
  split
  next st' since h => exact absurd h (hph st' since)
  next => rfl

theorem beginCmd_works {s : State} {id : Nat} (h : (s.cmd? id).isSome = true) (w : Work) : Works (s.beginCmd id w) id w := by
  obtain ⟨c, hc⟩ := Option.isSome_iff_exists.mp h
  exact ⟨_, cmd?_updCmd_same hc (fun _ => rfl), rfl, rfl⟩

/-- A command that begins leaves the phases of the others alone. -/
theorem Stopped.beginCmd {s : State} {id j st : Nat} (hne : j ≠ id) (h : Stopped s j st) (w : Work) : Stopped (s.beginCmd id w) j st := by
  have hcmd : (s.beginCmd id w).cmd? j = s.cmd? j := cmd?_updCmd_ne s hne (fun _ => rfl)
  simpa only [Stopped, Stops, Ends, hcmd] using h

/-- The command of an identity is still in flight after a change that adds and removes none. -/
theorem Steady.cmd?_isSome {s t : State} (h : Steady s t) (id : Nat) : (t.cmd? id).isSome = (s.cmd? id).isSome := by
  have hany : ∀ l : List Cmd, (l.find? (fun c => c.id == id)).isSome = (l.map (fun c => c.id)).any (fun i => i == id) := fun l => by
    rw [List.any_map, Bool.eq_iff_iff, List.find?_isSome, List.any_eq_true]
    rfl
  rw [State.cmd?, State.cmd?, hany, hany, h.2.1]

/-! ### ABORT -/

theorem abortStarts_iff {s : State} {id : Nat} {c : Cmd} (h : s.abortStarts id = some c) :
    s.cmd? id = some c ∧ c.op = 0x7F ∧ c.phase = .waiting := by
  unfold State.abortStarts at h
  split at h
  next d hd =>
    simp only [Option.ite_none_right_eq_some, Option.some.injEq, Bool.and_eq_true, decide_eq_true_eq] at h
    obtain ⟨⟨⟨hop, hph⟩, -⟩, rfl⟩ := h
    exact ⟨hd, hop, hph⟩
  next => cases h

theorem doAbort_refused {s : State} {id : Nat} {c : Cmd} (h : s.abortStarts id = some c) (hctx : s.abortCtx c = none) :
    doAbort id s = s.endCmd id St.notPermitted none := by
  unfold doAbort
  rw [h]
  simp only [hctx]

theorem doAbort_every {s : State} {id ctx : Nat} {c : Cmd} (h : s.abortStarts id = some c) (hctx : s.abortCtx c = some ctx)
    (hall : abortAll c.desc = true) : doAbort id s = s.abortEvery c ctx := by
  unfold doAbort
  rw [h]
  simp only [hctx, hall, if_true]

theorem doAbort_one {s : State} {id ctx : Nat} {c : Cmd} (h : s.abortStarts id = some c) (hctx : s.abortCtx c = some ctx)
    (hall : abortAll c.desc = false) : doAbort id s = s.abortOne c ctx := by
  unfold doAbort
  rw [h]
  simp [hctx, hall]

theorem State.markSlots_cmds (s : State) (ctx : Nat) (slots : List Nat) (status : Nat) : (s.markSlots ctx slots status).cmds = s.cmds := by
  simp only [State.markSlots]
  split <;> rfl

theorem State.markSlots_frame (s : State) (ctx : Nat) (slots : List Nat) (status : Nat) :
    s.markSlots ctx slots status = { s with ctxs := (s.markSlots ctx slots status).ctxs } := by
  simp only [State.markSlots]
  split <;> rfl

/-- A slot that is marked is marked; one marked before keeps its first mark (R174). -/
theorem slotMark_markSlots (s : State) (ctx slot status : Nat) : ((s.markSlots ctx [slot] status).slotMark ctx slot).isSome = true := by
  simp only [State.markSlots]
  split
  next hno =>
    have hmarked : ∃ m ∈ (s.aux ctx).marked, m.1 = slot := by simpa using hno
    obtain ⟨m, hm, hslot⟩ := hmarked
    rw [State.slotMark, Option.isSome_map, List.find?_isSome]
    exact ⟨m, hm, by simpa using hslot⟩
  next hyes =>
    rw [State.slotMark, Option.isSome_map, List.find?_isSome]
    have haux : ∀ x : CtxAux, (s.setAux ctx x).aux ctx = x := fun x => by simp [State.aux, State.setAux]
    obtain ⟨x, hx⟩ := List.exists_mem_of_ne_nil _ (mt List.isEmpty_iff.mpr hyes)
    have hslot : x = slot := List.mem_singleton.mp (List.mem_filter.mp hx).1
    subst hslot
    refine ⟨(x, status), ?_, by simp⟩
    rw [haux]
    exact List.mem_append_right _ (List.mem_map_of_mem hx)

/-- The commands of a context that an ABORT with ALL asks to stop. -/
def State.abortIds (s : State) (ctx : Nat) : List Nat :=
  (s.cmds.filter (fun k => decide (k.ctx = ctx) && decide (k.op ≠ 0x7F))).map (fun k => k.id)

theorem abortEvery_none {s : State} {c : Cmd} {ctx : Nat} (hslots : s.submitted ctx = []) (hids : s.abortIds ctx = []) :
    s.abortEvery c ctx = s.endCmd c.id St.alreadyComplete none := by
  rw [State.abortIds] at hids
  simp only [State.abortEvery, hslots, hids]
  rfl

theorem abortEvery_slots {s : State} {c : Cmd} {ctx : Nat} (hslots : s.submitted ctx ≠ []) (hids : s.abortIds ctx = []) :
    s.abortEvery c ctx = (s.markSlots ctx (s.submitted ctx) St.aborted).endCmd c.id St.ok none := by
  rw [State.abortIds] at hids
  simp only [State.abortEvery, hids]
  rw [if_neg (by simpa using hslots)]
  rfl

theorem abortEvery_cmds {s : State} {c : Cmd} {ctx : Nat} (hids : s.abortIds ctx ≠ []) :
    s.abortEvery c ctx = ((s.markSlots ctx (s.submitted ctx) St.aborted).stopAll (s.abortIds ctx) St.aborted).beginCmd c.id
      (.abort (s.abortIds ctx)) := by
  have hne : (s.abortIds ctx).isEmpty = false := by simpa using hids
  have hdef : s.abortEvery c ctx = if (s.submitted ctx).isEmpty && (s.abortIds ctx).isEmpty then s.endCmd c.id St.alreadyComplete none
      else if (s.abortIds ctx).isEmpty then (s.markSlots ctx (s.submitted ctx) St.aborted).endCmd c.id St.ok none
      else ((s.markSlots ctx (s.submitted ctx) St.aborted).stopAll (s.abortIds ctx) St.aborted).beginCmd c.id (.abort (s.abortIds ctx)) := rfl
  rw [hdef, hne, Bool.and_false]
  rfl

/-- After the stops of an ABORT its own command waits for them (R175). -/
theorem abortEvery_works {s : State} {c : Cmd} {ctx id : Nat} (hc : s.cmd? id = some c) (hids : s.abortIds ctx ≠ []) :
    Works (s.abortEvery c ctx) id (.abort (s.abortIds ctx)) := by
  rw [abortEvery_cmds hids, cmd?_id hc]
  refine beginCmd_works ?_ _
  rw [(State.stopAll_steady _ _ _).cmd?_isSome, cmd?_of_cmds (State.markSlots_cmds s _ _ _), hc]
  rfl

/-- The match that an ABORT of one command looks for. -/
def abortHit (c : Cmd) (ctx : Nat) (k : Cmd) : Bool :=
  decide (k.ctx = ctx) && decide (k.slot = dfld c.desc 0x12 2) && decide (dfld k.desc 2 2 = dfld c.desc 0x14 2)

theorem abortOne_hit {s : State} {c k : Cmd} {ctx : Nat} (h : s.cmds.find? (abortHit c ctx) = some k) :
    s.abortOne c ctx = if k.op = 0x7F then s.endCmd c.id St.badDescriptor none
      else (s.stopCmd k.id St.aborted).beginCmd c.id (.abort [k.id]) := by
  unfold abortHit at h
  simp only [State.abortOne, h]

theorem abortOne_miss {s : State} {c : Cmd} {ctx : Nat} (h : s.cmds.find? (abortHit c ctx) = none) :
    s.abortOne c ctx = if (s.submitted ctx).contains (dfld c.desc 0x12 2)
      then (s.markSlots ctx [dfld c.desc 0x12 2] St.aborted).endCmd c.id St.ok none else s.endCmd c.id St.alreadyComplete none := by
  unfold abortHit at h
  simp only [State.abortOne, h]

/-- An ABORT of one command that may be stopped waits for it, and it stops. -/
theorem abortOne_stops {s : State} {c k : Cmd} {id : Nat} (hc : s.cmd? id = some c) (hop : c.op = 0x7F) (hk : s.cmd? k.id = some k)
    (hne : k.op ≠ 0x7F) (hs : k.stoppable = true) :
    Works ((s.stopCmd k.id St.aborted).beginCmd c.id (.abort [k.id])) id (.abort [k.id]) ∧
    Stopped ((s.stopCmd k.id St.aborted).beginCmd c.id (.abort [k.id])) k.id St.aborted := by
  have hdiff : k.id ≠ id := fun heq => by
    rw [heq, hc, Option.some.injEq] at hk
    exact hne (hk ▸ hop)
  rw [cmd?_id hc]
  refine ⟨beginCmd_works ?_ _, (stopCmd_stopped hk hs St.aborted).beginCmd hdiff _⟩
  rw [(State.stopCmd_steady _ _ _).cmd?_isSome, hc]
  rfl

/-- A descriptor that is marked leaves flight by the mark; the ABORT ends at once (R174). -/
theorem abortSlot_ends {s : State} {c : Cmd} {id ctx slot : Nat} (hc : s.cmd? id = some c) (hph : c.phase = .waiting) :
    Ends ((s.markSlots ctx [slot] St.aborted).endCmd c.id St.ok none) id St.ok ∧
    (((s.markSlots ctx [slot] St.aborted).endCmd c.id St.ok none).slotMark ctx slot).isSome = true ∧
    { (s.markSlots ctx [slot] St.aborted).endCmd c.id St.ok none with cmds := s.cmds, ctxs := s.ctxs } = s := by
  have hcmd : (s.markSlots ctx [slot] St.aborted).cmd? id = some c := (cmd?_of_cmds (State.markSlots_cmds s ctx [slot] St.aborted) id).trans hc
  rw [cmd?_id hc]
  refine ⟨endCmd_ends hcmd (fun st since h => by rw [hph] at h; cases h) _ _, slotMark_markSlots s ctx slot St.aborted, ?_⟩
  have hframe := State.markSlots_frame s ctx [slot] St.aborted
  generalize s.markSlots ctx [slot] St.aborted = t at hframe ⊢
  have hend : ({ t.endCmd id St.ok none with cmds := s.cmds, ctxs := s.ctxs } : State) = { t with cmds := s.cmds, ctxs := s.ctxs } := rfl
  rw [hend, hframe]

/-! ### Vigils -/

theorem doVigilExpiry_idle {s : State} {id : Nat} {c : Cmd} (hc : s.cmd? id = some c)
    (h : s.tick < c.vigilEnd ∨ s.flowStopped = true ∨ c.stoppable = false) : doVigilExpiry id s = s := by
  unfold doVigilExpiry
  rw [hc]
  refine if_pos ?_
  simpa [or_assoc] using h

/-- What an expired vigil does to a command that may be stopped (R550–R553). -/
theorem doVigilExpiry_due {s : State} {id : Nat} {c : Cmd} (hc : s.cmd? id = some c) (hdue : c.vigilEnd ≤ s.tick)
    (hflow : s.flowStopped = false) (hs : c.stoppable = true) : doVigilExpiry id s =
      if c.replayed then (if c.holdsUnits then (s.noteExpiry c).vigilDossier 5 c else s.noteExpiry c).stopCmd id St.guilty
      else if c.holdsUnits then ((s.noteExpiry c).vigilDossier 0 c).stopCmd id St.timeout
      else (s.noteExpiry c).stopCmd id St.timeout := by
  unfold doVigilExpiry
  rw [hc]
  exact if_neg (by simp [Nat.not_lt.mpr hdue, hflow, hs])

/-- A command that holds no unit has stopped once it is asked to (R173). -/
theorem stopCmd_ends {s : State} {id : Nat} {c : Cmd} (hc : s.cmd? id = some c) (hs : c.stoppable = true) (hu : c.holdsUnits = false)
    (st : Nat) : Ends (s.stopCmd id st) id st := by
  rw [stopCmd_cmd hc hs]
  obtain ⟨d, hd, hkept⟩ := stopUnits_kept s id c.work id c hc
  generalize s.stopUnits id c.work = t at hd ⊢
  refine ⟨_, cmd?_updCmd_same hd (Cmd.asked_id t.tick st), ?_⟩
  rw [Cmd.asked, if_neg (by simp [hkept.holdsUnits hu])]

theorem cmd?_noteExpiry (s : State) (c : Cmd) (id : Nat) : (s.noteExpiry c).cmd? id = s.cmd? id := by
  rw [State.noteExpiry, State.event_read_cmd]
  exact cmd?_of_cmds rfl id

/-! ### Overruns -/

theorem doAbortOverrun_early {s : State} {id : Nat} {c : Cmd} {ts : List Nat} (hc : s.cmd? id = some c) (hph : c.phase = .running)
    (hw : c.work = .abort ts) (h : s.tick < c.fetched + 25000) : doAbortOverrun id s = s := by
  unfold doAbortOverrun
  rw [hc]
  simp only [hph, hw]
  exact if_pos h

theorem doAbortOverrun_due {s : State} {id t since : Nat} {c k : Cmd} (hc : s.cmd? id = some c) (hph : c.phase = .running)
    (hw : c.work = .abort [t]) (h : c.fetched + 25000 ≤ s.tick) (hk : s.cmd? t = some k) (hkph : k.phase = .stopping St.aborted since) :
    doAbortOverrun id s =
      ((s.noteExpiry k).vigilDossier 0 k).updCmd t (fun x => { x with phase := .stopping St.timeout since }) := by
  unfold doAbortOverrun
  rw [hc]
  simp only [hph, hw]
  rw [if_neg (Nat.not_lt.mpr h), List.foldl_cons, List.foldl_nil, hk]
  simp only [hkph]
  exact if_pos trivial

theorem vigilNoted_stops {s : State} {t since : Nat} {k : Cmd} (hk : s.cmd? t = some k) :
    Stops (((s.noteExpiry k).vigilDossier 0 k).updCmd t (fun x => { x with phase := .stopping St.timeout since })) t St.timeout := by
  obtain ⟨d, hd, -⟩ := PhasesKept.vigilNoted s k 0 t k hk
  exact ⟨_, since, cmd?_updCmd_same hd (fun _ => rfl), rfl⟩

/-- A stop that has lasted its time reaches the reset of what has not stopped (R554). -/
theorem doStopOverrun_stopping {s : State} {id st since : Nat} {c : Cmd} (hc : s.cmd? id = some c) (hph : c.phase = .stopping st since)
    (kind unit : Nat) : doStopOverrun id kind unit s =
      if s.tick < since + 25000 then s
      else if kind = 1 then (if (s.cmdCores c).contains unit
        then s.reachReset 2 unit 1 (some c) (some (c.id, 1, unit)) (s.suspectsOf unit c st since) else s)
      else if 2 ≤ kind && decide (kind ≤ 4) then s.reachReset 4 0 1 (some c) (some (c.id, kind, 0)) [] else s := by
  unfold doStopOverrun
  rw [hc]
  simp only [hph]

theorem doSelftestDeadline_eq {s : State} {id : Nat} {c : Cmd} (hc : s.cmd? id = some c) (hop : c.op = 0x80) (htest : stTest c.desc ≤ 1)
    (hph : c.phase = .waiting) (hd : stDeadline c.desc ≠ 0) : doSelftestDeadline id s =
      if c.fetched + 25000 * stDeadline c.desc ≤ s.tick then s.endCmd id St.deferred none else s := by
  unfold doSelftestDeadline
  rw [hc]
  simp [hop, htest, hph, hd]

end Sys2Proof.Machine

namespace Sys2Proof.Proofs
open Sys2Proof.Machine

/-- ABORT's part of O35. -/
theorem aborts (s : State) (id ctx : Nat) (c : Cmd) (h : s.abortStarts id = some c) :
    (s.abortCtx c = none → Becomes (.abort id) s (s.endCmd id St.notPermitted none) ∧
      Completes (.abort id) s (fun x => Ends x id St.notPermitted ∧ { x with cmds := s.cmds } = s)) ∧
    (s.abortCtx c = some ctx → abortAll c.desc = true →
      (s.submitted ctx = [] → s.abortIds ctx = [] → Becomes (.abort id) s (s.endCmd c.id St.alreadyComplete none)) ∧
      (s.abortIds ctx ≠ [] → Becomes (.abort id) s
          (((s.markSlots ctx (s.submitted ctx) St.aborted).stopAll (s.abortIds ctx) St.aborted).beginCmd c.id (.abort (s.abortIds ctx))) ∧
        Completes (.abort id) s (fun x => Works x id (.abort (s.abortIds ctx)))) ∧
      (s.submitted ctx ≠ [] → s.abortIds ctx = [] →
        Becomes (.abort id) s ((s.markSlots ctx (s.submitted ctx) St.aborted).endCmd c.id St.ok none))) ∧
    (s.abortCtx c = some ctx → abortAll c.desc = false →
      (∀ k, s.cmds.find? (abortHit c ctx) = some k →
        (k.op = 0x7F → Becomes (.abort id) s (s.endCmd c.id St.badDescriptor none)) ∧
        (k.op ≠ 0x7F → Becomes (.abort id) s ((s.stopCmd k.id St.aborted).beginCmd c.id (.abort [k.id])) ∧
          (s.cmd? k.id = some k → k.stoppable = true → Completes (.abort id) s (fun x => Works x id (.abort [k.id]) ∧
            (Stops x k.id St.aborted ∨ Ends x k.id St.aborted))))) ∧
      (s.cmds.find? (abortHit c ctx) = none → (s.submitted ctx).contains (dfld c.desc 0x12 2) = true →
        Becomes (.abort id) s ((s.markSlots ctx [dfld c.desc 0x12 2] St.aborted).endCmd c.id St.ok none) ∧
        Completes (.abort id) s (fun x => Ends x id St.ok ∧ (x.slotMark ctx (dfld c.desc 0x12 2)).isSome = true ∧
          { x with cmds := s.cmds, ctxs := s.ctxs } = s)) ∧
      (s.cmds.find? (abortHit c ctx) = none → (s.submitted ctx).contains (dfld c.desc 0x12 2) = false →
        Becomes (.abort id) s (s.endCmd c.id St.alreadyComplete none))) := by
  obtain ⟨hc, hop, hph⟩ := abortStarts_iff h
  have hrow {t : State} (ht : doAbort id s = t) : Becomes (.abort id) s t := becomes_of (exec_abort id s) rfl ht
  refine ⟨fun hctx => ?_, fun hctx hall => ⟨fun hslots hids => ?_, fun hids => ?_, fun hslots hids => ?_⟩,
    fun hctx hall => ⟨fun k hk => ⟨fun hk7 => ?_, fun hk7 => ⟨?_, fun hfirst hs => ?_⟩⟩, fun hk hsub => ?_, fun hk hsub => ?_⟩⟩
  · have hrun := hrow (doAbort_refused h hctx)
    exact ⟨hrun, hrun.completes ⟨endCmd_ends hc (fun st since hst => by rw [hph] at hst; cases hst) _ _, rfl⟩⟩
  · exact hrow ((doAbort_every h hctx hall).trans (abortEvery_none hslots hids))
  · refine ⟨hrow ((doAbort_every h hctx hall).trans (abortEvery_cmds hids)), (hrow (doAbort_every h hctx hall)).completes ?_⟩
    exact abortEvery_works hc hids
  · exact hrow ((doAbort_every h hctx hall).trans (abortEvery_slots hslots hids))
  · exact hrow ((doAbort_one h hctx hall).trans ((abortOne_hit hk).trans (if_pos hk7)))
  · exact hrow ((doAbort_one h hctx hall).trans ((abortOne_hit hk).trans (if_neg hk7)))
  · exact (hrow ((doAbort_one h hctx hall).trans ((abortOne_hit hk).trans (if_neg hk7)))).completes
      (abortOne_stops hc hop hfirst hk7 hs)
  · have hdo := (doAbort_one h hctx hall).trans ((abortOne_miss hk).trans (if_pos hsub))
    refine ⟨hrow hdo, completes_of (exec_abort id s) rfl ?_⟩
    have hpend : ((s.markSlots ctx [dfld c.desc 0x12 2] St.aborted).endCmd c.id St.ok none).pending = s.pending :=
      (congrArg State.pending (State.markSlots_frame s ctx [dfld c.desc 0x12 2] St.aborted)).trans rfl
    rw [hdo, withQueue_self hpend]
    exact abortSlot_ends hc hph
  · exact hrow ((doAbort_one h hctx hall).trans ((abortOne_miss hk).trans (if_neg (by rw [hsub]; decide))))

/-- Settles O35: each row is a branch of its definition, and what it asks to stop stops (`stopCmd_stopped`, `stopAll_stopped`). -/
theorem abortsAndOverruns : Obligations.AbortsAndOverruns := by
  unfold Obligations.AbortsAndOverruns
  refine ⟨aborts, fun s id c hc => ⟨fun ts hph hw => ⟨fun hearly => ?_, fun t k since hts hdue hk hkph => ?_⟩, fun hidle => ?_,
    fun hdue hflow hs hrep => ⟨fun hu => ⟨?_, fun k hk hks => ?_⟩, fun hu => ?_⟩,
    fun hdue hflow hs hrep => ⟨fun hu => ⟨?_, fun k hk hks => ?_⟩, fun hu => ?_⟩,
    fun st since unit kind hph => ⟨fun hearly => ?_, fun hdue => ⟨fun hcore => ⟨?_, fun hunit hjobs => ?_⟩, fun h2 h4 => ⟨?_, fun hjobs hst => ?_⟩⟩⟩,
    fun hop htest hph hd => ⟨fun hdue => ?_, fun hearly => ?_⟩⟩⟩
  · exact becomes_of (exec_abortOverrun id s) rfl (doAbortOverrun_early hc hph hw hearly)
  · subst hts
    have hrun := becomes_of (exec_abortOverrun id s) rfl (doAbortOverrun_due hc hph hw hdue hk hkph)
    exact ⟨hrun, hrun.completes (vigilNoted_stops hk)⟩
  · exact becomes_of (exec_vigilExpiry id s) rfl (doVigilExpiry_idle hc hidle)
  · exact becomes_of (exec_vigilExpiry id s) rfl (by rw [doVigilExpiry_due hc hdue hflow hs, hrep, hu]; rfl)
  · refine (becomes_of (exec_vigilExpiry id s) rfl (by rw [doVigilExpiry_due hc hdue hflow hs, hrep, hu])).completes ?_
    exact stopCmd_stopped hk hks St.timeout
  · have hrun : Becomes (.vigilExpiry id) s ((s.noteExpiry c).stopCmd id St.timeout) :=
      becomes_of (exec_vigilExpiry id s) rfl (by rw [doVigilExpiry_due hc hdue hflow hs, hrep, hu]; rfl)
    exact ⟨hrun, hrun.completes (stopCmd_ends ((cmd?_noteExpiry s c id).trans hc) hs hu St.timeout)⟩
  · exact becomes_of (exec_vigilExpiry id s) rfl (by rw [doVigilExpiry_due hc hdue hflow hs, hrep, hu]; rfl)
  · refine (becomes_of (exec_vigilExpiry id s) rfl (by rw [doVigilExpiry_due hc hdue hflow hs, hrep, hu])).completes ?_
    exact stopCmd_stopped hk hks St.guilty
  · have hrun : Becomes (.vigilExpiry id) s ((s.noteExpiry c).stopCmd id St.guilty) :=
      becomes_of (exec_vigilExpiry id s) rfl (by rw [doVigilExpiry_due hc hdue hflow hs, hrep, hu]; rfl)
    exact ⟨hrun, hrun.completes (stopCmd_ends ((cmd?_noteExpiry s c id).trans hc) hs hu St.guilty)⟩
  · exact becomes_of (exec_stopOverrun id kind unit s) rfl ((doStopOverrun_stopping hc hph kind unit).trans (if_pos hearly))
  · exact becomes_of (exec_stopOverrun id 1 unit s) rfl ((doStopOverrun_stopping hc hph 1 unit).trans
      (by rw [if_neg (Nat.not_lt.mpr hdue), if_pos rfl, if_pos hcore]))
  · refine completes_of (exec_stopOverrun id 1 unit s) rfl ?_
    rw [doStopOverrun_stopping hc hph 1 unit, if_neg (Nat.not_lt.mpr hdue), if_pos rfl, if_pos hcore, reachReset_free (heldByCommit_narrow s)]
    exact beginReset_begins (by simp [hjobs]) (fun _ => hunit) (by omega) _ _ _ _
  · exact becomes_of (exec_stopOverrun id kind unit s) rfl ((doStopOverrun_stopping hc hph kind unit).trans
      (by rw [if_neg (Nat.not_lt.mpr hdue), if_neg (by omega), if_pos (by simp; omega)]))
  · refine completes_of (exec_stopOverrun id kind unit s) rfl ?_
    rw [doStopOverrun_stopping hc hph kind unit, if_neg (Nat.not_lt.mpr hdue), if_neg (by omega), if_pos (by simp; omega),
      reachReset_free (heldByCommit_free hst 4)]
    exact beginReset_begins (by simp [hjobs]) (by omega) (by omega) _ _ _ _
  · have hrun := becomes_of (exec_selftestDeadline id s) rfl ((doSelftestDeadline_eq hc hop htest hph hd).trans (if_pos hdue))
    exact ⟨hrun, hrun.completes ⟨endCmd_ends hc (fun st since hst => by rw [hph] at hst; cases hst) _ _, rfl⟩⟩
  · exact becomes_of (exec_selftestDeadline id s) rfl ((doSelftestDeadline_eq hc hop htest hph hd).trans (if_neg (by omega)))

end Sys2Proof.Proofs
end

section
/-! PROOF. REGISTER enters a table length in pages of 16 tokens, not the descriptor's MAX_TOKENS (R373). -/
namespace Sys2Proof.Machine

/-- A module after reset under an image that lets polder 0 register a sequence, and nothing else. -/
def registering : State := { State.reset with image := some {
  polders := [], counters := [], trees := [], grants := [], formats := [], templates := [], nbuCode := [], rules := [],
  attn := [⟨0, 1, 1, 1, 1, 1, 1⟩], locals := [], peers := [], cascade := [], power := [], group := false, member := 0, digest := 0, serial := 1 } }

/-- A KV_PAGE_OP whose MAX_TOKENS, the four bytes at 0x38, is 2 and whose other fields are 0. -/
def registerTwo : Cmd := {
  id := 1, ctx := 0, slot := 0, desc := BitVec.ofNat 512 (2 ^ 449), fetched := 0, vigilFrom := 0, vigilMs := 0, roundDefault := 0,
  phase := .running, warn := 0, wrote := false, errAddr := none, errMem := false, quiesced := false, replayed := false, work := .none }

/-- A REGISTER of a sequence of two tokens meets no failure, and answers one table entry. -/
theorem kvRegister_registerTwo : (match Run.kvRegister registerTwo 0 registering with
    | .ok v _ => decide (v = 1)
    | .error _ _ => false) = true := by decide +kernel

end Sys2Proof.Machine

namespace Sys2Proof.Proofs
open Sys2Proof.Machine

/-- Refutes O28: its clause on REGISTER says that the sequence has as many table entries as the descriptor's MAX_TOKENS (`Seq.entries`),
and a table entry holds a page of 16 tokens. A REGISTER of two tokens enters one, so the sequence's entries cannot be both 2 and the
result 1; every other clause is about other fields. -/
theorem not_pagesAndSequences : ¬ Obligations.PagesAndSequences := by
  unfold Obligations.PagesAndSequences
  intro h
  have hgoes := kvRegister_registerTwo
  cases hrun : Run.kvRegister registerTwo 0 registering with
  | ok v t =>
    rw [hrun] at hgoes
    have hone : v = 1 := of_decide_eq_true hgoes
    obtain ⟨hregister, -⟩ := h.2 registerTwo 0 v registering t
    obtain ⟨-, q, -, -, -, hentries, -, hresult⟩ := hregister hrun
    have htwo : dfld registerTwo.desc 0x38 4 = 2 := by decide +kernel
    omega
  | error e t =>
    rw [hrun] at hgoes
    cases hgoes

end Sys2Proof.Proofs
end

section
/-! PROOF. The fetch of a descriptor, the commit of a command, and the interrupt hold (R150–R163). -/
namespace Sys2Proof.Machine

/-! ### DESCRIPTOR_FETCH -/

theorem doDescriptorFetch_readable {s : State} {ctx : Nat} {env : Env} (hf : (s.arrive env).fetchable ctx = true)
    (hmap : (s.arrive env).hostMapped ((s.arrive env).sqBase ctx + 64 * (s.arrive env).sqHead ctx) 64 = true)
    (hclean : (s.arrive env).hostClean ((s.arrive env).sqBase ctx + 64 * (s.arrive env).sqHead ctx) 64 = true) :
    doDescriptorFetch ctx env s = (s.arrive env).fetch ctx
      (BitVec.ofNat 512 (leNat ((s.arrive env).host.mem.read ((s.arrive env).sqBase ctx + 64 * (s.arrive env).sqHead ctx) 64))) := by
  unfold doDescriptorFetch
  simp only [hf, hmap, hclean]
  rfl

theorem doDescriptorFetch_unreadable {s : State} {ctx : Nat} {env : Env} (hf : (s.arrive env).fetchable ctx = true)
    (h : ((s.arrive env).hostMapped ((s.arrive env).sqBase ctx + 64 * (s.arrive env).sqHead ctx) 64 &&
      (s.arrive env).hostClean ((s.arrive env).sqBase ctx + 64 * (s.arrive env).sqHead ctx) 64) = false) :
    doDescriptorFetch ctx env s = (s.arrive env).ringFault ctx ((s.arrive env).sqBase ctx + 64 * (s.arrive env).sqHead ctx) 1 := by
  unfold doDescriptorFetch
  simp only [hf, h]
  rfl

theorem doDescriptorFetch_idle {s : State} {ctx : Nat} {env : Env} (hf : (s.arrive env).fetchable ctx = false) :
    doDescriptorFetch ctx env s = s.arrive env := by
  unfold doDescriptorFetch
  simp only [hf]
  rfl

/-- A descriptor that no ABORT marked and that passes its checks stays in flight; another commits at once (R152, R157, R174). -/
theorem fetch_ok {s : State} {ctx : Nat} {d : Desc} (hm : s.slotMark ctx (s.newCmd ctx d).slot = none)
    (hok : (s.takeSlot ctx (s.newCmd ctx d)).fetchCheck (s.newCmd ctx d) = St.ok) : s.fetch ctx d = s.takeSlot ctx (s.newCmd ctx d) := by
  simp only [State.fetch, hm]
  exact if_pos hok

theorem fetch_fails {s : State} {ctx : Nat} {d : Desc} (hm : s.slotMark ctx (s.newCmd ctx d).slot = none)
    (hok : (s.takeSlot ctx (s.newCmd ctx d)).fetchCheck (s.newCmd ctx d) ≠ St.ok) : s.fetch ctx d =
      (s.takeSlot ctx (s.newCmd ctx d)).commit (s.newCmd ctx d) ((s.takeSlot ctx (s.newCmd ctx d)).fetchCheck (s.newCmd ctx d)) := by
  simp only [State.fetch, hm]
  exact if_neg hok

theorem fetch_marked {s : State} {ctx st : Nat} {d : Desc} (hm : s.slotMark ctx (s.newCmd ctx d).slot = some st) :
    s.fetch ctx d = (s.takeSlot ctx (s.newCmd ctx d)).commit (s.newCmd ctx d) st := by
  simp only [State.fetch, hm]

/-- What a fetch does before its checks: the command joins those in flight and the ring's head advances. -/
theorem takeSlot_takes (s : State) (ctx : Nat) (c : Cmd) :
    (s.takeSlot ctx c).cmds = s.cmds ++ [c] ∧ (s.takeSlot ctx c).nextId = s.nextId + 1 ∧
    (s.takeSlot ctx c).sqHead ctx = (s.sqHead ctx + 1) % s.sqSize ctx % 2 ^ 16 ∧
    (∀ r, r ≠ Reg.ctxSqHead ctx → r ≠ Reg.ctxStatus ctx → (s.takeSlot ctx c).reg r = s.reg r) ∧
    { s.takeSlot ctx c with cmds := s.cmds, nextId := s.nextId, regs := s.regs, ctxs := s.ctxs, arbs := s.arbs } = s := by
  refine ⟨rfl, rfl, ?_, fun r hhead hstatus => ?_, ?_⟩
  · unfold State.takeSlot State.sqHead State.stallFlag
    rw [State.fld_setBit_ne _ _ (.inl (by simp only [Reg.ctxSqHead, Reg.ctxStatus]; omega))]
    exact State.fld_setFld_same s (Reg.ctxSqHead ctx) 15 0 _ (by decide) (by decide)
  · unfold State.takeSlot State.stallFlag
    rw [State.reg_setBit_ne _ _ _ hstatus]
    exact State.reg_setFld_ne s _ _ _ hhead
  · simp only [State.takeSlot, State.stallFlag, State.setBit, State.setReg, State.setAux, State.setFld]

/-! ### The commit of a command with nothing under way -/

/-- What a commit may change before it writes its record, of a command with nothing under way in this context. -/
def BeforeRecord (ctx : Nat) (s t : State) : Prop :=
  t = { s with freeCtr := t.freeCtr, regs := t.regs, alm := t.alm, nvm := t.nvm, parity := t.parity, out := t.out, cnts := t.cnts, cores := t.cores,
               nbuReady := t.nbuReady, fab := t.fab, resets := { s.resets with spans := t.resets.spans } } ∧
  ∀ a, a ≠ Reg.ctxErrAddrLo ctx → a ≠ Reg.ctxErrAddrHi ctx → a ≠ Reg.ctxStatus ctx → a ≠ Reg.almLost → a ≠ Reg.almStatus → t.reg a = s.reg a

theorem BeforeRecord.refl (ctx : Nat) (s : State) : BeforeRecord ctx s s := ⟨rfl, fun _ _ _ _ _ _ => rfl⟩

theorem BeforeRecord.trans {ctx : Nat} {s t u : State} (h : BeforeRecord ctx s t) (k : BeforeRecord ctx t u) : BeforeRecord ctx s u := by
  refine ⟨?_, fun a h1 h2 h3 h4 h5 => (k.2 a h1 h2 h3 h4 h5).trans (h.2 a h1 h2 h3 h4 h5)⟩
  obtain ⟨h, -⟩ := h; obtain ⟨k, -⟩ := k
  rw [k]; simp only; rw [h]

/-- A change that touches no register. -/
theorem BeforeRecord.of_same {ctx : Nat} {s t : State}
    (h : t = { s with freeCtr := t.freeCtr, cnts := t.cnts, cores := t.cores, nbuReady := t.nbuReady, fab := t.fab, resets := { s.resets with spans := t.resets.spans } }) :
    BeforeRecord ctx s t := by
  rw [h]
  exact ⟨rfl, fun _ _ _ _ _ _ => rfl⟩

theorem BeforeRecord.event (ctx : Nat) (s : State) (code : Nat) (src : Nat × Nat) (k : Option Nat) (data : Nat) :
    BeforeRecord ctx s (s.event code src k data) := by
  obtain ⟨hframe, hreg⟩ := s.event_frame code src k data
  refine ⟨?_, fun a _ _ _ h4 h5 => hreg a h4 h5⟩
  rw [hframe]

theorem BeforeRecord.noteError (s : State) (c : Cmd) (st a : Nat) : BeforeRecord c.ctx s (s.noteError c st a) := by
  have hregs : ∀ v w x, BeforeRecord c.ctx s (((s.setNat (Reg.ctxErrAddrLo c.ctx) v).setNat (Reg.ctxErrAddrHi c.ctx) w).setBit
      (Reg.ctxStatus c.ctx) 19 x) := fun v w x => by
    refine ⟨rfl, fun r h1 h2 h3 _ _ => ?_⟩
    rw [State.reg_setBit_ne _ _ _ h3, State.reg_setNat_ne _ _ h2, State.reg_setNat_ne _ _ h1]
  simp only [State.noteError]
  split
  · exact hregs _ _ _
  · exact (hregs _ _ _).trans (.event _ _ _ _ _ _)

/-- The release of a command without work that has no sequence on an NBU. -/
theorem BeforeRecord.releaseWork {s : State} {c : Cmd} (hw : c.work = .none) (hseq : s.seqsOf c.id = []) (ok : Bool) :
    BeforeRecord c.ctx s (s.releaseWork c ok) := by
  have hwait : c.waitsOn (dbyte c.desc 0x11) = false := by simp [Cmd.waitsOn, hw]
  have hclear : (s.clearArray c.id).seqsOf c.id = [] := hseq
  have hrelease : (s.clearArray c.id).releaseNbus c.id = { s.clearArray c.id with nbuReady := s.nbuReady.filter (· != c.id) } := by
    rw [State.releaseNbus, hclear]
    rfl
  have hspan : ∀ t : State, BeforeRecord c.ctx t (t.spanEnd c.id) := by
    intro t
    simp only [State.spanEnd]
    have hcount : ∀ (l : List Span) (u : State), BeforeRecord c.ctx u (l.foldl (fun (s : State) x => s.countSeam x.core) u) := by
      intro l
      induction l with
      | nil => exact .refl _
      | cons x l ih =>
        intro u
        rw [List.foldl_cons]
        exact (BeforeRecord.of_same (t := u.countSeam x.core) rfl).trans (ih _)
    have h := hcount (t.resets.spans.filter (fun x => decide (x.cmd = c.id) && x.till.isNone)) t
    generalize (t.resets.spans.filter (fun x => decide (x.cmd = c.id) && x.till.isNone)).foldl
      (fun (s : State) x => s.countSeam x.core) t = u at h ⊢
    exact h.trans (.of_same rfl)
  unfold State.releaseWork
  simp only [hw, hwait, Bool.false_and, Bool.false_eq_true, if_false, hrelease]
  exact (BeforeRecord.of_same (t := { s.clearArray c.id with nbuReady := s.nbuReady.filter (· != c.id) }) rfl).trans
    ((BeforeRecord.of_same rfl).trans (hspan _))

/-- The state in which the record of a command with nothing under way is written. -/
def State.recordState (s : State) (c : Cmd) (st warn : Nat) : State :=
  let t := match c.errAddr with
    | some a => s.noteError c st a
    | none => s
  let t := (t.optCommit c st warn).releaseWork c (decide (st = St.ok))
  if st = St.ok then t.okCommit c else t

theorem recordState_before {s : State} {c : Cmd} (hw : c.work = .none) (hseq : s.seqsOf c.id = []) (h20 : c.op ≠ 0x20) (h30 : c.op ≠ 0x30)
    (h70 : c.op ≠ 0x70) (st warn : Nat) : BeforeRecord c.ctx s (s.recordState c st warn) := by
  have hnote : BeforeRecord c.ctx s (match c.errAddr with
      | some a => s.noteError c st a
      | none => s) := by
    split
    · exact .noteError _ _ _ _
    · exact .refl _ _
  unfold State.recordState
  generalize (match c.errAddr with
      | some a => s.noteError c st a
      | none => s) = t at hnote ⊢
  have hseqs : t.seqsOf c.id = [] := by
    rw [State.seqsOf, (congrArg State.nbus hnote.1).trans rfl]
    exact hseq
  have hopt : t.optCommit c st warn = t := by simp [State.optCommit, h20, hw]
  have hok : ∀ u : State, BeforeRecord c.ctx u (if st = St.ok then u.okCommit c else u) := by
    intro u
    split
    · simp only [State.okCommit, if_neg h30, if_neg h70]
      split
      · exact .of_same rfl
      · exact .refl _ _
    · exact .refl _ _
  simp only [hopt]
  exact (hnote.trans (.releaseWork hw hseqs _)).trans (hok _)

/-! ### After the record -/

/-- What a commit may change after it has written its record, where nothing waits for it. -/
def AfterRecord (s t : State) : Prop := t.host = s.host ∧ t.mem = s.mem ∧ t.resets = s.resets ∧ t.cmds = s.cmds

theorem State.advanceCq_after (s : State) (ctx : Nat) : AfterRecord s (s.advanceCq ctx) ∧ (s.advanceCq ctx).ctxs = s.ctxs := by
  simp only [State.advanceCq]
  split <;> exact ⟨⟨rfl, rfl, rfl, rfl⟩, rfl⟩

theorem State.msix_after (s : State) (fn vec : Nat) : AfterRecord s (s.msix fn vec) ∧ (s.msix fn vec).ctxs = s.ctxs := by
  unfold State.msix
  split <;> exact ⟨⟨rfl, rfl, rfl, rfl⟩, rfl⟩

theorem State.aux_setAux (s : State) (ctx : Nat) (x : CtxAux) : (s.setAux ctx x).aux ctx = x := by
  simp [State.aux, State.setAux]

theorem AfterRecord.trans {s t u : State} (h : AfterRecord s t) (k : AfterRecord t u) : AfterRecord s u := by
  obtain ⟨h1, h2, h3, h4⟩ := h
  obtain ⟨k1, k2, k3, k4⟩ := k
  exact ⟨k1.trans h1, k2.trans h2, k3.trans h3, k4.trans h4⟩

/-- An interrupt sent or a record counted leaves the reset asked for of the context as it was. -/
theorem State.sendIrq_after (s : State) (ctx : Nat) :
    AfterRecord s (s.sendIrq ctx) ∧ ((s.sendIrq ctx).aux ctx).resetting = (s.aux ctx).resetting := by
  obtain ⟨hafter, hctxs⟩ := State.msix_after (s.setAux ctx { s.aux ctx with unsignalled := 0, firstUnsig := none }) (s.fnOf ctx)
    (s.fld (Reg.ctxIrq ctx) 10 0)
  refine ⟨hafter, ?_⟩
  rw [State.sendIrq, State.aux, hctxs, ← State.aux, State.aux_setAux]

theorem State.irqAfter_after (s : State) (ctx : Nat) (wants : Bool) :
    AfterRecord s (s.irqAfter ctx wants) ∧ ((s.irqAfter ctx wants).aux ctx).resetting = (s.aux ctx).resetting := by
  simp only [State.irqAfter]
  generalize hx : ({ s.aux ctx with unsignalled := (s.aux ctx).unsignalled + 1, firstUnsig := some ((s.aux ctx).firstUnsig.getD s.tick) }
    : CtxAux) = x
  have hcount : AfterRecord s (s.setAux ctx x) ∧ ((s.setAux ctx x).aux ctx).resetting = (s.aux ctx).resetting := by
    refine ⟨⟨rfl, rfl, rfl, rfl⟩, ?_⟩
    rw [State.aux_setAux, ← hx]
  split
  · obtain ⟨hafter, hreset⟩ := State.sendIrq_after (s.setAux ctx x) ctx
    exact ⟨hcount.1.trans hafter, hreset.trans hcount.2⟩
  · exact hcount

/-- The end of a commit, of a command that nothing waits for: it leaves flight, and memories stay. -/
def State.leaveFlight (s : State) (c : Cmd) : State :=
  { s with cmds := s.cmds.filter (fun (k : Cmd) => k.id != c.id), nbuReady := s.nbuReady.filter (· != c.id) }

theorem abortsTold_cmds (s : State) (id : Nat) :
    (s.abortsTold id).cmds.length = s.cmds.length ∧ ((s.abortsTold id).cmds.map (fun c => c.id)) = s.cmds.map (fun c => c.id) := by
  refine ⟨by simp [State.abortsTold], ?_⟩
  simp only [State.abortsTold, List.map_map]
  refine List.map_congr_left fun c _ => ?_
  simp only [Function.comp]
  split
  · split <;> rfl
  · rfl

/-- Without a reset of its context or a replay, the commit of a command ends here. -/
theorem commitTail (s : State) (c : Cmd) (st : Nat) (hreset : (s.aux c.ctx).resetting = none) (hreplay : s.resets.replay = none) :
    (((((s.leaveFlight c).abortsTold c.id).stallFlag c.ctx).contextResetCheck c.ctx).guiltyEnd c st).replayCheck =
      ((s.leaveFlight c).abortsTold c.id).stallFlag c.ctx := by
  have haux : (((((s.leaveFlight c).abortsTold c.id).stallFlag c.ctx)).aux c.ctx).resetting = none := hreset
  have hcheck : (((s.leaveFlight c).abortsTold c.id).stallFlag c.ctx).contextResetCheck c.ctx =
      ((s.leaveFlight c).abortsTold c.id).stallFlag c.ctx := by
    unfold State.contextResetCheck
    rw [haux]
  have hnone : (((s.leaveFlight c).abortsTold c.id).stallFlag c.ctx).resets.replay = none := hreplay
  rw [hcheck]
  unfold State.guiltyEnd
  rw [hnone]
  unfold State.replayCheck
  simp only [hnone]

/-- The warnings of a record: a command that failed after it had written something has done so in part (R159). -/
def Cmd.lastWarn (c : Cmd) (st : Nat) : Nat := if decide (st ≠ St.ok) && c.wrote then setWarn c.warn Wn.isPartial else c.warn

/-- Predicates that agree on a list find the same in it. -/
theorem find?_of_agree {α : Type} {p q : α → Bool} {l : List α} (h : ∀ x ∈ l, p x = q x) : l.find? p = l.find? q := by
  induction l with
  | nil => rfl
  | cons x l ih =>
    simp only [List.find?_cons, h x (.head _)]
    rw [ih fun y hy => h y (.tail _ hy)]

/-- The state before a record is written reads as the one the commit began in. -/
theorem BeforeRecord.reads {s t : State} {c : Cmd} (h : BeforeRecord c.ctx s t) (hctx : c.ctx < 4096) :
    t.cqBase c.ctx = s.cqBase c.ctx ∧ t.cqTail c.ctx = s.cqTail c.ctx ∧ t.fnOf c.ctx = s.fnOf c.ctx ∧
    ∀ st warn detail, t.recordOf c st warn detail = s.recordOf c st warn detail := by
  obtain ⟨hframe, hreg⟩ := h
  have htick : t.tick = s.tick := (congrArg State.tick hframe).trans rfl
  have hpcie : t.pcie = s.pcie := (congrArg State.pcie hframe).trans rfl
  have hlow : ∀ a, a < 0x500000 → a ≠ Reg.ctxErrAddrLo c.ctx → a ≠ Reg.ctxErrAddrHi c.ctx → a ≠ Reg.ctxStatus c.ctx → t.reg a = s.reg a :=
    fun a ha h1 h2 h3 => hreg a h1 h2 h3 (by simp only [Reg.almLost]; omega) (by simp only [Reg.almStatus]; omega)
  have hlo : t.reg (Reg.ctxCqBaseLo c.ctx) = s.reg (Reg.ctxCqBaseLo c.ctx) := by
    apply hlow <;> simp only [Reg.ctxCqBaseLo, Reg.ctxErrAddrLo, Reg.ctxErrAddrHi, Reg.ctxStatus] <;> omega
  have hhi : t.reg (Reg.ctxCqBaseHi c.ctx) = s.reg (Reg.ctxCqBaseHi c.ctx) := by
    apply hlow <;> simp only [Reg.ctxCqBaseHi, Reg.ctxErrAddrLo, Reg.ctxErrAddrHi, Reg.ctxStatus] <;> omega
  have htail : t.reg (Reg.ctxCqTail c.ctx) = s.reg (Reg.ctxCqTail c.ctx) := by
    apply hlow <;> simp only [Reg.ctxCqTail, Reg.ctxErrAddrLo, Reg.ctxErrAddrHi, Reg.ctxStatus] <;> omega
  have hrange : ∀ v, v < 64 → t.inRange v c.ctx = s.inRange v c.ctx := fun v hv => by
    have hfn : t.reg (Reg.fnRange v) = s.reg (Reg.fnRange v) := by
      apply hlow <;> simp only [Reg.fnRange, Reg.ctxErrAddrLo, Reg.ctxErrAddrHi, Reg.ctxStatus] <;> omega
    have hr : t.fnRange v = s.fnRange v := by simp only [State.fnRange, State.fld, hfn]
    rw [State.inRange, State.inRange, hr, hpcie]
  refine ⟨by rw [State.cqBase, State.cqBase, State.fld, State.fld, hlo, hhi]; rfl, by rw [State.cqTail, State.fld, htail]; rfl, ?_, fun st warn detail => ?_⟩
  · simp only [State.fnOf]
    congr 1
    refine find?_of_agree fun v hv => hrange v (List.mem_range.mp hv)
  · simp only [State.recordOf, htick, State.fld, htail]

/-- A commit of a command with nothing under way writes its record of 16 bytes to host memory and leaves flight (R158–R160). -/
theorem commit_writes {s : State} {c : Cmd} {st : Nat} (hctx : c.ctx < 4096) (hw : c.work = .none) (h20 : c.op ≠ 0x20) (h30 : c.op ≠ 0x30)
    (h70 : c.op ≠ 0x70) (hsent : SMap.get (fun _ => false) s.sentinel (s.polderOf c) = false) (hseq : s.seqsOf c.id = [])
    (hreset : (s.aux c.ctx).resetting = none) (hreplay : s.resets.replay = none) (hopen : s.configOpen = true)
    (hd3 : s.pcie.d3.contains (s.fnOf c.ctx) = false) (hmap : s.hostMapped (s.cqBase c.ctx + 16 * s.cqTail c.ctx) 16 = true) :
    (s.commit c st).host.mem = s.host.mem.write (s.cqBase c.ctx + 16 * s.cqTail c.ctx) (s.recordOf c st (c.lastWarn st) c.errAddr.isSome) ∧
    (s.commit c st).mem = s.mem ∧ (s.commit c st).cmds.length = (s.cmds.filter (fun k => k.id != c.id)).length ∧
    (s.commit c st).cmds.map (fun k => k.id) = (s.cmds.filter (fun k => k.id != c.id)).map (fun k => k.id) := by
  have hbefore := recordState_before hw hseq h20 h30 h70 st (c.lastWarn st)
  obtain ⟨hbase, htail, hfn, hrec⟩ := hbefore.reads hctx
  generalize ht : s.recordState c st (c.lastWarn st) = t at hbefore hbase htail hfn hrec
  have hpcie : t.pcie = s.pcie := (congrArg State.pcie hbefore.1).trans rfl
  have hpins : t.pins = s.pins := (congrArg State.pins hbefore.1).trans rfl
  have hhost : t.host = s.host := (congrArg State.host hbefore.1).trans rfl
  have hmem : t.mem = s.mem := (congrArg State.mem hbefore.1).trans rfl
  have hcmds : t.cmds = s.cmds := (congrArg State.cmds hbefore.1).trans rfl
  have hctxs : t.ctxs = s.ctxs := (congrArg State.ctxs hbefore.1).trans rfl
  have hrep : t.resets.replay = none := ((congrArg (fun u : State => u.resets.replay) hbefore.1).trans rfl).trans hreplay
  have hput : t.putRecord c.ctx (t.cqBase c.ctx + 16 * t.cqTail c.ctx) (t.recordOf c st (c.lastWarn st) c.errAddr.isSome) =
      t.hostPut (s.cqBase c.ctx + 16 * s.cqTail c.ctx) (s.recordOf c st (c.lastWarn st) c.errAddr.isSome) := by
    have hopen' : t.configOpen = true := by rw [State.configOpen, hpcie, hpins]; exact hopen
    have hmap' : t.hostMapped (s.cqBase c.ctx + 16 * s.cqTail c.ctx) 16 = true := by rw [State.hostMapped, hhost]; exact hmap
    have hlen : (s.recordOf c st (c.lastWarn st) c.errAddr.isSome).length = 16 := by simp [State.recordOf]
    rw [hbase, htail, hrec, State.putRecord, hpcie, hfn, hd3, if_neg (by decide), State.writeRecord, hlen, hopen', hmap']
    rfl
  have hcommit : s.commit c st = ((((((((t.putRecord c.ctx (t.cqBase c.ctx + 16 * t.cqTail c.ctx) (t.recordOf c st (c.lastWarn st)
      c.errAddr.isSome)).advanceCq c.ctx).irqAfter c.ctx (Machine.bit (dbyte c.desc 1) 2)).leaveFlight c).abortsTold c.id).stallFlag
      c.ctx).contextResetCheck c.ctx).guiltyEnd c st).replayCheck := by
    unfold State.commit
    simp only [hsent, Bool.and_false, Bool.false_eq_true, if_false, h30, decide_false, Bool.false_and]
    rw [← ht]
    rfl
  rw [hcommit, hput]
  generalize hw' : (s.recordOf c st (c.lastWarn st) c.errAddr.isSome) = rec
  obtain ⟨hadv, hadvctx⟩ := State.advanceCq_after (t.hostPut (s.cqBase c.ctx + 16 * s.cqTail c.ctx) rec) c.ctx
  obtain ⟨hirq, hirqreset⟩ := State.irqAfter_after ((t.hostPut (s.cqBase c.ctx + 16 * s.cqTail c.ctx) rec).advanceCq c.ctx) c.ctx
    (Machine.bit (dbyte c.desc 1) 2)
  obtain ⟨khost, kmem, kresets, kcmds⟩ := hadv.trans hirq
  have kreset : ((((t.hostPut (s.cqBase c.ctx + 16 * s.cqTail c.ctx) rec).advanceCq c.ctx).irqAfter c.ctx
      (Machine.bit (dbyte c.desc 1) 2)).aux c.ctx).resetting = none := by
    rw [hirqreset, State.aux, hadvctx]
    exact (congrArg (fun x => (SMap.get (fun _ => (⟨[], 0, none, false, none⟩ : CtxAux)) x c.ctx).resetting) hctxs).trans hreset
  generalize ((t.hostPut (s.cqBase c.ctx + 16 * s.cqTail c.ctx) rec).advanceCq c.ctx).irqAfter c.ctx
    (Machine.bit (dbyte c.desc 1) 2) = u at khost kmem kresets kcmds kreset
  rw [commitTail u c st kreset ((congrArg Resets.replay kresets).trans hrep)]
  obtain ⟨hlen, hids⟩ := abortsTold_cmds (u.leaveFlight c) c.id
  have hleave : (u.leaveFlight c).cmds = s.cmds.filter (fun k => k.id != c.id) := by
    rw [← hcmds]
    exact congrArg (List.filter _) kcmds
  refine ⟨?_, kmem.trans hmem, ?_, ?_⟩
  · rw [← hhost]
    exact congrArg HostSide.mem khost
  · rw [← hleave]
    exact hlen
  · rw [← hleave]
    exact hids

/-! ### COMMAND_COMMIT -/

theorem optFinish_idle {s : State} {c : Cmd} (hw : c.work = .none) : s.optFinish c = s := by
  simp [State.optFinish, hw]

theorem appendFinish_idle {s : State} {c : Cmd} (hw : c.work = .none) : s.appendFinish c = s := by
  simp [State.appendFinish, hw]

/-- The state from which a command that no sluice holds commits: a vector step or an append under way is finished. -/
def State.finished (s : State) (c : Cmd) : State := (s.optFinish c).appendFinish c

theorem finished_idle {s : State} {c : Cmd} (hw : c.work = .none) : s.finished c = s := by
  rw [State.finished, optFinish_idle hw, appendFinish_idle hw]

theorem doCommandCommit_of {s : State} {id : Nat} {env : Env} {c k : Cmd} (hc : (s.arrive env).cmd? id = some c)
    (hsl : (s.arrive env).sluiced c = false) (hk : ((s.arrive env).finished c).cmd? id = some k) :
    doCommandCommit id env s = match ((s.arrive env).finished c).commitStatus k with
      | some st => ((s.arrive env).finished c).commit k st
      | none => (s.arrive env).finished c := by
  unfold State.finished at hk ⊢
  simp only [doCommandCommit, hc, hsl, Bool.false_eq_true, if_false, hk] <;> rfl

theorem doCommandCommit_sluiced {s : State} {id : Nat} {env : Env} {c : Cmd} (hc : (s.arrive env).cmd? id = some c)
    (hsl : (s.arrive env).sluiced c = true) : doCommandCommit id env s = s.arrive env := by
  simp only [doCommandCommit, hc, hsl, if_true, State.commitStatus]

/-- A command without work that runs, waits or is held stays. -/
theorem doCommandCommit_stays {s : State} {id : Nat} {env : Env} {c : Cmd} (hc : (s.arrive env).cmd? id = some c) (hw : c.work = .none)
    (hph : c.phase = .running ∨ c.phase = .waiting ∨ c.phase = .held) : doCommandCommit id env s = s.arrive env := by
  cases hsl : (s.arrive env).sluiced c with
  | true => exact doCommandCommit_sluiced hc hsl
  | false =>
    have hk : ((s.arrive env).finished c).cmd? id = some c := by rw [finished_idle hw]; exact hc
    have hstatus : (s.arrive env).commitStatus c = none := by
      simp only [State.commitStatus, hsl]
      rcases hph with h | h | h <;> rw [h] <;> rfl
    rw [doCommandCommit_of hc hsl hk, finished_idle hw, hstatus]

/-- A record that stands is found in no list of commands that leaves it out. -/
theorem cmd?_eq_none_of_ids {s t : State} {id : Nat} (h : t.cmds.map (fun k => k.id) = (s.cmds.filter (fun k => k.id != id)).map (fun k => k.id)) :
    t.cmd? id = none := by
  rw [State.cmd?, List.find?_eq_none]
  intro k hk
  have hmem : k.id ∈ (s.cmds.filter (fun k => k.id != id)).map (fun k => k.id) := h ▸ List.mem_map_of_mem hk
  obtain ⟨d, hd, heq⟩ := List.mem_map.mp hmem
  have hne := (List.mem_filter.mp hd).2
  rw [← heq]
  simpa using hne

/-- A command with nothing under way whose status stands commits with it and writes its record (R158–R160). -/
theorem commandCommit_writes {s : State} {id : Nat} {env : Env} {c : Cmd} {st : Nat} (hc : (s.arrive env).cmd? id = some c)
    (hctx : c.ctx < 4096) (hsl : (s.arrive env).sluiced c = false) (hph : c.phase = .done st) (hw : c.work = .none) (h20 : c.op ≠ 0x20)
    (h30 : c.op ≠ 0x30) (h70 : c.op ≠ 0x70) (hsent : SMap.get (fun _ => false) (s.arrive env).sentinel ((s.arrive env).polderOf c) = false)
    (hseq : (s.arrive env).seqsOf id = []) (hreset : ((s.arrive env).aux c.ctx).resetting = none)
    (hreplay : (s.arrive env).resets.replay = none) (hopen : (s.arrive env).configOpen = true)
    (hd3 : (s.arrive env).pcie.d3.contains ((s.arrive env).fnOf c.ctx) = false)
    (hmap : (s.arrive env).hostMapped ((s.arrive env).cqBase c.ctx + 16 * (s.arrive env).cqTail c.ctx) 16 = true) :
    Completes (.commandCommit id env) s (fun t => t.cmd? id = none ∧
      t.cmds.length = ((s.arrive env).cmds.filter (fun k => k.id != id)).length ∧
      t.host.mem.read ((s.arrive env).cqBase c.ctx + 16 * (s.arrive env).cqTail c.ctx) 16 =
        (s.arrive env).recordOf c st (c.lastWarn st) c.errAddr.isSome ∧
      (∀ b, (b < (s.arrive env).cqBase c.ctx + 16 * (s.arrive env).cqTail c.ctx ∨
        (s.arrive env).cqBase c.ctx + 16 * (s.arrive env).cqTail c.ctx + 16 ≤ b) → t.host.mem.byte b = (s.arrive env).host.mem.byte b) ∧
      t.mem = (s.arrive env).mem) := by
  refine completes_of (exec_commandCommit id env s) rfl ?_
  have hid := cmd?_id hc
  generalize hu : s.arrive env = u at *
  have hk : (u.finished c).cmd? id = some c := by rw [finished_idle hw]; exact hc
  have hstatus : u.commitStatus c = some st := by
    simp only [State.commitStatus, hsl, hph, h20, decide_false, Bool.false_and, Bool.false_eq_true, if_false]
  have hdo : doCommandCommit id env s = u.commit c st := by
    rw [doCommandCommit_of (hu ▸ hc) (hu ▸ hsl) (hu ▸ hk), hu, finished_idle hw, hstatus]
  rw [hdo]
  obtain ⟨hhost, hmem, hlen, hids⟩ := commit_writes hctx hw h20 h30 h70 hsent (hid ▸ hseq) hreset hreplay hopen hd3 hmap (st := st)
  generalize u.cqBase c.ctx + 16 * u.cqTail c.ctx = iova at *
  have hrec : (u.recordOf c st (c.lastWarn st) c.errAddr.isSome).length = 16 := by simp [State.recordOf]
  rw [hid] at hlen hids
  refine ⟨cmd?_eq_none_of_ids hids, hlen, ?_, fun b hb => ?_, hmem⟩
  · have hread := Mem.read_write u.host.mem iova (u.recordOf c st (c.lastWarn st) c.errAddr.isSome)
    rw [hrec, ← hhost] at hread
    exact hread
  · have hbyte := Mem.byte_write u.host.mem iova (u.recordOf c st (c.lastWarn st) c.errAddr.isSome) b
    rw [hrec, if_neg (by omega), ← hhost] at hbyte
    exact hbyte

/-! ### IRQ_HOLD_EXPIRY -/

theorem doIrqHoldExpiry_due {s : State} {ctx t : Nat} (ht : (s.aux ctx).firstUnsig = some t) (hen : s.bit (Reg.ctxCtrl ctx) 2 = true)
    (hh : s.fld (Reg.ctxIrq ctx) 31 20 ≠ 0) (hdue : t + 25 * s.fld (Reg.ctxIrq ctx) 31 20 ≤ s.tick) :
    doIrqHoldExpiry ctx s = s.sendIrq ctx := by
  simp [doIrqHoldExpiry, ht, hen, hh, hdue]

theorem doIrqHoldExpiry_idle {s : State} {ctx t : Nat} (ht : (s.aux ctx).firstUnsig = some t)
    (h : s.bit (Reg.ctxCtrl ctx) 2 = false ∨ s.fld (Reg.ctxIrq ctx) 31 20 = 0 ∨ s.tick < t + 25 * s.fld (Reg.ctxIrq ctx) 31 20) :
    doIrqHoldExpiry ctx s = s := by
  simp only [doIrqHoldExpiry, ht]
  refine if_neg ?_
  rcases h with h | h | h
  · simp [h]
  · simp [h]
  · simp [Nat.not_le.mpr h]

end Sys2Proof.Machine

namespace Sys2Proof.Proofs
open Sys2Proof.Machine

/-- Settles O21: the branches of the fetch, the commit followed up to its record (`commit_writes`), and the hold of the interrupt. -/
theorem fetchAndCommit : Obligations.FetchAndCommit := by
  unfold Obligations.FetchAndCommit
  refine ⟨fun s ctx env hctx => ⟨fun hf hmap hclean => ⟨fun hm hok => ?_, fun hm hok => ?_, fun st hm => ?_⟩, fun hf hbad => ?_, fun hf => ?_, ?_⟩,
    fun s id env c hc => ⟨fun st hctx hsl hph hw h20 h30 h70 hsent hseq hreset hreplay hopen hd3 hmap => ?_, fun hsl k hk => ⟨fun st hst => ?_,
      fun hst => ?_⟩, fun hsl => ?_, fun hw hph => ?_⟩, fun s ctx t hctx ht => ⟨fun hen hh hdue => ?_, fun hidle => ?_⟩⟩
  · exact becomes_of (exec_descriptorFetch ctx env s) (decide_eq_true hctx)
      ((doDescriptorFetch_readable hf hmap hclean).trans (fetch_ok hm hok))
  · exact becomes_of (exec_descriptorFetch ctx env s) (decide_eq_true hctx)
      ((doDescriptorFetch_readable hf hmap hclean).trans (fetch_fails hm hok))
  · exact becomes_of (exec_descriptorFetch ctx env s) (decide_eq_true hctx)
      ((doDescriptorFetch_readable hf hmap hclean).trans (fetch_marked hm))
  · exact becomes_of (exec_descriptorFetch ctx env s) (decide_eq_true hctx) (doDescriptorFetch_unreadable hf hbad)
  · exact becomes_of (exec_descriptorFetch ctx env s) (decide_eq_true hctx) (doDescriptorFetch_idle hf)
  · obtain ⟨hcmds, hnext, hhead, hregs, hrest⟩ := takeSlot_takes (s.arrive env) ctx ((s.arrive env).newCmd ctx
      (BitVec.ofNat 512 (leNat ((s.arrive env).host.mem.read ((s.arrive env).sqBase ctx + 64 * (s.arrive env).sqHead ctx) 64))))
    exact ⟨hcmds, rfl, rfl, rfl, hnext, hhead, hregs, hrest⟩
  · exact commandCommit_writes hc hctx hsl hph hw h20 h30 h70 hsent hseq hreset hreplay hopen hd3 hmap
  · exact becomes_of (exec_commandCommit id env s) rfl ((doCommandCommit_of hc hsl hk).trans (by rw [State.finished, hst]))
  · exact becomes_of (exec_commandCommit id env s) rfl ((doCommandCommit_of hc hsl hk).trans (by rw [State.finished, hst]))
  · exact becomes_of (exec_commandCommit id env s) rfl (doCommandCommit_sluiced hc hsl)
  · exact becomes_of (exec_commandCommit id env s) rfl (doCommandCommit_stays hc hw hph)
  · exact becomes_of (exec_irqHoldExpiry ctx s) (decide_eq_true hctx) (doIrqHoldExpiry_due ht hen hh hdue)
  · exact becomes_of (exec_irqHoldExpiry ctx s) (decide_eq_true hctx) (doIrqHoldExpiry_idle ht hidle)

end Sys2Proof.Proofs
end

section
/-! PROOF. Functions, link encryption, and the registers of a context (R108, R141–R153, R563, R616, R630, R631). -/
namespace Sys2Proof.Machine

/-! ### Numbers -/

theorem fld_lt (w : Word) (hi lo : Nat) : fld w hi lo < 2 ^ (hi + 1 - lo) := Nat.mod_lt _ (Nat.two_pow_pos _)

/-- A number with one of its bits taken away. -/
def withoutBit (n k : Nat) : Nat := n - 2 ^ k * b2n (n.testBit k)

theorem testBit_withoutBit (n k : Nat) : (withoutBit n k).testBit k = false := by
  unfold withoutBit
  cases h : n.testBit k with
  | false => simpa [b2n] using h
  | true =>
    have hle : 2 ^ k ≤ n := Nat.ge_two_pow_of_testBit h
    have hsum : (2 ^ k + (n - 2 ^ k)).testBit k = !(n - 2 ^ k).testBit k := Nat.testBit_two_pow_add_eq _ _
    rw [Nat.add_sub_cancel' hle, h] at hsum
    simpa [b2n] using hsum.symm

/-- The bit put back as it is asked for. -/
theorem testBit_withoutBit_add (n k : Nat) (b : Bool) : (withoutBit n k + 2 ^ k * b2n b).testBit k = b := by
  cases b with
  | false => simpa [b2n] using testBit_withoutBit n k
  | true =>
    rw [b2n, Nat.add_comm]
    have hsum := Nat.testBit_two_pow_add_eq (withoutBit n k) k
    rw [testBit_withoutBit] at hsum
    simpa using hsum

/-! ### Functions -/

theorem State.writeRecord_frame (s : State) (ctx iova : Nat) (bs : List Byte) :
    (s.writeRecord ctx iova bs).pcie = s.pcie ∧ (s.writeRecord ctx iova bs).cmds = s.cmds ∧ (s.writeRecord ctx iova bs).resets = s.resets := by
  unfold State.writeRecord
  split
  · exact ⟨rfl, rfl, rfl⟩
  · split
    · exact ⟨rfl, rfl, rfl⟩
    · have hsteady := Steady.event (s.setBit (Reg.ctxStatus ctx) 16 true) 0x0204 Src.module (some ctx) (dataOf [(0, iova), (8, 2)])
      exact ⟨hsteady.pcie, State.event_cmds _ _ _ _ _, hsteady.resets⟩

/-- What the records and messages that a function held do when they leave it (R631). -/
def HeldSent (s t : State) : Prop :=
  t.pcie.d3 = s.pcie.d3 ∧ t.pcie.heldRecords = s.pcie.heldRecords ∧ t.cmds = s.cmds ∧ t.resets = s.resets

theorem HeldSent.trans {s t u : State} (h : HeldSent s t) (k : HeldSent t u) : HeldSent s u := by
  obtain ⟨h1, h2, h3, h4⟩ := h
  obtain ⟨k1, k2, k3, k4⟩ := k
  exact ⟨k1.trans h1, k2.trans h2, k3.trans h3, k4.trans h4⟩

theorem HeldSent.foldl {β : Type} (f : State → β → State) (h : ∀ s x, HeldSent s (f s x)) (l : List β) (s : State) :
    HeldSent s (l.foldl f s) := by
  induction l generalizing s with
  | nil => exact ⟨rfl, rfl, rfl, rfl⟩
  | cons x l ih =>
    rw [List.foldl_cons]
    exact (h s x).trans (ih _)

theorem HeldSent.writeRecord (s : State) (ctx iova : Nat) (bs : List Byte) : HeldSent s (s.writeRecord ctx iova bs) := by
  obtain ⟨hpcie, hcmds, hresets⟩ := s.writeRecord_frame ctx iova bs
  exact ⟨congrArg Pcie.d3 hpcie, congrArg Pcie.heldRecords hpcie, hcmds, hresets⟩

theorem HeldSent.msix (s : State) (fn vec : Nat) : HeldSent s (s.msix fn vec) := by
  unfold State.msix
  split <;> exact ⟨rfl, rfl, rfl, rfl⟩

/-- The state from which a function that returns to D0 sends what it held. -/
def State.returned (s : State) (fn : Nat) : State :=
  { s with pcie := { s.pcie with
    d3 := s.pcie.d3.filter (· != fn)
    heldRecords := s.pcie.heldRecords.filter (fun r => s.fnOf r.1 != fn)
    heldMsix := s.pcie.heldMsix.filter (fun m => m.1 != fn) } }

theorem doD0Return_held {s : State} {fn : Nat} {env : Env} (hopen : (s.arrive env).configOpen = true)
    (hd3 : (s.arrive env).pcie.d3.contains fn = true) : doD0Return fn env s =
      ((s.arrive env).pcie.heldMsix.filter (fun m => m.1 == fn)).foldl (fun (s : State) m => s.msix m.1 m.2)
        (((s.arrive env).pcie.heldRecords.filter (fun r => (s.arrive env).fnOf r.1 == fn)).foldl
          (fun (s : State) r => s.writeRecord r.1 r.2.1 r.2.2) ((s.arrive env).returned fn)) := by
  unfold doD0Return
  generalize s.arrive env = u at hopen hd3 ⊢
  simp only [hopen, hd3, Bool.and_true, if_true, State.returned]

theorem doD0Return_sends {s : State} {fn : Nat} {env : Env} (hopen : (s.arrive env).configOpen = true)
    (hd3 : (s.arrive env).pcie.d3.contains fn = true) : HeldSent ((s.arrive env).returned fn) (doD0Return fn env s) := by
  rw [doD0Return_held hopen hd3]
  generalize (s.arrive env).returned fn = u
  generalize (s.arrive env).pcie.heldRecords.filter (fun r => (s.arrive env).fnOf r.1 == fn) = mine
  have hrecords := HeldSent.foldl (fun (s : State) (r : Nat × Nat × List Byte) => s.writeRecord r.1 r.2.1 r.2.2)
    (fun t r => .writeRecord t r.1 r.2.1 r.2.2) mine u
  exact hrecords.trans (.foldl _ (fun t (m : Nat × Nat) => .msix t m.1 m.2) _ _)

theorem doD0Return_returns {s : State} {fn : Nat} {env : Env} (hlink : s.pcie.linkUp = true) (hpin : s.pins.perst = false)
    (hd3 : s.pcie.d3.contains fn = true) :
    (doD0Return fn env s).pcie.d3 = s.pcie.d3.filter (· != fn) ∧
    (doD0Return fn env s).pcie.heldRecords = s.pcie.heldRecords.filter (fun r => (s.arrive env).fnOf r.1 != fn) ∧
    (doD0Return fn env s).cmds = s.cmds ∧ (doD0Return fn env s).resets = s.resets := by
  have hpcie : (s.arrive env).pcie = s.pcie := rfl
  have hopen : (s.arrive env).configOpen = true := by
    have hpins : (s.arrive env).pins = s.pins := rfl
    rw [State.configOpen, hpcie, hpins, hlink, hpin]
    rfl
  obtain ⟨h1, h2, h3, h4⟩ := doD0Return_sends hopen (hpcie ▸ hd3)
  exact ⟨h1, h2, h3, h4⟩

/-! ### Link encryption -/

/-- The stream of an integrity failure is Insecure. -/
def State.insecure (s : State) (stream : Nat) : State :=
  { s with sec := { s.sec with ideInsecure := s.sec.ideInsecure ||| 2 ^ stream } }

theorem doIdeIntegrityFailure_active {s : State} {stream : Nat} (hact : s.sec.ideActive.testBit stream = true)
    (hsec : s.sec.ideInsecure.testBit stream = false) : doIdeIntegrityFailure stream s =
      (((s.insecure stream).setBit Reg.secIde 8 true).aer aerIde).event 0x0104 Src.module none stream := by
  unfold doIdeIntegrityFailure
  rw [hact, hsec]
  rfl

theorem ideFailure_shows {s : State} {stream : Nat} (hact : s.sec.ideActive.testBit stream = true)
    (hsec : s.sec.ideInsecure.testBit stream = false) :
    (doIdeIntegrityFailure stream s).sec.ideInsecure = s.sec.ideInsecure ||| 2 ^ stream ∧
    (doIdeIntegrityFailure stream s).bit Reg.secIde 8 = true ∧ (doIdeIntegrityFailure stream s).pcie.aer = aerIde :: s.pcie.aer ∧
    (doIdeIntegrityFailure stream s).sec.ideActive = s.sec.ideActive := by
  rw [doIdeIntegrityFailure_active hact hsec]
  have hsteady := Steady.event (((s.insecure stream).setBit Reg.secIde 8 true).aer aerIde) 0x0104 Src.module none stream
  have hbit := State.bit_setBit_same (s.insecure stream) Reg.secIde 8 true (by decide)
  refine ⟨congrArg Sec.ideInsecure hsteady.sec, ?_, congrArg Pcie.aer hsteady.pcie, (congrArg Sec.ideActive hsteady.sec).trans rfl⟩
  rw [State.bit, hsteady.reg (by unfold AccessReg; decide)]
  exact hbit

theorem inSession_runs {s : State} {b id : Nat} {fin : Bool} {x : Session} (hserved : s.spdmServed b = true) (hx : s.session b id = some x)
    (hfin : x.finished = fin) (f : Session → State → State) : s.inSession b id fin f = f x s := by
  simp [State.inSession, hserved, hx, hfin]

/-! ### The registers of a context -/

theorem stallFlag_reg (s : State) (ctx : Nat) {a : Nat} (h : a ≠ Reg.ctxStatus ctx) : (s.stallFlag ctx).reg a = s.reg a :=
  State.reg_setBit_ne s _ _ h

theorem stallFlag_cmds (s : State) (ctx : Nat) : (s.stallFlag ctx).cmds = s.cmds := rfl

/-- Both rings of a context start empty, with PHASE 1 (R153). -/
def State.ringsEmpty (s : State) (ctx : Nat) : State :=
  ((((s.setReg (Reg.ctxSqHead ctx) 0).setReg (Reg.ctxSqTail ctx) 0).setReg (Reg.ctxCqTail ctx) 0x10000).setReg (Reg.ctxCqHead ctx) 0).setAux ctx
    { s.aux ctx with marked := [], unsignalled := 0, firstUnsig := none }

theorem ringsEmpty_reg (s : State) (ctx a : Nat) : (s.ringsEmpty ctx).reg a =
    if a = Reg.ctxCqHead ctx then 0 else if a = Reg.ctxCqTail ctx then 0x10000 else if a = Reg.ctxSqTail ctx then 0
    else if a = Reg.ctxSqHead ctx then 0 else s.reg a := by
  have haux : ∀ (u : State) (x : CtxAux), (u.setAux ctx x).reg a = u.reg a := fun _ _ => rfl
  rw [State.ringsEmpty, haux]
  simp only [State.reg_setReg]

theorem enableCtx_ok {s : State} {ctx : Nat} (hen : s.enabled ctx = false) (hjobs : s.resets.jobs = []) (hres : (s.aux ctx).resetting = none)
    (hok : s.ringsOk ctx = true) : s.enableCtx ctx = ((s.ringsEmpty ctx).setBit (Reg.ctxCtrl ctx) 0 true).stallFlag ctx := by
  have hno : (s.enabled ctx || s.resets.jobs.any (fun j => decide (4 ≤ j.level)) || (s.aux ctx).resetting.isSome) = false := by
    simp [hen, hjobs, hres]
  unfold State.enableCtx State.ringsEmpty
  rw [hno, hok]
  rfl

theorem enableCtx_bad {s : State} {ctx : Nat} (hen : s.enabled ctx = false) (hjobs : s.resets.jobs = []) (hres : (s.aux ctx).resetting = none)
    (hok : s.ringsOk ctx = false) : s.enableCtx ctx = s.setBit (Reg.ctxStatus ctx) 16 true := by
  have hno : (s.enabled ctx || s.resets.jobs.any (fun j => decide (4 ≤ j.level)) || (s.aux ctx).resetting.isSome) = false := by
    simp [hen, hjobs, hres]
  unfold State.enableCtx
  rw [hno, hok]
  rfl

theorem ringsOk_setCtrl (s : State) (ctx i : Nat) (x : Bool) : (s.setBit (Reg.ctxCtrl ctx) i x).ringsOk ctx = s.ringsOk ctx := by
  have hne : Reg.ctxRingSize ctx ≠ Reg.ctxCtrl ctx := by simp only [Reg.ctxRingSize, Reg.ctxCtrl]; omega
  simp only [State.ringsOk, State.fld_setBit_ne s x (.inl hne)]

/-- A context enabled differs in CTX_CTRL and CTX_STATUS from one whose rings are empty. -/
theorem enabled_reg (s : State) (ctx : Nat) {a : Nat} (hstatus : a ≠ Reg.ctxStatus ctx) (hctrl : a ≠ Reg.ctxCtrl ctx) :
    ((s.setBit (Reg.ctxCtrl ctx) 0 true).stallFlag ctx).reg a = s.reg a := by
  rw [stallFlag_reg _ ctx hstatus, State.reg_setBit_ne s _ _ hctrl]

theorem stallFlag_enabled (s : State) (ctx : Nat) : (s.stallFlag ctx).enabled ctx = s.enabled ctx := by
  unfold State.enabled State.stallFlag
  exact State.bit_setBit_ne _ _ _ _ _ _ (.inr (by decide))

/-- A context whose rings are legal is enabled with both rings empty and PHASE 1 (R147, R153). -/
theorem enableCtx_enables {s : State} {ctx : Nat} (hen : s.enabled ctx = false) (hjobs : s.resets.jobs = []) (hres : (s.aux ctx).resetting = none)
    (hok : s.ringsOk ctx = true) :
    (s.enableCtx ctx).enabled ctx = true ∧ (s.enableCtx ctx).sqHead ctx = 0 ∧ (s.enableCtx ctx).sqTail ctx = 0 ∧
    (s.enableCtx ctx).cqHead ctx = 0 ∧ (s.enableCtx ctx).cqTail ctx = 0 ∧ (s.enableCtx ctx).fld (Reg.ctxCqTail ctx) 16 16 = 1 ∧
    ((s.enableCtx ctx).aux ctx).marked = [] ∧ (s.enableCtx ctx).cmds = s.cmds ∧
    ∀ a, (a < 0x40000 + 64 * ctx ∨ 0x40040 + 64 * ctx ≤ a) → (s.enableCtx ctx).reg a = s.reg a := by
  rw [enableCtx_ok hen hjobs hres hok]
  have hcqTail : (((s.ringsEmpty ctx).setBit (Reg.ctxCtrl ctx) 0 true).stallFlag ctx).reg (Reg.ctxCqTail ctx) = 0x10000 := by
    rw [enabled_reg _ ctx (by simp only [Reg.ctxCqTail, Reg.ctxStatus]; omega) (by simp only [Reg.ctxCqTail, Reg.ctxCtrl]; omega), ringsEmpty_reg,
      if_neg (by simp only [Reg.ctxCqTail, Reg.ctxCqHead]; omega), if_pos rfl]
  refine ⟨?_, ?_, ?_, ?_, ?_, ?_, ?_, ?_, fun a ha => ?_⟩
  · rw [stallFlag_enabled]
    exact State.bit_setBit_same _ _ _ _ (by decide)
  · rw [State.sqHead, State.fld, enabled_reg _ ctx (by simp only [Reg.ctxSqHead, Reg.ctxStatus]; omega)
      (by simp only [Reg.ctxSqHead, Reg.ctxCtrl]; omega), ringsEmpty_reg, if_neg (by simp only [Reg.ctxSqHead, Reg.ctxCqHead]; omega),
      if_neg (by simp only [Reg.ctxSqHead, Reg.ctxCqTail]; omega), if_neg (by simp only [Reg.ctxSqHead, Reg.ctxSqTail]; omega), if_pos rfl]
    rfl
  · rw [State.sqTail, State.fld, enabled_reg _ ctx (by simp only [Reg.ctxSqTail, Reg.ctxStatus]; omega)
      (by simp only [Reg.ctxSqTail, Reg.ctxCtrl]; omega), ringsEmpty_reg, if_neg (by simp only [Reg.ctxSqTail, Reg.ctxCqHead]; omega),
      if_neg (by simp only [Reg.ctxSqTail, Reg.ctxCqTail]; omega), if_pos rfl]
    rfl
  · rw [State.cqHead, State.fld, enabled_reg _ ctx (by simp only [Reg.ctxCqHead, Reg.ctxStatus]; omega)
      (by simp only [Reg.ctxCqHead, Reg.ctxCtrl]; omega), ringsEmpty_reg, if_pos rfl]
    rfl
  · rw [State.cqTail, State.fld, hcqTail]
    rfl
  · rw [State.fld, hcqTail]
    rfl
  · have hmark : ∀ u : State, ((u.setBit (Reg.ctxCtrl ctx) 0 true).stallFlag ctx).aux ctx = u.aux ctx := fun _ => rfl
    rw [hmark, State.ringsEmpty, State.aux_setAux]
  · rw [stallFlag_cmds, State.setBit_cmds, State.ringsEmpty, State.setAux_cmds, State.setReg_cmds, State.setReg_cmds, State.setReg_cmds,
      State.setReg_cmds]
  · rw [enabled_reg _ ctx (by simp only [Reg.ctxStatus]; omega) (by simp only [Reg.ctxCtrl]; omega), ringsEmpty_reg,
      if_neg (by simp only [Reg.ctxCqHead]; omega), if_neg (by simp only [Reg.ctxCqTail]; omega),
      if_neg (by simp only [Reg.ctxSqTail]; omega), if_neg (by simp only [Reg.ctxSqHead]; omega)]

theorem disableCtx_disables (s : State) (ctx : Nat) : (s.disableCtx ctx).enabled ctx = false ∧ (s.disableCtx ctx).cmds = s.cmds ∧
    ∀ a, a ≠ Reg.ctxCtrl ctx → a ≠ Reg.ctxStatus ctx → (s.disableCtx ctx).reg a = s.reg a := by
  refine ⟨?_, rfl, fun a hctrl hstatus => ?_⟩
  · rw [State.disableCtx, stallFlag_enabled]
    exact State.bit_setBit_same _ _ _ _ (by decide)
  · rw [State.disableCtx, stallFlag_reg _ ctx hstatus, State.reg_setBit_ne s _ _ hctrl]

/-! ### Doorbells -/

theorem doorbell_open {s : State} {fn idx ctx : Nat} (hr : s.reachCtx fn idx = some ctx) (hfn : s.fnOf ctx = fn) (hen : s.enabled ctx = true)
    (hg : (s.aux ctx).guilty = false) : s.doorbell fn idx = some ctx := by
  simp [State.doorbell, hr, hfn, hen, hg]

theorem doorbell_disabled {s : State} {fn idx ctx : Nat} (hr : s.reachCtx fn idx = some ctx) (hen : s.enabled ctx = false) :
    s.doorbell fn idx = none := by
  simp [State.doorbell, hr, hen]

/-- An index recorded by a doorbell, and what else it changes. -/
theorem doorbell_records (s : State) (ctx a : Nat) (v : Word) (ha : a ≠ Reg.ctxStatus ctx) :
    ((s.setFld a 15 0 (fld v 15 0)).stallFlag ctx).fld a 15 0 = fld v 15 0 ∧
    ∀ b, b ≠ a → b ≠ Reg.ctxStatus ctx → ((s.setFld a 15 0 (fld v 15 0)).stallFlag ctx).reg b = s.reg b := by
  refine ⟨?_, fun b hb hstatus => ?_⟩
  · have hfld := State.fld_setFld_same s a 15 0 (fld v 15 0) (by decide) (by decide)
    rw [Nat.mod_eq_of_lt (fld_lt v 15 0)] at hfld
    rw [State.stallFlag, State.fld_setBit_ne _ _ (.inl ha)]
    exact hfld
  · rw [stallFlag_reg _ ctx hstatus, State.reg_setFld_ne s _ _ _ hb]

end Sys2Proof.Machine

namespace Sys2Proof.Proofs
open Sys2Proof.Machine

/-- Settles O14. -/
theorem functionsAndLinkEncryption : Obligations.FunctionsAndLinkEncryption := by
  unfold Obligations.FunctionsAndLinkEncryption
  refine ⟨fun s hlink hpin => ?_, fun s => ⟨fun stream hstream hact hsec => ?_, fun session stream active x hstream hserved hx hfin => ?_⟩⟩
  · have hopen : s.configOpen = true := by simp [State.configOpen, hlink, hpin]
    refine ⟨fun n h1 h64 hvfs hok => ?_, fun n h1 h64 hvfs hok => ?_, fun fn h64 hle hd3 => ?_, fun fn env h64 hd3 => ?_, fun v h1 h64 hle => ?_⟩
    · exact becomes_of (exec_vfEnable n s) (by simp [Instr.wf, h1, h64]) (by simp [doVfEnable, hopen, hvfs, hok])
    · exact becomes_of (exec_vfEnable n s) (by simp [Instr.wf, h1, h64]) (by simp [doVfEnable, hopen, hvfs, hok])
    · have hex : s.fnExists fn = true := by simp [State.fnExists, hle]
      exact becomes_of (exec_d3hotEntry fn s) (decide_eq_true h64) (by simp only [doD3hotEntry, hopen, hex, hd3]; rfl)
    · exact completes_of (exec_d0Return fn env s) (decide_eq_true h64) (doD0Return_returns hlink hpin hd3)
    · have hno : (!s.configOpen || decide (s.pcie.vfs < v)) = false := by simp [hopen, hle]
      exact becomes_of (exec_flrVf v s) (by simp [Instr.wf, h1, h64]) (by simp only [doFlrVf, hno]; rfl)
  · exact completes_of (exec_ideIntegrityFailure stream s) (decide_eq_true hstream) (ideFailure_shows hact hsec)
  · refine completes_of (exec_ideKm session stream active s) (decide_eq_true hstream) ?_
    rw [doIdeKm, inSession_runs hserved hx hfin]
    exact ⟨testBit_withoutBit_add _ _ _, testBit_withoutBit _ _, rfl⟩

/-- Settles O19: the row reaches the context's register, and the rings that it sets are read back (`enableCtx_enables`). -/
theorem contextControl : Obligations.ContextControl := by
  unfold Obligations.ContextControl
  refine fun s fn idx ctx irqEn v hfn hctx hr => ⟨fun h0 hen hfl => ?_, fun h0 hbusy => ?_, fun h0 => ?_, fun hen hjobs hres hok => ?_,
    fun hen hjobs hres hok => ?_, ?_, ?_⟩
  · subst h0
    exact becomes_of (exec_ctxBind 0 idx v s) rfl (by simp [doCtxBind, hr, State.writeBind, hen, hfl])
  · subst h0
    exact becomes_of (exec_ctxBind 0 idx v s) rfl (by
      simp only [doCtxBind, hr, if_true, State.writeBind]
      exact if_pos (by simpa using hbusy))
  · exact becomes_of (exec_ctxBind fn idx v s) (decide_eq_true hfn) (by simp [doCtxBind, hr, h0])
  · refine completes_of (exec_ctxEnable fn idx irqEn s) (decide_eq_true hfn) ?_
    have hdo : doCtxEnable fn idx irqEn s = (s.setBit (Reg.ctxCtrl ctx) 2 irqEn).enableCtx ctx := by simp only [doCtxEnable, hr]
    have hen' : (s.setBit (Reg.ctxCtrl ctx) 2 irqEn).enabled ctx = false :=
      (State.bit_setBit_ne s _ _ _ _ _ (.inr (by decide))).trans hen
    have hok' : (s.setBit (Reg.ctxCtrl ctx) 2 irqEn).ringsOk ctx = true := (ringsOk_setCtrl s ctx 2 irqEn).trans hok
    obtain ⟨h1, h2, h3, h4, h5, h6, h7, h8, h9⟩ := enableCtx_enables hen' hjobs hres hok'
    rw [hdo]
    refine ⟨h1, h2, h3, h4, h5, h6, h7, h8, fun a ha => (h9 a ha).trans (State.reg_setBit_ne s _ _ ?_)⟩
    simp only [Reg.ctxCtrl]
    omega
  · have hdo : doCtxEnable fn idx irqEn s = (s.setBit (Reg.ctxCtrl ctx) 2 irqEn).enableCtx ctx := by simp only [doCtxEnable, hr]
    have hen' : (s.setBit (Reg.ctxCtrl ctx) 2 irqEn).enabled ctx = false :=
      (State.bit_setBit_ne s _ _ _ _ _ (.inr (by decide))).trans hen
    have hok' : (s.setBit (Reg.ctxCtrl ctx) 2 irqEn).ringsOk ctx = false := (ringsOk_setCtrl s ctx 2 irqEn).trans hok
    exact becomes_of (exec_ctxEnable fn idx irqEn s) (decide_eq_true hfn) (hdo.trans (enableCtx_bad hen' hjobs hres hok'))
  · refine completes_of (exec_ctxDisable fn idx irqEn s) (decide_eq_true hfn) ?_
    have hdo : doCtxDisable fn idx irqEn s = (s.setBit (Reg.ctxCtrl ctx) 2 irqEn).disableCtx ctx := by simp only [doCtxDisable, hr]
    obtain ⟨hoff, hcmds, hregs⟩ := disableCtx_disables (s.setBit (Reg.ctxCtrl ctx) 2 irqEn) ctx
    rw [hdo]
    exact ⟨hoff, hcmds, fun a h1 h2 => (hregs a h1 h2).trans (State.reg_setBit_ne s _ _ h1)⟩
  · exact becomes_of (exec_contextReset fn idx s) (decide_eq_true hfn) (by simp only [doContextReset, hr])

/-- Settles O20: an open doorbell reaches its context, and its index is recorded (`doorbell_records`) or refused. -/
theorem doorbells : Obligations.Doorbells := by
  unfold Obligations.Doorbells
  refine fun s fn idx ctx v hfn hctx hr hof => ⟨fun hen hg => ?_, fun hen => ?_⟩
  · have hbell := doorbell_open hr hof hen hg
    refine ⟨fun hlt => ?_, fun hle => ?_, fun hlt => ?_, fun hle => ?_⟩
    · refine completes_of (exec_dbSqTail fn idx v s) (decide_eq_true hfn) ?_
      have hdo : doDbSqTail fn idx v s = (s.setFld (Reg.ctxSqTail ctx) 15 0 (fld v 15 0)).stallFlag ctx := by
        simp only [doDbSqTail, hbell]
        exact if_neg (Nat.not_le.mpr hlt)
      obtain ⟨hfld, hregs⟩ := doorbell_records s ctx (Reg.ctxSqTail ctx) v (by simp only [Reg.ctxSqTail, Reg.ctxStatus]; omega)
      rw [hdo]
      refine ⟨hfld, ?_, rfl, hregs⟩
      exact congrArg (fun w => Machine.fld w 15 0) (hregs _ (by simp only [Reg.ctxSqTail, Reg.ctxSqHead]; omega)
        (by simp only [Reg.ctxSqHead, Reg.ctxStatus]; omega))
    · exact becomes_of (exec_dbSqTail fn idx v s) (decide_eq_true hfn) (by
        simp only [doDbSqTail, hbell]
        exact if_pos hle)
    · refine completes_of (exec_dbCqHead fn idx v s) (decide_eq_true hfn) ?_
      have hdo : doDbCqHead fn idx v s = (s.setFld (Reg.ctxCqHead ctx) 15 0 (fld v 15 0)).stallFlag ctx := by
        simp only [doDbCqHead, hbell]
        exact if_neg (Nat.not_le.mpr hlt)
      obtain ⟨hfld, hregs⟩ := doorbell_records s ctx (Reg.ctxCqHead ctx) v (by simp only [Reg.ctxCqHead, Reg.ctxStatus]; omega)
      rw [hdo]
      refine ⟨hfld, ?_, rfl, hregs⟩
      exact congrArg (fun w => Machine.fld w 15 0) (hregs _ (by simp only [Reg.ctxCqTail, Reg.ctxCqHead]; omega)
        (by simp only [Reg.ctxCqTail, Reg.ctxStatus]; omega))
    · exact becomes_of (exec_dbCqHead fn idx v s) (decide_eq_true hfn) (by
        simp only [doDbCqHead, hbell]
        exact if_pos hle)
  · have hbell := doorbell_disabled hr hen
    exact ⟨becomes_of (exec_dbSqTail fn idx v s) (decide_eq_true hfn) (by simp only [doDbSqTail, hbell]),
      becomes_of (exec_dbCqHead fn idx v s) (decide_eq_true hfn) (by simp only [doDbCqHead, hbell])⟩

end Sys2Proof.Proofs
end

section
/-! PROOF. BAR2 reads and writes (R304, R305, R612). -/
namespace Sys2Proof.Machine

/-- A BAR2 read inside the aperture, in normal service (R305). -/
def State.bar2Served (u : State) (off len : Nat) : State :=
  if beyondColumn off len then (u.aer aerUnsupported).emit (.completion 1 [] [])
  else if u.physRetired (u.apertureCol off) (bits off 29 0) len then (u.aer aerCompleterAbort).emit (.completion 2 [] [])
  else
    let r := u.physRead Req.host (u.apertureCol off) (bits off 29 0) len
    (if r.2.1.isEmpty then r.2.2 else r.2.2.aer aerInternal).emit (.completion 0 r.1 r.2.1)

theorem doBar2Read_open {s : State} {off len : Nat} {env : Env} (hopen : (s.resizeBar env).bar2Open off len = true) :
    doBar2Read off len env s =
      if ((s.resizeBar env).arrive env).bar2Early then ((s.resizeBar env).arrive env).emit (.completion 1 [] [])
      else if ((s.resizeBar env).arrive env).moduleResetting then ((s.resizeBar env).arrive env).emit (.completion 2 [] [])
      else ((s.resizeBar env).arrive env).bar2Served off len := by
  simp only [doBar2Read, hopen]
  rfl

/-- A BAR2 write inside the aperture, in normal service. -/
def State.bar2Stored (u : State) (off : Nat) (data : List Byte) : State :=
  if beyondColumn off data.length then u.aer aerUnsupported
  else if u.physRetired (u.apertureCol off) (bits off 29 0) data.length then u.aer aerCompleterAbort
  else
    let r := u.physWrite Req.host (u.apertureCol off) (bits off 29 0) data
    if r.1 = 0 then r.2 else r.2.aer aerInternal

theorem doBar2Write_open {s : State} {off : Nat} {data : List Byte} {env : Env} (hopen : (s.resizeBar env).bar2Open off data.length = true) :
    doBar2Write off data env s =
      if ((s.resizeBar env).arrive env).bar2Early || ((s.resizeBar env).arrive env).moduleResetting then (s.resizeBar env).arrive env
      else ((s.resizeBar env).arrive env).bar2Stored off data := by
  simp only [doBar2Write, hopen]
  rfl

end Sys2Proof.Machine

namespace Sys2Proof.Proofs
open Sys2Proof.Machine

/-- Settles O15: the aperture's branches, in the order of `doBar2Read` and `doBar2Write`. -/
theorem hostAperture : Obligations.HostAperture := by
  unfold Obligations.HostAperture
  refine fun s off len data env => ⟨fun hopen hearly hres => ?_, fun hopen hearly => ?_, fun hopen hearly hres => ?_,
    fun hopen hearly hres => ?_, fun hopen hclosed => ?_⟩
  · have hdo : doBar2Read off len env s = ((s.resizeBar env).arrive env).bar2Served off len := by
      rw [doBar2Read_open hopen, hearly, hres]
      rfl
    refine ⟨fun hin hok => ?_, fun hout => ?_, fun hin hret => ?_⟩
    · refine completes_of (exec_bar2Read off len env s) rfl ?_
      rw [hdo, State.bar2Served, hin, hok]
      rfl
    · exact becomes_of (exec_bar2Read off len env s) rfl (hdo.trans (if_pos hout))
    · exact becomes_of (exec_bar2Read off len env s) rfl (hdo.trans ((if_neg (by rw [hin]; decide)).trans (if_pos hret)))
  · exact becomes_of (exec_bar2Read off len env s) rfl ((doBar2Read_open hopen).trans (if_pos hearly))
  · exact becomes_of (exec_bar2Read off len env s) rfl ((doBar2Read_open hopen).trans ((if_neg (by rw [hearly]; decide)).trans (if_pos hres)))
  · have hdo : doBar2Write off data env s = ((s.resizeBar env).arrive env).bar2Stored off data := by
      rw [doBar2Write_open hopen, hearly, hres]
      rfl
    refine ⟨fun hin hok hwrote => ?_, fun hout => ?_, fun hin hret => ?_⟩
    · refine becomes_of (exec_bar2Write off data env s) rfl (hdo.trans ?_)
      rw [State.bar2Stored, hin, hok]
      exact if_pos hwrote
    · exact becomes_of (exec_bar2Write off data env s) rfl (hdo.trans (if_pos hout))
    · exact becomes_of (exec_bar2Write off data env s) rfl (hdo.trans ((if_neg (by rw [hin]; decide)).trans (if_pos hret)))
  · exact becomes_of (exec_bar2Write off data env s) rfl ((doBar2Write_open hopen).trans (if_pos (by simpa using hclosed)))

end Sys2Proof.Proofs
end

section
/-! PROOF. Firmware update over BAR0, ownership, and the SPDM responder (R622–R628). -/
namespace Sys2Proof.Machine

/-! ### Bits and fields after the entry of an event -/

theorem State.bit_event (s : State) (code : Nat) (src : Nat × Nat) (ctx : Option Nat) (data : Nat) {a : Nat} (i : Nat) (h1 : a ≠ Reg.almLost)
    (h2 : a ≠ Reg.almStatus) : (s.event code src ctx data).bit a i = s.bit a i := by
  rw [State.bit, State.reg_event s code src ctx data a h1 h2, State.bit]

theorem State.fld_event (s : State) (code : Nat) (src : Nat × Nat) (ctx : Option Nat) (data : Nat) {a : Nat} (hi lo : Nat) (h1 : a ≠ Reg.almLost)
    (h2 : a ≠ Reg.almStatus) : (s.event code src ctx data).fld a hi lo = s.fld a hi lo := by
  rw [State.fld, State.reg_event s code src ctx data a h1 h2, State.fld]

/-! ### Firmware update -/

theorem State.fwFail_shows (s : State) {code : Nat} (hcode : code < 16) :
    (s.fwFail code).bit Reg.secFwStatus 4 = true ∧ (s.fwFail code).fld Reg.secFwStatus 11 8 = code := by
  refine ⟨?_, ?_⟩
  · rw [State.fwFail, State.bit_setFld_ne _ _ (by decide) (.inr (.inl (by decide)))]
    exact State.bit_setBit_same _ _ _ _ (by decide)
  · rw [State.fwFail, State.fld_setFld_same _ _ _ _ _ (by decide) (by decide)]
    exact Nat.mod_eq_of_lt hcode

theorem doFwOpen_idle {s : State} (hs : s.fwServed = true) (hp : s.sec.path = none) : doFwOpen s = s.fwStart .bar0 := by
  simp [doFwOpen, hs, hp]

theorem doFwOpen_busy {s : State} (hs : s.fwServed = true) (hp : s.sec.path = some .pldm) : doFwOpen s = s.fwFail 9 := by
  simp [doFwOpen, hs, hp]

theorem fwBeginVerify_begins (s : State) : s.fwBeginVerify.sec.busy = .verifying ∧ s.fwBeginVerify.bit Reg.secFwStatus 0 = true ∧
    s.fwBeginVerify.bit Reg.secFwStatus 2 = false ∧ s.fwBeginVerify.sec.staging = s.sec.staging ∧ s.fwBeginVerify.nvm = s.nvm :=
  ⟨rfl, (State.bit_setBit_ne _ _ _ _ _ _ (.inr (by decide))).trans (State.bit_setBit_same _ _ _ _ (by decide)),
    State.bit_setBit_same _ _ _ _ (by decide), rfl, rfl⟩

/-- What a commit of firmware begins with: the slot's MAGIC is gone (R622). -/
theorem fwBeginCommit_begins (s : State) : s.fwBeginCommit.sec.busy = .committing ∧ s.fwBeginCommit.nvm.fwSlot.take 4 = [0, 0, 0, 0] :=
  ⟨rfl, rfl⟩

theorem fwCancel_ends (s : State) : (s.fwEnd.setBit Reg.secFwStatus 2 false).sec.path = none ∧
    (s.fwEnd.setBit Reg.secFwStatus 2 false).sec.staging = [] ∧ (s.fwEnd.setBit Reg.secFwStatus 2 false).bit Reg.secFwStatus 1 = false ∧
    (s.fwEnd.setBit Reg.secFwStatus 2 false).bit Reg.secFwStatus 2 = false ∧ (s.fwEnd.setBit Reg.secFwStatus 2 false).nvm = s.nvm :=
  ⟨rfl, rfl, (State.bit_setBit_ne _ _ _ _ _ _ (.inr (by decide))).trans (State.bit_setBit_same _ _ _ _ (by decide)),
    State.bit_setBit_same _ _ _ _ (by decide), rfl⟩

/-- The state from which a verification over BAR0 reports. -/
def State.verdictIn (s : State) (ok : Bool) : State :=
  { s with sec := { s.sec with busy := .idle, verifiedLen := if ok then some (s.nat Reg.secFwLength) else none } }

theorem doFwVerifyDone_bar0 {s : State} (hb : s.sec.busy = .verifying) (hp : s.sec.path = some .bar0) : doFwVerifyDone s =
    if s.fwVerdict = 0 then ((s.verdictIn true).setBit Reg.secFwStatus 0 false).setBit Reg.secFwStatus 2 true
    else ((s.verdictIn false).setBit Reg.secFwStatus 0 false).fwFail s.fwVerdict := by
  have hlen : s.fwStagedLength = s.nat Reg.secFwLength := by simp [State.fwStagedLength, hp]
  unfold doFwVerifyDone
  rw [if_pos hb, hp, hlen]
  split
  next h => rw [h]; rfl
  next h => simp [h]; rfl

theorem showSlot_keeps (s : State) {i : Nat} (h16 : i ≠ 16) (h17 : i ≠ 17) :
    s.showSlot.nvm = s.nvm ∧ s.showSlot.sec = s.sec ∧ s.showSlot.bit Reg.secFwStatus i = s.bit Reg.secFwStatus i := by
  refine ⟨rfl, rfl, ?_⟩
  rw [State.showSlot, State.bit_setBit_ne _ _ _ _ _ _ (.inr h17), State.bit_setBit_ne _ _ _ _ _ _ (.inr h16), State.bit, State.bit,
    State.reg_setNat_ne _ _ (by decide)]

theorem doFwCommitDone_bar0 {s : State} (hb : s.sec.busy = .committing) (hp : s.sec.path = some .bar0) :
    (doFwCommitDone s).nvm.fwSlot = padTo (fwLength s.sec.staging) s.sec.staging ∧ (doFwCommitDone s).sec.path = none ∧
    (doFwCommitDone s).sec.busy = .idle ∧ (doFwCommitDone s).bit Reg.secFwStatus 3 = true := by
  have hdo : doFwCommitDone s =
      (({ s with nvm := { s.nvm with fwSlot := padTo (fwLength s.sec.staging) s.sec.staging } } : State).fwEnd.setBit Reg.secFwStatus 3 true).showSlot := by
    unfold doFwCommitDone
    rw [if_pos hb, hp]
    rfl
  rw [hdo]
  generalize ht : ({ s with nvm := { s.nvm with fwSlot := padTo (fwLength s.sec.staging) s.sec.staging } } : State).fwEnd = t
  obtain ⟨hnvm, hsec, hbit⟩ := showSlot_keeps (t.setBit Reg.secFwStatus 3 true) (i := 3) (by decide) (by decide)
  refine ⟨?_, ?_, ?_, hbit.trans (State.bit_setBit_same _ _ _ _ (by decide))⟩
  · rw [hnvm, ← ht]; rfl
  · rw [hsec, ← ht]; rfl
  · rw [hsec, ← ht]; rfl

/-! ### Ownership -/

theorem State.ownerFail_shows (s : State) {code : Nat} (hcode : code < 16) :
    (s.ownerFail code).bit Reg.secOwnerStatus 4 = true ∧ (s.ownerFail code).fld Reg.secOwnerStatus 11 8 = code := by
  refine ⟨?_, ?_⟩
  · rw [State.ownerFail, State.bit_setFld_ne _ _ (by decide) (.inr (.inl (by decide)))]
    exact State.bit_setBit_same _ _ _ _ (by decide)
  · rw [State.ownerFail, State.fld_setFld_same _ _ _ _ _ (by decide) (by decide)]
    exact Nat.mod_eq_of_lt hcode

theorem State.ownerStart_starts (s : State) (action : Nat) (hash : Digest) :
    (s.ownerStart action hash).sec.owner = some ⟨action, hash⟩ ∧ (s.ownerStart action hash).bit Reg.secOwnerStatus 2 = true ∧
    (s.ownerStart action hash).nvm = s.nvm ∧ (s.ownerStart action hash).fuses = s.fuses ∧
    (s.ownerStart action hash).sec.nonceNo = s.sec.nonceNo := by
  refine ⟨rfl, ?_, rfl, rfl, rfl⟩
  rw [State.ownerStart, State.bit_setFld_ne _ _ (by decide) (.inr (.inl (by decide))), State.bit_setBit_ne _ _ _ _ _ _ (.inr (by decide)),
    State.bit_setBit_ne _ _ _ _ _ _ (.inr (by decide))]
  exact State.bit_setBit_same _ _ _ _ (by decide)

/-- The registers of a digest, one by one. -/
theorem State.setDigest_frame (s : State) (base : Nat) (d : Digest) : RegsOnly s (s.setDigest base d) ∧
    ∀ a, (∀ i, i < 8 → a ≠ base + 4 * i) → (s.setDigest base d).reg a = s.reg a := by
  unfold State.setDigest
  have hfold : ∀ (l : List Nat) (t : State), RegsOnly t (l.foldl (fun s i => s.setReg (base + 4 * i) (digestWord d i)) t) ∧
      ∀ a, (∀ i ∈ l, a ≠ base + 4 * i) → (l.foldl (fun s i => s.setReg (base + 4 * i) (digestWord d i)) t).reg a = t.reg a := by
    intro l
    induction l with
    | nil => exact fun t => ⟨.refl t, fun _ _ => rfl⟩
    | cons i l ih =>
      intro t
      rw [List.foldl_cons]
      obtain ⟨hregs, hreg⟩ := ih (t.setReg (base + 4 * i) (digestWord d i))
      refine ⟨((RegsOnly.refl t).setReg _ _).trans hregs, fun a ha => ?_⟩
      rw [hreg a fun j hj => ha j (List.mem_cons_of_mem _ hj), State.reg_setReg_ne _ _ (ha i List.mem_cons_self)]
  obtain ⟨hregs, hreg⟩ := hfold (List.range 8) s
  exact ⟨hregs, fun a ha => hreg a fun i hi => ha i (List.mem_range.mp hi)⟩

/-- Showing the owner writes its digest and the two bits on it. -/
theorem State.showOwner_frame (s : State) : RegsOnly s s.showOwner ∧
    ∀ i, 2 ≤ i → s.showOwner.bit Reg.secOwnerStatus i = s.bit Reg.secOwnerStatus i := by
  obtain ⟨hregs, hreg⟩ := s.setDigest_frame (Reg.secOwnerHash 0) s.nvm.ownerHash
  refine ⟨(hregs.setBit _ _ _).setBit _ _ _, fun i hi => ?_⟩
  rw [State.showOwner, State.bit_setBit_ne _ _ _ _ _ _ (.inr (by omega)), State.bit_setBit_ne _ _ _ _ _ _ (.inr (by omega)), State.bit,
    State.bit, hreg _ fun j hj => by simp only [Reg.secOwnerStatus, Reg.secOwnerHash]; omega]

/-- The state of a change of the owner once NVM has it: the hash, or the fuse. -/
def State.ownerTaken (s : State) (j : OwnerJob) : State :=
  let t := ({ s with sec := { s.sec with owner := none } }).setBit Reg.secOwnerStatus 2 false
  if j.action = 3 then { t with fuses := { t.fuses with ownerLocked := true } } else { t with nvm := { t.nvm with ownerHash := j.hash } }

theorem doOwnerDone_ok {s : State} {j : OwnerJob} (hj : s.sec.owner = some j) : doOwnerDone true s =
    (((s.ownerTaken j).showOwner).setBit Reg.secOwnerStatus 3 true).event 0x0103 Src.module none
      (dataOf [(0, j.action), (8, leNat ((digestBytes j.hash).take 8))]) := by
  unfold doOwnerDone State.ownerTaken
  rw [hj]
  rfl

theorem doOwnerDone_failed {s : State} {j : OwnerJob} (hj : s.sec.owner = some j) :
    doOwnerDone false s = ((({ s with sec := { s.sec with owner := none } } : State).setBit Reg.secOwnerStatus 2 false)).ownerFail 6 := by
  unfold doOwnerDone
  rw [hj]
  rfl

theorem ownerTaken_shows (s : State) (j : OwnerJob) :
    (s.ownerTaken j).sec.owner = none ∧ (s.ownerTaken j).bit Reg.secOwnerStatus 2 = false := by
  have h := State.bit_setBit_same ({ s with sec := { s.sec with owner := none } } : State) Reg.secOwnerStatus 2 false (by decide)
  unfold State.ownerTaken
  dsimp only
  split <;> exact ⟨rfl, h⟩

theorem ownerDone_shows {s : State} {j : OwnerJob} (hj : s.sec.owner = some j) :
    (doOwnerDone true s).nvm.ownerHash = (s.ownerTaken j).nvm.ownerHash ∧ (doOwnerDone true s).fuses = (s.ownerTaken j).fuses ∧
    (doOwnerDone true s).sec.owner = none ∧ (doOwnerDone true s).bit Reg.secOwnerStatus 3 = true ∧
    (doOwnerDone true s).bit Reg.secOwnerStatus 2 = false := by
  rw [doOwnerDone_ok hj]
  obtain ⟨hsec, hbit2⟩ := ownerTaken_shows s j
  generalize s.ownerTaken j = t at hsec hbit2 ⊢
  obtain ⟨hregs, hbits⟩ := t.showOwner_frame
  have hshown := hregs.setBit Reg.secOwnerStatus 3 true
  have hbit3 := State.bit_setBit_same t.showOwner Reg.secOwnerStatus 3 true (by decide)
  have hbit2' : (t.showOwner.setBit Reg.secOwnerStatus 3 true).bit Reg.secOwnerStatus 2 = false := by
    rw [State.bit_setBit_ne _ _ _ _ _ _ (.inr (by decide)), hbits 2 (by decide)]
    exact hbit2
  generalize t.showOwner.setBit Reg.secOwnerStatus 3 true = u at hshown hbit3 hbit2' ⊢
  generalize dataOf [(0, j.action), (8, leNat ((digestBytes j.hash).take 8))] = data
  have hnvm : (u.event 0x0103 Src.module none data).nvm.ownerHash = u.nvm.ownerHash :=
    (congrArg (fun v : State => v.nvm.ownerHash) (u.event_frame 0x0103 Src.module none data).1).trans rfl
  have hsteady := Steady.event u 0x0103 Src.module none data
  refine ⟨hnvm.trans ((congrArg (fun v : State => v.nvm.ownerHash) hshown).trans rfl), hsteady.fuses.trans ((congrArg State.fuses hshown).trans rfl),
    (congrArg Sec.owner (hsteady.sec.trans ((congrArg State.sec hshown).trans rfl))).trans hsec, ?_, ?_⟩
  · rw [State.bit_event _ _ _ _ _ _ (by decide) (by decide)]
    exact hbit3
  · rw [State.bit_event _ _ _ _ _ _ (by decide) (by decide)]
    exact hbit2'

/-! ### TRANSFER -/

/-- The record that TRANSFER points to can be read (R624). -/
def State.recordReadable (u : State) (a : Nat) : Prop :=
  isHost a = true ∧ addrIova a + 896 ≤ 2 ^ 44 ∧ u.hostMapped (addrIova a) 896 = true ∧ u.hostClean (addrIova a) 896 = true

/-- The address that SEC_XFER_ADDR names. -/
def State.xferAddr (u : State) : Nat := u.nat Reg.secXferAddrLo + 2 ^ 32 * u.fld Reg.secXferAddrHi 15 0

/-- A change asked for by TRANSFER, before the new nonce. -/
def State.transferAsked (u : State) : State :=
  if u.imagePresent then u.ownerFail 1
  else if u.fuses.ownerLocked then u.ownerFail 5
  else if !isHost u.xferAddr || decide (2 ^ 44 < addrIova u.xferAddr + 896) || !u.hostMapped (addrIova u.xferAddr) 896 ||
      !u.hostClean (addrIova u.xferAddr) 896 then u.ownerFail 6
  else if u.recordOk (u.host.mem.read (addrIova u.xferAddr) 896) then u.ownerStart 2 (recordHash (u.host.mem.read (addrIova u.xferAddr) 896))
  else u.ownerFail 4

theorem doOwnerTransfer_served {s : State} {env : Env} (hs : (s.arrive env).ownerServed = true) :
    doOwnerTransfer env s = (s.arrive env).transferAsked.newNonce := by
  unfold doOwnerTransfer State.transferAsked
  generalize s.arrive env = u at hs ⊢
  rw [if_neg (by rw [hs]; decide)]
  rw [apply_ite State.newNonce, apply_ite State.newNonce, apply_ite State.newNonce, apply_ite State.newNonce]
  rfl

theorem transferAsked_readable {u : State} (h1 : u.imagePresent = false) (h2 : u.fuses.ownerLocked = false) (h : u.recordReadable u.xferAddr) :
    u.transferAsked = if u.recordOk (u.host.mem.read (addrIova u.xferAddr) 896)
      then u.ownerStart 2 (recordHash (u.host.mem.read (addrIova u.xferAddr) 896)) else u.ownerFail 4 := by
  obtain ⟨hhost, hend, hmap, hclean⟩ := h
  unfold State.transferAsked
  rw [if_neg (by rw [h1]; decide), if_neg (by rw [h2]; decide), if_neg]
  simp only [hhost, hmap, hclean, decide_eq_false (Nat.not_lt.mpr hend)]
  decide

theorem transferAsked_unreadable {u : State} (h1 : u.imagePresent = false) (h2 : u.fuses.ownerLocked = false) (h : ¬ u.recordReadable u.xferAddr) :
    u.transferAsked = u.ownerFail 6 := by
  unfold State.transferAsked
  rw [if_neg (by rw [h1]; decide), if_neg (by rw [h2]; decide), if_pos]
  refine Decidable.byContradiction fun hno => h ?_
  simpa [State.recordReadable, and_assoc] using hno

/-- Whatever TRANSFER asks for, NVM has not changed yet and no nonce is drawn twice. -/
theorem transferAsked_keeps (u : State) : u.transferAsked.nvm = u.nvm ∧ u.transferAsked.sec.nonceNo = u.sec.nonceNo := by
  unfold State.transferAsked
  split
  · exact ⟨rfl, rfl⟩
  · split
    · exact ⟨rfl, rfl⟩
    · split
      · exact ⟨rfl, rfl⟩
      · split <;> exact ⟨rfl, rfl⟩

/-! ### SPDM -/

/-- An answer of the SPDM responder with this code. -/
def SpdmSent (b : Nat) (t : State) (code : Nat) : Prop := ∃ p1 p2 body, t.out.head? =
  some (.mctp b 0 0x05 ([0x12, BitVec.ofNat 8 code, BitVec.ofNat 8 p1, BitVec.ofNat 8 p2] ++ body))

theorem spdmSend_sent (s : State) (b code p1 p2 : Nat) (body : List Byte) : SpdmSent b (s.spdmSend b code p1 p2 body) code :=
  ⟨p1, p2, body, rfl⟩

theorem spdmAt_runs {s : State} {b stage : Nat} (hserved : s.spdmServed b = true) (hstage : stage ≤ s.sec.spdmStage) (f : State → State) :
    s.spdmAt b stage f = f s := by
  simp [State.spdmAt, hserved, Nat.not_lt.mpr hstage]

theorem spdmAt_early {s : State} {b stage : Nat} (hserved : s.spdmServed b = true) (hstage : s.sec.spdmStage < stage) (f : State → State) :
    s.spdmAt b stage f = s.spdmError b 4 := by
  simp [State.spdmAt, hserved, hstage]

theorem inSession_unknown {s : State} {b id : Nat} (hserved : s.spdmServed b = true) (hx : s.session b id = none) (fin : Bool)
    (f : Session → State → State) : s.inSession b id fin f = s.spdmError b 2 := by
  simp [State.inSession, hserved, hx]

end Sys2Proof.Machine

namespace Sys2Proof.Proofs
open Sys2Proof.Machine

/-- Settles O43: the branches of the update over BAR0, with the registers that show them. -/
theorem firmwareUpdate : Obligations.FirmwareUpdate := by
  unfold Obligations.FirmwareUpdate
  refine fun s => ⟨fun hs => ⟨fun hp => ?_, fun hp => ?_, fun hp hb => ⟨fun data => ?_, ?_, fun hv => ?_, fun hv => ?_, ?_⟩, ?_⟩,
    fun key hk hne => ⟨?_, ?_⟩, fun hb hp => ⟨fun hv => ?_, fun hv h16 => ?_⟩, fun hb hp => ?_⟩
  · refine completes_of (exec_fwOpen s) rfl ?_
    rw [doFwOpen_idle hs hp]
    exact ⟨rfl, rfl, rfl, State.bit_setBit_same _ _ _ _ (by decide), rfl⟩
  · exact becomes_of (exec_fwOpen s) rfl (doFwOpen_busy hs hp)
  · refine completes_of (exec_fwPortWrite data s) rfl ?_
    have hdo : doFwPortWrite data s = s.fwStage data := by simp [doFwPortWrite, hs, hp, hb]
    have hlen : s.fwStagedLength = s.nat Reg.secFwLength := by simp [State.fwStagedLength, hp]
    rw [hdo, ← hlen]
    exact ⟨rfl, rfl, rfl⟩
  · refine completes_of (exec_fwVerify s) rfl ?_
    have hdo : doFwVerify s = s.fwBeginVerify := by simp [doFwVerify, hs, hp, hb]
    rw [hdo]
    exact fwBeginVerify_begins s
  · refine completes_of (exec_fwCommit 0xA5 s) rfl ?_
    have hdo : doFwCommit 0xA5 s = s.fwBeginCommit := by simp [doFwCommit, hs, hp, hb, hv]
    rw [hdo]
    exact fwBeginCommit_begins s
  · exact becomes_of (exec_fwCommit 0xA5 s) rfl (by simp [doFwCommit, hs, hb, hv])
  · refine completes_of (exec_fwCancel s) rfl ?_
    have hdo : doFwCancel s = s.fwEnd.setBit Reg.secFwStatus 2 false := by simp [doFwCancel, hs, hp, hb]
    rw [hdo]
    exact fwCancel_ends s
  · exact becomes_of (exec_fwRecover 0xA5 s) rfl (by simp [doFwRecover, hs])
  · exact becomes_of (exec_fwCommit key s) (decide_eq_true hk) (by simp [doFwCommit, hne])
  · exact becomes_of (exec_fwRecover key s) (decide_eq_true hk) (by simp [doFwRecover, hne])
  · refine completes_of (exec_fwVerifyDone s) rfl ?_
    rw [doFwVerifyDone_bar0 hb hp, if_pos hv]
    have hbit0 := State.bit_setBit_same (s.verdictIn true) Reg.secFwStatus 0 false (by decide)
    have hframe : RegsOnly (s.verdictIn true) (((s.verdictIn true).setBit Reg.secFwStatus 0 false).setBit Reg.secFwStatus 2 true) :=
      ((RegsOnly.refl _).setBit _ _ _).setBit _ _ _
    generalize (s.verdictIn true).setBit Reg.secFwStatus 0 false = t at hbit0 hframe ⊢
    have hbit2 := State.bit_setBit_same t Reg.secFwStatus 2 true (by decide)
    have hkeep := (State.bit_setBit_ne t Reg.secFwStatus 2 true Reg.secFwStatus 0 (.inr (by decide))).trans hbit0
    generalize t.setBit Reg.secFwStatus 2 true = u at hbit2 hkeep hframe ⊢
    rw [hframe]
    exact ⟨rfl, rfl, hbit2, hkeep, rfl⟩
  · refine completes_of (exec_fwVerifyDone s) rfl ?_
    rw [doFwVerifyDone_bar0 hb hp, if_neg hv]
    obtain ⟨hbit, hcode⟩ := State.fwFail_shows ((s.verdictIn false).setBit Reg.secFwStatus 0 false) h16
    exact ⟨rfl, rfl, hbit, hcode, rfl⟩
  · exact completes_of (exec_fwCommitDone s) rfl (doFwCommitDone_bar0 hb hp)

/-- Settles O44: the branches of the requests in their order, and the end of a change (`ownerDone_shows`). -/
theorem ownership : Obligations.Ownership := by
  unfold Obligations.Ownership
  refine fun s env => ⟨fun hs => ⟨fun him => ⟨?_, ?_⟩, fun him => ⟨fun hl => ?_, fun hl hh => ?_, fun hl hh hr => ?_, fun hl hh hr => ?_, fun hh => ?_,
    fun hh => ?_⟩⟩, fun hs => ?_, fun j hj => ⟨fun h3 => ?_, fun h3 => ?_, ?_⟩, fun ok hj => ?_⟩
  · exact becomes_of (exec_ownerEnroll s) rfl (by simp [doOwnerEnroll, hs, him])
  · exact becomes_of (exec_ownerLock 0xA5 s) rfl (by simp [doOwnerLock, hs, him])
  · exact becomes_of (exec_ownerEnroll s) rfl (by simp [doOwnerEnroll, hs, him, hl])
  · exact becomes_of (exec_ownerEnroll s) rfl (by simpa [doOwnerEnroll, hs, him, hl] using fun h => absurd h hh)
  · exact becomes_of (exec_ownerEnroll s) rfl (by simp [doOwnerEnroll, hs, him, hl, hh, hr])
  · refine completes_of (exec_ownerEnroll s) rfl ?_
    have hdo : doOwnerEnroll s = s.ownerStart 1 s.ownerRegs := by simpa [doOwnerEnroll, hs, him, hl, hh] using fun h => absurd h hr
    obtain ⟨howner, hbit, hnvm, -, -⟩ := s.ownerStart_starts 1 s.ownerRegs
    rw [hdo]
    exact ⟨howner, hbit, hnvm⟩
  · exact becomes_of (exec_ownerLock 0xA5 s) rfl (by simp [doOwnerLock, hs, him, hh])
  · refine completes_of (exec_ownerLock 0xA5 s) rfl ?_
    have hdo : doOwnerLock 0xA5 s = s.ownerStart 3 s.nvm.ownerHash := by simpa [doOwnerLock, hs, him] using fun h => absurd h hh
    obtain ⟨howner, -, -, hfuses, -⟩ := s.ownerStart_starts 3 s.nvm.ownerHash
    rw [hdo]
    exact ⟨howner, hfuses⟩
  · have hdo := doOwnerTransfer_served hs
    have haddr : (s.arrive env).xferAddr = s.nat Reg.secXferAddrLo + 2 ^ 32 * s.fld Reg.secXferAddrHi 15 0 := rfl
    obtain ⟨hkeepNvm, hkeepNonce⟩ := transferAsked_keeps (s.arrive env)
    refine ⟨fun him => ?_, fun him hl => ?_, fun him hl hread => ?_, fun him hl hread => ⟨fun hok => ?_, fun hok => ?_⟩, ?_⟩
    · exact becomes_of (exec_ownerTransfer env s) rfl (hdo.trans (congrArg State.newNonce (if_pos him)))
    · exact becomes_of (exec_ownerTransfer env s) rfl
        (hdo.trans (congrArg State.newNonce ((if_neg (by rw [him]; decide)).trans (if_pos hl))))
    · exact becomes_of (exec_ownerTransfer env s) rfl (hdo.trans (congrArg State.newNonce (transferAsked_unreadable him hl hread)))
    · refine completes_of (exec_ownerTransfer env s) rfl ?_
      rw [hdo, transferAsked_readable him hl hread, haddr, if_pos hok]
      obtain ⟨howner, hbit, hnvm, -, hnonce⟩ := (s.arrive env).ownerStart_starts 2
        (recordHash ((s.arrive env).host.mem.read (addrIova (s.nat Reg.secXferAddrLo + 2 ^ 32 * s.fld Reg.secXferAddrHi 15 0)) 896))
      exact ⟨howner, hbit, congrArg (· + 1) hnonce, hnvm⟩
    · exact becomes_of (exec_ownerTransfer env s) rfl
        (hdo.trans (congrArg State.newNonce ((transferAsked_readable him hl hread).trans (if_neg (by rw [haddr, hok]; decide)))))
    · refine completes_of (exec_ownerTransfer env s) rfl ?_
      rw [hdo]
      exact ⟨congrArg (· + 1) hkeepNonce, hkeepNvm⟩
  · refine completes_of (exec_ownerDone true s) rfl ?_
    obtain ⟨hhash, hfuses, howner, h3', h2'⟩ := ownerDone_shows hj
    refine ⟨hhash.trans ?_, howner, hfuses.trans ?_, h3', h2'⟩
    · rw [State.ownerTaken, if_neg h3]
    · rw [State.ownerTaken, if_neg h3]
      rfl
  · refine completes_of (exec_ownerDone true s) rfl ?_
    obtain ⟨hhash, hfuses, howner, -, -⟩ := ownerDone_shows hj
    refine ⟨(congrArg Fuses.ownerLocked hfuses).trans ?_, hhash.trans ?_, howner⟩
    · rw [State.ownerTaken, if_pos h3]
    · rw [State.ownerTaken, if_pos h3]
      rfl
  · refine completes_of (exec_ownerDone false s) rfl ?_
    rw [doOwnerDone_failed hj]
    obtain ⟨hbit, hcode⟩ := State.ownerFail_shows ((({ s with sec := { s.sec with owner := none } } : State).setBit Reg.secOwnerStatus 2 false))
      (code := 6) (by decide)
    exact ⟨rfl, rfl, rfl, hbit, hcode⟩
  · refine becomes_of (exec_ownerDone ok s) rfl ?_
    simp only [doOwnerDone, hj]

/-- Settles O45: a request in its stage runs its row (`spdmAt_runs`, `inSession_runs`), and every answer is an `spdmSend`. -/
theorem spdmResponder : Obligations.SpdmResponder := by
  unfold Obligations.SpdmResponder
  refine fun s b req hb hserved => ⟨?_, fun hst => ?_, fun hst => ?_, fun hst => ⟨?_, ?_⟩,
    fun hst => ⟨?_, fun off len hoff => ?_, fun hslot => ?_, fun i hi => ?_, fun hslot hlen => ?_, fun hslot hlen => ?_⟩,
    fun id x hx => ⟨fun hfin => ?_, fun hfin => ⟨?_, ?_, ?_⟩⟩, fun id hx => ⟨?_, ?_⟩⟩
  · refine completes_of (exec_spdmGetVersion b req s) (decide_eq_true hb) ?_
    rw [doSpdmGetVersion, if_pos hserved]
    exact ⟨rfl, rfl⟩
  · refine completes_of (exec_spdmGetCapabilities b req s) (decide_eq_true hb) ?_
    rw [doSpdmGetCapabilities, spdmAt_runs hserved hst]
    exact ⟨rfl, spdmSend_sent _ _ _ _ _ _⟩
  · refine completes_of (exec_spdmNegotiateAlgorithms b req s) (decide_eq_true hb) ?_
    rw [doSpdmNegotiateAlgorithms, spdmAt_runs hserved hst]
    exact ⟨rfl, spdmSend_sent _ _ _ _ _ _⟩
  · exact becomes_of (exec_spdmGetDigests b req s) (decide_eq_true hb) (spdmAt_early hserved hst _)
  · exact becomes_of (exec_spdmKeyExchange b req s) (decide_eq_true hb) (spdmAt_early hserved hst _)
  · exact becomes_of (exec_spdmGetDigests b req s) (decide_eq_true hb) (spdmAt_runs hserved hst _)
  · refine completes_of (exec_spdmGetCertificate b 0 off len s) (decide_eq_true hb) ?_
    have hin : (decide ((0 : Nat) ≠ 0) || decide (Config.certChain.length < off)) = false := by simp [hoff]
    rw [doSpdmGetCertificate, spdmAt_runs hserved hst]
    simp only [hin]
    exact ⟨spdmSend_sent _ _ _ _ _ _, rfl⟩
  · refine completes_of (exec_spdmChallenge b req s) (decide_eq_true hb) ?_
    rw [doSpdmChallenge, spdmAt_runs hserved hst]
    simp only [if_neg (not_not_intro hslot)]
    exact ⟨spdmSend_sent _ _ _ _ _ _, rfl⟩
  · refine completes_of (exec_spdmGetMeasurements b i req s) (decide_eq_true hb) ?_
    have hin : (decide (i ≠ 0) && decide (i ≠ 0xFF) && !s.measurementIndices.contains i) = false := by
      rcases hi with h | h | h <;> simp [h]
    rw [doSpdmGetMeasurements, spdmAt_runs hserved hst]
    simp only [hin]
    exact spdmSend_sent _ _ _ _ _ _
  · refine completes_of (exec_spdmKeyExchange b req s) (decide_eq_true hb) ?_
    rw [doSpdmKeyExchange, spdmAt_runs hserved hst]
    simp only [if_neg (not_not_intro hslot), if_neg (Nat.not_le.mpr hlen)]
    exact ⟨spdmSend_sent _ _ _ _ _ _, rfl, rfl⟩
  · refine becomes_of (exec_spdmKeyExchange b req s) (decide_eq_true hb) ?_
    rw [doSpdmKeyExchange, spdmAt_runs hserved hst]
    simp only [if_neg (not_not_intro hslot), if_pos hlen]
  · exact becomes_of (exec_spdmFinish b id req s) (decide_eq_true hb) (inSession_runs hserved hx hfin _)
  · exact becomes_of (exec_spdmHeartbeat b id s) (decide_eq_true hb) (inSession_runs hserved hx hfin _)
  · exact becomes_of (exec_spdmKeyUpdate b id s) (decide_eq_true hb) (inSession_runs hserved hx hfin _)
  · refine completes_of (exec_spdmEndSession b id s) (decide_eq_true hb) ?_
    rw [doSpdmEndSession, inSession_runs hserved hx hfin]
    exact ⟨rfl, spdmSend_sent _ _ _ _ _ _⟩
  · exact becomes_of (exec_spdmFinish b id req s) (decide_eq_true hb) (inSession_unknown hserved hx _ _)
  · exact becomes_of (exec_spdmHeartbeat b id s) (decide_eq_true hb) (inSession_unknown hserved hx _ _)

end Sys2Proof.Proofs
end

section
/-! PROOF. The almanac's commands, MCTP control and PLDM (R649–R662, R684). -/
namespace Sys2Proof.Machine

/-! ### Freezes of the almanac -/

/-- A freeze asked for where none runs holds the entries of the ring, its own first entry among them (R650). -/
def FreezeBegun (s : State) (origin : Nat) (t : State) : Prop :=
  (∃ f, t.alm.freeze = some f ∧ f.origin = origin ∧ f.record = s.nextRecord ∧ f.entries = t.alm.entries) ∧
  t.alm.count = s.alm.count + 1 ∧ t.cmds = s.cmds ∧ t.mem = s.mem ∧ t.image = s.image

theorem startFreeze_freeze (s : State) (e : Entry) (origin : Nat) (r : Option Nat) :
    ∃ f, (s.startFreeze e origin r).alm.freeze = some f ∧ f.origin = origin ∧ f.record = r ∧
      f.entries = (s.startFreeze e origin r).alm.entries :=
  ⟨_, rfl, rfl, rfl, rfl⟩

theorem requestFreeze_begins {s : State} (hrec : s.recovery = false) (hstage : 0 < s.stage) (hnone : s.alm.freeze = none) (origin : Nat) :
    FreezeBegun s origin (s.requestFreeze origin) := by
  unfold State.requestFreeze
  simp only [hnone, hrec, Nat.ne_of_gt hstage, Bool.false_or, decide_false, Bool.false_eq_true, if_false]
  generalize entryWithLost _ s.alm.lostBefore = e
  obtain ⟨hcount, -, -, -⟩ := toRing_alm s.lossTold e hnone
  have hframe := (EventFrame.lossTold s).trans (.toRing s.lossTold e)
  generalize s.lossTold.toRing e = t at hcount hframe ⊢
  have hstart := hframe.trans (.startFreeze t e origin s.nextRecord)
  exact ⟨startFreeze_freeze t e origin s.nextRecord, hcount, (congrArg State.cmds hstart.1).trans rfl,
    (congrArg State.mem hstart.1).trans rfl, (congrArg State.image hstart.1).trans rfl⟩

theorem requestFreeze_running {s : State} (h : s.alm.freeze.isSome = true) (origin : Nat) : s.requestFreeze origin = s := by
  unfold State.requestFreeze
  split
  · rfl
  · next hnone => rw [hnone] at h; exact absurd h (by decide)

/-- A reply leaves the freeze as it stands. -/
theorem FreezeBegun.reply {s t : State} {origin : Nat} (h : FreezeBegun s origin t) (b cmd inst cc : Nat) (body : List Byte) :
    FreezeBegun s origin (t.vendorReply b cmd inst cc body) := h

/-- With nothing waiting, the ring drains nothing. -/
theorem drainFuel_empty {s : State} (h : s.alm.queue = []) (n : Nat) : State.drainFuel n s = s := by
  cases n with
  | zero => rfl
  | succ n => simp only [State.drainFuel, h]

/-- The state with the freeze over. -/
def State.freezeOver (s : State) : State := { s with alm := { s.alm with freeze := none } }

/-- The state with the record of a freeze in NVM (R652). -/
def State.freezeKept (s : State) (f : Freeze) (k : Nat) : State :=
  let u := s.wearWrite
  { u with nvm := { u.nvm with
      frozen := SMap.set (fun _ => none) u.nvm.frozen k (some ⟨BitVec.ofNat 2048 (freezeHeader s f), f.entries⟩)
      frozenSeq := f.seq
      frozenLast := some k } }

theorem doAlmFreezeComplete_kept {s : State} {f : Freeze} {k : Nat} (hf : s.alm.freeze = some f) (hk : f.record = some k)
    (horigin : f.origin ≠ 0) (hq : s.alm.queue = []) : doAlmFreezeComplete s = (s.freezeKept f k).freezeOver := by
  simp only [doAlmFreezeComplete, hf, hk, horigin, if_false]
  exact drainFuel_empty (s := (s.freezeKept f k).freezeOver) hq _

/-- With every record held, a freeze leaves none (R652). -/
theorem doAlmFreezeComplete_lost {s : State} {f : Freeze} (hf : s.alm.freeze = some f) (hr : f.record = none) (horigin : f.origin ≠ 0)
    (hq : s.alm.queue = []) : doAlmFreezeComplete s = s.freezeOver := by
  simp only [doAlmFreezeComplete, hf, hr, horigin, if_false]
  exact drainFuel_empty (s := s.freezeOver) hq _

/-! ### Commands over MCTP -/

theorem vendorCmd_runs {s : State} {b : Nat} (hserved : s.mctpServed b = true) (hrec : s.recovery = false) (cmd inst : Nat) (r : Bool)
    (f : State → State) : s.vendorCmd b cmd inst r f = f s := by
  simp [State.vendorCmd, hserved, hrec]

theorem vendorCmd_recovery {s : State} {b : Nat} (hserved : s.mctpServed b = true) (hrec : s.recovery = true) (cmd inst : Nat)
    (f : State → State) : s.vendorCmd b cmd inst false f = s.vendorReply b cmd inst St.noImage [] := by
  simp [State.vendorCmd, hserved, hrec]

theorem pldmServed_of {s : State} {b : Nat} (hserved : s.mctpServed b = true) (hrec : s.recovery = false) (typ : Nat) :
    s.pldmServed b typ = true := by
  simp [State.pldmServed, hserved, hrec]

theorem pldmServed_update {s : State} {b : Nat} (hserved : s.mctpServed b = true) : s.pldmServed b 5 = true := by
  simp [State.pldmServed, hserved]

theorem pldmServed_congr {s t : State} (hreg : t.reg Reg.idBoot = s.reg Reg.idBoot) (hpower : t.power = s.power) (hpcie : t.pcie = s.pcie)
    (hpins : t.pins = s.pins) (hmctp : t.mctp = s.mctp) (b typ : Nat) : t.pldmServed b typ = s.pldmServed b typ := by
  simp only [State.pldmServed, State.mctpServed, State.mctpUp, State.bindingUp, State.recovery, State.stage, State.eid, State.bit, State.fld,
    hreg, hpower, hpcie, hpins, hmctp]
  rfl

theorem pldmReply_served {s : State} {b typ : Nat} (h : s.pldmServed b typ = true) (inst cmd cc : Nat) (body : List Byte) :
    s.pldmReply b inst typ cmd cc body = s.pldmSend b false inst typ cmd (BitVec.ofNat 8 cc :: body) := if_pos h

theorem pldmPlain_served {s : State} {b typ : Nat} (h : s.pldmServed b typ = true) (inst cmd : Nat) (req : List Byte) :
    s.pldmPlain b inst typ cmd req = s.pldmSend b false inst typ cmd (0 :: Config.response (256 + typ) cmd req) := if_pos h

/-! ### The mailbox over MCTP -/

/-- A request that finds the mailbox free is done at once. -/
theorem mbxSubmit_free {s : State} (hrun : s.mbx.running = none) (hq : s.mbx.queue = []) (q : MbxReq) : s.mbxSubmit q = s.mbxRun q := by
  have hself : ({ s with mbx := { s.mbx with queue := [] } } : State) = s := by rw [← hq]
  have hdrain : State.mbxDrain 1 { s with mbx := { s.mbx with queue := [q] } } = ({ s with mbx := { s.mbx with queue := [] } } : State).mbxRun q := by
    simp only [State.mbxDrain, hrun]
  unfold State.mbxSubmit
  rw [hq]
  exact hdrain.trans (congrArg (fun u : State => u.mbxRun q) hself)

/-- Behind a STORE that runs, a request waits. -/
theorem mbxSubmit_waits {s : State} (hrun : s.mbx.running.isSome = true) (q : MbxReq) :
    s.mbxSubmit q = { s with mbx := { s.mbx with queue := s.mbx.queue ++ [q] } } := by
  obtain ⟨r, hr⟩ := Option.isSome_iff_exists.mp hrun
  unfold State.mbxSubmit
  simp only [State.mbxDrain, hr]

theorem mbxRun_done {s : State} {q : MbxReq} (h : q.op ≠ 0x03) : s.mbxRun q = (s.mbxDo q).2.mbxAnswer q (s.mbxDo q).1 := if_neg h

/-- SET of a value in its range (R122). -/
theorem mbxDo_set {s : State} {q : MbxReq} {r : Nat × Nat × Nat × Nat} (hop : q.op = 0x01) (hr : s.setting? (q.a0 % 65536) = some r)
    (hlo : r.2.1 ≤ q.a1) (hhi : q.a1 ≤ r.2.2.1) (hmin : q.a0 % 65536 = Key.minImageSerial → s.durableVal (q.a0 % 65536) ≤ q.a1) :
    s.mbxDo q = ((St.ok, none), s.setSetting (q.a0 % 65536) q.a1) := by
  have hrange : (decide (q.a1 < r.2.1) || decide (r.2.2.1 < q.a1)) = false := by simp [hlo, hhi]
  have hserial : (decide (q.a0 % 65536 = Key.minImageSerial) && decide (q.a1 < s.durableVal (q.a0 % 65536))) = false := by
    by_cases h : q.a0 % 65536 = Key.minImageSerial
    · simp [Nat.not_lt.mpr (hmin h)]
    · simp [h]
  simp only [State.mbxDo, hop, hr, hrange, hserial, if_true, Bool.false_eq_true, if_false]

/-- GET changes nothing (R122). -/
theorem mbxDo_get {s : State} {q : MbxReq} (hop : q.op = 0x02) : (s.mbxDo q).2 = s := by
  simp only [State.mbxDo, hop, Nat.reduceEqDiff, if_false, if_true]
  split <;> rfl

/-- What answers a setting that takes effect may write: registers, and the grant. -/
def SettingFrame (s t : State) : Prop := t = { s with regs := t.regs, power := t.power } ∧ t.reg Reg.mbxStatus = s.reg Reg.mbxStatus

theorem SettingFrame.refl (s : State) : SettingFrame s s := ⟨rfl, rfl⟩

theorem SettingFrame.trans {s t u : State} (h : SettingFrame s t) (k : SettingFrame t u) : SettingFrame s u := by
  obtain ⟨h, hr⟩ := h; obtain ⟨k, kr⟩ := k
  exact ⟨by rw [k]; simp only; rw [h], kr.trans hr⟩

theorem SettingFrame.setReg (s : State) {a : Nat} (v : Word) (ha : Reg.mbxStatus ≠ a) : SettingFrame s (s.setReg a v) :=
  ⟨rfl, State.reg_setReg_ne _ _ ha⟩

theorem SettingFrame.nvsFlags (s : State) : SettingFrame s s.nvsFlags :=
  (SettingFrame.setReg s _ (by decide)).trans (.setReg _ _ (by decide))

theorem SettingFrame.applySetting (s : State) (k : Nat) : SettingFrame s (s.applySetting k) := by
  unfold State.applySetting
  split
  · exact .setReg s _ (by decide)
  · split
    · exact .setReg s _ (by decide)
    · split
      · exact .setReg s _ (by decide)
      · exact .refl s

theorem SettingFrame.applyGrant (s : State) (w lease src : Nat) : SettingFrame s (s.applyGrant w lease src) := by
  unfold State.applyGrant
  refine SettingFrame.trans ?_ (.setReg _ _ (by decide))
  refine SettingFrame.trans ?_ (.setReg _ _ (by decide))
  refine (SettingFrame.setReg s (a := Reg.pwrGrant) _ (by decide)).trans ⟨rfl, rfl⟩

theorem SettingFrame.showCap (s : State) : SettingFrame s s.showCap :=
  ((SettingFrame.setReg s _ (by decide)).trans (.setReg _ _ (by decide))).trans (.setReg _ _ (by decide))

theorem SettingFrame.grantFollows (s : State) : SettingFrame s s.grantFollows := by
  unfold State.grantFollows
  split
  · exact (SettingFrame.applyGrant s _ 0 0).trans (.showCap _)
  · exact .refl s

/-- The state with a setting in the shadow copy, and in force where it is LOCAL. -/
def State.settingPut (s : State) (k v : Nat) : State :=
  { s with sets := { s.sets with shadow := s.putSetting s.sets.shadow k v
                                 inforce := if isCommon k then s.sets.inforce else s.putSetting s.sets.inforce k v } }

theorem setSetting_eq (s : State) (k v : Nat) : s.setSetting k v = (if isCommon k then s.settingPut k v
    else if k = Key.grantDefault then ((s.settingPut k v).applySetting k).grantFollows else (s.settingPut k v).applySetting k).nvsFlags := by
  unfold State.setSetting State.settingPut
  cases isCommon k <;> rfl

theorem setSetting_frame (s : State) (k v : Nat) : SettingFrame (s.settingPut k v) (s.setSetting k v) := by
  rw [setSetting_eq]
  refine SettingFrame.trans ?_ (.nvsFlags _)
  split
  · exact .refl _
  · split
    · exact (SettingFrame.applySetting _ k).trans (.grantFollows _)
    · exact .applySetting _ k

theorem SettingFrame.sets {s t : State} (h : SettingFrame s t) : t.sets = s.sets := (congrArg State.sets h.1).trans rfl

theorem SettingFrame.settingDefault {s t : State} (h : SettingFrame s t) : t.settingDefault = s.settingDefault := by
  rw [h.1]; rfl

theorem SettingFrame.shadowVal {s t : State} (h : SettingFrame s t) (k : Nat) : t.shadowVal k = s.shadowVal k := by
  rw [State.shadowVal, h.settingDefault, h.sets, State.shadowVal]

theorem SettingFrame.inforce {s t : State} (h : SettingFrame s t) (k : Nat) : t.inforce k = s.inforce k := by
  rw [State.inforce, h.settingDefault, h.sets, State.inforce]

theorem settingPut_shadow_same (s : State) (k v : Nat) : (s.settingPut k v).shadowVal k = v := SMap.get_set_same _ _ _ _

theorem settingPut_shadow_ne (s : State) {k j : Nat} (v : Nat) (h : j ≠ k) : (s.settingPut k v).shadowVal j = s.shadowVal j :=
  SMap.get_set_ne _ _ _ _ h

/-! ### PLDM -/

theorem pldmCommands_mask {type : Nat} (h : [0, 2, 5].contains type = true) : (pldmCommands type).isEmpty = false ∧
    (pldmCommands type).foldl (fun a c => a + 2 ^ c) 0 =
      if type = 0 then 0x3C else if type = 2 then 0x300000000000000020010 else 0x2C190006 := by
  have hcases : type = 0 ∨ type = 2 ∨ type = 5 := by simpa using h
  rcases hcases with rfl | rfl | rfl <;> exact ⟨by decide, by decide⟩

theorem pldmCommands_none {type : Nat} (h : [0, 2, 5].contains type = false) : (pldmCommands type).isEmpty = true := by
  obtain ⟨h0, h2, h5⟩ : type ≠ 0 ∧ type ≠ 2 ∧ type ≠ 5 := by simpa using h
  simp [pldmCommands, h0, h2, h5]

theorem ite_some_ne_none {α : Type} {p : Prop} [Decidable p] {x : α} {y : Option α} (h : y ≠ none) : (if p then some x else y) ≠ none := by
  split
  · exact Option.some_ne_none x
  · exact h

theorem sensorReading_none (s : State) (sensor : Nat) : s.sensorReading sensor = none ↔ (sensor = 0 ∨ 34 < sensor) := by
  unfold State.sensorReading
  split
  next h => simpa using h
  next h =>
    refine iff_of_false ?_ (by simpa using h)
    exact ite_some_ne_none (ite_some_ne_none (ite_some_ne_none (ite_some_ne_none (ite_some_ne_none (ite_some_ne_none (ite_some_ne_none
      (ite_some_ne_none (ite_some_ne_none (Option.some_ne_none _)))))))))

/-- A request of a PLDM update in its stage runs its row. -/
theorem pldmIn_runs {s : State} {b cmd : Nat} {states : List Nat} (hserved : s.mctpServed b = true) (hpath : s.sec.path = some .pldm)
    (hstate : states.contains s.sec.pldm.state = true) (inst : Nat) (f : State → State) : s.pldmIn b inst cmd states f = f s := by
  simp only [State.pldmIn, pldmServed_update hserved, hpath, hstate, Bool.not_true, Bool.false_eq_true, if_false, if_true, ne_eq, not_true]

theorem pldmIn_closed {s : State} {b : Nat} (hserved : s.mctpServed b = true) (hpath : s.sec.path ≠ some .pldm) (inst cmd : Nat)
    (states : List Nat) (f : State → State) : s.pldmIn b inst cmd states f = s.pldmSend b false inst 5 cmd [0x80] := by
  rw [State.pldmIn, if_neg (by rw [pldmServed_update hserved]; decide), if_pos hpath, pldmReply_served (pldmServed_update hserved)]
  rfl

theorem pldmSend_sends (s : State) (b : Nat) (rq : Bool) (inst typ cmd : Nat) (body : List Byte) :
    (s.pldmSend b rq inst typ cmd body).sec = s.sec ∧ (s.pldmSend b rq inst typ cmd body).nvm = s.nvm ∧
    (s.pldmSend b rq inst typ cmd body).out.length = s.out.length + 1 := ⟨rfl, rfl, rfl⟩

theorem pldmAsk_sends (s : State) : s.pldmAsk.sec = s.sec ∧ s.pldmAsk.nvm = s.nvm ∧ s.pldmAsk.out.length = s.out.length + 1 :=
  pldmSend_sends ..

/-- A PLDM update's beginning of its verification. -/
def State.downloaded (s : State) : State :=
  (((s.setPldm { s.sec.pldm with offset := s.sec.pldm.length, state := 4 })).pldmSend s.sec.pldm.binding true 0 5 0x16 [0]).fwBeginVerify

theorem downloaded_verifies (s : State) : s.downloaded.sec.pldm.state = 4 ∧ s.downloaded.sec.busy = .verifying ∧ s.downloaded.nvm = s.nvm :=
  ⟨rfl, rfl, rfl⟩

/-- The blocks of a download: the next is asked for until the last has come (R662). -/
theorem doPldmFirmwareData_of {s : State} (hpath : s.sec.path = some .pldm) (hstate : s.sec.pldm.state = 3)
    (hup : s.bindingUp s.sec.pldm.binding = true) (data : List Byte) :
    doPldmFirmwareData data s =
      let u := s.sec.pldm
      let bs := data.take (min 1024 (u.length - u.offset))
      let t := (s.fwStage bs).setPldm { u with offset := u.offset + bs.length }
      if u.offset + bs.length < u.length then t.pldmAsk else t.downloaded := by
  unfold doPldmFirmwareData
  rw [if_pos (by simp [hpath, hstate, hup])]
  rfl

/-- The end of an update leaves the module's standing on the bus as it was. -/
theorem pldmServed_fwCancel (s : State) (x : PldmUpdate) (b : Nat) :
    ((s.fwEnd.setBit Reg.secFwStatus 2 false).setPldm x).pldmServed b 5 = s.pldmServed b 5 := by
  unfold State.fwEnd
  generalize hu : ({ s with sec := _ } : State) = u
  have hframe := (((RegsOnly.refl u).setBit Reg.secFwStatus 0 false).setBit Reg.secFwStatus 1 false).setBit Reg.secFwStatus 2 false
  have hreg : (((u.setBit Reg.secFwStatus 0 false).setBit Reg.secFwStatus 1 false).setBit Reg.secFwStatus 2 false).reg Reg.idBoot =
      u.reg Reg.idBoot := by
    rw [State.reg_setBit_ne _ _ _ (by decide), State.reg_setBit_ne _ _ _ (by decide), State.reg_setBit_ne _ _ _ (by decide)]
  generalize ((u.setBit Reg.secFwStatus 0 false).setBit Reg.secFwStatus 1 false).setBit Reg.secFwStatus 2 false = t at hframe hreg ⊢
  rw [← pldmServed_congr (s := s) (t := u) (by rw [← hu]; rfl) (by rw [← hu]) (by rw [← hu]) (by rw [← hu]) (by rw [← hu])]
  exact pldmServed_congr hreg ((congrArg State.power hframe).trans rfl) ((congrArg State.pcie hframe).trans rfl)
    ((congrArg State.pins hframe).trans rfl) ((congrArg State.mctp hframe).trans rfl) b 5

/-- ACTIVATE_FIRMWARE resets the module (R622). -/
theorem reachReset_sec (s : State) {level : Nat} (hfree : s.heldByCommit level = false) (unit trigger : Nat) :
    (s.reachReset level unit trigger none none []).sec = s.sec := by
  rw [reachReset_free hfree]
  by_cases h : ∃ j ∈ s.resets.jobs, s.resetCovers j.level j.unit level unit = true
  · unfold State.beginReset
    split
    · rfl
    next hnone =>
      obtain ⟨j, hj, hc⟩ := h
      exact absurd hc (by simpa using List.find?_eq_none.mp hnone j hj)
  · rw [beginReset_of_uncovered (by simpa using h)]
    exact ((congrArg State.sec (State.meetScope_released _ level unit).1).trans rfl).trans
      ((congrArg State.sec (resetBegun_frame s level unit _)).trans rfl)

end Sys2Proof.Machine

namespace Sys2Proof.Proofs
open Sys2Proof.Machine

/-- Settles O46: a freeze begins where none runs (`requestFreeze_begins`), and its end keeps its record. -/
theorem almanacCommands : Obligations.AlmanacCommands := by
  unfold Obligations.AlmanacCommands
  refine fun s => ⟨fun hopen hrec => ⟨?_, fun hf hst => ?_, fun hf => ?_⟩, fun key hk hne => ?_, fun f k hf hk horigin hq => ?_,
    fun f hf hr horigin hq => ?_, fun hf => ?_, fun b inst hb hserved => ⟨fun hrec => ⟨?_, ?_⟩,
    fun hrec => ⟨?_, fun hf hst => ?_, fun hrep => ?_, fun hrep => ?_, fun source first count es hes => ?_, fun source first count hes => ?_⟩⟩⟩
  · exact becomes_of (exec_almFreeze 0xA5 s) rfl (by simp [doAlmFreeze, hopen, hrec])
  · refine completes_of (exec_almFreeze 0xA5 s) rfl ?_
    have hdo : doAlmFreeze 0xA5 s = s.requestFreeze 1 := by simp [doAlmFreeze, hopen, hrec]
    rw [hdo]
    exact requestFreeze_begins hrec hst hf 1
  · refine becomes_of (exec_almFreeze 0xA5 s) rfl ?_
    have hdo : doAlmFreeze 0xA5 s = s.requestFreeze 1 := by simp [doAlmFreeze, hopen, hrec]
    rw [hdo, requestFreeze_running hf]
  · exact becomes_of (exec_almFreeze key s) (decide_eq_true hk) (by simp [doAlmFreeze, hne])
  · refine completes_of (exec_almFreezeComplete s) rfl ?_
    rw [doAlmFreezeComplete_kept hf hk horigin hq]
    have hget := SMap.get_set_same (fun _ => none) s.nvm.frozen k (some (⟨BitVec.ofNat 2048 (freezeHeader s f), f.entries⟩ : FrozenRec))
    exact ⟨rfl, rfl, rfl, congrArg (Option.map fun r => r.entries) hget, rfl, rfl⟩
  · exact becomes_of (exec_almFreezeComplete s) rfl (doAlmFreezeComplete_lost hf hr horigin hq)
  · refine becomes_of (exec_almFreezeComplete s) rfl ?_
    simp only [doAlmFreezeComplete, hf]
  · exact becomes_of (exec_mctpAlmFreeze b inst s) (decide_eq_true hb) (vendorCmd_recovery hserved hrec _ _ _)
  · exact becomes_of (exec_mctpHeatReport b inst s) (decide_eq_true hb) (vendorCmd_recovery hserved hrec _ _ _)
  · exact becomes_of (exec_mctpAlmFreeze b inst s) (decide_eq_true hb) (vendorCmd_runs hserved hrec _ _ _ _)
  · refine completes_of (exec_mctpAlmFreeze b inst s) (decide_eq_true hb) ?_
    rw [doMctpAlmFreeze, vendorCmd_runs hserved hrec]
    exact (requestFreeze_begins hrec hst hf 2).reply b 0x03 inst St.ok []
  · refine becomes_of (exec_mctpHeatReport b inst s) (decide_eq_true hb) ((vendorCmd_runs hserved hrec _ _ _ _).trans ?_)
    exact if_neg (by simpa using hrep)
  · refine becomes_of (exec_mctpHeatReport b inst s) (decide_eq_true hb) ((vendorCmd_runs hserved hrec _ _ _ _).trans ?_)
    exact if_pos (by simpa using hrep)
  · refine becomes_of (exec_mctpAlmRead b inst source first count s) (decide_eq_true hb) ((vendorCmd_runs hserved hrec _ _ _ _).trans ?_)
    simp only [hes]
  · refine becomes_of (exec_mctpAlmRead b inst source first count s) (decide_eq_true hb) ((vendorCmd_runs hserved hrec _ _ _ _).trans ?_)
    simp only [hes]

/-- Settles O47: the control requests row by row, and the mailbox's turn (`mbxSubmit_free`, `mbxSubmit_waits`). -/
theorem managementControl : Obligations.ManagementControl := by
  unfold Obligations.ManagementControl
  refine fun s b hb => ⟨fun src eid hup hsrc h8 h255 => ?_, fun src eid hup hsrc heid hbad haddr => ?_, fun hup => ⟨?_, ?_, fun type ht => ?_,
    fun type hlt ht => ?_, ?_, ?_⟩, fun inst op a0 a1 a2 hserved hrec => ⟨fun hready => ⟨fun hrun => ?_, fun hrun hq => ⟨fun hop => ?_,
    fun v hop hv => ?_, fun r hop hr hlo hhi hmin => ?_⟩⟩, fun hready => ?_⟩⟩
  · refine completes_of (exec_mctpSetEid b src eid s) (decide_eq_true ⟨hb, hsrc, Nat.lt_succ_of_lt h255⟩) ?_
    have hgood : (decide (eid < 8) || decide (eid = 255)) = false := by simp; omega
    have hcases : b = 0 ∨ b = 1 := by omega
    unfold doMctpSetEid
    simp only [hup, hgood, Bool.not_true, Bool.false_eq_true, if_false]
    rcases hcases with rfl | rfl
    · by_cases haddr : s.mctp.i3cAddr = 0
      · simp only [haddr, decide_true, Bool.true_and, if_true]
        exact ⟨rfl, fun _ => rfl, rfl, rfl⟩
      · simp only [haddr, decide_false, Bool.and_false, Bool.false_eq_true, if_false, if_true]
        exact ⟨rfl, fun _ => rfl, rfl, rfl⟩
    · exact ⟨rfl, fun h => absurd h (by decide), rfl, rfl⟩
  · refine becomes_of (exec_mctpSetEid b src eid s) (decide_eq_true ⟨hb, hsrc, heid⟩) ?_
    have hno : (decide (b = 0) && decide (s.mctp.i3cAddr = 0)) = false := by simp [haddr]
    have hb' : (decide (eid < 8) || decide (eid = 255)) = true := by simpa using hbad
    simp only [doMctpSetEid, hup, hno, hb', Bool.not_true, Bool.false_eq_true, if_false, if_true]
  · exact becomes_of (exec_mctpGetEid b s) (decide_eq_true hb) (if_pos hup)
  · exact becomes_of (exec_mctpGetUuid b s) (decide_eq_true hb) (if_pos hup)
  · refine becomes_of (exec_mctpGetVersion b type s) (decide_eq_true hb) ?_
    have hknown : (decide (type = 0xFF) || mctpTypes.contains type) = true := by
      simp only [mctpTypes, List.contains_eq_mem, List.mem_cons, List.not_mem_nil, or_false, Bool.or_eq_true, decide_eq_true_eq] at ht ⊢
      omega
    simp only [doMctpGetVersion, hup, hknown, Bool.not_true, Bool.false_eq_true, if_false, if_true]
  · refine becomes_of (exec_mctpGetVersion b type s) (decide_eq_true hb) ?_
    have hknown : (decide (type = 0xFF) || mctpTypes.contains type) = false := by
      simp only [mctpTypes, List.contains_eq_mem, List.mem_cons, List.not_mem_nil, or_false, Bool.or_eq_false_iff, decide_eq_false_iff_not] at ht ⊢
      omega
    simp only [doMctpGetVersion, hup, hknown, Bool.not_true, Bool.false_eq_true, if_false]
  · exact becomes_of (exec_mctpGetTypes b s) (decide_eq_true hb) (if_pos hup)
  · exact becomes_of (exec_mctpGetVendor b s) (decide_eq_true hb) (if_pos hup)
  · refine becomes_of (exec_mctpMailbox b inst op a0 a1 a2 s) (decide_eq_true hb) ((vendorCmd_runs hserved hrec _ _ _ _).trans ?_)
    exact (if_pos hready).trans (mbxSubmit_waits hrun _)
  · refine becomes_of (exec_mctpMailbox b inst op a0 a1 a2 s) (decide_eq_true hb) ((vendorCmd_runs hserved hrec _ _ _ _).trans ?_)
    exact ((if_pos hready).trans (mbxSubmit_free hrun hq _)).trans (mbxRun_done hop)
  · have hdo : op % 256 ≠ 0x03 := by rw [hop]; decide
    refine becomes_of (exec_mctpMailbox b inst op a0 a1 a2 s) (decide_eq_true hb) ((vendorCmd_runs hserved hrec _ _ _ _).trans ?_)
    refine (((if_pos hready).trans (mbxSubmit_free hrun hq _)).trans (mbxRun_done hdo)).trans ?_
    rw [hv, mbxDo_get hop]
    rfl
  · refine completes_of (exec_mctpMailbox b inst op a0 a1 a2 s) (decide_eq_true hb) ?_
    have hdo : op % 256 ≠ 0x03 := by rw [hop]; decide
    rw [doMctpMailbox, vendorCmd_runs hserved hrec, if_pos hready, mbxSubmit_free hrun hq, mbxRun_done hdo,
      mbxDo_set hop hr hlo hhi fun h => absurd h hmin]
    have hframe := setSetting_frame s (a0 % 2 ^ 32 % 65536) (a1 % 2 ^ 32)
    have hout : (s.setSetting (a0 % 2 ^ 32 % 65536) (a1 % 2 ^ 32)).out = s.out := (congrArg State.out hframe.1).trans rfl
    exact ⟨(hframe.shadowVal _).trans (settingPut_shadow_same ..), (congrArg Settings.durable hframe.sets).trans rfl, hframe.2,
      congrArg (fun l => l.length + 1) hout⟩
  · refine becomes_of (exec_mctpMailbox b inst op a0 a1 a2 s) (decide_eq_true hb) ((vendorCmd_runs hserved hrec _ _ _ _).trans ?_)
    exact if_neg (by rw [hready]; decide)

/-- Settles O48: a served request is one reply (`pldmReply_served`, `pldmPlain_served`). -/
theorem pldmMonitoring : Obligations.PldmMonitoring := by
  unfold Obligations.PldmMonitoring
  intro s b inst hb hserved hrec
  have hwf := decide_eq_true hb
  have h0 := pldmServed_of hserved hrec 0
  have h2 := pldmServed_of hserved hrec 2
  refine ⟨?_, ?_, fun type ht => ⟨?_, ?_⟩, fun type ht => ⟨?_, ?_⟩, ?_, fun record => ?_, fun sensor v hv => ?_, fun sensor hv => ?_,
    sensorReading_none s, fun eid => ?_⟩
  · exact becomes_of (exec_pldmGetTid b inst s) hwf (pldmReply_served h0 _ _ _ _)
  · exact becomes_of (exec_pldmGetTypes b inst s) hwf (pldmReply_served h0 _ _ _ _)
  · exact becomes_of (exec_pldmGetVersion b inst type s) hwf ((if_pos ht).trans (pldmPlain_served h0 _ _ _))
  · obtain ⟨hne, hmask⟩ := pldmCommands_mask ht
    refine becomes_of (exec_pldmGetCommands b inst type s) hwf ?_
    simp only [doPldmGetCommands, hne, Bool.false_eq_true, if_false, hmask]
    exact pldmReply_served h0 _ _ _ _
  · exact becomes_of (exec_pldmGetVersion b inst type s) hwf ((if_neg (by rw [ht]; decide)).trans (pldmReply_served h0 _ _ _ _))
  · refine becomes_of (exec_pldmGetCommands b inst type s) hwf ?_
    exact (if_pos (pldmCommands_none ht)).trans (pldmReply_served h0 _ _ _ _)
  · exact becomes_of (exec_pldmGetPdrInfo b inst s) hwf (pldmPlain_served h2 _ _ _)
  · exact becomes_of (exec_pldmGetPdr b inst record s) hwf (pldmPlain_served h2 _ _ _)
  · refine becomes_of (exec_pldmGetSensor b inst sensor s) hwf ?_
    simp only [doPldmGetSensor, hv]
    exact pldmReply_served h2 _ _ _ _
  · refine becomes_of (exec_pldmGetSensor b inst sensor s) hwf ?_
    simp only [doPldmGetSensor, hv]
    exact pldmReply_served h2 _ _ _ _
  · refine becomes_of (exec_pldmSetReceiver b inst eid s) hwf ?_
    exact (if_pos h2).trans (if_pos h2)

/-- Settles O49: a request in its stage runs its row (`pldmIn_runs`). -/
theorem pldmUpdates : Obligations.PldmUpdates := by
  unfold Obligations.PldmUpdates
  intro s b inst hb hserved
  have hwf := decide_eq_true hb
  have h5 := pldmServed_update hserved
  refine ⟨?_, ?_, ?_, fun hp => ?_, fun hp => ?_, fun hp => ⟨fun hst => ?_, fun length hst hpos hle => ?_, fun data hst hup hmore => ?_,
    fun data hst hup hlast => ?_, fun hst => ?_, fun hst => ?_⟩, fun hp => ⟨?_, ?_, ?_, fun data => ?_⟩⟩
  · exact becomes_of (exec_pldmQueryDevice b inst s) hwf (pldmPlain_served h5 _ _ _)
  · exact becomes_of (exec_pldmGetFwParams b inst s) hwf (pldmPlain_served h5 _ _ _)
  · refine completes_of (exec_pldmGetStatus b inst s) hwf ?_
    rw [doPldmGetStatus, pldmReply_served h5]
    exact ⟨rfl, rfl⟩
  · refine completes_of (exec_pldmRequestUpdate b inst s) hwf ?_
    have hdo : doPldmRequestUpdate b inst s = ((s.fwStart .pldm).setPldm ⟨1, 0, 0, b⟩).pldmReply b inst 5 0x10 0 [0, 0, 0] := by
      simp [doPldmRequestUpdate, h5, hp]
    have hreg : ((s.fwStart .pldm).setPldm ⟨1, 0, 0, b⟩).reg Reg.idBoot = s.reg Reg.idBoot := State.reg_setBit_ne _ _ _ (by decide)
    rw [hdo, pldmReply_served ((pldmServed_congr hreg rfl rfl rfl rfl b 5).trans h5)]
    exact ⟨rfl, rfl, rfl, rfl⟩
  · refine completes_of (exec_pldmRequestUpdate b inst s) hwf ?_
    rcases hpath : s.sec.path with _ | p
    · exact absurd hpath hp
    · cases p <;> simp only [doPldmRequestUpdate, h5, hpath, Bool.not_true, Bool.false_eq_true, if_false, pldmReply_served h5] <;> rfl
  · refine completes_of (exec_pldmPassComponents b inst s) hwf ?_
    rw [doPldmPassComponents, pldmIn_runs hserved hp (by rw [hst]; rfl), State.pldmReply, if_pos (by exact h5)]
    exact ⟨rfl, rfl, rfl⟩
  · refine completes_of (exec_pldmUpdateComponent b inst length s) hwf ?_
    have hlen : (decide (length = 0) || decide (4194304 < length)) = false := by simp; omega
    rw [doPldmUpdateComponent, pldmIn_runs hserved hp (by rw [hst]; rfl)]
    simp only [hlen, Bool.false_eq_true, if_false]
    rw [State.pldmReply, if_pos (by exact h5)]
    generalize BitVec.ofNat 8 0 :: List.replicate 8 0 = body
    generalize ht : State.setPldm _ _ = t
    obtain ⟨hsec, hnvm, hout⟩ := pldmSend_sends t b false inst 5 0x14 body
    obtain ⟨hsec', hnvm', hout'⟩ := pldmAsk_sends (t.pldmSend b false inst 5 0x14 body)
    refine ⟨?_, ?_, ?_, ?_⟩
    · exact (congrArg Sec.pldm (hsec'.trans hsec)).trans (by rw [← ht]; rfl)
    · exact (congrArg Sec.staging (hsec'.trans hsec)).trans (by rw [← ht]; rfl)
    · exact hout'.trans ((congrArg (· + 1) hout).trans (by rw [← ht]; rfl))
    · exact (hnvm'.trans hnvm).trans (by rw [← ht]; rfl)
  · refine completes_of (exec_pldmFirmwareData data s) rfl ?_
    rw [doPldmFirmwareData_of hp hst hup]
    dsimp only
    rw [if_pos hmore]
    generalize data.take _ = bs
    generalize ht : State.setPldm _ _ = t
    obtain ⟨hsec, hnvm, -⟩ := pldmAsk_sends t
    have hpldm := congrArg Sec.pldm hsec
    exact ⟨(congrArg PldmUpdate.state hpldm).trans (by rw [← ht]; exact hst), hnvm.trans (by rw [← ht]; rfl),
      (congrArg PldmUpdate.offset hpldm).trans (by rw [← ht]; rfl)⟩
  · refine completes_of (exec_pldmFirmwareData data s) rfl ?_
    rw [doPldmFirmwareData_of hp hst hup]
    dsimp only
    rw [if_neg (Nat.not_lt.mpr hlast)]
    generalize data.take _ = bs
    generalize ht : State.setPldm _ _ = t
    obtain ⟨hstate, hbusy, hnvm⟩ := downloaded_verifies t
    exact ⟨hstate, hbusy, hnvm.trans (by rw [← ht]; rfl)⟩
  · refine completes_of (exec_pldmActivate b inst s) hwf ?_
    rw [doPldmActivate, pldmIn_runs hserved hp (by rw [hst]; rfl), State.pldmReply, if_pos (by exact h5)]
    generalize hu : State.pldmSend _ _ _ _ _ _ _ = u
    have hsec : u.sec.pldm.state = 6 := by rw [← hu]; rfl
    have hrest : { u with sec := s.sec, out := s.out } = s := by rw [← hu]; rfl
    have hfree := heldByCommit_module u.fresh
    obtain ⟨hruns, hbegins⟩ := reachReset_wide u.fresh (level := 5) (by decide) hfree (Config.freeNat u.freeCtr % 7)
    refine ⟨hruns, (congrArg (fun x : Sec => x.pldm.state) (reachReset_sec u.fresh hfree 0 _)).trans hsec, fun h => ?_⟩
    rw [← hrest] at h ⊢
    exact (hbegins h).of_same rfl rfl rfl rfl rfl rfl
  · refine completes_of (exec_pldmCancel b inst s) hwf ?_
    rw [doPldmCancel, pldmIn_runs hserved hp (by simpa using hst)]
    rw [pldmReply_served (s := State.setPldm _ _) ((pldmServed_fwCancel s ⟨0, 0, 0, 0⟩ b).trans h5)]
    obtain ⟨hpath, hstaging, -, -, hnvm⟩ := fwCancel_ends s
    generalize s.fwEnd.setBit Reg.secFwStatus 2 false = u at hpath hstaging hnvm ⊢
    exact ⟨hpath, hstaging, rfl, hnvm⟩
  · exact becomes_of (exec_pldmPassComponents b inst s) hwf (pldmIn_closed hserved hp _ _ _ _)
  · exact becomes_of (exec_pldmActivate b inst s) hwf (pldmIn_closed hserved hp _ _ _ _)
  · exact becomes_of (exec_pldmCancel b inst s) hwf (pldmIn_closed hserved hp _ _ _ _)
  · exact becomes_of (exec_pldmFirmwareData data s) rfl (if_neg (by simp [hp]))

end Sys2Proof.Proofs
end

section
/-! PROOF. The mailbox and the end of a STORE (R122–R136). -/
namespace Sys2Proof.Machine

/-! ### The answer in the mailbox's registers -/

theorem mbxAnswer_regsOnly (s : State) {q : MbxReq} (hsrc : q.src = none) (a : MbxAnswer) : RegsOnly s (s.mbxAnswer q a) := by
  unfold State.mbxAnswer
  rw [hsrc]
  have hregs := (((RegsOnly.refl s).setFld Reg.mbxStatus 15 8 a.1).setBit Reg.mbxStatus 1 true).setBit Reg.mbxStatus 0 false
  dsimp only
  split
  · exact hregs.setReg _ _
  · exact hregs

/-- The registers that show an answer. -/
theorem mbxAnswer_shows (s : State) {q : MbxReq} (hsrc : q.src = none) {a : MbxAnswer} (ha : a.1 < 256) :
    (s.mbxAnswer q a).bit Reg.mbxStatus 0 = false ∧ (s.mbxAnswer q a).bit Reg.mbxStatus 1 = true ∧
    (s.mbxAnswer q a).fld Reg.mbxStatus 15 8 = a.1 := by
  have hshow : ((((s.setFld Reg.mbxStatus 15 8 a.1).setBit Reg.mbxStatus 1 true).setBit Reg.mbxStatus 0 false).bit Reg.mbxStatus 0 = false ∧
      (((s.setFld Reg.mbxStatus 15 8 a.1).setBit Reg.mbxStatus 1 true).setBit Reg.mbxStatus 0 false).bit Reg.mbxStatus 1 = true ∧
      (((s.setFld Reg.mbxStatus 15 8 a.1).setBit Reg.mbxStatus 1 true).setBit Reg.mbxStatus 0 false).fld Reg.mbxStatus 15 8 = a.1) := by
    refine ⟨State.bit_setBit_same _ _ _ _ (by decide), ?_, ?_⟩
    · rw [State.bit_setBit_ne _ _ _ _ _ _ (.inr (by decide))]
      exact State.bit_setBit_same _ _ _ _ (by decide)
    · rw [State.fld_setBit_ne _ _ (.inr (by decide)), State.fld_setBit_ne _ _ (.inr (by decide)),
        State.fld_setFld_same _ _ _ _ _ (by decide) (by decide)]
      exact Nat.mod_eq_of_lt ha
  unfold State.mbxAnswer
  rw [hsrc]
  dsimp only
  split
  · generalize ((s.setFld Reg.mbxStatus 15 8 a.1).setBit Reg.mbxStatus 1 true).setBit Reg.mbxStatus 0 false = t at hshow ⊢
    rw [State.bit, State.bit, State.fld, State.reg_setNat_ne _ _ (by decide)]
    exact hshow
  · exact hshow

/-- The answer of a request that came over BAR0. -/
def MbxAnswered (s t : State) (st : Nat) : Prop :=
  t.bit Reg.mbxStatus 0 = false ∧ t.bit Reg.mbxStatus 1 = true ∧ t.fld Reg.mbxStatus 15 8 = st ∧
  t.mem = s.mem ∧ t.nvm = s.nvm ∧ t.cmds = s.cmds ∧ t.image = s.image

/-- What no request but a STORE touches. -/
def MbxKept (s u : State) : Prop := u.mem = s.mem ∧ u.nvm = s.nvm ∧ u.cmds = s.cmds ∧ u.image = s.image

theorem MbxKept.answered {s u : State} (h : MbxKept s u) {q : MbxReq} (hsrc : q.src = none) {st : Nat} (hst : st < 256) (v : Option Nat) :
    MbxAnswered s (u.mbxAnswer q (st, v)) st := by
  obtain ⟨h0, h1, hfld⟩ := mbxAnswer_shows u (a := (st, v)) hsrc hst
  have hregs := mbxAnswer_regsOnly u hsrc (st, v)
  obtain ⟨hmem, hnvm, hcmds, himage⟩ := h
  exact ⟨h0, h1, hfld, ((congrArg State.mem hregs).trans rfl).trans hmem, ((congrArg State.nvm hregs).trans rfl).trans hnvm,
    ((congrArg State.cmds hregs).trans rfl).trans hcmds, ((congrArg State.image hregs).trans rfl).trans himage⟩

theorem RegsOnly.mbxKept {s t : State} (h : RegsOnly s t) : MbxKept s t :=
  ⟨(congrArg State.mem h).trans rfl, (congrArg State.nvm h).trans rfl, (congrArg State.cmds h).trans rfl, (congrArg State.image h).trans rfl⟩

theorem RegsOnly.restored {s t : State} (h : RegsOnly s t) : { t with regs := s.regs } = s := by
  rw [h]

theorem RegsOnly.sets {s t : State} (h : RegsOnly s t) : t.sets = s.sets := (congrArg State.sets h).trans rfl

theorem RegsOnly.runs {s t : State} (h : RegsOnly s t) : t.runs = s.runs := (congrArg State.runs h).trans rfl

theorem RegsOnly.shadowVal {s t : State} (h : RegsOnly s t) (k : Nat) : t.shadowVal k = s.shadowVal k := by rw [h]; rfl

theorem RegsOnly.inforce {s t : State} (h : RegsOnly s t) (k : Nat) : t.inforce k = s.inforce k := by rw [h]; rfl

theorem RegsOnly.durableVal {s t : State} (h : RegsOnly s t) (k : Nat) : t.durableVal k = s.durableVal k := by rw [h]; rfl

theorem RegsOnly.setting? {s t : State} (h : RegsOnly s t) (k : Nat) : t.setting? k = s.setting? k := by rw [h]; rfl

theorem RegsOnly.settingDefault {s t : State} (h : RegsOnly s t) (k : Nat) : t.settingDefault k = s.settingDefault k := by rw [h]; rfl

theorem RegsOnly.runState {s t : State} (h : RegsOnly s t) (p : Nat) : t.runState p = s.runState p := by rw [h]; rfl

/-! ### A write of MBX_CMD -/

theorem mbxCmd_closed {s : State} (h : s.hostOpen = false) (op : Nat) : s.mbxCmd op = s := by simp [State.mbxCmd, h]

theorem mbxCmd_busy {s : State} (h : s.hostOpen = true) (hb : s.bit Reg.mbxStatus 0 = true) (op : Nat) :
    s.mbxCmd op = s.setBit Reg.mbxStatus 2 true := by
  simp [State.mbxCmd, h, hb]

/-- The request that MBX_CMD makes of the argument registers. -/
def State.mbxAsked (s : State) (op : Nat) : MbxReq := ⟨none, op, s.nat (Reg.mbxArg 0), s.nat (Reg.mbxArg 1), s.nat (Reg.mbxArg 2)⟩

/-- The state in which a request of MBX_CMD is done. -/
def State.mbxBusy (s : State) : State := s.setBit Reg.mbxStatus 0 true

theorem mbxBusy_regsOnly (s : State) : RegsOnly s s.mbxBusy := (RegsOnly.refl s).setBit _ _ _

theorem mbxCmd_free {s : State} (h : s.hostOpen = true) (hb : s.bit Reg.mbxStatus 0 = false) (hrun : s.mbx.running = none)
    (hq : s.mbx.queue = []) (op : Nat) : s.mbxCmd op = s.mbxBusy.mbxRun (s.mbxAsked op) := by
  rw [State.mbxCmd, if_neg (by rw [h]; decide), if_neg (by rw [hb]; decide)]
  exact mbxSubmit_free (s := s.mbxBusy) hrun hq _

theorem mbxCmd_done {s : State} (h : s.hostOpen = true) (hb : s.bit Reg.mbxStatus 0 = false) (hrun : s.mbx.running = none)
    (hq : s.mbx.queue = []) {op : Nat} (hop : op ≠ 0x03) :
    s.mbxCmd op = (s.mbxBusy.mbxDo (s.mbxAsked op)).2.mbxAnswer (s.mbxAsked op) (s.mbxBusy.mbxDo (s.mbxAsked op)).1 :=
  (mbxCmd_free h hb hrun hq op).trans (mbxRun_done hop)

theorem mbxCmd_answers {s : State} (h : s.hostOpen = true) (hb : s.bit Reg.mbxStatus 0 = false) (hrun : s.mbx.running = none)
    (hq : s.mbx.queue = []) {op : Nat} (hop : op ≠ 0x03) {a : MbxAnswer} {u : State} (hdo : s.mbxBusy.mbxDo (s.mbxAsked op) = (a, u)) :
    s.mbxCmd op = u.mbxAnswer (s.mbxAsked op) a := by
  rw [mbxCmd_done h hb hrun hq hop, hdo]

/-! ### Settings brought into force -/

theorem settingPut_common (s : State) {k : Nat} (v : Nat) (h : isCommon k = true) : (s.settingPut k v).sets.inforce = s.sets.inforce := if_pos h

theorem settingPut_local (s : State) {k : Nat} (v : Nat) (h : isCommon k = false) : (s.settingPut k v).inforce k = v := by
  unfold State.settingPut State.inforce
  dsimp only
  rw [if_neg (by rw [h]; decide)]
  exact SMap.get_set_same _ _ _ _

/-- The values of some keys, written into a copy. -/
theorem get_foldl_putSetting (s : State) (f : Nat → Nat) (l : List Nat) (m : SMap Nat) (k : Nat) :
    SMap.get s.settingDefault (l.foldl (fun m k => s.putSetting m k (f k)) m) k =
      if k ∈ l then f k else SMap.get s.settingDefault m k :=
  SMap.get_foldl_set s.settingDefault f l m k

theorem SettingFrame.foldl_applySetting (l : List Nat) (s : State) : SettingFrame s (l.foldl State.applySetting s) := by
  induction l generalizing s with
  | nil => exact .refl s
  | cons k l ih =>
    rw [List.foldl_cons]
    exact (SettingFrame.applySetting s k).trans (ih _)

/-- The state with the LOCAL keys of the shadow copy in force. -/
def State.localsIn (s : State) : State :=
  { s with sets := { s.sets with inforce := localKeys.foldl (fun m k => s.putSetting m k (s.shadowVal k)) s.sets.inforce } }

/-- The state with the LOCAL values of the shadow copy in force, and what follows from them (R124). -/
def State.shadowForced (s : State) : State := s.forceLocal.grantFollows.nvsFlags

theorem shadowForced_frame (s : State) : SettingFrame s.localsIn s.shadowForced :=
  ((SettingFrame.foldl_applySetting localKeys s.localsIn).trans (.grantFollows _)).trans (.nvsFlags _)

theorem shadowForced_values (s : State) : s.shadowForced.sets.shadow = s.sets.shadow ∧ s.shadowForced.sets.durable = s.sets.durable ∧
    (∀ k, s.shadowForced.shadowVal k = s.shadowVal k) ∧ (∀ k ∈ localKeys, s.shadowForced.inforce k = s.shadowVal k) ∧
    ∀ k ∈ commonKeys, s.shadowForced.inforce k = s.inforce k := by
  have hframe := shadowForced_frame s
  have hin : ∀ k, s.shadowForced.inforce k = if k ∈ localKeys then s.shadowVal k else s.inforce k := fun k =>
    (hframe.inforce k).trans (get_foldl_putSetting s s.shadowVal localKeys s.sets.inforce k)
  refine ⟨(congrArg Settings.shadow hframe.sets).trans rfl, (congrArg Settings.durable hframe.sets).trans rfl,
    fun k => (hframe.shadowVal k).trans rfl, fun k hk => ?_, fun k hk => ?_⟩
  · rw [hin, if_pos hk]
  · have hno : k ∉ localKeys := by
      have hall : ∀ k ∈ commonKeys, k ∉ localKeys := by decide
      exact hall k hk
    rw [hin, if_neg hno]

theorem SettingFrame.mbxKept {s t : State} (h : SettingFrame s t) : MbxKept s t := by
  obtain ⟨h, -⟩ := h
  exact ⟨(congrArg State.mem h).trans rfl, (congrArg State.nvm h).trans rfl, (congrArg State.cmds h).trans rfl, (congrArg State.image h).trans rfl⟩

theorem SettingFrame.runs {s t : State} (h : SettingFrame s t) : t.runs = s.runs := (congrArg State.runs h.1).trans rfl

/-- The state with the durable copy as the shadow copy (REVERT). -/
def State.reverted (s : State) : State := { s with sets := { s.sets with shadow := s.sets.durable } }

/-- The state with the defaults as the shadow copy, but for MIN_IMAGE_SERIAL (DEFAULTS). -/
def State.defaulted (s : State) : State :=
  { s with sets := { s.sets with shadow := s.putSetting [] Key.minImageSerial (s.shadowVal Key.minImageSerial) } }

theorem reverted_shadowVal (s : State) (k : Nat) : s.reverted.shadowVal k = s.durableVal k := rfl

theorem reverted_inforce (s : State) (k : Nat) : s.reverted.inforce k = s.inforce k := rfl

theorem defaulted_inforce (s : State) (k : Nat) : s.defaulted.inforce k = s.inforce k := rfl

theorem defaulted_shadowVal (s : State) (k : Nat) :
    s.defaulted.shadowVal k = if k = Key.minImageSerial then s.shadowVal k else s.settingDefault k := by
  split
  next h =>
    subst h
    exact SMap.get_set_same _ _ _ _
  next h => exact SMap.get_set_ne _ _ _ _ h

theorem mbxDo_revert (s : State) {q : MbxReq} (hop : q.op = 0x04) : s.mbxDo q = ((St.ok, none), s.reverted.shadowForced) := by
  simp only [State.mbxDo, hop, Nat.reduceEqDiff, if_false, if_true]
  rfl

theorem mbxDo_defaults (s : State) {q : MbxReq} (hop : q.op = 0x05) : s.mbxDo q = ((St.ok, none), s.defaulted.shadowForced) := by
  simp only [State.mbxDo, hop, Nat.reduceEqDiff, if_false, if_true]
  rfl

/-! ### QUIESCE and RESUME of polders -/

/-- Only registers and run states differ. -/
def RunsOnly (s t : State) : Prop := t = { s with regs := t.regs, runs := t.runs }

theorem RunsOnly.refl (s : State) : RunsOnly s s := rfl

theorem RunsOnly.trans {s t u : State} (h : RunsOnly s t) (k : RunsOnly t u) : RunsOnly s u := by
  unfold RunsOnly at *
  rw [k]; simp only; rw [h]

theorem RunsOnly.setRun (s : State) (p : Nat) (r : RunState) : RunsOnly s (s.setRun p r) := rfl

theorem RunsOnly.foldl {β : Type} (f : State → β → State) (h : ∀ s x, RunsOnly s (f s x)) (l : List β) (s : State) :
    RunsOnly s (l.foldl f s) := by
  induction l generalizing s with
  | nil => exact .refl s
  | cons x l ih =>
    rw [List.foldl_cons]
    exact (h s x).trans (ih _)

theorem runState_setRun_ne (s : State) {p j : Nat} (r : RunState) (h : j ≠ p) : (s.setRun p r).runState j = s.runState j :=
  SMap.get_set_ne _ _ _ _ h

theorem quiesce_runsOnly (s : State) (abort : Bool) (ms p : Nat) : RunsOnly s (s.quiesce abort false ms p) := by
  unfold State.quiesce
  split
  · exact .setRun s _ _
  · exact .setRun s _ _
  · exact .refl s

theorem quiesce_runState_ne (s : State) (abort : Bool) (ms : Nat) {p j : Nat} (h : j ≠ p) :
    (s.quiesce abort false ms p).runState j = s.runState j := by
  unfold State.quiesce
  split
  · exact runState_setRun_ne s _ h
  · exact runState_setRun_ne s _ h
  · rfl

/-- QUIESCE of some polders: those among them that run are STOPPING afterwards; the others, and the stopped ones, stay (R112). -/
theorem quiesce_all (abort : Bool) (ms : Nat) (l : List Nat) (s : State) :
    let t := l.foldl (State.quiesce · abort false ms) s
    (∀ p ∈ l, (s.runState p = .running ∨ s.runState p = .stopping (s.tick + 25000 * ms) abort false 0) →
      t.runState p = .stopping (s.tick + 25000 * ms) abort false 0) ∧
    ∀ p, (p ∉ l ∨ s.runState p = .stopped) → t.runState p = s.runState p := by
  induction l generalizing s with
  | nil => exact ⟨fun p hp => absurd hp List.not_mem_nil, fun p _ => rfl⟩
  | cons x l ih =>
    obtain ⟨hin, hout⟩ := ih (s.quiesce abort false ms x)
    have htick : (s.quiesce abort false ms x).tick = s.tick := (congrArg State.tick (quiesce_runsOnly s abort ms x)).trans rfl
    rw [htick] at hin
    simp only [List.foldl_cons]
    have hself : (s.runState x = .running ∨ s.runState x = .stopping (s.tick + 25000 * ms) abort false 0) →
        (s.quiesce abort false ms x).runState x = .stopping (s.tick + 25000 * ms) abort false 0 := by
      rintro (h | h)
      · simp only [State.quiesce, h]
        exact runState_setRun s x _
      · simp only [State.quiesce, h, Nat.min_self, Bool.or_self]
        exact runState_setRun s x _
    refine ⟨fun p hp hr => ?_, fun p hp => ?_⟩
    · by_cases hpx : p = x
      · subst hpx
        by_cases hl : p ∈ l
        · exact hin p hl (.inr (hself hr))
        · rw [hout p (.inl hl)]
          exact hself hr
      · refine hin p ((List.mem_cons.mp hp).resolve_left hpx) ?_
        rwa [quiesce_runState_ne s abort ms hpx]
    · by_cases hpx : p = x
      · subst hpx
        have hst : s.runState p = .stopped := hp.resolve_left fun h => h List.mem_cons_self
        have hq : (s.quiesce abort false ms p).runState p = s.runState p := by simp [State.quiesce, hst]
        rw [hout p (.inr (hq.trans hst)), hq]
      · have hq := quiesce_runState_ne s abort ms hpx
        rw [hout p (hp.imp (fun h hl => h (List.mem_cons_of_mem _ hl)) fun h => hq.trans h), hq]

theorem RunsOnly.mbxKept {s t : State} (h : RunsOnly s t) : MbxKept s t :=
  ⟨(congrArg State.mem h).trans rfl, (congrArg State.nvm h).trans rfl, (congrArg State.cmds h).trans rfl, (congrArg State.image h).trans rfl⟩

theorem RunsOnly.sets {s t : State} (h : RunsOnly s t) : t.sets = s.sets := (congrArg State.sets h).trans rfl

/-- One polder of RESUME: a stopped one runs (R118). -/
def State.resume (s : State) (p : Nat) : State := if s.runState p = .stopped then s.setRun p .running else s

theorem resume_runsOnly (s : State) (p : Nat) : RunsOnly s (s.resume p) := by
  unfold State.resume
  split
  · exact .setRun s _ _
  · exact .refl s

theorem resume_runState_ne (s : State) {p j : Nat} (h : j ≠ p) : (s.resume p).runState j = s.runState j := by
  unfold State.resume
  split
  · exact runState_setRun_ne s _ h
  · rfl

theorem resume_runState_same (s : State) (p : Nat) (h : s.runState p = .running ∨ s.runState p = .stopped) :
    (s.resume p).runState p = .running := by
  unfold State.resume
  rcases h with h | h
  · rw [if_neg (by rw [h]; decide)]
    exact h
  · rw [if_pos h]
    exact runState_setRun s p _

/-- RESUME of some polders none of which is stopping: they run, and the others stay. -/
theorem resume_all (l : List Nat) (s : State) (h : ∀ p ∈ l, s.runState p = .running ∨ s.runState p = .stopped) :
    (∀ p ∈ l, (l.foldl State.resume s).runState p = .running) ∧ ∀ p, p ∉ l → (l.foldl State.resume s).runState p = s.runState p := by
  induction l generalizing s with
  | nil => exact ⟨fun p hp => absurd hp List.not_mem_nil, fun p _ => rfl⟩
  | cons x l ih =>
    have hx := resume_runState_same s x (h x List.mem_cons_self)
    obtain ⟨hin, hout⟩ := ih (s.resume x) fun p hp => by
      by_cases hpx : p = x
      · subst hpx
        exact .inl hx
      · rw [resume_runState_ne s hpx]
        exact h p (List.mem_cons_of_mem _ hp)
    rw [List.foldl_cons]
    refine ⟨fun p hp => ?_, fun p hp => ?_⟩
    · by_cases hl : p ∈ l
      · exact hin p hl
      · rw [hout p hl, (List.mem_cons.mp hp).resolve_right hl]
        exact hx
    · rw [hout p fun hl => hp (List.mem_cons_of_mem _ hl), resume_runState_ne s fun heq => hp (by rw [heq]; exact List.mem_cons_self)]

/-- The polders that a request names. -/
def State.namedPolders (s : State) (mask : Nat) : List Nat := s.polders.filter (fun p => mask.testBit p)

theorem mem_namedPolders (s : State) (mask p : Nat) : p ∈ s.namedPolders mask ↔ p ∈ s.polders ∧ mask.testBit p = true := List.mem_filter

/-- A polder is stopping. -/
def RunState.isStopping : RunState → Bool
  | .stopping _ _ _ _ => true
  | _ => false

theorem RunState.isStopping_iff (r : RunState) : r.isStopping = true ↔ ∃ d a x n, r = .stopping d a x n := by
  cases r <;> simp [RunState.isStopping]

theorem RunState.not_isStopping_iff (r : RunState) : r.isStopping = false ↔ r = .running ∨ r = .stopped := by
  cases r <;> simp [RunState.isStopping]

theorem mbxDo_quiesce {s : State} {q : MbxReq} (hop : q.op = 0x10) (him : s.image.isSome = true) (hms : q.a2 ≤ 60000) :
    s.mbxDo q = ((St.ok, none), (s.namedPolders q.a0).foldl (State.quiesce · (q.a1.testBit 0) (q.a1.testBit 1)
      (if q.a2 = 0 then s.inforce Key.quiesceMs else q.a2)) s) := by
  have hnone : s.image.isNone = false := by
    cases h : s.image with
    | none => rw [h] at him; exact absurd him (by decide)
    | some im => rfl
  simp only [State.mbxDo, hop, Nat.reduceEqDiff, if_false, if_true, hnone, Bool.false_eq_true, Nat.not_lt.mpr hms]
  rfl

theorem mbxDo_resume {s : State} {q : MbxReq} (hop : q.op = 0x11) (him : s.image.isSome = true) :
    s.mbxDo q = if ((s.namedPolders q.a0).any (fun p => (s.runState p).isStopping) || s.bit Reg.imgStatus 0) = true
      then ((St.busy, none), s) else ((St.ok, none), (s.namedPolders q.a0).foldl State.resume s) := by
  have hnone : s.image.isNone = false := by
    cases h : s.image with
    | none => rw [h] at him; exact absurd him (by decide)
    | some im => rfl
  simp only [State.mbxDo, hop, Nat.reduceEqDiff, if_false, if_true, hnone, Bool.false_eq_true]
  rfl

/-! ### GET and STORE -/

theorem mbxDo_get_value {s : State} {q : MbxReq} (hop : q.op = 0x02) (hset : (s.setting? (q.a0 % 65536)).isSome = true) (hcopy : q.a1 % 4 ≠ 3) :
    (s.mbxDo q).1 = (St.ok, some (if q.a1 % 4 = 0 then s.inforce (q.a0 % 65536) else if q.a1 % 4 = 1 then s.shadowVal (q.a0 % 65536)
      else s.durableVal (q.a0 % 65536))) := by
  have hno : ((s.setting? (q.a0 % 65536)).isNone || decide (q.a1 % 4 = 3)) = false := by
    obtain ⟨r, hr⟩ := Option.isSome_iff_exists.mp hset
    simp [hr, hcopy]
  simp only [State.mbxDo, hop, Nat.reduceEqDiff, if_false, if_true, hno, Bool.false_eq_true]

theorem mbxAnswer_result (s : State) {q : MbxReq} (hsrc : q.src = none) (st v : Nat) :
    (s.mbxAnswer q (st, some v)).nat (Reg.mbxResult 0) = v % 2 ^ 32 := by
  unfold State.mbxAnswer
  rw [hsrc]
  exact State.nat_setNat_same _ _ _

/-- How long a STORE has yet to wait (R127). -/
def State.storeWait (s : State) : Nat := (s.sets.lastStore.map (fun t => t + 25000000 - s.tick)).getD 0

theorem mbxBusy_storeWait (s : State) : s.mbxBusy.storeWait = s.storeWait := rfl

theorem storeWait_over {s : State} (h : ∀ t, s.sets.lastStore = some t → t + 25000000 ≤ s.tick) : s.storeWait = 0 := by
  unfold State.storeWait
  cases hs : s.sets.lastStore with
  | none => rfl
  | some t => exact Nat.sub_eq_zero_of_le (h t hs)

theorem storeWait_since {s : State} {t : Nat} (h : s.sets.lastStore = some t) : s.storeWait = t + 25000000 - s.tick := by
  rw [State.storeWait, h]
  rfl

/-- The state with a STORE under way. -/
def State.storing (s : State) (q : MbxReq) : State :=
  { s.setBit Reg.nvsStatus 0 true with
    sets := { s.sets with lastStore := some s.tick }, mbx := { s.mbx with running := some (q, s.sets.shadow) } }

theorem mbxRun_store (s : State) {q : MbxReq} (hop : q.op = 0x03) :
    s.mbxRun q = if 0 < s.storeWait then s.mbxAnswer q (St.busy, some (cdiv s.storeWait 25000)) else s.storing q := by
  unfold State.mbxRun State.storeWait
  rw [if_pos hop]
  cases s.sets.lastStore <;> rfl

/-! ### The end of a STORE -/

/-- The state with the store's job over and its slot written. -/
def State.storeOver (s : State) (rec : List Byte) : State :=
  { s.setBit Reg.nvsStatus 0 false with
    mbx := { s.mbx with running := none }
    nvm := { s.nvm with slot0 := if 1 - s.sets.slot = 0 then rec else s.nvm.slot0
                        slot1 := if 1 - s.sets.slot = 0 then s.nvm.slot1 else rec } }

/-- The state with a snapshot as the durable copy (R126). -/
def State.storeTaken (s : State) (snap : SMap Nat) : State :=
  let seq := (s.sets.seq + 1) % 2 ^ 32
  let u := s.storeOver (settingsRecord seq (s.settingEntries snap))
  let v : State := { u with
    nvm := { u.nvm with storeCount := min (u.nvm.storeCount + 1) (2 ^ 32 - 1) }
    sets := { s.sets with durable := snap, seq := seq, slot := 1 - s.sets.slot } }
  ((v.setNat Reg.nvsSeq seq).setNat Reg.nvsStoreCount v.nvm.storeCount).nvsFlags

theorem doStoreComplete_taken {s : State} {q : MbxReq} {snap : SMap Nat} (hrun : s.mbx.running = some (q, snap)) (hq : s.mbx.queue = []) :
    doStoreComplete true s = (s.storeTaken snap).mbxAnswer q (St.ok, some ((s.sets.seq + 1) % 2 ^ 32)) := by
  have hempty : ((s.storeTaken snap).mbxAnswer q (St.ok, some ((s.sets.seq + 1) % 2 ^ 32))).mbx.queue = [] := by
    unfold State.mbxAnswer
    split <;> exact hq
  unfold doStoreComplete
  rw [hrun]
  exact (congrArg (fun n => State.mbxDrain n _) (congrArg List.length hempty)).trans rfl

theorem doStoreComplete_lost {s : State} {q : MbxReq} {snap : SMap Nat} (hrun : s.mbx.running = some (q, snap)) (hq : s.mbx.queue = []) :
    doStoreComplete false s = ((s.storeOver []).setBit Reg.nvsStatus 3 true).mbxAnswer q (St.uncorrectable, none) := by
  have hempty : (((s.storeOver []).setBit Reg.nvsStatus 3 true).mbxAnswer q (St.uncorrectable, none)).mbx.queue = [] := by
    unfold State.mbxAnswer
    split <;> exact hq
  unfold doStoreComplete
  rw [hrun]
  exact (congrArg (fun n => State.mbxDrain n _) (congrArg List.length hempty)).trans rfl

/-- An answer, wherever it goes, leaves all but registers and messages. -/
theorem mbxAnswer_keeps (s : State) (q : MbxReq) (a : MbxAnswer) : (s.mbxAnswer q a).mbx = s.mbx ∧ (s.mbxAnswer q a).sets = s.sets ∧
    (s.mbxAnswer q a).nvm = s.nvm ∧ ∀ r, r ≠ Reg.mbxStatus → r ≠ Reg.mbxResult 0 → (s.mbxAnswer q a).reg r = s.reg r := by
  rcases hsrc : q.src with _ | ⟨b, inst⟩
  · have hregs := mbxAnswer_regsOnly s hsrc a
    refine ⟨(congrArg State.mbx hregs).trans rfl, hregs.sets, (congrArg State.nvm hregs).trans rfl, fun r h1 h2 => ?_⟩
    have hshow : (((s.setFld Reg.mbxStatus 15 8 a.1).setBit Reg.mbxStatus 1 true).setBit Reg.mbxStatus 0 false).reg r = s.reg r := by
      rw [State.reg_setBit_ne _ _ _ h1, State.reg_setBit_ne _ _ _ h1, State.reg_setFld_ne _ _ _ _ h1]
    unfold State.mbxAnswer
    rw [hsrc]
    dsimp only
    split
    · exact (State.reg_setNat_ne _ _ h2).trans hshow
    · exact hshow
  · unfold State.mbxAnswer
    rw [hsrc]
    exact ⟨rfl, rfl, rfl, fun r _ _ => rfl⟩

theorem nvsFlags_regsOnly (s : State) : RegsOnly s s.nvsFlags := ((RegsOnly.refl s).setBit _ _ _).setBit _ _ _

theorem storeTaken_keeps (s : State) (snap : SMap Nat) : (s.storeTaken snap).mbx.running = none ∧
    (s.storeTaken snap).sets = { s.sets with durable := snap, seq := (s.sets.seq + 1) % 2 ^ 32, slot := 1 - s.sets.slot } ∧
    (s.storeTaken snap).nvm.storeCount = min (s.nvm.storeCount + 1) (2 ^ 32 - 1) := by
  unfold State.storeTaken
  dsimp only
  generalize hv : ({ s.storeOver _ with nvm := _, sets := _ } : State) = v
  generalize (s.sets.seq + 1) % 2 ^ 32 = seq at hv ⊢
  have hregs := (((RegsOnly.refl v).setReg Reg.nvsSeq (BitVec.ofNat 32 seq)).setReg Reg.nvsStoreCount (BitVec.ofNat 32 v.nvm.storeCount)).trans
    (nvsFlags_regsOnly _)
  exact ⟨(congrArg (fun u : State => u.mbx.running) hregs).trans (by rw [← hv]; rfl), hregs.sets.trans (by rw [← hv]),
    (congrArg (fun u : State => u.nvm.storeCount) hregs).trans (by rw [← hv]; rfl)⟩

/-! ### What each request leaves -/

theorem mbxSet_leaves {s u : State} {q : MbxReq} (hsrc : q.src = none) {key val : Nat} (hu : s.mbxBusy.setSetting key val = u) :
    let t := (u.mbxAnswer q (St.ok, none)).withQueue s.pending
    MbxAnswered s t St.ok ∧ t.shadowVal key = val ∧ (∀ k, k ≠ key → t.shadowVal k = s.shadowVal k) ∧
    (isCommon key = true → t.sets.inforce = s.sets.inforce) ∧ (isCommon key = false → t.inforce key = val) ∧
    t.sets.durable = s.sets.durable ∧ t.runs = s.runs := by
  have hframe : SettingFrame (s.mbxBusy.settingPut key val) u := hu ▸ setSetting_frame s.mbxBusy key val
  have hregs := mbxAnswer_regsOnly u hsrc (St.ok, none)
  have hbusy := mbxBusy_regsOnly s
  have hkept : MbxKept s u := hframe.mbxKept
  have hsets := hregs.sets.trans hframe.sets
  refine ⟨hkept.answered hsrc (by decide) none, ?_, fun k hk => ?_, fun hc => ?_, fun hc => ?_, (congrArg Settings.durable hsets).trans rfl,
    hregs.runs.trans (hframe.runs.trans rfl)⟩
  · exact ((hregs.shadowVal _).trans (hframe.shadowVal _)).trans (settingPut_shadow_same ..)
  · exact ((hregs.shadowVal k).trans (hframe.shadowVal k)).trans ((settingPut_shadow_ne _ _ hk).trans (hbusy.shadowVal k))
  · exact (congrArg Settings.inforce hsets).trans (settingPut_common _ _ hc)
  · exact ((hregs.inforce _).trans (hframe.inforce _)).trans (settingPut_local _ _ hc)

theorem mbxForced_leaves {s u : State} {q : MbxReq} (hsrc : q.src = none) (hkept : MbxKept s u) (hruns : u.runs = s.runs) :
    let t := (u.shadowForced.mbxAnswer q (St.ok, none)).withQueue s.pending
    MbxAnswered s t St.ok ∧ t.sets.shadow = u.sets.shadow ∧ t.sets.durable = u.sets.durable ∧ (∀ k, t.shadowVal k = u.shadowVal k) ∧
    (∀ k ∈ localKeys, t.inforce k = u.shadowVal k) ∧ (∀ k ∈ commonKeys, t.inforce k = u.inforce k) ∧ t.runs = s.runs := by
  have hframe := shadowForced_frame u
  obtain ⟨hshadow, hdurable, hval, hlocal, hcommon⟩ := shadowForced_values u
  generalize u.shadowForced = v at hframe hshadow hdurable hval hlocal hcommon ⊢
  have hregs := mbxAnswer_regsOnly v hsrc (St.ok, none)
  have hkept' : MbxKept s v := by
    obtain ⟨h1, h2, h3, h4⟩ := hkept
    obtain ⟨k1, k2, k3, k4⟩ := hframe.mbxKept
    exact ⟨k1.trans h1, k2.trans h2, k3.trans h3, k4.trans h4⟩
  exact ⟨hkept'.answered hsrc (by decide) none, (congrArg Settings.shadow hregs.sets).trans hshadow,
    (congrArg Settings.durable hregs.sets).trans hdurable, fun k => (hregs.shadowVal k).trans (hval k),
    fun k hk => (hregs.inforce k).trans (hlocal k hk), fun k hk => (hregs.inforce k).trans (hcommon k hk),
    hregs.runs.trans (hframe.runs.trans hruns)⟩

theorem mbxQuiesce_leaves {s b u : State} {q : MbxReq} (hsrc : q.src = none) (hb : RegsOnly s b) {mask ms : Nat} {abort : Bool}
    (hu : (b.namedPolders mask).foldl (State.quiesce · abort false ms) b = u) :
    let t := (u.mbxAnswer q (St.ok, none)).withQueue s.pending
    MbxAnswered s t St.ok ∧
    (∀ p, p ∈ s.namedPolders mask → s.runState p = .running → t.runState p = .stopping (s.tick + 25000 * ms) abort false 0) ∧
    (∀ p, (p ∉ s.namedPolders mask ∨ s.runState p = .stopped) → t.runState p = s.runState p) ∧ t.sets = s.sets := by
  have hframe := RunsOnly.foldl (State.quiesce · abort false ms) (fun s p => quiesce_runsOnly s abort ms p) (b.namedPolders mask) b
  obtain ⟨hin, hout⟩ := quiesce_all abort ms (b.namedPolders mask) b
  rw [hu] at hframe hin hout
  have hregs := mbxAnswer_regsOnly u hsrc (St.ok, none)
  have hnamed : b.namedPolders mask = s.namedPolders mask := by rw [hb]; rfl
  have htick : b.tick = s.tick := (congrArg State.tick hb).trans rfl
  have hkept : MbxKept s u := by
    obtain ⟨h1, h2, h3, h4⟩ := hb.mbxKept
    obtain ⟨k1, k2, k3, k4⟩ := hframe.mbxKept
    exact ⟨k1.trans h1, k2.trans h2, k3.trans h3, k4.trans h4⟩
  rw [hnamed, htick] at hin
  rw [hnamed] at hout
  refine ⟨hkept.answered hsrc (by decide) none, fun p hp hr => ?_, fun p hp => ?_, hregs.sets.trans (hframe.sets.trans hb.sets)⟩
  · exact (hregs.runState p).trans (hin p hp (.inl ((hb.runState p).trans hr)))
  · exact (hregs.runState p).trans ((hout p (hp.imp id fun h => (hb.runState p).trans h)).trans (hb.runState p))

theorem mbxResume_leaves {s b u : State} {q : MbxReq} (hsrc : q.src = none) (hb : RegsOnly s b) {mask : Nat}
    (hno : ∀ p ∈ s.namedPolders mask, s.runState p = .running ∨ s.runState p = .stopped)
    (hu : (b.namedPolders mask).foldl State.resume b = u) :
    let t := (u.mbxAnswer q (St.ok, none)).withQueue s.pending
    MbxAnswered s t St.ok ∧ (∀ p, p ∈ s.namedPolders mask → t.runState p = .running) ∧
    (∀ p, p ∉ s.namedPolders mask → t.runState p = s.runState p) ∧ t.sets = s.sets := by
  have hframe := RunsOnly.foldl State.resume resume_runsOnly (b.namedPolders mask) b
  have hnamed : b.namedPolders mask = s.namedPolders mask := by rw [hb]; rfl
  obtain ⟨hin, hout⟩ := resume_all (b.namedPolders mask) b fun p hp => by
    rw [hb.runState]
    exact hno p (hnamed ▸ hp)
  rw [hu] at hframe hin hout
  rw [hnamed] at hin hout
  have hregs := mbxAnswer_regsOnly u hsrc (St.ok, none)
  have hkept : MbxKept s u := by
    obtain ⟨h1, h2, h3, h4⟩ := hb.mbxKept
    obtain ⟨k1, k2, k3, k4⟩ := hframe.mbxKept
    exact ⟨k1.trans h1, k2.trans h2, k3.trans h3, k4.trans h4⟩
  exact ⟨hkept.answered hsrc (by decide) none, fun p hp => (hregs.runState p).trans (hin p hp),
    fun p hp => (hregs.runState p).trans ((hout p hp).trans (hb.runState p)), hregs.sets.trans (hframe.sets.trans hb.sets)⟩

/-- A request that is answered without any effect. -/
theorem mbxRefused_leaves (s : State) {q : MbxReq} (hsrc : q.src = none) {st : Nat} (hst : st < 256) (v : Option Nat) :
    let t := (s.mbxBusy.mbxAnswer q (st, v)).withQueue s.pending
    MbxAnswered s t st ∧ { t with regs := s.regs } = s := by
  have hans := (mbxBusy_regsOnly s).mbxKept.answered hsrc hst v
  have hregs := (mbxBusy_regsOnly s).trans (mbxAnswer_regsOnly s.mbxBusy hsrc (st, v))
  generalize s.mbxBusy.mbxAnswer q (st, v) = t at hans hregs ⊢
  dsimp only
  rw [withQueue_self ((congrArg State.pending hregs).trans rfl)]
  exact ⟨hans, hregs.restored⟩

theorem storing_leaves (s : State) (q : MbxReq) : (s.mbxBusy.storing q).bit Reg.nvsStatus 0 = true ∧
    (s.mbxBusy.storing q).bit Reg.mbxStatus 0 = true := by
  have hbusy : s.mbxBusy.bit Reg.mbxStatus 0 = true := State.bit_setBit_same _ _ _ _ (by decide)
  generalize s.mbxBusy = b at hbusy ⊢
  exact ⟨State.bit_setBit_same b _ _ _ (by decide), (State.bit_setBit_ne b _ _ _ _ _ (.inl (by decide))).trans hbusy⟩

/-- A STORE that could not be verified (R126). -/
theorem storeLost_leaves (s : State) (q : MbxReq) :
    let t := ((s.storeOver []).setBit Reg.nvsStatus 3 true).mbxAnswer q (St.uncorrectable, none)
    t.mbx.running = none ∧ t.sets = s.sets ∧ t.bit Reg.nvsStatus 0 = false ∧ t.bit Reg.nvsStatus 3 = true ∧
    t.nvm.storeCount = s.nvm.storeCount ∧ (q.src = none → t.fld Reg.mbxStatus 15 8 = St.uncorrectable) ∧
    (if s.sets.slot = 0 then t.nvm.slot0 = s.nvm.slot0 else t.nvm.slot1 = s.nvm.slot1) := by
  have h0 := State.bit_setBit_same s Reg.nvsStatus 0 false (by decide)
  have hover : (s.storeOver []).bit Reg.nvsStatus 0 = false := h0
  have hkeep : ∀ u : State, (u.setBit Reg.nvsStatus 3 true).mbx = u.mbx ∧ (u.setBit Reg.nvsStatus 3 true).sets = u.sets ∧
      (u.setBit Reg.nvsStatus 3 true).nvm = u.nvm := fun _ => ⟨rfl, rfl, rfl⟩
  have hslots : if s.sets.slot = 0 then (s.storeOver []).nvm.slot0 = s.nvm.slot0 else (s.storeOver []).nvm.slot1 = s.nvm.slot1 := by
    split
    next h => exact if_neg (by omega)
    next h => exact if_pos (by omega)
  have hsame : (s.storeOver []).mbx.running = none ∧ (s.storeOver []).sets = s.sets ∧ (s.storeOver []).nvm.storeCount = s.nvm.storeCount :=
    ⟨rfl, rfl, rfl⟩
  generalize s.storeOver [] = u at hover hslots hsame ⊢
  obtain ⟨hmbx, hsets, hnvm⟩ := hkeep u
  have h3 := State.bit_setBit_same u Reg.nvsStatus 3 true (by decide)
  have h0' := (State.bit_setBit_ne u Reg.nvsStatus 3 true Reg.nvsStatus 0 (.inr (by decide))).trans hover
  generalize u.setBit Reg.nvsStatus 3 true = v at hmbx hsets hnvm h3 h0' ⊢
  obtain ⟨hmbx', hsets', hnvm', hreg⟩ := mbxAnswer_keeps v q (St.uncorrectable, none)
  have hstatus := hreg Reg.nvsStatus (by decide) (by decide)
  obtain ⟨hrunning, hsame', hcount⟩ := hsame
  have hnvm'' := hnvm'.trans hnvm
  refine ⟨(congrArg Mailbox.running (hmbx'.trans hmbx)).trans hrunning, hsets'.trans (hsets.trans hsame'), ?_, ?_,
    (congrArg Nvm.storeCount hnvm'').trans hcount, fun hsrc => (mbxAnswer_shows v hsrc (by decide)).2.2, ?_⟩
  · rw [State.bit, hstatus]
    exact h0'
  · rw [State.bit, hstatus]
    exact h3
  · rw [hnvm'']
    exact hslots

section
variable {s : State} (hopen : s.hostOpen = true) (hb : s.bit Reg.mbxStatus 0 = false) (hrun : s.mbx.running = none)
  (hq : s.mbx.queue = [])
include hopen hb hrun hq

theorem mbxSet_completes {r : Nat × Nat × Nat × Nat} (hr : s.setting? (s.nat (Reg.mbxArg 0) % 65536) = some r) (hlo : r.2.1 ≤ s.nat (Reg.mbxArg 1))
    (hhi : s.nat (Reg.mbxArg 1) ≤ r.2.2.1)
    (hmin : s.nat (Reg.mbxArg 0) % 65536 = Key.minImageSerial → s.durableVal (s.nat (Reg.mbxArg 0) % 65536) ≤ s.nat (Reg.mbxArg 1)) :
    Completes .mbxSet s (fun t => MbxAnswered s t St.ok ∧ t.shadowVal (s.nat (Reg.mbxArg 0) % 65536) = s.nat (Reg.mbxArg 1) ∧
      (∀ k, k ≠ s.nat (Reg.mbxArg 0) % 65536 → t.shadowVal k = s.shadowVal k) ∧
      (isCommon (s.nat (Reg.mbxArg 0) % 65536) = true → t.sets.inforce = s.sets.inforce) ∧
      (isCommon (s.nat (Reg.mbxArg 0) % 65536) = false → t.inforce (s.nat (Reg.mbxArg 0) % 65536) = s.nat (Reg.mbxArg 1)) ∧
      t.sets.durable = s.sets.durable ∧ t.runs = s.runs) := by
  refine completes_of (exec_mbxSet s) rfl ?_
  have hbusy := mbxBusy_regsOnly s
  have hdo := mbxDo_set (s := s.mbxBusy) (q := s.mbxAsked 0x01) rfl ((hbusy.setting? _).trans hr) hlo hhi fun h => by
    rw [hbusy.durableVal]
    exact hmin h
  rw [doMbxSet, mbxCmd_answers hopen hb hrun hq (by decide) hdo]
  exact mbxSet_leaves rfl rfl

theorem mbxGet_completes {v : Nat} (hset : (s.setting? (s.nat (Reg.mbxArg 0) % 65536)).isSome = true) (hcopy : s.nat (Reg.mbxArg 1) % 4 ≠ 3)
    (hv : v = (if s.nat (Reg.mbxArg 1) % 4 = 0 then s.inforce (s.nat (Reg.mbxArg 0) % 65536)
      else if s.nat (Reg.mbxArg 1) % 4 = 1 then s.shadowVal (s.nat (Reg.mbxArg 0) % 65536) else s.durableVal (s.nat (Reg.mbxArg 0) % 65536))) :
    Completes .mbxGet s (fun t => MbxAnswered s t St.ok ∧ t.nat (Reg.mbxResult 0) = v % 2 ^ 32 ∧ { t with regs := s.regs } = s) := by
  refine completes_of (exec_mbxGet s) rfl ?_
  have hbusy := mbxBusy_regsOnly s
  have hdo : s.mbxBusy.mbxDo (s.mbxAsked 0x02) = ((St.ok, some v), s.mbxBusy) := by
    have hval := mbxDo_get_value (s := s.mbxBusy) (q := s.mbxAsked 0x02) rfl hset hcopy
    rw [hbusy.inforce, hbusy.shadowVal, hbusy.durableVal] at hval
    rw [hv]
    exact Prod.ext hval (mbxDo_get rfl)
  rw [doMbxGet, mbxCmd_answers hopen hb hrun hq (by decide) hdo]
  obtain ⟨hans, hrest⟩ := mbxRefused_leaves s (q := s.mbxAsked 0x02) rfl (st := St.ok) (by decide) (some v)
  exact ⟨hans, mbxAnswer_result s.mbxBusy rfl St.ok _, hrest⟩

theorem mbxRevert_completes :
    Completes .mbxRevert s (fun t => MbxAnswered s t St.ok ∧ t.sets.shadow = s.sets.durable ∧ t.sets.durable = s.sets.durable ∧
      (∀ k ∈ localKeys, t.inforce k = s.durableVal k) ∧ (∀ k ∈ commonKeys, t.inforce k = s.inforce k) ∧ t.runs = s.runs) := by
  refine completes_of (exec_mbxRevert s) rfl ?_
  rw [doMbxRevert, mbxCmd_answers hopen hb hrun hq (by decide) (mbxDo_revert s.mbxBusy rfl)]
  obtain ⟨hans, hshadow, hdurable, -, hlocal, hcommon, hruns⟩ := mbxForced_leaves (s := s) (u := s.mbxBusy.reverted) (q := s.mbxAsked 0x04) rfl
    ⟨rfl, rfl, rfl, rfl⟩ rfl
  have hbusy := mbxBusy_regsOnly s
  exact ⟨hans, hshadow, hdurable, fun k hk => (hlocal k hk).trans ((reverted_shadowVal _ k).trans (hbusy.durableVal k)),
    fun k hk => (hcommon k hk).trans ((reverted_inforce _ k).trans (hbusy.inforce k)), hruns⟩

theorem mbxDefaults_completes :
    Completes .mbxDefaults s (fun t => MbxAnswered s t St.ok ∧ t.sets.durable = s.sets.durable ∧
      (∀ k, t.shadowVal k = if k = Key.minImageSerial then s.shadowVal k else s.settingDefault k) ∧
      (∀ k ∈ localKeys, t.inforce k = s.settingDefault k) ∧ (∀ k ∈ commonKeys, t.inforce k = s.inforce k) ∧ t.runs = s.runs) := by
  refine completes_of (exec_mbxDefaults s) rfl ?_
  rw [doMbxDefaults, mbxCmd_answers hopen hb hrun hq (by decide) (mbxDo_defaults s.mbxBusy rfl)]
  obtain ⟨hans, -, hdurable, hval, hlocal, hcommon, hruns⟩ := mbxForced_leaves (s := s) (u := s.mbxBusy.defaulted) (q := s.mbxAsked 0x05) rfl
    ⟨rfl, rfl, rfl, rfl⟩ rfl
  have hbusy := mbxBusy_regsOnly s
  have hdefault := defaulted_shadowVal s.mbxBusy
  refine ⟨hans, hdurable, fun k => ?_, fun k hk => ?_, fun k hk => (hcommon k hk).trans ((defaulted_inforce _ k).trans (hbusy.inforce k)), hruns⟩
  · rw [← hbusy.shadowVal, ← hbusy.settingDefault]
    exact (hval k).trans (hdefault k)
  · have hne : k ≠ Key.minImageSerial := by
      rintro rfl
      exact absurd hk (by decide)
    exact (hlocal k hk).trans ((hdefault k).trans ((if_neg hne).trans (hbusy.settingDefault k)))

theorem mbxQuiesce_completes (him : s.image.isSome = true) (hms : s.nat (Reg.mbxArg 2) ≤ 60000) (hscrub : (s.nat (Reg.mbxArg 1)).testBit 1 = false) :
    Completes .mbxQuiesce s (fun t => MbxAnswered s t St.ok ∧
      (∀ p, (p ∈ s.polders ∧ (s.nat (Reg.mbxArg 0)).testBit p = true) → s.runState p = .running → t.runState p = .stopping
        (s.tick + 25000 * if s.nat (Reg.mbxArg 2) = 0 then s.inforce Key.quiesceMs else s.nat (Reg.mbxArg 2))
        ((s.nat (Reg.mbxArg 1)).testBit 0) false 0) ∧
      (∀ p, (¬ (p ∈ s.polders ∧ (s.nat (Reg.mbxArg 0)).testBit p = true) ∨ s.runState p = .stopped) → t.runState p = s.runState p) ∧
      t.sets = s.sets) := by
  refine completes_of (exec_mbxQuiesce s) rfl ?_
  rw [doMbxQuiesce, mbxCmd_answers hopen hb hrun hq (by decide) (mbxDo_quiesce (s := s.mbxBusy) rfl him hms)]
  obtain ⟨hans, hin, hout, hsets⟩ := mbxQuiesce_leaves (q := s.mbxAsked 0x10) rfl (mbxBusy_regsOnly s)
    (mask := s.nat (Reg.mbxArg 0)) (ms := if s.nat (Reg.mbxArg 2) = 0 then s.inforce Key.quiesceMs else s.nat (Reg.mbxArg 2))
    (abort := (s.nat (Reg.mbxArg 1)).testBit 0) rfl
  rw [show (s.mbxAsked 0x10).a1.testBit 1 = false from hscrub]
  exact ⟨hans, fun p hp => hin p ((mem_namedPolders ..).mpr hp), fun p hp => hout p (hp.imp (fun h hm => h ((mem_namedPolders ..).mp hm)) id), hsets⟩

theorem mbxResume_completes (him : s.image.isSome = true) (hload : s.bit Reg.imgStatus 0 = false)
    (hno : ∀ p d a x n, (p ∈ s.polders ∧ (s.nat (Reg.mbxArg 0)).testBit p = true) → s.runState p ≠ .stopping d a x n) :
    Completes .mbxResume s (fun t => MbxAnswered s t St.ok ∧
      (∀ p, (p ∈ s.polders ∧ (s.nat (Reg.mbxArg 0)).testBit p = true) → t.runState p = .running) ∧
      (∀ p, ¬ (p ∈ s.polders ∧ (s.nat (Reg.mbxArg 0)).testBit p = true) → t.runState p = s.runState p) ∧ t.sets = s.sets) := by
  refine completes_of (exec_mbxResume s) rfl ?_
  have hrun' : ∀ p ∈ s.namedPolders (s.nat (Reg.mbxArg 0)), s.runState p = .running ∨ s.runState p = .stopped := fun p hp => by
    rw [← RunState.not_isStopping_iff, Bool.eq_false_iff, Ne, RunState.isStopping_iff]
    rintro ⟨d, a, x, n, h⟩
    exact hno p d a x n ((mem_namedPolders ..).mp hp) h
  have hcond : ((s.mbxBusy.namedPolders (s.mbxAsked 0x11).a0).any (fun p => (s.mbxBusy.runState p).isStopping) ||
      s.mbxBusy.bit Reg.imgStatus 0) = false := by
    rw [Bool.or_eq_false_iff, List.any_eq_false]
    refine ⟨fun p hp => ?_, (State.bit_setBit_ne _ _ _ _ _ _ (.inl (by decide))).trans hload⟩
    rw [Bool.not_eq_true, RunState.not_isStopping_iff]
    exact hrun' p hp
  have hdo := (mbxDo_resume (s := s.mbxBusy) (q := s.mbxAsked 0x11) rfl him).trans (if_neg (by rw [hcond]; decide))
  rw [doMbxResume, mbxCmd_answers hopen hb hrun hq (by decide) hdo]
  obtain ⟨hans, hin, hout, hsets⟩ := mbxResume_leaves (q := s.mbxAsked 0x11) rfl (mbxBusy_regsOnly s) hrun' rfl
  exact ⟨hans, fun p hp => hin p ((mem_namedPolders ..).mpr hp), fun p hp => hout p fun hm => hp ((mem_namedPolders ..).mp hm), hsets⟩

theorem mbxResume_busy (him : s.image.isSome = true) (hbusy : s.bit Reg.imgStatus 0 = true ∨ ∃ p d a x n,
      (p ∈ s.polders ∧ (s.nat (Reg.mbxArg 0)).testBit p = true) ∧ s.runState p = .stopping d a x n) :
    Completes .mbxResume s (fun t => MbxAnswered s t St.busy ∧ { t with regs := s.regs } = s) := by
  refine completes_of (exec_mbxResume s) rfl ?_
  have hcond : ((s.mbxBusy.namedPolders (s.mbxAsked 0x11).a0).any (fun p => (s.mbxBusy.runState p).isStopping) ||
      s.mbxBusy.bit Reg.imgStatus 0) = true := by
    rw [Bool.or_eq_true, List.any_eq_true]
    rcases hbusy with hload | ⟨p, d, a, x, n, hp, hr⟩
    · exact .inr ((State.bit_setBit_ne _ _ _ _ _ _ (.inl (by decide))).trans hload)
    · exact .inl ⟨p, (mem_namedPolders ..).mpr hp, (RunState.isStopping_iff _).mpr ⟨d, a, x, n, hr⟩⟩
  have hdo := (mbxDo_resume (s := s.mbxBusy) (q := s.mbxAsked 0x11) rfl him).trans (if_pos hcond)
  rw [doMbxResume, mbxCmd_answers hopen hb hrun hq (by decide) hdo]
  exact mbxRefused_leaves s rfl (by decide) none

theorem mbxStore_starts (hlast : ∀ t, s.sets.lastStore = some t → t + 25000000 ≤ s.tick) :
    Completes .mbxStore s (fun t => t.bit Reg.nvsStatus 0 = true ∧ t.bit Reg.mbxStatus 0 = true ∧
      t.mbx.running = some (s.mbxAsked 0x03, s.sets.shadow) ∧ t.sets.lastStore = some s.tick ∧ t.sets.durable = s.sets.durable ∧
      t.sets.shadow = s.sets.shadow ∧ t.nvm = s.nvm ∧ t.mem = s.mem) := by
  refine completes_of (exec_mbxStore s) rfl ?_
  rw [doMbxStore, mbxCmd_free hopen hb hrun hq, mbxRun_store _ rfl, mbxBusy_storeWait, storeWait_over hlast, if_neg (by decide)]
  obtain ⟨hnvs, hmbx⟩ := storing_leaves s (s.mbxAsked 0x03)
  exact ⟨hnvs, hmbx, rfl, rfl, rfl, rfl, rfl, rfl⟩

theorem mbxCmd_early {t0 : Nat} (hlast : s.sets.lastStore = some t0) (hearly : s.tick < t0 + 25000000) :
    s.mbxCmd 0x03 = s.mbxBusy.mbxAnswer (s.mbxAsked 0x03) (St.busy, some (cdiv (t0 + 25000000 - s.tick) 25000)) := by
  have hpos : 0 < s.mbxBusy.storeWait := by
    rw [mbxBusy_storeWait, storeWait_since hlast]
    exact Nat.sub_pos_of_lt hearly
  rw [mbxCmd_free hopen hb hrun hq, mbxRun_store _ rfl, if_pos hpos, mbxBusy_storeWait, storeWait_since hlast]

omit hopen hb hrun hq in
theorem mbxStore_refused {v : Nat} (h : s.mbxCmd 0x03 = s.mbxBusy.mbxAnswer (s.mbxAsked 0x03) (St.busy, some v)) :
    Completes .mbxStore s (fun t => MbxAnswered s t St.busy ∧ t.nat (Reg.mbxResult 0) = v % 2 ^ 32 ∧ { t with regs := s.regs } = s) := by
  refine completes_of (exec_mbxStore s) rfl ?_
  rw [doMbxStore, h]
  obtain ⟨hans, hrest⟩ := mbxRefused_leaves s (q := s.mbxAsked 0x03) rfl (st := St.busy) (by decide) (some v)
  exact ⟨hans, mbxAnswer_result s.mbxBusy rfl St.busy _, hrest⟩

end

end Sys2Proof.Machine

namespace Sys2Proof.Proofs
open Sys2Proof.Machine

/-- Settles O37: what each request does (`mbxDo_set` …), answered at once (`mbxAnswered_of`), and the two ends of a STORE. -/
theorem mailboxAndStore : Obligations.MailboxAndStore := by
  unfold Obligations.MailboxAndStore
  refine ⟨fun s hopen => ⟨fun hb => ⟨?_, ?_, ?_, ?_, ?_, ?_, ?_⟩, fun hb hrun hq => ⟨?_, ?_, ?_, ?_, ?_, ?_, fun r hr hlo hhi hmin => ?_,
    fun v hset hcopy hv => ?_, ?_, ?_, fun him hms hscrub => ?_, fun him hload hno => ?_, fun him hbusy => ?_, fun hlast => ?_, fun t0 hlast hearly => ?_⟩,
    fun q a hsrc ha => ?_⟩, fun s hclosed => ⟨?_, ?_, ?_, ?_, ?_, ?_, ?_⟩, fun s ok hrun => ?_, fun s q snap hrun hq => ⟨?_, ?_⟩⟩
  · exact becomes_of (exec_mbxSet s) rfl (mbxCmd_busy hopen hb _)
  · exact becomes_of (exec_mbxGet s) rfl (mbxCmd_busy hopen hb _)
  · exact becomes_of (exec_mbxStore s) rfl (mbxCmd_busy hopen hb _)
  · exact becomes_of (exec_mbxRevert s) rfl (mbxCmd_busy hopen hb _)
  · exact becomes_of (exec_mbxDefaults s) rfl (mbxCmd_busy hopen hb _)
  · exact becomes_of (exec_mbxQuiesce s) rfl (mbxCmd_busy hopen hb _)
  · exact becomes_of (exec_mbxResume s) rfl (mbxCmd_busy hopen hb _)
  · exact becomes_of (exec_mbxSet s) rfl (mbxCmd_done hopen hb hrun hq (by decide))
  · exact becomes_of (exec_mbxGet s) rfl (mbxCmd_done hopen hb hrun hq (by decide))
  · exact becomes_of (exec_mbxRevert s) rfl (mbxCmd_done hopen hb hrun hq (by decide))
  · exact becomes_of (exec_mbxDefaults s) rfl (mbxCmd_done hopen hb hrun hq (by decide))
  · exact becomes_of (exec_mbxQuiesce s) rfl (mbxCmd_done hopen hb hrun hq (by decide))
  · exact becomes_of (exec_mbxResume s) rfl (mbxCmd_done hopen hb hrun hq (by decide))
  · exact mbxSet_completes hopen hb hrun hq hr hlo hhi hmin
  · exact mbxGet_completes hopen hb hrun hq hset hcopy hv
  · exact mbxRevert_completes hopen hb hrun hq
  · exact mbxDefaults_completes hopen hb hrun hq
  · exact mbxQuiesce_completes hopen hb hrun hq him hms hscrub
  · exact mbxResume_completes hopen hb hrun hq him hload hno
  · exact mbxResume_busy hopen hb hrun hq him hbusy
  · exact mbxStore_starts hopen hb hrun hq hlast
  · exact mbxStore_refused (mbxCmd_early hopen hb hrun hq hlast hearly)
  · obtain ⟨h0, h1, hst⟩ := mbxAnswer_shows s hsrc ha
    exact ⟨h0, h1, hst, (mbxAnswer_regsOnly s hsrc a).restored⟩
  · exact becomes_of (exec_mbxSet s) rfl (mbxCmd_closed hclosed _)
  · exact becomes_of (exec_mbxGet s) rfl (mbxCmd_closed hclosed _)
  · exact becomes_of (exec_mbxStore s) rfl (mbxCmd_closed hclosed _)
  · exact becomes_of (exec_mbxRevert s) rfl (mbxCmd_closed hclosed _)
  · exact becomes_of (exec_mbxDefaults s) rfl (mbxCmd_closed hclosed _)
  · exact becomes_of (exec_mbxQuiesce s) rfl (mbxCmd_closed hclosed _)
  · exact becomes_of (exec_mbxResume s) rfl (mbxCmd_closed hclosed _)
  · exact becomes_of (exec_storeComplete ok s) rfl (by simp only [doStoreComplete, hrun])
  · refine completes_of (exec_storeComplete true s) rfl ?_
    rw [doStoreComplete_taken hrun hq]
    obtain ⟨hrunning, hsets, hcount⟩ := storeTaken_keeps s snap
    have hregs := mbxAnswer_keeps (s.storeTaken snap) q (St.ok, some ((s.sets.seq + 1) % 2 ^ 32))
    obtain ⟨hmbx', hsets', hnvm', -⟩ := hregs
    exact ⟨(congrArg Mailbox.running hmbx').trans hrunning, (congrArg Settings.durable (hsets'.trans hsets)).trans rfl,
      (congrArg Settings.seq (hsets'.trans hsets)).trans rfl, (congrArg Settings.slot (hsets'.trans hsets)).trans rfl,
      (congrArg Settings.shadow (hsets'.trans hsets)).trans rfl, (congrArg Settings.inforce (hsets'.trans hsets)).trans rfl,
      (congrArg Nvm.storeCount hnvm').trans hcount⟩
  · refine completes_of (exec_storeComplete false s) rfl ?_
    rw [doStoreComplete_lost hrun hq]
    exact storeLost_leaves s q

end Sys2Proof.Proofs
end

section
/-! PROOF. Image loads from GO to commit (R94–R106). -/
namespace Sys2Proof.Machine

/-! ### What an access to stack memory leaves, whatever the column -/

/-- What an access may change, registers of any column among it. -/
def Touched (s t : State) : Prop :=
  t = { s with freeCtr := t.freeCtr, regs := t.regs, cnts := t.cnts, host := t.host, nvm := t.nvm, alm := t.alm, cmds := t.cmds,
               cores := t.cores, mem := t.mem, nbus := t.nbus, nbuReady := t.nbuReady, parity := t.parity, out := t.out }

theorem Touched.refl (s : State) : Touched s s := rfl

theorem Touched.trans {s t u : State} (h : Touched s t) (k : Touched t u) : Touched s u := by
  unfold Touched at *
  rw [k]; simp only; rw [h]

theorem Steady.touched {s t : State} (h : Steady s t) : Touched s t := h.1

theorem Touched.setReg (s : State) (a : Nat) (v : Word) : Touched s (s.setReg a v) := rfl

theorem Touched.setMem (s : State) (m : Memories) : Touched s { s with mem := m } := rfl

theorem Touched.setNvm (s : State) (n : Nvm) : Touched s { s with nvm := n } := rfl

theorem Touched.event (s : State) (code : Nat) (src : Nat × Nat) (ctx : Option Nat) (data : Nat) : Touched s (s.event code src ctx data) :=
  (Steady.event s code src ctx data).touched

theorem Touched.foldl_via {α β : Type} (g : α → State) (f : α → β → α) (h : ∀ a x, Touched (g a) (g (f a x))) (l : List β) (a : α) :
    Touched (g a) (g (l.foldl f a)) := by
  induction l generalizing a with
  | nil => exact .refl _
  | cons x l ih =>
    rw [List.foldl_cons]
    exact (h a x).trans (ih _)

theorem Touched.ueRecord (s : State) (rq : Req) (addr col q : Nat) : Touched s (s.ueRecord rq addr col q) := by
  unfold State.ueRecord
  refine Touched.trans ?_ (.event _ _ _ _ _)
  exact ((Touched.setReg s _ _).trans (.setReg _ _ _)).trans (.setReg _ _ _)

theorem Touched.ceLog (s : State) (col q n : Nat) : Touched s (s.ceLog col q n) := by
  simp only [State.ceLog]
  have hbump : Touched s (s.bump (Reg.memCeCount col)) := .setReg s _ _
  generalize s.bump (Reg.memCeCount col) = t at hbump ⊢
  refine hbump.trans ?_
  split
  · exact (Touched.setReg t _ _).trans (.setReg _ _ _)
  · exact ((Touched.setReg t _ _).trans (.setReg _ _ _)).trans (.event _ _ _ _ _)
  · exact .setReg t _ _

theorem Touched.hardFault (s : State) (col q : Nat) : Touched s (s.hardFault col q) := by
  unfold State.hardFault
  simp only
  cases s.ceEntry col (locatorOf q) with
  | none =>
    dsimp only
    split
    · exact .refl s
    · exact ((Touched.setReg s _ _).trans (.setReg _ _ _)).trans (.setMem _ _)
    · exact ((Touched.setNvm s _).trans (.setReg _ _ _)).trans (.event _ _ _ _ _)
  | some i =>
    have hlogged : Touched s (s.setBit (Reg.memCeInfo col i) 3 true) := .setReg s _ _
    dsimp only
    generalize s.setBit (Reg.memCeInfo col i) 3 true = t at hlogged ⊢
    refine hlogged.trans ?_
    split
    · exact .refl t
    · exact ((Touched.setReg t _ _).trans (.setReg _ _ _)).trans (.setMem _ _)
    · exact ((Touched.setNvm t _).trans (.setReg _ _ _)).trans (.event _ _ _ _ _)

theorem Touched.readBlock (s : State) (rq : Req) (addr col q : Nat) (w : Bool) : Touched s (s.readBlock rq addr col q w).2 := by
  simp only [State.readBlock]
  split
  · exact .ueRecord s rq addr col q
  · split
    · exact .ueRecord s rq addr col q
    next n left _ =>
      split
      · exact .refl _
      · have hlog := Touched.ceLog s col q n
        generalize s.ceLog col q n = t at hlog ⊢
        generalize leBytes 64 (leNat (s.blockData col q) ^^^ left.toNat) = bs
        refine hlog.trans ?_
        split <;>
        · split
          · exact .refl t
          · refine (Steady.putBlock t col q bs (t.blockErr col q).hard).touched.trans ?_
            generalize t.putBlock col q bs (t.blockErr col q).hard = u
            split
            · exact .refl u
            · exact .hardFault u col q
            · exact .ueRecord u rq addr col q

theorem Touched.writeBlock (s : State) (rq : Req) (addr col q off : Nat) (bs : List Byte) :
    Touched s (s.writeBlock rq addr col q off bs).2 := by
  unfold State.writeBlock
  split
  · exact .ueRecord s rq addr col q
  · split
    · exact (Steady.storeBlock s col q bs).touched
    · have hread := Touched.readBlock s rq addr col q true
      split
      next e =>
        rw [e] at hread
        exact hread.trans (Steady.storeBlock _ _ _ _).touched
      next e =>
        rw [e] at hread
        exact hread

theorem Touched.physRead (s : State) (rq : Req) (col p n : Nat) : Touched s (s.physRead rq col p n).2.2 := by
  unfold State.physRead
  refine Touched.foldl_via (fun (a : List Byte × List Nat × State) => a.2.2) _ (fun a x => ?_) _ ([], [], s)
  have hchan : Touched a.2.2 (a.2.2.chanRead rq (2 ^ 32 * col + x.2.1) col (a.2.2.cellOf col x.2.1) x.2.2).2 := by
    simp only [State.chanRead]
    refine Touched.trans ?_ (.readBlock _ _ _ _ _ _)
    exact (((Steady.countYield _ _ _).trans (.noteTorn _ _ _ _ _ _)).trans (.addCnt _ _ _)).touched
  split
  next e =>
    rw [e] at hchan
    exact hchan
  next e =>
    rw [e] at hchan
    exact hchan

theorem Touched.physWrite (s : State) (rq : Req) (col p : Nat) (bs : List Byte) : Touched s (s.physWrite rq col p bs).2 := by
  unfold State.physWrite
  refine Touched.foldl_via (fun (a : Nat × State) => a.2) _ (fun a x => ?_) _ (0, s)
  have hchan : Touched a.2 (a.2.chanWrite rq (2 ^ 32 * col + x.2.1) col (a.2.cellOf col x.2.1) (lslice bs x.1 x.2.2)).2 := by
    simp only [State.chanWrite]
    refine Touched.trans ?_ (.writeBlock _ _ _ _ _ _ _)
    exact (((Steady.countYield _ _ _).trans (.noteClash _ _ _ _ _ _)).trans (.addCnt _ _ _)).touched
  split
  next e =>
    rw [e] at hchan
    exact hchan
  next e =>
    rw [e] at hchan
    exact hchan

theorem Touched.image {s t : State} (h : Touched s t) : t.image = s.image := (congrArg State.image h).trans rfl

theorem Touched.loader {s t : State} (h : Touched s t) : t.loader = s.loader := (congrArg State.loader h).trans rfl

theorem Touched.runs {s t : State} (h : Touched s t) : t.runs = s.runs := (congrArg State.runs h).trans rfl

theorem shadowAt_touched (s : State) (pos n : Nat) : Touched s (s.shadowAt pos n).2.2 := by
  unfold State.shadowAt
  exact Touched.foldl_via (fun (a : List Byte × Bool × State) => a.2.2) _ (fun a x => .physRead _ _ _ _ _) _ ([], false, s)

theorem shadowWrite_touched (s : State) (pos : Nat) (bs : List Byte) : Touched s (s.shadowWrite pos bs) := by
  unfold State.shadowWrite
  exact Touched.foldl_via (fun (a : State) => a) _ (fun a x => .physWrite _ _ _ _ _) _ s

theorem sourceRead_touched (s : State) : Touched s s.sourceRead.2 := by
  cases hhost : isHost s.loader.srcAddr with
  | true =>
    have h : s.sourceRead.2 = s := by simp only [State.sourceRead, hhost, if_true]
    rw [h]
    exact .refl s
  | false =>
    have h : s.sourceRead.2 = (s.physRead Req.bd (addrCore s.loader.srcAddr) (addrOff s.loader.srcAddr) (min s.loader.length 0x4000000)).2.2 := by
      simp only [State.sourceRead, hhost, Bool.false_eq_true, if_false]
    rw [h]
    exact .physRead _ _ _ _ _

/-! ### Validation reads and checks, and changes no more (R92) -/

/-- The state that a check of a validation leaves, passed or failed. -/
def Val.after {α : Type} (r : EStateM.Result Bad State α) : State :=
  match r with
  | .ok _ t => t
  | .error _ t => t

/-- A part of a validation that only reads. -/
def Val.Reads {α : Type} (v : Val α) : Prop := ∀ s, Touched s (Val.after (v s))

theorem Val.Reads.bind {α β : Type} {v : Val α} {f : α → Val β} (hv : Val.Reads v) (hf : ∀ a, Val.Reads (f a)) : Val.Reads (v >>= f) := by
  intro s
  have hs := hv s
  simp only [Bind.bind, EStateM.bind]
  cases h : v s with
  | ok a t =>
    rw [h] at hs
    exact hs.trans (hf a t)
  | error e t =>
    rw [h] at hs
    exact hs

theorem Val.Reads.pure {α : Type} (a : α) : Val.Reads (Pure.pure a : Val α) := fun s => .refl s

theorem Val.Reads.check {α : Type} (c : State → Chk α) : Val.Reads (Val.check c) := by
  intro s
  unfold Val.check
  split <;> exact .refl s

theorem Val.after_ite {s : State} {r : List Byte × Bool × State} (h : Touched s r.2.2) (b : Bad) :
    Touched s (Val.after (if r.2.1 then .error b r.2.2 else .ok r.1 r.2.2)) := by
  split <;> exact h

theorem Val.Reads.read (pos n phase : Nat) : Val.Reads (Val.read pos n phase) := fun s => Val.after_ite (shadowAt_touched s pos n) _

theorem Val.Reads.image (n : Nat) : Val.Reads (Val.image n) := by
  unfold Val.image
  exact .bind (.check _) fun _ => .bind (.read _ _ _) fun _ => .bind (.check _) fun _ => .bind (.check _) fun _ => .bind (.check _) fun _ =>
    .bind (.read _ _ _) fun _ => .bind (.check _) fun _ => .bind (.read _ _ _) fun _ => .bind (.check _) fun _ => .bind (.read _ _ _) fun _ =>
    .bind (.check _) fun _ => .pure _

theorem Val.image_touched {s t : State} {n : Nat} {r : Image × Nat} (h : Val.image n s = .ok r t) : Touched s t := by
  have hreads := Val.Reads.image n s
  rwa [h] at hreads

theorem Val.image_failed_touched {s t : State} {n : Nat} {b : Bad} (h : Val.image n s = .error b t) : Touched s t := by
  have hreads := Val.Reads.image n s
  rwa [h] at hreads

/-! ### What a commit leaves (R96) -/

/-- What the parts of a commit after the image is in force leave as it was. -/
def CommitKept (s t : State) : Prop :=
  t.image = s.image ∧ t.loader = s.loader ∧ t.mem.dram = s.mem.dram ∧ t.runs = s.runs

theorem CommitKept.refl (s : State) : CommitKept s s := ⟨rfl, rfl, rfl, rfl⟩

theorem CommitKept.trans {s t u : State} (h : CommitKept s t) (k : CommitKept t u) : CommitKept s u := by
  obtain ⟨h1, h2, h3, h4⟩ := h
  obtain ⟨k1, k2, k3, k4⟩ := k
  exact ⟨k1.trans h1, k2.trans h2, k3.trans h3, k4.trans h4⟩

theorem CommitKept.foldl {β : Type} (f : State → β → State) (h : ∀ s x, CommitKept s (f s x)) (l : List β) (s : State) :
    CommitKept s (l.foldl f s) := by
  induction l generalizing s with
  | nil => exact .refl s
  | cons x l ih =>
    rw [List.foldl_cons]
    exact (h s x).trans (ih _)

theorem RegsOnly.commitKept {s t : State} (h : RegsOnly s t) : CommitKept s t :=
  ⟨(congrArg State.image h).trans rfl, (congrArg State.loader h).trans rfl, (congrArg (fun u : State => u.mem.dram) h).trans rfl, h.runs⟩

theorem RegsOnly.foldl {β : Type} (f : State → β → State) (h : ∀ s x, RegsOnly s (f s x)) (l : List β) (s : State) :
    RegsOnly s (l.foldl f s) := by
  induction l generalizing s with
  | nil => exact .refl s
  | cons x l ih =>
    rw [List.foldl_cons]
    exact (h s x).trans (ih _)

theorem RegsOnly.setNat {s t : State} (h : RegsOnly s t) (a v : Nat) : RegsOnly s (t.setNat a v) := h.setReg a _

theorem sharedWrite_kept (s : State) (cl off : Nat) (bs : List Byte) : CommitKept s (s.sharedWrite cl off bs) := ⟨rfl, rfl, rfl, rfl⟩

theorem zeroRanges_kept (s : State) (im : Image) (mask : Nat) : CommitKept s (s.zeroRanges im mask) := by
  unfold State.zeroRanges
  exact .foldl _ (fun t r => sharedWrite_kept t _ _ _) _ s

theorem clearGrp_kept (s : State) (g : Nat) : CommitKept s (s.clearGrp g) := ⟨rfl, rfl, rfl, rfl⟩

theorem dropDeltas_kept (s : State) (p : PendDelta → Bool) : CommitKept s (s.dropDeltas p) := by
  unfold State.dropDeltas
  refine CommitKept.trans ?_ (.foldl _ (fun t g => ((RegsOnly.refl t).setFld _ _ _ _).commitKept) _ _)
  exact ⟨rfl, rfl, rfl, rfl⟩

theorem clearDrift_kept (s : State) (p : Nat) : CommitKept s (s.clearDrift p) := by
  have hregs := (((RegsOnly.refl s).setReg (Reg.precDrift p) 0).setReg (Reg.precDriftPeak p) 0).setBit (Reg.precDriftStatus p) 0 false
  exact hregs.commitKept.trans ⟨rfl, rfl, rfl, rfl⟩

theorem clearAffected_kept (s : State) (mask : Nat) : CommitKept s (s.clearAffected mask) := by
  unfold State.clearAffected
  refine CommitKept.trans ?_ (.foldl _ (fun t p => ((RegsOnly.refl t).setBit _ _ _).commitKept.trans (clearDrift_kept _ p)) _ _)
  refine CommitKept.trans ?_ (dropDeltas_kept _ _)
  refine CommitKept.trans ?_ (.foldl _ clearGrp_kept _ _)
  exact .foldl _ (fun t e => ((RegsOnly.refl t).setBit _ _ _).commitKept) _ s

theorem carveAt_kept (s : State) (old : Option Image) (retired : List Word) (im : Image) (p : Nat) :
    CommitKept s (s.carveAt old retired im p) := by
  have hcarve : CommitKept s (s.carve im p) := by
    unfold State.carve
    split <;> exact ⟨rfl, rfl, rfl, rfl⟩
  unfold State.carveAt
  dsimp only
  split
  · exact .refl s
  · exact hcarve.trans ⟨rfl, rfl, rfl, rfl⟩

theorem settleFlows_kept (s : State) (old : Option Image) (im : Image) : CommitKept s (s.settleFlows old im) := by
  unfold State.settleFlows
  split
  · exact .refl s
  · exact ⟨rfl, rfl, rfl, rfl⟩

theorem fullCommit_kept (s : State) : CommitKept s s.fullCommit := by
  unfold State.fullCommit
  refine CommitKept.trans ?_ (nvsFlags_regsOnly _).commitKept
  exact ⟨rfl, rfl, rfl, rfl⟩

theorem showCascade_regsOnly (s : State) (im : Image) : RegsOnly s (s.showCascade im) := by
  unfold State.showCascade
  split
  · exact ((RegsOnly.refl s).setReg _ _).setReg _ _
  · exact ((RegsOnly.refl s).setReg _ _).setReg _ _

theorem showRules_regsOnly (s : State) (im : Image) : RegsOnly s (s.showRules im) := by
  unfold State.showRules
  refine .foldl _ (fun t i => ?_) _ s
  dsimp only
  split
  · exact .foldl _ (fun u a => (RegsOnly.refl u).setReg a 0) _ t
  · exact (((((((RegsOnly.refl t).setNat _ _).setNat _ _).setNat _ _).setNat _ _).setNat _ _).setNat _ _).setNat _ _

theorem settleDikes_regsOnly (s : State) : RegsOnly s s.settleDikes := by
  unfold State.settleDikes
  exact .foldl _ (fun t p => t.setDike_regsOnly _ _ _) _ s

theorem bit_setFld_in (s : State) (a : Nat) {hi lo i : Nat} (v : Nat) (hhi : hi < 32) (hlo : lo ≤ i) (hi' : i ≤ hi) :
    (s.setFld a hi lo v).bit a i = v.testBit (i - lo) := by
  simp only [State.bit, State.reg_setFld, if_true, getLsbD_setFld _ _ hhi]
  rw [if_pos ⟨hlo, hi'⟩]

/-- The registers of a committed image, as they are shown (R104, R106). -/
def ImageShown (t : State) (im : Image) : Prop :=
  t.bit Reg.imgStatus 3 = true ∧ t.bit Reg.imgStatus 0 = false ∧ t.fld Reg.imgStatus 11 8 = 13 ∧ t.nat Reg.imgSerial = im.serial % 2 ^ 32

theorem ImageShown.of_reg {s t : State} {im : Image} (h : ImageShown s im) (h1 : t.reg Reg.imgStatus = s.reg Reg.imgStatus)
    (h2 : t.reg Reg.imgSerial = s.reg Reg.imgSerial) : ImageShown t im := by
  unfold ImageShown State.bit State.fld State.nat at *
  rw [h1, h2]
  exact h

theorem showImage_shows (s : State) (im : Image) : RegsOnly s (s.showImage im) ∧ ImageShown (s.showImage im) im := by
  unfold State.showImage
  obtain ⟨hregs, -⟩ := s.setDigest_frame (Reg.imgDigest 0) im.digest
  dsimp only
  generalize s.setDigest (Reg.imgDigest 0) im.digest = t at hregs ⊢
  have hserial := State.nat_setNat_same t Reg.imgSerial im.serial
  replace hregs := hregs.setNat Reg.imgSerial im.serial
  generalize t.setNat Reg.imgSerial im.serial = u at hserial hregs ⊢
  generalize im.polders.foldl (fun a r => a + 2 ^ r.num) 0 = mask
  replace hregs := (hregs.setNat Reg.imgPolders mask).setFld Reg.imgMember 7 0 im.member
  have hkeep : ((u.setNat Reg.imgPolders mask).setFld Reg.imgMember 7 0 im.member).reg Reg.imgSerial = u.reg Reg.imgSerial := by
    rw [State.reg_setFld_ne _ _ _ _ (by decide), State.reg_setNat_ne _ _ (by decide)]
  generalize (u.setNat Reg.imgPolders mask).setFld Reg.imgMember 7 0 im.member = v at hkeep hregs ⊢
  replace hregs := hregs.setFld Reg.imgStatus 3 0 0xA
  have hkeep' : (v.setFld Reg.imgStatus 3 0 0xA).reg Reg.imgSerial = v.reg Reg.imgSerial := State.reg_setFld_ne _ _ _ _ (by decide)
  have hbit3 := bit_setFld_in v Reg.imgStatus (hi := 3) (lo := 0) (i := 3) 0xA (by decide) (by decide) (by decide)
  have hbit0 := bit_setFld_in v Reg.imgStatus (hi := 3) (lo := 0) (i := 0) 0xA (by decide) (by decide) (by decide)
  generalize v.setFld Reg.imgStatus 3 0 0xA = w at hbit3 hbit0 hregs hkeep' ⊢
  refine ⟨hregs.setFld Reg.imgStatus 11 8 13, ?_, ?_, ?_, ?_⟩
  · exact (State.bit_setFld_ne _ _ (by decide) (.inr (.inl (by decide)))).trans hbit3
  · exact (State.bit_setFld_ne _ _ (by decide) (.inr (.inl (by decide)))).trans hbit0
  · exact State.fld_setFld_same _ _ _ _ _ (by decide) (by decide)
  · rw [State.nat, State.setPhase, State.reg_setFld_ne _ _ _ _ (by decide), hkeep', hkeep]
    exact hserial

theorem recomputeDigests_keeps (s : State) : RegsOnly s s.recomputeDigests ∧
    s.recomputeDigests.reg Reg.imgStatus = s.reg Reg.imgStatus ∧ s.recomputeDigests.reg Reg.imgSerial = s.reg Reg.imgSerial := by
  unfold State.recomputeDigests
  dsimp only
  obtain ⟨h1, r1⟩ := s.setDigest_frame (Reg.nvsSettingsDigest 0) s.settingsDigest
  generalize s.setDigest (Reg.nvsSettingsDigest 0) s.settingsDigest = t at h1 r1 ⊢
  obtain ⟨h2, r2⟩ := t.setDigest_frame (Reg.nvsFwDigest 0) t.sec.fwDigest
  generalize t.setDigest (Reg.nvsFwDigest 0) t.sec.fwDigest = u at h2 r2 ⊢
  obtain ⟨h3, r3⟩ := u.setDigest_frame (Reg.nvsCfgDigest 0) u.cfgDigest
  refine ⟨((h1.trans h2).trans h3).setReg _ _, ?_, ?_⟩
  · rw [State.reg_setReg_ne _ _ (by decide), r3 _ fun i hi => by simp only [Reg.imgStatus, Reg.nvsCfgDigest]; omega,
      r2 _ fun i hi => by simp only [Reg.imgStatus, Reg.nvsFwDigest]; omega, r1 _ fun i hi => by simp only [Reg.imgStatus, Reg.nvsSettingsDigest]; omega]
  · rw [State.reg_setReg_ne _ _ (by decide), r3 _ fun i hi => by simp only [Reg.imgSerial, Reg.nvsCfgDigest]; omega,
      r2 _ fun i hi => by simp only [Reg.imgSerial, Reg.nvsFwDigest]; omega, r1 _ fun i hi => by simp only [Reg.imgSerial, Reg.nvsSettingsDigest]; omega]

/-- The state in which an image has just come into force. -/
def State.imageIn (s : State) (im : Image) : State :=
  { s with image := some im, mem := { s.mem with retired := s.nvm.retire }, loader := State.reset.loader }

theorem runState_clear (s : State) {gone : Nat → Bool} {p : Nat} (h : gone p = false) :
    ({ s with runs := SMap.clear s.runs gone } : State).runState p = s.runState p :=
  (SMap.get_clear (fun _ => RunState.running) s.runs gone p).trans (if_neg (by rw [h]; decide))

theorem keepRuns_keeps (s : State) (old im : List PolderRec) :
    (s.keepRuns old im).image = s.image ∧ (s.keepRuns old im).loader = s.loader ∧ (s.keepRuns old im).mem.dram = s.mem.dram ∧
    ∀ p, p ∈ old.map (fun r => r.num) → p ∈ im.map (fun r => r.num) → (s.keepRuns old im).runState p = s.runState p := by
  have hgone : ∀ p, p ∈ old.map (fun r => r.num) → p ∈ im.map (fun r => r.num) →
      (!(old.any (fun r => r.num == p) && im.any (fun r => r.num == p))) = false := by
    intro p ho hi
    obtain ⟨a, ha, rfl⟩ := List.mem_map.mp ho
    obtain ⟨b, hb, hab⟩ := List.mem_map.mp hi
    have h1 : old.any (fun r => r.num == a.num) = true := List.any_eq_true.mpr ⟨a, ha, by simp⟩
    have h2 : im.any (fun r => r.num == a.num) = true := List.any_eq_true.mpr ⟨b, hb, by simp [hab]⟩
    rw [h1, h2]
    rfl
  unfold State.keepRuns
  dsimp only
  have hfold := RegsOnly.foldl (fun (s : State) p => (s.setBit Reg.mbxStopping p false).setBit Reg.mbxStopped p false)
    (fun t p => ((RegsOnly.refl t).setBit _ _ _).setBit _ _ _)
    ((List.range 32).filter (fun p => !(old.any (fun r => r.num == p) && im.any (fun r => r.num == p))))
    { s with runs := SMap.clear s.runs (fun p => !(old.any (fun r => r.num == p) && im.any (fun r => r.num == p))) }
  obtain ⟨himage, hloader, hdram, hruns⟩ := hfold.commitKept
  refine ⟨himage, hloader, hdram, fun p ho hi => (hfold.runState p).trans (runState_clear s (hgone p ho hi))⟩

/-- The tables of an image, brought into the module (R96). -/
def State.tablesIn (u : State) (old : Option Image) (retired : List Word) (im : Image) (mask : Nat) : State :=
  let t := ((List.range 32).filter (affects mask)).foldl (fun (u : State) p => u.carveAt old retired im p)
    ((u.zeroRanges im mask).clearAffected mask)
  if mask = 0 then ((t.fullCommit.settleFlows old im).showCascade im) else t

/-- The registers of an image, and the entry of its commit (R104). -/
def State.commitShown (u : State) (im : Image) (mask : Nat) : State :=
  let t := ((u.showRules im).settleDikes.showImage im).recomputeDigests
  t.event 0x0201 Src.module none (dataOf [(0, if mask = 0 then 1 else 2), (4, im.serial), (8, t.nat Reg.imgPolders), (12, t.nat (Reg.imgDigest 0))])

/-- The run states after a commit (R110). -/
def State.runsKept (s : State) (im : Image) : State :=
  ((s.imageIn im).setBit Reg.memRetireStatus 4 false).keepRuns ((s.image.map (fun i => i.polders)).getD []) im.polders

/-- A commit, up to the resets that it held back. -/
def State.committed (s : State) (im : Image) (mask : Nat) : State :=
  ((s.runsKept im).tablesIn s.image s.mem.retired im mask).commitShown im mask

theorem commitImage_eq (s : State) (im : Image) (mask : Nat) :
    s.commitImage im mask = s.loader.heldResets.foldl State.heldReset (s.committed im mask) := rfl

theorem tablesIn_kept (u : State) (old : Option Image) (retired : List Word) (im : Image) (mask : Nat) :
    CommitKept u (u.tablesIn old retired im mask) := by
  unfold State.tablesIn
  refine ((zeroRanges_kept u im mask).trans (clearAffected_kept _ mask)).trans ?_
  refine (CommitKept.foldl _ (fun t p => carveAt_kept t old retired im p) ((List.range 32).filter (affects mask)) _).trans ?_
  dsimp only
  split
  · exact ((fullCommit_kept _).trans (settleFlows_kept _ old im)).trans (showCascade_regsOnly _ im).commitKept
  · exact .refl _

/-- An entry of the almanac leaves the image and its registers. -/
theorem event_shown {s u : State} {im : Image} (hkept : CommitKept s u) (hshown : ImageShown u im) (code : Nat) (src : Nat × Nat) (data : Nat) :
    CommitKept s (u.event code src none data) ∧ ImageShown (u.event code src none data) im := by
  have hevent := Steady.event u code src none data
  obtain ⟨k1, k2, k3, k4⟩ := hkept
  refine ⟨⟨hevent.image.trans k1, hevent.loader.trans k2, (congrArg Memories.dram (State.event_mem u code src none data)).trans k3,
    hevent.runs.trans k4⟩, hshown.of_reg ?_ ?_⟩
  · exact State.reg_event u _ _ _ _ _ (by decide) (by decide)
  · exact State.reg_event u _ _ _ _ _ (by decide) (by decide)

theorem commitShown_shows (u : State) (im : Image) (mask : Nat) :
    CommitKept u (u.commitShown im mask) ∧ ImageShown (u.commitShown im mask) im := by
  have h1 := (showRules_regsOnly u im).trans (settleDikes_regsOnly _)
  obtain ⟨h2, hshown⟩ := showImage_shows ((u.showRules im).settleDikes) im
  obtain ⟨h3, r1, r2⟩ := recomputeDigests_keeps (((u.showRules im).settleDikes).showImage im)
  exact event_shown ((h1.trans h2).trans h3).commitKept (hshown.of_reg r1 r2) _ _ _

theorem runsKept_keeps (s : State) (im : Image) :
    (s.runsKept im).image = some im ∧ (s.runsKept im).loader = State.reset.loader ∧ (s.runsKept im).mem.dram = s.mem.dram ∧
    ∀ p, p ∈ s.polders → p ∈ im.polders.map (fun r => r.num) → (s.runsKept im).runState p = s.runState p := by
  obtain ⟨himage, hloader, hdram, hruns⟩ := keepRuns_keeps ((s.imageIn im).setBit Reg.memRetireStatus 4 false)
    ((s.image.map (fun i => i.polders)).getD []) im.polders
  exact ⟨himage, hloader, hdram, hruns⟩

theorem committed_leaves (s : State) (im : Image) (mask : Nat) :
    (s.committed im mask).image = some im ∧ ImageShown (s.committed im mask) im ∧ (s.committed im mask).loader = State.reset.loader ∧
    (s.committed im mask).mem.dram = s.mem.dram ∧
    ∀ p, p ∈ s.polders → p ∈ im.polders.map (fun r => r.num) → (s.committed im mask).runState p = s.runState p := by
  obtain ⟨himage, hloader, hdram, hruns⟩ := runsKept_keeps s im
  obtain ⟨hshow, hshown⟩ := commitShown_shows ((s.runsKept im).tablesIn s.image s.mem.retired im mask) im mask
  obtain ⟨k1, k2, k3, k4⟩ := (tablesIn_kept (s.runsKept im) s.image s.mem.retired im mask).trans hshow
  refine ⟨k1.trans himage, hshown, k2.trans hloader, k3.trans hdram, fun p hp hi => ?_⟩
  exact (congrArg (fun r => SMap.get (fun _ => RunState.running) r p) k4).trans (hruns p hp hi)

/-- What IMG_STATUS and the module show once an image is in force, the run states as those of `s` (R96, R104, R110). -/
def InForce (s : State) (im : Image) (dram : Memories → Prop) (u : State) : Prop :=
  u.image = some im ∧ u.bit Reg.imgStatus 3 = true ∧ u.bit Reg.imgStatus 0 = false ∧ u.fld Reg.imgStatus 11 8 = 13 ∧
  u.nat Reg.imgSerial = im.serial % 2 ^ 32 ∧ u.loader = State.reset.loader ∧ dram u.mem ∧
  (∀ p, p ∈ s.polders → p ∈ im.polders.map (fun r => r.num) → u.runState p = s.runState p)

theorem InForce.withQueue {s u : State} {im : Image} {dram : Memories → Prop} (h : InForce s im dram u) (q : List Instr) :
    InForce s im dram (u.withQueue q) := h

theorem InForce.of_touched {s t u : State} {im : Image} {dram : Memories → Prop} (h : Touched s t) (hu : InForce t im dram u) :
    InForce s im dram u := by
  obtain ⟨himage, h3, h0, hphase, hserial, hloader, hdram, hruns⟩ := hu
  have hpolders : t.polders = s.polders := by rw [State.polders, h.image, State.polders]
  refine ⟨himage, h3, h0, hphase, hserial, hloader, hdram, fun p hp hi => (hruns p (hpolders ▸ hp) hi).trans ?_⟩
  rw [State.runState, h.runs, State.runState]

theorem committed_inForce (s : State) (im : Image) (mask : Nat) :
    InForce s im (fun m => m.dram = s.mem.dram) (s.committed im mask) := by
  obtain ⟨himage, ⟨h3, h0, hphase, hserial⟩, hloader, hdram, hruns⟩ := committed_leaves s im mask
  exact ⟨himage, h3, h0, hphase, hserial, hloader, hdram, hruns⟩

/-- The commit of an image that its read of the shadow area, with no reset held back, puts in force. -/
theorem commitImage_inForce {s t : State} (h : Touched s t) (hheld : s.loader.heldResets = []) (im : Image) (mask : Nat) (q : List Instr) :
    InForce s im (fun m => m.dram = t.mem.dram) ((t.commitImage im mask).withQueue q) := by
  rw [commitImage_eq, h.loader, hheld, List.foldl_nil]
  exact ((committed_inForce t im mask).of_touched h).withQueue q

/-! ### GO, SRC and ABORT -/

/-- Only the loader and registers differ. -/
def LoaderOnly (s t : State) : Prop := t = { s with regs := t.regs, loader := t.loader }

theorem LoaderOnly.trans {s t u : State} (h : LoaderOnly s t) (k : LoaderOnly t u) : LoaderOnly s u := by
  unfold LoaderOnly at *
  rw [k]; simp only; rw [h]

theorem LoaderOnly.restored {s t : State} (h : LoaderOnly s t) : { t with regs := s.regs, loader := s.loader } = s := by
  rw [h]

theorem RegsOnly.loaderOnly {s t : State} (h : RegsOnly s t) : LoaderOnly s t := by
  unfold RegsOnly at h
  unfold LoaderOnly
  rw [h]

theorem LoaderOnly.image {s t : State} (h : LoaderOnly s t) : t.image = s.image := (congrArg State.image h).trans rfl

theorem LoaderOnly.mem {s t : State} (h : LoaderOnly s t) : t.mem = s.mem := (congrArg State.mem h).trans rfl

/-- How a failed load shows itself (R102, R104). -/
theorem failShown_shows (s : State) (code sect : Nat) :
    (s.failShown code sect).bit Reg.imgStatus 0 = false ∧ (s.failShown code sect).bit Reg.imgStatus 2 = true ∧
    (code < 256 → (s.failShown code sect).fld Reg.imgStatus 23 16 = code) ∧
    (s.failShown code sect).fld Reg.imgStatus 11 8 = s.fld Reg.imgStatus 11 8 := by
  unfold State.failShown
  refine ⟨?_, ?_, fun h => ?_, ?_⟩
  · rw [State.bit_setFld_ne _ _ (by decide) (.inr (.inl (by decide))), State.bit_setFld_ne _ _ (by decide) (.inr (.inl (by decide))),
      State.bit_setBit_ne _ _ _ _ _ _ (.inr (by decide)), State.bit_setBit_ne _ _ _ _ _ _ (.inr (by decide)),
      State.bit_setBit_same _ _ _ _ (by decide)]
  · rw [State.bit_setFld_ne _ _ (by decide) (.inr (.inl (by decide))), State.bit_setFld_ne _ _ (by decide) (.inr (.inl (by decide))),
      State.bit_setBit_ne _ _ _ _ _ _ (.inr (by decide)), State.bit_setBit_same _ _ _ _ (by decide)]
  · rw [State.fld_setFld_ne _ _ (by decide) (.inr (.inr (by decide))), State.fld_setFld_same _ _ _ _ _ (by decide) (by decide)]
    exact Nat.mod_eq_of_lt h
  · rw [State.fld_setFld_ne _ _ (by decide) (.inr (.inr (by decide))), State.fld_setFld_ne _ _ (by decide) (.inr (.inr (by decide))),
      State.fld_setBit_ne _ _ (.inr (by decide)), State.fld_setBit_ne _ _ (.inr (by decide)), State.fld_setBit_ne _ _ (.inr (by decide))]

theorem loadOver_shows {s u : State} {code phase : Nat} (hframe : LoaderOnly s u) (h0 : u.bit Reg.imgStatus 0 = false)
    (h2 : u.bit Reg.imgStatus 2 = true) (hcode : code < 256 → u.fld Reg.imgStatus 23 16 = code) (hphase : u.fld Reg.imgStatus 11 8 = phase) :
    u.loadOver.loader.stage = .idle ∧ u.loadOver.bit Reg.imgStatus 0 = false ∧ u.loadOver.bit Reg.imgStatus 2 = true ∧
    (code < 256 → u.loadOver.fld Reg.imgStatus 23 16 = code) ∧ u.loadOver.fld Reg.imgStatus 11 8 = phase ∧ LoaderOnly s u.loadOver :=
  ⟨rfl, h0, h2, hcode, hphase, hframe.trans rfl⟩

theorem loadFail_shows (s : State) (code sect : Nat) :
    (s.loadFail code sect).loader.stage = .idle ∧ (s.loadFail code sect).bit Reg.imgStatus 0 = false ∧
    (s.loadFail code sect).bit Reg.imgStatus 2 = true ∧ (code < 256 → (s.loadFail code sect).fld Reg.imgStatus 23 16 = code) ∧
    (s.loadFail code sect).fld Reg.imgStatus 11 8 = s.fld Reg.imgStatus 11 8 ∧ LoaderOnly s (s.loadFail code sect) := by
  obtain ⟨h0, h2, hcode, hphase⟩ := failShown_shows s code sect
  have hframe := (State.failShown_regsOnly s code sect).loaderOnly
  rw [State.loadFail_eq]
  exact loadOver_shows hframe h0 h2 hcode hphase

theorem failPhase_shows (s : State) (b : Bad) :
    (s.failPhase b).loader.stage = .idle ∧ (s.failPhase b).bit Reg.imgStatus 2 = true ∧
    (b.phase < 16 → (s.failPhase b).fld Reg.imgStatus 11 8 = b.phase) ∧ (b.code < 256 → (s.failPhase b).fld Reg.imgStatus 23 16 = b.code) ∧
    LoaderOnly s (s.failPhase b) := by
  obtain ⟨hstage, -, h2, hcode, hphase, hframe⟩ := loadFail_shows (s.setPhase b.phase) b.code b.sect
  refine ⟨hstage, h2, fun h => hphase.trans ?_, hcode, ((RegsOnly.refl s).setFld Reg.imgStatus 11 8 b.phase).loaderOnly.trans hframe⟩
  exact (State.fld_setFld_same s _ _ _ _ (by decide) (by decide)).trans (Nat.mod_eq_of_lt h)

theorem setSource_leaves (s : State) {src : Nat} (hsrc : src < 4) :
    (s.setSource src).imgSource = src ∧ (s.setSource src).loader.stage = s.loader.stage ∧ LoaderOnly s (s.setSource src) ∧
    ∀ a, a ≠ Reg.imgCtrl → (s.setSource src).reg a = s.reg a := by
  have hfld : (s.setFld Reg.imgCtrl 2 1 src).fld Reg.imgCtrl 2 1 = src :=
    (State.fld_setFld_same s _ _ _ _ (by decide) (by decide)).trans (Nat.mod_eq_of_lt hsrc)
  have hregs := (RegsOnly.refl s).setFld Reg.imgCtrl 2 1 src
  have hreg : ∀ a, a ≠ Reg.imgCtrl → (s.setFld Reg.imgCtrl 2 1 src).reg a = s.reg a := fun a ha => State.reg_setFld_ne _ _ _ _ ha
  unfold State.setSource
  split
  next h => exact ⟨h, rfl, rfl, fun _ _ => rfl⟩
  next h =>
    dsimp only
    split
    · exact ⟨hfld, rfl, hregs.loaderOnly.trans rfl, hreg⟩
    · exact ⟨hfld, rfl, hregs.loaderOnly, hreg⟩

/-- The state in which an accepted GO checks its source (R99, R104). -/
def State.goShown (s : State) : State := s.setReg Reg.imgStatus ((s.reg Reg.imgStatus &&& 8) ||| 0xFF000001)

/-- What the checks of a GO read is not changed by it. -/
theorem goShown_same (s : State) {src : Nat} (hsrc : src < 4) :
    (s.setSource src).goShown.areaNone = s.areaNone ∧ (s.setSource src).goShown.sourceOk = s.sourceOk ∧
    (s.setSource src).goShown.imgLen = s.imgLen ∧ (s.setSource src).goShown.imgAddr = s.imgAddr ∧
    LoaderOnly s (s.setSource src).goShown ∧ (s.setSource src).goShown.imgSource = src ∧ (s.setSource src).goShown.bit Reg.imgStatus 0 = true := by
  obtain ⟨hsource, -, hframe, hreg⟩ := setSource_leaves s hsrc
  generalize s.setSource src = u at hsource hframe hreg ⊢
  have hr : ∀ a, a ≠ Reg.imgCtrl → a ≠ Reg.imgStatus → u.goShown.reg a = s.reg a := fun a h1 h2 =>
    (State.reg_setReg_ne _ _ h2).trans (hreg a h1)
  have hnone : u.goShown.areaNone = s.areaNone := by rw [State.areaNone, State.bit, hr _ (by decide) (by decide)]; rfl
  have hpair : u.goShown.areaPair = s.areaPair := by rw [State.areaPair, State.fld, hr _ (by decide) (by decide)]; rfl
  have hlen : u.goShown.imgLen = s.imgLen := by rw [State.imgLen, State.nat, hr _ (by decide) (by decide)]; rfl
  have haddr : u.goShown.imgAddr = s.imgAddr := by
    rw [State.imgAddr, State.nat, State.fld, hr _ (by decide) (by decide), hr _ (by decide) (by decide)]
    rfl
  refine ⟨hnone, ?_, hlen, haddr, hframe.trans rfl, ?_, ?_⟩
  · funext src
    simp only [State.sourceOk, State.meetsShadow, hnone, hpair, hlen, haddr]
  · rw [State.imgSource, State.fld, State.goShown, State.reg_setReg_ne _ _ (by decide)]
    exact hsource
  · rw [State.bit, State.goShown, State.reg_setReg, if_pos rfl, BitVec.getLsbD_or]
    exact Bool.or_eq_true_iff.mpr (.inr (by decide))

theorem startLoad_noArea {u : State} (h : u.goShown.areaNone = true) (src : Nat) :
    u.startLoad src = u.goShown.failPhase ⟨0, Ie.memory, 0xFF⟩ := if_pos h

theorem startLoad_badSource {u : State} {src : Nat} (h : u.goShown.areaNone = false) (hok : u.goShown.sourceOk src = false) :
    u.startLoad src = u.goShown.failPhase ⟨0, Ie.length, 0xFF⟩ :=
  (if_neg (by rw [← State.goShown, h]; decide)).trans (if_pos (by rw [← State.goShown, hok]; decide))

/-- The loader of an accepted GO. -/
def State.goLoad (u : State) (src : Nat) : Loader :=
  { u.loader with srcAddr := u.imgAddr, length := u.imgLen,
                  portOver := decide (src = 0) && (u.loader.portOver || decide (u.loader.portPos ≠ u.imgLen)) }

/-- The state of an accepted GO: the port goes straight to validation, a staging source is copied first (R99). -/
def State.goTaken (u : State) (src : Nat) : State :=
  if src = 0 then { u.setPhase 1 with loader := { u.goLoad src with stage := .validating } }
  else { u with loader := { u.goLoad src with stage := .copying, snap := u.sourceSnap u.imgAddr (min u.imgLen 0x4000000) } }

theorem startLoad_taken {u : State} {src : Nat} (h : u.goShown.areaNone = false) (hok : u.goShown.sourceOk src = true) :
    u.startLoad src = u.goShown.goTaken src :=
  (if_neg (by rw [← State.goShown, h]; decide)).trans (if_neg (by rw [← State.goShown, hok]; decide))

theorem goTaken_leaves (u : State) (src : Nat) :
    (u.goTaken src).bit Reg.imgStatus 0 = u.bit Reg.imgStatus 0 ∧ (u.goTaken src).imgSource = u.imgSource ∧
    (u.goTaken src).loader.length = u.imgLen ∧ LoaderOnly u (u.goTaken src) ∧ (src = 0 → (u.goTaken src).loader.stage = .validating) ∧
    (src ≠ 0 → (u.goTaken src).loader.stage = .copying ∧ (u.goTaken src).loader.srcAddr = u.imgAddr ∧
      (u.goTaken src).loader.snap = u.sourceSnap u.imgAddr (min u.imgLen 0x4000000)) := by
  unfold State.goTaken
  split
  next h =>
    have hbit : (u.setPhase 1).bit Reg.imgStatus 0 = u.bit Reg.imgStatus 0 := State.bit_setFld_ne _ _ (by decide) (.inr (.inl (by decide)))
    have hsource : (u.setPhase 1).imgSource = u.imgSource := State.fld_setFld_ne _ _ (by decide) (.inl (by decide))
    have hframe : LoaderOnly u (u.setPhase 1) := ((RegsOnly.refl u).setFld _ _ _ _).loaderOnly
    exact ⟨hbit, hsource, rfl, hframe.trans rfl, fun _ => rfl, fun hne => absurd h hne⟩
  next h => exact ⟨rfl, rfl, rfl, rfl, fun h0 => absurd h0 h, fun _ => ⟨rfl, rfl, rfl⟩⟩

/-- The bytes of a staging source do not depend on the registers. -/
theorem LoaderOnly.sourceSnap {s t : State} (h : LoaderOnly s t) (a n : Nat) : t.sourceSnap a n = s.sourceSnap a n := by
  have hhost : t.host = s.host := (congrArg State.host h).trans rfl
  have hcell : t.cellOf = s.cellOf := by
    funext c p
    rw [State.cellOf, State.rotated, h.image, State.cellOf, State.rotated]
  simp only [State.sourceSnap, hhost, h.mem, hcell]

theorem doImgGo_idle {s : State} {src : Nat} (hsrc : src < 4) (hopen : s.hostOpen = true) (hidle : s.loader.stage = .idle) :
    doImgGo src s = (s.setSource src).startLoad src := by
  obtain ⟨-, hstage, -, -⟩ := setSource_leaves s hsrc
  rw [doImgGo, if_neg (by rw [hopen]; decide)]
  exact if_pos (hstage.trans hidle)

theorem doImgGo_busy {s : State} {src : Nat} (hsrc : src < 4) (hopen : s.hostOpen = true) (hbusy : s.loader.stage ≠ .idle) :
    doImgGo src s = s.setSource src := by
  obtain ⟨-, hstage, -, -⟩ := setSource_leaves s hsrc
  rw [doImgGo, if_neg (by rw [hopen]; decide)]
  exact if_neg fun h => hbusy (hstage.symm.trans h)

/-- What a load shows that failed at its start with a code (R94, R102). -/
def GoFailed (s : State) (code : Nat) (t : State) : Prop :=
  t.loader.stage = .idle ∧ t.bit Reg.imgStatus 2 = true ∧ t.fld Reg.imgStatus 11 8 = 0 ∧ t.fld Reg.imgStatus 23 16 = code ∧ t.image = s.image

theorem GoFailed.withQueue {s t : State} {code : Nat} (h : GoFailed s code t) (q : List Instr) : GoFailed s code (t.withQueue q) := h

theorem failPhase_goFailed {s u : State} {code : Nat} (hcode : code < 256) (hframe : LoaderOnly s u) :
    GoFailed s code (u.failPhase ⟨0, code, 0xFF⟩) := by
  obtain ⟨hstage, hbit, hphase, hfld, hfail⟩ := failPhase_shows u ⟨0, code, 0xFF⟩
  exact ⟨hstage, hbit, hphase (show 0 < 16 by decide), hfld hcode, hfail.image.trans hframe.image⟩

theorem failPhase_ends (s : State) (b : Bad) (q : List Instr) :
    ((s.failPhase b).withQueue q).loader.stage = .idle ∧ ((s.failPhase b).withQueue q).bit Reg.imgStatus 2 = true ∧
    ((s.failPhase b).withQueue q).image = s.image := by
  obtain ⟨hstage, h2, -, -, hframe⟩ := failPhase_shows s b
  rw [State.withQueue_loader, State.withQueue_read_bit, State.withQueue_image]
  exact ⟨hstage, h2, hframe.image⟩

theorem go_starts {s : State} {src : Nat} (hsrc : src < 4) :
    let t := ((s.setSource src).goShown.goTaken src).withQueue s.pending
    t.bit Reg.imgStatus 0 = true ∧ t.imgSource = src ∧ t.loader.length = s.imgLen ∧ t.image = s.image ∧ t.mem = s.mem ∧
    (src = 0 → t.loader.stage = .validating) ∧
    (src ≠ 0 → t.loader.stage = .copying ∧ t.loader.srcAddr = s.imgAddr ∧ t.loader.snap = s.sourceSnap s.imgAddr (min s.imgLen 0x4000000)) := by
  obtain ⟨-, -, hlen, haddr, hframe, hsource, hbit⟩ := goShown_same s hsrc
  obtain ⟨hbit', hsource', hlen', hframe', hport, hstaging⟩ := goTaken_leaves (s.setSource src).goShown src
  have hall := hframe.trans hframe'
  simp only [State.withQueue_read_bit, State.imgSource, State.withQueue_read_fld, State.withQueue_loader, State.withQueue_image, State.withQueue_mem]
  refine ⟨hbit'.trans hbit, hsource'.trans hsource, hlen'.trans hlen, hall.image, hall.mem, hport, fun hne => ?_⟩
  obtain ⟨hstage, hsrcAddr, hsnap⟩ := hstaging hne
  refine ⟨hstage, hsrcAddr.trans haddr, hsnap.trans ?_⟩
  rw [haddr, hlen]
  exact hframe.sourceSnap _ _

/-! ### The copy, the validation and the port -/

theorem doImgAbort_loading {s : State} (hopen : s.hostOpen = true) (h : s.loader.stage = .copying ∨ s.loader.stage = .validating) :
    doImgAbort s = s.loadFail Ie.aborted 0xFF :=
  if_pos (by simpa [hopen] using h)

/-- What a write of the port leaves, with the bytes that fit written (R100). -/
theorem portTaken_leaves {s x : State} (himage : x.image = s.image) (hloader : x.loader = s.loader) (n : Nat) (late : Bool) (q : List Instr) :
    let t := ({ x with loader := { x.loader with portPos := x.loader.portPos + n, portOver := x.loader.portOver || late } } : State).withQueue q
    t.image = s.image ∧ t.loader.stage = s.loader.stage ∧ t.loader.portPos = s.loader.portPos + n ∧
    t.loader.portOver = (s.loader.portOver || late) ∧ t.mem = x.mem := by
  dsimp only
  rw [hloader]
  exact ⟨himage, rfl, rfl, rfl, rfl⟩

/-- The state with a write of the port stored in the shadow area, where there is one. -/
def State.portStored (s : State) (bs : List Byte) : State := if s.areaNone then s else s.shadowWrite s.loader.portPos bs

theorem portStored_touched (s : State) (bs : List Byte) : Touched s (s.portStored bs) := by
  unfold State.portStored
  split
  · exact .refl s
  · exact shadowWrite_touched _ _ _

theorem portStored_mem (s : State) (env : Env) (bs : List Byte) : ((s.arrive env).portStored bs).mem =
    (if s.areaNone = true then s.arrive env else (s.arrive env).shadowWrite s.loader.portPos bs).mem := rfl

theorem doImgPortWrite_open {s : State} {env : Env} {data : List Byte} (hopen : s.hostOpen = true) (hidle : s.loader.stage = .idle) :
    doImgPortWrite data env s =
      let room := min s.imgLen 0x4000000 - s.loader.portPos
      let x := (s.arrive env).portStored (data.take room)
      { x with loader := { x.loader with portPos := x.loader.portPos + (data.take room).length,
                                         portOver := x.loader.portOver || decide (room < data.length) } } := by
  unfold doImgPortWrite
  rw [if_neg (by simp [hopen, hidle])]
  rfl

theorem doImageCopyDone_waits {s : State} {env : Env} (h : s.loader.stage ≠ .copying) : doImageCopyDone env s = s.arrive env :=
  if_pos (by simp [h])

theorem doImageCopyDone_read {s t : State} {env : Env} {bs : List Byte} (hcopy : s.loader.stage = .copying)
    (hhost : (isHost s.loader.srcAddr && s.pcie.d3.contains 0) = false) (hread : (s.arrive env).sourceRead = (some bs, t)) :
    doImageCopyDone env s = { (t.shadowWrite 0 bs).setPhase 1 with loader := { (t.shadowWrite 0 bs).loader with stage := .validating } } := by
  unfold doImageCopyDone
  dsimp only
  rw [if_neg, hread]
  simpa [hcopy] using hhost

theorem doImageCopyDone_lost {s t : State} {env : Env} (hcopy : s.loader.stage = .copying)
    (hhost : (isHost s.loader.srcAddr && s.pcie.d3.contains 0) = false) (hread : (s.arrive env).sourceRead = (none, t)) :
    doImageCopyDone env s = t.failPhase ⟨0, Ie.memory, 0xFF⟩ := by
  unfold doImageCopyDone
  dsimp only
  rw [if_neg, hread]
  simpa [hcopy] using hhost

theorem doImageValidationDone_waits {s : State} {env : Env} (h : s.loader.stage ≠ .validating) : doImageValidationDone env s = s.arrive env :=
  if_pos h

theorem doImageValidationDone_ok {s t : State} {env : Env} {im : Image} {mask : Nat} (hval : s.loader.stage = .validating)
    (h : Val.image s.loader.length (s.arrive env) = .ok (im, mask) t) : doImageValidationDone env s =
      { t.setPhase 13 with loader := { t.loader with stage := .committing, next := some im, partialMask := mask } } := by
  unfold doImageValidationDone
  dsimp only
  rw [if_neg (by rw [State.arrive_loader]; exact not_not_intro hval)]
  simp only [State.arrive_loader, h]

theorem doImageValidationDone_failed {s t : State} {env : Env} {b : Bad} (hval : s.loader.stage = .validating)
    (h : Val.image s.loader.length (s.arrive env) = .error b t) : doImageValidationDone env s = t.failPhase b := by
  unfold doImageValidationDone
  dsimp only
  rw [if_neg (by rw [State.arrive_loader]; exact not_not_intro hval)]
  simp only [State.arrive_loader, h]

theorem doImageCommit_reads {s t : State} {im : Image} {bs : List Byte} (hst : s.loader.stage = .committing) (him : s.loader.next = some im)
    (hread : s.shadowRead s.loader.length = (bs, false, t)) : doImageCommit s = t.commitImage im s.loader.partialMask := by
  unfold doImageCommit
  rw [hst, him]
  dsimp only
  rw [hread]
  rfl

theorem doImageCommit_lost {s t : State} {im : Image} {bs : List Byte} (hst : s.loader.stage = .committing) (him : s.loader.next = some im)
    (hread : s.shadowRead s.loader.length = (bs, true, t)) (hheld : s.loader.heldResets = []) :
    doImageCommit s = { t.failPhase ⟨13, Ie.memory, 0xFF⟩ with loader := State.reset.loader } := by
  unfold doImageCommit
  rw [hst, him]
  dsimp only
  rw [hread, hheld]
  rfl

theorem doImageCommit_waits {s : State} (h : s.loader.stage ≠ .committing) : doImageCommit s = s := by
  unfold doImageCommit
  split
  next h1 _ => exact absurd h1 h
  · rfl

/-- A load whose bytes have been validated or copied goes on in its next phase. -/
theorem validating_leaves (u : State) (q : List Instr) :
    let t := ({ u.setPhase 1 with loader := { u.loader with stage := .validating } } : State).withQueue q
    t.loader.stage = .validating ∧ t.fld Reg.imgStatus 11 8 = 1 ∧ t.image = u.image ∧ t.mem = u.mem :=
  ⟨rfl, State.fld_setFld_same u _ _ _ _ (by decide) (by decide), rfl, rfl⟩

theorem committing_leaves (u : State) (im : Image) (mask : Nat) (q : List Instr) :
    let t := ({ u.setPhase 13 with loader := { u.loader with stage := .committing, next := some im, partialMask := mask } } : State).withQueue q
    t.loader.stage = .committing ∧ t.loader.next = some im ∧ t.loader.partialMask = mask ∧ t.fld Reg.imgStatus 11 8 = 13 ∧ t.image = u.image :=
  ⟨rfl, rfl, rfl, State.fld_setFld_same u _ _ _ _ (by decide) (by decide), rfl⟩

end Sys2Proof.Machine

namespace Sys2Proof.Proofs
open Sys2Proof.Machine

/-- Settles O40: each row in its branch, with what the loader and IMG_STATUS show; the accesses leave the image (`Touched`), and so does a
commit the run states (`committed_leaves`). -/
theorem imageLoads : Obligations.ImageLoads := by
  unfold Obligations.ImageLoads
  refine fun s env => ⟨fun src hsrc hopen => ⟨fun hidle => ⟨?_, fun harea => ?_, fun harea hok => ?_, fun harea hok => ?_⟩, fun hbusy => ?_, ?_, ?_⟩,
    fun src hsrc hclosed => ⟨?_, ?_, ?_, fun data => ?_⟩, fun hopen hload => ⟨?_, ?_⟩, fun hno => ?_, fun data hopen hidle => ?_, fun data hbusy => ?_,
    fun hcopy hhost => ⟨fun bs t hread => ⟨?_, ?_⟩, fun t hread => ?_⟩, fun hno => ?_, fun hval => ⟨fun im mask t himage => ⟨?_, ?_⟩,
    fun b t himage => ⟨?_, ?_⟩⟩, fun hno => ?_, fun im bs t hst him => ⟨fun hread => ⟨?_, fun hheld => ?_⟩, fun hread hheld => ?_⟩, fun hno => ?_⟩
  · exact becomes_of (exec_imgGo src s) (decide_eq_true hsrc) (doImgGo_idle hsrc hopen hidle)
  · refine completes_of (exec_imgGo src s) (decide_eq_true hsrc) ?_
    obtain ⟨hnone, -, -, -, hframe, -, -⟩ := goShown_same s hsrc
    rw [doImgGo_idle hsrc hopen hidle, startLoad_noArea (hnone.trans harea)]
    exact (failPhase_goFailed (by decide) hframe).withQueue s.pending
  · refine completes_of (exec_imgGo src s) (decide_eq_true hsrc) ?_
    obtain ⟨hnone, hsourceOk, -, -, hframe, -, -⟩ := goShown_same s hsrc
    rw [doImgGo_idle hsrc hopen hidle, startLoad_badSource (hnone.trans harea) ((congrFun hsourceOk src).trans hok)]
    exact (failPhase_goFailed (by decide) hframe).withQueue s.pending
  · refine completes_of (exec_imgGo src s) (decide_eq_true hsrc) ?_
    obtain ⟨hnone, hsourceOk, -, -, -, -, -⟩ := goShown_same s hsrc
    rw [doImgGo_idle hsrc hopen hidle, startLoad_taken (hnone.trans harea) ((congrFun hsourceOk src).trans hok)]
    exact go_starts hsrc
  · exact becomes_of (exec_imgGo src s) (decide_eq_true hsrc) (doImgGo_busy hsrc hopen hbusy)
  · exact becomes_of (exec_imgSrc src s) (decide_eq_true hsrc) (if_pos hopen)
  · refine completes_of (exec_imgSrc src s) (decide_eq_true hsrc) ?_
    rw [doImgSrc, if_pos hopen]
    obtain ⟨hsource, hstage, hframe, -⟩ := setSource_leaves s hsrc
    rw [withQueue_self ((congrArg State.pending hframe).trans rfl)]
    exact ⟨hsource, hstage, hframe.restored⟩
  · exact becomes_of (exec_imgGo src s) (decide_eq_true hsrc) (by simp [doImgGo, hclosed])
  · exact becomes_of (exec_imgSrc src s) (decide_eq_true hsrc) (by simp [doImgSrc, hclosed])
  · exact becomes_of (exec_imgAbort s) rfl (by simp [doImgAbort, hclosed])
  · exact becomes_of (exec_imgPortWrite data env s) rfl (by simp [doImgPortWrite, hclosed])
  · exact becomes_of (exec_imgAbort s) rfl (doImgAbort_loading hopen hload)
  · refine completes_of (exec_imgAbort s) rfl ?_
    rw [doImgAbort_loading hopen hload]
    obtain ⟨hstage, h0, h2, hcode, -, hframe⟩ := loadFail_shows s Ie.aborted 0xFF
    rw [withQueue_self ((congrArg State.pending hframe).trans rfl)]
    exact ⟨hstage, h0, h2, hcode (by decide), hframe.restored⟩
  · refine becomes_of (exec_imgAbort s) rfl (if_neg ?_)
    rcases hno with h | h <;> simp [h]
  · refine completes_of (exec_imgPortWrite data env s) rfl ?_
    rw [doImgPortWrite_open hopen hidle]
    obtain ⟨himage, hstage, hpos, hover, hmem⟩ := portTaken_leaves ((portStored_touched (s.arrive env) _).image.trans rfl)
      ((portStored_touched (s.arrive env) _).loader.trans rfl) (data.take (min s.imgLen 0x4000000 - s.loader.portPos)).length
      (decide (min s.imgLen 0x4000000 - s.loader.portPos < data.length)) s.pending
    exact ⟨himage, hstage.trans hidle, hpos, hover, hmem.trans (portStored_mem s env _)⟩
  · exact becomes_of (exec_imgPortWrite data env s) rfl (by simp [doImgPortWrite, hbusy])
  · exact becomes_of (exec_imageCopyDone env s) rfl (doImageCopyDone_read hcopy hhost hread)
  · refine completes_of (exec_imageCopyDone env s) rfl ?_
    rw [doImageCopyDone_read hcopy hhost hread]
    have hsource := sourceRead_touched (s.arrive env)
    rw [hread] at hsource
    obtain ⟨hstage, hphase, himage, hmem⟩ := validating_leaves (t.shadowWrite 0 bs) s.pending
    exact ⟨hstage, hphase, himage.trans ((hsource.trans (shadowWrite_touched t 0 bs)).image.trans rfl), hmem⟩
  · exact becomes_of (exec_imageCopyDone env s) rfl (doImageCopyDone_lost hcopy hhost hread)
  · exact becomes_of (exec_imageCopyDone env s) rfl (doImageCopyDone_waits hno)
  · exact becomes_of (exec_imageValidationDone env s) rfl (doImageValidationDone_ok hval himage)
  · refine completes_of (exec_imageValidationDone env s) rfl ?_
    rw [doImageValidationDone_ok hval himage]
    obtain ⟨hstage, hnext, hmask, hphase, hsame⟩ := committing_leaves t im mask s.pending
    exact ⟨hstage, hnext, hmask, hphase, hsame.trans ((Val.image_touched himage).image.trans rfl)⟩
  · exact becomes_of (exec_imageValidationDone env s) rfl (doImageValidationDone_failed hval himage)
  · refine completes_of (exec_imageValidationDone env s) rfl ?_
    rw [doImageValidationDone_failed hval himage]
    obtain ⟨hstage, h2, hframe⟩ := failPhase_ends t b s.pending
    exact ⟨hstage, h2, hframe.trans ((Val.image_failed_touched himage).image.trans rfl)⟩
  · exact becomes_of (exec_imageValidationDone env s) rfl (doImageValidationDone_waits hno)
  · exact becomes_of (exec_imageCommit s) rfl (doImageCommit_reads hst him hread)
  · refine completes_of (exec_imageCommit s) rfl ?_
    have htouched : Touched s t := by
      have h := shadowAt_touched s 0 s.loader.length
      rw [← State.shadowRead, hread] at h
      exact h
    rw [doImageCommit_reads hst him hread]
    exact commitImage_inForce htouched hheld im _ _
  · exact becomes_of (exec_imageCommit s) rfl (doImageCommit_lost hst him hread hheld)
  · exact becomes_of (exec_imageCommit s) rfl (doImageCommit_waits hno)

end Sys2Proof.Proofs
end

section
/-! PROOF. The self-tests (R632–R636). -/
namespace Sys2Proof.Machine

/-! ### The start of a command, and the spans of a core -/

/-- A command that may start waits, under its operation. -/
theorem starts_iff {s : State} {id op : Nat} {c : Cmd} (h : s.starts id op = some c) :
    s.cmd? id = some c ∧ c.op = op ∧ c.phase = .waiting := by
  unfold State.starts at h
  split at h
  next d hd =>
    simp only [Option.ite_none_right_eq_some, Option.some.injEq, Bool.and_eq_true, decide_eq_true_eq] at h
    obtain ⟨⟨⟨hop, hstart⟩, -⟩, rfl⟩ := h
    simp only [State.startable, Bool.and_eq_true, decide_eq_true_eq] at hstart
    obtain ⟨⟨⟨⟨⟨⟨-, hph⟩, -⟩, -⟩, -⟩, -⟩, -⟩ := hstart
    exact ⟨hd, hop, hph⟩
  next => cases h

theorem Cmd.not_stopping_of_waiting {c : Cmd} (h : c.phase = .waiting) (st since : Nat) : c.phase ≠ .stopping st since := by
  rw [h]; exact nofun

theorem Cmd.not_stopping_of_running {c : Cmd} (h : c.phase = .running) (st since : Nat) : c.phase ≠ .stopping st since := by
  rw [h]; exact nofun

theorem starts_works {s : State} {id op : Nat} {c : Cmd} (h : s.starts id op = some c) (w : Work) : Works (s.beginCmd c.id w) id w := by
  obtain ⟨hc, -, -⟩ := starts_iff h
  rw [cmd?_id hc]
  exact beginCmd_works (by rw [hc]; rfl) w

/-- Every command keeps its phase and its work. -/
def WorkKept (s t : State) : Prop := ∀ id c, s.cmd? id = some c → ∃ d, t.cmd? id = some d ∧ d.phase = c.phase ∧ d.work = c.work

theorem WorkKept.of_cmds {s t : State} (h : t.cmds = s.cmds) : WorkKept s t := fun id c hc => ⟨c, (cmd?_of_cmds h id).trans hc, rfl, rfl⟩

theorem WorkKept.trans {s t u : State} (h : WorkKept s t) (k : WorkKept t u) : WorkKept s u := fun id c hc => by
  obtain ⟨d, hd, hph, hw⟩ := h id c hc
  obtain ⟨e, he, kph, kw⟩ := k id d hd
  exact ⟨e, he, kph.trans hph, kw.trans hw⟩

theorem WorkKept.updCmd (s : State) (id : Nat) {f : Cmd → Cmd} (hf : ∀ c, (f c).id = c.id ∧ (f c).phase = c.phase ∧ (f c).work = c.work) :
    WorkKept s (s.updCmd id f) := fun j c hc => by
  rw [cmd?_updCmd s id j (fun c => (hf c).1), hc]
  refine ⟨_, rfl, ?_⟩
  dsimp only
  split
  · exact (hf c).2
  · exact ⟨rfl, rfl⟩

theorem Ends.kept {s t : State} {id st : Nat} (h : Ends s id st) (k : WorkKept s t) : Ends t id st := by
  obtain ⟨c, hc, hph⟩ := h
  obtain ⟨d, hd, kph, -⟩ := k id c hc
  exact ⟨d, hd, kph.trans hph⟩

theorem Works.kept {s t : State} {id : Nat} {w : Work} (h : Works s id w) (k : WorkKept s t) : Works t id w := by
  obtain ⟨c, hc, hph, hw⟩ := h
  obtain ⟨d, hd, kph, kw⟩ := k id c hc
  exact ⟨d, hd, kph.trans hph, kw.trans hw⟩

/-- What the notes of a core's spans may change. -/
def SpanFrame (s t : State) : Prop :=
  t = { s with freeCtr := t.freeCtr, regs := t.regs, cnts := t.cnts, cmds := t.cmds, clocks := t.clocks, resets := t.resets } ∧ WorkKept s t

theorem SpanFrame.trans {s t u : State} (h : SpanFrame s t) (k : SpanFrame t u) : SpanFrame s u := by
  unfold SpanFrame at *
  refine ⟨?_, h.2.trans k.2⟩
  rw [k.1]; simp only; rw [h.1]

theorem SpanFrame.of_cmds {s t : State} (h : t = { s with freeCtr := t.freeCtr, regs := t.regs, cnts := t.cnts, clocks := t.clocks, resets := t.resets }) :
    SpanFrame s t := by
  refine ⟨?_, .of_cmds ((congrArg State.cmds h).trans rfl)⟩
  rw [h]

theorem SpanFrame.pending {s t : State} (h : SpanFrame s t) : t.pending = s.pending := (congrArg State.pending h.1).trans rfl
theorem SpanFrame.mem {s t : State} (h : SpanFrame s t) : t.mem = s.mem := (congrArg State.mem h.1).trans rfl
theorem SpanFrame.cores {s t : State} (h : SpanFrame s t) : t.cores = s.cores := (congrArg State.cores h.1).trans rfl

theorem SpanFrame.core {s t : State} (h : SpanFrame s t) (n : Nat) : t.core n = s.core n := by rw [State.core, h.cores, State.core]

theorem wakeHalf_frame (s : State) (h : Nat) : SpanFrame s (s.wakeHalf h) := by
  unfold State.wakeHalf
  split <;> exact .of_cmds rfl

theorem spanStart_frame (s : State) (core : Nat) (c : Cmd) : SpanFrame s (s.spanStart core c) := by
  unfold State.spanStart
  split
  · exact .of_cmds rfl
  · have hwarn : SpanFrame s (if s.coreSlow core then s.warnCmd c.id Wn.throttled else s) := by
      split
      · exact ⟨rfl, .updCmd s _ fun _ => ⟨rfl, rfl, rfl⟩⟩
      · exact .of_cmds rfl
    exact (hwarn.trans (wakeHalf_frame _ _)).trans (.of_cmds rfl)

/-- What the end of a command's spans changes: it counts their seams. -/
def SeamFrame (s t : State) : Prop := t = { s with freeCtr := t.freeCtr, cnts := t.cnts, resets := t.resets }

theorem SeamFrame.trans {s t u : State} (h : SeamFrame s t) (k : SeamFrame t u) : SeamFrame s u := by
  unfold SeamFrame at *
  rw [k]; simp only; rw [h]

theorem spanEnd_frame (s : State) (id : Nat) : SeamFrame s (s.spanEnd id) := by
  have hfold : ∀ (l : List Span) (t : State), SeamFrame t (l.foldl (fun t x => t.countSeam x.core) t) := fun l => by
    induction l with
    | nil => exact fun t => rfl
    | cons x xs ih => exact fun t => SeamFrame.trans (show SeamFrame t (t.countSeam x.core) from rfl) (ih _)
  exact (hfold _ s).trans rfl

theorem SeamFrame.spanFrame {s t : State} (h : SeamFrame s t) : SpanFrame s t := by
  refine .of_cmds ?_
  unfold SeamFrame at h
  rw [h]

theorem SeamFrame.regs {s t : State} (h : SeamFrame s t) : t.regs = s.regs := (congrArg State.regs h).trans rfl

theorem core_setCore_same (s : State) (n : Nat) (k : CoreState) : (s.setCore n k).core n = k := SMap.get_set_same _ _ _ _

/-! ### Rows of a test -/

theorem startsTest_iff {s : State} {id test : Nat} {c : Cmd} (h : s.startsTest id test = some c) :
    s.starts id 0x80 = some c ∧ stTest c.desc = test := by
  unfold State.startsTest at h
  split at h
  next d hd =>
    simp only [Option.ite_none_right_eq_some, Option.some.injEq] at h
    obtain ⟨htest, rfl⟩ := h
    exact ⟨hd, htest⟩
  next => cases h

theorem runningTest_iff {s : State} {id test : Nat} {c : Cmd} (h : s.runningTest id test = some c) :
    s.cmd? id = some c ∧ stTest c.desc = test ∧ c.phase = .running := by
  unfold State.runningTest at h
  split at h
  next d hd =>
    simp only [Option.ite_none_right_eq_some, Option.some.injEq, Bool.and_eq_true, decide_eq_true_eq] at h
    obtain ⟨⟨⟨⟨⟨-, htest⟩, hph⟩, -⟩, -⟩, rfl⟩ := h
    exact ⟨hd, htest, hph⟩
  next => cases h

theorem testLaunch_runs {s : State} {c : Cmd} (hdike : s.meetsDike c = false) (hheld : s.clusterHeld (stCore c.desc / 8) = false) (f : Cmd → State) :
    s.testLaunch c f = f c := by
  rw [State.testLaunch, State.launch, if_neg (by simp [hdike]), if_neg (by simp [hheld])]

theorem testLaunch_held {s : State} {c : Cmd} (hdike : s.meetsDike c = false) (hheld : s.clusterHeld (stCore c.desc / 8) = true) (f : Cmd → State) :
    s.testLaunch c f = s.endCmd c.id St.fenced none := by
  rw [State.testLaunch, State.launch, if_neg (by simp [hdike]), if_pos hheld]

/-- A test of a core that starts on its idle core (R633). -/
theorem startCoreTest_works {s : State} {id test : Nat} {c : Cmd} (h : s.startsTest id test = some c) (hdike : s.meetsDike c = false)
    (hheld : s.clusterHeld (stCore c.desc / 8) = false) (hidle : s.coreIdle (stCore c.desc) = true) :
    let t := (s.startCoreTest c).withQueue s.pending
    (t.core (stCore c.desc)).test = some c.id ∧ Works t id .test ∧ t.mem = s.mem := by
  obtain ⟨hstarts, -⟩ := startsTest_iff h
  rw [State.startCoreTest, testLaunch_runs hdike hheld, if_pos hidle]
  have hframe := spanStart_frame ((s.beginCmd c.id .test).setCore (stCore c.desc) { s.core (stCore c.desc) with test := some c.id })
    (stCore c.desc) c
  rw [← (show _ = s.pending from hframe.pending.trans rfl), withQueue_self rfl]
  exact ⟨by rw [hframe.core, core_setCore_same], (starts_works hstarts .test).kept hframe.2, hframe.mem.trans rfl⟩

theorem stCore_lt (d : Desc) : stCore d < 256 := by
  exact Nat.mod_lt _ (by decide)

/-- The verdict of a core's test: the test, and the first failing cell (R640). -/
def testVerdict (c : Cmd) (bad : Option (Nat × Nat)) : Nat :=
  2 ^ 31 + 2 ^ 20 * stTest c.desc + (match bad with
    | none => 2 ^ 30
    | some x => 2 ^ 8 * (x.1 % 128) + x.2 % 256)

/-- The verdict shown, and the event of a failure. -/
def State.verdictShown (s : State) (c : Cmd) (bad : Option (Nat × Nat)) : State :=
  let t := s.setNat (Reg.coreSelftest (stCore c.desc)) (testVerdict c bad)
  if bad.isSome then t.event 0x0105 (Src.core (stCore c.desc)) (some c.ctx) (dataOf [(0, stTest c.desc), (4, testVerdict c bad)]) else t

theorem verdictShown_shows (s : State) (c : Cmd) (bad : Option (Nat × Nat)) :
    (s.verdictShown c bad).pending = s.pending ∧ (s.verdictShown c bad).cmds = s.cmds ∧ (s.verdictShown c bad).mem = s.mem ∧
    (s.verdictShown c bad).nat (Reg.coreSelftest (stCore c.desc)) = testVerdict c bad % 2 ^ 32 := by
  have hlt := stCore_lt c.desc
  unfold State.verdictShown
  dsimp only
  split
  · refine ⟨State.event_pending .., State.event_cmds .., State.event_mem .., ?_⟩
    rw [State.nat, State.reg_event _ _ _ _ _ _ (by show 0x480010 + 0x100 * _ ≠ 0x600010; omega) (by show 0x480010 + 0x100 * _ ≠ 0x600000; omega), ← State.nat,
      State.nat_setNat_same]
  · exact ⟨rfl, rfl, rfl, State.nat_setNat_same _ _ _⟩

theorem endCoreTest_eq (s : State) (c : Cmd) (bad : Option (Nat × Nat)) :
    s.endCoreTest c bad = (((s.verdictShown c bad).setCore (stCore c.desc) { (s.verdictShown c bad).core (stCore c.desc) with test := none }).endCmd
      c.id St.ok none).spanEnd c.id := rfl

/-- A test of a core that ends: its verdict, the core free of it, and ST_OK (R633). -/
theorem endCoreTest_ends {s : State} {id test : Nat} {c : Cmd} (h : s.runningTest id test = some c) (bad : Option (Nat × Nat)) :
    let t := (s.endCoreTest c bad).withQueue s.pending
    Ends t id St.ok ∧ (t.core (stCore c.desc)).test = none ∧ t.mem = s.mem ∧
    t.nat (Reg.coreSelftest (stCore c.desc)) = testVerdict c bad % 2 ^ 32 := by
  obtain ⟨hc, -, hph⟩ := runningTest_iff h
  obtain ⟨hpending, hcmds, hmem, hnat⟩ := verdictShown_shows s c bad
  have hseam := spanEnd_frame (((s.verdictShown c bad).setCore (stCore c.desc) { (s.verdictShown c bad).core (stCore c.desc) with test := none }).endCmd
    c.id St.ok none) c.id
  have hends := endCmd_ends (s := (s.verdictShown c bad).setCore (stCore c.desc) { (s.verdictShown c bad).core (stCore c.desc) with test := none })
    ((cmd?_of_cmds hcmds id).trans hc) (Cmd.not_stopping_of_running hph) St.ok none
  rw [endCoreTest_eq, withQueue_self (hseam.spanFrame.pending.trans hpending)]
  rw [← cmd?_id hc] at hends
  refine ⟨?_, ?_, hseam.spanFrame.mem.trans hmem, ?_⟩
  · rw [← cmd?_id hc]
    exact hends.kept hseam.spanFrame.2
  · exact (congrArg CoreState.test ((hseam.spanFrame.core _).trans (core_setCore_same _ _ _))).trans rfl
  · exact (congrArg (fun r => BitVec.toNat (SMap.get regDefault r (Reg.coreSelftest (stCore c.desc)))) hseam.regs).trans hnat

/-! ### The rows -/

theorem doTestArray_starts {s : State} {id : Nat} {bad : Option (Nat × Nat)} {c : Cmd} (hrun : s.runningTest id 0 = none)
    (h : s.startsTest id 0 = some c) : doTestArray id bad s = s.startCoreTest c := by
  rw [doTestArray, hrun, h]

theorem doTestVector_starts {s : State} {id : Nat} {lane : Option Nat} {c : Cmd} (hrun : s.runningTest id 1 = none)
    (h : s.startsTest id 1 = some c) : doTestVector id lane s = s.startCoreTest c := by
  rw [doTestVector, hrun, h]

/-- The rows of a core's test, where none of that command runs, start it. -/
theorem coreTest_starts {s : State} {id : Nat} {c : Cmd} (bad : Option (Nat × Nat)) (lane : Option Nat) {r : Instr × Nat}
    (hr : r ∈ ([(.testArray id bad, 0), (.testVector id lane, 1)] : List (Instr × Nat))) (hrun : s.runningTest id r.2 = none)
    (h : s.startsTest id r.2 = some c) : Becomes r.1 s (s.startCoreTest c) := by
  rcases List.mem_cons.mp hr with rfl | hr
  · exact becomes_of (exec_testArray id bad s) rfl (doTestArray_starts hrun h)
  · obtain rfl := List.mem_singleton.mp hr
    exact becomes_of (exec_testVector id lane s) rfl (doTestVector_starts hrun h)

theorem startCoreTest_busy {s : State} {c : Cmd} (hdike : s.meetsDike c = false)
    (hheld : s.clusterHeld (stCore c.desc / 8) = false) (hbusy : s.coreIdle (stCore c.desc) = false) : s.startCoreTest c = s := by
  rw [State.startCoreTest, testLaunch_runs hdike hheld, if_neg (by simp [hbusy])]

theorem startCoreTest_held {s : State} {id test : Nat} {c : Cmd} (h : s.startsTest id test = some c) (hdike : s.meetsDike c = false)
    (hheld : s.clusterHeld (stCore c.desc / 8) = true) : s.startCoreTest c = s.endCmd id St.fenced none := by
  rw [State.startCoreTest, testLaunch_held hdike hheld, cmd?_id (starts_iff (startsTest_iff h).1).1]

theorem doTestArray_ends {s : State} {id : Nat} {c : Cmd} (h : s.runningTest id 0 = some c) (bad : Option (Nat × Nat)) :
    doTestArray id bad s = s.endCoreTest c bad := by
  rw [doTestArray, h]

theorem doTestVector_ends {s : State} {id : Nat} {c : Cmd} (h : s.runningTest id 1 = some c) (bad : Option Nat) :
    doTestVector id bad s = s.endCoreTest c (bad.map (fun l => (0, l))) := by
  rw [doTestVector, h]

theorem testVerdict_lt {c : Cmd} (h : stTest c.desc ≤ 1) (bad : Option (Nat × Nat)) : testVerdict c bad < 2 ^ 32 := by
  unfold testVerdict
  split <;> omega

/-- The scrubbed store, with the entry of an uncorrectable error. -/
def State.scrubShown (s : State) (c : Cmd) : State :=
  let r := s.scrubStore (stCore c.desc)
  if r.1 then r.2 else r.2.event 0x0105 (Src.core (stCore c.desc)) (some c.ctx) (dataOf [(0, 2), (4, r.2.nat (Reg.coreSelftest (stCore c.desc)))])

theorem scrubShown_shows (s : State) (c : Cmd) :
    (s.scrubShown c).pending = s.pending ∧ (s.scrubShown c).cmds = s.cmds ∧ (s.scrubShown c).mem = (s.scrubStore (stCore c.desc)).2.mem ∧
    (s.scrubShown c).reg (Reg.coreSramErr (stCore c.desc)) = (s.scrubStore (stCore c.desc)).2.reg (Reg.coreSramErr (stCore c.desc)) := by
  have hlt := stCore_lt c.desc
  unfold State.scrubShown
  dsimp only
  split
  · exact ⟨rfl, rfl, rfl, rfl⟩
  · refine ⟨(State.event_pending ..).trans rfl, (State.event_cmds ..).trans rfl, State.event_mem .., ?_⟩
    exact State.reg_event _ _ _ _ _ _ (by show 0x480008 + 0x100 * _ ≠ 0x600010; omega) (by show 0x480008 + 0x100 * _ ≠ 0x600000; omega)

theorem doTestSramScrub_runs {s : State} {id : Nat} {env : Env} {c : Cmd} (h : (s.arrive env).startsTest id 2 = some c)
    (hdike : (s.arrive env).meetsDike c = false) (hheld : (s.arrive env).clusterHeld (stCore c.desc / 8) = false) :
    doTestSramScrub id env s = ((s.arrive env).scrubShown c).endCmd c.id St.ok none := by
  unfold doTestSramScrub
  dsimp only
  rw [h]
  exact testLaunch_runs hdike hheld _

/-- MEM_CAL asks for the column's calibration, or joins the one pending (R634). -/
def State.askCalibration (s : State) (col : Nat) : State :=
  if SMap.get (fun _ => 0) s.mem.calPending col = 0 then
    { s with mem := { s.mem with calPending := SMap.set (fun _ => 0) s.mem.calPending col 1 } }
  else s

theorem askCalibration_asks (s : State) (col : Nat) :
    SMap.get (fun _ => 0) (s.askCalibration col).mem.calPending col = max 1 (SMap.get (fun _ => 0) s.mem.calPending col) ∧
    (s.askCalibration col).mem.dram = s.mem.dram ∧ (s.askCalibration col).regs = s.regs ∧ (s.askCalibration col).cmds = s.cmds ∧
    (s.askCalibration col).pending = s.pending := by
  unfold State.askCalibration
  split
  next h => exact ⟨by simp [h], rfl, rfl, rfl, rfl⟩
  next h => exact ⟨by omega, rfl, rfl, rfl, rfl⟩

theorem doTestMemCal_runs {s : State} {id : Nat} {c : Cmd} (h : s.startsTest id 3 = some c) (hdike : s.meetsDike c = false)
    (hheld : s.clusterHeld (stCore c.desc / 8) = false) : doTestMemCal id s = (s.beginCmd c.id .test).askCalibration (stCore c.desc) := by
  unfold doTestMemCal
  rw [h]
  exact testLaunch_runs hdike hheld _

theorem doTestMemCal_held {s : State} {id : Nat} {c : Cmd} (h : s.startsTest id 3 = some c) (hdike : s.meetsDike c = false)
    (hheld : s.clusterHeld (stCore c.desc / 8) = true) : doTestMemCal id s = s.endCmd id St.fenced none := by
  unfold doTestMemCal
  rw [h]
  dsimp only
  rw [testLaunch_held hdike hheld, cmd?_id (starts_iff (startsTest_iff h).1).1]

/-- What the start of a retraining leaves (R635). -/
theorem startRetrain_starts (s : State) (port : Nat) (r : Retrain) (hr : r.step = 1) :
    ((s.startRetrain port r).retraining port = some r ∨ (port, r) ∈ (s.startRetrain port r).fab.retrainQ) ∧
    (s.startRetrain port r).cmds = s.cmds ∧ (s.startRetrain port r).mem = s.mem ∧ (s.startRetrain port r).pending = s.pending := by
  unfold State.startRetrain
  split
  · exact ⟨.inr (List.mem_append_right _ (List.mem_singleton.mpr rfl)), rfl, rfl, rfl⟩
  · have hget : (s.beginRetrain port r).retraining port = some { r with step := 1 } := by
      simp [State.retraining, State.beginRetrain, State.setRetrain]
    refine ⟨.inl (hget.trans ?_), rfl, rfl, rfl⟩
    rw [← hr]

end Sys2Proof.Machine

namespace Sys2Proof.Proofs
open Sys2Proof.Machine

/-- Settles O36: each row in its branch; a test's end shows its verdict, which fits its register (`testVerdict_lt`). -/
theorem selfTests : Obligations.SelfTests := by
  unfold Obligations.SelfTests
  refine fun s id env c hdike => ⟨fun hheld bad lane r hr hrun h => ⟨fun hidle => ?_, fun hbusy => ?_⟩, fun bad => ⟨fun h => ?_, fun h => ?_⟩,
    fun bad => ⟨fun h => ?_, fun h => ?_⟩, fun h hd hheld => ⟨fun hone => ?_, ?_⟩, fun hheld h => ?_,
    fun hheld => ⟨fun bad lane r hr hrun h => ?_, fun h => ?_⟩, fun h => ⟨fun hdown => ?_, fun hup => ⟨?_, ?_⟩⟩⟩
  · exact (coreTest_starts bad lane hr hrun h).completes (startCoreTest_works h hdike hheld hidle)
  · have hrow := coreTest_starts bad lane hr hrun h
    rwa [startCoreTest_busy hdike hheld hbusy] at hrow
  · exact becomes_of (exec_testArray id bad s) rfl (doTestArray_ends h bad)
  · refine completes_of (exec_testArray id bad s) rfl ?_
    obtain ⟨hends, htest, hmem, hnat⟩ := endCoreTest_ends h bad
    rw [doTestArray_ends h]
    exact ⟨hends, htest, hmem, hnat.trans (Nat.mod_eq_of_lt (testVerdict_lt (by rw [(runningTest_iff h).2.1]; decide) bad))⟩
  · exact becomes_of (exec_testVector id bad s) rfl (doTestVector_ends h bad)
  · refine completes_of (exec_testVector id bad s) rfl ?_
    obtain ⟨hends, htest, hmem, hnat⟩ := endCoreTest_ends h (bad.map (fun l => (0, l)))
    rw [doTestVector_ends h]
    refine ⟨hends, htest, hmem, (hnat.trans (Nat.mod_eq_of_lt (testVerdict_lt (Nat.le_of_eq (runningTest_iff h).2.1) _))).trans ?_⟩
    unfold testVerdict
    cases bad <;> simp
  · refine becomes_of (exec_testSramScrub id env s) rfl ((doTestSramScrub_runs h hd hheld).trans ?_)
    rw [State.scrubShown, if_pos hone]
  · refine completes_of (exec_testSramScrub id env s) rfl ?_
    rw [doTestSramScrub_runs h hd hheld]
    obtain ⟨hpending, hcmds, hmem, hreg⟩ := scrubShown_shows (s.arrive env) c
    obtain ⟨hc, -, hph⟩ := starts_iff (startsTest_iff h).1
    rw [cmd?_id hc]
    exact ⟨endCmd_ends ((cmd?_of_cmds hcmds id).trans hc) (Cmd.not_stopping_of_waiting hph) St.ok none, hmem, hreg⟩
  · refine completes_of (exec_testMemCal id s) rfl ?_
    rw [doTestMemCal_runs h hdike hheld]
    obtain ⟨hcal, hdram, hregs, hcmds, hpending⟩ := askCalibration_asks (s.beginCmd c.id .test) (stCore c.desc)
    exact ⟨(starts_works (startsTest_iff h).1 .test).kept (.of_cmds hcmds), hcal, hdram, hregs⟩
  · rw [← startCoreTest_held h hdike hheld]
    exact coreTest_starts bad lane hr hrun h
  · exact becomes_of (exec_testMemCal id s) rfl (doTestMemCal_held h hdike hheld)
  · refine becomes_of (exec_testFabRetrain id s) rfl ?_
    rw [doTestFabRetrain, h]
    exact if_neg (by simp [hdown])
  · refine becomes_of (exec_testFabRetrain id s) rfl ?_
    rw [doTestFabRetrain, h]
    exact if_pos hup
  · refine completes_of (exec_testFabRetrain id s) rfl ?_
    rw [doTestFabRetrain, h]
    dsimp only
    rw [if_pos hup]
    obtain ⟨hretrain, hcmds, hmem, hpending⟩ := startRetrain_starts (s.beginCmd c.id .test) (stCore c.desc) ⟨0, 1, [1, 2, 3, 4, 5, 6, 7], some c.id⟩ rfl
    exact ⟨(starts_works (startsTest_iff h).1 .test).kept (.of_cmds hcmds), hmem, hretrain⟩

end Sys2Proof.Proofs
end

section
/-! PROOF. Retirement, remapping, scrub, refresh and calibration (R306, R307, R312, R314, R319, R323, R327, R353, R634). -/
namespace Sys2Proof.Machine

/-! ### The registers of the error log -/

/-- What holds of the empty list and is kept by one more element at the end holds of every list. -/
theorem induct_from_end {α : Type} {P : List α → Prop} (l : List α) (nil : P []) (append_singleton : ∀ l a, P l → P (l ++ [a])) : P l := by
  rw [← List.reverse_reverse l]
  induction l.reverse with
  | nil => exact nil
  | cons a m ih =>
    rw [List.reverse_cons]
    exact append_singleton _ a ih

/-- CLR_LOG clears the entries of its column's log, and nothing else (R323). -/
theorem clearLog_clears (s : State) (col : Nat) (l : List Nat) :
    let t := l.foldl (fun (s : State) i => (s.setReg (Reg.memCeLog col i) 0).setReg (Reg.memCeInfo col i) 0) s
    RegsOnly s t ∧ (∀ i ∈ l, t.reg (Reg.memCeLog col i) = 0 ∧ t.reg (Reg.memCeInfo col i) = 0) ∧
    ∀ a, (∀ i ∈ l, a ≠ Reg.memCeLog col i ∧ a ≠ Reg.memCeInfo col i) → t.reg a = s.reg a := by
  induction l using induct_from_end with
  | nil => exact ⟨.refl s, nofun, fun _ _ => rfl⟩
  | append_singleton l i ih =>
    obtain ⟨hframe, hzero, hother⟩ := ih
    rw [List.foldl_append, List.foldl_cons, List.foldl_nil]
    refine ⟨(hframe.setReg _ _).setReg _ _, fun j hj => ?_, fun a ha => ?_⟩
    · simp only [State.reg_setReg]
      rcases List.mem_append.mp hj with hj | hj
      · obtain ⟨h1, h2⟩ := hzero j hj
        rw [h1, h2]
        simp
      · obtain rfl := List.mem_singleton.mp hj
        simp
    · obtain ⟨h1, h2⟩ := ha i (by simp)
      rw [State.reg_setReg_ne _ _ h2, State.reg_setReg_ne _ _ h1]
      exact hother a fun j hj => ha j (List.mem_append_left _ hj)

/-! ### Retirement -/

theorem retireErr_shows (s : State) {code : Nat} (h : code < 16) :
    RegsOnly s (s.retireErr code) ∧ (s.retireErr code).bit Reg.memRetireStatus 2 = true ∧ (s.retireErr code).fld Reg.memRetireStatus 11 8 = code ∧
    (s.retireErr code).bit Reg.memRetireStatus 0 = s.bit Reg.memRetireStatus 0 := by
  unfold State.retireErr
  refine ⟨((RegsOnly.refl s).setBit _ _ _).setFld _ _ _ _, ?_, ?_, ?_⟩
  · rw [State.bit_setFld_ne _ _ (by decide) (.inr (.inl (by decide))), State.bit_setBit_same _ _ _ _ (by decide)]
  · rw [State.fld_setFld_same _ _ _ _ _ (by decide) (by decide)]
    exact Nat.mod_eq_of_lt h
  · rw [State.bit_setFld_ne _ _ (by decide) (.inr (.inl (by decide))), State.bit_setBit_ne _ _ _ _ _ _ (.inr (by decide))]

theorem retireDone_shows (s : State) :
    RegsOnly s s.retireDone ∧ s.retireDone.bit Reg.memRetireStatus 1 = true ∧
    s.retireDone.bit Reg.memRetireStatus 0 = s.bit Reg.memRetireStatus 0 := by
  unfold State.retireDone
  refine ⟨((RegsOnly.refl s).setBit _ _ _).setFld _ _ _ _, ?_, ?_⟩
  · rw [State.bit_setFld_ne _ _ (by decide) (.inr (.inl (by decide))), State.bit_setBit_same _ _ _ _ (by decide)]
  · rw [State.bit_setFld_ne _ _ (by decide) (.inr (.inl (by decide))), State.bit_setBit_ne _ _ _ _ _ _ (.inr (by decide))]

/-- The append is over: no entry waits. -/
def State.retireSettled (s : State) : State :=
  { s.setBit Reg.memRetireStatus 0 false with mem := { s.mem with pendingRetire := none } }

theorem retireSettled_bit (s : State) : s.retireSettled.bit Reg.memRetireStatus 0 = false := State.bit_setBit_same s _ _ _ (by decide)

/-- The entry is in the list of NVM, and the registers say so (R319). -/
def State.retireListed (u : State) (n : Nat) : State :=
  ((u.retireDone.setBit Reg.memRetireStatus 4 true).setBit Reg.memRetireStatus 3 (decide (4096 ≤ n))).setNat Reg.memRetireCount n

theorem retireListed_shows (u : State) (n : Nat) :
    RegsOnly u (u.retireListed n) ∧ (u.retireListed n).bit Reg.memRetireStatus 0 = u.bit Reg.memRetireStatus 0 ∧
    (u.retireListed n).bit Reg.memRetireStatus 1 = true ∧ (u.retireListed n).nat Reg.memRetireCount = n % 2 ^ 32 := by
  obtain ⟨hframe, h1, h0⟩ := retireDone_shows u
  unfold State.retireListed
  refine ⟨((hframe.setBit _ _ _).setBit _ _ _).trans rfl, ?_, ?_, State.nat_setNat_same _ _ _⟩
  · rw [State.bit, State.reg_setNat_ne _ _ (by decide), ← State.bit, State.bit_setBit_ne _ _ _ _ _ _ (.inr (by decide)),
      State.bit_setBit_ne _ _ _ _ _ _ (.inr (by decide)), h0]
  · rw [State.bit, State.reg_setNat_ne _ _ (by decide), ← State.bit, State.bit_setBit_ne _ _ _ _ _ _ (.inr (by decide)),
      State.bit_setBit_ne _ _ _ _ _ _ (.inr (by decide)), h1]

/-- The entry added to the list in NVM. -/
def State.retireAdded (s : State) (e : Word) : State := { s.retireSettled with nvm := { s.nvm with retire := s.nvm.retire ++ [e] } }

theorem doRetireAppendDone_taken {s : State} {e : Word} (h : s.mem.pendingRetire = some e) :
    doRetireAppendDone true s = (s.retireAdded e).retireListed (s.nvm.retire ++ [e]).length := by
  rw [doRetireAppendDone, h]
  rfl

theorem doRetireAppendDone_failed {s : State} {e : Word} (h : s.mem.pendingRetire = some e) :
    doRetireAppendDone false s = s.retireSettled.retireErr 3 := by
  rw [doRetireAppendDone, h]
  rfl

/-! ### Calibration -/

/-- Tests that end one after another with ST_OK: each of them has ended in the end. -/
theorem endCmds_ends (l : List Nat) {s : State} {id : Nat} {c : Cmd} (hc : s.cmd? id = some c)
    (h : (c.phase = .running ∧ id ∈ l) ∨ c.phase = .done St.ok) : Ends (l.foldl (fun s i => s.endCmd i St.ok none) s) id St.ok := by
  induction l generalizing s c with
  | nil =>
    rcases h with ⟨-, hmem⟩ | h
    · cases hmem
    · exact ⟨c, hc, h⟩
  | cons i l ih =>
    rw [List.foldl_cons]
    have hstop : ∀ st since, c.phase ≠ .stopping st since := by
      rcases h with ⟨h, -⟩ | h <;> rw [h] <;> exact nofun
    by_cases hi : i = id
    · subst hi
      obtain ⟨d, hd, hph⟩ := endCmd_ends hc hstop St.ok none
      exact ih hd (.inr hph)
    · have hd : (s.endCmd i St.ok none).cmd? id = some c := (cmd?_updCmd_ne s (fun e => hi e.symm) (fun c => by split <;> rfl)).trans hc
      refine ih hd (h.imp_left fun ⟨hrun, hmem⟩ => ⟨hrun, ?_⟩)
      exact (List.mem_cons.mp hmem).resolve_left fun e => hi e.symm

/-- The ends of tests change the commands alone. -/
theorem endCmds_frame (l : List Nat) (s : State) :
    l.foldl (fun s i => s.endCmd i St.ok none) s = { s with cmds := (l.foldl (fun s i => s.endCmd i St.ok none) s).cmds } := by
  induction l using induct_from_end with
  | nil => rfl
  | append_singleton l i ih =>
    rw [List.foldl_append, List.foldl_cons, List.foldl_nil]
    exact (congrArg (fun t : State => { t with cmds := (State.endCmd (l.foldl (fun s i => s.endCmd i St.ok none) s) i St.ok none).cmds }) ih).trans rfl

theorem cmd?_mem {s : State} {id : Nat} {c : Cmd} (h : s.cmd? id = some c) : c ∈ s.cmds := List.mem_of_find?_eq_some h

theorem calTests_ends {s : State} {col id : Nat} {c : Cmd} (hc : s.cmd? id = some c) (hop : c.op = 0x80) (htest : dbyte c.desc 0x10 = 3)
    (hcol : dbyte c.desc 0x11 = col) (hph : c.phase = .running) : Ends (s.calTests col) id St.ok := by
  refine endCmds_ends _ hc (.inl ⟨hph, List.mem_map.mpr ⟨c, List.mem_filter.mpr ⟨cmd?_mem hc, ?_⟩, cmd?_id hc⟩⟩)
  simp [hop, htest, hcol, hph]

/-- The calibration's end, before its tests end. -/
def State.calibrated (s : State) (col : Nat) : State :=
  let t := (s.setCal col 0).setBit (Reg.memColStatus col) 8 false
  { t with mem := { t.mem with
      calTick := SMap.set (fun _ => 0) t.mem.calTick col t.tick
      calTemp := SMap.set (fun _ => 0) (SMap.set (fun _ => 0) t.mem.calTemp (2 * col) (t.colTemp col 0)) (2 * col + 1) (t.colTemp col 1) } }

theorem calibrated_pending (s : State) (col : Nat) : SMap.get (fun _ => 0) (s.calibrated col).mem.calPending col = 0 := by
  simp [State.calibrated, State.setCal]

theorem calibrated_tick (s : State) (col : Nat) : SMap.get (fun _ => 0) (s.calibrated col).mem.calTick col = s.tick := by
  simp [State.calibrated, State.setCal]

theorem doMemCalibrationDone_ends {s : State} {col : Nat} (h : s.calibrating col = true) :
    doMemCalibrationDone col s = (s.calibrated col).calTests col := by
  rw [doMemCalibrationDone, if_pos h]
  rfl

theorem doRemapNvmWrite_writes {s : State} {col entry : Nat} (hvalid : (s.reg (Reg.memRemap col entry)).getLsbD 31 = true)
    (hnew : SMap.get (fun _ => 0) s.nvm.remap (8 * col + entry) ≠ s.reg (Reg.memRemap col entry)) :
    doRemapNvmWrite col entry s =
      { s with nvm := { s.nvm with remap := SMap.set (fun _ => 0) s.nvm.remap (8 * col + entry) (s.reg (Reg.memRemap col entry)) } }.event
        0x0402 (Src.column col) none (dataOf [(0, (s.reg (Reg.memRemap col entry)).toNat), (4, entry)]) :=
  if_pos (by rw [hvalid, decide_eq_true hnew]; rfl)

theorem doRemapNvmWrite_known {s : State} {col entry : Nat} (h : (s.reg (Reg.memRemap col entry)).getLsbD 31 = false ∨
    SMap.get (fun _ => 0) s.nvm.remap (8 * col + entry) = s.reg (Reg.memRemap col entry)) : doRemapNvmWrite col entry s = s := by
  refine if_neg ?_
  rcases h with h | h
  · rw [h, Bool.false_and]
    exact Bool.false_ne_true
  · rw [decide_eq_false (not_not_intro h), Bool.and_false]
    exact Bool.false_ne_true

/-- An entry of the almanac leaves the remapping in NVM. -/
theorem event_remap (s : State) (code : Nat) (src : Nat × Nat) (k : Option Nat) (data : Nat) :
    (s.event code src k data).nvm.remap = s.nvm.remap := (congrArg (fun t : State => t.nvm.remap) (s.event_frame code src k data).1).trans rfl

end Sys2Proof.Machine

namespace Sys2Proof.Proofs
open Sys2Proof.Machine

/-- Settles O41: each row in its branch. -/
theorem memoryUpkeep : Obligations.MemoryUpkeep := by
  unfold Obligations.MemoryUpkeep
  refine ⟨fun s => ⟨fun col entry hcol hentry => ⟨fun hvalid hnew => ⟨?_, ?_⟩, fun hno => ?_⟩, fun hopen => ⟨fun v => ?_, fun col hcol => ?_, fun col hcol => ?_,
    fun hpend => ?_, fun hpend => ⟨fun hbad => ?_, fun hok harea => ?_, fun hok harea hknown => ?_, fun hok harea hknown hfull => ?_,
    fun hok harea hknown hroom => ?_⟩⟩, fun e he => ⟨?_, ?_⟩, fun col env hcol => ⟨?_, fun hcf hnone => ?_⟩⟩,
    fun s col bank hcol hbank => ⟨fun hseq => ?_, fun hseq hn => ?_, fun hseq hn => ?_, fun hdue hcal => ?_, fun hno => ?_, fun hcal => ?_, fun hcal => ?_⟩⟩
  · exact becomes_of (exec_remapNvmWrite col entry s) (decide_eq_true ⟨hcol, hentry⟩) (doRemapNvmWrite_writes hvalid hnew)
  · refine completes_of (exec_remapNvmWrite col entry s) (decide_eq_true ⟨hcol, hentry⟩) ?_
    rw [doRemapNvmWrite_writes hvalid hnew, State.withQueue_nvm, event_remap, State.withQueue_mem, State.event_mem, State.withQueue_cmds,
      State.event_cmds]
    exact ⟨SMap.get_set_same _ _ _ _, rfl, rfl⟩
  · exact becomes_of (exec_remapNvmWrite col entry s) (decide_eq_true ⟨hcol, hentry⟩) (doRemapNvmWrite_known hno)
  · exact becomes_of (exec_memArm v s) rfl (if_pos hopen)
  · refine completes_of (exec_memClrLog col s) (decide_eq_true hcol) ?_
    rw [doMemClrLog, if_pos hopen]
    obtain ⟨hframe, hzero, hother⟩ := clearLog_clears s col (List.range 16)
    have hall := hframe.setReg (Reg.memCeLogLost col) 0
    rw [withQueue_self (s := s) ((congrArg State.pending hall).trans rfl)]
    refine ⟨fun i hi => ?_, State.reg_setReg_same _ _ _, hall.restored, fun a ha hlost => ?_⟩
    · obtain ⟨h1, h2⟩ := hzero i (List.mem_range.mpr hi)
      rw [State.reg_setReg, State.reg_setReg, h1, h2]
      simp
    · rw [State.reg_setReg_ne _ _ hlost]
      exact hother a fun i hi => ha i (List.mem_range.mp hi)
  · refine completes_of (exec_memClrCounts col s) (decide_eq_true hcol) ?_
    have hall := ((RegsOnly.refl s).setReg (Reg.memCeCount col) 0).setReg (Reg.memUeCount col) 0
    rw [doMemClrCounts, if_pos hopen, withQueue_self (s := s) ((congrArg State.pending hall).trans rfl)]
    refine ⟨?_, State.reg_setReg_same _ _ _, fun a h1 h2 => ?_, hall.restored⟩
    · rw [State.reg_setReg_ne _ _ (by show 0x200008 + 0x400 * _ ≠ 0x20000C + 0x400 * _; omega), State.reg_setReg_same]
    · rw [State.reg_setReg_ne _ _ h2, State.reg_setReg_ne _ _ h1]
  · exact becomes_of (exec_memAppend s) rfl (if_pos (by simp [hpend]))
  · exact becomes_of (exec_memAppend s) rfl (by simp [doMemAppend, hopen, hpend, hbad])
  · exact becomes_of (exec_memAppend s) rfl (by simp [doMemAppend, hopen, hpend, hok, harea])
  · exact becomes_of (exec_memAppend s) rfl (by simp [doMemAppend, hopen, hpend, hok, harea, hknown])
  · exact becomes_of (exec_memAppend s) rfl (by simp [doMemAppend, hopen, hpend, hok, harea, hknown, hfull])
  · exact becomes_of (exec_memAppend s) rfl (by simp [doMemAppend, hopen, hpend, hok, harea, hknown, Nat.not_le.mpr hroom])
  · refine completes_of (exec_retireAppendDone true s) rfl ?_
    rw [doRetireAppendDone_taken he]
    obtain ⟨hframe, h0, h1, hcount⟩ := retireListed_shows (s.retireAdded e) (s.nvm.retire ++ [e]).length
    rw [withQueue_self (s := s) ((congrArg State.pending hframe).trans rfl)]
    refine ⟨(congrArg (fun u : State => u.nvm.retire) hframe).trans rfl, (congrArg (fun u : State => u.mem.pendingRetire) hframe).trans rfl,
      (congrArg (fun u : State => u.mem.retired) hframe).trans rfl, h0.trans (retireSettled_bit s), h1, hcount.trans (by simp), ?_⟩
    rw [hframe, ← he]
    rfl
  · refine completes_of (exec_retireAppendDone false s) rfl ?_
    rw [doRetireAppendDone_failed he]
    obtain ⟨hframe, h2, hcode, h0⟩ := retireErr_shows s.retireSettled (show 3 < 16 by decide)
    rw [withQueue_self (s := s) ((congrArg State.pending hframe).trans rfl)]
    refine ⟨(congrArg (fun u : State => u.mem.pendingRetire) hframe).trans rfl, h0.trans (retireSettled_bit s), h2, hcode, ?_⟩
    rw [hframe, ← he]
    rfl
  · exact becomes_of (exec_patrolScrub col env s) (decide_eq_true hcol) rfl
  · refine becomes_of (exec_patrolScrub col env s) (decide_eq_true hcol) ?_
    rw [doPatrolScrub]
    dsimp only
    rw [readBlock_clean hcf hnone]
  · refine becomes_of (exec_refreshDue col bank s) (decide_eq_true ⟨hcol, hbank⟩) ?_
    rw [doRefreshDue, hseq]
    rfl
  · refine becomes_of (exec_refreshDue col bank s) (decide_eq_true ⟨hcol, hbank⟩) ?_
    rw [doRefreshDue, hseq]
    exact if_neg (Nat.not_le.mpr hn)
  · refine becomes_of (exec_refreshDue col bank s) (decide_eq_true ⟨hcol, hbank⟩) ?_
    rw [doRefreshDue, hseq]
    exact if_pos hn
  · exact becomes_of (exec_memCalibrationDue col s) (decide_eq_true hcol) (if_pos (by simp [hdue, hcal]))
  · refine becomes_of (exec_memCalibrationDue col s) (decide_eq_true hcol) (if_neg ?_)
    rcases hno with h | h <;> simp [h]
  · refine completes_of (exec_memCalibrationDone col s) (decide_eq_true hcol) ?_
    rw [doMemCalibrationDone_ends hcal]
    have hframe : (s.calibrated col).calTests col = { s.calibrated col with cmds := ((s.calibrated col).calTests col).cmds } := endCmds_frame _ _
    have hmem : ((s.calibrated col).calTests col).mem = (s.calibrated col).mem := (congrArg State.mem hframe).trans rfl
    have hregs : ((s.calibrated col).calTests col).regs = (s.calibrated col).regs := (congrArg State.regs hframe).trans rfl
    rw [withQueue_self (s := s) ((congrArg State.pending hframe).trans rfl)]
    refine ⟨?_, ?_, ?_, (congrArg Memories.dram hmem).trans rfl, ?_, fun id c hc hop htest hc11 hph => calTests_ends (s := s.calibrated col) hc hop htest hc11 hph⟩
    · rw [hmem]
      exact calibrated_pending s col
    · exact (congrArg (fun r => (SMap.get regDefault r (Reg.memColStatus col)).getLsbD 8) hregs).trans
        (State.bit_setBit_same (s.setCal col 0) (Reg.memColStatus col) 8 false (by decide))
    · rw [hmem]
      exact calibrated_tick s col
    · rw [hframe]
      rfl
  · exact becomes_of (exec_memCalibrationDone col s) (decide_eq_true hcol) (if_neg (by simp [hcal]))

end Sys2Proof.Proofs
end

section
/-! PROOF. Feeds, regulator phases and samples (R485, R486, R490, R501, R502, R675). -/
namespace Sys2Proof.Machine

/-- What every step of a fold leaves alone, the fold leaves alone. -/
theorem foldl_keeps {α β γ : Type} (p : α → γ) {f : α → β → α} (h : ∀ a x, p (f a x) = p a) (l : List β) (a : α) : p (l.foldl f a) = p a := by
  induction l generalizing a with
  | nil => rfl
  | cons x xs ih => rw [List.foldl_cons, ih, h]

/-! ### Feeds -/

theorem feed_setFeed_same (s : State) (n : Nat) (f : FeedSt) : (s.setFeed n f).feed n = f := by
  unfold State.feed State.setFeed
  split <;> rfl

theorem feed_setFeed_other (s : State) {n : Nat} (h : n < 2) (f : FeedSt) : (s.setFeed n f).feed (1 - n) = s.feed (1 - n) := by
  unfold State.feed State.setFeed
  obtain rfl | rfl : n = 0 ∨ n = 1 := by omega
  · rfl
  · rfl

theorem feed_congr {s t : State} (h : t.power = s.power) (n : Nat) : t.feed n = s.feed n := by
  unfold State.feed
  rw [h]

theorem alert_stands (s : State) (a : Alert) : a ∈ (s.alert a).pins.alerts := by
  unfold State.alert
  split
  next h => exact List.contains_iff_mem.mp h
  next => exact List.mem_cons_self

theorem unalert_gone (s : State) (a : Alert) : a ∉ (s.unalert a).pins.alerts := by
  simp [State.unalert]

theorem alert_frame (s : State) (a : Alert) : (s.alert a).power = s.power ∧ (s.alert a).mem = s.mem := by
  unfold State.alert
  split <;> exact ⟨rfl, rfl⟩

/-- A lost feed shown, with its event (R485). -/
def State.feedShown (s : State) (feed mv : Nat) : State :=
  (((s.setFeed feed .lost).setNat (if feed = 0 then Reg.pwrFeedA else Reg.pwrFeedB) (mv % 65536)).setBit Reg.pwrStatus feed true).event
    0x0701 Src.module none (dataOf [(0, feed), (2, mv % 65536)])

theorem feedShown_power (s : State) (feed mv : Nat) :
    (s.feedShown feed mv).power = (s.setFeed feed .lost).power ∧ (s.feedShown feed mv).mem = s.mem :=
  ⟨(State.event_power ..).trans rfl, (State.event_mem ..).trans rfl⟩

theorem doFeedLost_lost {s : State} {feed mv : Nat} (hout : feedClass mv = 2) (h : s.feed feed = .inRange ∨ s.feed feed = .marginal) :
    doFeedLost feed mv s = (s.feedShown feed mv).alert (.feed feed) := by
  rw [doFeedLost, if_neg (not_not_intro hout)]
  rcases h with h | h <;> rw [h] <;> rfl

theorem doFeedLost_absent {s : State} {feed mv : Nat} (hout : feedClass mv = 2) (h : s.feed feed = .charging) :
    doFeedLost feed mv s = s.setFeed feed .absent := by
  rw [doFeedLost, if_neg (not_not_intro hout), h]

/-! ### Hold-up -/

/-- A projection that both branches share. -/
theorem ite_keeps {γ : Type} (p : State → γ) {c : Prop} [Decidable c] {t u : State} {x : γ} (ht : p t = x) (hu : p u = x) :
    p (if c then t else u) = x := by
  split
  · exact ht
  · exact hu

/-- Bond wear added to a layer leaves the image and the commands (R541). -/
theorem wearCycle_keeps (s : State) (l range : Nat) (whole : Bool) :
    (s.wearCycle l range whole).image = s.image ∧ (s.wearCycle l range whole).cmds = s.cmds := by
  unfold State.wearCycle
  split
  · exact ⟨rfl, rfl⟩
  · exact ⟨ite_keeps State.image ((State.event_image ..).trans rfl) rfl, ite_keeps State.cmds ((State.event_cmds ..).trans rfl) rfl⟩

/-- The half cycles that a layer's turning points leave (R541). -/
def State.wearLayer (s : State) (l : Nat) : State :=
  ((SMap.get (fun _ => []) s.thermal.turns l).zip ((SMap.get (fun _ => []) s.thermal.turns l).drop 1)).foldl
    (fun (s : State) x => s.wearCycle l (dist x.1 x.2) false) s

theorem wearLayer_keeps (s : State) (l : Nat) : (s.wearLayer l).image = s.image ∧ (s.wearLayer l).cmds = s.cmds := by
  unfold State.wearLayer
  exact ⟨foldl_keeps State.image (fun s x => (wearCycle_keeps s l _ false).1) _ _, foldl_keeps State.cmds (fun s x => (wearCycle_keeps s l _ false).2) _ _⟩

/-- Every layer's half cycles, the turning points then forgotten. -/
theorem wearFlush_keeps (s : State) : s.wearFlush.image = s.image ∧ s.wearFlush.cmds = s.cmds := by
  have himage := foldl_keeps State.image (fun s l => (wearLayer_keeps s l).1) (List.range 13) s
  have hcmds := foldl_keeps State.cmds (fun s l => (wearLayer_keeps s l).2) (List.range 13) s
  unfold State.wearLayer at himage hcmds
  unfold State.wearFlush
  dsimp only
  exact ⟨himage, hcmds⟩

theorem wearWrite_keeps (s : State) : s.wearWrite.image = s.image ∧ s.wearWrite.cmds = s.cmds := ⟨rfl, rfl⟩

/-- Hold-up, before its mark (R486). -/
def State.heldUp (s : State) : State := (s.wearFlush.wearWrite).event 0x0702 Src.module none 0

theorem heldUp_keeps (s : State) : s.heldUp.image = s.image ∧ s.heldUp.cmds = s.cmds := by
  obtain ⟨himage, hcmds⟩ := wearFlush_keeps s
  obtain ⟨wimage, wcmds⟩ := wearWrite_keeps s.wearFlush
  exact ⟨(State.event_image ..).trans (wimage.trans himage), (State.event_cmds ..).trans (wcmds.trans hcmds)⟩

theorem markHoldup_marks (s : State) (q : List Instr) :
    let t := ({ s with power := { s.power with holdup := true } } : State).withQueue q
    t.power.holdup = true ∧ t.halted = true ∧ t.image = s.image ∧ t.cmds = s.cmds :=
  ⟨rfl, Bool.or_true _, rfl, rfl⟩

theorem doPwrHoldup_up {s : State} (hp : s.powered = false) (hh : s.power.holdup = false) :
    doPwrHoldup s = { s.heldUp with power := { s.heldUp.power with holdup := true } } :=
  if_neg (by simp [hp, hh])

theorem doPwrHoldup_idle {s : State} (h : s.powered = true ∨ s.power.holdup = true) : doPwrHoldup s = s :=
  if_pos (by simpa using h)

/-! ### Phases -/

theorem isolatePhase_fails (s : State) (c ph : Nat) : ((s.isolatePhase c ph).failedPhases c).testBit ph = true := by
  have hphases : (s.isolatePhase c ph).failedPhases c = s.failedPhases c ||| 2 ^ ph := SMap.get_set_same _ _ _ _
  rw [hphases, Nat.testBit_or, Nat.testBit_two_pow_self, Bool.or_true]

theorem failedPhases_congr {s t : State} (h : t.power = s.power) (c : Nat) : t.failedPhases c = s.failedPhases c := by
  rw [State.failedPhases, h, State.failedPhases]

theorem clusterHeld_congr {s t : State} {c : Nat} (h : t.reg (Reg.pwrGroup c) = s.reg (Reg.pwrGroup c)) : t.clusterHeld c = s.clusterHeld c := by
  rw [State.clusterHeld, State.bit, h, ← State.bit, State.clusterHeld]

/-- The registers and the power are as before. -/
def PowerKept (s t : State) : Prop := t.regs = s.regs ∧ t.power = s.power

theorem PowerKept.trans {s t u : State} (h : PowerKept s t) (k : PowerKept t u) : PowerKept s u := ⟨k.1.trans h.1, k.2.trans h.2⟩

theorem setCore_powerKept (s : State) (n : Nat) (k : CoreState) : PowerKept s (s.setCore n k) := ⟨rfl, rfl⟩

theorem addCnt_powerKept (s : State) (a n : Nat) : PowerKept s (s.addCnt a n) := ⟨rfl, rfl⟩

/-- A core abandons its passes: neither the registers nor the regulators change. -/
theorem abandonCore_keeps (s : State) (n : Nat) : PowerKept s (s.abandonCore n) := by
  have hsets : ∀ (g : State → AccSet → Cmd → Cmd) (l : List AccSet) (t : State),
      PowerKept t (l.foldl (fun (t : State) a => if a.retry then t else t.updCmd a.cmd (g t a)) t) := fun g l t =>
    ⟨foldl_keeps State.regs (fun t a => ite_keeps State.regs rfl (State.updCmd_regs ..)) l t, foldl_keeps State.power (fun t a => ite_keeps State.power rfl (State.updCmd_power ..)) l t⟩
  have hspan : ∀ (t : State) (id : Nat) (f : Cmd → Cmd), PowerKept t ((t.updCmd id f).spanEnd id) := fun t id f =>
    ⟨(spanEnd_frame (t.updCmd id f) id).regs.trans rfl, (congrArg State.power (spanEnd_frame (t.updCmd id f) id)).trans rfl⟩
  unfold State.abandonCore
  dsimp only
  refine PowerKept.trans (PowerKept.trans ?_ (addCnt_powerKept _ _ _)) (setCore_powerKept _ _ _)
  split
  · exact (hsets _ _ s).trans (hspan _ _ _)
  · exact hsets _ _ s

/-- A core that stops with its cluster. -/
def State.coreStopped (s : State) (n : Nat) : State := (s.abandonCore n).holdCore n none

theorem coreStopped_keeps (s : State) (n : Nat) : (s.coreStopped n).regs = s.regs ∧ (s.coreStopped n).power = s.power := by
  obtain ⟨hregs, hpower⟩ := abandonCore_keeps s n
  exact ⟨(show (s.coreStopped n).regs = (s.abandonCore n).regs from rfl).trans hregs,
    (show (s.coreStopped n).power = (s.abandonCore n).power from rfl).trans hpower⟩

/-- A held cluster, before its entry and its dike (R490). -/
def State.coresHeld (s : State) (c : Nat) : State :=
  ((List.range 8).map (fun i => 8 * c + i)).foldl State.coreStopped ((s.setBit (Reg.pwrGroup c) 16 true).setRamp c none)

theorem coresHeld_keeps (s : State) (c : Nat) :
    (s.coresHeld c).regs = (s.setBit (Reg.pwrGroup c) 16 true).regs ∧ (s.coresHeld c).power = s.power := by
  unfold State.coresHeld
  exact ⟨(foldl_keeps State.regs (fun s n => (coreStopped_keeps s n).1) _ _).trans rfl,
    (foldl_keeps State.power (fun s n => (coreStopped_keeps s n).2) _ _).trans rfl⟩

theorem holdCluster_eq (s : State) (c : Nat) :
    s.holdCluster c = match ((s.coresHeld c).event 0x0704 (Src.cluster c) none ((s.coresHeld c).phasesFailed c)).clusterPolder c with
      | some p => ((s.coresHeld c).event 0x0704 (Src.cluster c) none ((s.coresHeld c).phasesFailed c)).setDike 3 p true
      | none => (s.coresHeld c).event 0x0704 (Src.cluster c) none ((s.coresHeld c).phasesFailed c) := rfl

/-- The entry of a held cluster. -/
def State.heldShown (s : State) (c : Nat) : State := (s.coresHeld c).event 0x0704 (Src.cluster c) none ((s.coresHeld c).phasesFailed c)

theorem setDike3_keeps (s : State) (p a : Nat) (up : Bool) (h : a ≠ Reg.dikePolder) : (s.setDike 3 p up).reg a = s.reg a :=
  State.reg_setBit_ne _ _ _ h

theorem heldShown_holds (s : State) {c : Nat} (h : c < 32) : (s.heldShown c).clusterHeld c = true ∧ (s.heldShown c).power = s.power := by
  obtain ⟨hregs, hpower⟩ := coresHeld_keeps s c
  refine ⟨?_, (State.event_power ..).trans hpower⟩
  have hreg : (s.heldShown c).reg (Reg.pwrGroup c) = (s.setBit (Reg.pwrGroup c) 16 true).reg (Reg.pwrGroup c) :=
    (State.reg_event _ _ _ _ _ _ (by show 0x100100 + 0x4 * c ≠ 0x600010; omega) (by show 0x100100 + 0x4 * c ≠ 0x600000; omega)).trans
      (congrArg (fun r => SMap.get regDefault r (Reg.pwrGroup c)) hregs)
  rw [clusterHeld_congr hreg]
  exact State.bit_setBit_same s _ _ _ (by decide)

theorem holdCluster_holds (s : State) {c : Nat} (h : c < 32) : (s.holdCluster c).clusterHeld c = true ∧ (s.holdCluster c).power = s.power := by
  have hshown := heldShown_holds s h
  have heq : s.holdCluster c = match (s.heldShown c).clusterPolder c with
    | some p => (s.heldShown c).setDike 3 p true
    | none => s.heldShown c := holdCluster_eq s c
  rw [heq]
  split
  next p _ =>
    refine ⟨(clusterHeld_congr (setDike3_keeps _ p _ true ?_)).trans hshown.1, ((congrArg State.power (State.setDike_regsOnly _ 3 p true)).trans rfl).trans hshown.2⟩
    show 0x100100 + 0x4 * c ≠ 0x402000
    omega
  · exact hshown

/-- A phase that fails, with its entry (R490). -/
def State.phaseShown (s : State) (c ph : Nat) : State :=
  (s.isolatePhase c ph).event 0x0703 (Src.cluster c) none (dataOf [(0, ph), (1, (s.isolatePhase c ph).phasesFailed c)])

theorem phaseShown_fails (s : State) (c ph : Nat) : ((s.phaseShown c ph).failedPhases c).testBit ph = true := by
  rw [failedPhases_congr (s := s.isolatePhase c ph) (t := s.phaseShown c ph) (State.event_power ..)]
  exact isolatePhase_fails s c ph

theorem doPwrPhaseFail_eq {s : State} {c ph : Nat} (h : (s.failedPhases c).testBit ph = false) :
    doPwrPhaseFail c ph s = if 3 ≤ (s.phaseShown c ph).phasesFailed c && !(s.phaseShown c ph).clusterHeld c then (s.phaseShown c ph).holdCluster c
      else s.phaseShown c ph :=
  if_neg (by simp [h])

theorem doPwrPhaseFail_few {s : State} {c ph : Nat} (h : (s.failedPhases c).testBit ph = false) (hn : (s.phaseShown c ph).phasesFailed c < 3) :
    doPwrPhaseFail c ph s = s.phaseShown c ph := by
  rw [doPwrPhaseFail_eq h, decide_eq_false (Nat.not_le.mpr hn)]
  rfl

theorem doPwrPhaseFail_third {s : State} {c ph : Nat} (h : (s.failedPhases c).testBit ph = false)
    (hn : 3 ≤ (s.phaseShown c ph).phasesFailed c) (hheld : (s.phaseShown c ph).clusterHeld c = false) :
    doPwrPhaseFail c ph s = (s.phaseShown c ph).holdCluster c := by
  rw [doPwrPhaseFail_eq h, decide_eq_true hn, hheld]
  rfl

/-- A failed phase, and the third one's cluster. -/
theorem doPwrPhaseFail_fails {s : State} {c ph : Nat} (hc : c < 32) (h : (s.failedPhases c).testBit ph = false) :
    ((doPwrPhaseFail c ph s).failedPhases c).testBit ph = true ∧
    (3 ≤ (s.phaseShown c ph).phasesFailed c → (doPwrPhaseFail c ph s).clusterHeld c = true) := by
  rw [doPwrPhaseFail_eq h]
  split
  · obtain ⟨hheld, hpower⟩ := holdCluster_holds (s.phaseShown c ph) hc
    exact ⟨by rw [failedPhases_congr hpower]; exact phaseShown_fails s c ph, fun _ => hheld⟩
  next hno =>
    refine ⟨phaseShown_fails s c ph, fun h3 => ?_⟩
    simpa [h3] using hno

/-! ### Samples -/

/-- The part of the state that a sample's sums speak of: the queue, the memories, the image, and the numbers of R502. -/
abbrev SamplePart : Type := List Instr × Memories × Option Image × Nat × Nat × Nat × Nat × Nat × List Nat

def State.samplePart (s : State) : SamplePart :=
  (s.pending, s.mem, s.image, s.power.sampleNo, s.power.winSum, s.power.winN, s.power.avg, s.power.prevAvg, s.power.last10)

theorem RegsOnly.samplePart {s t : State} (h : RegsOnly s t) : t.samplePart = s.samplePart := (congrArg State.samplePart h).trans rfl

theorem readFeed_samplePart (s : State) (n mv ma : Nat) : (s.readFeed n mv ma).samplePart = s.samplePart := by
  unfold State.readFeed
  exact ite_keeps State.samplePart rfl rfl

theorem showCap_samplePart (s : State) : s.showCap.samplePart = s.samplePart :=
  ((((RegsOnly.refl s).setNat Reg.pwrCap s.capOf.1).setFld Reg.pwrStatus 18 16 s.capOf.2).setBit Reg.cltStatus 7 (decide (s.capOf.2 = 2))).samplePart

theorem cutPolder_samplePart (s : State) (p frac : Nat) : (s.cutPolder p frac).samplePart = s.samplePart := by
  unfold State.cutPolder
  exact ite_keeps State.samplePart rfl rfl

theorem govern_samplePart (s : State) (r : PowerReading) (excess tight : Bool) : (s.govern r excess tight).samplePart = s.samplePart := by
  unfold State.govern
  dsimp only
  refine foldl_keeps State.samplePart (fun s b => ?_) _ s
  exact (cutPolder_samplePart _ _ _).trans ((RegsOnly.refl s).setNat _ _).samplePart

/-- A sample's reading, added to the sums (R502). -/
def State.summed (s : State) (r : PowerReading) : State :=
  let w := inputPower r
  let last := (w :: s.power.last10).take 10
  let a10 := last.foldl (· + ·) 0 / last.length
  let n := s.power.sampleNo + 1
  let above := decide (s.variant = 9) && decide (10000 * powerLimit s.variant < a10)
  let ex := (if above then n :: s.power.excursions else s.power.excursions).filter (fun k => decide (n < k + 1000000))
  let sum := r.polders.foldl (fun m x => SMap.set (fun _ => 0) m x.1 (SMap.get (fun _ => 0) m x.1 + x.2)) s.power.polderSum
  { s with power := { s.power with
    last10 := last, sampleNo := n, excursions := ex, winSum := s.power.winSum + w, winN := s.power.winN + 1,
    winMax := max s.power.winMax a10, polderSum := sum } }

theorem summed_samplePart (s : State) (r : PowerReading) :
    (s.summed r).samplePart = (s.pending, s.mem, s.image, s.power.sampleNo + 1, s.power.winSum + inputPower r, s.power.winN + 1, s.power.avg,
      s.power.prevAvg, (inputPower r :: s.power.last10).take 10) := rfl

/-- The feeds, the groups and the cap of a reading. -/
def State.readingShown (s : State) (r : PowerReading) : State :=
  let s := (s.readFeed 0 r.mvA r.maA).readFeed 1 r.mvB r.maB
  let s := r.groups.foldl (fun (s : State) g => if g.1 < 32 then s.setFld (Reg.pwrGroup g.1) 31 20 (min 4095 g.2) else s) s
  (s.setFld Reg.pwrCommonW 15 0 (min 65535 r.common)).showCap

theorem readingShown_samplePart (s : State) (r : PowerReading) : (s.readingShown r).samplePart = s.samplePart := by
  unfold State.readingShown
  dsimp only
  rw [showCap_samplePart]
  refine (((RegsOnly.refl _).setFld Reg.pwrCommonW 15 0 (min 65535 r.common)).samplePart).trans ?_
  refine (foldl_keeps State.samplePart (fun s g => ite_keeps State.samplePart (((RegsOnly.refl s).setFld _ _ _ _).samplePart) rfl) r.groups _).trans ?_
  rw [readFeed_samplePart, readFeed_samplePart]

/-- A sample governed (R502, R507). -/
def State.governed (s : State) (r : PowerReading) : State :=
  let a10 := ((inputPower r :: s.power.last10).take 10).foldl (· + ·) 0 / ((inputPower r :: s.power.last10).take 10).length
  let s := (s.summed r).readingShown r
  let cap := s.capOf
  let free := decide (s.variant = 9) && decide (cap.2 = 0) && !s.excursionSpent
  let excess := decide (10000 * (if free then 3300 else cap.1) < a10)
  let tight := s.windowTight r
  s.govern r (excess || tight) tight

theorem takeSample_eq (s : State) (r : PowerReading) :
    s.takeSample r = if 10000 ≤ (s.governed r).power.winN then (s.governed r).windowEnd r else s.governed r := by
  rfl

theorem governed_samplePart (s : State) (r : PowerReading) : (s.governed r).samplePart = (s.summed r).samplePart := by
  unfold State.governed
  dsimp only
  rw [govern_samplePart, readingShown_samplePart]

theorem settleFill_samplePart (s : State) (n : Nat) : (s.settleFill n).samplePart = s.samplePart := by
  unfold State.settleFill
  dsimp only
  split <;> rfl

theorem wakeHalf_samplePart (s : State) (h : Nat) : (s.wakeHalf h).samplePart = s.samplePart := by
  unfold State.wakeHalf
  split <;> rfl

theorem touchHalf_samplePart (s : State) (h : Nat) : (s.touchHalf h).samplePart = s.samplePart := rfl

theorem event_samplePart (s : State) (code : Nat) (src : Nat × Nat) (k : Option Nat) (data : Nat) :
    (s.event code src k data).samplePart = s.samplePart := (congrArg State.samplePart (s.event_frame code src k data).1).trans rfl

theorem fillers_samplePart (l : List Nat) (s : State) : (l.foldl State.settleFill s).samplePart = s.samplePart :=
  foldl_keeps State.samplePart settleFill_samplePart l s

/-- The cores' halves, woken or touched at the end of a window. -/
theorem halves_samplePart (l : List Nat) (demand : Nat) (s : State) : (l.foldl (fun (s : State) h =>
    if (List.range 32).any (fun i => s.coreUsable (32 * h + i)) then (if demand = 0 then s.touchHalf h else s.wakeHalf h) else s) s).samplePart =
    s.samplePart :=
  foldl_keeps State.samplePart (fun s h => ite_keeps State.samplePart
    (ite_keeps State.samplePart (touchHalf_samplePart s h) (wakeHalf_samplePart s h)) rfl) l s

/-- The sums start again, with the window's average (R502). -/
def SamplePart.newWindow (x : SamplePart) (avg old : Nat) : SamplePart :=
  (x.1, x.2.1, x.2.2.1, x.2.2.2.1, 0, 0, avg, old, x.2.2.2.2.2.2.2.2)

theorem windowEnd_samplePart (s : State) (r : PowerReading) :
    (s.windowEnd r).samplePart = s.samplePart.newWindow (s.power.winSum / max 1 s.power.winN) s.power.avg := by
  unfold State.windowEnd
  extract_lets p avg old s1 e s2 s3 broke floor low falling rising demand s4 s5 s6 s7 s8 s9
  have h3 : s3.samplePart = s.samplePart := rfl
  have h4 : s4.samplePart = s3.samplePart :=
    foldl_keeps State.samplePart (fun s x => ((RegsOnly.refl s).setFld _ _ _ _).samplePart) r.polders s3
  have h5 : s5.samplePart = s4.samplePart := ite_keeps State.samplePart rfl (fillers_samplePart _ s4)
  have h7 : s7.samplePart = s5.samplePart.newWindow avg old := rfl
  have h8 : s8.samplePart = s7.samplePart := ((((RegsOnly.refl s7).setBit _ _ _).setBit _ _ _).setBit _ _ _).samplePart
  have h9 : s9.samplePart = s8.samplePart := ite_keeps State.samplePart rfl (halves_samplePart _ demand s8)
  have hend := ((h9.trans h8).trans h7).trans (congrArg (SamplePart.newWindow · avg old) ((h5.trans h4).trans h3))
  exact ite_keeps State.samplePart ((event_samplePart _ _ _ _ _).trans (((RegsOnly.refl s9).setBit _ _ _).samplePart.trans hend)) hend

/-- What one field of the sample's part is. -/
theorem governed_part (s : State) (r : PowerReading) : (s.governed r).samplePart =
    (s.pending, s.mem, s.image, s.power.sampleNo + 1, s.power.winSum + inputPower r, s.power.winN + 1, s.power.avg, s.power.prevAvg,
      (inputPower r :: s.power.last10).take 10) := (governed_samplePart s r).trans (summed_samplePart s r)

theorem governed_winN (s : State) (r : PowerReading) : (s.governed r).power.winN = s.power.winN + 1 :=
  congrArg (fun x : SamplePart => x.2.2.2.2.2.1) (governed_part s r)

/-- A sample within its window (R502). -/
theorem takeSample_within {s : State} {r : PowerReading} (h : s.power.winN + 1 < 10000) : (s.takeSample r).samplePart =
    (s.pending, s.mem, s.image, s.power.sampleNo + 1, s.power.winSum + inputPower r, s.power.winN + 1, s.power.avg, s.power.prevAvg,
      (inputPower r :: s.power.last10).take 10) := by
  rw [takeSample_eq, if_neg (by rw [governed_winN]; omega), governed_part]

/-- The sample that fills its window (R502). -/
theorem takeSample_fills {s : State} {r : PowerReading} (h : 9999 ≤ s.power.winN) : (s.takeSample r).samplePart =
    (s.pending, s.mem, s.image, s.power.sampleNo + 1, 0, 0, (s.power.winSum + inputPower r) / (s.power.winN + 1), s.power.avg,
      (inputPower r :: s.power.last10).take 10) := by
  have hsum : (s.governed r).power.winSum = s.power.winSum + inputPower r := congrArg (fun x : SamplePart => x.2.2.2.2.1) (governed_part s r)
  have havg : (s.governed r).power.avg = s.power.avg := congrArg (fun x : SamplePart => x.2.2.2.2.2.2.1) (governed_part s r)
  rw [takeSample_eq, if_pos (by rw [governed_winN]; omega), windowEnd_samplePart, governed_part, hsum, havg, governed_winN,
    Nat.max_eq_right (by omega)]
  rfl

/-- The fields of the sample's part, one by one. -/
theorem samplePart_fields {t : State} {q : List Instr} {m : Memories} {im : Option Image} {no sum n avg prev : Nat} {last : List Nat}
    (h : t.samplePart = (q, m, im, no, sum, n, avg, prev, last)) :
    t.pending = q ∧ t.mem = m ∧ t.image = im ∧ t.power.sampleNo = no ∧ t.power.winSum = sum ∧ t.power.winN = n ∧ t.power.avg = avg ∧
    t.power.prevAvg = prev ∧ t.power.last10 = last := by
  simpa only [State.samplePart, Prod.mk.injEq] using h

end Sys2Proof.Machine

namespace Sys2Proof.Proofs
open Sys2Proof.Machine

/-- Settles O50: each row in its branch; a sample's sums by what each of its parts leaves of them (`samplePart`). -/
theorem feedsAndPhases : Obligations.FeedsAndPhases := by
  unfold Obligations.FeedsAndPhases
  refine ⟨fun s feed mv hfeed => ⟨fun hout hin => ?_, fun hout hch => ?_, fun hin => ?_, fun hlost hpow hcl => ?_, fun habs hpow hlo hhi => ?_,
    fun hch => ?_, fun hch => ?_, fun hpow hup => ?_, fun hno => ?_⟩,
    fun s => ⟨fun cluster phase hc hp => ⟨fun hbit => ?_, fun hbit => ⟨fun hn => ?_, fun hn hheld => ?_, ?_⟩⟩, fun r => ⟨?_, fun hn => ?_, fun hn => ?_⟩⟩⟩
  · refine completes_of (exec_feedLost feed mv s) (decide_eq_true hfeed) ?_
    rw [doFeedLost_lost hout hin]
    obtain ⟨hpower, hmem⟩ := feedShown_power s feed mv
    obtain ⟨apower, amem⟩ := alert_frame (s.feedShown feed mv) (.feed feed)
    have hall : (((s.feedShown feed mv).alert (.feed feed)).withQueue s.pending).power = (s.setFeed feed .lost).power := apower.trans hpower
    refine ⟨?_, ?_, alert_stands _ _, amem.trans hmem⟩
    · rw [feed_congr hall, feed_setFeed_same]
    · rw [feed_congr hall, feed_setFeed_other s hfeed]
  · exact becomes_of (exec_feedLost feed mv s) (decide_eq_true hfeed) (doFeedLost_absent hout hch)
  · exact becomes_of (exec_feedLost feed mv s) (decide_eq_true hfeed) (if_pos hin)
  · refine completes_of (exec_feedRejoin feed mv s) (decide_eq_true hfeed) ?_
    rw [doFeedRejoin, if_pos (by simp [hlost, hpow, hcl])]
    exact ⟨feed_setFeed_same s feed .inRange, feed_setFeed_other s hfeed .inRange, unalert_gone _ _⟩
  · exact becomes_of (exec_feedRise feed mv s) (decide_eq_true hfeed) (if_pos (by simp [habs, hpow, hlo, hhi]))
  · exact becomes_of (exec_hotSwapConnect feed s) (decide_eq_true hfeed) (if_pos hch)
  · exact becomes_of (exec_hotSwapConnect feed s) (decide_eq_true hfeed) (if_neg hch)
  · refine completes_of (exec_pwrHoldup s) rfl ?_
    rw [doPwrHoldup_up hpow hup]
    obtain ⟨himage, hcmds⟩ := heldUp_keeps s
    obtain ⟨hmark, hhalt, kimage, kcmds⟩ := markHoldup_marks s.heldUp s.pending
    exact ⟨hmark, hhalt, kimage.trans himage, kcmds.trans hcmds⟩
  · exact becomes_of (exec_pwrHoldup s) rfl (doPwrHoldup_idle hno)
  · exact becomes_of (exec_pwrPhaseFail cluster phase s) (decide_eq_true ⟨hc, hp⟩) (if_pos hbit)
  · exact becomes_of (exec_pwrPhaseFail cluster phase s) (decide_eq_true ⟨hc, hp⟩) (doPwrPhaseFail_few hbit hn)
  · exact becomes_of (exec_pwrPhaseFail cluster phase s) (decide_eq_true ⟨hc, hp⟩) (doPwrPhaseFail_third hbit hn hheld)
  · refine completes_of (exec_pwrPhaseFail cluster phase s) (decide_eq_true ⟨hc, hp⟩) ?_
    exact doPwrPhaseFail_fails hc hbit
  · exact becomes_of (exec_powerSample r s) rfl rfl
  · refine completes_of (exec_powerSample r s) rfl ?_
    obtain ⟨hpending, hmem, himage, hno, hsum, hcount, havg, -, hlast⟩ := samplePart_fields (takeSample_within (r := r) hn)
    rw [doPowerSample, withQueue_self hpending]
    exact ⟨hno, hsum, hcount, havg, hlast, hmem, himage⟩
  · refine completes_of (exec_powerSample r s) rfl ?_
    obtain ⟨hpending, hmem, himage, hno, hsum, hcount, havg, hprev, -⟩ := samplePart_fields (takeSample_fills (r := r) hn)
    rw [doPowerSample, withQueue_self hpending]
    exact ⟨hno, hsum, hcount, havg, hprev, hmem, himage⟩

end Sys2Proof.Proofs
end

section
/-! PROOF. The ramp governor, PLL states and ceilings (R495, R498–R500). -/
namespace Sys2Proof.Machine

/-! ### The cores of a start -/

/-- The sum of the powers of two of some bits of a mask has just those bits. -/
theorem maskSum_testBit (m p : Nat → Bool) (n : Nat) :
    let v := ((List.range n).filter m).foldl (fun a i => if p i then a + 2 ^ i else a) 0
    v < 2 ^ n ∧ ∀ i, v.testBit i = (decide (i < n) && m i && p i) := by
  induction n with
  | zero => exact ⟨Nat.one_pos, fun i => by simp⟩
  | succ n ih =>
    obtain ⟨hlt, hbits⟩ := ih
    rw [List.range_succ, List.filter_append, List.foldl_append]
    generalize ((List.range n).filter m).foldl (fun a i => if p i then a + 2 ^ i else a) 0 = v at hlt hbits
    have hlt' : v < 2 ^ (n + 1) := by rw [Nat.pow_succ]; omega
    have hnot : ¬ (m n = true ∧ p n = true) → v < 2 ^ (n + 1) ∧ ∀ i, v.testBit i = (decide (i < n + 1) && m i && p i) := fun hno => by
      refine ⟨hlt', fun i => ?_⟩
      rw [hbits]
      by_cases hi : i = n
      · subst hi
        simp only [Nat.lt_irrefl, decide_false, Bool.false_and, Nat.lt_succ_self, decide_true, Bool.true_and]
        exact (Bool.eq_false_iff.mpr fun h => hno (by simpa using h)).symm
      · rw [show decide (i < n) = decide (i < n + 1) from decide_eq_decide.mpr (by omega)]
    by_cases hm : m n = true
    · by_cases hp : p n = true
      · rw [List.filter_cons_of_pos hm, List.filter_nil, List.foldl_cons, List.foldl_nil, if_pos hp]
        refine ⟨by rw [Nat.pow_succ]; omega, fun i => ?_⟩
        have hor : v + 2 ^ n = 2 ^ n ||| v := by
          have := Nat.two_pow_add_eq_or_of_lt hlt 1
          rw [Nat.mul_one] at this
          rw [Nat.add_comm, this]
        rw [hor, Nat.testBit_or, hbits, Nat.testBit_two_pow]
        by_cases hi : n = i
        · subst hi
          simp [hm, hp]
        · rw [decide_eq_false hi, Bool.false_or, show decide (i < n) = decide (i < n + 1) from decide_eq_decide.mpr (by omega)]
      · rw [List.filter_cons_of_pos hm, List.filter_nil, List.foldl_cons, List.foldl_nil, if_neg hp]
        exact hnot fun h => hp h.2
    · rw [List.filter_cons_of_neg hm, List.filter_nil, List.foldl_nil]
      exact hnot fun h => hm h.1

/-- A core that START takes in: idle without filler, or asleep (R499). -/
def State.startsCore (s : State) (cluster mask i : Nat) : Prop :=
  mask.testBit i = true ∧ s.coreUsable (8 * cluster + i) = true ∧ s.arrayCold (8 * cluster + i) = true

/-- The cores that START takes in, one bit each. -/
def State.startMask (s : State) (cluster mask : Nat) : Nat :=
  (bitsOf 8 mask).foldl (fun a i => if s.coreUsable (8 * cluster + i) && s.arrayCold (8 * cluster + i) then a + 2 ^ i else a) 0

theorem startMask_testBit (s : State) (cluster mask : Nat) {i : Nat} (h : i < 8) :
    (s.startMask cluster mask).testBit i = true ↔ s.startsCore cluster mask i := by
  have hbits := (maskSum_testBit (fun i => mask.testBit i) (fun i => s.coreUsable (8 * cluster + i) && s.arrayCold (8 * cluster + i)) 8).2 i
  rw [State.startMask, bitsOf, hbits, State.startsCore]
  simp [h]

theorem startMask_eq_zero {s : State} {cluster mask : Nat} (h : ∀ i, i < 8 → ¬ s.startsCore cluster mask i) : s.startMask cluster mask = 0 := by
  refine Nat.eq_of_testBit_eq fun i => ?_
  rw [Nat.zero_testBit, State.startMask, bitsOf,
    (maskSum_testBit (fun i => mask.testBit i) (fun i => s.coreUsable (8 * cluster + i) && s.arrayCold (8 * cluster + i)) 8).2 i]
  by_cases hi : i < 8
  · have hno := h i hi
    unfold State.startsCore at hno
    simpa [hi] using hno
  · simp [hi]

theorem startMask_ne_zero {s : State} {cluster mask i : Nat} (hi : i < 8) (h : s.startsCore cluster mask i) : s.startMask cluster mask ≠ 0 := by
  intro hzero
  have hbit := (startMask_testBit s cluster mask hi).mpr h
  rw [hzero, Nat.zero_testBit] at hbit
  cases hbit

theorem rampOf_setRamp (s : State) (c : Nat) (r : Option RampStart) : (s.setRamp c r).rampOf c = r := SMap.get_set_same _ _ _ _

/-- A start of a cluster that had none, judged. -/
def State.rampBegun (s : State) (cluster mask : Nat) : State :=
  let r : RampStart := ⟨s.startMask cluster mask, s.tick, false, false, 0, 0⟩
  (s.wakeHalf (cluster / 4)).setRamp cluster (some { r with admitted := (s.wakeHalf (cluster / 4)).rampFits cluster r })

theorem wakeHalf_tick (s : State) (h : Nat) : (s.wakeHalf h).tick = s.tick := (congrArg State.tick (wakeHalf_frame s h).1).trans rfl

theorem doRampStart_begins {s : State} {cluster mask : Nat} (hrun : s.halted = false) (hnone : s.rampOf cluster = none)
    (hown : s.startMask cluster mask ≠ 0) : doRampStart cluster mask s = s.rampBegun cluster mask := by
  unfold doRampStart
  rw [hnone]
  dsimp only
  rw [← State.startMask, if_neg (by simp [hown, hrun]), wakeHalf_tick, Option.map_none, Option.getD_none, Option.map_none, Option.getD_none,
    Nat.or_zero]
  rfl

theorem doRampStart_idle {s : State} {cluster mask : Nat} (h : s.halted = true ∨ s.startMask cluster mask = 0) : doRampStart cluster mask s = s := by
  unfold doRampStart
  dsimp only
  rw [← State.startMask]
  refine if_pos ?_
  rcases h with h | h <;> simp [h]

/-! ### The course of a start -/

/-- What the cores' fillers leave of the ramp and the rest. -/
def State.rampPart (s : State) : SMap Word × List Cmd × Memories × List Instr × SMap (Option RampStart) :=
  (s.regs, s.cmds, s.mem, s.pending, s.clocks.starts)

theorem settleFill_rampPart (s : State) (n : Nat) : (s.settleFill n).rampPart = s.rampPart ∧
    (s.settleFill n).clocks.rampTarget = s.clocks.rampTarget := by
  unfold State.settleFill
  dsimp only
  split <;> exact ⟨rfl, rfl⟩

theorem settleFills_rampPart (l : List Nat) (s : State) : (l.foldl State.settleFill s).rampPart = s.rampPart ∧
    (l.foldl State.settleFill s).clocks.rampTarget = s.clocks.rampTarget :=
  ⟨foldl_keeps State.rampPart (fun s n => (settleFill_rampPart s n).1) l s,
    foldl_keeps (fun s : State => s.clocks.rampTarget) (fun s n => (settleFill_rampPart s n).2) l s⟩

/-- The cores of a start held at a target, or let go. -/
theorem holdCores_rampPart (f : State → Nat → Option Nat) (l : List Nat) (s : State) :
    (l.foldl (fun s n => s.holdCore n (f s n)) s).rampPart = s.rampPart := foldl_keeps State.rampPart (fun s n => show (s.holdCore n (f s n)).rampPart = s.rampPart from rfl) l s

theorem holdCores_target (v : Option Nat) (l : List Nat) (s : State) {n : Nat} (h : n ∈ l) :
    SMap.get (fun _ => none) (l.foldl (fun s n => s.holdCore n v) s).clocks.rampTarget n = v := by
  have hfold : (l.foldl (fun s n => s.holdCore n v) s).clocks.rampTarget = l.foldl (fun m n => SMap.set (fun _ => none) m n v) s.clocks.rampTarget := by
    clear h
    induction l generalizing s with
    | nil => rfl
    | cons x xs ih => exact ih _
  rw [hfold, SMap.get_foldl_set (fun _ => none) (fun _ => v)]
  exact if_pos h

theorem rampPart_rampOf {s t : State} (h : t.clocks.starts = s.clocks.starts) (c : Nat) : t.rampOf c = s.rampOf c := by
  rw [State.rampOf, h, State.rampOf]

/-- The cores of a start whose passes begin again. -/
theorem gapCores_rampPart (l : List Nat) (s : State) :
    (l.foldl (fun (s : State) n => s.setCore n { s.core n with gapFrom := some s.tick, filled := s.tick }) s).rampPart = s.rampPart ∧
    (l.foldl (fun (s : State) n => s.setCore n { s.core n with gapFrom := some s.tick, filled := s.tick }) s).clocks.rampTarget = s.clocks.rampTarget :=
  ⟨foldl_keeps State.rampPart (fun s n => show (s.setCore n _).rampPart = s.rampPart from rfl) l s,
    foldl_keeps (fun s : State => s.clocks.rampTarget) (fun s n => show (s.setCore n _).clocks.rampTarget = s.clocks.rampTarget from rfl) l s⟩

theorem closeRamp_ends (s : State) (c h : Nat) :
    ((s.setRamp c none).touchHalf h).rampOf c = none ∧ ((s.setRamp c none).touchHalf h).regs = s.regs ∧
    ((s.setRamp c none).touchHalf h).pending = s.pending ∧ ((s.setRamp c none).touchHalf h).clocks.rampTarget = s.clocks.rampTarget :=
  ⟨rampOf_setRamp s c none, rfl, rfl, rfl⟩

/-- A start that has ended is gone, its cores' targets as before (R499). -/
theorem rampEnd_ends (s : State) (c : Nat) (r : RampStart) :
    (s.rampEnd c r).rampOf c = none ∧ (s.rampEnd c r).regs = s.regs ∧ (s.rampEnd c r).pending = s.pending ∧
    (s.rampEnd c r).clocks.rampTarget = s.clocks.rampTarget := by
  obtain ⟨hfill, tfill⟩ := settleFills_rampPart (rampCores c r) s
  obtain ⟨hgap, tgap⟩ := gapCores_rampPart (rampCores c r) ((rampCores c r).foldl State.settleFill s)
  have hall := hgap.trans hfill
  obtain ⟨hnone, hregs, hpending, htarget⟩ := closeRamp_ends ((rampCores c r).foldl
    (fun (s : State) n => s.setCore n { s.core n with gapFrom := some s.tick, filled := s.tick }) ((rampCores c r).foldl State.settleFill s)) c (c / 4)
  exact ⟨hnone, hregs.trans (congrArg (fun x => x.1) hall), hpending.trans (congrArg (fun x => x.2.2.2.1) hall), htarget.trans (tgap.trans tfill)⟩

/-- A start changed after its cores. -/
theorem setRamp_changes (s : State) (c : Nat) (r : RampStart) :
    (s.setRamp c (some r)).rampOf c = some r ∧ (s.setRamp c (some r)).regs = s.regs ∧ (s.setRamp c (some r)).cmds = s.cmds ∧
    (s.setRamp c (some r)).mem = s.mem ∧ (s.setRamp c (some r)).pending = s.pending :=
  ⟨rampOf_setRamp s c (some r), rfl, rfl, rfl, rfl⟩

/-- The state of a start admitted by force, before its commands are warned (R500). -/
def State.rampForced (s : State) (c : Nat) (r : RampStart) : State :=
  (rampCores c r).foldl (fun (s : State) n => s.holdCore n (some 300))
    ((s.bumpFld Reg.clkRamp 31 16 1).setRamp c (some { r with admitted := true, forced := true }))

theorem rampForced_forces (s : State) (c : Nat) (r : RampStart) :
    (s.rampForced c r).rampOf c = some { r with admitted := true, forced := true } ∧ (s.rampForced c r).mem = s.mem ∧
    (∀ n ∈ rampCores c r, SMap.get (fun _ => none) (s.rampForced c r).clocks.rampTarget n = some 300) := by
  have hpart := holdCores_rampPart (fun _ _ => some 300) (rampCores c r)
    ((s.bumpFld Reg.clkRamp 31 16 1).setRamp c (some { r with admitted := true, forced := true }))
  refine ⟨?_, (congrArg (fun x => x.2.2.1) hpart).trans rfl, fun n hn => holdCores_target (some 300) _ _ hn⟩
  exact (rampPart_rampOf (congrArg (fun x => x.2.2.2.2) hpart) c).trans (rampOf_setRamp _ c _)

theorem throttleCores_keeps (s : State) (ns : List Nat) (q : List Instr) :
    ((s.throttleCores ns).withQueue q).mem = s.mem ∧ ((s.throttleCores ns).withQueue q).clocks = s.clocks := ⟨rfl, rfl⟩

theorem doRampForcedAdmit_due {s : State} {c : Nat} {r : RampStart} (hr : s.rampOf c = some r) (hadm : r.admitted = false)
    (hdue : r.since + 100 ≤ s.tick) : doRampForcedAdmit c s = (s.rampForced c r).throttleCores (rampCores c r) := by
  rw [doRampForcedAdmit, hr]
  exact if_neg (by simp [hadm, Nat.not_lt.mpr hdue])

theorem doRampDensityStep_grows {s : State} {c : Nat} {r : RampStart} (hr : s.rampOf c = some r) (hadm : r.admitted = true)
    (hd : r.density < 15) :
    doRampDensityStep c s = ((rampCores c r).foldl State.settleFill s).setRamp c (some { r with density := r.density + 1 }) := by
  rw [doRampDensityStep, hr]
  dsimp only
  rw [if_neg (by simp [hadm]; omega), if_neg (by simp; omega)]

theorem doRampDensityStep_ends {s : State} {c : Nat} {r : RampStart} (hr : s.rampOf c = some r) (hadm : r.admitted = true)
    (hd : r.density = 15) (hf : r.forced = false) : doRampDensityStep c s = s.rampEnd c r := by
  rw [doRampDensityStep, hr]
  dsimp only
  rw [if_neg (by simp [hadm, hd]), if_pos (by simp [hd, hf])]

theorem doRampTargetRaise_last {s : State} {c : Nat} {r : RampStart} (hr : s.rampOf c = some r) (hf : r.forced = true)
    (hd : 16 ≤ r.density) (hn : 3 ≤ r.raised) :
    doRampTargetRaise c s = ((rampCores c r).foldl (fun (s : State) n => s.holdCore n none) s).rampEnd c r := by
  rw [doRampTargetRaise, hr]
  dsimp only
  rw [if_neg (by simp [hf, Nat.not_lt.mpr hd]), if_pos hn]

theorem doRampTargetRaise_raises {s : State} {c : Nat} {r : RampStart} (hr : s.rampOf c = some r) (hf : r.forced = true)
    (hd : 16 ≤ r.density) (hn : r.raised < 3) :
    doRampTargetRaise c s = ((rampCores c r).foldl (fun (s : State) n =>
      s.holdCore n (some (300 + ((s.holdCore n none).coreTarget n - 300) * (r.raised + 1) / 4))) s).setRamp c (some { r with raised := r.raised + 1 }) := by
  rw [doRampTargetRaise, hr]
  dsimp only
  rw [if_neg (by simp [hf, Nat.not_lt.mpr hd]), if_neg (Nat.not_le.mpr hn)]

/-! ### Ceilings -/

theorem ceiling_congr {s t : State} (hf : t.fuses = s.fuses) {core v : Nat} (hc : SMap.get (fun _ => 0) t.nvm.ceilings core = v) :
    t.ceiling core = if v = 0 then s.factory core else v := by
  rw [State.ceiling, hc, State.factory, hf, ← State.factory]

/-- An entry of the almanac leaves the ceilings, and their hours. -/
theorem event_ceilings (s : State) (code : Nat) (src : Nat × Nat) (k : Option Nat) (data : Nat) :
    (s.event code src k data).nvm.ceilings = s.nvm.ceilings ∧ (s.event code src k data).nvm.ceilHours = s.nvm.ceilHours ∧
    (s.event code src k data).fuses = s.fuses :=
  ⟨(congrArg (fun t : State => t.nvm.ceilings) (s.event_frame code src k data).1).trans rfl,
    (congrArg (fun t : State => t.nvm.ceilHours) (s.event_frame code src k data).1).trans rfl, State.event_fuses ..⟩

theorem ageCeiling_ages (s : State) (core : Nat) {v : Nat} (h : v ≠ 0) :
    (s.ageCeiling core v).ceiling core = v ∧ SMap.get (fun _ => 0) (s.ageCeiling core v).nvm.ceilHours core = 0 := by
  obtain ⟨hceil, hhours, hfuses⟩ := event_ceilings ((s.setCeiling core v).setHours core 0) 0x0705 (Src.core core) none
    (dataOf [(0, 5 * s.ceiling core), (2, 5 * v)])
  unfold State.ageCeiling
  refine ⟨?_, ?_⟩
  · refine (ceiling_congr (s := s) (hfuses.trans rfl) (v := v) ?_).trans (if_neg h)
    rw [hceil]
    exact SMap.get_set_same _ _ _ _
  · rw [hhours]
    exact SMap.get_set_same (fun _ => 0) s.nvm.ceilHours core 0

theorem setHours_keeps (s : State) (core v : Nat) :
    (s.setHours core v).ceiling core = s.ceiling core ∧ SMap.get (fun _ => 0) (s.setHours core v).nvm.ceilHours core = v :=
  ⟨rfl, SMap.get_set_same _ _ _ _⟩

/-- A core marked at 300 MHz (R498). -/
theorem markCore_marks (s : State) {core : Nat} (h : core < 256) :
    let t := ((s.setHours core 0).setBit (Reg.clkCore core) 30 true).event 0x0706 (Src.core core) none 0
    t.bit (Reg.clkCore core) 30 = true ∧ t.ceiling core = s.ceiling core := by
  obtain ⟨hceil, -, hfuses⟩ := event_ceilings ((s.setHours core 0).setBit (Reg.clkCore core) 30 true) 0x0706 (Src.core core) none 0
  refine ⟨?_, ceiling_congr hfuses (congrArg (fun m => SMap.get (fun _ => 0) m core) hceil)⟩
  rw [State.bit_event _ _ _ _ _ _ (by show 0x101200 + 0x8 * core ≠ 0x600010; omega) (by show 0x101200 + 0x8 * core ≠ 0x600000; omega),
    State.bit_setBit_same _ _ _ _ (by decide)]

end Sys2Proof.Machine

namespace Sys2Proof.Proofs
open Sys2Proof.Machine

/-- Settles O51: each row in its branch; the cores of a start by the bits of its mask (`startMask_testBit`). -/
theorem rampsAndClocks : Obligations.RampsAndClocks := by
  unfold Obligations.RampsAndClocks
  refine ⟨fun s cluster hc => ⟨fun mask hm => ⟨fun hrun hnone hstart => ?_, fun hno => ?_⟩,
    fun r hr => ⟨fun hadm => ?_, fun hadm => ⟨?_, ?_⟩, fun hadm hearly => ?_, fun hadm hdue => ?_, fun hadm hd => ?_,
      fun hadm hd hf => ⟨?_, ?_⟩, fun hadm => ?_, fun hf hd hn => ?_, fun hf hd hn => ?_, fun hno => ?_⟩,
    fun hnone => ⟨?_, ?_, ?_, ?_⟩⟩,
    fun s => ⟨fun half hh => ⟨fun hdue => ?_, fun hno => ?_, fun hst hms hdue => ?_, fun hms => ?_⟩,
      fun core margin hcore => ⟨fun hlow hc => ?_, fun hlow hc => ?_, fun hhigh hn => ?_, fun hhigh hn hroom => ?_, fun hlo hhi => ?_⟩⟩⟩
  · refine completes_of (exec_rampStart cluster mask s) (decide_eq_true ⟨hc, hm⟩) ?_
    obtain ⟨i, hi, hcore⟩ := hstart
    rw [doRampStart_begins hrun hnone (startMask_ne_zero hi hcore)]
    exact ⟨_, rampOf_setRamp _ cluster _, rfl, rfl, rfl, rfl, fun i hi => startMask_testBit s cluster mask hi⟩
  · exact becomes_of (exec_rampStart cluster mask s) (decide_eq_true ⟨hc, hm⟩) (doRampStart_idle (hno.imp_right startMask_eq_zero))
  · refine becomes_of (exec_rampRetry cluster s) (decide_eq_true hc) ?_
    rw [doRampRetry, hr]
    exact if_neg (by simp [hadm])
  · refine becomes_of (exec_rampRetry cluster s) (decide_eq_true hc) ?_
    rw [doRampRetry, hr]
    exact if_pos hadm
  · refine becomes_of (exec_rampForcedAdmit cluster s) (decide_eq_true hc) ?_
    rw [doRampForcedAdmit, hr]
    exact if_pos (by simp [hadm])
  · refine becomes_of (exec_rampForcedAdmit cluster s) (decide_eq_true hc) ?_
    rw [doRampForcedAdmit, hr]
    exact if_pos (by simp [hearly])
  · refine completes_of (exec_rampForcedAdmit cluster s) (decide_eq_true hc) ?_
    rw [doRampForcedAdmit_due hr hadm hdue]
    obtain ⟨hramp, hmem, htarget⟩ := rampForced_forces s cluster r
    obtain ⟨kmem, kclocks⟩ := throttleCores_keeps (s.rampForced cluster r) (rampCores cluster r) s.pending
    refine ⟨(rampPart_rampOf (congrArg Clocks.starts kclocks) cluster).trans hramp, fun n hn => ?_, kmem.trans hmem⟩
    rw [kclocks]
    exact htarget n hn
  · refine completes_of (exec_rampDensityStep cluster s) (decide_eq_true hc) ?_
    rw [doRampDensityStep_grows hr hadm hd]
    obtain ⟨hfill, -⟩ := settleFills_rampPart (rampCores cluster r) s
    obtain ⟨hramp, hregs, hcmds, -, hpending⟩ := setRamp_changes ((rampCores cluster r).foldl State.settleFill s) cluster { r with density := r.density + 1 }
    rw [withQueue_self (hpending.trans (congrArg (fun x => x.2.2.2.1) hfill))]
    exact ⟨hramp, hregs.trans (congrArg (fun x => x.1) hfill), hcmds.trans (congrArg (fun x => x.2.1) hfill)⟩
  · exact becomes_of (exec_rampDensityStep cluster s) (decide_eq_true hc) (doRampDensityStep_ends hr hadm hd hf)
  · refine completes_of (exec_rampDensityStep cluster s) (decide_eq_true hc) ?_
    obtain ⟨hnone, hregs, hpending, -⟩ := rampEnd_ends s cluster r
    rw [doRampDensityStep_ends hr hadm hd hf, withQueue_self hpending]
    exact ⟨hnone, hregs⟩
  · refine becomes_of (exec_rampDensityStep cluster s) (decide_eq_true hc) ?_
    rw [doRampDensityStep, hr]
    exact if_pos (by simp [hadm])
  · refine completes_of (exec_rampTargetRaise cluster s) (decide_eq_true hc) ?_
    rw [doRampTargetRaise_raises hr hf hd hn]
    have hhold := holdCores_rampPart (fun s n => some (300 + ((s.holdCore n none).coreTarget n - 300) * (r.raised + 1) / 4)) (rampCores cluster r) s
    exact ⟨rampOf_setRamp _ cluster _, congrArg (fun x => x.1) hhold⟩
  · refine completes_of (exec_rampTargetRaise cluster s) (decide_eq_true hc) ?_
    rw [doRampTargetRaise_last hr hf hd hn]
    have hhold := holdCores_rampPart (fun _ _ => none) (rampCores cluster r) s
    obtain ⟨hnone, -, hpending, htarget⟩ := rampEnd_ends ((rampCores cluster r).foldl (fun (s : State) n => s.holdCore n none) s) cluster r
    rw [withQueue_self (hpending.trans (congrArg (fun x => x.2.2.2.1) hhold))]
    refine ⟨hnone, fun n hn => ?_⟩
    rw [htarget]
    exact holdCores_target none _ _ hn
  · refine becomes_of (exec_rampTargetRaise cluster s) (decide_eq_true hc) ?_
    rw [doRampTargetRaise, hr]
    refine if_pos ?_
    rcases hno with h | h <;> simp [h]
  · exact becomes_of (exec_rampRetry cluster s) (decide_eq_true hc) (by rw [doRampRetry, hnone])
  · exact becomes_of (exec_rampForcedAdmit cluster s) (decide_eq_true hc) (by rw [doRampForcedAdmit, hnone])
  · exact becomes_of (exec_rampDensityStep cluster s) (decide_eq_true hc) (by rw [doRampDensityStep, hnone])
  · exact becomes_of (exec_rampTargetRaise cluster s) (decide_eq_true hc) (by rw [doRampTargetRaise, hnone])
  · obtain ⟨hst, hhold, hbusy, hfill, hidle⟩ := hdue
    exact becomes_of (exec_halfStandby half s) (decide_eq_true hh) (if_pos (by simp [hst, hhold, hbusy, hfill, hidle]))
  · refine becomes_of (exec_halfStandby half s) (decide_eq_true hh) (if_neg fun h => hno ?_)
    simpa [and_assoc] using h
  · exact becomes_of (exec_halfAsleep half s) (decide_eq_true hh) (if_pos (by simp [hst, hms, hdue]))
  · exact becomes_of (exec_halfAsleep half s) (decide_eq_true hh) (if_neg (by simp [hms]))
  · refine completes_of (exec_ceilingUpdate core margin s) (decide_eq_true hcore) ?_
    unfold doCeilingUpdate
    dsimp only
    rw [if_pos hlow, if_neg (Nat.not_le.mpr hc)]
    exact ageCeiling_ages s core (by omega)
  · refine completes_of (exec_ceilingUpdate core margin s) (decide_eq_true hcore) ?_
    unfold doCeilingUpdate
    dsimp only
    rw [if_pos hlow, if_pos hc]
    exact markCore_marks s hcore
  · refine completes_of (exec_ceilingUpdate core margin s) (decide_eq_true hcore) ?_
    unfold doCeilingUpdate
    dsimp only
    rw [if_neg (by omega), if_pos hhigh, if_neg (by simp; omega), Nat.min_eq_left (by omega)]
    exact setHours_keeps s core _
  · refine completes_of (exec_ceilingUpdate core margin s) (decide_eq_true hcore) ?_
    unfold doCeilingUpdate
    dsimp only
    rw [if_neg (by omega), if_pos hhigh, if_pos (by rw [decide_eq_true hroom, Bool.and_true]; simp; omega)]
    exact (ageCeiling_ages s core (by omega)).1
  · refine completes_of (exec_ceilingUpdate core margin s) (decide_eq_true hcore) ?_
    unfold doCeilingUpdate
    dsimp only
    rw [if_neg (by omega), if_neg (by omega)]
    obtain ⟨hceil, hhours⟩ := setHours_keeps s core 0
    exact ⟨hhours, hceil, rfl⟩

end Sys2Proof.Proofs
end

section
/-! PROOF. Grants, slack and the heat meter (R503–R506, R512, R513), and what sending on the fabric leaves (R440–R449). -/
namespace Sys2Proof.Machine

/-! ### Sending -/

/-- What a packet that leaves may change: counters, the fabric's state, what is sent, and the place in the free values. -/
def Sent (s t : State) : Prop := t = { s with freeCtr := t.freeCtr, cnts := t.cnts, fab := t.fab, out := t.out }

theorem Sent.refl (s : State) : Sent s s := rfl

theorem Sent.trans {s t u : State} (h : Sent s t) (k : Sent t u) : Sent s u := by
  unfold Sent at *
  rw [k]; simp only; rw [h]

theorem Sent.foldl {β : Type} (f : State → β → State) (h : ∀ s x, Sent s (f s x)) (l : List β) (s : State) : Sent s (l.foldl f s) := by
  induction l generalizing s with
  | nil => exact .refl s
  | cons x xs ih => exact (h s x).trans (ih _)

theorem Sent.pending {s t : State} (h : Sent s t) : t.pending = s.pending := (congrArg State.pending h).trans rfl
theorem Sent.power {s t : State} (h : Sent s t) : t.power = s.power := (congrArg State.power h).trans rfl
theorem Sent.mem {s t : State} (h : Sent s t) : t.mem = s.mem := (congrArg State.mem h).trans rfl
theorem Sent.regs {s t : State} (h : Sent s t) : t.regs = s.regs := (congrArg State.regs h).trans rfl
theorem Sent.cmds {s t : State} (h : Sent s t) : t.cmds = s.cmds := (congrArg State.cmds h).trans rfl
theorem Sent.image {s t : State} (h : Sent s t) : t.image = s.image := (congrArg State.image h).trans rfl
theorem Sent.tick {s t : State} (h : Sent s t) : t.tick = s.tick := (congrArg State.tick h).trans rfl

theorem addCnt_sent (s : State) (a n : Nat) : Sent s (s.addCnt a n) := rfl

theorem emit_sent (s : State) (o : Out) : Sent s (s.emit o) := rfl

theorem putEther_sent (s : State) (port kind eth dst size : Nat) (data : List Byte) : Sent s (s.putEther port kind eth dst size data) :=
  ((addCnt_sent s _ _).trans (addCnt_sent _ _ _)).trans (emit_sent _ _)

theorem setArp_sent (s : State) (port ip eth : Nat) : Sent s (s.setArp port ip eth) := rfl

theorem fresh_sent (s : State) : Sent s s.fresh := rfl

theorem askArp_sent (s : State) (port ip : Nat) : Sent s (s.askArp port ip) :=
  ((putEther_sent s _ _ _ _ _ _).trans (setArp_sent _ _ _ _)).trans (fresh_sent _)

theorem resolve_sent (s : State) (port ip : Nat) : Sent s (s.resolve port ip) := by
  unfold State.resolve
  split
  · exact .refl s
  · exact askArp_sent s port ip

theorem putDatagram_sent (s : State) (port entry dst : Nat) (bytes : List Byte) : Sent s (s.putDatagram port entry dst bytes) :=
  (((resolve_sent s port dst).trans (addCnt_sent _ _ _)).trans (addCnt_sent _ _ _)).trans (emit_sent _ _)

theorem setFlow_sent (s : State) (d : Nat) (f : Flow) : Sent s (s.setFlow d f) := rfl

theorem Sent.ite {s t u : State} {c : Prop} [Decidable c] (ht : Sent s t) (hu : Sent s u) : Sent s (if c then t else u) := by
  split
  · exact ht
  · exact hu

theorem putFrame_sent (s : State) (d : Nat) (t : TxFrame) : Sent s (s.putFrame d t) := by
  unfold State.putFrame
  dsimp only
  split
  · exact .refl s
  next p e _ =>
    refine Sent.trans (Sent.trans (putDatagram_sent s p e ((s.peerAddrs d).getD e 0) (s.frameBytes d (s.flow d) t)) ?_) (setFlow_sent _ d _)
    exact .ite (addCnt_sent _ _ _) (.refl _)

theorem acceptPsn_sent (s : State) (d psn : Nat) : Sent s (s.acceptPsn d psn) := by
  unfold State.acceptPsn
  split <;> rfl

theorem settleReads_sent (s : State) (d : Nat) : Sent s (s.settleReads d) := by
  unfold State.settleReads
  exact (show Sent s { s with fab := _ } from rfl).trans (.foldl _ (fun s x => acceptPsn_sent s d _) _ _)

theorem pump_sent (s : State) (d : Nat) : Sent s (s.pump d) := by
  unfold State.pump
  split
  · exact .refl s
  · exact (Sent.foldl _ (fun s t => putFrame_sent s d t) _ s).trans (settleReads_sent _ d)

theorem sendSeq_sent (s : State) (d typ flags msg : Nat) (area payload : List Byte) (owner : Option Nat) :
    Sent s (s.sendSeq d typ flags msg area payload owner) := (setFlow_sent s d _).trans (pump_sent _ d)

/-! ### Grants -/

/-- A power limit lies above the lower bound of a grant (R503). -/
theorem powerLimit_bounds (v : Nat) : 500 ≤ powerLimit v ∧ powerLimit v ≤ 3000 := by
  unfold powerLimit
  split
  · omega
  · split <;> omega

theorem clampGrant_lt (s : State) (w : Nat) : s.clampGrant w < 2 ^ 16 := by
  have := powerLimit_bounds s.variant
  unfold State.clampGrant
  omega

theorem fld_setNat_same (s : State) (a hi lo v : Nat) : (s.setNat a v).fld a hi lo = bits (v % 2 ^ 32) hi lo := by
  unfold State.fld fld
  exact congrArg (fun n => bits n hi lo) (State.nat_setNat_same s a v)

theorem State.fld_setNat_ne (s : State) {a b : Nat} (hi lo v : Nat) (h : b ≠ a) : (s.setNat a v).fld b hi lo = s.fld b hi lo := by
  unfold State.fld
  rw [State.reg_setNat_ne _ _ h]

/-- A grant in force: its watts, its source and its lease (R503). -/
theorem applyGrant_shows (s : State) (w lease : Nat) {src : Nat} (hsrc : src < 8) :
    (s.applyGrant w lease src).grantW = s.clampGrant w ∧ (s.applyGrant w lease src).fld Reg.pwrStatus 6 4 = src ∧
    (s.applyGrant w lease src).power = { s.power with leaseEnd := if lease = 0 then none else some (s.tick + 25000 * lease) } := by
  unfold State.applyGrant
  refine ⟨?_, ?_, rfl⟩
  · rw [State.grantW, State.fld_setFld_ne _ _ (by decide) (.inl (by decide)), State.fld_setBit_ne _ _ (.inl (by decide))]
    refine (fld_setNat_same s Reg.pwrGrant 15 0 _).trans ?_
    have := clampGrant_lt s w
    rw [Nat.mod_eq_of_lt (by omega)]
    exact Nat.mod_eq_of_lt this
  · rw [State.fld_setFld_same _ _ _ _ _ (by decide) (by decide)]
    exact Nat.mod_eq_of_lt hsrc

/-- The cap shown leaves the grant, its source and everything but registers. -/
theorem showCap_keeps (s : State) : RegsOnly s s.showCap ∧ s.showCap.grantW = s.grantW ∧
    s.showCap.fld Reg.pwrStatus 6 4 = s.fld Reg.pwrStatus 6 4 := by
  unfold State.showCap
  refine ⟨(((RegsOnly.refl s).setNat _ _).setFld _ _ _ _).setBit _ _ _, ?_, ?_⟩
  · rw [State.grantW, State.fld_setBit_ne _ _ (.inl (by decide)), State.fld_setFld_ne _ _ (by decide) (.inl (by decide)),
      State.fld_setNat_ne _ _ _ _ (by decide), State.grantW]
  · rw [State.fld_setBit_ne _ _ (.inl (by decide)), State.fld_setFld_ne _ _ (by decide) (.inr (.inr (by decide))),
      State.fld_setNat_ne _ _ _ _ (by decide)]

theorem RegsOnly.power {s t : State} (h : RegsOnly s t) : t.power = s.power := (congrArg State.power h).trans rfl

/-- What a grant applied and shown leaves, the reply of MCTP after it (R503). -/
theorem grantShown_shows (s : State) (w lease : Nat) {src : Nat} (hsrc : src < 8) :
    ((s.applyGrant w lease src).showCap).grantW = s.clampGrant w ∧ ((s.applyGrant w lease src).showCap).fld Reg.pwrStatus 6 4 = src ∧
    ((s.applyGrant w lease src).showCap).power = { s.power with leaseEnd := if lease = 0 then none else some (s.tick + 25000 * lease) } := by
  obtain ⟨hw, hfld, hpower⟩ := applyGrant_shows s w lease hsrc
  obtain ⟨hframe, kw, kfld⟩ := showCap_keeps (s.applyGrant w lease src)
  exact ⟨kw.trans hw, kfld.trans hfld, hframe.power.trans hpower⟩

theorem applyGrant_frame (s : State) (w lease src : Nat) : (s.applyGrant w lease src).out = s.out ∧ (s.applyGrant w lease src).cmds = s.cmds ∧
    (s.applyGrant w lease src).pending = s.pending ∧ (s.applyGrant w lease src).mem = s.mem := ⟨rfl, rfl, rfl, rfl⟩

/-- A grant over MCTP that is applied to this module. -/
def State.grantedBy (s : State) (b inst w lease : Nat) : State :=
  let t := (s.applyGrant w lease 1).showCap
  t.vendorReply b 0x10 inst St.ok (leBytes 4 t.grantW ++ [BitVec.ofNat 8 (b2n (t.bit Reg.pwrStatus 7))])

theorem doPowerGrant_member {s : State} {b inst w lease : Nat} (hserved : s.mctpServed b = true) (hrec : s.recovery = false)
    (hlease : lease ≤ 60000) (hmaster : s.isMaster = false) : doPowerGrant b inst w lease s = s.grantedBy b inst w lease := by
  rw [doPowerGrant, vendorCmd_runs hserved hrec, if_neg (Nat.not_lt.mpr hlease), if_neg (by rw [hmaster]; exact Bool.false_ne_true)]
  rfl

theorem doPowerGrant_master {s : State} {b inst w lease : Nat} (hserved : s.mctpServed b = true) (hrec : s.recovery = false)
    (hlease : lease ≤ 60000) (hmaster : s.isMaster = true) : doPowerGrant b inst w lease s =
      (s.groupGrant w).vendorReply b 0x10 inst St.ok
        (leBytes 4 (s.groupGrant w).grantW ++ [BitVec.ofNat 8 (b2n ((s.groupGrant w).bit Reg.pwrStatus 7))]) := by
  rw [doPowerGrant, vendorCmd_runs hserved hrec, if_neg (Nat.not_lt.mpr hlease), if_pos hmaster]

theorem vendorReply_frame (s : State) (b cmd inst cc : Nat) (body : List Byte) (q : List Instr) :
    ((s.vendorReply b cmd inst cc body).withQueue q).regs = s.regs ∧ ((s.vendorReply b cmd inst cc body).withQueue q).power = s.power ∧
    ((s.vendorReply b cmd inst cc body).withQueue q).cmds = s.cmds ∧
    ((s.vendorReply b cmd inst cc body).withQueue q).out.length = s.out.length + 1 := ⟨rfl, rfl, rfl, rfl⟩

theorem grantW_congr {s t : State} (h : t.regs = s.regs) : t.grantW = s.grantW :=
  congrArg (fun r => fld (SMap.get regDefault r Reg.pwrGrant) 15 0) h

theorem fld_of_regs {s t : State} (h : t.regs = s.regs) (a hi lo : Nat) : t.fld a hi lo = s.fld a hi lo :=
  congrArg (fun r => fld (SMap.get regDefault r a) hi lo) h

/-- The lapse of a grant (R503). -/
def State.lapsed (s : State) : State := s.event 0x0707 Src.module none (dataOf [(0, s.grantW), (4, s.inforce Key.grantDefault)])

theorem doGrantLapse_due {s : State} {t : Nat} (h : s.power.leaseEnd = some t) (hdue : t ≤ s.tick) :
    doGrantLapse s = ((s.lapsed.applyGrant (s.lapsed.inforce Key.grantDefault) 0 0).showCap) := by
  rw [doGrantLapse, h]
  exact if_neg (Nat.not_lt.mpr hdue)

theorem inforce_congr {s t : State} (hsets : t.sets = s.sets) (hfuses : t.fuses = s.fuses) (k : Nat) : t.inforce k = s.inforce k := by
  have hdefault : t.settingDefault = s.settingDefault := by
    funext k
    rw [State.settingDefault, State.setting?, hfuses, ← State.setting?, State.settingDefault]
  rw [State.inforce, hdefault, hsets, State.inforce]

theorem lapsed_keeps (s : State) : s.lapsed.clampGrant (s.lapsed.inforce Key.grantDefault) =
    max 500 (min (s.inforce Key.grantDefault) (powerLimit s.variant)) ∧ s.lapsed.power = s.power := by
  have hvariant : s.lapsed.variant = s.variant := State.fld_event _ _ _ _ _ _ _ (by decide) (by decide)
  have hinforce : s.lapsed.inforce Key.grantDefault = s.inforce Key.grantDefault :=
    inforce_congr (State.event_sets ..) (State.event_fuses ..) _
  rw [State.clampGrant, hvariant, hinforce]
  exact ⟨rfl, State.event_power ..⟩

/-! ### Redistribution -/

/-- A list written into a map from a place on reads there as the list. -/
theorem get_foldl_zipIdx (l : List Nat) (m : SMap Nat) (k j : Nat) :
    SMap.get (fun _ => 0) ((l.zipIdx k).foldl (fun m x => SMap.set (fun _ => 0) m x.2 x.1) m) j =
      if k ≤ j ∧ j < k + l.length then l.getD (j - k) 0 else SMap.get (fun _ => 0) m j := by
  induction l generalizing m k with
  | nil =>
    rw [if_neg (by rw [List.length_nil]; omega)]
    rfl
  | cons x xs ih =>
    rw [List.zipIdx_cons, List.foldl_cons, ih, SMap.get_set, List.length_cons]
    by_cases hj : j = k
    · subst hj
      rw [if_neg (by omega), if_pos rfl, if_pos (by omega), Nat.sub_self]
      rfl
    · rw [if_neg hj]
      by_cases hin : k + 1 ≤ j ∧ j < k + 1 + xs.length
      · rw [if_pos hin, if_pos (by omega)]
        obtain ⟨i, rfl⟩ := Nat.exists_eq_add_of_le hin.1
        rw [show k + 1 + i - k = i + 1 by omega, show k + 1 + i - (k + 1) = i by omega, List.getD_cons_succ]
      · rw [if_neg hin, if_neg (by omega)]

theorem scaleGrants_length (total : Nat) (gs : List Nat) : (scaleGrants total gs).length = gs.length := by
  unfold scaleGrants
  dsimp only
  split
  · rfl
  · simp

/-- What the giving of the new grants to the members leaves. -/
def GrantFrame (s t : State) : Prop := t.mem = s.mem ∧ t.pending = s.pending ∧ ∃ l, t.power = { s.power with leaseEnd := l }

theorem GrantFrame.trans {s t u : State} (h : GrantFrame s t) (k : GrantFrame t u) : GrantFrame s u := by
  obtain ⟨hmem, hpend, l, hpow⟩ := h
  obtain ⟨kmem, kpend, m, kpow⟩ := k
  exact ⟨kmem.trans hmem, kpend.trans hpend, m, by rw [kpow, hpow]⟩

theorem GrantFrame.refl (s : State) : GrantFrame s s := ⟨rfl, rfl, s.power.leaseEnd, rfl⟩

theorem GrantFrame.foldl {β : Type} (f : State → β → State) (h : ∀ s x, GrantFrame s (f s x)) (l : List β) (s : State) : GrantFrame s (l.foldl f s) := by
  induction l generalizing s with
  | nil => exact .refl s
  | cons x xs ih => exact (h s x).trans (ih _)

theorem Sent.grantFrame {s t : State} (h : Sent s t) : GrantFrame s t := ⟨h.mem, h.pending, s.power.leaseEnd, h.power⟩

theorem GrantFrame.grantShown (s : State) (w lease : Nat) {src : Nat} (hsrc : src < 8) : GrantFrame s ((s.applyGrant w lease src).showCap) := by
  obtain ⟨hframe, -⟩ := showCap_keeps (s.applyGrant w lease src)
  obtain ⟨-, -, hpend, hmem⟩ := applyGrant_frame s w lease src
  exact ⟨((congrArg State.mem hframe).trans rfl).trans hmem, ((congrArg State.pending hframe).trans rfl).trans hpend, _, (grantShown_shows s w lease hsrc).2.2⟩

/-- A member's slack, where it is fresh (R505). -/
def State.freshSlack (s : State) (m : Nat) : Option Nat := match SMap.get (fun _ => none) s.power.slackRep m with
  | some (v, t) => if s.tick ≤ t + 750000 then some v else none
  | none => none

/-- The members' new grants (R506). -/
def State.newGrants (s : State) (total : Nat) (ms : List Nat) : List Nat :=
  let gs := scaleGrants total (ms.map (SMap.get (fun _ => 0) s.power.memberGrant))
  let live := ms.filter (fun m => (s.freshSlack m).isSome)
  if live.length < 2 then gs
  else
    let shifted := shiftGrants (powerLimit s.variant) (live.map (fun m => (gs.getD m 0, (s.freshSlack m).getD 0)))
    ms.map (fun m => match live.findIdx? (· == m) with
      | some i => shifted.getD i 0
      | none => gs.getD m 0)

theorem newGrants_scaled {s : State} {total : Nat} {ms : List Nat} (h : ∀ m ∈ ms, SMap.get (fun _ => none) s.power.slackRep m = none) :
    s.newGrants total ms = scaleGrants total (ms.map (SMap.get (fun _ => 0) s.power.memberGrant)) := by
  have hlive : ms.filter (fun m => (s.freshSlack m).isSome) = [] := by
    refine List.filter_eq_nil_iff.mpr fun m hm => ?_
    rw [State.freshSlack, h m hm]
    exact Bool.false_ne_true
  unfold State.newGrants
  dsimp only
  rw [hlive]
  rfl

/-- The new grants noted, with their serial. -/
def State.grantsNoted (s : State) (new : List Nat) : State :=
  { s with power := { s.power with
      grantSerial := (s.power.grantSerial + 1) % 2 ^ 32
      memberGrant := new.zipIdx.foldl (fun m x => SMap.set (fun _ => 0) m x.2 x.1) s.power.memberGrant } }

/-- The new grants given to the members. -/
def State.grantsGiven (s : State) (g : CascadeRec) (new : List Nat) (serial : Nat) (ms : List Nat) : State :=
  ms.foldl (fun (s : State) m =>
    if m = s.fld Reg.imgMember 3 0 then (s.applyGrant (new.getD m 0) 0 3).showCap
    else s.sendSeq (g.devices.getD m 0) 0x60 0 0 (beBytes 4 (new.getD m 0) ++ beBytes 4 serial ++ beBytes 2 1000 ++ [0]) [] none) s

theorem grantsGiven_frame (s : State) (g : CascadeRec) (new : List Nat) (serial : Nat) (ms : List Nat) :
    GrantFrame s (s.grantsGiven g new serial ms) := by
  refine .foldl _ (fun s m => ?_) ms s
  split
  · exact .grantShown s _ _ (by decide)
  · exact (sendSeq_sent s _ _ _ _ _ _ _).grantFrame

theorem doGrantRedistribution_gives {s : State} {g : CascadeRec} {total : Nat} (hg : s.group? = some g) (ht : s.power.groupGrant = some total)
    (hm : s.isMaster = true) : doGrantRedistribution s =
      (s.grantsNoted (s.newGrants total (List.range g.members))).grantsGiven g (s.newGrants total (List.range g.members))
        ((s.power.grantSerial + 1) % 2 ^ 32) (List.range g.members) := by
  rw [doGrantRedistribution, hg, ht]
  exact if_neg (by simp [hm])

theorem doGrantRedistribution_idle {s : State} (h : s.group? = none ∨ s.power.groupGrant = none ∨ s.isMaster = false) : doGrantRedistribution s = s := by
  unfold doGrantRedistribution
  split
  next g total hg ht =>
    refine if_pos ?_
    rcases h with h | h | h
    · rw [h] at hg
      cases hg
    · rw [h] at ht
      cases ht
    · simp [h]
  · rfl

theorem newGrants_length_scaled (s : State) (total : Nat) (ms : List Nat) :
    (scaleGrants total (ms.map (SMap.get (fun _ => 0) s.power.memberGrant))).length = ms.length := by
  rw [scaleGrants_length, List.length_map]

/-! ### The heat meter -/

/-- The window's heat and input added (R512). -/
def State.heatAdded (s : State) : State :=
  let num := s.heatNum
  let h := num / 28800000
  let e := s.power.eHeat + num
  let s := s.setNat Reg.pwrHeatW (if 0 ≤ h && decide (h < 65536) then h.toNat else Config.freeNat s.freeCtr % 65536)
  let s := (s.fresh).addCnt Reg.pwrEHeat (unsigned 64 (e / 2880000))
  { s with power := { s.power with
    eHeat := e % 2880000, heatSum := s.power.heatSum + num, inSum := s.power.inSum + s.power.avg, sums := s.power.sums + 1 } }

theorem heatAdded_adds (s : State) : s.heatAdded.power.sums = s.power.sums + 1 ∧ s.heatAdded.power.heatSum = s.power.heatSum + s.heatNum ∧
    s.heatAdded.power.inSum = s.power.inSum + s.power.avg ∧ s.heatAdded.cmds = s.cmds := ⟨rfl, rfl, rfl, rfl⟩

theorem doHeatMeterUpdate_eq (s : State) :
    doHeatMeterUpdate s = { s.heatAdded with power := { s.heatAdded.power with report := s.heatAdded.heatReport } } := rfl

theorem heatReport_ne_nil (s : State) : s.heatReport ≠ [] := by
  have htick : leBytes 8 s.tick ≠ [] := fun h => absurd (congrArg List.length h) (by simp [leBytes])
  exact List.append_ne_nil_of_right_ne_nil _ htick

theorem reportKept_shows (s : State) (r : List Byte) (q : List Instr) :
    let t := ({ s with power := { s.power with report := r } } : State).withQueue q
    t.power.sums = s.power.sums ∧ t.power.heatSum = s.power.heatSum ∧ t.power.inSum = s.power.inSum ∧ t.power.report = r ∧ t.cmds = s.cmds :=
  ⟨rfl, rfl, rfl, rfl, rfl⟩

/-- The minute's sums start again (R513). -/
def State.minuteOver (s : State) : State := { s with power := { s.power with heatSum := 0, inSum := 0, sums := 0 } }

theorem doHeatMismatch_judges {s : State} (h : 6000 ≤ s.power.sums) :
    (doHeatMismatch s).power = s.minuteOver.power ∧ (doHeatMismatch s).cnts = s.cnts := by
  unfold doHeatMismatch
  dsimp only
  rw [if_neg (Nat.not_lt.mpr h)]
  split
  · exact ⟨(State.event_power ..).trans rfl, (State.event_cnts ..).trans rfl⟩
  · exact ⟨rfl, rfl⟩

/-! ### Slack -/

/-- A window of slack, numbered and shown (R505). -/
def State.slackShown (s : State) (slack : Nat) : State :=
  { s.setNat Reg.pwrSlack slack with power := { s.power with window := (s.power.window + 1) % 2 ^ 32 } }

theorem slackShown_keeps (s : State) (slack : Nat) : (s.slackShown slack).group? = s.group? ∧ (s.slackShown slack).inGroup = s.inGroup ∧
    (s.slackShown slack).isMaster = s.isMaster ∧ (s.slackShown slack).fld Reg.imgMember 3 0 = s.fld Reg.imgMember 3 0 ∧
    (s.slackShown slack).fld Reg.pwrInW 15 0 = s.fld Reg.pwrInW 15 0 ∧ (s.slackShown slack).grantW = s.grantW := by
  have hreg : ∀ a, a ≠ Reg.pwrSlack → (s.slackShown slack).reg a = s.reg a := fun a h => State.reg_setNat_ne s slack h
  refine ⟨rfl, ?_, ?_, ?_, ?_, ?_⟩
  · rw [State.inGroup, State.bit, hreg _ (by decide), ← State.bit, State.inGroup]
  · rw [State.isMaster, State.bit, hreg _ (by decide), ← State.bit, State.isMaster]
  · rw [State.fld, hreg _ (by decide), State.fld]
  · rw [State.fld, hreg _ (by decide), State.fld]
  · rw [State.grantW, State.fld, hreg _ (by decide), State.grantW, State.fld]

/-- The end of a slack window: nothing more outside a group; on a master its own slack is kept, and a member sends it (R505). -/
theorem doSlackWindowEnd_eq (s : State) (slack : Nat) : doSlackWindowEnd slack s =
    match s.group? with
    | some g =>
      if !s.inGroup then s.slackShown slack
      else if s.isMaster then (s.slackShown slack).setSlack (s.fld Reg.imgMember 3 0) slack
      else (s.slackShown slack).sendSeq (g.devices.getD g.master 0) 0x61 0 0
        (beBytes 2 slack ++ [0, 0] ++ beBytes 4 s.power.window ++ beBytes 4 (s.fld Reg.pwrInW 15 0) ++ beBytes 4 s.grantW) [] none
    | none => s.slackShown slack := by
  obtain ⟨hgroup, hin, hmaster, hmember, hinw, hgrant⟩ := slackShown_keeps s slack
  have hrow : doSlackWindowEnd slack s = match (s.slackShown slack).group? with
    | some g =>
      if !(s.slackShown slack).inGroup then s.slackShown slack
      else if (s.slackShown slack).isMaster then (s.slackShown slack).setSlack ((s.slackShown slack).fld Reg.imgMember 3 0) slack
      else (s.slackShown slack).sendSeq (g.devices.getD g.master 0) 0x61 0 0
        (beBytes 2 slack ++ [0, 0] ++ beBytes 4 s.power.window ++ beBytes 4 ((s.slackShown slack).fld Reg.pwrInW 15 0) ++
          beBytes 4 (s.slackShown slack).grantW) [] none
    | none => s.slackShown slack := rfl
  rw [hrow, hgroup, hin, hmaster, hmember, hinw, hgrant]

end Sys2Proof.Machine

namespace Sys2Proof.Proofs
open Sys2Proof.Machine

/-- Settles O52: each row in its branch; a grant as `applyGrant_shows` says, and the new grants as the scaled ones where no slack is known. -/
theorem grantsAndHeat : Obligations.GrantsAndHeat := by
  unfold Obligations.GrantsAndHeat
  refine fun s => ⟨fun b inst w lease hb hw hl hserved => ⟨fun hrec => ?_, fun hrec hlease => ?_, fun hrec hlease hmem => ⟨?_, ?_⟩, fun hrec hlease hmaster => ?_⟩,
    fun t ht => ⟨fun hdue => ⟨?_, ?_⟩, fun hearly => ?_⟩, fun hnone => ?_, fun slack hs => ⟨fun hno => ?_, fun g hg hin hmaster => ?_, fun g hg hin hmaster => ?_⟩,
    fun hno => ?_, fun g total hg ht hmaster => ?_, ?_, fun hn => ?_, fun hn => ?_⟩
  · exact becomes_of (exec_powerGrant b inst w lease s) (decide_eq_true ⟨hb, hw, hl⟩) (vendorCmd_recovery hserved hrec _ _ _)
  · refine becomes_of (exec_powerGrant b inst w lease s) (decide_eq_true ⟨hb, hw, hl⟩) ((vendorCmd_runs hserved hrec _ _ _ _).trans ?_)
    exact if_pos hlease
  · exact becomes_of (exec_powerGrant b inst w lease s) (decide_eq_true ⟨hb, hw, hl⟩) (doPowerGrant_member hserved hrec hlease hmem)
  · refine completes_of (exec_powerGrant b inst w lease s) (decide_eq_true ⟨hb, hw, hl⟩) ?_
    rw [doPowerGrant_member hserved hrec hlease hmem]
    obtain ⟨hgrant, hsrc, hpower⟩ := grantShown_shows s w lease (show 1 < 8 by decide)
    obtain ⟨hregs, kpower, hcmds, hout⟩ := vendorReply_frame ((s.applyGrant w lease 1).showCap) b 0x10 inst St.ok
      (leBytes 4 ((s.applyGrant w lease 1).showCap).grantW ++ [BitVec.ofNat 8 (b2n (((s.applyGrant w lease 1).showCap).bit Reg.pwrStatus 7))]) s.pending
    have hframe := (showCap_keeps (s.applyGrant w lease 1)).1
    refine ⟨(grantW_congr hregs).trans hgrant, (fld_of_regs hregs _ _ _).trans hsrc, ?_, ?_, ?_⟩
    · rw [State.grantedBy, kpower, hpower]
    · exact hout.trans (congrArg (fun l : List Out => l.length + 1) ((congrArg State.out hframe).trans rfl))
    · exact hcmds.trans ((congrArg State.cmds hframe).trans rfl)
  · refine completes_of (exec_powerGrant b inst w lease s) (decide_eq_true ⟨hb, hw, hl⟩) ?_
    rw [doPowerGrant_master hserved hrec hlease hmaster]
    obtain ⟨hregs, kpower, -, hout⟩ := vendorReply_frame (s.groupGrant w) b 0x10 inst St.ok
        (leBytes 4 (s.groupGrant w).grantW ++ [BitVec.ofNat 8 (b2n ((s.groupGrant w).bit Reg.pwrStatus 7))]) s.pending
    exact ⟨kpower, grantW_congr hregs, hout⟩
  · exact becomes_of (exec_grantLapse s) rfl (doGrantLapse_due ht hdue)
  · refine completes_of (exec_grantLapse s) rfl ?_
    rw [doGrantLapse_due ht hdue]
    obtain ⟨hgrant, hsrc, hpower⟩ := grantShown_shows s.lapsed (s.lapsed.inforce Key.grantDefault) 0 (show 0 < 8 by decide)
    obtain ⟨hclamp, -⟩ := lapsed_keeps s
    refine ⟨?_, hsrc, hgrant.trans hclamp⟩
    rw [State.withQueue_power, hpower]
    rfl
  · refine becomes_of (exec_grantLapse s) rfl ?_
    rw [doGrantLapse, ht]
    exact if_pos hearly
  · exact becomes_of (exec_grantLapse s) rfl (by rw [doGrantLapse, hnone])
  · refine becomes_of (exec_slackWindowEnd slack s) (decide_eq_true hs) ((doSlackWindowEnd_eq s slack).trans ?_)
    rcases hno with h | h
    · rw [h]
      rfl
    · rw [h]
      cases s.group? <;> rfl
  · refine becomes_of (exec_slackWindowEnd slack s) (decide_eq_true hs) ((doSlackWindowEnd_eq s slack).trans ?_)
    rw [hg, hin, hmaster]
    rfl
  · refine becomes_of (exec_slackWindowEnd slack s) (decide_eq_true hs) ((doSlackWindowEnd_eq s slack).trans ?_)
    rw [hg, hin, hmaster]
    rfl
  · exact becomes_of (exec_grantRedistribution s) rfl (doGrantRedistribution_idle hno)
  · refine completes_of (exec_grantRedistribution s) rfl ?_
    rw [doGrantRedistribution_gives hg ht hmaster]
    obtain ⟨hmem, -, l, hpower⟩ := grantsGiven_frame (s.grantsNoted (s.newGrants total (List.range g.members))) g (s.newGrants total (List.range g.members))
      ((s.power.grantSerial + 1) % 2 ^ 32) (List.range g.members)
    rw [State.withQueue_power, State.withQueue_mem, hpower, hmem]
    refine ⟨rfl, ht, rfl, fun hslack m hm => ?_⟩
    rw [newGrants_scaled fun m hm => hslack m (List.mem_range.mp hm)]
    refine (get_foldl_zipIdx _ _ 0 m).trans (if_pos ⟨Nat.zero_le _, ?_⟩)
    rw [newGrants_length_scaled, List.length_range]
    omega
  · refine completes_of (exec_heatMeterUpdate s) rfl ?_
    rw [doHeatMeterUpdate_eq]
    obtain ⟨hsums, hheat, hin, hcmds⟩ := heatAdded_adds s
    obtain ⟨ksums, kheat, kin, kreport, kcmds⟩ := reportKept_shows s.heatAdded s.heatAdded.heatReport s.pending
    exact ⟨ksums.trans hsums, kheat.trans hheat, kin.trans hin, fun h => heatReport_ne_nil _ (kreport.symm.trans h), kcmds.trans hcmds⟩
  · exact becomes_of (exec_heatMismatch s) rfl (if_pos hn)
  · refine completes_of (exec_heatMismatch s) rfl ?_
    obtain ⟨hpower, hcnts⟩ := doHeatMismatch_judges hn
    rw [State.withQueue_power, hpower, State.withQueue_cnts]
    exact ⟨rfl, rfl, rfl, hcnts⟩

end Sys2Proof.Proofs
end

section
/-! PROOF. Thermal control (R522–R531) and what stopping the cores leaves. -/
namespace Sys2Proof.Machine

/-! ### What stopping the cores leaves -/

/-- What the stop of cores and clocks may change. -/
def HaltFrame (s t : State) : Prop :=
  t = { s with freeCtr := t.freeCtr, cnts := t.cnts, cmds := t.cmds, cores := t.cores, clocks := t.clocks, power := t.power, resets := t.resets,
               fab := t.fab }

theorem HaltFrame.refl (s : State) : HaltFrame s s := rfl

theorem HaltFrame.trans {s t u : State} (h : HaltFrame s t) (k : HaltFrame t u) : HaltFrame s u := by
  unfold HaltFrame at *
  rw [k]; simp only; rw [h]

theorem HaltFrame.foldl {β : Type} (f : State → β → State) (h : ∀ s x, HaltFrame s (f s x)) (l : List β) (s : State) :
    HaltFrame s (l.foldl f s) := by
  induction l generalizing s with
  | nil => exact .refl s
  | cons x xs ih => exact (h s x).trans (ih _)

theorem HaltFrame.ite {s t u : State} {c : Prop} [Decidable c] (ht : HaltFrame s t) (hu : HaltFrame s u) : HaltFrame s (if c then t else u) := by
  split
  · exact ht
  · exact hu

theorem HaltFrame.updCmd (s : State) (id : Nat) (f : Cmd → Cmd) : HaltFrame s (s.updCmd id f) := rfl
theorem HaltFrame.setCore (s : State) (n : Nat) (k : CoreState) : HaltFrame s (s.setCore n k) := rfl
theorem HaltFrame.addCnt (s : State) (a n : Nat) : HaltFrame s (s.addCnt a n) := rfl
theorem HaltFrame.setHalf (s : State) (h : Nat) (p : PllSt) : HaltFrame s (s.setHalf h p) := rfl

theorem HaltFrame.stopped (s : State) (p : Power) (c : Clocks) : HaltFrame s { s with power := p, clocks := c } := rfl

theorem SeamFrame.haltFrame {s t : State} (h : SeamFrame s t) : HaltFrame s t := by
  unfold SeamFrame at h
  unfold HaltFrame
  rw [h]

theorem HaltFrame.abandonCore (s : State) (n : Nat) : HaltFrame s (s.abandonCore n) := by
  have hsets : ∀ (g : State → AccSet → Cmd → Cmd) (l : List AccSet) (t : State),
      HaltFrame t (l.foldl (fun (t : State) a => if a.retry then t else t.updCmd a.cmd (g t a)) t) := fun g l t =>
    .foldl _ (fun t a => .ite (.refl t) (.updCmd t _ _)) l t
  unfold State.abandonCore
  dsimp only
  refine HaltFrame.trans (HaltFrame.trans ?_ (.addCnt _ _ _)) (.setCore _ _ _)
  split
  · exact ((hsets _ _ s).trans (.updCmd _ _ _)).trans (spanEnd_frame _ _).haltFrame
  · exact hsets _ _ s

theorem HaltFrame.settleFill (s : State) (n : Nat) : HaltFrame s (s.settleFill n) := by
  unfold State.settleFill
  exact (HaltFrame.ite (.refl s) (.addCnt s _ _)).trans (.setCore _ _ _)

theorem HaltFrame.clocksStop (s : State) : HaltFrame s s.clocksStop := by
  unfold State.clocksStop
  refine ((HaltFrame.foldl _ HaltFrame.settleFill (List.range 256) s).trans
    (.foldl (fun (s : State) h => if s.half h = .asleep then s else s.setHalf h .asleep) (fun s h => .ite (.refl s) (.setHalf s h _)) (List.range 8) _)).trans ?_
  exact .stopped _ _ _

theorem HaltFrame.abandonTests (s : State) : HaltFrame s s.abandonTests := rfl

theorem HaltFrame.regs {s t : State} (h : HaltFrame s t) : t.regs = s.regs := (congrArg State.regs h).trans rfl
theorem HaltFrame.thermal {s t : State} (h : HaltFrame s t) : t.thermal = s.thermal := (congrArg State.thermal h).trans rfl
theorem HaltFrame.image {s t : State} (h : HaltFrame s t) : t.image = s.image := (congrArg State.image h).trans rfl
theorem HaltFrame.sets {s t : State} (h : HaltFrame s t) : t.sets = s.sets := (congrArg State.sets h).trans rfl
theorem HaltFrame.mem {s t : State} (h : HaltFrame s t) : t.mem = s.mem := (congrArg State.mem h).trans rfl

/-- What every step of a fold over a list leaves alone, the fold leaves alone. -/
theorem foldl_keeps_mem {α β γ : Type} (p : α → γ) {f : α → β → α} (l : List β) (h : ∀ a, ∀ x ∈ l, p (f a x) = p a) (a : α) : p (l.foldl f a) = p a := by
  induction l generalizing a with
  | nil => rfl
  | cons x xs ih =>
    rw [List.foldl_cons, ih fun a y hy => h a y (List.mem_cons_of_mem _ hy), h a x List.mem_cons_self]

/-! ### A sample of the sensors -/

/-- A reading of a core's sensors. -/
def SensorReg (a : Nat) : Prop := ∃ n, n < 256 ∧ a = Reg.thmCoreT n

/-- A register's value, BD's readings, the image and the settings. -/
def State.thermPart (a : Nat) (s : State) : Word × List Nat × Option Image × Settings := (s.reg a, s.thermal.bd, s.image, s.sets)

theorem HaltFrame.thermPart {s t : State} (h : HaltFrame s t) (a : Nat) : t.thermPart a = s.thermPart a := (congrArg (State.thermPart a) h).trans rfl

theorem thermPart_setReg (s : State) {a b : Nat} (v : Word) (h : a ≠ b) : (s.setReg b v).thermPart a = s.thermPart a := by
  rw [State.thermPart, State.reg_setReg_ne _ _ h]
  rfl

theorem thermPart_setFld (s : State) {a b : Nat} (hi lo v : Nat) (h : a ≠ b) : (s.setFld b hi lo v).thermPart a = s.thermPart a :=
  thermPart_setReg s _ h

theorem thermPart_setBit (s : State) {a b : Nat} (i : Nat) (x : Bool) (h : a ≠ b) : (s.setBit b i x).thermPart a = s.thermPart a :=
  thermPart_setReg s _ h

theorem thermPart_event (s : State) {a : Nat} (code : Nat) (src : Nat × Nat) (k : Option Nat) (data : Nat) (h1 : a ≠ Reg.almLost)
    (h2 : a ≠ Reg.almStatus) : (s.event code src k data).thermPart a = s.thermPart a := by
  rw [State.thermPart, State.reg_event _ _ _ _ _ _ h1 h2, State.event_thermal, State.event_image, State.event_sets]
  rfl

theorem thermPart_alert (s : State) (a : Nat) (c : Alert) : (s.alert c).thermPart a = s.thermPart a := by
  unfold State.alert
  split <;> rfl

theorem thermPart_addCnt (s : State) (a b n : Nat) : (s.addCnt b n).thermPart a = s.thermPart a := rfl

theorem thermPart_asked (s : State) (a : Nat) (r : Resets) (p : Pins) : State.thermPart a { s.fresh with resets := r, pins := p } = s.thermPart a := rfl

theorem thermPart_tripped (s : State) (a : Nat) (n : Nvm) (p : Pins) : State.thermPart a { s with nvm := n, pins := p } = s.thermPart a := rfl

section Sample
variable {a : Nat} (ha : SensorReg a)
include ha

theorem SensorReg.ne_thmCore (n : Nat) : a ≠ Reg.thmCore n := by
  obtain ⟨k, hk, rfl⟩ := ha
  show 0x110100 + 0x8 * k ≠ 0x110104 + 0x8 * n
  omega

theorem SensorReg.ne_of_lt {b : Nat} (h : b < 0x110100 ∨ 0x110900 ≤ b) : a ≠ b := by
  obtain ⟨k, hk, rfl⟩ := ha
  show 0x110100 + 0x8 * k ≠ b
  omega

theorem SensorReg.ne_thmLayer {l : Nat} (h : l < 13) : a ≠ Reg.thmLayer l :=
  ha.ne_of_lt (.inl (by show 0x110040 + 0x4 * l < 0x110100; omega))

theorem SensorReg.ne_thmHalf {h : Nat} (hh : h < 8) : a ≠ Reg.thmHalf h :=
  ha.ne_of_lt (.inl (by show 0x110080 + 0x4 * h < 0x110100; omega))

theorem SensorReg.ne_memColStatus (c : Nat) : a ≠ Reg.memColStatus c :=
  ha.ne_of_lt (.inr (by show 0x110900 ≤ 0x200000 + 0x400 * c; omega))

theorem SensorReg.ne_thmMemSensor (i j : Nat) : a ≠ Reg.thmMemSensor i j :=
  ha.ne_of_lt (.inr (by show 0x110900 ≤ 0x110900 + 0x40 * i + 0x4 * j; omega))

theorem SensorReg.event (s : State) (code : Nat) (src : Nat × Nat) (k : Option Nat) (data : Nat) :
    (s.event code src k data).thermPart a = s.thermPart a :=
  thermPart_event s code src k data (ha.ne_of_lt (.inr (by decide))) (ha.ne_of_lt (.inr (by decide)))

theorem showTemps_thermPart (s : State) : s.showTemps.thermPart a = s.thermPart a := by
  unfold State.showTemps
  refine (foldl_keeps_mem (State.thermPart a) (List.range 13) (fun s l hl => ?_) _).trans
    (foldl_keeps (State.thermPart a) (fun s n => thermPart_setFld s _ _ _ (ha.ne_thmCore n)) (List.range 256) s)
  exact thermPart_setFld s _ _ _ (ha.ne_thmLayer (List.mem_range.mp hl))

/-- The halves' counts of hot cores shown. -/
theorem showHalves_thermPart (f : State → Nat → Nat) (g : State → Nat → Bool) (s : State) :
    ((List.range 8).foldl (fun (s : State) h => (s.setFld (Reg.thmHalf h) 13 8 (f s h)).setBit (Reg.thmHalf h) 16 (g s h)) s).thermPart a =
      s.thermPart a :=
  foldl_keeps_mem (State.thermPart a) (List.range 8) (fun s _ hh =>
    (thermPart_setBit _ _ _ (ha.ne_thmHalf (List.mem_range.mp hh))).trans (thermPart_setFld s _ _ _ (ha.ne_thmHalf (List.mem_range.mp hh)))) s

theorem fastRefresh_thermPart (s : State) (ml : Nat) : (s.fastRefresh ml).thermPart a = s.thermPart a := by
  unfold State.fastRefresh
  exact ite_keeps (State.thermPart a) rfl
    (foldl_keeps (State.thermPart a) (fun s c => thermPart_setBit s _ _ (ha.ne_memColStatus _)) (List.range 64) s)

omit ha in
theorem bdDutyStep_thermPart (s : State) : s.bdDutyStep.thermPart a = s.thermPart a := by
  unfold State.bdDutyStep
  dsimp only
  exact ite_keeps (State.thermPart a) (ite_keeps (State.thermPart a) rfl rfl)
    (ite_keeps (State.thermPart a) (ite_keeps (State.thermPart a) rfl rfl) rfl)

theorem restartBreak_thermPart (s : State) : s.restartBreak.thermPart a = s.thermPart a := by
  unfold State.restartBreak
  exact ite_keeps (State.thermPart a) ((thermPart_setBit _ _ _ (ha.ne_of_lt (.inr (by decide)))).trans rfl) rfl

omit ha in
theorem sendPowerCycle_thermPart (s : State) (code tick : Nat) : (s.sendPowerCycle code tick).thermPart a = s.thermPart a := by
  unfold State.sendPowerCycle
  exact ite_keeps (State.thermPart a) rfl rfl

theorem requestPowerCycle_thermPart (s : State) (code : Option Nat) : (s.requestPowerCycle code).thermPart a = s.thermPart a := by
  unfold State.requestPowerCycle
  refine ite_keeps (State.thermPart a) rfl ?_
  refine (sendPowerCycle_thermPart _ _ _).trans ((ha.event _ _ _ _ _).trans ((thermPart_alert _ _ _).trans ?_))
  exact (thermPart_asked s.clocksStop a _ _).trans
    ((HaltFrame.clocksStop s).thermPart a)

theorem trip_thermPart (s : State) (l t core : Nat) : (s.trip l t core).thermPart a = s.thermPart a := by
  unfold State.trip
  refine ite_keeps (State.thermPart a) rfl ?_
  refine (requestPowerCycle_thermPart ha _ _).trans ((ha.event _ _ _ _ _).trans ((thermPart_alert _ _ _).trans ?_))
  refine (thermPart_setFld _ _ _ _ (ha.ne_of_lt (.inr (by decide)))).trans ((thermPart_setBit _ _ _ (ha.ne_of_lt (.inl (by decide)))).trans
    ((thermPart_setBit _ _ _ (ha.ne_of_lt (.inl (by decide)))).trans ?_))
  exact (thermPart_tripped s.clocksStop a _ _).trans
    ((HaltFrame.clocksStop s).thermPart a)

theorem checkTrips_thermPart (s : State) : s.checkTrips.thermPart a = s.thermPart a := by
  unfold State.checkTrips
  dsimp only
  split
  · exact trip_thermPart ha s _ _ _
  · split
    · exact trip_thermPart ha s _ _ _
    · rfl

theorem setDisagree_thermPart (s : State) (n : Nat) (d : Disagree) : (s.setDisagree n d).thermPart a = s.thermPart a :=
  (show (s.setDisagree n d).thermPart a = (s.setFld (Reg.thmCore n) 31 24 (min 255 d.ticks.length)).thermPart a from rfl).trans
    (thermPart_setFld s _ _ _ (ha.ne_thmCore n))

theorem markSensor_thermPart (s : State) (n : Nat) : (s.markSensor n).thermPart a = s.thermPart a := by
  unfold State.markSensor
  refine (ha.event _ _ _ _ _).trans ((thermPart_setBit _ _ _ (ha.ne_of_lt (.inl (by decide)))).trans ((thermPart_setBit _ _ _ (ha.ne_thmCore n)).trans rfl))

theorem compareSensors_thermPart (s : State) (n : Nat) : (s.compareSensors n).thermPart a = s.thermPart a := by
  unfold State.compareSensors
  have hcount : ∀ data, (((s.setBit Reg.thmEvent 0 true).addCnt Reg.thmCntDisagree 1).event 0x0801 (Src.core n) none data).thermPart a = s.thermPart a :=
    fun data => (ha.event _ _ _ _ _).trans ((show (State.addCnt _ _ _).thermPart a = (s.setBit Reg.thmEvent 0 true).thermPart a from rfl).trans
      (thermPart_setBit s _ _ (ha.ne_of_lt (.inl (by decide)))))
  refine ite_keeps (State.thermPart a) (ite_keeps (State.thermPart a) rfl (setDisagree_thermPart ha s n _)) ?_
  refine ite_keeps (State.thermPart a) (ite_keeps (State.thermPart a) ?_ ?_) (setDisagree_thermPart ha s n _)
  · exact (setDisagree_thermPart ha _ n _).trans ((markSensor_thermPart ha _ n).trans (hcount _))
  · exact (setDisagree_thermPart ha _ n _).trans (hcount _)

theorem memReadings_thermPart (l : List (Nat × Nat)) (s : State) :
    (l.foldl (fun (s : State) x => if x.1 < 128 then s.setNat (Reg.thmMemSensor (x.1 / 16) (x.1 % 16)) (min 4095 x.2) else s) s).thermPart a =
      s.thermPart a :=
  foldl_keeps (State.thermPart a) (fun s _ => ite_keeps (State.thermPart a) (thermPart_setReg s _ (ha.ne_thmMemSensor _ _)) rfl) l s

end Sample

/-- The cores' readings of a sample. -/
def State.coresRead (s : State) (r : ThermReading) : State :=
  (r.cores.zipIdx.take 256).foldl (fun (s : State) x =>
    s.setReg (Reg.thmCoreT x.1.1) (BitVec.ofNat 32 (min 4095 x.1.2.1 + 2 ^ 16 * min 4095 x.1.2.2))) s

/-- All readings of a sample. -/
def State.readIn (s : State) (r : ThermReading) : State :=
  let s := r.mem.foldl (fun (s : State) x => if x.1 < 128 then s.setNat (Reg.thmMemSensor (x.1 / 16) (x.1 % 16)) (min 4095 x.2) else s) (s.coresRead r)
  { s with thermal := { s.thermal with bd := r.bd.take 8 } }

theorem doThermalSample_thermPart {a : Nat} (ha : SensorReg a) (s : State) (r : ThermReading) :
    (doThermalSample r s).thermPart a = (s.readIn r).thermPart a := by
  unfold doThermalSample
  extract_lets s1 s2 th s3 s4 s5 slow s6
  have h4 : s4.thermPart a = s3.thermPart a := showTemps_thermPart ha s3
  have h5 : s5.thermPart a = s4.thermPart a := showHalves_thermPart ha _ _ s4
  have h6 : s6.thermPart a = s5.thermPart a := by
    have hfast := foldl_keeps (State.thermPart a) (fastRefresh_thermPart ha) (List.range 8) s5
    rw [show s6 = ((((List.range 8).foldl State.fastRefresh s5).addCnt Reg.thmCntThrottle (20 * slow)).bdDutyStep).restartBreak.checkTrips from rfl,
      checkTrips_thermPart ha, restartBreak_thermPart ha, bdDutyStep_thermPart, thermPart_addCnt, hfast]
  have h3 : s3 = s.readIn r := rfl
  have hall := ((h6.trans h5).trans h4).trans (congrArg (State.thermPart a) h3)
  clear_value s6
  exact (foldl_keeps (State.thermPart a) (fun (s : State) (x : Nat × Nat × Nat) => compareSensors_thermPart ha s x.1) _ s6).trans hall

theorem readIn_reads (s : State) (r : ThermReading) : (s.readIn r).thermal.bd = r.bd.take 8 ∧ (s.readIn r).image = s.image ∧ (s.readIn r).sets = s.sets := by
  have hcores : ∀ (l : List ((Nat × Nat × Nat) × Nat)) (t : State), RegsOnly t (l.foldl (fun (t : State) x =>
      t.setReg (Reg.thmCoreT x.1.1) (BitVec.ofNat 32 (min 4095 x.1.2.1 + 2 ^ 16 * min 4095 x.1.2.2))) t) := fun l t =>
    .foldl _ (fun t x => (RegsOnly.refl t).setReg _ _) l t
  have hmem : ∀ (l : List (Nat × Nat)) (t : State), RegsOnly t (l.foldl (fun (t : State) x =>
      if x.1 < 128 then t.setNat (Reg.thmMemSensor (x.1 / 16) (x.1 % 16)) (min 4095 x.2) else t) t) := fun l t =>
    .foldl _ (fun t x => by
      split
      · exact (RegsOnly.refl t).setNat _ _
      · exact .refl t) l t
  have hall := (hcores (r.cores.zipIdx.take 256) s).trans (hmem r.mem _)
  exact ⟨rfl, (congrArg State.image hall).trans rfl, (congrArg State.sets hall).trans rfl⟩

/-- The two temperatures of a core's reading. -/
theorem coreReading_fields {d q : Nat} : fld (BitVec.ofNat 32 (min 4095 d + 2 ^ 16 * min 4095 q)) 11 0 = min 4095 d ∧
    fld (BitVec.ofNat 32 (min 4095 d + 2 ^ 16 * min 4095 q)) 27 16 = min 4095 q := by
  have hnat : (BitVec.ofNat 32 (min 4095 d + 2 ^ 16 * min 4095 q)).toNat = min 4095 d + 65536 * min 4095 q := by
    rw [BitVec.toNat_ofNat]
    exact Nat.mod_eq_of_lt (by omega)
  unfold fld bits
  rw [hnat, Nat.shiftRight_eq_div_pow, Nat.shiftRight_eq_div_pow]
  exact ⟨by omega, by omega⟩

/-! ### Steps of a core, of a half and of a memory layer -/

theorem fld_bumpFld_same (s : State) (a hi lo n : Nat) (h1 : lo ≤ hi) (h2 : hi < 32) :
    (s.bumpFld a hi lo n).fld a hi lo = min (s.fld a hi lo + n) (2 ^ (hi + 1 - lo) - 1) := by
  have hpos : 0 < 2 ^ (hi + 1 - lo) := Nat.pow_pos (by decide)
  rw [State.bumpFld, State.fld_setFld_same _ _ _ _ _ h1 h2]
  exact Nat.mod_eq_of_lt (by omega)

/-- What the warnings of commands leave. -/
def CmdsOnly (s t : State) : Prop := t = { s with cmds := t.cmds }

theorem CmdsOnly.refl (s : State) : CmdsOnly s s := rfl

theorem CmdsOnly.trans {s t u : State} (h : CmdsOnly s t) (k : CmdsOnly t u) : CmdsOnly s u := by
  unfold CmdsOnly at *
  rw [k]; simp only; rw [h]

theorem CmdsOnly.foldl {β : Type} (f : State → β → State) (h : ∀ s x, CmdsOnly s (f s x)) (l : List β) (s : State) : CmdsOnly s (l.foldl f s) := by
  induction l generalizing s with
  | nil => exact .refl s
  | cons x xs ih => exact (h s x).trans (ih _)

theorem CmdsOnly.warnCmd (s : State) (id b : Nat) : CmdsOnly s (s.warnCmd id b) := rfl

theorem CmdsOnly.throttleCore (s : State) (n : Nat) : CmdsOnly s (s.throttleCore n) := .foldl _ (fun s _ => .warnCmd s _ _) _ s

theorem CmdsOnly.warnLayer (s : State) (ml : Nat) : CmdsOnly s (s.warnLayer ml) := by
  unfold State.warnLayer
  refine .foldl _ (fun s q => ?_) _ s
  unfold State.warnDuty
  split
  · split
    · exact .warnCmd s _ _
    · exact .refl s
  · exact .refl s

theorem CmdsOnly.regs {s t : State} (h : CmdsOnly s t) : t.regs = s.regs := (congrArg State.regs h).trans rfl
theorem CmdsOnly.mem {s t : State} (h : CmdsOnly s t) : t.mem = s.mem := (congrArg State.mem h).trans rfl

theorem fld_congr_regs {s t : State} (h : t.regs = s.regs) (a hi lo : Nat) : t.fld a hi lo = s.fld a hi lo :=
  congrArg (fun r => fld (SMap.get regDefault r a) hi lo) h

theorem bit_congr_regs {s t : State} (h : t.regs = s.regs) (a i : Nat) : t.bit a i = s.bit a i :=
  congrArg (fun r => (SMap.get regDefault r a).getLsbD i) h

/-- One more step of a core shown, before its commands are warned (R529). -/
def State.stepShown (s : State) (n : Nat) : State := ((s.settleFill n).bumpFld (Reg.thmCore n) 23 20 1).setBit Reg.thmEvent 3 true

theorem stepShown_shows (s : State) {n : Nat} (hn : n < 256) :
    (s.stepShown n).fld (Reg.thmCore n) 23 20 = min (s.fld (Reg.thmCore n) 23 20 + 1) 15 ∧ (s.stepShown n).bit Reg.thmEvent 3 = true ∧
    (s.stepShown n).mem = s.mem := by
  have hfill := HaltFrame.settleFill s n
  have hne : Reg.thmCore n ≠ Reg.thmEvent := by show 0x110104 + 0x8 * n ≠ 0x110008; omega
  unfold State.stepShown
  refine ⟨?_, State.bit_setBit_same _ _ _ _ (by decide), hfill.mem⟩
  have hbump := fld_bumpFld_same (s.settleFill n) (Reg.thmCore n) 23 20 1 (by decide) (by decide)
  rw [fld_congr_regs hfill.regs] at hbump
  exact (State.fld_setBit_ne _ _ (.inl hne)).trans hbump

theorem coreStep_shows (s : State) {n : Nat} (hn : n < 256) (q : List Instr) :
    ((s.coreStep n).withQueue q).fld (Reg.thmCore n) 23 20 = min (s.fld (Reg.thmCore n) 23 20 + 1) 15 ∧
    ((s.coreStep n).withQueue q).bit Reg.thmEvent 3 = true ∧ ((s.coreStep n).withQueue q).mem = s.mem := by
  obtain ⟨hfld, hbit, hmem⟩ := stepShown_shows s hn
  have hwarn := CmdsOnly.throttleCore (s.stepShown n) n
  rw [State.withQueue_read_fld, State.withQueue_read_bit, State.withQueue_mem]
  exact ⟨(fld_congr_regs hwarn.regs _ _ _).trans hfld, (bit_congr_regs hwarn.regs _ _).trans hbit, hwarn.mem.trans hmem⟩

/-- One more step of a half shown (R530). -/
def State.halfShown (s : State) (h : Nat) : State :=
  ((s.bumpFld (Reg.thmHalf h) 3 0 1).setBit (Reg.thmHalf h) 16 true).setBit Reg.thmEvent 3 true

theorem halfShown_shows (s : State) {h : Nat} (hh : h < 8) :
    (s.halfShown h).fld (Reg.thmHalf h) 3 0 = min (s.fld (Reg.thmHalf h) 3 0 + 1) 15 ∧ (s.halfShown h).bit (Reg.thmHalf h) 16 = true ∧
    (s.halfShown h).bit Reg.thmEvent 3 = true ∧ (s.halfShown h).mem = s.mem := by
  have hne : Reg.thmHalf h ≠ Reg.thmEvent := by show 0x110080 + 0x4 * h ≠ 0x110008; omega
  unfold State.halfShown
  refine ⟨?_, ?_, State.bit_setBit_same _ _ _ _ (by decide), rfl⟩
  · rw [State.fld_setBit_ne _ _ (.inl hne), State.fld_setBit_ne _ _ (.inr (.inr (by decide)))]
    exact fld_bumpFld_same _ _ _ _ _ (by decide) (by decide)
  · rw [State.bit_setBit_ne _ _ _ _ _ _ (.inl hne), State.bit_setBit_same _ _ _ _ (by decide)]

theorem doThermalStep_half {s : State} {h : Nat}
    (hot : (((List.range 32).map (fun i => 32 * h + i)).filter s.clocked).length <
      2 * (((List.range 32).map (fun i => 32 * h + i)).filter s.clocked).countP (fun c => decide (tHot ≤ s.fld (Reg.thmCore c) 11 0))) :
    doThermalStep true h s = (((List.range 32).map (fun i => 32 * h + i)).filter s.clocked).foldl State.throttleCore (s.halfShown h) := by
  rw [doThermalStep, if_pos rfl]
  exact if_pos hot

theorem throttled_half (l : List Nat) (s : State) (q : List Instr) :
    ((l.foldl State.throttleCore s).withQueue q).regs = s.regs ∧ ((l.foldl State.throttleCore s).withQueue q).mem = s.mem := by
  have h := CmdsOnly.foldl State.throttleCore CmdsOnly.throttleCore l s
  exact ⟨h.regs, h.mem⟩

/-- A memory layer's duty shown lower, before its commands are warned (R531). -/
def State.dutyCutTo (s : State) (ml d : Nat) : State := (s.setBit Reg.thmEvent 4 true).setFld (Reg.thmMemDuty ml) 2 0 d

theorem dutyCutTo_shows (s : State) {ml d : Nat} (hm : ml < 8) (hd : d < 8) :
    (s.dutyCutTo ml d).fld (Reg.thmMemDuty ml) 2 0 = d ∧ (s.dutyCutTo ml d).bit Reg.thmEvent 4 = true := by
  have hne : Reg.thmEvent ≠ Reg.thmMemDuty ml := by show 0x110008 ≠ 0x1100A0 + 0x4 * ml; omega
  unfold State.dutyCutTo
  refine ⟨?_, ?_⟩
  · rw [State.fld_setFld_same _ _ _ _ _ (by decide) (by decide)]
    exact Nat.mod_eq_of_lt hd
  · rw [State.bit_setFld_ne _ _ (by decide) (.inl hne), State.bit_setBit_same _ _ _ _ (by decide)]

/-- What the watch of a hot memory layer leaves. -/
theorem setMemHot_keeps (s : State) (ml : Nat) (t : Option Nat) : (s.setMemHot ml t).regs = s.regs ∧ (s.setMemHot ml t).mem = s.mem ∧
    (s.setMemHot ml t).nbus = s.nbus ∧ (s.setMemHot ml t).image = s.image ∧ (s.setMemHot ml t).cmds = s.cmds := ⟨rfl, rfl, rfl, rfl, rfl⟩

theorem doMemDutyStep_cuts {s : State} {ml : Nat} (hm : ml < 8) (hot : tMemHot ≤ s.fld (Reg.thmLayer (memLayer ml)) 11 0)
    (hd : 1 < s.fld (Reg.thmMemDuty ml) 2 0) :
    (doMemDutyStep ml s).fld (Reg.thmMemDuty ml) 2 0 = s.fld (Reg.thmMemDuty ml) 2 0 - 1 ∧ (doMemDutyStep ml s).bit Reg.thmEvent 4 = true ∧
    (doMemDutyStep ml s).mem = s.mem ∧ (doMemDutyStep ml s).nbus = s.nbus ∧ (doMemDutyStep ml s).image = s.image := by
  have hlt : s.fld (Reg.thmMemDuty ml) 2 0 < 8 := Nat.mod_lt _ (by decide)
  obtain ⟨hfld, hbit⟩ := dutyCutTo_shows s (d := s.fld (Reg.thmMemDuty ml) 2 0 - 1) hm (by omega)
  have hwarn := CmdsOnly.warnLayer (s.dutyCutTo ml (s.fld (Reg.thmMemDuty ml) 2 0 - 1)) ml
  have hrow : doMemDutyStep ml s = if s.fld (Reg.thmMemDuty ml) 2 0 = 2
      then ((s.dutyCutTo ml (s.fld (Reg.thmMemDuty ml) 2 0 - 1)).warnLayer ml).setMemHot ml
        (some ((s.dutyCutTo ml (s.fld (Reg.thmMemDuty ml) 2 0 - 1)).warnLayer ml).tick)
      else (s.dutyCutTo ml (s.fld (Reg.thmMemDuty ml) 2 0 - 1)).warnLayer ml := by
    rw [doMemDutyStep]
    dsimp only
    rw [if_pos hot, if_pos hd]
    rfl
  have hregs : (doMemDutyStep ml s).regs = (s.dutyCutTo ml (s.fld (Reg.thmMemDuty ml) 2 0 - 1)).regs := by
    rw [hrow]
    exact ite_keeps State.regs ((setMemHot_keeps _ _ _).1.trans hwarn.regs) hwarn.regs
  refine ⟨(fld_congr_regs hregs _ _ _).trans hfld, (bit_congr_regs hregs _ _).trans hbit, ?_, ?_, ?_⟩
  · rw [hrow]
    exact ite_keeps State.mem ((setMemHot_keeps _ _ _).2.1.trans hwarn.mem) hwarn.mem
  · rw [hrow]
    exact ite_keeps State.nbus ((setMemHot_keeps _ _ _).2.2.1.trans ((congrArg State.nbus hwarn).trans rfl)) ((congrArg State.nbus hwarn).trans rfl)
  · rw [hrow]
    exact ite_keeps State.image ((setMemHot_keeps _ _ _).2.2.2.1.trans ((congrArg State.image hwarn).trans rfl)) ((congrArg State.image hwarn).trans rfl)

theorem doMemDutyStep_lifts {s : State} {ml : Nat} (cool : s.fld (Reg.thmLayer (memLayer ml)) 11 0 ≤ tMemCool) :
    doMemDutyStep ml s = (s.setMemHot ml none).setFld (Reg.thmMemDuty ml) 2 0 (min 4 (s.fld (Reg.thmMemDuty ml) 2 0 + 1)) := by
  rw [doMemDutyStep]
  dsimp only
  rw [if_neg (by unfold tMemHot; unfold tMemCool at cool; omega), if_pos cool]

/-! ### The thermal model -/

/-- What the update of the model gives for a layer (R526). -/
def State.modelOf (s : State) (theta : SMap Nat) (watts : List Nat) (l : Nat) : Nat :=
  min 4095 (s.fld (Reg.cltTOut (levelOfLayer l)) 11 0 + SMap.get (fun _ => 0) theta l * watts.getD l 0 +
    (if l ≠ 0 && decide (l % 3 = 0) then SMap.get (fun _ => 0) theta (l - 1) * watts.getD (l - 1) 0 else 0))

/-- A layer modelled. -/
def State.modelLayer (theta : SMap Nat) (watts : List Nat) (s : State) (l : Nat) : State := s.setFld (Reg.thmLayer l) 27 16 (s.modelOf theta watts l)

theorem modelLayer_modelOf (theta : SMap Nat) (watts : List Nat) (s : State) {l : Nat} (h : l < 13) (j : Nat) : (s.modelLayer theta watts l).modelOf theta watts j = s.modelOf theta watts j := by
  have hout : (s.modelLayer theta watts l).fld (Reg.cltTOut (levelOfLayer j)) 11 0 = s.fld (Reg.cltTOut (levelOfLayer j)) 11 0 :=
    State.fld_setFld_ne _ _ (by decide) (.inl (by show 0x111104 + 0x10 * _ ≠ 0x110040 + 0x4 * l; omega))
  rw [State.modelOf, hout]
  rfl

theorem modelLayer_modelT (theta : SMap Nat) (watts : List Nat) (s : State) (l j : Nat) :
    (s.modelLayer theta watts l).modelT j = if j = l then s.modelOf theta watts l else s.modelT j := by
  split
  next h =>
    subst h
    rw [State.modelT, State.modelLayer, State.fld_setFld_same _ _ _ _ _ (by decide) (by decide)]
    refine Nat.mod_eq_of_lt ?_
    unfold State.modelOf
    omega
  next h => exact State.fld_setFld_ne _ _ (by decide) (.inl (by show 0x110040 + 0x4 * j ≠ 0x110040 + 0x4 * l; omega))

theorem modelLayers_modelT (theta : SMap Nat) (watts : List Nat) (s : State) (l : List Nat) (h : ∀ i ∈ l, i < 13) :
    RegsOnly s (l.foldl (State.modelLayer theta watts) s) ∧
    (∀ j, (l.foldl (State.modelLayer theta watts) s).modelOf theta watts j = s.modelOf theta watts j) ∧
    ∀ j ∈ l, (l.foldl (State.modelLayer theta watts) s).modelT j = s.modelOf theta watts j := by
  induction l using induct_from_end with
  | nil => exact ⟨.refl s, fun _ => rfl, nofun⟩
  | append_singleton l i ih =>
    obtain ⟨hframe, hof, hmodel⟩ := ih fun j hj => h j (List.mem_append_left _ hj)
    rw [List.foldl_append, List.foldl_cons, List.foldl_nil]
    refine ⟨hframe.setFld _ _ _ _, fun j => (modelLayer_modelOf theta watts _ (h i (by simp)) j).trans (hof j), fun j hj => ?_⟩
    rw [modelLayer_modelT]
    split
    next hji => rw [hof, hji]
    next hji => exact hmodel j ((List.mem_append.mp hj).resolve_right fun hs => hji (List.mem_singleton.mp hs))

/-- The watch of a layer after an update (R527 step 1). -/
def State.watchLayer (s : State) (l : Nat) : State :=
  let w := s.watch l
  let above := decide (s.sensorMax l + 96 < s.modelT l)
  s.setWatch l { w with excess := since above s.tick w.excess, under := if w.governed.isSome then since (!above) s.tick w.under else none }

/-- Only the watches differ. -/
def WatchOnly (s t : State) : Prop := t = { s with thermal := { s.thermal with watch := t.thermal.watch } }

theorem WatchOnly.trans {s t u : State} (h : WatchOnly s t) (k : WatchOnly t u) : WatchOnly s u := by
  unfold WatchOnly at *
  rw [k]; simp only; rw [h]

theorem watchLayers_only (l : List Nat) (s : State) : WatchOnly s (l.foldl State.watchLayer s) := by
  induction l generalizing s with
  | nil => rfl
  | cons x xs ih => exact WatchOnly.trans (show WatchOnly s (s.watchLayer x) from rfl) (ih _)

theorem doThermalModelUpdate_eq (watts : List Nat) (s : State) :
    doThermalModelUpdate watts s = (List.range 13).foldl State.watchLayer ((List.range 13).foldl (State.modelLayer s.fuses.theta watts) s) := by
  unfold doThermalModelUpdate
  rfl

/-- Layers' temperatures shown leave every other register. -/
theorem showTemps_reg (s : State) {a : Nat} (h1 : ∀ n, a ≠ Reg.thmCore n) (h2 : ∀ l, l < 13 → a ≠ Reg.thmLayer l) : s.showTemps.reg a = s.reg a := by
  unfold State.showTemps
  exact (foldl_keeps_mem (State.reg · a) (List.range 13) (fun s l hl => State.reg_setFld_ne _ _ _ _ (h2 l (List.mem_range.mp hl))) _).trans
    (foldl_keeps (State.reg · a) (fun s n => State.reg_setFld_ne _ _ _ _ (h1 n)) (List.range 256) s)

theorem showTemps_regsOnly (s : State) : RegsOnly s s.showTemps := by
  unfold State.showTemps
  exact (RegsOnly.foldl _ (fun s n => (RegsOnly.refl s).setFld _ _ _ _) (List.range 256) s).trans
    (.foldl _ (fun s l => (RegsOnly.refl s).setFld _ _ _ _) (List.range 13) _)

theorem showTemps_thmStatus (s : State) (i : Nat) : s.showTemps.bit Reg.thmStatus i = s.bit Reg.thmStatus i := by
  rw [State.bit, showTemps_reg s (fun n => ?_) (fun l _ => ?_), State.bit]
  · show 0x110000 ≠ 0x110104 + 0x8 * n; omega
  · show 0x110000 ≠ 0x110040 + 0x4 * l; omega

theorem RegsOnly.thermal {s t : State} (h : RegsOnly s t) : t.thermal = s.thermal := (congrArg State.thermal h).trans rfl

theorem watch_congr {s t : State} (h : t.thermal = s.thermal) (l : Nat) : t.watch l = s.watch l := by rw [State.watch, h, State.watch]

theorem watch_setWatch (s : State) (l : Nat) (w : ModelWatch) : (s.setWatch l w).watch l = w := SMap.get_set_same _ _ _ _

/-- A layer governed by its model, with its entry (R527 step 2). -/
def State.modelShown (s : State) (l : Nat) : State :=
  let t := s.setWatch l { s.watch l with governed := some s.tick, under := none }
  ((t.setBit Reg.thmStatus l true).setBit Reg.thmEvent 2 true).event 0x0803 (Src.layer l) none (t.modelData l)

theorem modelShown_shows (s : State) {l : Nat} (h : l < 13) :
    ((s.modelShown l).showTemps.watch l).governed = some s.tick ∧ (s.modelShown l).showTemps.bit Reg.thmStatus l = true := by
  refine ⟨?_, ?_⟩
  · rw [watch_congr (showTemps_regsOnly _).thermal, State.modelShown, watch_congr (State.event_thermal ..)]
    exact congrArg ModelWatch.governed (watch_setWatch s l _)
  · rw [showTemps_thmStatus, State.modelShown, State.bit_event _ _ _ _ _ _ (by decide) (by decide),
      State.bit_setBit_ne _ _ _ _ _ _ (.inl (by decide)), State.bit_setBit_same _ _ _ _ (by omega)]

theorem doThmModel_due {s : State} {l t0 : Nat} (hw : (s.watch l).excess = some t0) (hdue : t0 + 250000 ≤ s.tick) (hno : s.byModel l = false) :
    doThmModel l s = (s.modelShown l).showTemps := by
  unfold doThmModel
  dsimp only
  rw [hw]
  dsimp only
  rw [if_pos (by rw [decide_eq_true hdue, hno]; rfl)]
  unfold State.modelShown
  dsimp only
  rw [hw]

theorem doThmModel_early {s : State} {l t0 : Nat} (hw : (s.watch l).excess = some t0) (hearly : s.tick < t0 + 250000) : doThmModel l s = s := by
  unfold doThmModel
  dsimp only
  rw [hw]
  exact if_neg (by simp [Nat.not_le.mpr hearly])

theorem doThmSuspect_due {s : State} {l t0 : Nat} (hw : (s.watch l).governed = some t0) (hdue : t0 + 1500000000 ≤ s.tick)
    (hno : s.bit Reg.thmSuspect l = false) :
    doThmSuspect l s = ((s.setBit Reg.thmSuspect l true).alert (.suspect l)).event 0x0804 (Src.layer l) none (s.modelData l) := by
  rw [doThmSuspect, hw]
  exact if_pos (by rw [decide_eq_true hdue, hno]; rfl)

theorem doThmSuspect_early {s : State} {l t0 : Nat} (hw : (s.watch l).governed = some t0) (hearly : s.tick < t0 + 1500000000) : doThmSuspect l s = s := by
  rw [doThmSuspect, hw]
  exact if_neg (by rw [decide_eq_false (Nat.not_le.mpr hearly)]; exact Bool.false_ne_true)

theorem alert_regs (s : State) (c : Alert) : (s.alert c).regs = s.regs := by
  unfold State.alert
  split <;> rfl

theorem suspect_shows (s : State) {l : Nat} (h : l < 13) (src : Nat × Nat) (data : Nat) :
    (((s.setBit Reg.thmSuspect l true).alert (.suspect l)).event 0x0804 src none data).bit Reg.thmSuspect l = true ∧
    Alert.suspect l ∈ (((s.setBit Reg.thmSuspect l true).alert (.suspect l)).event 0x0804 src none data).pins.alerts := by
  rw [State.bit_event _ _ _ _ _ _ (by decide) (by decide), State.event_pins, bit_congr_regs (alert_regs _ _)]
  exact ⟨State.bit_setBit_same _ _ _ _ (by omega), alert_stands _ _⟩

theorem doModelRelease_due {s : State} {l t0 : Nat} (hw : (s.watch l).under = some t0) (hdue : t0 + 250000000 ≤ s.tick)
    (hno : s.bit Reg.thmSuspect l = false) :
    doModelRelease l s = ((s.setWatch l { s.watch l with governed := none, under := none }).setBit Reg.thmStatus l false).showTemps := by
  unfold doModelRelease
  dsimp only
  rw [hw]
  exact if_pos (by rw [decide_eq_true hdue, hno]; rfl)

theorem doModelRelease_early {s : State} {l t0 : Nat} (hw : (s.watch l).under = some t0) (hearly : s.tick < t0 + 250000000) : doModelRelease l s = s := by
  unfold doModelRelease
  dsimp only
  rw [hw]
  exact if_neg (by rw [decide_eq_false (Nat.not_le.mpr hearly)]; exact Bool.false_ne_true)

theorem released_shows (s : State) {l : Nat} (h : l < 13) (w : ModelWatch) :
    (((s.setWatch l w).setBit Reg.thmStatus l false).showTemps).watch l = w ∧
    (((s.setWatch l w).setBit Reg.thmStatus l false).showTemps).bit Reg.thmStatus l = false := by
  refine ⟨?_, ?_⟩
  · rw [watch_congr (showTemps_regsOnly _).thermal, watch_congr ((RegsOnly.refl (s.setWatch l w)).setBit Reg.thmStatus l false).thermal]
    exact watch_setWatch s l w
  · rw [showTemps_thmStatus, State.bit_setBit_same _ _ _ _ (by omega)]

end Sys2Proof.Machine
end

section
/-! PROOF. Coolant, bond wear, and the rows of thermal control (R522–R541). -/
namespace Sys2Proof.Machine

/-- A command completes with what holds of its effect and does not speak of the queue: for a property of the state the first premise is
`fun _ _ h => h`. -/
theorem completes_apart {c : Instr} {s : State} {P : State → Prop} {ok : Bool} {f : State → State} (hq : ∀ t q, P t → P (t.withQueue q))
    (e : exec c s = guarded ok s f) (h : ok = true) (r : P (f s)) : Completes c s P := completes_of e h (hq _ _ r)

/-! ### A sample of the coolant -/

/-- A register of a level's readings. -/
def LevelReg (a : Nat) : Prop := 0x111100 ≤ a ∧ a < 0x111200

/-- What the alerts and the entries of a coolant sample leave: a register, the settings, the image, and the history of the readings. -/
def State.coolPart (a : Nat) (s : State) : Word × Settings × Option Image × List (List Nat) × List (List Nat) :=
  (s.reg a, s.sets, s.image, s.thermal.dpHist, s.thermal.flowHist)

theorem coolPart_setReg (s : State) {a b : Nat} (v : Word) (h : a ≠ b) : (s.setReg b v).coolPart a = s.coolPart a := by
  rw [State.coolPart, State.reg_setReg_ne _ _ h]
  rfl

theorem coolPart_setNat (s : State) {a b : Nat} (v : Nat) (h : a ≠ b) : (s.setNat b v).coolPart a = s.coolPart a := coolPart_setReg s _ h
theorem coolPart_setFld (s : State) {a b : Nat} (hi lo v : Nat) (h : a ≠ b) : (s.setFld b hi lo v).coolPart a = s.coolPart a := coolPart_setReg s _ h
theorem coolPart_setBit (s : State) {a b : Nat} (i : Nat) (x : Bool) (h : a ≠ b) : (s.setBit b i x).coolPart a = s.coolPart a := coolPart_setReg s _ h

theorem coolPart_alert (s : State) (a : Nat) (c : Alert) : (s.alert c).coolPart a = s.coolPart a := by
  unfold State.alert
  split <;> rfl

theorem HaltFrame.coolPart {s t : State} (h : HaltFrame s t) (a : Nat) : t.coolPart a = s.coolPart a := (congrArg (State.coolPart a) h).trans rfl

theorem LevelReg.ne {a b : Nat} (ha : LevelReg a) (h : b < 0x111100 ∨ 0x111200 ≤ b) : a ≠ b := by
  obtain ⟨h1, h2⟩ := ha
  omega

theorem LevelReg.event {a : Nat} (ha : LevelReg a) (s : State) (code : Nat) (src : Nat × Nat) (k : Option Nat) (data : Nat) :
    (s.event code src k data).coolPart a = s.coolPart a := by
  rw [State.coolPart, State.reg_event _ _ _ _ _ _ (ha.ne (.inr (by decide))) (ha.ne (.inr (by decide))), State.event_thermal, State.event_image,
    State.event_sets]
  rfl

theorem LevelReg.follow {a : Nat} (ha : LevelReg a) (s : State) (on : Bool) (c : Alert) (code : Nat) (src : Nat × Nat) (data : Nat) :
    (s.follow on c code src data).coolPart a = s.coolPart a := by
  unfold State.follow
  exact ite_keeps (State.coolPart a) (ite_keeps (State.coolPart a) rfl ((ha.event _ _ _ _ _).trans (coolPart_alert s a c))) rfl

theorem LevelReg.inletAlerts {a : Nat} (ha : LevelReg a) (s : State) (l t : Nat) : (s.inletAlerts l t).coolPart a = s.coolPart a := by
  unfold State.inletAlerts
  dsimp only
  exact (ha.follow _ _ _ _ _ _).trans ((ha.follow _ _ _ _ _ _).trans rfl)

theorem coolPart_stopped (s : State) (a : Nat) (n : Nvm) (stop : Option Nat) (from' : Option Nat) :
    State.coolPart a { s with nvm := n, thermal := { s.thermal with flowStop := stop, restartFrom := from' } } = s.coolPart a := rfl

theorem LevelReg.flowStopAt {a : Nat} (ha : LevelReg a) (s : State) (l before now flow : Nat) :
    (s.flowStopAt l before now flow).coolPart a = s.coolPart a := by
  have hstop : HaltFrame s ((List.range 256).foldl State.abandonCore s).abandonTests.clocksStop :=
    ((HaltFrame.foldl _ HaltFrame.abandonCore (List.range 256) s).trans (.abandonTests _)).trans (.clocksStop _)
  unfold State.flowStopAt
  refine ite_keeps (State.coolPart a) rfl ?_
  refine (ha.event _ _ _ _ _).trans ((coolPart_alert _ _ _).trans ((coolPart_setFld _ _ _ _ (ha.ne (.inl (by decide)))).trans
    ((coolPart_setBit _ _ _ (ha.ne (.inl (by decide)))).trans ((coolPart_setBit _ _ _ (ha.ne (.inl (by decide)))).trans ?_))))
  exact (coolPart_stopped _ a _ _ _).trans (hstop.coolPart a)

/-- A level's readings shown. -/
def State.levelShown (s : State) (x : Nat × CoolantReading × Nat × Nat) : State :=
  let s := (s.setNat (Reg.cltTIn x.1) (min 4095 x.2.1.tin)).setNat (Reg.cltTOut x.1) (min 4095 x.2.1.tout)
  let s := s.setNat (Reg.cltLevelFlow x.1) (min 65535 x.2.1.flow + 65536 * min 65535 x.2.2.1)
  (s.setNat (Reg.cltLevelDp x.1) (min 65535 x.2.1.dp)).inletAlerts x.1 x.2.1.tin

/-- A level's readings leave those of another. -/
theorem levelShown_other (s : State) (x : Nat × CoolantReading × Nat × Nat) {a l : Nat} (ha : LevelReg a) (hl : 0x111100 + 0x10 * l ≤ a)
    (hl' : a < 0x111100 + 0x10 * (l + 1)) (hne : x.1 ≠ l) : (s.levelShown x).coolPart a = s.coolPart a := by
  unfold State.levelShown
  refine (ha.inletAlerts _ _ _).trans ((coolPart_setNat _ _ ?_).trans ((coolPart_setNat _ _ ?_).trans ((coolPart_setNat _ _ ?_).trans (coolPart_setNat _ _ ?_))))
  · show a ≠ 0x11110C + 0x10 * x.1; omega
  · show a ≠ 0x111108 + 0x10 * x.1; omega
  · show a ≠ 0x111104 + 0x10 * x.1; omega
  · show a ≠ 0x111100 + 0x10 * x.1; omega

theorem coolPart_reg {s t : State} {a : Nat} (h : t.coolPart a = s.coolPart a) : t.reg a = s.reg a := congrArg (fun x => x.1) h

/-- A level's readings, as its registers hold them. -/
def LevelReads (s : State) (l : Nat) (x : CoolantReading) : Prop :=
  s.nat (Reg.cltTIn l) = min 4095 x.tin ∧ s.nat (Reg.cltTOut l) = min 4095 x.tout ∧ s.nat (Reg.cltLevelFlow l) % 65536 = min 65535 x.flow

theorem levelRegs {l : Nat} (h : l < 5) : LevelReg (Reg.cltTIn l) ∧ LevelReg (Reg.cltTOut l) ∧ LevelReg (Reg.cltLevelFlow l) := by
  have hlt : 0x111100 + 0x10 * l + 12 < 0x111200 := by omega
  refine ⟨⟨?_, ?_⟩, ⟨?_, ?_⟩, ⟨?_, ?_⟩⟩
  · show 0x111100 ≤ 0x111100 + 0x10 * l; omega
  · show 0x111100 + 0x10 * l < 0x111200; omega
  · show 0x111100 ≤ 0x111104 + 0x10 * l; omega
  · show 0x111104 + 0x10 * l < 0x111200; omega
  · show 0x111100 ≤ 0x111108 + 0x10 * l; omega
  · show 0x111108 + 0x10 * l < 0x111200; omega

theorem LevelReads.of_regs {s t : State} {l : Nat} {x : CoolantReading} (h : LevelReads s l x) (k : ∀ a, LevelReg a → 0x111100 + 0x10 * l ≤ a →
    a < 0x111100 + 0x10 * (l + 1) → t.reg a = s.reg a) (hl : l < 5) : LevelReads t l x := by
  obtain ⟨r1, r2, r3⟩ := levelRegs hl
  obtain ⟨h1, h2, h3⟩ := h
  refine ⟨?_, ?_, ?_⟩
  · rw [State.nat, k _ r1 (by show _ ≤ 0x111100 + 0x10 * l; omega) (by show 0x111100 + 0x10 * l < _; omega), ← State.nat, h1]
  · rw [State.nat, k _ r2 (by show _ ≤ 0x111104 + 0x10 * l; omega) (by show 0x111104 + 0x10 * l < _; omega), ← State.nat, h2]
  · rw [State.nat, k _ r3 (by show _ ≤ 0x111108 + 0x10 * l; omega) (by show 0x111108 + 0x10 * l < _; omega), ← State.nat, h3]

theorem packed_flow (f g : Nat) : (min 65535 f + 65536 * min 65535 g) % 2 ^ 32 % 65536 = min 65535 f := by
  have h : min 65535 f + 65536 * min 65535 g < 2 ^ 32 := by omega
  rw [Nat.mod_eq_of_lt h]
  omega

theorem levelShown_reads (s : State) {l : Nat} (hl : l < 5) (x : CoolantReading) (av dp : Nat) : LevelReads (s.levelShown (l, x, av, dp)) l x := by
  have halerts : ∀ t : State, ∀ a, LevelReg a → (t.inletAlerts l x.tin).reg a = t.reg a := fun t a ha => coolPart_reg (ha.inletAlerts t l x.tin)
  obtain ⟨r1, r2, r3⟩ := levelRegs hl
  unfold State.levelShown
  refine ⟨?_, ?_, ?_⟩
  · rw [State.nat, halerts _ _ r1, State.reg_setNat_ne _ _ (by show 0x111100 + 0x10 * l ≠ 0x11110C + 0x10 * l; omega),
      State.reg_setNat_ne _ _ (by show 0x111100 + 0x10 * l ≠ 0x111108 + 0x10 * l; omega),
      State.reg_setNat_ne _ _ (by show 0x111100 + 0x10 * l ≠ 0x111104 + 0x10 * l; omega), ← State.nat, State.nat_setNat_same]
    exact Nat.mod_eq_of_lt (by omega)
  · rw [State.nat, halerts _ _ r2, State.reg_setNat_ne _ _ (by show 0x111104 + 0x10 * l ≠ 0x11110C + 0x10 * l; omega),
      State.reg_setNat_ne _ _ (by show 0x111104 + 0x10 * l ≠ 0x111108 + 0x10 * l; omega), ← State.nat, State.nat_setNat_same]
    exact Nat.mod_eq_of_lt (by omega)
  · rw [State.nat, halerts _ _ r3, State.reg_setNat_ne _ _ (by show 0x111108 + 0x10 * l ≠ 0x11110C + 0x10 * l; omega), ← State.nat,
      State.nat_setNat_same]
    exact packed_flow x.flow av

theorem coolPart_keeps {s t : State} {a : Nat} (h : t.coolPart a = s.coolPart a) : t.sets = s.sets ∧ t.image = s.image ∧
    t.thermal.dpHist = s.thermal.dpHist ∧ t.thermal.flowHist = s.thermal.flowHist := by
  simp only [State.coolPart, Prod.mk.injEq] at h
  exact h.2

/-- The levels of a sample, shown in turn: each reads as its reading. -/
theorem levelsShown_read (f : CoolantReading × Nat → Nat × Nat) (r : List CoolantReading) (k : Nat) (s : State) {i : Nat} {x : CoolantReading}
    (h : r[i]? = some x) (hk : k + i < 5) :
    LevelReads (((r.zipIdx k).map (fun y => (y.2, y.1, (f y).1, (f y).2))).foldl State.levelShown s) (k + i) x := by
  induction r generalizing k s i with
  | nil => simp at h
  | cons y ys ih =>
    rw [List.zipIdx_cons, List.map_cons, List.foldl_cons]
    cases i with
    | zero =>
      obtain rfl : y = x := by simpa using h
      refine (levelShown_reads s hk y (f (y, k)).1 (f (y, k)).2).of_regs (fun a ha hlo hhi => ?_) hk
      refine foldl_keeps_mem (State.reg · a) _ (fun t z hz => ?_) _
      obtain ⟨w, hw, rfl⟩ := List.mem_map.mp hz
      have hle : k + 1 ≤ w.2 := List.le_snd_of_mem_zipIdx hw
      exact coolPart_reg (levelShown_other t _ ha hlo hhi (by omega))
    | succ i =>
      have := ih (k + 1) (s.levelShown (k, y, (f (y, k)).1, (f (y, k)).2)) (i := i) (by simpa using h) (by omega)
      rwa [show k + 1 + i = k + (i + 1) by omega] at this

theorem levelsShown_keeps (l : List (Nat × CoolantReading × Nat × Nat)) (s : State) :
    (l.foldl State.levelShown s).sets = s.sets ∧ (l.foldl State.levelShown s).image = s.image ∧
    (l.foldl State.levelShown s).thermal.dpHist = s.thermal.dpHist ∧ (l.foldl State.levelShown s).thermal.flowHist = s.thermal.flowHist := by
  have hstep : ∀ (t : State) x, (t.levelShown x).sets = t.sets ∧ (t.levelShown x).image = t.image ∧
      (t.levelShown x).thermal.dpHist = t.thermal.dpHist ∧ (t.levelShown x).thermal.flowHist = t.thermal.flowHist := fun t x => by
    have ha : LevelReg 0x111100 := ⟨by decide, by decide⟩
    obtain ⟨h1, h2, h3, h4⟩ := coolPart_keeps (ha.inletAlerts ((((t.setNat (Reg.cltTIn x.1) (min 4095 x.2.1.tin)).setNat (Reg.cltTOut x.1)
      (min 4095 x.2.1.tout)).setNat (Reg.cltLevelFlow x.1) (min 65535 x.2.1.flow + 65536 * min 65535 x.2.2.1)).setNat (Reg.cltLevelDp x.1)
      (min 65535 x.2.1.dp)) x.1 x.2.1.tin)
    exact ⟨h1, h2, h3, h4⟩
  exact ⟨foldl_keeps State.sets (fun t x => (hstep t x).1) l s, foldl_keeps State.image (fun t x => (hstep t x).2.1) l s,
    foldl_keeps (fun t : State => t.thermal.dpHist) (fun t x => (hstep t x).2.2.1) l s,
    foldl_keeps (fun t : State => t.thermal.flowHist) (fun t x => (hstep t x).2.2.2) l s⟩

/-- The histories of the readings, a sample taken in. -/
def State.pushed (s : State) (r : List CoolantReading) : State :=
  let push := fun (h : List (List Nat)) (n : Nat) (f : CoolantReading → Nat) =>
    (List.range 5).map (fun l => match r[l]? with
      | some x => (f x :: h.getD l []).take n
      | none => h.getD l [])
  { s with thermal := { s.thermal with
    dpHist := push s.thermal.dpHist 500 (fun x => x.dp), flowHist := push s.thermal.flowHist 1000 (fun x => x.flow) } }

theorem pushed_lengths (s : State) (r : List CoolantReading) :
    (s.pushed r).thermal.dpHist.length = 5 ∧ (s.pushed r).thermal.flowHist.length = 5 := by
  simp only [State.pushed, List.length_map, List.length_range, and_self]

theorem coolPart_hist (s : State) (a : Nat) (o : List (Option Nat)) : State.coolPart a { s with thermal := { s.thermal with outletSince := o } } = s.coolPart a := rfl

theorem coolPart_restart (s : State) (a : Nat) (o : Option Nat) : State.coolPart a { s with thermal := { s.thermal with restartFrom := o } } = s.coolPart a := rfl

/-- The flow stop that a sudden fall calls for. -/
theorem LevelReg.suddenStop {a : Nat} (ha : LevelReg a) (s : State) (o : Option (Nat × CoolantReading × Nat × Nat)) :
    State.coolPart a (match o with
      | some x => s.flowStopAt x.1 x.2.2.2 x.2.1.dp x.2.1.flow
      | none => s) = s.coolPart a := by
  cases o with
  | none => rfl
  | some x => exact ha.flowStopAt s _ _ _ _

theorem doCoolantSample_coolPart {a : Nat} (ha : LevelReg a) (r : List CoolantReading) (s : State) :
    (doCoolantSample r s).coolPart a = ((s.coolantLevels r).foldl State.levelShown (s.pushed r)).coolPart a := by
  have hstatus : a ≠ Reg.cltStatus := ha.ne (.inl (by decide))
  unfold doCoolantSample
  extract_lets ls push th s1 s2 f s3 s4 has s5 s6 out th2 s7 sudden s8 good from' th3
  have h1 : s2 = ls.foldl State.levelShown (s.pushed r) := rfl
  have h3 : s3.coolPart a = s2.coolPart a := coolPart_setNat s2 _ (ha.ne (.inl (by decide)))
  have h4 : s4.coolPart a = s3.coolPart a := (ha.follow _ _ _ _ _ _).trans (ha.follow s3 _ _ _ _ _)
  have h5 : s5.coolPart a = s4.coolPart a := (coolPart_setBit _ _ _ hstatus).trans (coolPart_setBit s4 _ _ hstatus)
  have h6 : s6.coolPart a = s5.coolPart a := (coolPart_setBit _ _ _ hstatus).trans (coolPart_setBit s5 _ _ hstatus)
  have h7 : s7.coolPart a = s6.coolPart a := coolPart_hist s6 a out
  have h8 : s8.coolPart a = s7.coolPart a := ha.suddenStop s7 (ls.find? sudden)
  have hall := ((((((h8.trans h7).trans h6).trans h5).trans h4).trans h3)).trans (congrArg (State.coolPart a) h1)
  clear_value s8
  exact (coolPart_setBit _ _ _ hstatus).trans ((coolPart_restart s8 a _).trans hall)

theorem doCoolantSample_keeps (r : List CoolantReading) (s : State) : (doCoolantSample r s).sets = s.sets ∧ (doCoolantSample r s).image = s.image ∧
    (doCoolantSample r s).thermal.dpHist.length = 5 ∧ (doCoolantSample r s).thermal.flowHist.length = 5 := by
  have ha : LevelReg 0x111100 := ⟨by decide, by decide⟩
  obtain ⟨h1, h2, h3, h4⟩ := coolPart_keeps (doCoolantSample_coolPart ha r s)
  obtain ⟨k1, k2, k3, k4⟩ := levelsShown_keeps (s.coolantLevels r) (s.pushed r)
  obtain ⟨l1, l2⟩ := pushed_lengths s r
  exact ⟨h1.trans k1, h2.trans k2, (congrArg List.length (h3.trans k3)).trans l1, (congrArg List.length (h4.trans k4)).trans l2⟩

theorem doCoolantSample_reads (r : List CoolantReading) (s : State) {l : Nat} {x : CoolantReading} (hl : l < 5) (hx : r[l]? = some x) :
    LevelReads (doCoolantSample r s) l x := by
  have hx' : (r.take 5)[l]? = some x := (List.getElem?_take_of_lt hl).trans hx
  have hread := levelsShown_read (fun y => ((y.1.flow :: s.thermal.flowHist.getD y.2 []).take 1000 |>.foldl (· + ·) 0) /
    ((y.1.flow :: s.thermal.flowHist.getD y.2 []).take 1000).length |> (·, (s.thermal.dpHist.getD y.2 []).getD 499 0)) (r.take 5) 0 (s.pushed r) hx' (by omega)
  rw [Nat.zero_add] at hread
  exact hread.of_regs (fun a ha _ _ => coolPart_reg (doCoolantSample_coolPart ha r s)) hl

/-- The fields of a level's registers, from the numbers they hold. -/
theorem LevelReads.fields {s : State} {l : Nat} {x : CoolantReading} (h : LevelReads s l x) : s.fld (Reg.cltTIn l) 11 0 = min 4095 x.tin ∧
    s.fld (Reg.cltTOut l) 11 0 = min 4095 x.tout ∧ s.fld (Reg.cltLevelFlow l) 15 0 = min 65535 x.flow := by
  have hfld : ∀ a hi, s.fld a hi 0 = s.nat a % 2 ^ (hi + 1) := fun a hi => rfl
  obtain ⟨h1, h2, h3⟩ := h
  refine ⟨?_, ?_, h3⟩
  · rw [hfld, h1]
    exact Nat.mod_eq_of_lt (Nat.lt_of_le_of_lt (Nat.min_le_left _ _) (by decide))
  · rw [hfld, h2]
    exact Nat.mod_eq_of_lt (Nat.lt_of_le_of_lt (Nat.min_le_left _ _) (by decide))

/-! ### Limit, reduction and restart -/

theorem doFlowLimitUpdate_shows (s : State) : (doFlowLimitUpdate s).thermal.flowLimit = some (s.flowLimitOf - s.thermal.outletRed) ∧
    (doFlowLimitUpdate s).cmds = s.cmds := by
  unfold doFlowLimitUpdate
  dsimp only
  obtain ⟨h, -⟩ := showCap_keeps { (s.setNat Reg.cltFlowLimit (min 65535 (s.flowLimitOf - s.thermal.outletRed))).setNat Reg.cltCoolant
    (s.inforce Key.glycol + 65536 * (kappa30 (s.inforce Key.glycol) / 30)) with
    thermal := { s.thermal with flowLimit := some (s.flowLimitOf - s.thermal.outletRed) } }
  exact ⟨congrArg Thermal.flowLimit h.thermal, (congrArg State.cmds h).trans rfl⟩

/-- The outlet's reduction set, and shown. -/
def State.reduced (s : State) (red : Nat) : State :=
  ({ s with thermal := { s.thermal with outletRed := red } }).setBit Reg.cltStatus 6 (decide (red ≠ 0))

theorem reduced_shows (s : State) (red : Nat) : (s.reduced red).thermal.outletRed = red ∧ (s.reduced red).bit Reg.cltStatus 6 = decide (red ≠ 0) :=
  ⟨rfl, by rw [State.reduced, State.bit_setBit_same _ _ _ _ (by decide)]⟩

theorem doOutletReductionStep_high {s : State} {t0 : Nat} (h : some t0 ∈ s.thermal.outletSince) (hdue : t0 + 2500000 ≤ s.tick) :
    doOutletReductionStep s = s.reduced (s.thermal.outletRed + 50) := by
  unfold doOutletReductionStep
  dsimp only
  rw [if_pos (List.any_eq_true.mpr ⟨_, h, decide_eq_true hdue⟩)]
  rfl

theorem doOutletReductionStep_cool {s : State} (h : ∀ t0, some t0 ∈ s.thermal.outletSince → s.tick < t0 + 2500000)
    (hc : ∀ l, l < 5 → s.fld (Reg.cltTOut l) 11 0 ≤ 1232) : doOutletReductionStep s = s.reduced (s.thermal.outletRed - 50) := by
  have hall : (List.range 5).all (fun l => decide (s.fld (Reg.cltTOut l) 11 0 ≤ 1232)) = true :=
    List.all_eq_true.mpr (fun l hl => decide_eq_true (hc l (List.mem_range.mp hl)))
  unfold doOutletReductionStep
  dsimp only
  rw [if_neg, if_pos hall]
  · rfl
  · refine fun hany => ?_
    obtain ⟨x, hx, hp⟩ := List.any_eq_true.mp hany
    cases x with
    | none => exact Bool.false_ne_true hp
    | some t0 => exact absurd (of_decide_eq_true hp) (Nat.not_le.mpr (h t0 hx))

/-- The flow stop ended: vigils and closed sluices take the time of the stop on (R538). -/
def State.stopEnded (s : State) (t : Nat) : State :=
  { s with
    cmds := s.cmds.map (fun (c : Cmd) => { c with vigilFrom := max c.vigilFrom t + (s.tick - max c.vigilFrom t) - (t - c.vigilFrom) })
    resets := { s.resets with jobs := s.resets.jobs.map (fun (j : ResetJob) => { j with closed := j.closed.map (fun c => max c s.tick) }) }
    thermal := { s.thermal with flowStop := none, restartFrom := none } }

/-- The restart after a flow stop, with its event. -/
def State.restarted (s : State) (t : Nat) : State :=
  ((((s.stopEnded t).setBit Reg.cltStatus 2 false).setBit Reg.cltStatus 8 false).unalert .flowStop).event 0x0816 Src.module none ((s.tick - t) / 25000)

theorem doCltRestart_due {s : State} {t f : Nat} (h1 : s.thermal.flowStop = some t) (h2 : s.thermal.restartFrom = some f) (h3 : f + 50000000 ≤ s.tick)
    (h4 : s.bit Reg.thmStatus 31 = false) : doCltRestart s = s.restarted t := by
  unfold doCltRestart
  rw [h1, h2]
  dsimp only
  rw [if_pos (by rw [decide_eq_true h3, h4]; rfl)]
  rfl

theorem doCltRestart_none {s : State} (h : s.thermal.flowStop = none ∨ s.thermal.restartFrom = none) : doCltRestart s = s := by
  unfold doCltRestart
  rcases h with h | h
  · rw [h]
  · rw [h]
    cases s.thermal.flowStop <;> rfl

theorem unalert_regs (s : State) (c : Alert) : (s.unalert c).regs = s.regs := rfl

theorem restarted_shows (s : State) (t : Nat) : (s.restarted t).thermal.flowStop = none ∧ (s.restarted t).bit Reg.cltStatus 2 = false ∧
    (s.restarted t).cmds.length = s.cmds.length ∧ (s.restarted t).mem = s.mem := by
  unfold State.restarted
  refine ⟨congrArg Thermal.flowStop (State.event_thermal ..), ?_, ?_, (State.event_mem ..).trans rfl⟩
  · rw [State.bit_event _ _ _ _ _ _ (by decide) (by decide), bit_congr_regs (unalert_regs _ _), State.bit_setBit_ne _ _ _ _ _ _ (.inr (by decide)),
      State.bit_setBit_same _ _ _ _ (by decide)]
  · exact (congrArg List.length (State.event_cmds ..)).trans (List.length_map _)

/-! ### Bond wear -/

/-- What bond wear leaves: a register, the turning points, the memories and the commands. -/
def State.wearPart (a : Nat) (s : State) : Word × SMap (List Nat) × Memories × List Cmd := (s.reg a, s.thermal.turns, s.mem, s.cmds)

theorem wearPart_setReg (s : State) {a b : Nat} (v : Word) (h : a ≠ b) : (s.setReg b v).wearPart a = s.wearPart a := by
  rw [State.wearPart, State.reg_setReg_ne _ _ h]
  rfl

/-- A layer's register of temperatures. -/
theorem thmLayer_ne {l j : Nat} (h : l < 13) : Reg.thmLayer l ≠ Reg.thmWearLo j ∧ Reg.thmLayer l ≠ Reg.thmWearHi j ∧ Reg.thmLayer l ≠ Reg.thmStatus ∧
    Reg.thmLayer l ≠ Reg.almLost ∧ Reg.thmLayer l ≠ Reg.almStatus := by
  refine ⟨?_, ?_, ?_, ?_, ?_⟩
  · show 0x110040 + 0x4 * l ≠ 0x110B00 + 0x8 * j; omega
  · show 0x110040 + 0x4 * l ≠ 0x110B04 + 0x8 * j; omega
  · show 0x110040 + 0x4 * l ≠ 0x110000; omega
  · intro k; rw [show Reg.thmLayer l = 0x110040 + 0x4 * l from rfl] at k; unfold Reg.almLost at k; omega
  · intro k; rw [show Reg.thmLayer l = 0x110040 + 0x4 * l from rfl] at k; unfold Reg.almStatus at k; omega

theorem wearCycle_wearPart (s : State) {l : Nat} (h : l < 13) (j range : Nat) (whole : Bool) :
    (s.wearCycle j range whole).wearPart (Reg.thmLayer l) = s.wearPart (Reg.thmLayer l) := by
  obtain ⟨n1, n2, n3, n4, n5⟩ := thmLayer_ne (j := j) h
  unfold State.wearCycle
  refine ite_keeps (State.wearPart _) rfl ?_
  have hset : ∀ lo n, ((s.setNat (Reg.thmWearLo j) lo).bumpFld (Reg.thmWearHi j) 15 0 n).wearPart (Reg.thmLayer l) = s.wearPart (Reg.thmLayer l) :=
    fun lo n => (wearPart_setReg _ _ n2).trans (wearPart_setReg s _ n1)
  refine ite_keeps (State.wearPart _) ?_ (hset _ _)
  rw [State.wearPart, State.reg_event _ _ _ _ _ _ n4 n5, State.event_thermal, State.event_mem, State.event_cmds]
  exact (wearPart_setReg _ _ n3).trans (hset _ _)

theorem rainflowFuel_wearPart (n : Nat) (s : State) {l : Nat} (h : l < 13) (j : Nat) (ps : List Nat) :
    (State.rainflowFuel n s j ps).1.wearPart (Reg.thmLayer l) = s.wearPart (Reg.thmLayer l) := by
  induction n generalizing s ps with
  | zero => rfl
  | succ n ih =>
    unfold State.rainflowFuel
    split
    · split
      · rfl
      · split
        · exact (ih _ _).trans (wearCycle_wearPart s h j _ _)
        · exact (ih _ _).trans (wearCycle_wearPart s h j _ _)
    · rfl

/-- A layer's sample: its temperature, the memories and the commands stay; another layer's turning points stay; the first is the start of its own. -/
theorem wearSample_keeps (s : State) {l : Nat} (h : l < 13) (j : Nat) :
    (s.wearSample j).fld (Reg.thmLayer l) 11 0 = s.fld (Reg.thmLayer l) 11 0 ∧ (s.wearSample j).mem = s.mem ∧ (s.wearSample j).cmds = s.cmds ∧
    (j ≠ l → SMap.get (fun _ => []) (s.wearSample j).thermal.turns l = SMap.get (fun _ => []) s.thermal.turns l) := by
  unfold State.wearSample
  dsimp only
  generalize turnPoint (s.fld (Reg.thmLayer j) 11 0) (SMap.get (fun _ => []) s.thermal.turns j) = ps
  have hflow := rainflowFuel_wearPart ps.length s h j ps
  simp only [State.wearPart, Prod.mk.injEq] at hflow
  obtain ⟨h1, h2, h3, h4⟩ := hflow
  refine ⟨congrArg (fld · 11 0) h1, h3, h4, fun hne => ?_⟩
  exact (SMap.get_set_ne (fun _ => []) _ j _ (Ne.symm hne)).trans (by rw [h2])

theorem wearSample_first (s : State) (l : Nat) (h : SMap.get (fun _ => []) s.thermal.turns l = []) :
    SMap.get (fun _ => []) (s.wearSample l).thermal.turns l = [s.fld (Reg.thmLayer l) 11 0] := by
  unfold State.wearSample
  rw [h]
  exact (SMap.get_set_same (fun _ => ([] : List Nat)) s.thermal.turns l [s.fld (Reg.thmLayer l) 11 0])

/-- Layers sampled in turn, each once: the first sample of a layer is the start of its turning points. -/
theorem wearSamples_first (ls : List Nat) (s : State) (hnd : ls.Nodup) {l : Nat} (h : l < 13) (hmem : l ∈ ls)
    (hnone : SMap.get (fun _ => []) s.thermal.turns l = []) :
    SMap.get (fun _ => []) (ls.foldl State.wearSample s).thermal.turns l = [s.fld (Reg.thmLayer l) 11 0] := by
  induction ls generalizing s with
  | nil => cases hmem
  | cons j js ih =>
    obtain ⟨hj, hjs⟩ := List.nodup_cons.mp hnd
    rw [List.foldl_cons]
    by_cases hjl : j = l
    · subst hjl
      rw [foldl_keeps_mem (fun t : State => SMap.get (fun _ => []) t.thermal.turns j) js
        (fun t k hk => (wearSample_keeps t h k).2.2.2 (fun e => hj (e ▸ hk))) _]
      exact wearSample_first s j hnone
    · obtain ⟨hfld, -, -, hturns⟩ := wearSample_keeps s h j
      rw [ih _ hjs ((List.mem_cons.mp hmem).resolve_left (Ne.symm hjl)) ((hturns hjl).trans hnone), hfld]

/-- A state with other registers and watches of the layers. -/
def State.remodelled (s : State) (r : SMap Word) (w : SMap ModelWatch) : State := { s with regs := r, thermal := { s.thermal with watch := w } }

theorem remodelled_self (s : State) (r : SMap Word) : { s with regs := r } = s.remodelled r s.thermal.watch := rfl

/-- An update of the model changes registers and watches alone. -/
theorem modelled_only {s t u : State} (h : RegsOnly s t) (k : WatchOnly t u) {q : List Instr} (hq : q = s.pending) :
    { u.withQueue q with regs := s.regs } = { s with thermal := { s.thermal with watch := (u.withQueue q).thermal.watch } } := by
  subst hq
  have hu := congrArg (fun v : State => (v.withQueue s.pending).remodelled s.regs u.thermal.watch) k
  have ht := congrArg (fun v : State => (v.withQueue s.pending).remodelled s.regs u.thermal.watch) h
  exact (remodelled_self (u.withQueue s.pending) s.regs).trans (hu.trans (Eq.trans rfl (ht.trans rfl)))

theorem WatchOnly.modelT {s t : State} (h : WatchOnly s t) (q : List Instr) (l : Nat) : (t.withQueue q).modelT l = s.modelT l :=
  fld_congr_regs ((congrArg State.regs h).trans rfl) _ _ _

theorem modelOf_eq (s : State) (watts : List Nat) (l : Nat) : s.modelOf s.fuses.theta watts l =
    min 4095 (s.fld (Reg.cltTOut (levelOfLayer l)) 11 0 + SMap.get (fun _ => 0) s.fuses.theta l * watts.getD l 0 +
      (if l ≠ 0 ∧ l % 3 = 0 then SMap.get (fun _ => 0) s.fuses.theta (l - 1) * watts.getD (l - 1) 0 else 0)) := by
  simp only [State.modelOf, Bool.and_eq_true, decide_eq_true_eq]

/-- A sample's reading of one core. -/
theorem doThermalSample_core (s : State) (r : ThermReading) {n d q : Nat} (hn : n < 256) (hr : r.cores = [(n, d, q)]) :
    (doThermalSample r s).fld (Reg.thmCoreT n) 11 0 = min 4095 d ∧ (doThermalSample r s).fld (Reg.thmCoreT n) 27 16 = min 4095 q := by
  have ha : SensorReg (Reg.thmCoreT n) := ⟨n, hn, rfl⟩
  have hread : (s.coresRead r).reg (Reg.thmCoreT n) = BitVec.ofNat 32 (min 4095 d + 2 ^ 16 * min 4095 q) := by
    unfold State.coresRead
    rw [hr]
    exact State.reg_setReg_same ..
  have hreg : (doThermalSample r s).reg (Reg.thmCoreT n) = (s.coresRead r).reg (Reg.thmCoreT n) :=
    (congrArg Prod.fst (doThermalSample_thermPart ha s r)).trans (congrArg Prod.fst (memReadings_thermPart ha r.mem (s.coresRead r)))
  obtain ⟨h1, h2⟩ := coreReading_fields (d := d) (q := q)
  exact ⟨(congrArg (fld · 11 0) (hreg.trans hread)).trans h1, (congrArg (fld · 27 16) (hreg.trans hread)).trans h2⟩

theorem doThermalSample_keeps (s : State) (r : ThermReading) :
    (doThermalSample r s).thermal.bd = r.bd.take 8 ∧ (doThermalSample r s).image = s.image ∧ (doThermalSample r s).sets = s.sets := by
  have h := doThermalSample_thermPart (a := Reg.thmCoreT 0) ⟨0, by decide, rfl⟩ s r
  simp only [State.thermPart, Prod.mk.injEq] at h
  obtain ⟨-, h1, h2, h3⟩ := h
  obtain ⟨k1, k2, k3⟩ := readIn_reads s r
  exact ⟨h1.trans k1, h2.trans k2, h3.trans k3⟩

end Sys2Proof.Machine

namespace Sys2Proof.Proofs
open Sys2Proof.Machine


/-- Settles O54: each row of thermal control, of the coolant and of bond wear, through the equation of its row and the registers that the rest of the
row leaves; the first sample of a layer's wear by induction over the layers. -/
theorem heatAndCoolant : Obligations.HeatAndCoolant := by
  unfold Obligations.HeatAndCoolant
  refine ⟨fun s => ⟨fun r => ?_, fun r n d q hn hr => ?_, fun n hn => ⟨fun hot hu => ⟨?_, ?_⟩, fun cool => ?_, fun h1 h2 => ?_⟩, fun h hh hot => ?_,
    fun ml hm => ⟨fun hot hd => ?_, fun cool => ?_⟩, fun watts => ?_, fun l t0 hl => ⟨fun hw hdue hno => ?_, fun hw hearly => ?_,
      fun hw hdue hno => ?_, fun hw hearly => ?_, fun hw hdue hno => ?_, fun hw hearly => ?_⟩⟩,
    fun s => ⟨fun r => ?_, ?_, fun t0 hmem hdue => ?_, fun h hc => ?_, fun t0 f h1 h2 h3 h4 => ?_, fun hnone => ?_, ?_, ?_, ?_, ?_⟩⟩
  · exact completes_apart (fun _ _ h => h) (exec_thermalSample r s) rfl (doThermalSample_keeps s r)
  · exact completes_apart (fun _ _ h => h) (exec_thermalSample r s) rfl (doThermalSample_core s r hn hr)
  · refine becomes_of (exec_thermalStep false n s) (decide_eq_true hn) ?_
    rw [doThermalStep]
    exact (if_neg Bool.false_ne_true).trans ((if_pos hot).trans (if_pos hu))
  · refine completes_of (exec_thermalStep false n s) (decide_eq_true hn) ?_
    rw [show doThermalStep false n s = s.coreStep n from (if_neg Bool.false_ne_true).trans ((if_pos hot).trans (if_pos hu))]
    exact coreStep_shows s hn s.pending
  · refine becomes_of (exec_thermalStep false n s) (decide_eq_true hn) ?_
    have hnot : ¬ tHot ≤ s.fld (Reg.thmCore n) 11 0 := by unfold tHot; unfold tCool at cool; omega
    exact (if_neg Bool.false_ne_true).trans ((if_neg hnot).trans (if_pos cool))
  · refine becomes_of (exec_thermalStep false n s) (decide_eq_true hn) ?_
    exact (if_neg Bool.false_ne_true).trans ((if_neg (Nat.not_le.mpr h2)).trans (if_neg (Nat.not_le.mpr h1)))
  · refine completes_of (exec_thermalStep true h s) (decide_eq_true hh) ?_
    rw [doThermalStep_half hot]
    obtain ⟨hregs, hmem⟩ := throttled_half (((List.range 32).map (fun i => 32 * h + i)).filter s.clocked) (s.halfShown h) s.pending
    obtain ⟨k1, k2, k3, k4⟩ := halfShown_shows s hh
    exact ⟨(fld_congr_regs hregs _ _ _).trans k1, (bit_congr_regs hregs _ _).trans k2, (bit_congr_regs hregs _ _).trans k3, hmem.trans k4⟩
  · exact completes_apart (fun _ _ h => h) (exec_memDutyStep ml s) (decide_eq_true hm) (doMemDutyStep_cuts hm hot hd)
  · refine completes_apart (fun _ _ h => h) (exec_memDutyStep ml s) (decide_eq_true hm) ?_
    rw [doMemDutyStep_lifts cool]
    refine ⟨(State.fld_setFld_same _ _ _ _ _ (by decide) (by decide)).trans (Nat.mod_eq_of_lt ?_), rfl⟩
    exact Nat.lt_of_le_of_lt (Nat.min_le_left _ _) (by decide)
  · refine completes_of (exec_thermalModelUpdate watts s) rfl ?_
    rw [doThermalModelUpdate_eq]
    obtain ⟨hregs, -, hmodel⟩ := modelLayers_modelT s.fuses.theta watts s (List.range 13) (fun i hi => List.mem_range.mp hi)
    have hwatch := watchLayers_only (List.range 13) ((List.range 13).foldl (State.modelLayer s.fuses.theta watts) s)
    exact ⟨modelled_only hregs hwatch rfl, fun l hl => (hwatch.modelT s.pending l).trans ((hmodel l (List.mem_range.mpr hl)).trans (modelOf_eq s watts l))⟩
  · refine completes_apart (fun _ _ h => h) (exec_thmModel l s) (decide_eq_true hl) ?_
    rw [doThmModel_due hw hdue hno]
    exact modelShown_shows s hl
  · exact becomes_of (exec_thmModel l s) (decide_eq_true hl) (doThmModel_early hw hearly)
  · refine completes_apart (fun _ _ h => h) (exec_thmSuspect l s) (decide_eq_true hl) ?_
    rw [doThmSuspect_due hw hdue hno]
    exact suspect_shows s hl _ _
  · exact becomes_of (exec_thmSuspect l s) (decide_eq_true hl) (doThmSuspect_early hw hearly)
  · refine completes_apart (fun _ _ h => h) (exec_modelRelease l s) (decide_eq_true hl) ?_
    rw [doModelRelease_due hw hdue hno]
    obtain ⟨k1, k2⟩ := released_shows s hl { s.watch l with governed := none, under := none }
    exact ⟨congrArg ModelWatch.governed k1, congrArg ModelWatch.under k1, k2⟩
  · exact becomes_of (exec_modelRelease l s) (decide_eq_true hl) (doModelRelease_early hw hearly)
  · refine completes_apart (fun _ _ h => h) (exec_coolantSample r s) rfl ?_
    obtain ⟨k1, k2, k3, k4⟩ := doCoolantSample_keeps r s
    exact ⟨k1, k2, k3, k4, fun l x hl hx => (doCoolantSample_reads r s hl hx).fields⟩
  · exact completes_apart (fun _ _ h => h) (exec_flowLimitUpdate s) rfl (doFlowLimitUpdate_shows s)
  · refine completes_apart (fun _ _ h => h) (exec_outletReductionStep s) rfl ?_
    rw [doOutletReductionStep_high hmem hdue]
    obtain ⟨k1, k2⟩ := reduced_shows s (s.thermal.outletRed + 50)
    exact ⟨k1, k2.trans (decide_eq_true (by omega))⟩
  · refine completes_apart (fun _ _ h => h) (exec_outletReductionStep s) rfl ?_
    rw [doOutletReductionStep_cool h hc]
    obtain ⟨k1, k2⟩ := reduced_shows s (s.thermal.outletRed - 50)
    refine ⟨k1, (iff_of_eq (congrArg (· = true) k2)).trans (decide_eq_true_iff.trans ?_)⟩
    omega
  · refine completes_apart (fun _ _ h => h) (exec_cltRestart s) rfl ?_
    rw [doCltRestart_due h1 h2 h3 h4]
    exact restarted_shows s t0
  · exact becomes_of (exec_cltRestart s) rfl (doCltRestart_none hnone)
  · exact becomes_of (exec_bondWearSample s) rfl rfl
  · refine completes_apart (fun _ _ h => h) (exec_bondWearSample s) rfl ?_
    have h0 : 0 < 13 := by decide
    exact ⟨foldl_keeps State.mem (fun t j => (wearSample_keeps t h0 j).2.1) (List.range 13) s,
      foldl_keeps State.cmds (fun t j => (wearSample_keeps t h0 j).2.2.1) (List.range 13) s,
      fun l hl hnone => wearSamples_first (List.range 13) s List.nodup_range hl (List.mem_range.mpr hl) hnone⟩
  · exact becomes_of (exec_bondWearWrite s) rfl rfl
  · refine completes_apart (fun _ _ h => h) (exec_bondWearWrite s) rfl ⟨rfl, fun l hl => ⟨?_, ?_⟩⟩
    · exact (SMap.get_foldl_set _ (fun l => s.nat (Reg.thmWearLo l)) (List.range 13) _ l).trans (if_pos (List.mem_range.mpr hl))
    · exact (SMap.get_foldl_set _ (fun l => s.fld (Reg.thmWearHi l) 15 0) (List.range 13) _ l).trans (if_pos (List.mem_range.mpr hl))

end Sys2Proof.Proofs
end

section
/-! PROOF. What sending a frame leaves of the flows and of the fabric (R445–R454). -/
namespace Sys2Proof.Machine

/-- A frame as it was handed to its flow: when and where it was last sent left out. -/
def TxFrame.handed (t : TxFrame) : TxFrame := { t with sent := none, path := none }

/-- Two flows that differ in what sending frames changes alone: the turn of the paths, and when and where each frame was sent. -/
def FlowSame (f g : Flow) : Prop := g = { f with rr := g.rr, unacked := g.unacked } ∧ g.unacked.map TxFrame.handed = f.unacked.map TxFrame.handed

theorem FlowSame.refl (f : Flow) : FlowSame f f := ⟨rfl, rfl⟩

theorem FlowSame.trans {f g h : Flow} (k : FlowSame f g) (l : FlowSame g h) : FlowSame f h := by
  obtain ⟨k1, k2⟩ := k
  obtain ⟨l1, l2⟩ := l
  refine ⟨?_, l2.trans k2⟩
  rw [l1]; simp only; rw [k1]

theorem FlowSame.symm {f g : Flow} (h : FlowSame f g) : FlowSame g f := by
  obtain ⟨h1, h2⟩ := h
  refine ⟨?_, h2.symm⟩
  rw [h1]

/-- A frame in a flow is still there, as it was handed over. -/
theorem FlowSame.mem {f g : Flow} (h : FlowSame f g) {y : TxFrame} (hy : y ∈ f.unacked) : ∃ z ∈ g.unacked, z.handed = y.handed := by
  have : y.handed ∈ g.unacked.map TxFrame.handed := h.2 ▸ List.mem_map_of_mem hy
  exact List.mem_map.mp this

theorem flow_congr {s t : State} (h : t.fab.flows = s.fab.flows) (k : t.regs = s.regs) (d : Nat) : t.flow d = s.flow d := by
  rw [State.flow, h, fld_congr_regs k, State.flow]

theorem flow_setFlow_same (s : State) (d : Nat) (f : Flow) : (s.setFlow d f).flow d = f := by
  rw [State.flow]
  exact congrArg (fun o : Option Flow => o.getD _) (SMap.get_set_same (fun _ => (none : Option Flow)) s.fab.flows d (some f))

theorem flow_setFlow_ne (s : State) {d e : Nat} (f : Flow) (h : e ≠ d) : (s.setFlow d f).flow e = s.flow e := by
  rw [State.flow]
  exact congrArg (fun o : Option Flow => o.getD _) (SMap.get_set_ne (fun _ => (none : Option Flow)) s.fab.flows d (some f) h)

/-- A counter of the fabric as a whole that no frame counts as it is sent. -/
def FabCounter (a : Nat) : Prop := 0x308000 ≤ a ∧ a ≠ Reg.fabCntBreachTx

/-- What frames sent again or for the first time leave: everything but counters of ports, the resolved addresses, and in the flows when and where a
frame was last sent; and with it the receiving side. -/
def Posted (s t : State) : Prop :=
  Sent s t ∧ t.fab = { s.fab with flows := t.fab.flows, rx := t.fab.rx, reads := t.fab.reads, arp := t.fab.arp } ∧
  (∀ d, FlowSame (s.flow d) (t.flow d)) ∧ ∀ a, FabCounter a → t.cnt a = s.cnt a

theorem Posted.refl (s : State) : Posted s s := ⟨.refl s, rfl, fun _ => .refl _, fun _ _ => rfl⟩

theorem Posted.trans {s t u : State} (h : Posted s t) (k : Posted t u) : Posted s u := by
  obtain ⟨h1, h2, h3, h4⟩ := h
  obtain ⟨k1, k2, k3, k4⟩ := k
  refine ⟨h1.trans k1, ?_, fun d => (h3 d).trans (k3 d), fun a ha => (k4 a ha).trans (h4 a ha)⟩
  rw [k2]; simp only; rw [h2]

theorem Posted.foldl {β : Type} (f : State → β → State) (l : List β) (h : ∀ s, ∀ x ∈ l, Posted s (f s x)) (s : State) : Posted s (l.foldl f s) := by
  induction l generalizing s with
  | nil => exact .refl s
  | cons x xs ih => exact (h s x List.mem_cons_self).trans (ih (fun s y hy => h s y (List.mem_cons_of_mem x hy)) _)

theorem Posted.paths {s t : State} (h : Posted s t) (d : Nat) : t.paths d = s.paths d := (congrArg (State.paths · d) h.1).trans rfl
theorem Sent.paths {s t : State} (h : Sent s t) (d : Nat) : t.paths d = s.paths d := (congrArg (State.paths · d) h).trans rfl
theorem Sent.inforce {s t : State} (h : Sent s t) (k : Nat) : t.inforce k = s.inforce k := (congrArg (State.inforce · k) h).trans rfl

/-- A path's port is one of the eight. -/
theorem paths_port {s : State} {d : Nat} {p : Nat × Nat} (h : p ∈ s.paths d) : p.1 < 8 := by
  unfold State.paths at h
  obtain ⟨i, hi, hp⟩ := List.mem_flatMap.mp h
  split at hp
  · obtain ⟨a, -, rfl⟩ := List.mem_map.mp hp
    exact List.mem_range.mp hi
  · cases hp

/-- Each path is listed once. -/
theorem paths_nodup (s : State) (d : Nat) : (s.paths d).Nodup := by
  unfold State.paths
  rw [List.Nodup, List.pairwise_flatMap]
  refine ⟨fun i _ => ?_, ?_⟩
  · split
    · refine List.Pairwise.of_map (S := (· ≠ ·)) Prod.snd (fun _ _ hsnd heq => hsnd (congrArg Prod.snd heq)) ?_
      rw [List.map_map]
      have hidx : ((s.peerAddrs d).zipIdx.map Prod.snd).Nodup := by
        rw [List.zipIdx_map_snd]
        exact List.nodup_range'
      exact hidx.sublist ((List.filter_sublist).map Prod.snd)
    · exact List.nodup_nil
  · refine List.nodup_range.imp fun {i j} hne p hi p' hj heq => ?_
    have hport : ∀ k p, p ∈ (if s.inService k then ((s.peerAddrs d).zipIdx.filter (fun a => (s.peerEntries d).any
        (fun r => r.addr == a.1 && r.portMask.testBit k))).map (fun a => (k, a.2)) else []) → p.1 = k := fun k p hk => by
      split at hk
      · obtain ⟨a, -, rfl⟩ := List.mem_map.mp hk
        rfl
      · cases hk
    exact hne ((hport i p hi).symm.trans ((congrArg Prod.fst heq).trans (hport j p' hj)))

theorem cnt_addCnt_ne (s : State) {a b : Nat} (n : Nat) (h : b ≠ a) : (s.addCnt a n).cnt b = s.cnt b :=
  SMap.get_set_ne (fun _ => (0 : DWord)) s.cnts a _ h

theorem cnt_addCnt_same (s : State) (a n : Nat) : (s.addCnt a n).cnt a = s.cnt a + BitVec.ofNat 64 n :=
  SMap.get_set_same (fun _ => (0 : DWord)) s.cnts a _

theorem Posted.addCnt (s : State) {a : Nat} (n : Nat) (h : ∀ b, FabCounter b → b ≠ a) : Posted s (s.addCnt a n) :=
  ⟨addCnt_sent s a n, rfl, fun _ => .refl _, fun _ hb => cnt_addCnt_ne s n (h _ hb)⟩

theorem FabCounter.ne_port {b : Nat} (hb : FabCounter b) {port k : Nat} (hp : port < 8) (hk : k < 0x100) : b ≠ 0x300000 + k + 0x1000 * port := by
  obtain ⟨h, -⟩ := hb
  omega

theorem Posted.putEther (s : State) {port : Nat} (hp : port < 8) (kind eth dst size : Nat) (data : List Byte) :
    Posted s (s.putEther port kind eth dst size data) :=
  ((Posted.addCnt s 1 (fun _ hb => hb.ne_port (k := 0x40) hp (by decide))).trans
    (Posted.addCnt _ size (fun _ hb => hb.ne_port (k := 0x50) hp (by decide)))).trans ⟨emit_sent _ _, rfl, fun _ => .refl _, fun _ _ => rfl⟩

theorem Posted.askArp (s : State) {port : Nat} (hp : port < 8) (ip : Nat) : Posted s (s.askArp port ip) :=
  ((Posted.putEther s hp 1 (askEth ip) ip (arpSize ip) (beBytes 16 ip)).trans ⟨setArp_sent _ _ _ _, rfl, fun _ => .refl _, fun _ _ => rfl⟩).trans
    ⟨fresh_sent _, rfl, fun _ => .refl _, fun _ _ => rfl⟩

theorem Posted.resolve (s : State) {port : Nat} (hp : port < 8) (ip : Nat) : Posted s (s.resolve port ip) := by
  unfold State.resolve
  split
  · exact .refl s
  · exact .askArp s hp ip

theorem Posted.putDatagram (s : State) {port : Nat} (hp : port < 8) (entry dst : Nat) (bytes : List Byte) :
    Posted s (s.putDatagram port entry dst bytes) :=
  (((Posted.resolve s hp dst).trans (Posted.addCnt _ 1 (fun _ hb => hb.ne_port (k := 0x40) hp (by decide)))).trans
    (Posted.addCnt _ _ (fun _ hb => hb.ne_port (k := 0x50) hp (by decide)))).trans ⟨emit_sent _ _, rfl, fun _ => .refl _, fun _ _ => rfl⟩

/-- A flow written that differs in what sending changes alone. -/
theorem Posted.setFlow (s : State) {d : Nat} {f : Flow} (h : FlowSame (s.flow d) f) : Posted s (s.setFlow d f) := by
  refine ⟨setFlow_sent s d f, rfl, fun e => ?_, fun _ _ => rfl⟩
  by_cases he : e = d
  · subst he
    rw [flow_setFlow_same]
    exact h
  · rw [flow_setFlow_ne s f he]
    exact .refl _

theorem handed_map (l : List TxFrame) (f : TxFrame → TxFrame) (h : ∀ t, (f t).handed = t.handed) : (l.map f).map TxFrame.handed = l.map TxFrame.handed := by
  rw [List.map_map]
  exact List.map_congr_left fun t _ => h t

theorem Posted.putFrame (s : State) (d : Nat) (t : TxFrame) : Posted s (s.putFrame d t) := by
  unfold State.putFrame
  dsimp only
  split
  · exact .refl s
  next p e hp =>
    have hport : p < 8 := paths_port (List.mem_of_getElem? hp)
    have hput := Posted.putDatagram s hport e ((s.peerAddrs d).getD e 0) (s.frameBytes d (s.flow d) t)
    generalize s.putDatagram p e ((s.peerAddrs d).getD e 0) (s.frameBytes d (s.flow d) t) = a at hput ⊢
    have hcount : Posted s (if t.typ = 0x40 && t.path.isNone then a.addCnt Reg.fabCntBreachTx 1 else a) := by
      split
      · exact hput.trans (.addCnt a 1 (fun _ hb => hb.2))
      · exact hput
    generalize (if t.typ = 0x40 && t.path.isNone then a.addCnt Reg.fabCntBreachTx 1 else a) = b at hcount ⊢
    refine hcount.trans (.setFlow b ((hcount.2.2.1 d).symm.trans ⟨rfl, handed_map _ _ fun u => ?_⟩))
    split <;> rfl

theorem Posted.acceptPsn (s : State) (d psn : Nat) : Posted s (s.acceptPsn d psn) := by
  unfold State.acceptPsn
  split
  · exact .refl s
  · exact ⟨rfl, rfl, fun _ => .refl _, fun _ _ => rfl⟩

theorem Posted.settleReads (s : State) (d : Nat) : Posted s (s.settleReads d) := by
  unfold State.settleReads
  exact Posted.trans (t := { s with fab := { s.fab with reads := s.fab.reads.filter fun x =>
    !(s.fab.reads.filter (fun x => x.1 == d && s.wasSent d x.2.2)).contains x } }) ⟨rfl, rfl, fun _ => .refl _, fun _ _ => rfl⟩
    (.foldl _ _ (fun s x _ => .acceptPsn s d _) _)

theorem Posted.pump (s : State) (d : Nat) : Posted s (s.pump d) := by
  unfold State.pump
  split
  · exact .refl s
  · exact (Posted.foldl _ _ (fun s t _ => .putFrame s d t) s).trans (.settleReads _ d)

/-- The frame that a sending hands to its flow. -/
def State.nextFrame (s : State) (d typ flags msg : Nat) (area payload : List Byte) (owner : Option Nat) : TxFrame :=
  ⟨(s.flow d).next, typ, if (s.flow d).syn then flags ||| 8 else flags, msg, area, payload, owner, (owner.bind s.cmd?).map (fun c => c.ctx), none, false,
    false, none⟩

/-- A frame handed to the end of its flow. -/
def State.handTo (s : State) (d : Nat) (t : TxFrame) : State :=
  s.setFlow d { s.flow d with next := ((s.flow d).next + 1) % 2 ^ 32, unacked := (s.flow d).unacked ++ [t], syn := false }

theorem sendSeq_eq (s : State) (d typ flags msg : Nat) (area payload : List Byte) (owner : Option Nat) :
    s.sendSeq d typ flags msg area payload owner = (s.handTo d (s.nextFrame d typ flags msg area payload owner)).pump d := rfl

/-- A frame that carries a body, somewhere in a flow. -/
def InFlow (s : State) (d typ : Nat) (area : List Byte) : Prop := ∃ y ∈ (s.flow d).unacked, y.typ = typ ∧ y.area = area

theorem Posted.inFlow {s t : State} (h : Posted s t) {d typ : Nat} {area : List Byte} (k : InFlow s d typ area) : InFlow t d typ area := by
  obtain ⟨y, hy, htyp, harea⟩ := k
  obtain ⟨z, hz, hzy⟩ := (h.2.2.1 d).mem hy
  exact ⟨z, hz, (congrArg TxFrame.typ hzy).trans htyp, (congrArg TxFrame.area hzy).trans harea⟩

/-- What sending frames adds to the flows and to the fabric: everything else stays, and so do the frames that were there. -/
def Sends (s t : State) : Prop :=
  Sent s t ∧ t.fab = { s.fab with flows := t.fab.flows, rx := t.fab.rx, reads := t.fab.reads, arp := t.fab.arp } ∧
  ∀ d typ area, InFlow s d typ area → InFlow t d typ area

theorem Sends.refl (s : State) : Sends s s := ⟨.refl s, rfl, fun _ _ _ h => h⟩

theorem Sends.trans {s t u : State} (h : Sends s t) (k : Sends t u) : Sends s u := by
  obtain ⟨h1, h2, h3⟩ := h
  obtain ⟨k1, k2, k3⟩ := k
  refine ⟨h1.trans k1, ?_, fun d typ area ha => k3 d typ area (h3 d typ area ha)⟩
  rw [k2]; simp only; rw [h2]

theorem Sends.foldl {β : Type} (f : State → β → State) (l : List β) (h : ∀ s, ∀ x ∈ l, Sends s (f s x)) (s : State) : Sends s (l.foldl f s) := by
  induction l generalizing s with
  | nil => exact .refl s
  | cons x xs ih => exact (h s x List.mem_cons_self).trans (ih (fun s y hy => h s y (List.mem_cons_of_mem x hy)) _)

theorem Posted.sends {s t : State} (h : Posted s t) : Sends s t := ⟨h.1, h.2.1, fun _ _ _ => h.inFlow⟩

theorem handTo_sends (s : State) (d : Nat) (t : TxFrame) : Sends s (s.handTo d t) := by
  refine ⟨setFlow_sent _ _ _, rfl, fun e typ area h => ?_⟩
  obtain ⟨y, hy, hbody⟩ := h
  unfold InFlow State.handTo
  by_cases he : e = d
  · subst he
    rw [flow_setFlow_same]
    exact ⟨y, List.mem_append_left _ hy, hbody⟩
  · rw [flow_setFlow_ne _ _ he]
    exact ⟨y, hy, hbody⟩

theorem handTo_inFlow (s : State) (d : Nat) (t : TxFrame) : InFlow (s.handTo d t) d t.typ t.area := by
  unfold InFlow State.handTo
  rw [flow_setFlow_same]
  exact ⟨t, List.mem_append_right _ (List.mem_singleton_self t), rfl, rfl⟩

/-- A frame sent stands in its flow (R446), and what was there stays. -/
theorem sendSeq_sends (s : State) (d typ flags msg : Nat) (area payload : List Byte) (owner : Option Nat) :
    Sends s (s.sendSeq d typ flags msg area payload owner) ∧ InFlow (s.sendSeq d typ flags msg area payload owner) d typ area := by
  rw [sendSeq_eq]
  have hpump := Posted.pump (s.handTo d (s.nextFrame d typ flags msg area payload owner)) d
  exact ⟨(handTo_sends s d _).trans hpump.sends, hpump.inFlow (handTo_inFlow s d _)⟩

/-- One frame to each of several peers: each stands in its peer's flow. -/
theorem sendEach_inFlow (l : List Nat) (typ flags msg : Nat) (area payload : List Byte) (s : State) {d : Nat} (h : d ∈ l) :
    InFlow (l.foldl (fun s d => s.sendSeq d typ flags msg area payload none) s) d typ area := by
  induction l generalizing s with
  | nil => cases h
  | cons e l ih =>
    rw [List.foldl_cons]
    rcases List.mem_cons.mp h with rfl | h
    · exact (Sends.foldl _ l (fun s x _ => (sendSeq_sends s x typ flags msg area payload none).1) _).2.2 d typ area
        (sendSeq_sends s d typ flags msg area payload none).2
    · exact ih _ h

end Sys2Proof.Machine
end

section
/-! PROOF. Breaches, exported endpoints, and the timers of the fabric (R449–R456, R469–R471). -/
namespace Sys2Proof.Machine

/-! ### Breaches and endpoints -/

/-- The body of a BREACH frame (R471). -/
def breachBody (origin serial status : Nat) : List Byte := beBytes 2 origin ++ [0, 0] ++ beBytes 4 serial ++ [BitVec.ofNat 8 status]

theorem originBreach_none {s : State} {polder : Nat} (status : Nat) (h : s.peersOf polder = []) : s.originBreach polder status = s := by
  rw [State.originBreach, h]
  rfl

/-- A breach noted as seen, under the next serial number. -/
def State.breachNoted (s : State) : State :=
  ({ s with fab := { s.fab with breachSerial := (s.fab.breachSerial + 1) % 2 ^ 32 } } : State).seeBreach s.device s.fab.breachSerial

theorem originBreach_some {s : State} {polder : Nat} (status : Nat) (h : s.peersOf polder ≠ []) :
    s.originBreach polder status = s.breachNoted.breachTo (s.peersOf polder) s.device s.fab.breachSerial status := by
  unfold State.originBreach
  rw [if_neg (by rwa [List.isEmpty_iff])]
  rfl

theorem breachTo_sends (s : State) (devs : List Nat) (origin serial status : Nat) : Sends s (s.breachTo devs origin serial status) :=
  Sends.foldl _ devs (fun s d _ => (sendSeq_sends s d 0x40 4 0 (breachBody origin serial status) [] none).1) s

theorem breachTo_inFlow (s : State) {devs : List Nat} (origin serial status : Nat) {d : Nat} (h : d ∈ devs) :
    InFlow (s.breachTo devs origin serial status) d 0x40 (breachBody origin serial status) :=
  sendEach_inFlow devs 0x40 4 0 (breachBody origin serial status) [] s h

/-- A breach originated: its serial, its note and a frame to each peer of the polder (R470, R471). -/
theorem originBreach_shows {s : State} {polder : Nat} (status : Nat) (h : s.peersOf polder ≠ []) :
    (s.originBreach polder status).fab.breachSerial = (s.fab.breachSerial + 1) % 2 ^ 32 ∧
    (s.device, s.fab.breachSerial) ∈ (s.originBreach polder status).fab.seen ∧ (s.originBreach polder status).cmds = s.cmds ∧
    ∀ d ∈ s.peersOf polder, InFlow (s.originBreach polder status) d 0x40 (breachBody s.device s.fab.breachSerial status) := by
  rw [originBreach_some status h]
  obtain ⟨hsent, hfab, -⟩ := breachTo_sends s.breachNoted (s.peersOf polder) s.device s.fab.breachSerial status
  refine ⟨(congrArg Fab.breachSerial hfab).trans rfl, ?_, hsent.cmds, fun d hd => breachTo_inFlow _ _ _ _ hd⟩
  rw [(congrArg Fab.seen hfab).trans rfl]
  exact List.mem_cons_self

/-- Registers alone changed: with the old ones back, the state as it was. -/
theorem regsOnly_undone {s u : State} (h : RegsOnly s u) : { u.withQueue s.pending with regs := s.regs } = s :=
  (congrArg (fun v : State => { v.withQueue s.pending with regs := s.regs }) h).trans rfl

/-- What a valid write of an endpoint's control register stores. -/
theorem epCtrl_valid {v : Word} : (v &&& 0x9F03FFFF).getLsbD 31 = v.getLsbD 31 := by
  rw [BitVec.getLsbD_and, show (0x9F03FFFF : Word).getLsbD 31 = true from by decide, Bool.and_true]

theorem epCtrl_cleared {v : Word} : (v &&& 0x7FFFFFFF).getLsbD 31 = false := by
  rw [BitVec.getLsbD_and, show (0x7FFFFFFF : Word).getLsbD 31 = false from by decide, Bool.and_false]

theorem bit_setReg_same (s : State) (a i : Nat) (v : Word) : (s.setReg a v).bit a i = v.getLsbD i :=
  congrArg (fun w : Word => w.getLsbD i) (State.reg_setReg_same s a v)

/-- An endpoint's control register taken as written. -/
def State.epStored (s : State) (e : Nat) (v : Word) : State := s.setReg (Reg.fabEpCtrl e) (v &&& 0x9F03FFFF)

theorem epStored_valid (s : State) (e : Nat) (v : Word) : (s.epStored e v).bit (Reg.fabEpCtrl e) 31 = v.getLsbD 31 :=
  (bit_setReg_same s _ 31 _).trans epCtrl_valid

theorem writeEpCtrl_taken {s : State} {e : Nat} {v : Word} (h : s.bit (Reg.fabEpCtrl e) 31 = false) (hok : v.getLsbD 31 = false ∨ s.epOk e v = true) :
    s.writeEpCtrl e v = s.epStored e v := by
  unfold State.writeEpCtrl
  rw [h]
  refine (if_neg Bool.false_ne_true).trans (if_pos ?_)
  rcases hok with hok | hok <;> rw [hok] <;> simp

theorem writeEpCtrl_invalidates {s : State} {e : Nat} {v : Word} (hv : v.getLsbD 31 = false) : s.writeEpCtrl e v = s.epStored e v := by
  cases h : s.bit (Reg.fabEpCtrl e) 31 with
  | false => exact writeEpCtrl_taken h (.inl hv)
  | true =>
    unfold State.writeEpCtrl
    rw [h, hv]
    rfl

/-- An endpoint refused: stored without VALID, and EP_ERR set (R456). -/
def State.epRefused (s : State) (e : Nat) (v : Word) : State :=
  (s.setReg (Reg.fabEpCtrl e) (v &&& 0x9F03FFFF &&& 0x7FFFFFFF)).setBit Reg.fabStatus 8 true

theorem writeEpCtrl_refused {s : State} {e : Nat} {v : Word} (h : s.bit (Reg.fabEpCtrl e) 31 = false) (hv : v.getLsbD 31 = true)
    (hok : s.epOk e v = false) : s.writeEpCtrl e v = s.epRefused e v := by
  unfold State.writeEpCtrl
  rw [h, hv, hok]
  rfl

theorem epRefused_shows (s : State) {e : Nat} (v : Word) : (s.epRefused e v).bit (Reg.fabEpCtrl e) 31 = false ∧
    (s.epRefused e v).bit Reg.fabStatus 8 = true := by
  have hne : Reg.fabEpCtrl e ≠ Reg.fabStatus := by show 0x310000 + 0x10 * e ≠ 0x308004; omega
  unfold State.epRefused
  rw [State.bit_setBit_ne _ _ _ _ _ _ (.inl hne), State.bit_setBit_same _ _ _ _ (by decide), bit_setReg_same]
  exact ⟨epCtrl_cleared, rfl⟩

/-! ### Timers -/

theorem setRate_rate (s : State) (d p e : Nat) (r : PathRate) : ((s.setRate d p e r).rate d p e) = { r with rate := max 1000 (min 800000 r.rate) } :=
  SMap.get_set_same (fun _ => (⟨100000, 0, none, none⟩ : PathRate)) s.fab.rates _ _

theorem setRate_rate_other (s : State) (d : Nat) {p e p' e' : Nat} (r : PathRate) (h : 256 * p' + e' ≠ 256 * p + e) :
    ((s.setRate d p e r).rate d p' e') = s.rate d p' e' :=
  SMap.get_set_ne (fun _ => (⟨100000, 0, none, none⟩ : PathRate)) s.fab.rates _ _ (by omega)

/-- A path's rate halved (R454). -/
def State.halvePath (d : Nat) (s : State) (p : Nat × Nat) : State :=
  s.setRate d p.1 p.2 ⟨(s.rate d p.1 p.2).rate / 2, 0, some s.tick, (s.rate d p.1 p.2).lastCe⟩

/-- Halving rates leaves everything but the rates. -/
def RatesOnly (s t : State) : Prop := t = { s with fab := { s.fab with rates := t.fab.rates } }

theorem RatesOnly.foldl {β : Type} (f : State → β → State) (h : ∀ s x, RatesOnly s (f s x)) (l : List β) (s : State) : RatesOnly s (l.foldl f s) := by
  induction l generalizing s with
  | nil => rfl
  | cons x xs ih =>
    have hxs := ih (f s x)
    have hx := h s x
    rw [List.foldl_cons]
    unfold RatesOnly at *
    rw [hxs]; simp only; rw [hx]

/-- Paths listed once each: every one ends with half its rate. -/
theorem halved_rates (l : List (Nat × Nat)) (d : Nat) (s : State) (hnd : l.Nodup) (hl : ∀ p ∈ l, p.2 < 256) {p : Nat × Nat} (hp : p ∈ l) :
    ((l.foldl (State.halvePath d) s).rate d p.1 p.2).rate = max 1000 (min 800000 ((s.rate d p.1 p.2).rate / 2)) := by
  have hother : ∀ (t : State) (q : Nat × Nat), q.2 < 256 → p ≠ q → (t.halvePath d q).rate d p.1 p.2 = t.rate d p.1 p.2 := fun t q hq hne => by
    have hp2 := hl p hp
    refine setRate_rate_other t d _ fun h => hne ?_
    exact Prod.ext (by omega) (by omega)
  induction l generalizing s with
  | nil => cases hp
  | cons q qs ih =>
    obtain ⟨hq, hqs⟩ := List.nodup_cons.mp hnd
    rw [List.foldl_cons]
    by_cases hpq : p = q
    · subst hpq
      rw [foldl_keeps_mem (fun t : State => t.rate d p.1 p.2) qs (fun t r hr => hother t r (hl r (List.mem_cons_of_mem _ hr)) (fun e => hq (e ▸ hr)))]
      exact congrArg PathRate.rate (setRate_rate s d p.1 p.2 _)
    · rw [ih (s.halvePath d q) hqs (fun r hr => hl r (List.mem_cons_of_mem _ hr)) ((List.mem_cons.mp hp).resolve_left hpq),
        hother s q (hl q List.mem_cons_self) hpq]

theorem halvePaths_eq (s : State) (d : Nat) : s.halvePaths d = (s.paths d).foldl (State.halvePath d) s := rfl

/-- The frames of a list sent again, each with its fast mark cleared. -/
def State.resendAll (s : State) (d : Nat) (l : List TxFrame) : State := l.foldl (fun (s : State) t => s.resend d { t with fast := false }) s

/-- What frames sent again change: what any sending changes, and the count of them. -/
def Resent (n : Nat) (s t : State) : Prop :=
  Sent s t ∧ t.fab.rates = s.fab.rates ∧ (∀ d, FlowSame (s.flow d) (t.flow d)) ∧ t.cnt Reg.fabCntRto = s.cnt Reg.fabCntRto ∧
  t.cnt Reg.fabCntRetransmit = s.cnt Reg.fabCntRetransmit + BitVec.ofNat 64 n

theorem resend_resent {s : State} {d : Nat} (h : s.paths d ≠ []) (t : TxFrame) : Resent 1 s (s.resend d t) := by
  obtain ⟨hsent, hfab, hflow, hcnt⟩ := Posted.putFrame s d t
  have hrow : s.resend d t = (s.putFrame d t).addCnt Reg.fabCntRetransmit 1 := by
    unfold State.resend
    exact if_neg (by rwa [List.isEmpty_iff])
  rw [hrow]
  refine ⟨hsent.trans (addCnt_sent _ _ _), (congrArg Fab.rates hfab).trans rfl, hflow, ?_, ?_⟩
  · rw [cnt_addCnt_ne _ _ (by decide), hcnt _ ⟨by decide, by decide⟩]
  · rw [cnt_addCnt_same, hcnt _ ⟨by decide, by decide⟩]

theorem resendAll_resent {s : State} {d : Nat} (h : s.paths d ≠ []) (l : List TxFrame) : Resent l.length s (s.resendAll d l) := by
  induction l generalizing s with
  | nil => exact ⟨.refl s, rfl, fun _ => .refl _, rfl, (BitVec.add_zero _).symm⟩
  | cons t l ih =>
    obtain ⟨h1, h2, h3, h4, h5⟩ := resend_resent h { t with fast := false }
    obtain ⟨k1, k2, k3, k4, k5⟩ := ih (s := s.resend d { t with fast := false }) (by rwa [h1.paths])
    refine ⟨h1.trans k1, k2.trans h2, fun e => (h3 e).trans (k3 e), k4.trans h4, k5.trans ?_⟩
    rw [h5, List.length_cons, BitVec.add_assoc, ← BitVec.ofNat_add, Nat.add_comm]

theorem resendAll_no_path {s : State} {d : Nat} (h : s.paths d = []) (l : List TxFrame) : s.resendAll d l = s := by
  induction l with
  | nil => rfl
  | cons t l ih =>
    have hone : s.resend d { t with fast := false } = s := by
      unfold State.resend
      exact if_pos (by rw [h]; rfl)
    unfold State.resendAll at ih ⊢
    rw [List.foldl_cons, hone, ih]

/-- A flow whose oldest frame is overdue (R450). -/
def State.lateFlow (s : State) (d : Nat) : Flow :=
  { s.flow d with
    expiries := (s.flow d).expiries + 1
    timeout := min (64 * s.inforce Key.rto) (2 * (if (s.flow d).timeout = 0 then s.inforce Key.rto else (s.flow d).timeout))
    down := decide (8 ≤ (s.flow d).expiries + 1)
    lastRto := s.tick
    unacked := (s.flow d).unacked.map (fun t => { t with fast := false }) }

/-- A timeout counted, and noted in its flow. -/
def State.timedOut (s : State) (d : Nat) : State := (s.addCnt Reg.fabCntRto 1).setFlow d (s.lateFlow d)

/-- A timeout, its frames sent again and its rates halved. -/
def State.sentAgain (s : State) (d : Nat) : State := ((s.timedOut d).resendAll d (s.overdue (s.flow d))).halvePaths d

theorem timeoutOf_eq {s : State} {d : Nat} (hup : (s.flow d).down = false) (hlate : s.overdue (s.flow d) ≠ []) :
    s.timeoutOf d = if 8 ≤ (s.flow d).expiries + 1
      then (s.sentAgain d).showDown.event 0x0601 Src.module none (dataOf [(0, d), (2, (s.flow d).gen)]) else s.sentAgain d := by
  have hempty : (s.overdue (s.flow d)).isEmpty = false := by
    cases h : s.overdue (s.flow d) with
    | nil => exact absurd h hlate
    | cons => rfl
  unfold State.timeoutOf
  dsimp only
  rw [if_neg (by rw [hup, hempty]; exact Bool.false_ne_true)]
  rfl

theorem timedOut_paths (s : State) (d : Nat) : (s.timedOut d).paths d = s.paths d := ((addCnt_sent s _ 1).trans (setFlow_sent _ d _)).paths d

theorem timedOut_cnt (s : State) (d : Nat) : (s.timedOut d).cnt Reg.fabCntRto = s.cnt Reg.fabCntRto + 1 ∧
    (s.timedOut d).cnt Reg.fabCntRetransmit = s.cnt Reg.fabCntRetransmit :=
  ⟨cnt_addCnt_same s _ 1, cnt_addCnt_ne s 1 (by decide)⟩

theorem halvePaths_only (s : State) (d : Nat) : RatesOnly s (s.halvePaths d) := RatesOnly.foldl (State.halvePath d) (fun _ _ => rfl) (s.paths d) s

theorem RatesOnly.flow {s t : State} (h : RatesOnly s t) (d : Nat) : t.flow d = s.flow d :=
  flow_congr ((congrArg (fun u : State => u.fab.flows) h).trans rfl) ((congrArg State.regs h).trans rfl) d

theorem RatesOnly.cnt {s t : State} (h : RatesOnly s t) (a : Nat) : t.cnt a = s.cnt a :=
  congrArg (fun c => SMap.get (fun _ => (0 : DWord)) c a) ((congrArg State.cnts h).trans rfl)

/-- The flow and the counter after a timeout, whatever its paths. -/
theorem sentAgain_flow (s : State) (d : Nat) : FlowSame (s.lateFlow d) ((s.sentAgain d).flow d) ∧
    (s.sentAgain d).cnt Reg.fabCntRto = s.cnt Reg.fabCntRto + 1 := by
  obtain ⟨hcnt, -⟩ := timedOut_cnt s d
  have hfirst : (s.timedOut d).flow d = s.lateFlow d := flow_setFlow_same _ _ _
  have hhalve := halvePaths_only ((s.timedOut d).resendAll d (s.overdue (s.flow d))) d
  unfold State.sentAgain
  rw [hhalve.flow, hhalve.cnt]
  by_cases hp : s.paths d = []
  · rw [resendAll_no_path ((timedOut_paths s d).trans hp), hfirst]
    exact ⟨.refl _, hcnt⟩
  · obtain ⟨-, -, hflow, hrto, -⟩ := resendAll_resent (s := s.timedOut d) (by rwa [timedOut_paths]) (s.overdue (s.flow d))
    exact ⟨hfirst ▸ hflow d, hrto.trans hcnt⟩

theorem sentAgain_count {s : State} {d : Nat} (hp : s.paths d ≠ []) : (s.sentAgain d).cnt Reg.fabCntRetransmit =
    s.cnt Reg.fabCntRetransmit + BitVec.ofNat 64 (s.overdue (s.flow d)).length := by
  obtain ⟨-, hcnt⟩ := timedOut_cnt s d
  obtain ⟨-, -, -, -, hmore⟩ := resendAll_resent (s := s.timedOut d) (by rwa [timedOut_paths]) (s.overdue (s.flow d))
  rw [State.sentAgain, (halvePaths_only _ d).cnt, hmore, hcnt]

theorem sentAgain_rate {s : State} {d : Nat} (h : ∀ p ∈ s.paths d, p.2 < 256) {p : Nat × Nat} (hp : p ∈ s.paths d) :
    ((s.sentAgain d).rate d p.1 p.2).rate = max 1000 (min 800000 ((s.rate d p.1 p.2).rate / 2)) := by
  obtain ⟨hsent, hrates, -, -, -⟩ := resendAll_resent (s := s.timedOut d) (d := d)
    (by rw [timedOut_paths]; exact List.ne_nil_of_mem hp) (s.overdue (s.flow d))
  have hpaths : ((s.timedOut d).resendAll d (s.overdue (s.flow d))).paths d = s.paths d := (hsent.paths d).trans (timedOut_paths s d)
  have hrate : ((s.timedOut d).resendAll d (s.overdue (s.flow d))).rate d p.1 p.2 = s.rate d p.1 p.2 := by
    rw [State.rate, hrates]
    rfl
  rw [State.sentAgain, halvePaths_eq, hpaths, halved_rates (s.paths d) d _ (paths_nodup s d) h hp, hrate]

/-- A flow in which a peer's fall is entered stays as it was. -/
theorem showDown_flow (s : State) (d : Nat) (src : Nat × Nat) (data : Nat) : ((s.showDown.event 0x0601 src none data).flow d) = s.flow d := by
  have hreg : (s.showDown.event 0x0601 src none data).reg Reg.fabIncarnation = s.reg Reg.fabIncarnation := by
    rw [State.reg_event _ _ _ _ _ _ (by decide) (by decide)]
    exact State.reg_setFld_ne _ _ _ _ (by decide)
  rw [State.flow, State.event_fab, State.fld, hreg]
  rfl

theorem timeoutOf_down {s : State} {d : Nat} (hup : (s.flow d).down = false) (hlate : s.overdue (s.flow d) ≠ []) (h : 7 ≤ (s.flow d).expiries) :
    ((s.timeoutOf d).flow d).down = true ∧ ((s.timeoutOf d).flow d).expiries = (s.flow d).expiries + 1 := by
  obtain ⟨⟨hflow, -⟩, -⟩ := sentAgain_flow s d
  rw [timeoutOf_eq hup hlate, if_pos (by omega), showDown_flow, hflow]
  exact ⟨decide_eq_true (by omega), rfl⟩

theorem timeoutOf_again {s : State} {d : Nat} (hup : (s.flow d).down = false) (hlate : s.overdue (s.flow d) ≠ []) (h : (s.flow d).expiries < 7) :
    s.timeoutOf d = s.sentAgain d := (timeoutOf_eq hup hlate).trans (if_neg (by omega))

/-- What a timeout before the eighth leaves of its flow (R450). -/
theorem sentAgain_shows {s : State} {d : Nat} (h : (s.flow d).expiries < 7) : ((s.sentAgain d).flow d).expiries = (s.flow d).expiries + 1 ∧
    ((s.sentAgain d).flow d).down = false ∧ ((s.sentAgain d).flow d).lastRto = s.tick ∧
    ((s.sentAgain d).flow d).timeout = min (64 * s.inforce Key.rto) (2 * (if (s.flow d).timeout = 0 then s.inforce Key.rto else (s.flow d).timeout)) ∧
    (s.sentAgain d).cnt Reg.fabCntRto = s.cnt Reg.fabCntRto + 1 := by
  obtain ⟨⟨hflow, -⟩, hcnt⟩ := sentAgain_flow s d
  rw [hflow]
  exact ⟨rfl, decide_eq_false (by omega), rfl, rfl, hcnt⟩

theorem speedPath_due {s : State} {d port entry : Nat} (hp : (s.paths d).contains (port, entry) = true)
    (hd : ∀ x, (s.rate d port entry).lastDec = some x → x + 250 ≤ s.tick) :
    s.speedPath d port entry = s.setRate d port entry ⟨(s.rate d port entry).rate + (if (s.rate d port entry).quiet < 5 then 8000 else 40000),
      min ((s.rate d port entry).quiet + 1) 5, (s.rate d port entry).lastDec, (s.rate d port entry).lastCe⟩ := by
  unfold State.speedPath
  dsimp only
  refine if_pos ?_
  rw [hp, Bool.true_and]
  cases h : (s.rate d port entry).lastDec with
  | none => rfl
  | some x => exact decide_eq_true (hd x h)

theorem speedPath_early {s : State} {d port entry x : Nat} (hd : (s.rate d port entry).lastDec = some x) (h : s.tick < x + 250) :
    s.speedPath d port entry = s := by
  unfold State.speedPath
  dsimp only
  rw [hd]
  exact if_neg (by simp [Nat.not_le.mpr h])

end Sys2Proof.Machine

namespace Sys2Proof.Proofs
open Sys2Proof.Machine

/-- Settles O58: the frame that carries a breach stands in the flow of each peer, by induction over the peers; an endpoint's write by its four cases. -/
theorem breachesAndEndpoints : Obligations.BreachesAndEndpoints := by
  unfold Obligations.BreachesAndEndpoints
  intro s v hopen
  have hsend : v.getLsbD 31 = true → doBreachSend v s = s.fresh.originBreach (Machine.fld v 4 0) (Config.freeNat s.freeCtr % 256) := fun hv =>
    (if_pos hopen).trans (if_pos hv)
  refine ⟨fun hv => ⟨?_, fun hnone => ?_, fun hsome => ?_⟩, fun hv => ?_, fun p hp => ⟨?_, ?_⟩, fun e he => ⟨fun hb hv hok => ?_, fun hb hv hok => ?_,
    fun hb hv => ?_, fun hv => ?_⟩⟩
  · exact becomes_of (exec_breachSend v s) rfl (hsend hv)
  · exact becomes_of (exec_breachSend v s) rfl ((hsend hv).trans (originBreach_none (s := s.fresh) _ hnone))
  · refine completes_apart (fun _ _ h => h) (exec_breachSend v s) rfl ?_
    rw [hsend hv]
    exact originBreach_shows (s := s.fresh) _ hsome
  · exact becomes_of (exec_breachSend v s) rfl ((if_pos hopen).trans (if_neg (by rw [hv]; exact Bool.false_ne_true)))
  · exact becomes_of (exec_breachLatchClear p s) (decide_eq_true hp) (if_pos hopen)
  · refine completes_apart (fun _ _ h => h) (exec_breachLatchClear p s) (decide_eq_true hp) ?_
    rw [doBreachLatchClear, if_pos hopen]
    exact State.bit_setBit_same _ _ _ _ (by decide)
  · refine completes_of (exec_fabEpValid e v s) (decide_eq_true he) ?_
    rw [doFabEpValid, if_pos hopen, writeEpCtrl_taken hb (.inr hok)]
    exact ⟨(epStored_valid s e v).trans hv, regsOnly_undone ((RegsOnly.refl s).setReg _ _)⟩
  · refine completes_of (exec_fabEpValid e v s) (decide_eq_true he) ?_
    rw [doFabEpValid, if_pos hopen, writeEpCtrl_refused hb hv hok]
    obtain ⟨h1, h2⟩ := epRefused_shows s (e := e) v
    exact ⟨h1, h2, regsOnly_undone (((RegsOnly.refl s).setReg _ _).setBit _ _ _)⟩
  · refine becomes_of (exec_fabEpValid e v s) (decide_eq_true he) ((if_pos hopen).trans ?_)
    rw [State.writeEpCtrl, hb, hv]
    rfl
  · refine completes_of (exec_fabEpValid e v s) (decide_eq_true he) ?_
    rw [doFabEpValid, if_pos hopen, writeEpCtrl_invalidates hv]
    exact (epStored_valid s e v).trans hv

/-- Settles O57: each timer through its row's equation; what sending again leaves of a flow by `FlowSame`, the count of the frames sent again by
induction over them, and the rates by induction over the paths, each listed once. -/
theorem fabricTimers : Obligations.FabricTimers := by
  unfold Obligations.FabricTimers
  intro s d hd
  refine ⟨fun r t hr ht => ⟨fun hdue => ?_, fun hearly => ?_⟩, fun hup hlate => ⟨fun hp he => ?_, fun he => ?_, fun he => ?_⟩, fun hnone => ?_,
    fun t l hdown hdue hq => ?_, fun hup => ?_, fun psn t hf hdue => ?_, fun port entry hp he hc => ⟨fun hdue => ?_, fun x hx hearly => ?_⟩⟩
  · refine becomes_of (exec_ackTimer d s) (decide_eq_true hd) ?_
    rw [doAckTimer, hr, Option.bind_some, ht]
    refine (if_pos hdue).trans ?_
    rw [State.sendAck, hr]
  · refine becomes_of (exec_ackTimer d s) (decide_eq_true hd) ?_
    rw [doAckTimer, hr, Option.bind_some, ht]
    exact if_neg (Nat.not_le.mpr hearly)
  · refine completes_apart (fun _ _ h => h) (exec_retransmitTimeout d s) (decide_eq_true hd) ?_
    rw [doRetransmitTimeout, timeoutOf_again hup hlate he]
    obtain ⟨h1, h2, -, -, h3⟩ := sentAgain_shows he
    exact ⟨h1, h2, h3⟩
  · refine completes_apart (fun _ _ h => h) (exec_retransmitTimeout d s) (decide_eq_true hd) ?_
    rw [doRetransmitTimeout, timeoutOf_again hup hlate he]
    obtain ⟨h1, h2, h3, h4, h5⟩ := sentAgain_shows he
    exact ⟨h1, h2, h3, h4, h5, sentAgain_count, fun h p hp => sentAgain_rate h hp⟩
  · exact completes_apart (fun _ _ h => h) (exec_retransmitTimeout d s) (decide_eq_true hd) (timeoutOf_down hup hlate he)
  · refine becomes_of (exec_retransmitTimeout d s) (decide_eq_true hd) ?_
    rw [doRetransmitTimeout, State.timeoutOf, hnone]
    exact if_pos (Bool.or_true _)
  · refine becomes_of (exec_peerDownRetransmit d s) (decide_eq_true hd) ?_
    have hhead : (s.flow d).unacked.head? = some t := congrArg List.head? hq
    rw [doPeerDownRetransmit, State.probeDown, if_neg (by simp [hdown, Nat.not_lt.mpr hdue]), hhead]
  · refine becomes_of (exec_peerDownRetransmit d s) (decide_eq_true hd) ?_
    rw [doPeerDownRetransmit, State.probeDown, hup]
    rfl
  · refine becomes_of (exec_busyRetry d psn s) (decide_eq_true hd) ?_
    rw [doBusyRetry, State.busyAgain, hf]
    exact if_neg (Nat.not_lt.mpr hdue)
  · refine completes_of (exec_rateIncrease d port entry s) (decide_eq_true ⟨hd, hp, he⟩) ?_
    rw [doRateIncrease, speedPath_due hc hdue]
    exact ⟨congrArg PathRate.rate (setRate_rate s d port entry _), rfl⟩
  · exact becomes_of (exec_rateIncrease d port entry s) (decide_eq_true ⟨hd, hp, he⟩) (speedPath_early hx hearly)

end Sys2Proof.Proofs
end

section
/-! PROOF. A write of a parity group's control register keeps bit 30 (R585). -/
namespace Sys2Proof.Machine

/-- A module after reset, bit 30 of the control register of parity group 0 standing, as a restore sets it, and VALID not. -/
def restoring : State := State.reset.setReg (Reg.parGrpCtrl 0) 0x40000000

/-- What arrives with a command when nothing does. -/
def nothingArrives : Env := { stores := [], unmapped := [], poisoned := [], upsets := [], sram := [] }

theorem restoring_open : ((restoring.arrive nothingArrives).hostOpen = true ∧ (restoring.arrive nothingArrives).parValid 0 = false) ∧
    ((doParGrpValid 0 0 nothingArrives restoring).bit (Reg.parGrpCtrl 0) 30 = true ∧
      ((restoring.arrive nothingArrives).setReg (Reg.parGrpCtrl 0) ((0 : Word) &&& 0x1F1F7F)).bit (Reg.parGrpCtrl 0) 30 = false) := by decide +kernel

end Sys2Proof.Machine

namespace Sys2Proof.Proofs
open Sys2Proof.Machine

/-- Refutes O60: its clause on a write that leaves VALID clear says that the group's control register becomes the value's fields alone, but the write
keeps bit 30 of the register, which stands here while the write carries 0. -/
theorem not_cascadeAndParity : ¬ Obligations.CascadeAndParity := by
  unfold Obligations.CascadeAndParity
  intro h
  obtain ⟨⟨hopen, hvalid⟩, hkept, hlost⟩ := restoring_open
  obtain ⟨-, -, -, hwrite, -⟩ := (h.2 restoring 0 0 0 nothingArrives (by decide) (by decide)).1 hopen
  have hbecomes := hwrite hvalid (by decide)
  have hruns := (exec_parGrpValid 0 0 nothingArrives restoring).trans (guarded_next (s := restoring) rfl)
  injection hruns.symm.trans hbecomes with hstates
  have hbits := congrArg (fun t : State => t.bit (Reg.parGrpCtrl 0) 30) hstates
  rw [State.withQueue_read_bit, State.withQueue_read_bit, hkept, hlost] at hbits
  cases hbits

end Sys2Proof.Proofs
end

section
/-! PROOF. RoCEv2 requests (R467, R468). -/
namespace Sys2Proof.Machine

theorem doRdmaWrite_taken {s t : State} {q : Rdma} {env : Env} (h : (s.arrive env).qpIntake q = (true, t)) : doRdmaWrite q env s =
    if t.qpOrder q = 0 then t.rdmaWrite q
    else if t.qpOrder q = 1 then t.qpSend q.port q.qp 5 (t.fld (Reg.fabQpPsn q.qp) 23 0 + 2 ^ 24 - 1) 20 []
    else t.qpNak q (t.fld (Reg.fabQpPsn q.qp) 23 0) 0 := by
  rw [doRdmaWrite, h]

theorem doRdmaRead_taken {s t : State} {q : Rdma} {env : Env} (h : (s.arrive env).qpIntake q = (true, t))
    (hq : SMap.get (fun _ => none) t.fab.qps q.qp = none) : doRdmaRead q env s =
    if t.qpOrder q = 2 then t.qpNak q (t.fld (Reg.fabQpPsn q.qp) 23 0) 0 else t.rdmaRead q (decide (t.qpOrder q = 0)) := by
  rw [doRdmaRead, h]
  dsimp only
  rw [hq]
  rfl

/-- A queue pair after a packet of a WRITE, which is acknowledged. -/
def State.stored (s : State) (q : Rdma) (x : Option (Nat × Nat × Nat)) : State :=
  (({ s with fab := { s.fab with qps := SMap.set (fun _ => none) s.fab.qps q.qp x } } : State).qpAdvance q 1).qpSend q.port q.qp 5 q.psn 20 []

/-- The packet of a WRITE stored: the message's place moved on, or the message ended (R467). -/
theorem rdmaWrite_stored {t u : State} {q : Rdma} {rkey va left p a : Nat} (hpart : t.writePart q = some (rkey, va, left))
    (hacc : t.qpAccess q.qp rkey va left 1 = some (p, a)) (hw : t.physWrite Req.peer (addrCore a) (addrOff a) q.data = (0, u)) :
    t.rdmaWrite q = u.stored q (if q.kind = 0 || q.kind = 1 then some (rkey, va + q.data.length, left - q.data.length) else none) := by
  rw [State.rdmaWrite, hpart]
  dsimp only
  rw [hacc]
  dsimp only
  rw [hw]
  rfl

theorem rdmaRead_served {t u : State} {q : Rdma} {p a : Nat} {data : List Byte} (hacc : t.qpAccess q.qp q.rkey q.va q.len 0 = some (p, a))
    (hr : t.physRead Req.peer (addrCore a) (addrOff a) q.len = (data, [], u)) :
    t.rdmaRead q true = (u.qpAdvance q (max 1 (cdiv q.len 4096))).qpRespond q data := by
  rw [State.rdmaRead, hacc]
  dsimp only
  rw [hr]
  rfl

/-- A packet that names no queue pair of the module, or whose ICRC is wrong, is discarded where it came in (R467). -/
theorem qpIntake_discards {s : State} {q : Rdma} (h : q.icrc = false ∨ q.qpn < 0x100000 ∨ 0x100400 ≤ q.qpn) (hport : s.receives q.port = true) :
    ∃ bytes, s.qpIntake q = (false, (s.countRx q.port bytes q.ce).rxDrop q.port) := by
  have hno : ∀ t : State, (t.inService q.port && q.icrc && decide (0x100000 ≤ q.qpn) && decide (q.qp < 1024) && t.bit (Reg.fabQpCtrl q.qp) 31) = false := fun t => by
    rcases h with h | h | h
    · rw [h, Bool.and_false]; rfl
    · rw [decide_eq_false (by omega), Bool.and_false]; rfl
    · rw [decide_eq_false (p := q.qp < 1024) (by unfold Rdma.qp; omega), Bool.and_false]; rfl
  rw [State.qpIntake, hport]
  dsimp only
  refine ⟨ipOver (s.qpGid q.qp) + (if q.kind = 0 || q.kind = 3 || q.kind = 4 then 32 else 16) + q.data.length, ?_⟩
  rw [hno]
  rfl

theorem countRx_sent (s : State) (port bytes : Nat) (ce : Bool) : Sent s (s.countRx port bytes ce) := by
  have hfec : Sent s (s.countFec port) := rfl
  have hcount := (hfec.trans (addCnt_sent _ (Reg.fabPortCntRxFrames port) 1)).trans (addCnt_sent _ (Reg.fabPortCntRxBytes port) bytes)
  unfold State.countRx
  exact .ite (hcount.trans (addCnt_sent _ _ 1)) hcount

theorem countRx_out (s : State) (port bytes : Nat) (ce : Bool) : (s.countRx port bytes ce).out = s.out := by
  unfold State.countRx
  exact ite_keeps State.out rfl rfl

end Sys2Proof.Machine

namespace Sys2Proof.Proofs
open Sys2Proof.Machine

/-- Settles O59: by the order of a request that was taken in, and by the discard of one that was not. -/
theorem remoteMemory : Obligations.RemoteMemory := by
  unfold Obligations.RemoteMemory
  intro s q env t hqpn hport
  refine ⟨fun hk hin => ⟨fun h0 => ⟨?_, fun rkey va left p a u hpart hacc hw => ⟨fun hlast => ?_, fun hmore => ?_⟩⟩, fun h1 => ?_, fun h2 => ?_⟩,
    fun hk hin => ?_, fun hk hin hnone => ⟨fun h0 => ⟨?_, fun p a data u hacc hr => ?_⟩, fun h1 => ?_, fun h2 => ?_⟩, fun hk hin => ?_,
    fun hin => ?_, fun hin => ?_, fun h hrx => ?_⟩
  · exact becomes_of (exec_rdmaWrite q env s) (decide_eq_true ⟨hqpn, hport, hk⟩) ((doRdmaWrite_taken hin).trans (if_pos h0))
  · refine becomes_of (exec_rdmaWrite q env s) (decide_eq_true ⟨hqpn, hport, hk⟩) ?_
    rw [doRdmaWrite_taken hin, if_pos h0, rdmaWrite_stored hpart hacc hw, if_neg (by simp only [Bool.or_eq_true, decide_eq_true_eq]; omega)]
    rfl
  · refine becomes_of (exec_rdmaWrite q env s) (decide_eq_true ⟨hqpn, hport, hk⟩) ?_
    rw [doRdmaWrite_taken hin, if_pos h0, rdmaWrite_stored hpart hacc hw, if_pos (by simp only [Bool.or_eq_true, decide_eq_true_eq]; omega)]
    rfl
  · exact becomes_of (exec_rdmaWrite q env s) (decide_eq_true ⟨hqpn, hport, hk⟩)
      ((doRdmaWrite_taken hin).trans ((if_neg (by omega)).trans (if_pos h1)))
  · exact becomes_of (exec_rdmaWrite q env s) (decide_eq_true ⟨hqpn, hport, hk⟩)
      ((doRdmaWrite_taken hin).trans ((if_neg (by omega)).trans (if_neg (by omega))))
  · exact becomes_of (exec_rdmaWrite q env s) (decide_eq_true ⟨hqpn, hport, hk⟩) (by rw [doRdmaWrite, hin])
  · refine becomes_of (exec_rdmaRead q env s) (decide_eq_true ⟨hqpn, hport, hk⟩) ((doRdmaRead_taken hin hnone).trans ?_)
    rw [if_neg (by omega), h0]
    rfl
  · refine becomes_of (exec_rdmaRead q env s) (decide_eq_true ⟨hqpn, hport, hk⟩) ((doRdmaRead_taken hin hnone).trans ?_)
    rw [if_neg (by omega), h0]
    exact rdmaRead_served hacc hr
  · refine becomes_of (exec_rdmaRead q env s) (decide_eq_true ⟨hqpn, hport, hk⟩) ((doRdmaRead_taken hin hnone).trans ?_)
    rw [if_neg (by omega), h1]
    rfl
  · exact becomes_of (exec_rdmaRead q env s) (decide_eq_true ⟨hqpn, hport, hk⟩) ((doRdmaRead_taken hin hnone).trans (if_pos h2))
  · exact becomes_of (exec_rdmaRead q env s) (decide_eq_true ⟨hqpn, hport, hk⟩) (by rw [doRdmaRead, hin])
  · exact becomes_of (exec_rdmaInvalid q s) (decide_eq_true hport) (by rw [doRdmaInvalid, hin])
  · exact becomes_of (exec_rdmaInvalid q s) (decide_eq_true hport) (by rw [doRdmaInvalid, hin])
  · refine completes_apart (fun _ _ h => h) (exec_rdmaInvalid q s) (decide_eq_true hport) ?_
    obtain ⟨bytes, hin⟩ := qpIntake_discards h hrx
    rw [doRdmaInvalid, hin]
    exact ⟨countRx_out s q.port bytes q.ce, (countRx_sent s q.port bytes q.ce).mem⟩

end Sys2Proof.Proofs
end

section
/-! PROOF. Fabric ports and their other packets (R439, R440, R476, R635). -/
namespace Sys2Proof.Machine

/-! ### Links -/

/-- A port's status with its link and lanes. -/
def State.linked (s : State) (port lanes : Nat) : State := (s.setBit (Reg.fabPortStatus port) 0 true).setFld (Reg.fabPortStatus port) 19 16 lanes

theorem linked_shows (s : State) (port : Nat) {lanes : Nat} (h : lanes < 16) : (s.linked port lanes).portUp port = true ∧
    (s.linked port lanes).fld (Reg.fabPortStatus port) 19 16 = lanes ∧ (s.linked port lanes).cmds = s.cmds := by
  unfold State.linked
  refine ⟨?_, ?_, rfl⟩
  · rw [State.portUp, State.bit_setFld_ne _ _ (by decide) (.inr (.inl (by decide))), State.bit_setBit_same _ _ _ _ (by decide)]
  · rw [State.fld_setFld_same _ _ _ _ _ (by decide) (by decide)]
    exact Nat.mod_eq_of_lt h

/-- Frames that waited for a path sent: the ports' status stays. -/
theorem pumped_shows (s : State) (l : List Nat) (port : Nat) : (l.foldl State.pump s).portUp port = s.portUp port ∧
    (l.foldl State.pump s).fld (Reg.fabPortStatus port) 19 16 = s.fld (Reg.fabPortStatus port) 19 16 ∧ (l.foldl State.pump s).cmds = s.cmds := by
  have h := (Posted.foldl State.pump l (fun s d _ => .pump s d) s).1
  exact ⟨bit_congr_regs h.regs _ _, fld_congr_regs h.regs _ _ _, h.cmds⟩

theorem doPortLinkUp_comes {s : State} {port : Nat} (h1 : s.recovery = false) (h2 : s.pcie.bring = none) (h3 : port < portCount s.variant)
    (h4 : s.portUp port = false) : doPortLinkUp port s = s.peerDevices.foldl State.pump (s.linked port 8) := by
  unfold doPortLinkUp
  rw [if_pos (by rw [h1, h2, h4, decide_eq_true h3]; rfl)]
  rfl

theorem nextRetrain_none {s : State} (h : s.fab.retrainQ = []) : s.nextRetrain = s := by
  unfold State.nextRetrain
  rw [h]
  exact ite_self s

theorem retraining_setRetrain (s : State) (port : Nat) (r : Option Retrain) : (s.setRetrain port r).retraining port = r :=
  SMap.get_set_same (fun _ => (none : Option Retrain)) s.fab.retrain port r

/-- A retraining set leaves everything that is not of the fabric. -/
theorem setRetrain_keeps (s : State) (port : Nat) (r : Option Retrain) : (s.setRetrain port r).regs = s.regs ∧ (s.setRetrain port r).cmds = s.cmds ∧
    (s.setRetrain port r).mem = s.mem := ⟨rfl, rfl, rfl⟩

/-- A port's status without its link. -/
def State.statusDown (s : State) (port : Nat) : State :=
  ((s.setBit (Reg.fabPortStatus port) 0 false).setBit (Reg.fabPortStatus port) 3 false).setFld (Reg.fabPortStatus port) 19 16 0

theorem statusDown_shows (s : State) (port : Nat) : (s.statusDown port).bit (Reg.fabPortStatus port) 0 = false ∧
    (s.statusDown port).fld (Reg.fabPortStatus port) 19 16 = 0 ∧ RegsOnly s (s.statusDown port) := by
  unfold State.statusDown
  refine ⟨?_, State.fld_setFld_same _ _ _ _ _ (by decide) (by decide), (((RegsOnly.refl s).setBit _ _ _).setBit _ _ _).setFld _ _ _ _⟩
  rw [State.bit_setFld_ne _ _ (by decide) (.inr (.inl (by decide))), State.bit_setBit_ne _ _ _ _ _ _ (.inr (by decide)),
    State.bit_setBit_same _ _ _ _ (by decide)]

theorem unlinked_shows (s : State) (port : Nat) : ((s.statusDown port).setRetrain port none).portUp port = false ∧
    ((s.statusDown port).setRetrain port none).fld (Reg.fabPortStatus port) 19 16 = 0 ∧
    ((s.statusDown port).setRetrain port none).retraining port = none ∧ ((s.statusDown port).setRetrain port none).cmds = s.cmds ∧
    ((s.statusDown port).setRetrain port none).mem = s.mem := by
  obtain ⟨hbit, hfld, hregs⟩ := statusDown_shows s port
  obtain ⟨k1, k2, k3⟩ := setRetrain_keeps (s.statusDown port) port none
  exact ⟨(bit_congr_regs k1 _ _).trans hbit, (fld_congr_regs k1 _ _ _).trans hfld, retraining_setRetrain _ _ _,
    k2.trans ((congrArg State.cmds hregs).trans rfl), k3.trans ((congrArg State.mem hregs).trans rfl)⟩

/-- The retrainings of a port abandoned, and the next one's turn. -/
def State.retrainsGone (s : State) (port : Nat) : State :=
  let its := (s.fab.retrainQ.filter (fun x => x.1 == port)).map (fun x => x.2)
  let gone := match s.retraining port with
    | some r => r :: its
    | none => its
  let s := gone.foldl State.retrainTold s
  let s := { s with fab := { s.fab with retrainQ := s.fab.retrainQ.filter (fun x => x.1 != port) } }
  (s.setRetrain port none).nextRetrain

theorem retrainsGone_none {s : State} {port : Nat} (hr : s.retraining port = none) (hq : s.fab.retrainQ = []) :
    s.retrainsGone port = s.setRetrain port none := by
  have hgone : { s with fab := { s.fab with retrainQ := s.fab.retrainQ.filter (fun x => x.1 != port) } } = s := by
    rw [hq]
    exact congrArg (fun q => { s with fab := { s.fab with retrainQ := q } }) hq.symm
  unfold State.retrainsGone
  rw [hr]
  dsimp only
  rw [show (s.fab.retrainQ.filter (fun x => x.1 == port)).map (fun x => x.2) = [] from by rw [hq]; rfl, List.foldl_nil, hgone]
  exact nextRetrain_none hq

theorem doPortLinkDown_goes {s : State} {port : Nat} (hup : s.portUp port = true) (hr : s.retraining port = none) (hq : s.fab.retrainQ = []) :
    doPortLinkDown port s = (s.statusDown port).setRetrain port none := by
  have hfab : (s.statusDown port).fab = s.fab := (congrArg State.fab (statusDown_shows s port).2.2).trans rfl
  have hrow : doPortLinkDown port s = (s.statusDown port).retrainsGone port := if_pos hup
  rw [hrow]
  exact retrainsGone_none (by rw [State.retraining, hfab, ← State.retraining, hr]) (by rw [hfab, hq])

/-! ### Retraining -/

theorem beginRetrain_shows (s : State) (port : Nat) (r : Retrain) : (s.beginRetrain port r).retraining port = some { r with step := 1 } ∧
    (s.beginRetrain port r).bit (Reg.fabPortStatus port) 3 = true :=
  ⟨retraining_setRetrain s port _, State.bit_setBit_same _ _ _ _ (by decide)⟩

theorem doLaneRetrainTrigger_begins {s : State} {port lane : Nat} (hup : s.portUp port = true) (hr : s.fab.retrain = []) (hq : s.fab.retrainQ = []) :
    doLaneRetrainTrigger port lane s = s.beginRetrain port ⟨lane, 1, [], none⟩ := by
  have hnone : s.retraining port = none := by rw [State.retraining, hr]; rfl
  have hstart : s.startRetrain port ⟨lane, 1, [], none⟩ = s.beginRetrain port ⟨lane, 1, [], none⟩ := by
    rw [State.startRetrain, hnone, hr]
    rfl
  unfold doLaneRetrainTrigger
  rw [hnone, hq, hup, ← hstart]
  rfl

/-- A retraining at its next step, on some number of lanes (R635). -/
def State.retrainAt (s : State) (port : Nat) (r : Retrain) (lanes : Nat) : State :=
  (s.setRetrain port (some r)).setFld (Reg.fabPortStatus port) 19 16 lanes

theorem retrainAt_shows (s : State) (port : Nat) (r : Retrain) {lanes : Nat} (h : lanes < 16) :
    (s.retrainAt port r lanes).retraining port = some r ∧ (s.retrainAt port r lanes).fld (Reg.fabPortStatus port) 19 16 = lanes :=
  ⟨retraining_setRetrain s port _, (State.fld_setFld_same _ _ _ _ _ (by decide) (by decide)).trans (Nat.mod_eq_of_lt h)⟩

/-- A retraining at its end. -/
def State.retrainOver (s : State) (port : Nat) : State := (s.setBit (Reg.fabPortStatus port) 3 false).setRetrain port none

theorem retrainOver_shows (s : State) (port : Nat) : (s.retrainOver port).retraining port = none ∧
    (s.retrainOver port).bit (Reg.fabPortStatus port) 3 = false ∧ (s.retrainOver port).cmds = s.cmds := by
  obtain ⟨k1, k2, -⟩ := setRetrain_keeps (s.setBit (Reg.fabPortStatus port) 3 false) port none
  exact ⟨retraining_setRetrain _ _ _, (bit_congr_regs k1 _ _).trans (State.bit_setBit_same _ _ _ _ (by decide)), k2⟩

theorem doLaneRetrainStepDone_last {s : State} {port : Nat} {r : Retrain} (hr : s.retraining port = some r) (h3 : r.step = 3) (ht : r.todo = [])
    (hc : r.cmd = none) (hq : s.fab.retrainQ = []) : doLaneRetrainStepDone port s = s.retrainOver port := by
  have htold : (s.retrainOver port).retrainTold r = s.retrainOver port := by rw [State.retrainTold, hc]
  rw [doLaneRetrainStepDone, hr]
  dsimp only
  rw [if_neg (by omega), if_neg (by omega), ht]
  dsimp only
  rw [← State.retrainOver, htold]
  exact nextRetrain_none hq

/-! ### Packets -/

theorem countRx_service (s : State) (port bytes : Nat) (ce : Bool) (p : Nat) : (s.countRx port bytes ce).inService p = s.inService p ∧
    (s.countRx port bytes ce).portAddr p = s.portAddr p ∧ (s.countRx port bytes ce).macBytes p = s.macBytes p ∧
    ∀ a i, (s.countRx port bytes ce).bit a i = s.bit a i := by
  have h := countRx_sent s port bytes ce
  refine ⟨(congrArg (State.inService · p) h).trans rfl, (congrArg (State.portAddr · p) h).trans rfl, ?_, fun a i => bit_congr_regs h.regs a i⟩
  rw [State.macBytes, State.nat, State.nat, State.reg, State.reg, h.regs]
  rfl

/-- What a received frame counts, where its port discards it. -/
theorem countRx_counts (s : State) (port bytes : Nat) : (s.countRx port bytes false).cnt (Reg.fabPortCntRxDiscard port) =
      s.cnt (Reg.fabPortCntRxDiscard port) ∧
    (s.countRx port bytes false).cnt (Reg.fabPortCntRxFrames port) = s.cnt (Reg.fabPortCntRxFrames port) + 1 := by
  have hfec : ∀ a, a ≠ Reg.fabPortCntFecCorr port → a ≠ Reg.fabPortCntFecUncorr port → (s.countFec port).cnt a = s.cnt a := fun a h1 h2 =>
    (cnt_addCnt_ne _ _ h2).trans (cnt_addCnt_ne s _ h1)
  have hrow : s.countRx port bytes false = ((s.countFec port).addCnt (Reg.fabPortCntRxFrames port) 1).addCnt (Reg.fabPortCntRxBytes port) bytes := rfl
  have hne : ∀ i j : Nat, i ≠ j → 0x300000 + i + 0x1000 * port ≠ 0x300000 + j + 0x1000 * port := fun i j h => by omega
  rw [hrow]
  refine ⟨?_, ?_⟩
  · rw [cnt_addCnt_ne _ _ (hne 0x70 0x58 (by decide)), cnt_addCnt_ne _ _ (hne 0x70 0x48 (by decide)),
      hfec _ (hne 0x70 0x60 (by decide)) (hne 0x70 0x68 (by decide))]
  · rw [cnt_addCnt_ne _ _ (hne 0x48 0x58 (by decide)), cnt_addCnt_same, hfec _ (hne 0x48 0x60 (by decide)) (hne 0x48 0x68 (by decide))]
    rfl

/-- A frame counted and discarded (R439). -/
theorem dropped_shows (s : State) (port bytes : Nat) : ((s.countRx port bytes false).rxDrop port).cnt (Reg.fabPortCntRxDiscard port) =
      s.cnt (Reg.fabPortCntRxDiscard port) + 1 ∧
    ((s.countRx port bytes false).rxDrop port).cnt (Reg.fabPortCntRxFrames port) = s.cnt (Reg.fabPortCntRxFrames port) + 1 ∧
    ((s.countRx port bytes false).rxDrop port).regs = s.regs ∧ ((s.countRx port bytes false).rxDrop port).out = s.out := by
  obtain ⟨hdrop, hframes⟩ := countRx_counts s port bytes
  have hne : Reg.fabPortCntRxFrames port ≠ Reg.fabPortCntRxDiscard port := by show 0x300048 + 0x1000 * port ≠ 0x300070 + 0x1000 * port; omega
  unfold State.rxDrop
  refine ⟨?_, ?_, (countRx_sent s port bytes false).regs, countRx_out s port bytes false⟩
  · rw [cnt_addCnt_same, hdrop]
    rfl
  · rw [cnt_addCnt_ne _ _ hne, hframes]

/-- A register's bit set leaves the counters and what was sent. -/
theorem setBit_counts (s : State) (a i : Nat) (x : Bool) : (∀ b, (s.setBit a i x).cnt b = s.cnt b) ∧ (s.setBit a i x).out = s.out :=
  ⟨fun _ => rfl, rfl⟩

theorem askArp_shows (s : State) (port ip : Nat) : (s.askArp port ip).ethOf port ip = some (Config.freeNat s.freeCtr % 2 ^ 48) ∧
    (s.askArp port ip).out.length = s.out.length + 1 := by
  refine ⟨?_, rfl⟩
  have hhead : (s.askArp port ip).fab.arp.head? = some (port, ip, Config.freeNat s.freeCtr % 2 ^ 48, s.tick) := rfl
  rw [State.ethOf]
  cases h : (s.askArp port ip).fab.arp with
  | nil => rw [h] at hhead; cases hhead
  | cons e l =>
    rw [h] at hhead
    obtain rfl := Option.some.inj hhead
    rw [List.find?_cons_of_pos (by simp)]
    rfl

/-- The addresses to be asked for again (R439). -/
def State.arpOld (s : State) (x : Nat × Nat) : Bool := s.fab.arp.all (fun e => !(e.1 == x.1 && e.2.1 == x.2) || decide (e.2.2.2 + 750000000 ≤ s.tick))

theorem doArpRefresh_one {s : State} (hr : s.ready = true) {p a : Nat} (ht : s.arpTargets = [(p, a)]) :
    doArpRefresh s = if s.arpOld (p, a) then s.askArp p a else s := by
  have hrow : doArpRefresh s = (s.arpTargets.filter s.arpOld).foldl (fun (s : State) x => s.askArp x.1 x.2) s := if_pos hr
  rw [hrow, ht, List.filter_cons, List.filter_nil]
  split <;> rfl

end Sys2Proof.Machine

namespace Sys2Proof.Proofs
open Sys2Proof.Machine

/-- Settles O55: each row of a port through its equation. -/
theorem portsAndPackets : Obligations.PortsAndPackets := by
  unfold Obligations.PortsAndPackets
  refine ⟨fun s port hp => ⟨fun h1 h2 h3 h4 => ⟨?_, ?_⟩, fun hup hr hq => ?_, fun hdown => ?_, fun lane hl hup hr hq => ?_, fun r hr => ⟨fun h1 => ?_,
    fun h2 => ?_, fun h3 ht hc hq => ?_⟩⟩, fun s port target asker mac data hp => ⟨fun hrx => ⟨fun hin htarget => ?_, fun htarget => ?_,
      fun hin hctrl htarget hlen => ?_, fun hno => ?_, ?_, ?_⟩, fun hrx => ⟨?_, ?_, ?_, ?_⟩, fun hready => ⟨fun hnone => ?_, fun p a ht hnot => ?_,
        fun p a e ht harp he1 he2 => ⟨fun hfresh => ?_, fun hold => ⟨?_, ?_⟩⟩⟩, fun hready => ?_⟩⟩
  · exact becomes_of (exec_portLinkUp port s) (decide_eq_true hp) (doPortLinkUp_comes h1 h2 h3 h4)
  · refine completes_apart (fun _ _ h => h) (exec_portLinkUp port s) (decide_eq_true hp) ?_
    rw [doPortLinkUp_comes h1 h2 h3 h4]
    obtain ⟨k1, k2, k3⟩ := pumped_shows (s.linked port 8) s.peerDevices port
    obtain ⟨l1, l2, l3⟩ := linked_shows s port (lanes := 8) (by decide)
    exact ⟨k1.trans l1, k2.trans l2, k3.trans l3⟩
  · refine completes_apart (fun _ _ h => h) (exec_portLinkDown port s) (decide_eq_true hp) ?_
    rw [doPortLinkDown_goes hup hr hq]
    exact unlinked_shows s port
  · exact becomes_of (exec_portLinkDown port s) (decide_eq_true hp) (if_neg (by rw [hdown]; exact Bool.false_ne_true))
  · refine completes_apart (fun _ _ h => h) (exec_laneRetrainTrigger port lane s) (decide_eq_true ⟨hp, hl⟩) ?_
    rw [doLaneRetrainTrigger_begins hup hr hq]
    exact beginRetrain_shows s port ⟨lane, 1, [], none⟩
  · refine completes_apart (fun _ _ h => h) (exec_laneRetrainStepDone port s) (decide_eq_true hp) ?_
    rw [doLaneRetrainStepDone, hr]
    dsimp only
    rw [if_pos h1]
    exact retrainAt_shows s port _ (lanes := 7) (by decide)
  · refine completes_apart (fun _ _ h => h) (exec_laneRetrainStepDone port s) (decide_eq_true hp) ?_
    rw [doLaneRetrainStepDone, hr]
    dsimp only
    rw [if_neg (by omega), if_pos h2]
    exact retrainAt_shows s port _ (lanes := 8) (by decide)
  · refine completes_apart (fun _ _ h => h) (exec_laneRetrainStepDone port s) (decide_eq_true hp) ?_
    rw [doLaneRetrainStepDone_last hr h3 ht hc hq]
    exact retrainOver_shows s port
  · refine becomes_of (exec_arpRequest port target asker mac s) (decide_eq_true hp) ((if_pos hrx).trans ?_)
    obtain ⟨k1, k2, k3, -⟩ := countRx_service s port (arpSize target) false port
    rw [← k3]
    exact if_pos (by rw [k1, k2, hin, decide_eq_true htarget]; rfl)
  · refine becomes_of (exec_arpRequest port target asker mac s) (decide_eq_true hp) ((if_pos hrx).trans ?_)
    obtain ⟨k1, k2, -, -⟩ := countRx_service s port (arpSize target) false port
    exact if_neg (by rw [k2, decide_eq_false htarget, Bool.and_false]; exact Bool.false_ne_true)
  · refine becomes_of (exec_icmpEcho port target asker data s) (decide_eq_true hp) ((if_pos hrx).trans ?_)
    obtain ⟨k1, k2, -, k4⟩ := countRx_service s port (data.length + ipOver target) false port
    exact if_pos (by rw [k1, k2, k4, hin, hctrl, decide_eq_true htarget, decide_eq_true hlen]; rfl)
  · refine becomes_of (exec_icmpEcho port target asker data s) (decide_eq_true hp) ((if_pos hrx).trans ?_)
    obtain ⟨-, -, -, k4⟩ := countRx_service s port (data.length + ipOver target) false port
    refine if_neg ?_
    rcases hno with hno | hno
    · rw [k4, hno, Bool.and_false]
      exact Bool.false_ne_true
    · rw [decide_eq_false (Nat.not_le.mpr hno), Bool.and_false]
      exact Bool.false_ne_true
  · refine completes_apart (fun _ _ h => h) (exec_pauseFrame port s) (decide_eq_true hp) ?_
    rw [doPauseFrame, if_pos hrx]
    obtain ⟨k1, -, -, k4⟩ := dropped_shows s port 64
    obtain ⟨l1, l2⟩ := setBit_counts ((s.countRx port 64 false).rxDrop port) (Reg.fabPortStatus port) 2 true
    exact ⟨State.bit_setBit_same _ _ _ _ (by decide), (l1 _).trans k1, l2.trans k4⟩
  · refine completes_apart (fun _ _ h => h) (exec_rxDiscard port s) (decide_eq_true hp) ?_
    rw [doRxDiscard, if_pos hrx]
    obtain ⟨k1, k2, k3, -⟩ := dropped_shows s.fresh port (Config.freeNat s.freeCtr)
    exact ⟨k1, k2, k3⟩
  · exact becomes_of (exec_arpRequest port target asker mac s) (decide_eq_true hp) (if_neg (by rw [hrx]; exact Bool.false_ne_true))
  · exact becomes_of (exec_icmpEcho port target asker data s) (decide_eq_true hp) (if_neg (by rw [hrx]; exact Bool.false_ne_true))
  · exact becomes_of (exec_pauseFrame port s) (decide_eq_true hp) (if_neg (by rw [hrx]; exact Bool.false_ne_true))
  · exact becomes_of (exec_rxDiscard port s) (decide_eq_true hp) (if_neg (by rw [hrx]; exact Bool.false_ne_true))
  · refine becomes_of (exec_arpRefresh s) rfl ((if_pos hready).trans ?_)
    rw [hnone]
    rfl
  · refine becomes_of (exec_arpRefresh s) rfl ((doArpRefresh_one hready ht).trans (if_pos ?_))
    refine List.all_eq_true.mpr fun e he => ?_
    have := hnot e he
    simp only [Bool.or_eq_true, Bool.not_eq_true', Bool.and_eq_false_iff, beq_eq_false_iff_ne]
    exact .inl (Classical.not_and_iff_not_or_not.mp this)
  · refine becomes_of (exec_arpRefresh s) rfl ((doArpRefresh_one hready ht).trans (if_neg ?_))
    rw [State.arpOld, harp]
    simp [he1, he2, Nat.not_le.mpr hfresh]
  · refine becomes_of (exec_arpRefresh s) rfl ((doArpRefresh_one hready ht).trans (if_pos ?_))
    rw [State.arpOld, harp]
    simp [hold]
  · refine completes_apart (fun _ _ h => h) (exec_arpRefresh s) rfl ?_
    rw [doArpRefresh_one hready ht, if_pos (by rw [State.arpOld, harp]; simp [hold])]
    exact askArp_shows s p a
  · exact becomes_of (exec_arpRefresh s) rfl (if_neg (by rw [hready]; exact Bool.false_ne_true))

end Sys2Proof.Proofs
end

section
/-! PROOF. A frame of Ralwick that comes in its turn (R445–R453). -/
namespace Sys2Proof.Machine

/-- The rows of the sequenced frames, but for GRANT: whether something arrives with the row, and the frame's type. -/
def frameRows (f : Rx) (env : Env) : List (Instr × Bool × Nat) :=
  [(.fabWrite f env, true, 0x01), (.fabReadReq f env, true, 0x02), (.fabReadRsp f env, true, 0x03),
    (.collData f env, true, 0x20), (.parDelta f env, true, 0x30), (.parReadReq f env, true, 0x31), (.parReadRsp f env, true, 0x32),
    (.harvReport f, false, 0x33), (.breachFrame f, false, 0x40), (.reckonReq f, false, 0x50), (.reckonRsp f, false, 0x51),
    (.slackFrame f, false, 0x61)]

/-- Each of them is the receipt of its frame. -/
theorem frameRows_become (s : State) (env : Env) (f : Rx) (hp : f.port < 8) : ∀ r ∈ frameRows f env, f.typ = r.2.2 →
    Becomes r.1 s ((if r.2.1 then s.arrive env else s).gotFrame f) := by
  simp only [frameRows, List.forall_mem_cons]
  exact ⟨fun h => becomes_of (exec_fabWrite f env s) (decide_eq_true ⟨hp, .inl h⟩) rfl,
    fun h => becomes_of (exec_fabReadReq f env s) (decide_eq_true ⟨hp, h⟩) rfl,
    fun h => becomes_of (exec_fabReadRsp f env s) (decide_eq_true ⟨hp, h⟩) rfl,
    fun h => becomes_of (exec_collData f env s) (decide_eq_true ⟨hp, h⟩) rfl,
    fun h => becomes_of (exec_parDelta f env s) (decide_eq_true ⟨hp, h⟩) rfl,
    fun h => becomes_of (exec_parReadReq f env s) (decide_eq_true ⟨hp, h⟩) rfl,
    fun h => becomes_of (exec_parReadRsp f env s) (decide_eq_true ⟨hp, h⟩) rfl,
    fun h => becomes_of (exec_harvReport f s) (decide_eq_true ⟨hp, h⟩) rfl,
    fun h => becomes_of (exec_breachFrame f s) (decide_eq_true ⟨hp, h⟩) rfl,
    fun h => becomes_of (exec_reckonReq f s) (decide_eq_true ⟨hp, h⟩) rfl,
    fun h => becomes_of (exec_reckonRsp f s) (decide_eq_true ⟨hp, h⟩) rfl,
    fun h => becomes_of (exec_slackFrame f s) (decide_eq_true ⟨hp, h⟩) rfl, nofun⟩

/-- None of them is an acknowledgement or a GRANT. -/
theorem frameRows_typ (f : Rx) (env : Env) : ∀ r ∈ frameRows f env, r.2.2 ≠ 0x10 ∧ r.2.2 ≠ 0x11 ∧ r.2.2 ≠ 0x60 := by
  simp [frameRows]

theorem sequenced_of {h : Hdr} (h1 : h.typ ≠ 0x10) (h2 : h.typ ≠ 0x11) (h3 : h.typ ≠ 0x60 ∨ Machine.bit h.flags 1 = false) : h.sequenced = true := by
  unfold Hdr.sequenced
  rw [decide_eq_true h1, decide_eq_true h2]
  rcases h3 with h3 | h3
  · rw [decide_eq_false h3]; rfl
  · rw [h3, Bool.and_false]; rfl

/-- What a datagram does that the transport takes in. -/
theorem gotFrame_sequenced {s t : State} {f : Rx} {h : Hdr} (hin : s.intake f = (some h, t)) (hseq : h.sequenced = true) :
    s.gotFrame f = State.turnWaiting applyFrame ((((t.receive applyFrame f h).rxOf h.src).map (fun q => q.waiting.length)).getD 0)
      (t.receive applyFrame f h) h.src := by
  have hs := hseq
  unfold Hdr.sequenced at hs
  simp only [Bool.and_eq_true, decide_eq_true_eq] at hs
  obtain ⟨⟨h1, h2⟩, -⟩ := hs
  rw [State.gotFrame, hin]
  dsimp only
  rw [if_neg h1, if_neg h2, if_pos hseq]

theorem gotFrame_none {s t : State} {f : Rx} (hin : s.intake f = (none, t)) : s.gotFrame f = t := by rw [State.gotFrame, hin]

/-- No frame that waits: nothing's turn comes. -/
theorem turnWaiting_none {s : State} {d : Nat} (h : NoneWaits s d) (n : Nat) : State.turnWaiting applyFrame n s d = s := by
  cases n with
  | zero => rfl
  | succ n =>
    unfold State.turnWaiting
    cases hr : s.rxOf d with
    | none => rfl
    | some r => dsimp only; rw [h r hr]; rfl

theorem waitingTurns_none {s : State} {d : Nat} (h : NoneWaits s d) :
    State.turnWaiting applyFrame (((s.rxOf d).map (fun q => q.waiting.length)).getD 0) s d = s := turnWaiting_none h _

theorem rxOf_setRx (s : State) (d : Nat) (r : RxFlow) : (s.setRx d r).rxOf d = some r :=
  SMap.get_set_same (fun _ => (none : Option RxFlow)) s.fab.rx d (some r)

theorem psnBefore_irrefl (a : Nat) : psnBefore a a = false := by
  unfold psnBefore
  dsimp only
  rw [show (a + 2 ^ 32 - a) % 2 ^ 32 = 0 from by rw [Nat.add_sub_cancel_left, Nat.mod_self]]
  rfl

/-- A sender's flow after its next frame, in its turn, was accepted. -/
def RxFlow.accepted (r : RxFlow) (tick : Nat) : RxFlow :=
  { r with next := (closeGap (r.beyond.length + 1) r.next (r.next :: r.beyond)).1, beyond := (closeGap (r.beyond.length + 1) r.next (r.next :: r.beyond)).2,
           unacked := r.unacked + 1, oldest := some (r.oldest.getD tick) }

theorem acceptPsn_rxOf {s : State} {d psn : Nat} {r : RxFlow} (h : s.rxOf d = some r) (hp : psn = r.next) :
    (s.acceptPsn d psn).rxOf d = some (r.accepted s.tick) := by
  rw [State.acceptPsn, h, hp]
  exact rxOf_setRx _ _ _

/-- An acknowledgement goes out at once where sixteen frames wait for one (R449). -/
def State.ackOwed (s : State) (d : Nat) : State := if 16 ≤ ((s.rxOf d).map (fun q => q.unacked)).getD 0 then s.sendAck d else s

/-- A frame in its turn, before what it applies. -/
theorem receive_inTurn {t : State} {f : Rx} {h : Hdr} {r : RxFlow} (ht : InTurn t h r) : t.receive applyFrame f h =
    (State.turnWaiting applyFrame 1 ((t.setRx h.src (cameTo f r)).turn applyFrame f h) h.src).ackOwed h.src := by
  obtain ⟨hrx, hgen, hpsn, hbeyond, hwaiting, -, hreads, -⟩ := ht
  have hstate : t.rxState f h = some (cameTo f r) := by
    rw [State.rxState, hrx]
    exact if_pos hgen
  have hsame : (t.rxOf h.src).all (fun q => decide (q.gen = h.gen)) = true := by
    rw [hrx]
    exact decide_eq_true hgen
  have hnew : (psnBefore h.psn (cameTo f r).next || (cameTo f r).beyond.contains h.psn || (cameTo f r).waiting.any (fun w => w.1 == h.psn) ||
      (t.setRx h.src (cameTo f r)).fab.reads.any (fun x => x.1 == h.src && x.2.1 == h.psn)) = false := by
    have hread : t.fab.reads.any (fun x => x.1 == h.src && x.2.1 == h.psn) = false := by
      rw [List.any_eq_false]
      intro x hx
      simp [hreads x hx]
    show (psnBefore h.psn r.next || r.beyond.contains h.psn || r.waiting.any (fun w => w.1 == h.psn) || t.fab.reads.any _) = false
    rw [hpsn, psnBefore_irrefl, hbeyond, hwaiting, ← hpsn, hread]
    rfl
  have hturn : decide (h.psn ≠ (cameTo f r).next) = false := decide_eq_false (not_not_intro hpsn)
  have hlen : (cameTo f r).waiting.length + 1 = 1 := by
    show r.waiting.length + 1 = 1
    rw [hwaiting]
    rfl
  rw [State.receive, hstate]
  dsimp only
  rw [hsame, if_pos rfl, hnew, if_neg Bool.false_ne_true, hturn, Bool.and_false, if_neg Bool.false_ne_true, hlen]
  generalize State.turnWaiting applyFrame 1 ((t.setRx h.src (cameTo f r)).turn applyFrame f h) h.src = v
  unfold State.ackOwed
  cases v.rxOf h.src with
  | none => rfl
  | some q => simp only [Bool.or_false, decide_eq_true_eq, Option.map_some, Option.getD_some]

/-- The tag of a frame in its turn passes. -/
theorem turn_inTurn {t : State} {f : Rx} {h : Hdr} {r : RxFlow} (ht : InTurn t h r) : (t.setRx h.src (cameTo f r)).turn applyFrame f h =
    (match applyFrame (t.setRx h.src (cameTo f r)) f h with
      | (.accept, u) => u.acceptPsn h.src h.psn
      | (.nak st, u) => if st = St.busy then u.sendNak h.src f.port f.src h.gen h.psn st false
        else (u.sendNak h.src f.port f.src h.gen h.psn st false).acceptPsn h.src h.psn
      | (.discard, u) => u) := by
  obtain ⟨-, -, -, -, -, -, -, htag⟩ := ht
  have hno : (tagChecked h.typ && decide (h.tag ≠ (t.setRx h.src (cameTo f r)).nat Reg.nvsCfgTag)) = false := by
    rw [decide_eq_false (show ¬ h.tag ≠ (t.setRx h.src (cameTo f r)).nat Reg.nvsCfgTag from not_not_intro htag), Bool.and_false]
  rw [State.turn, hno, if_neg Bool.false_ne_true]
  rcases applyFrame (t.setRx h.src (cameTo f r)) f h with ⟨v, u⟩
  cases v <;> rfl

theorem NoneWaits.of_some {s : State} {d : Nat} {r : RxFlow} (h : s.rxOf d = some r) (hw : r.waiting = []) : NoneWaits s d := fun q hq => by
  obtain rfl := Option.some.inj (h.symm.trans hq)
  exact hw

/-- A frame in its turn that is accepted (R449). -/
theorem receive_accepted {t u : State} {f : Rx} {h : Hdr} {r : RxFlow} (ht : InTurn t h r)
    (happly : applyFrame (t.setRx h.src (cameTo f r)) f h = (.accept, u)) (hu : u.rxOf h.src = some (cameTo f r)) :
    t.receive applyFrame f h = u.acceptPsn h.src h.psn ∧ NoneWaits (u.acceptPsn h.src h.psn) h.src := by
  have hrow := receive_inTurn (f := f) ht
  have hturn := turn_inTurn (f := f) ht
  obtain ⟨-, -, hpsn, -, hwaiting, hunacked, -, -⟩ := ht
  rw [happly] at hturn
  have hrx : (u.acceptPsn h.src h.psn).rxOf h.src = some ((cameTo f r).accepted u.tick) := acceptPsn_rxOf hu hpsn
  have hnone : NoneWaits (u.acceptPsn h.src h.psn) h.src := .of_some hrx hwaiting
  refine ⟨?_, hnone⟩
  rw [hrow, hturn]
  dsimp only
  rw [turnWaiting_none hnone, State.ackOwed, hrx]
  exact if_neg (by show ¬ 16 ≤ r.unacked + 1; omega)

/-- A frame in its turn whose effect is still owed: its PSN is not accepted yet (R455). -/
theorem receive_owed {t u : State} {f : Rx} {h : Hdr} {r : RxFlow} (ht : InTurn t h r)
    (happly : applyFrame (t.setRx h.src (cameTo f r)) f h = (.discard, u)) (hu : u.rxOf h.src = some (cameTo f r)) :
    t.receive applyFrame f h = u ∧ NoneWaits u h.src := by
  have hrow := receive_inTurn (f := f) ht
  have hturn := turn_inTurn (f := f) ht
  obtain ⟨-, -, -, -, hwaiting, hunacked, -, -⟩ := ht
  rw [happly] at hturn
  have hnone : NoneWaits u h.src := .of_some hu hwaiting
  refine ⟨?_, hnone⟩
  rw [hrow, hturn]
  dsimp only
  rw [turnWaiting_none hnone, State.ackOwed, hu]
  exact if_neg (by show ¬ 16 ≤ r.unacked; omega)

/-- A row whose frame, in its turn, is applied and accepted. -/
theorem takesTurn_of {c : Instr} {s S t u : State} {f : Rx} {h : Hdr} {r : RxFlow} (hrow : Becomes c s (S.gotFrame f))
    (hin : S.intake f = (some h, t)) (hseq : h.sequenced = true) (ht : InTurn t h r)
    (happly : applyFrame (t.setRx h.src (cameTo f r)) f h = (.accept, u)) : TakesTurn c s u h (cameTo f r) := fun hu => by
  obtain ⟨hrec, hnone⟩ := receive_accepted ht happly hu
  rw [gotFrame_sequenced hin hseq, hrec, waitingTurns_none hnone] at hrow
  exact hrow

/-- A frame that comes again is acknowledged again (R449). -/
theorem receive_again {s : State} {f : Rx} {h : Hdr} {r : RxFlow} (hr : s.rxState f h = some r) (hb : psnBefore h.psn r.next = true) :
    s.receive applyFrame f h = (s.setRx h.src r).sendAck h.src := by
  have hsame : (s.rxOf h.src).all (fun q => decide (q.gen = h.gen)) = true := by
    rw [State.rxState] at hr
    cases hq : s.rxOf h.src with
    | none => rfl
    | some q =>
      rw [hq] at hr
      dsimp only at hr
      split at hr
      next hg => exact decide_eq_true hg
      next =>
        split at hr
        · obtain rfl := Option.some.inj hr
          rw [psnBefore_irrefl] at hb
          cases hb
        · cases hr
  rw [State.receive, hr]
  dsimp only
  rw [hsame, if_pos rfl, hb]
  rfl

end Sys2Proof.Machine
end

section
/-! PROOF. Acknowledgements and refusals of a flow (R449, R451, R453). -/
namespace Sys2Proof.Machine

/-- What an acknowledgement and the sending after it leave: the commands, a flow's generation and numbers, the frames that wait at the receiver,
and the parity deltas not yet accepted. -/
def State.ackPart (d : Nat) (s : State) : List Cmd × Nat × List Nat × Option (List (Nat × List Byte)) × List PendDelta :=
  (s.cmds, (s.flow d).gen, (s.flow d).unacked.map (fun y => y.psn), (s.rxOf d).map (fun r => r.waiting), s.parity.pending)

theorem ackPart_congr {s t : State} {d : Nat} (h1 : t.cmds = s.cmds) (h2 : t.flow d = s.flow d) (h3 : t.fab.rx = s.fab.rx) (h4 : t.parity.pending = s.parity.pending) :
    t.ackPart d = s.ackPart d := by
  rw [State.ackPart, State.rxOf, h1, h2, h3, h4]
  rfl

theorem ackPart_setFlow {s : State} {d : Nat} {f : Flow} (h1 : f.gen = (s.flow d).gen)
    (h2 : f.unacked.map (fun y => y.psn) = (s.flow d).unacked.map (fun y => y.psn)) : (s.setFlow d f).ackPart d = s.ackPart d := by
  rw [State.ackPart, flow_setFlow_same, h1, h2]
  rfl

theorem flow_event (s : State) (code : Nat) (src : Nat × Nat) (k : Option Nat) (data d : Nat) : (s.event code src k data).flow d = s.flow d := by
  have hreg : (s.event code src k data).reg Reg.fabIncarnation = s.reg Reg.fabIncarnation := State.reg_event _ _ _ _ _ _ (by decide) (by decide)
  rw [State.flow, State.event_fab, State.fld, hreg]
  rfl

theorem flow_showDown (s : State) (d : Nat) : s.showDown.flow d = s.flow d := by
  have hreg : s.showDown.reg Reg.fabIncarnation = s.reg Reg.fabIncarnation := State.reg_setFld_ne _ _ _ _ (by decide)
  rw [State.flow, State.fld, hreg]
  rfl

theorem ackPart_event (s : State) (code : Nat) (src : Nat × Nat) (k : Option Nat) (data d : Nat) :
    (s.event code src k data).ackPart d = s.ackPart d :=
  ackPart_congr (State.event_cmds ..) (flow_event s code src k data d) (congrArg Fab.rx (State.event_fab ..)) (State.event_parity_pending ..)

theorem ackPart_showDown (s : State) (d : Nat) : s.showDown.ackPart d = s.ackPart d := ackPart_congr rfl (flow_showDown s d) rfl rfl

theorem ackPart_peerUp (s : State) (d : Nat) : (s.peerUp d).ackPart d = s.ackPart d := by
  unfold State.peerUp
  refine ite_keeps (State.ackPart d) ?_ rfl
  exact (ackPart_event _ _ _ _ _ d).trans ((ackPart_showDown _ d).trans (ackPart_setFlow rfl rfl))

theorem RatesOnly.ackPart {s t : State} (h : RatesOnly s t) (d : Nat) : t.ackPart d = s.ackPart d :=
  ackPart_congr ((congrArg State.cmds h).trans rfl) (h.flow d) ((congrArg (fun u : State => u.fab.rx) h).trans rfl) ((congrArg (fun u : State => u.parity.pending) h).trans rfl)

theorem slowPaths_only (s : State) (d : Nat) : RatesOnly s (s.slowPaths d) := by
  unfold State.slowPaths
  refine RatesOnly.foldl _ (fun t p => ?_) (s.paths d) s
  dsimp only
  split
  · split <;> rfl
  · rfl

theorem FlowSame.psns {f g : Flow} (h : FlowSame f g) : g.unacked.map (fun y => y.psn) = f.unacked.map (fun y => y.psn) := by
  have hpsn := congrArg (List.map TxFrame.psn) h.2
  rw [List.map_map, List.map_map] at hpsn
  exact hpsn

/-- Sending leaves the frames that wait at the receiver. -/
theorem rx_putDatagram (s : State) (port entry dst : Nat) (bytes : List Byte) : (s.putDatagram port entry dst bytes).fab.rx = s.fab.rx := by
  have h : (s.resolve port dst).fab.rx = s.fab.rx := by
    unfold State.resolve
    split <;> rfl
  exact h

theorem rx_putFrame (s : State) (d : Nat) (t : TxFrame) : (s.putFrame d t).fab.rx = s.fab.rx := by
  unfold State.putFrame
  dsimp only
  split
  · rfl
  next p e _ =>
    have hput := rx_putDatagram s p e ((s.peerAddrs d).getD e 0) (s.frameBytes d (s.flow d) t)
    generalize s.putDatagram p e ((s.peerAddrs d).getD e 0) (s.frameBytes d (s.flow d) t) = a at hput ⊢
    have hcount : (if t.typ = 0x40 && t.path.isNone then a.addCnt Reg.fabCntBreachTx 1 else a).fab.rx = s.fab.rx :=
      ite_keeps (fun u : State => u.fab.rx) hput hput
    exact hcount

theorem rxOf_setRx_ne (s : State) {d e : Nat} (r : RxFlow) (h : e ≠ d) : (s.setRx d r).rxOf e = s.rxOf e :=
  SMap.get_set_ne (fun _ => (none : Option RxFlow)) s.fab.rx d (some r) h

theorem waiting_acceptPsn (s : State) (d psn e : Nat) : ((s.acceptPsn d psn).rxOf e).map (fun r => r.waiting) = (s.rxOf e).map (fun r => r.waiting) := by
  unfold State.acceptPsn
  cases h : s.rxOf d with
  | none => rfl
  | some r =>
    dsimp only
    by_cases he : e = d
    · subst he
      rw [rxOf_setRx, h]
      rfl
    · rw [rxOf_setRx_ne _ _ he]

theorem waiting_pump (s : State) (d e : Nat) : ((s.pump d).rxOf e).map (fun r => r.waiting) = (s.rxOf e).map (fun r => r.waiting) := by
  have hread : ∀ t : State, ((t.settleReads d).rxOf e).map (fun r => r.waiting) = (t.rxOf e).map (fun r => r.waiting) := fun t => by
    unfold State.settleReads
    exact (foldl_keeps (fun u : State => (u.rxOf e).map (fun r => r.waiting)) (fun u (x : Nat × Nat × Nat) => waiting_acceptPsn u d x.2.1 e) _ _).trans rfl
  unfold State.pump
  split
  · rfl
  · refine (hread _).trans ?_
    refine congrArg (fun rx => (SMap.get (fun _ => none) rx e).map (fun r : RxFlow => r.waiting)) ?_
    exact foldl_keeps (fun u : State => u.fab.rx) (fun u t => rx_putFrame u d t) _ s

theorem Posted.ackPart {s t : State} (h : Posted s t) {d : Nat} (k : (t.rxOf d).map (fun r => r.waiting) = (s.rxOf d).map (fun r => r.waiting)) :
    t.ackPart d = s.ackPart d := by
  obtain ⟨hsent, -, hflow, -⟩ := h
  have hgen : (t.flow d).gen = (s.flow d).gen := (congrArg Flow.gen (hflow d).1).trans rfl
  rw [State.ackPart, hsent.cmds, hgen, (hflow d).psns, k, (congrArg State.parity hsent).trans rfl]
  rfl

theorem ackPart_pump (s : State) (d : Nat) : (s.pump d).ackPart d = s.ackPart d := (Posted.pump s d).ackPart (waiting_pump s d d)

theorem ackPart_addCnt (s : State) (a n d : Nat) : (s.addCnt a n).ackPart d = s.ackPart d := rfl

theorem ackPart_resend (s : State) (d : Nat) (t : TxFrame) : (s.resend d t).ackPart d = s.ackPart d := by
  unfold State.resend
  refine ite_keeps (State.ackPart d) rfl ?_
  refine (ackPart_addCnt _ _ _ d).trans ((Posted.putFrame s d t).ackPart ?_)
  exact congrArg (fun rx => (SMap.get (fun _ => none) rx d).map (fun r : RxFlow => r.waiting)) (rx_putFrame s d t)

theorem acceptDeltas_none {s : State} (h : s.parity.pending = []) (p : PendDelta → Bool) : s.acceptDeltas p = s := by
  unfold State.acceptDeltas
  rw [h]
  exact congrArg (fun l => { s with parity := { s.parity with pending := l } }) h.symm

/-- The flow of a device that has one. -/
theorem flow_of_get {s : State} {d : Nat} {fl : Flow} (h : SMap.get (fun _ => none) s.fab.flows d = some fl) : s.flow d = fl := by
  rw [State.flow, h]
  rfl

theorem filterMap_owner {l : List TxFrame} (h : ∀ y ∈ l, y.owner = none) : l.filterMap (fun t => t.owner) = [] :=
  List.filterMap_eq_nil_iff.mpr h

/-- A flow with the frames that an acknowledgement covers gone (R449). -/
def Flow.acked (f : Flow) (h : Hdr) : Flow :=
  { f with unacked := f.unacked.filter (fun t => !ackCovers (h.be 0x18 4) h.payload t.psn)
           expiries := if f.unacked.any (fun t => psnBefore t.psn (h.be 0x18 4)) then 0 else f.expiries
           timeout := if f.unacked.any (fun t => psnBefore t.psn (h.be 0x18 4)) then 0 else f.timeout }

/-- What follows an acknowledgement that a flow has taken: its peer is up, its paths slow down, and missing frames go out again (R450, R454). -/
def State.afterAck (s : State) (h : Hdr) : State :=
  let s1 := s.peerUp h.src
  let s2 := if 0 < h.be 0x1C 2 then s1.slowPaths h.src else s1
  let again := fastFrames (s2.flow h.src) (h.be 0x18 4) h.payload
  let g := s2.flow h.src
  let s3 := s2.setFlow h.src { g with unacked := g.unacked.map (fun t => if again.any (fun a => a.psn == t.psn) then { t with fast := true } else t) }
  again.foldl (fun (s : State) t => s.resend h.src { t with fast := true }) s3

theorem afterAck_ackPart (s : State) (h : Hdr) : (s.afterAck h).ackPart h.src = s.ackPart h.src := by
  unfold State.afterAck
  extract_lets s1 s2 again g s3
  have h1 : s1.ackPart h.src = s.ackPart h.src := ackPart_peerUp s h.src
  have h2 : s2.ackPart h.src = s1.ackPart h.src := ite_keeps (State.ackPart h.src) ((slowPaths_only s1 h.src).ackPart h.src) rfl
  have h3 : s3.ackPart h.src = s2.ackPart h.src := by
    refine ackPart_setFlow rfl ?_
    rw [List.map_map]
    refine List.map_congr_left fun y _ => ?_
    show (if _ then _ else _ : TxFrame).psn = _
    split <;> rfl
  have h4 := foldl_keeps (State.ackPart h.src) (fun s t => ackPart_resend s h.src { t with fast := true }) again s3
  exact h4.trans (h3.trans (h2.trans h1))

/-- An acknowledgement of a flow that no command owns a frame of, with no parity delta pending. -/
theorem gotAck_ackPart {t : State} {h : Hdr} {fl : Flow} (hfl : SMap.get (fun _ => none) t.fab.flows h.src = some fl) (hgen : fl.gen = h.gen)
    (hpend : t.parity.pending = []) (hown : ∀ y ∈ fl.unacked, y.owner = none) :
    (t.gotAck h).ackPart h.src = (t.setFlow h.src (fl.acked h)).ackPart h.src := by
  have hflow := flow_of_get hfl
  have howners : t.frameOwners h.src = [] := by
    rw [State.frameOwners, hflow, filterMap_owner hown]
    rfl
  have hwrote : ((fl.unacked.filter (fun t => decide (t.typ = 0x01) && ackCovers (h.be 0x18 4) h.payload t.psn)).filterMap (fun t => t.owner)).eraseDups = [] := by
    rw [filterMap_owner fun y hy => hown y ((List.mem_filter.mp hy).1)]
    rfl
  have hafter := afterAck_ackPart (t.setFlow h.src (fl.acked h)) h
  have hp : ((t.setFlow h.src (fl.acked h)).afterAck h).parity.pending = [] := (congrArg (fun x => x.2.2.2.2) hafter).trans hpend
  have hrow : t.gotAck h = ((t.setFlow h.src (fl.acked h)).afterAck h).pump h.src := by
    rw [← acceptDeltas_none hp (fun x => decide (x.device = h.src) && ackCovers (h.be 0x18 4) h.payload x.psn)]
    unfold State.gotAck
    dsimp only
    rw [if_neg (by rw [hflow, hfl]; simp [hgen]), howners, hflow, hwrote, List.foldl_nil, List.foldl_nil]
    rfl
  rw [hrow]
  exact (ackPart_pump _ h.src).trans hafter

theorem ackPart_shows {s t : State} {d : Nat} (h : t.ackPart d = s.ackPart d) : t.cmds = s.cmds ∧ (t.flow d).gen = (s.flow d).gen ∧
    (t.flow d).unacked.map (fun y => y.psn) = (s.flow d).unacked.map (fun y => y.psn) ∧ (NoneWaits s d → NoneWaits t d) := by
  simp only [State.ackPart, Prod.mk.injEq] at h
  obtain ⟨h1, h2, h3, h4, -⟩ := h
  refine ⟨h1, h2, h3, fun hn r hr => ?_⟩
  rw [hr] at h4
  cases hs : s.rxOf d with
  | none => rw [hs] at h4; cases h4
  | some q =>
    rw [hs] at h4
    exact (Option.some.inj h4).trans (hn q hs)

/-! ### Refusals -/

theorem gotNak_busy {t : State} {h : Hdr} {fl : Flow} {y : TxFrame} (hfl : SMap.get (fun _ => none) t.fab.flows h.src = some fl)
    (hgen : fl.gen = h.gen) (hsync : Machine.bit (h.be 0x1D 1) 0 = false) (hy : fl.unacked.find? (fun y => y.psn == h.be 0x18 4) = some y)
    (hst : h.be 0x1C 1 = St.busy) : t.gotNak h = (t.addCnt Reg.fabCntNakRx 1).setFlow h.src { fl with
      unacked := fl.unacked.map (fun u => if u.psn = h.be 0x18 4 then { u with busy := true, sent := some t.tick } else u) } := by
  have hflow := flow_of_get hfl
  unfold State.gotNak
  dsimp only
  rw [if_neg (by rw [hflow]; simp [hgen, State.addCnt, hfl]), hsync, if_neg Bool.false_ne_true, hflow, hy]
  exact if_pos hst

theorem gotNak_refused {t : State} {h : Hdr} {fl : Flow} {y : TxFrame} (hfl : SMap.get (fun _ => none) t.fab.flows h.src = some fl)
    (hgen : fl.gen = h.gen) (hpend : t.parity.pending = []) (hown : y.owner = none) (hsync : Machine.bit (h.be 0x1D 1) 0 = false)
    (hy : fl.unacked.find? (fun y => y.psn == h.be 0x18 4) = some y) (hst : h.be 0x1C 1 ≠ St.busy) :
    t.gotNak h = ((t.addCnt Reg.fabCntNakRx 1).setFlow h.src { fl with unacked := fl.unacked.filter (fun u => u.psn != h.be 0x18 4) }).pump h.src := by
  have hflow := flow_of_get hfl
  unfold State.gotNak
  dsimp only
  rw [if_neg (by rw [hflow]; simp [hgen, State.addCnt, hfl]), hsync, if_neg Bool.false_ne_true, hflow, hy]
  dsimp only
  rw [if_neg hst, hown]
  dsimp only
  have hp : ((((t.addCnt Reg.fabCntNakRx 1).setFlow h.src { fl with unacked := fl.unacked.filter (fun u => u.psn != h.be 0x18 4) }).pump h.src)).parity.pending = [] :=
    (congrArg (fun x => x.2.2.2.2) (ackPart_pump ((t.addCnt Reg.fabCntNakRx 1).setFlow h.src
      { fl with unacked := fl.unacked.filter (fun u => u.psn != h.be 0x18 4) }) h.src)).trans hpend
  generalize (((t.addCnt Reg.fabCntNakRx 1).setFlow h.src { fl with unacked := fl.unacked.filter (fun u => u.psn != h.be 0x18 4) }).pump h.src) = u at hp ⊢
  rw [hp, acceptDeltas_none hp]
  rfl

/-- What a new generation keeps of a flow and of its receiver. -/
def State.numbers (d : Nat) (s : State) : Nat × List Nat × Option (List (Nat × List Byte)) :=
  ((s.flow d).gen, (s.flow d).unacked.map (fun y => y.psn), (s.rxOf d).map (fun r => r.waiting))

theorem numbers_of_ackPart {s t : State} {d : Nat} (h : t.ackPart d = s.ackPart d) : t.numbers d = s.numbers d :=
  congrArg (fun x => (x.2.1, x.2.2.1, x.2.2.2.1)) h

/-- A new generation of a flow (R451): its number, the numbers of its frames, and the receiver's waiting frames, which stay. -/
theorem resync_shows (t : State) (d : Nat) : ((t.resync d).flow d).gen = ((t.flow d).gen + 1) % 65536 ∧
    ((t.resync d).flow d).unacked.map (fun y => y.psn) = List.range (t.flow d).unacked.length ∧
    ((t.resync d).rxOf d).map (fun r => r.waiting) = (t.rxOf d).map (fun r => r.waiting) := by
  have hframes : ∀ l : List TxFrame, (l.zipIdx.map (fun x => { x.1 with
      psn := x.2, flags := if x.2 = 0 then x.1.flags ||| 8 else x.1.flags &&& 0xFFF7, sent := none, busy := false, fast := false })).map (fun y => y.psn) =
      List.range l.length := fun l => by
    rw [List.map_map]
    exact (List.zipIdx_map_snd 0 l).trans List.range_eq_range'.symm
  unfold State.resync
  extract_lets f old renum frames n s1 key want reask renumDelta renumRead src fab s2
  have h1 : s1.numbers d = ((f.gen + 1) % 65536, frames.map (fun y => y.psn), (t.rxOf d).map (fun r => r.waiting)) := by
    rw [State.numbers, flow_setFlow_same]
    rfl
  have h2 : s2.numbers d = s1.numbers d := rfl
  have h3 : ((s2.addCnt Reg.fabCntRetransmit n).pump d).numbers d = s2.numbers d := numbers_of_ackPart (ackPart_pump (s2.addCnt Reg.fabCntRetransmit n) d)
  have hall := h3.trans (h2.trans (h1.trans (congrArg (fun l => ((f.gen + 1) % 65536, l, (t.rxOf d).map (fun r => r.waiting))) (hframes f.unacked))))
  simp only [State.numbers, Prod.mk.injEq] at hall
  exact hall

/-! ### What each frame applies -/

theorem applyFrame_write {s : State} {f : Rx} {h : Hdr} (k : h.typ = 0x01) : applyFrame s f h = s.peerWrite h := by rw [applyFrame, k]; rfl
theorem applyFrame_readReq {s : State} {f : Rx} {h : Hdr} (k : h.typ = 0x02) : applyFrame s f h = s.peerRead h := by rw [applyFrame, k]; rfl
theorem applyFrame_readRsp {s : State} {f : Rx} {h : Hdr} (k : h.typ = 0x03) (hh : s.responseHeld h = false) :
    applyFrame s f h = (.accept, s.gotResponse h) := by rw [applyFrame, k, hh]; rfl
theorem applyFrame_coll {s : State} {f : Rx} {h : Hdr} (k : h.typ = 0x20) : applyFrame s f h = s.gotColl h := by rw [applyFrame, k]; rfl
theorem applyFrame_delta {s : State} {f : Rx} {h : Hdr} (k : h.typ = 0x30) : applyFrame s f h = s.gotDelta h := by rw [applyFrame, k]; rfl
theorem applyFrame_parReq {s : State} {f : Rx} {h : Hdr} (k : h.typ = 0x31) : applyFrame s f h = s.gotReadReq h := by rw [applyFrame, k]; rfl
theorem applyFrame_parRsp {s : State} {f : Rx} {h : Hdr} (k : h.typ = 0x32) (hh : s.rebuildHeld h = false) :
    applyFrame s f h = (.accept, s.gotReadRsp h) := by rw [applyFrame, k, hh]; rfl
theorem applyFrame_harv {s : State} {f : Rx} {h : Hdr} (k : h.typ = 0x33) : applyFrame s f h = (.accept, s.gotHarvReport h) := by rw [applyFrame, k]; rfl
theorem applyFrame_breach {s : State} {f : Rx} {h : Hdr} (k : h.typ = 0x40) : applyFrame s f h = (.accept, s.gotBreach h) := by rw [applyFrame, k]; rfl
theorem applyFrame_reckonReq {s : State} {f : Rx} {h : Hdr} (k : h.typ = 0x50) : applyFrame s f h = s.gotReckonReq h := by rw [applyFrame, k]; rfl
theorem applyFrame_reckonRsp {s : State} {f : Rx} {h : Hdr} (k : h.typ = 0x51) : applyFrame s f h = (.accept, s.gotReckonRsp h) := by rw [applyFrame, k]; rfl
theorem applyFrame_grant {s : State} {f : Rx} {h : Hdr} (k : h.typ = 0x60) : applyFrame s f h = s.gotGrant h f.src := by rw [applyFrame, k]; rfl
theorem applyFrame_slack {s : State} {f : Rx} {h : Hdr} (k : h.typ = 0x61) : applyFrame s f h = (.accept, s.gotSlack h) := by rw [applyFrame, k]; rfl

theorem peerWrite_stores {s u : State} {h : Hdr} (hc : s.peerCheck h.src (h.be 0x18 2) (h.be 0x1C 4 % 2 ^ 28) h.payload.length 1 = St.ok)
    (hw : s.physWrite Req.peer (addrCore (s.epAddr (h.be 0x18 2) (h.be 0x1C 4 % 2 ^ 28)).2) (addrOff (s.epAddr (h.be 0x18 2) (h.be 0x1C 4 % 2 ^ 28)).2)
      h.payload = (0, u)) : s.peerWrite h = (.accept, u) := by
  rw [State.peerWrite, hc]
  dsimp only
  rw [hw]
  rfl

/-- A READ_REQ answered: accepted once its last answer was sent (R455). -/
theorem peerRead_answers {s u : State} {h : Hdr} {data : List Byte} (hc : s.peerCheck h.src (h.be 0x18 2) (h.be 0x1C 4 % 2 ^ 28) (h.be 0x20 4) 0 = St.ok)
    (hpos : 0 < h.be 0x20 4) (hle : h.be 0x20 4 ≤ 65536)
    (hr : s.physRead Req.peer (addrCore (s.epAddr (h.be 0x18 2) (h.be 0x1C 4 % 2 ^ 28)).2) (addrOff (s.epAddr (h.be 0x18 2) (h.be 0x1C 4 % 2 ^ 28)).2)
      (h.be 0x20 4) = (data, [], u)) : s.peerRead h =
    if (u.sendResponses h.src h.psn data).wasSent h.src ((((u.sendResponses h.src h.psn data).flow h.src).next + 2 ^ 32 - 1) % 2 ^ 32)
    then (.accept, u.sendResponses h.src h.psn data)
    else (.discard, { u.sendResponses h.src h.psn data with fab := { (u.sendResponses h.src h.psn data).fab with
      reads := (u.sendResponses h.src h.psn data).fab.reads ++
        [(h.src, h.psn, (((u.sendResponses h.src h.psn data).flow h.src).next + 2 ^ 32 - 1) % 2 ^ 32)] } }) := by
  have hno : (decide (h.be 0x20 4 = 0) || decide (65536 < h.be 0x20 4)) = false := by
    rw [decide_eq_false (by omega), decide_eq_false (by omega)]
    rfl
  rw [State.peerRead, hc]
  dsimp only
  rw [if_neg (not_not_intro rfl), if_neg (by rw [hno]; exact Bool.false_ne_true), hr]
  rfl

theorem gotResponse_stores {s v : State} {h : Hdr} {c : Cmd} {w : List (Nat × Nat × Nat)} {base left : Nat}
    (hc : s.cmds.find? (fun c => decide (c.phase = .running) && c.work.wants.any (fun y => y.1 == 2 ^ 32 * h.src + h.be 0x20 4)) = some c)
    (hw : c.work = .fabric w) (hf : w.find? (fun y => y.1 == 2 ^ 32 * h.src + h.be 0x20 4) = some (2 ^ 32 * h.src + h.be 0x20 4, base, left))
    (hrun : Run.write (reqDma c ((s.setWork c.id (.fabric (w.map (fun y => if y.1 = 2 ^ 32 * h.src + h.be 0x20 4
        then (y.1, y.2.1, y.2.2 - h.payload.length) else y)))).dmaCore c (base / 65536))) c.id
      ((s.setWork c.id (.fabric (w.map (fun y => if y.1 = 2 ^ 32 * h.src + h.be 0x20 4
        then (y.1, y.2.1, y.2.2 - h.payload.length) else y)))).polderOf c) (c.addr 0x18 + base + h.be 0x1C 4) h.payload
      (s.setWork c.id (.fabric (w.map (fun y => if y.1 = 2 ^ 32 * h.src + h.be 0x20 4 then (y.1, y.2.1, y.2.2 - h.payload.length) else y)))) = .ok () v) :
    s.gotResponse h = (v.addCnt (Reg.coreCntDma ((s.setWork c.id (.fabric (w.map (fun y => if y.1 = 2 ^ 32 * h.src + h.be 0x20 4
      then (y.1, y.2.1, y.2.2 - h.payload.length) else y)))).dmaCore c (base / 65536))) h.payload.length).fabricCheck c.id := by
  have hwants : c.work.wants = w := by rw [hw]; rfl
  rw [State.gotResponse]
  dsimp only
  rw [hc]
  dsimp only
  rw [hwants, hf, hw]
  dsimp only [Option.map_some, Option.getD_some]
  rw [hrun]

theorem gotColl_takes {s : State} {h : Hdr} {c : Cmd} {step : Nat} {data : List Byte} {early : List (Nat × Nat × List Byte)}
    (hstop : s.flowStopped = false)
    (hc : s.cmds.find? (fun c => decide (c.op = 0x30) && decide (c.phase = .running) &&
      ((List.range 32).filter (fun p => s.peerRight p h.src 2)).contains (s.polderOf c) && !s.hostHeld c &&
      decide (s.collPrev (s.polderOf c) = h.src) && decide (clId c.desc = h.be 0x18 2) && decide (clEpoch c.desc = h.msg)) = some c)
    (hw : c.work = .coll step data early) (h1 : h.be 0x1A 1 = clOp c.desc) (h2 : h.be 0x1B 1 = clFmt c.desc)
    (h3 : h.be 0x1C 4 = clCount c.desc % 2 ^ 32) :
    s.gotColl h = (.accept, (s.runOn c.id (Run.collTake c h step data early)).collCheck c.id) := by
  rw [State.gotColl, hc, hstop, if_neg Bool.false_ne_true]
  dsimp only
  rw [if_neg (by simp [h1, h2, h3]), hw]

theorem gotReadRsp_keeps {s : State} {h : Hdr} {c : Cmd} {left : List Nat} {hv : List (Nat × Nat × Nat × List Byte)} {bad : List (Nat × Nat)}
    {tags : SMap Nat} {failed : List Nat} {chunks' : List Nat}
    (hc : s.regrouping (h.be 0x18 2) = some c) (hw : c.work = .rebuild left hv bad tags failed chunks')
    (hdev : s.parDev (h.be 0x18 2) (h.be 0x1A 1) = h.src) (hleft : h.be 0x1C 4 ∈ left) (hlen : h.payload.length = 4096)
    (hnew : ∀ y ∈ hv, ¬ (y.1 = h.be 0x1C 4 ∧ y.2.1 = h.be 0x1A 1)) :
    s.gotReadRsp h = (s.setWork c.id (.rebuild left (hv ++ [(h.be 0x1C 4, h.be 0x1A 1, h.be 0x20 4, h.payload)]) bad tags failed
      chunks')).rebuildUnit c.id (h.be 0x1C 4) := by
  have hany : hv.any (fun x => x.1 == h.be 0x1C 4 && x.2.1 == h.be 0x1A 1) = false := by
    rw [List.any_eq_false]
    intro y hy
    have := hnew y hy
    simpa using this
  rw [State.gotReadRsp, hc]
  dsimp only
  rw [hw]
  exact if_neg (by simp [hdev, hleft, hany, hlen])

/-- A delta that passes its checks is applied to its unit (R590). -/
theorem gotDelta_applies {s : State} {h : Hdr} (hv : s.parValid (h.be 0x18 2) = true) (hs : h.be 0x1B 1 = s.parShard (h.be 0x18 2))
    (hk : s.parK (h.be 0x18 2) ≤ s.parShard (h.be 0x18 2)) (hi : h.be 0x1A 1 < s.parK (h.be 0x18 2))
    (hd : s.parDev (h.be 0x18 2) (h.be 0x1A 1) = h.src) (hl : s.parLost (h.be 0x18 2) (h.be 0x1A 1) = false)
    (hu : h.be 0x20 4 < s.parUnits (h.be 0x18 2)) (hlen : h.payload.length = 4096) (hr : s.regrouping (h.be 0x18 2) = none) :
    s.gotDelta h = s.applyDelta (h.be 0x18 2) (h.be 0x1A 1) (h.be 0x20 4) (h.be 0x1C 4) h.payload := by
  have hsrc : (!s.parValid (h.be 0x18 2) || decide (h.be 0x1B 1 ≠ s.parShard (h.be 0x18 2)) ||
      decide (s.parShard (h.be 0x18 2) < s.parK (h.be 0x18 2)) || decide (s.parK (h.be 0x18 2) ≤ h.be 0x1A 1) ||
      decide (s.parDev (h.be 0x18 2) (h.be 0x1A 1) ≠ h.src)) = false := by
    rw [hv, decide_eq_false (not_not_intro hs), decide_eq_false (Nat.not_lt.mpr hk), decide_eq_false (Nat.not_le.mpr hi),
      decide_eq_false (not_not_intro hd)]
    rfl
  have hsize : (decide (s.parUnits (h.be 0x18 2) ≤ h.be 0x20 4) || decide (h.payload.length ≠ 4096)) = false := by
    rw [decide_eq_false (Nat.not_le.mpr hu), decide_eq_false (not_not_intro hlen)]
    rfl
  rw [State.gotDelta, hsrc, if_neg Bool.false_ne_true, hl, if_neg Bool.false_ne_true, hsize, if_neg Bool.false_ne_true, hr]
  rfl

theorem applyDelta_again {s a : State} {g i u step : Nat} (payload : List Byte) (ht : s.tagRead g i u = (.ok step, a)) (hne : step ≠ 0xFFFFFFFF) :
    s.applyDelta g i u step payload = (.accept, a.addCnt Reg.parCntDup 1) := by
  rw [State.applyDelta, ht]
  dsimp only
  rw [if_neg hne, if_pos rfl]

/-- A delta new to its unit: added to it, its tag set (R590). -/
theorem applyDelta_new {s a : State} {g i u step tag : Nat} {payload : List Byte} (ht : s.tagRead g i u = (.ok tag, a)) (hne : tag ≠ 0xFFFFFFFF)
    (hnew : tag ≠ step) (hr : (a.unitRead g u).err = none)
    (hw : ((a.unitRead g u).st.unitWrite g u (((a.unitRead g u).data.zip payload).map (fun y => y.1 ^^^ y.2))).err = none) :
    s.applyDelta g i u step payload = (.accept, (((((a.unitRead g u).st.unitWrite g u
      (((a.unitRead g u).data.zip payload).map (fun y => y.1 ^^^ y.2))).st.tagWrite g i u step).addCnt Reg.parCntDeltaRx 4096).setNat
        (Reg.parGrpStep g) step)) := by
  rw [State.applyDelta, ht]
  dsimp only
  rw [if_neg hne, if_neg hnew, hr]
  dsimp only
  rw [hw]

theorem gotReadReq_answers {s u : State} {h : Hdr} (hv : s.parValid (h.be 0x18 2) = true) (hs : h.be 0x1B 1 = s.parShard (h.be 0x18 2))
    (hi : h.be 0x1A 1 < s.parK (h.be 0x18 2) + s.parM (h.be 0x18 2)) (hd : s.parDev (h.be 0x18 2) (h.be 0x1A 1) = h.src)
    (hpos : 0 < h.be 0x20 1) (hle : h.be 0x20 1 ≤ 16) (hu : h.be 0x1C 4 + h.be 0x20 1 ≤ s.parUnits (h.be 0x18 2))
    (hr : (List.range (h.be 0x20 1)).foldl (fun (a : Nat × State) k =>
      if a.1 ≠ St.ok then a else a.2.answerUnit (h.be 0x18 2) h.src (h.be 0x21 1) (h.be 0x1C 4 + k)) (St.ok, s) = (St.ok, u)) :
    s.gotReadReq h = (.accept, u) := by
  have hsrc : (!s.parValid (h.be 0x18 2) || decide (h.be 0x1B 1 ≠ s.parShard (h.be 0x18 2)) ||
      decide (s.parK (h.be 0x18 2) + s.parM (h.be 0x18 2) ≤ h.be 0x1A 1) || decide (s.parDev (h.be 0x18 2) (h.be 0x1A 1) ≠ h.src)) = false := by
    rw [hv, decide_eq_false (not_not_intro hs), decide_eq_false (Nat.not_le.mpr hi), decide_eq_false (not_not_intro hd)]
    rfl
  have hsize : (decide (h.be 0x20 1 = 0) || decide (16 < h.be 0x20 1) || decide (s.parUnits (h.be 0x18 2) < h.be 0x1C 4 + h.be 0x20 1)) = false := by
    rw [decide_eq_false (by omega), decide_eq_false (by omega), decide_eq_false (by omega)]
    rfl
  rw [State.gotReadReq]
  dsimp only
  rw [hsrc, if_neg Bool.false_ne_true, hsize, if_neg Bool.false_ne_true, hr]
  rfl

theorem gotHarvReport_keeps {s : State} {h : Hdr} {g : CascadeRec} {m : Nat} (hg : s.group? = some g) (hm : g.memberOf h.src = some m)
    (hmaster : s.isMaster = true) (hid : h.be 0x18 2 = g.groupId) : s.gotHarvReport h = { s with parity := { s.parity with
      reports := SMap.set (fun _ => none) s.parity.reports m (some (h.be 0x1C 4, h.be 0x20 2, h.be 0x22 2, s.tick)) } } := by
  rw [State.gotHarvReport, hg]
  dsimp only
  rw [hm]
  exact if_pos (by rw [hmaster, decide_eq_true hid]; rfl)

theorem gotSlack_keeps {s : State} {h : Hdr} {g : CascadeRec} {m : Nat} (hg : s.group? = some g) (hm : g.memberOf h.src = some m)
    (hmaster : s.isMaster = true) : s.gotSlack h = s.setSlack m (h.be 0x18 2) := by
  rw [State.gotSlack, hg]
  dsimp only
  rw [hm]
  exact if_pos hmaster

/-- An answer to the reckoning, judged against the module's own digests (R473). -/
theorem gotReckonRsp_judges {s : State} {h : Hdr} {g : CascadeRec} {m : Nat} (hg : s.group? = some g) (hm : g.memberOf h.src = some m)
    (hmaster : s.isMaster = true) (hopen : s.casc.roundOpen = true) (hid : h.be 0x18 2 = g.groupId) (hround : h.be 0x1C 4 = s.nat Reg.casReckonRound)
    (hlen : h.payload.length = 96) (hans : s.casc.answered = []) (hmis : s.casc.mismatched = []) :
    s.gotReckonRsp h = (let a := s.setDigest (Reg.casMemberDigest m 0) (digestOf h.payload)
      if digestOf h.payload = digestOf a.threeDigests then { a with casc := { a.casc with answered := [m] } }
      else { a with casc := { a.casc with answered := [m], mismatched := [m] } }) := by
  have hcasc : (s.setDigest (Reg.casMemberDigest m 0) (digestOf h.payload)).casc = s.casc :=
    (congrArg State.casc (s.setDigest_frame (Reg.casMemberDigest m 0) (digestOf h.payload)).1).trans rfl
  have hans' : (s.setDigest (Reg.casMemberDigest m 0) (digestOf h.payload)).casc.answered = [] := (congrArg Casc.answered hcasc).trans hans
  have hmis' : (s.setDigest (Reg.casMemberDigest m 0) (digestOf h.payload)).casc.mismatched = [] := (congrArg Casc.mismatched hcasc).trans hmis
  rw [State.gotReckonRsp, hg]
  dsimp only
  rw [hm]
  dsimp only
  rw [if_neg (by simp [hmaster, hopen, hid, hround, hlen])]
  generalize s.setDigest (Reg.casMemberDigest m 0) (digestOf h.payload) = a at hans' hmis' ⊢
  rw [hans', hmis']
  by_cases hd : digestOf h.payload = digestOf a.threeDigests
  · rw [if_pos hd, decide_eq_true hd, Bool.true_or, if_pos rfl]
    rfl
  · rw [if_neg hd, decide_eq_false hd]
    rfl

theorem gotReckonReq_answers {s : State} {h : Hdr} {g : CascadeRec} (hg : s.group? = some g) (hin : s.inGroup = true) (hsrc : h.src = g.masterDevice)
    (hid : h.be 0x18 2 = g.groupId) : s.gotReckonReq h = (let a := ({ s with casc := { s.casc with lastReq := some s.tick } } : State).setBit Reg.casStatus 29 false
      (.accept, a.sendSeq h.src 0x51 0 0 (beBytes 2 g.groupId ++ [BitVec.ofNat 8 a.memberId, 0] ++ beBytes 4 (h.be 0x1C 4)) a.threeDigests none)) := by
  rw [State.gotReckonReq, hg]
  dsimp only
  rw [if_pos (by rw [hin, decide_eq_true hsrc, decide_eq_true hid]; rfl)]

theorem gotBreach_seen {s : State} {h : Hdr} (hs : (h.be 0x18 2 % 4096, h.be 0x1C 4) ∈ s.fab.seen) :
    s.gotBreach h = s.addCnt Reg.fabCntBreachRx 1 := by
  rw [State.gotBreach]
  exact if_pos (List.contains_iff_mem.mpr hs)

theorem gotBreach_new {s : State} {h : Hdr} (hs : (h.be 0x18 2 % 4096, h.be 0x1C 4) ∉ s.fab.seen) :
    s.gotBreach h = (let a := s.addCnt Reg.fabCntBreachRx 1
      let ps := (List.range 32).filter (fun p => (a.peer p h.src).isSome)
      let b := ps.foldl (fun (b : State) p => b.breachPolder p (h.be 0x18 2 % 4096) (h.be 0x20 1)) (a.seeBreach (h.be 0x18 2 % 4096) (h.be 0x1C 4))
      b.breachTo (((ps.flatMap b.peersOf).eraseDups).filter (· ≠ h.src)) (h.be 0x18 2 % 4096) (h.be 0x1C 4) (h.be 0x20 1)) := by
  rw [State.gotBreach]
  exact if_neg (fun k => hs (List.contains_iff_mem.mp k))

/-- A GRANT for one member, from the group's master in its turn (`src` 3) or from the source of grants outside a group (`src` 2) (R474, R504). -/
theorem gotGrant_applies {s : State} {h : Hdr} {from' : Nat} {src : Nat} (hnew : s.grantNewer (h.be 0x1C 4) = true) (hlease : h.be 0x20 2 ≤ 60000)
    (hone : Machine.bit (h.be 0x22 1) 0 = false)
    (hfrom : (Machine.bit h.flags 1 = true ∧ from' = s.grantSource ∧ s.inGroup = false ∧ src = 2) ∨
      (Machine.bit h.flags 1 = false ∧ (∃ g, s.group? = some g ∧ s.inGroup = true ∧ h.src = g.masterDevice) ∧ src = 3)) :
    s.gotGrant h from' = (.accept, (({ s with power := { s.power with grantSeen := some (h.be 0x1C 4) } } : State).applyGrant
      (h.be 0x18 4) (h.be 0x20 2) src).showCap) := by
  rw [State.gotGrant]
  dsimp only
  rcases hfrom with ⟨hu, hs, hg, rfl⟩ | ⟨hu, ⟨g, hg, hin, hm⟩, rfl⟩
  · rw [if_neg (by simp [hu, hs, hg, hnew, hone, Nat.not_lt.mpr hlease]), hone, hu]
    rfl
  · rw [if_neg (by simp [hu, hg, hin, hm, hnew, hone, Nat.not_lt.mpr hlease]), hone, hu]
    rfl

/-- Taking a datagram in leaves the commands. -/
theorem intake_cmds {s t : State} {f : Rx} {h : Hdr} (hin : s.intake f = (some h, t)) : t.cmds = s.cmds := by
  unfold State.intake at hin
  split at hin
  · cases hin
  · dsimp only at hin
    split at hin
    · cases hin
    · split at hin
      · obtain ⟨-, rfl⟩ := Prod.mk.inj hin
        exact (countRx_sent s f.port (f.bytes.length + ipOver f.src) f.ce).cmds
      · cases hin

/-- An acknowledgement taken in. -/
theorem gotFrame_ack {s t : State} {f : Rx} {h : Hdr} (hin : s.intake f = (some h, t)) (k : h.typ = 0x10) (hn : NoneWaits (t.gotAck h) h.src) :
    s.gotFrame f = t.gotAck h := by
  rw [State.gotFrame, hin]
  dsimp only
  rw [if_pos k]
  exact waitingTurns_none hn

theorem gotFrame_nak {s t : State} {f : Rx} {h : Hdr} (hin : s.intake f = (some h, t)) (k : h.typ = 0x11) (hn : NoneWaits (t.gotNak h) h.src) :
    s.gotFrame f = t.gotNak h := by
  rw [State.gotFrame, hin]
  dsimp only
  rw [if_neg (by rw [k]; decide), if_pos k]
  exact waitingTurns_none hn

/-- An unsequenced GRANT taken in. -/
theorem gotFrame_grant {s t u : State} {f : Rx} {h : Hdr} (hin : s.intake f = (some h, t)) (k : h.typ = 0x60) (hu : Machine.bit h.flags 1 = true)
    (hg : t.gotGrant h f.src = (.accept, u)) (hn : NoneWaits u h.src) : s.gotFrame f = u := by
  have hseq : h.sequenced = false := by
    rw [Hdr.sequenced, k, hu]
    rfl
  rw [State.gotFrame, hin]
  dsimp only
  rw [if_neg (by rw [k]; decide), if_neg (by rw [k]; decide), hseq, if_neg Bool.false_ne_true, hg]
  exact waitingTurns_none hn

theorem rx_grant (s : State) (p : Power) (w lease src : Nat) : ((({ s with power := p } : State).applyGrant w lease src).showCap).fab = s.fab := by
  have happly : (({ s with power := p } : State).applyGrant w lease src).fab = s.fab := rfl
  exact ((congrArg State.fab (showCap_keeps _).1).trans rfl).trans happly

theorem NoneWaits.of_fab {s t : State} {d : Nat} (h : NoneWaits s d) (k : t.fab = s.fab) : NoneWaits t d := fun r hr =>
  h r (by rw [State.rxOf, k, ← State.rxOf] at hr; exact hr)

/-- What an acknowledgement leaves of its flow (R449). -/
theorem gotAck_shows {t : State} {h : Hdr} {fl : Flow} (hfl : SMap.get (fun _ => none) t.fab.flows h.src = some fl) (hgen : fl.gen = h.gen)
    (hpend : t.parity.pending = []) (hown : ∀ y ∈ fl.unacked, y.owner = none) (hn : NoneWaits t h.src) :
    NoneWaits (t.gotAck h) h.src ∧ (t.gotAck h).cmds = t.cmds ∧ ((t.gotAck h).flow h.src).gen = fl.gen ∧
    ((t.gotAck h).flow h.src).unacked.map (fun y => y.psn) =
      (fl.unacked.filter (fun y => !ackCovers (h.be 0x18 4) h.payload y.psn)).map (fun y => y.psn) := by
  obtain ⟨h1, h2, h3, h4⟩ := ackPart_shows (gotAck_ackPart hfl hgen hpend hown)
  rw [flow_setFlow_same] at h2 h3
  exact ⟨h4 hn, h1, h2, h3⟩

/-- What a refusal leaves of its flow (R453). -/
theorem refused_shows (t : State) (d n : Nat) (f : Flow) (hn : NoneWaits t d) :
    NoneWaits (((t.addCnt Reg.fabCntNakRx n).setFlow d f).pump d) d ∧ (((t.addCnt Reg.fabCntNakRx n).setFlow d f).pump d).cmds = t.cmds ∧
    ((((t.addCnt Reg.fabCntNakRx n).setFlow d f).pump d).flow d).unacked.map (fun y => y.psn) = f.unacked.map (fun y => y.psn) := by
  obtain ⟨h1, -, h3, h4⟩ := ackPart_shows (ackPart_pump ((t.addCnt Reg.fabCntNakRx n).setFlow d f) d)
  rw [flow_setFlow_same] at h3
  exact ⟨h4 hn, h1, h3⟩

theorem gotNak_resync {t : State} {h : Hdr} {fl : Flow} (hfl : SMap.get (fun _ => none) t.fab.flows h.src = some fl) (hgen : fl.gen = h.gen)
    (hsync : Machine.bit (h.be 0x1D 1) 0 = true) : t.gotNak h = (t.addCnt Reg.fabCntNakRx 1).resync h.src := by
  unfold State.gotNak
  dsimp only
  rw [if_neg (by rw [flow_of_get hfl]; simp [hgen, State.addCnt, hfl]), hsync]
  rfl

theorem waiting_none_iff {s t : State} {d : Nat} (h : (t.rxOf d).map (fun r => r.waiting) = (s.rxOf d).map (fun r => r.waiting)) (hn : NoneWaits s d) :
    NoneWaits t d := fun r hr => by
  rw [hr] at h
  cases hs : s.rxOf d with
  | none => rw [hs] at h; cases h
  | some q =>
    rw [hs] at h
    exact (Option.some.inj h).trans (hn q hs)

/-- A row of `frameRows` whose frame, in its turn, is applied and accepted. -/
theorem takesTurn_row {s t u : State} {f : Rx} {env : Env} {c : Instr} {b : Bool} {typ : Nat} {h : Hdr} {r : RxFlow} (hmem : (c, b, typ) ∈ frameRows f env)
    (hin : TakenIn (if b then s.arrive env else s) f typ h t) (ht : InTurn t h r)
    (happly : h.typ = typ → applyFrame (t.setRx h.src (cameTo f r)) f h = (.accept, u)) : TakesTurn c s u h (cameTo f r) := by
  obtain ⟨hp, hft, hht, hin⟩ := hin
  obtain ⟨n1, n2, n3⟩ := frameRows_typ f env _ hmem
  exact takesTurn_of (frameRows_become s env f hp _ hmem hft) hin (sequenced_of (hht ▸ n1) (hht ▸ n2) (.inl (hht ▸ n3))) ht (happly hht)

end Sys2Proof.Machine

namespace Sys2Proof.Proofs
open Sys2Proof.Machine

/-- Settles O56: a frame in its turn is applied and its PSN accepted (`takesTurn_of`), whatever its type; what each type applies is its own lemma;
acknowledgements and refusals by what they leave of their flow. -/
theorem frames : Obligations.Frames := by
  unfold Obligations.Frames
  intro s env f rows
  have hbecome := frameRows_become s env f
  refine ⟨fun r hr h t hin => ?_, fun r hr t hp ht hin => ?_, fun h hno => ?_, fun h r hr hb => receive_again hr hb, fun h t r ht => ?_, fun h t hin hu hsrc hnew hle hone hgrp hn => ?_,
    fun h t fl hfl hgen hn hpend hown => ⟨fun hin => ?_, fun hin hsync y hy => ⟨fun hst => ?_, fun hst => ?_⟩, fun hin hsync => ?_⟩⟩
  · obtain ⟨hp, hft, hht, hin⟩ := hin
    obtain ⟨n1, n2, n3⟩ := frameRows_typ f env r hr
    have := hbecome hp r hr hft
    rwa [gotFrame_sequenced hin (sequenced_of (hht ▸ n1) (hht ▸ n2) (.inl (hht ▸ n3)))] at this
  · have := hbecome hp r hr ht
    rwa [gotFrame_none hin] at this
  · rw [State.receive, hno]
  · intro x T
    refine ⟨fun hin hc u hw => ?_, fun hin hc hpos hle data u hr => ⟨fun hsent => ?_, fun hsent hrx => ?_⟩, fun hin hh => ?_,
      fun hin hh c w base left v hc hw hf hrun => ?_, fun hin hstop c step data early hc hw h1 h2 h3 => ?_,
      fun hin g i u hg hi hu hv hs hk hik hd hl huu hlen hr tag a htag hne => ⟨fun hsame => ?_, fun hnew herr hwerr => ?_⟩,
      fun hin g hg hv hs hi hd hpos hle hu u hr => ?_, fun hin hh c left hv bad tags failed chunks' hc hw hd hl hlen hnew => ?_,
      fun g m hg hm hmaster => ⟨fun hin hid => ?_, fun hin => ?_, fun hin hopen hid hround hlen hans hmis => ⟨fun hd => ?_, fun hd => ?_⟩⟩,
      fun hin => ⟨fun hseen => ?_, fun hnew => ?_⟩,
      fun g hg hin' hsrc => ⟨fun hin hid => ?_, fun hin hu hnew hle hone => ?_⟩⟩
    · exact takesTurn_row (b := true) (by simp [frameRows]) hin ht fun k =>
        (applyFrame_write k).trans (peerWrite_stores hc hw)
    · exact takesTurn_row (b := true) (by simp [frameRows]) hin ht fun k =>
        (applyFrame_readReq k).trans ((peerRead_answers hc hpos hle hr).trans (if_pos hsent))
    · obtain ⟨hp, hft, hht, hin⟩ := hin
      have happly := (applyFrame_readReq (f := f) hht).trans ((peerRead_answers hc hpos hle hr).trans (if_neg (by rw [hsent]; exact Bool.false_ne_true)))
      obtain ⟨hrec, hnone⟩ := receive_owed ht happly hrx
      have := hbecome hp (.fabReadReq f env, true, 0x02) (by simp [frameRows]) hft
      rwa [if_pos rfl, gotFrame_sequenced hin (sequenced_of (by omega) (by omega) (.inl (by omega))), hrec, waitingTurns_none hnone] at this
    · exact takesTurn_row (b := true) (by simp [frameRows]) hin ht fun k =>
        applyFrame_readRsp k hh
    · exact takesTurn_row (b := true) (by simp [frameRows]) hin ht fun k =>
        (applyFrame_readRsp k hh).trans (congrArg (Prod.mk Verdict.accept) (gotResponse_stores hc hw hf hrun))
    · exact takesTurn_row (b := true) (by simp [frameRows]) hin ht fun k =>
        (applyFrame_coll k).trans (gotColl_takes hstop hc hw h1 h2 h3)
    · subst hg hi hu
      exact takesTurn_row (b := true) (by simp [frameRows]) hin ht fun k =>
        (applyFrame_delta k).trans ((gotDelta_applies hv hs hk hik hd hl huu hlen hr).trans
          (applyDelta_again h.payload (hsame ▸ htag) (hsame ▸ hne)))
    · subst hg hi hu
      exact takesTurn_row (b := true) (by simp [frameRows]) hin ht fun k =>
        (applyFrame_delta k).trans ((gotDelta_applies hv hs hk hik hd hl huu hlen hr).trans (applyDelta_new htag hne hnew herr hwerr))
    · subst hg
      exact takesTurn_row (b := true) (by simp [frameRows]) hin ht fun k =>
        (applyFrame_parReq k).trans (gotReadReq_answers hv hs hi hd hpos hle hu hr)
    · exact takesTurn_row (b := true) (by simp [frameRows]) hin ht fun k =>
        (applyFrame_parRsp k hh).trans (congrArg (Prod.mk Verdict.accept) (gotReadRsp_keeps hc hw hd hl hlen hnew))
    · exact takesTurn_row (env := env) (b := false) (by simp [frameRows]) hin ht fun k =>
        (applyFrame_harv k).trans (congrArg (Prod.mk Verdict.accept) (gotHarvReport_keeps hg hm hmaster hid))
    · exact takesTurn_row (env := env) (b := false) (by simp [frameRows]) hin ht fun k =>
        (applyFrame_slack k).trans (congrArg (Prod.mk Verdict.accept) (gotSlack_keeps hg hm hmaster))
    · exact takesTurn_row (env := env) (b := false) (by simp [frameRows]) hin ht fun k =>
        (applyFrame_reckonRsp k).trans (congrArg (Prod.mk Verdict.accept)
          ((gotReckonRsp_judges hg hm hmaster hopen hid hround hlen hans hmis).trans (if_pos hd)))
    · exact takesTurn_row (env := env) (b := false) (by simp [frameRows]) hin ht fun k =>
        (applyFrame_reckonRsp k).trans (congrArg (Prod.mk Verdict.accept)
          ((gotReckonRsp_judges hg hm hmaster hopen hid hround hlen hans hmis).trans (if_neg hd)))
    · exact takesTurn_row (env := env) (b := false) (by simp [frameRows]) hin ht fun k =>
        (applyFrame_breach k).trans (congrArg (Prod.mk Verdict.accept) (gotBreach_seen hseen))
    · exact takesTurn_row (env := env) (b := false) (by simp [frameRows]) hin ht fun k =>
        (applyFrame_breach k).trans (congrArg (Prod.mk Verdict.accept) (gotBreach_new hnew))
    · exact takesTurn_row (env := env) (b := false) (by simp [frameRows]) hin ht fun k =>
        (applyFrame_reckonReq k).trans (gotReckonReq_answers hg hin' hsrc hid)
    · obtain ⟨hp, hft, hht, hin⟩ := hin
      exact takesTurn_of (becomes_of (exec_grantFrame f s) (decide_eq_true ⟨hp, hft⟩) rfl) hin (sequenced_of (by omega) (by omega) (.inr hu)) ht
        ((applyFrame_grant hht).trans (gotGrant_applies hnew hle hone (.inr ⟨hu, ⟨g, hg, hin', hsrc⟩, rfl⟩)))
  · obtain ⟨hp, hft, hht, hin⟩ := hin
    refine becomes_of (exec_grantFrame f s) (decide_eq_true ⟨hp, hft⟩) ?_
    exact gotFrame_grant hin hht hu (gotGrant_applies hnew hle hone (.inl ⟨hu, hsrc, hgrp, rfl⟩)) (hn.of_fab (rx_grant _ _ _ _ _))
  · obtain ⟨hp, hft, hht, hin⟩ := hin
    obtain ⟨k1, k2, k3, k4⟩ := gotAck_shows hfl hgen hpend hown hn
    refine completes_apart (fun _ _ h => h) (exec_fabAck f s) (decide_eq_true ⟨hp, hft⟩) ?_
    rw [show doFabAck f s = t.gotAck h from gotFrame_ack hin hht k1]
    exact ⟨k2.trans (intake_cmds hin), k3, k4⟩
  · obtain ⟨hp, hft, hht, hin⟩ := hin
    refine becomes_of (exec_fabNak f s) (decide_eq_true ⟨hp, hft⟩) ?_
    have hbusy := gotNak_busy hfl hgen hsync hy hst
    exact (gotFrame_nak hin hht (hbusy ▸ hn)).trans hbusy
  · obtain ⟨hp, hft, hht, hin⟩ := hin
    have hrefused := gotNak_refused hfl hgen hpend (hown y (List.mem_of_find?_eq_some hy)) hsync hy hst
    obtain ⟨k1, k2, k3⟩ := refused_shows t h.src 1 { fl with unacked := fl.unacked.filter (fun u => u.psn != h.be 0x18 4) } hn
    refine completes_apart (fun _ _ h => h) (exec_fabNak f s) (decide_eq_true ⟨hp, hft⟩) ?_
    rw [show doFabNak f s = t.gotNak h from gotFrame_nak hin hht (hrefused ▸ k1), hrefused]
    exact ⟨k2.trans (intake_cmds hin), k3⟩
  · obtain ⟨hp, hft, hht, hin⟩ := hin
    obtain ⟨k1, k2, k3⟩ := resync_shows (t.addCnt Reg.fabCntNakRx 1) h.src
    have hsync' := gotNak_resync hfl hgen hsync
    have hnone : NoneWaits (t.gotNak h) h.src := by
      rw [hsync']
      exact waiting_none_iff k3 hn
    refine completes_apart (fun _ _ h => h) (exec_fabNak f s) (decide_eq_true ⟨hp, hft⟩) ?_
    rw [show doFabNak f s = t.gotNak h from gotFrame_nak hin hht hnone, hsync', ← flow_of_get hfl]
    exact ⟨k1, k2⟩

end Sys2Proof.Proofs
end

section
/-! PROOF. The register and control micro-ops of a near-bank unit (R341, R345). -/
namespace Sys2Proof.Machine

/-! ### What a micro-op of an NBU leaves of the module -/

theorem nbu_site {s : State} {col bank : Nat} {q : NbuSeq} (h : s.nbu col bank = some q) :
    q.col = col ∧ q.bank = bank ∧ col < 256 ∧ bank < 32 := by
  obtain ⟨-, hq⟩ := Option.filter_eq_some_iff.mp h
  simp only [Bool.and_eq_true, decide_eq_true_eq] at hq
  obtain ⟨⟨⟨h1, h2⟩, h3⟩, h4⟩ := hq
  exact ⟨h1, h2, h3, h4⟩

/-- An NBU reads the sequence that stands there, if the sequence is its own. -/
theorem nbu_setNbu_same (s : State) {col bank : Nat} (r : NbuSeq) (hc : col < 256) (hb : bank < 32) (h1 : r.col = col) (h2 : r.bank = bank) :
    (s.setNbu col bank (some r)).nbu col bank = some r := by
  unfold State.nbu State.setNbu
  dsimp only
  rw [SMap.get_set_same, Option.filter_some, if_pos (by simp [h1, h2, hc, hb])]

theorem nbu_setNbu_none (s : State) (col bank : Nat) : (s.setNbu col bank none).nbu col bank = none := by
  unfold State.nbu State.setNbu
  dsimp only
  rw [SMap.get_set_same]
  rfl

/-- Every other NBU reads as before. -/
theorem nbu_setNbu_ne (s : State) {col bank : Nat} (r : Option NbuSeq) (hb : bank < 32) {x y : Nat} (h : (x, y) ≠ (col, bank)) :
    (s.setNbu col bank r).nbu x y = s.nbu x y := by
  unfold State.nbu State.setNbu
  dsimp only
  rcases Nat.lt_or_ge y 32 with hy | hy
  · rw [SMap.get_set_ne]
    rintro he
    exact h (Prod.ext (by show x = col; omega) (by show y = bank; omega))
  · rw [Option.filter_eq_none_iff.mpr, Option.filter_eq_none_iff.mpr] <;>
    · intro a _
      rw [decide_eq_false (show ¬ y < 32 by omega), Bool.and_false]
      exact Bool.false_ne_true

/-- What a micro-op whose NBU stands afterwards at `r` does to the module: it counts its cycles, and its command carries W_THROTTLED while
the duty of its layer is cut (R357). -/
def MicroGoes (s : State) (col bank : Nat) (q : NbuSeq) (u : DWord) (r : NbuSeq) (t : State) : Prop :=
  t.nbu col bank = some { r with linked := Machine.bit u.toNat 34, served := 0 } ∧
  (∀ x y, (x, y) ≠ (col, bank) → t.nbu x y = s.nbu x y) ∧
  (s.dutyCut col bank = false → t.cmds = s.cmds) ∧
  (s.dutyCut col bank = true → t.cmds = (s.warnCmd q.cmd Wn.throttled).cmds) ∧
  (∀ a, a ≠ Reg.nbuCntBusy → t.cnt a = s.cnt a) ∧
  { t with nbus := s.nbus, cmds := s.cmds, cnts := s.cnts, freeCtr := s.freeCtr } = s

theorem warnDuty_eq (s : State) (q : NbuSeq) : s.warnDuty q = { s with cmds := (s.warnDuty q).cmds } := by
  unfold State.warnDuty
  split
  · rfl
  · rfl

theorem microGoes_putMicro (s : State) {col bank : Nat} {q r : NbuSeq} (u : DWord) (o : Bool) (hq : s.nbu col bank = some q)
    (h1 : r.col = col) (h2 : r.bank = bank) : MicroGoes s col bank q u r ((s.warnDuty q).putMicro r u o) := by
  obtain ⟨hqc, hqb, hc, hb⟩ := nbu_site hq
  have hcmds : ((s.warnDuty q).putMicro r u o).cmds = (s.warnDuty q).cmds := rfl
  subst h1 h2
  refine ⟨nbu_setNbu_same _ _ hc hb rfl rfl, fun x y h => ?_, fun h => ?_, fun h => ?_, fun a ha => ?_, ?_⟩
  · refine (nbu_setNbu_ne (s.warnDuty q) (some { r with linked := Machine.bit u.toNat 34, served := 0 }) hb h).trans ?_
    rw [warnDuty_eq]
    rfl
  · rw [hcmds, State.warnDuty, hqc, hqb, h]
    rfl
  · rw [hcmds, State.warnDuty, hqc, hqb, h]
    rfl
  · refine (cnt_addCnt_ne _ _ ha).trans ?_
    rw [warnDuty_eq]
    rfl
  · rw [warnDuty_eq]
    rfl

theorem microOp_seq {s : State} {col bank op : Nat} {q : NbuSeq} {u : DWord} (h : s.microOp col bank op = some (q, u)) :
    s.nbu col bank = some q := by
  unfold State.microOp at h
  split at h
  · exact absurd h (by simp)
  · rename_i q' hq'
    split at h
    · split at h
      · obtain ⟨rfl, rfl⟩ := Prod.mk.inj (Option.some.inj h)
        exact hq'
      · exact absurd h (by simp)
    · exact absurd h (by simp)

/-- A micro-op's function keeps the place of its unit. -/
def SiteKept (f : NbuSeq → DWord → NbuSeq) : Prop := ∀ q u, (f q u).col = q.col ∧ (f q u).bank = q.bank

theorem site_foldl {β : Type} {f : NbuSeq → β → NbuSeq} (hf : ∀ q b, (f q b).col = q.col ∧ (f q b).bank = q.bank) (l : List β) (q : NbuSeq) :
    (l.foldl f q).col = q.col ∧ (l.foldl f q).bank = q.bank := by
  induction l generalizing q with
  | nil => exact ⟨rfl, rfl⟩
  | cons b l ih => exact ⟨(ih (f q b)).1.trans (hf q b).1, (ih (f q b)).2.trans (hf q b).2⟩

theorem site_next {q r : NbuSeq} (h : r.col = q.col ∧ r.bank = q.bank) : r.next.col = q.col ∧ r.next.bank = q.bank := h

theorem lanes_site (two three : Bool) (f : Num → Num → Num → Num) : SiteKept (fun q u => q.lanes u two three f) := fun q u => by
  unfold NbuSeq.lanes
  refine site_next (site_foldl ?_ (List.range (uCnt u + 1)) q)
  exact fun _ _ => ⟨rfl, rfl⟩

theorem reduce_site (f : Num → Num → Num) : SiteKept (fun q u => q.reduce u f) := fun q u => by
  unfold NbuSeq.reduce
  refine site_next (site_foldl ?_ (List.range (uCnt u + 1)) q)
  exact fun _ _ => ⟨rfl, rfl⟩

theorem exp_site (pick : Nat → Nat) : SiteKept (uExp pick) := fun q u => by
  unfold uExp
  refine site_next (site_foldl ?_ (List.range (uCnt u + 1)) q)
  exact fun _ _ => ⟨rfl, rfl⟩

/-- A row whose micro-op touches only the unit's own state. -/
def IsMicro (c : Instr) (s : State) (col bank op : Nat) (f : NbuSeq → DWord → NbuSeq) : Prop :=
  exec c s = .next ((s.microStep col bank op f).withQueue s.pending)

theorem isMicro_of {c : Instr} {s : State} {col bank op : Nat} {f : NbuSeq → DWord → NbuSeq} {ok : Bool}
    (e : exec c s = guarded ok s (fun s => s.microStep col bank op f)) (h : ok = true) : IsMicro c s col bank op f :=
  e.trans (guarded_next h)

theorem microStep_goes {s : State} {col bank op : Nat} {f : NbuSeq → DWord → NbuSeq} {q : NbuSeq} {u : DWord} (hf : SiteKept f)
    (h : s.microOp col bank op = some (q, u)) : MicroGoes s col bank q u (f q u) (s.microStep col bank op f) := by
  obtain ⟨hqc, hqb, -, -⟩ := nbu_site (microOp_seq h)
  rw [State.microStep, h]
  exact microGoes_putMicro s u false (microOp_seq h) ((hf q u).1.trans hqc) ((hf q u).2.trans hqb)

theorem MicroGoes.pending {s t : State} {col bank : Nat} {q r : NbuSeq} {u : DWord} (h : MicroGoes s col bank q u r t) : t.pending = s.pending :=
  (congrArg State.pending h.2.2.2.2.2 :)

theorem IsMicro.completes {c : Instr} {s : State} {col bank op : Nat} {f : NbuSeq → DWord → NbuSeq} {q : NbuSeq} {u : DWord}
    (hc : IsMicro c s col bank op f) (hf : SiteKept f) (h : s.microOp col bank op = some (q, u)) :
    Completes c s (MicroGoes s col bank q u (f q u)) := by
  have hg := microStep_goes hf h
  have hp := hg.pending
  refine ⟨_, hc, ?_⟩
  rw [withQueue_self hp]
  exact hg

theorem IsMicro.becomes {c : Instr} {s : State} {col bank op : Nat} {f : NbuSeq → DWord → NbuSeq} (hc : IsMicro c s col bank op f)
    (h : s.microOp col bank op = none) : Becomes c s s := by
  refine hc.trans ?_
  rw [State.microStep, h]

/-! ### The register micro-ops -/

/-- The register micro-ops: row, OP and effect on the unit. -/
def registerRows (col bank : Nat) : List (Instr × Nat × (NbuSeq → DWord → NbuSeq)) :=
  [(.nbuFma col bank, 0x08, fun q u => q.lanes u true true (fun a b d => ((a.mul b).add d).fp32)),
   (.nbuMul col bank, 0x09, fun q u => q.lanes u true false (fun a b _ => a.fmul b)),
   (.nbuAdd col bank, 0x0A, fun q u => q.lanes u true false (fun a b _ => a.fadd b)),
   (.nbuMax col bank, 0x0B, fun q u => q.lanes u true false (fun a b _ => (a.max b).fp32)),
   (.nbuScale col bank, 0x0C, fun q u => q.lanes u false false (fun a _ _ => a.fmul (f32 (BitVec.ofNat 32 (uImm u))))),
   (.nbuSgn col bank, 0x0D, fun q u => q.lanes u false false (fun a _ _ => signOf a)),
   (.nbuClip col bank, 0x0E, fun q u => q.lanes u false false (fun a _ _ => clampTo (f32 (BitVec.ofNat 32 (uImm u))) a)),
   (.nbuHsum col bank, 0x10, fun q u => q.reduce u Num.fadd),
   (.nbuHmax col bank, 0x11, fun q u => q.reduce u (fun a b => (a.max b).fp32))]

theorem registerRows_micro (s : State) {col bank : Nat} (hc : col < 256) (hb : bank < 32) :
    ∀ r ∈ registerRows col bank, IsMicro r.1 s col bank r.2.1 r.2.2 ∧ SiteKept r.2.2 := by
  have hwf : decide (col < 256 ∧ bank < 32) = true := decide_eq_true ⟨hc, hb⟩
  simp only [registerRows, List.forall_mem_cons]
  exact ⟨⟨isMicro_of (exec_nbuFma col bank s) hwf, lanes_site _ _ _⟩, ⟨isMicro_of (exec_nbuMul col bank s) hwf, lanes_site _ _ _⟩,
    ⟨isMicro_of (exec_nbuAdd col bank s) hwf, lanes_site _ _ _⟩, ⟨isMicro_of (exec_nbuMax col bank s) hwf, lanes_site _ _ _⟩,
    ⟨isMicro_of (exec_nbuScale col bank s) hwf, fun q u => lanes_site false false _ q u⟩,
    ⟨isMicro_of (exec_nbuSgn col bank s) hwf, lanes_site _ _ _⟩,
    ⟨isMicro_of (exec_nbuClip col bank s) hwf, fun q u => lanes_site false false _ q u⟩,
    ⟨isMicro_of (exec_nbuHsum col bank s) hwf, reduce_site _⟩, ⟨isMicro_of (exec_nbuHmax col bank s) hwf, reduce_site _⟩, nofun⟩

/-- EXP takes its choices from the free values that come next (log entry 16). -/
theorem exp_goes {s : State} {col bank : Nat} {q : NbuSeq} {u : DWord} (h : s.microOp col bank 0x0F = some (q, u)) :
    MicroGoes s col bank q u (uExp (fun i => Config.freeNat (s.freeCtr + i)) q u) (doNbuExp col bank s) := by
  obtain ⟨h1, h2, h3, h4, h5, h6⟩ := microStep_goes (s := { s with freeCtr := s.freeCtr + 64 })
    (exp_site (fun i => Config.freeNat (s.freeCtr + i))) (show State.microOp _ col bank 0x0F = some (q, u) from h)
  exact ⟨h1, h2, h3, h4, h5, (congrArg (fun x : State => { x with freeCtr := s.freeCtr }) h6 :)⟩

end Sys2Proof.Machine

namespace Sys2Proof.Proofs
open Sys2Proof.Machine

/-- Settles O31: each register micro-op is a step of the unit's own state. -/
theorem nbuRegisterOps : Obligations.NbuRegisterOps := by
  unfold Obligations.NbuRegisterOps
  intro s col bank hc hb goes rows
  have hmicro : ∀ r ∈ rows, IsMicro r.1 s col bank r.2.1 r.2.2 ∧ SiteKept r.2.2 := registerRows_micro s hc hb
  refine ⟨fun r hr q u h => (hmicro r hr).1.completes (hmicro r hr).2 h, fun q u h => ?_, fun r hr h => (hmicro r hr).1.becomes h⟩
  have hg : MicroGoes s col bank q u _ _ := exp_goes h
  refine ⟨_, (exec_nbuExp col bank s).trans (guarded_next (decide_eq_true ⟨hc, hb⟩)), fun i => Config.freeNat (s.freeCtr + i), ?_⟩
  rw [withQueue_self hg.pending]
  exact hg
end Sys2Proof.Proofs
end

section
/-! PROOF. A store of a register without lanes (R342). -/
namespace Sys2Proof.Machine

/-- A command of one near-bank unit, that of column 0 and bank 0, which runs. -/
def storing : Cmd :=
  { id := 1, ctx := 0, slot := 1, desc := BitVec.ofNat 512 0x40, fetched := 0, vigilFrom := 0, vigilMs := 100000, roundDefault := 0, phase := .running,
    warn := 0, wrote := false, errAddr := none, errMem := false, quiesced := false, replayed := false, work := .nbu [(0, 0)] }

/-- Its sequence: a store of register 0 as FP32 into its source stream of 4,096 bytes; the state of the sequence names no vector register. -/
def laneless : NbuSeq := { newSeq 1 0 0 [BitVec.ofNat 64 (2 ^ 58 * 2)] 0 4096 0 0 [] with vregs := [] }

/-- A module after reset in which that sequence stands; the first byte of its stream is 1. -/
def storesNothing : State :=
  { State.reset with
    cmds := [storing], nbus := [(0, some laneless)]
    mem := { State.reset.mem with dram := State.reset.mem.dram.write (dramKey 0 0) [1] } }

/-- What the state of the module is when the store stands at its program counter. -/
abbrev stored : State := (storesNothing.warnDuty laneless).arrive nothingArrives

/-- The store may issue, its access fits the stream, and the stream's block holds no error. -/
theorem storesNothing_stands : storesNothing.cmd? laneless.cmd = some storing ∧
    storesNothing.microOp 0 0 0x02 = some (laneless, BitVec.ofNat 64 (2 ^ 58 * 2)) ∧
    (stored.streamAccess laneless (BitVec.ofNat 64 (2 ^ 58 * 2))).toOption = some (0, 64) ∧
    stored.colFailed 0 = false ∧ stored.flipArmed 0 = false ∧
    ∀ i, i < 64 → stored.blockErr 0 (stored.cellOf 0 (0 + i)) = ⟨0, 0⟩ := by decide +kernel

/-- The first byte keeps its 1, while the bytes of the register, of which there are none, would read 0. -/
theorem storesNothing_keeps : (doNbuSt 0 0 nothingArrives storesNothing).mem.dram.byte (dramKey 0 (stored.cellOf 0 (0 + 0))) = 1 ∧
    (storeGroup (uFmt (BitVec.ofNat 64 (2 ^ 58 * 2))) stored.freeCtr (laneless.v (uVd (BitVec.ofNat 64 (2 ^ 58 * 2))))).1.getD 0 0 = 0 := by
  decide +kernel

end Sys2Proof.Machine

namespace Sys2Proof.Proofs
open Sys2Proof.Machine

/-- Refutes O32: its clause on a store says that the bytes of the converted register stand in the stream, the missing ones being 0, in every state;
in a state whose sequence names no register nothing is stored, and the byte that stood there, a 1, stays. -/
theorem not_nbuControlAndMemoryOps : ¬ Obligations.NbuControlAndMemoryOps := by
  unfold Obligations.NbuControlAndMemoryOps
  intro h
  obtain ⟨hcmd, hop, haccess, hcol, hflip, herrs⟩ := storesNothing_stands
  obtain ⟨hkept, hzero⟩ := storesNothing_keeps
  have hfits : stored.streamAccess laneless (BitVec.ofNat 64 (2 ^ 58 * 2)) = .ok (0, 64) := by
    cases hx : stored.streamAccess laneless (BitVec.ofNat 64 (2 ^ 58 * 2)) with
    | error a => rw [hx] at haccess; cases haccess
    | ok x => rw [hx] at haccess; exact congrArg Except.ok (Option.some.inj haccess)
  obtain ⟨-, -, hstore⟩ := (h.2 storesNothing 0 0 nothingArrives laneless (BitVec.ofNat 64 (2 ^ 58 * 2)) storing (by decide) (by decide) hcmd).2 hop
  obtain ⟨t, hexec, -, hbytes, -⟩ := hstore 0 64 hfits ⟨hcol, hflip, herrs⟩ (by decide) rfl
  injection ((exec_nbuSt 0 0 nothingArrives storesNothing).trans (guarded_next (s := storesNothing) rfl)).symm.trans hexec with hstates
  have hbyte := hbytes 0 (by decide)
  rw [← hstates, State.withQueue_mem] at hbyte
  have hone : (1 : Byte) = 0 := hkept.symm.trans (hbyte.trans hzero)
  exact absurd hone (by decide)

end Sys2Proof.Proofs
end

section
/-! PROOF. The dispatcher of the near-bank units and the end of a sequence (R338, R339, R355). -/
namespace Sys2Proof.Machine

/-! ### The NBUs of a command -/

theorem cellBankIdx_lt (q : Nat) : cellBankIdx q < 32 := by
  have hbank : cellBank q < 2 ^ 4 := Nat.mod_lt _ (by decide)
  unfold cellBankIdx cellLayer
  split <;> omega

theorem bitsOf_lt {n mask b : Nat} (h : b ∈ bitsOf n mask) : b < n := List.mem_range.mp (List.mem_filter.mp h).1

theorem getD_lt {l : List Nat} {n : Nat} (h : ∀ b ∈ l, b < n) (hn : 0 < n) (i : Nat) : l.getD i 0 < n := by
  rw [List.getD_eq_getElem?_getD]
  cases hi : l[i]? with
  | none => exact hn
  | some b => exact h b (List.mem_of_getElem? hi)

/-- The NBUs of a command are banks of their columns. -/
theorem nbusOf_bank {s : State} {c : Cmd} {m : Nat × Nat} (h : m ∈ s.nbusOf c) : m.2 < 32 := by
  unfold State.nbusOf at h
  split at h
  next =>
    obtain ⟨page, -, rfl⟩ := List.mem_map.mp (List.mem_eraseDups.mp h)
    exact cellBankIdx_lt _
  next =>
    obtain ⟨j, -, rfl⟩ := List.mem_map.mp h
    exact getD_lt (fun b hb => bitsOf_lt hb) (by decide) _
  next =>
    obtain ⟨col, -, hm⟩ := List.mem_flatMap.mp h
    obtain ⟨b, hb, rfl⟩ := List.mem_map.mp hm
    exact bitsOf_lt hb

/-- A new sequence stands on every NBU that is named, and no other NBU changes. -/
theorem nbu_beginSeqs (f : Nat → Nat → NbuSeq) (hf : ∀ x y, (f x y).col = x ∧ (f x y).bank = y) {x y : Nat} (hx : x < 256) (hy : y < 32)
    (names : List (Nat × Nat)) (hnames : ∀ m ∈ names, m.2 < 32) (s : State) :
    (s.beginSeqs names f).nbu x y = if (x, y) ∈ names then some (f x y) else s.nbu x y := by
  induction names generalizing s with
  | nil => rfl
  | cons n ns ih =>
    refine (ih (fun m hm => hnames m (List.mem_cons_of_mem n hm)) (s.setNbu n.1 n.2 (some (f n.1 n.2)))).trans ?_
    by_cases hn : (x, y) = n
    · subst hn
      rw [nbu_setNbu_same s _ hx hy (hf x y).1 (hf x y).2, if_pos List.mem_cons_self, ite_self]
    · rw [nbu_setNbu_ne s _ (hnames n List.mem_cons_self) hn]
      simp only [List.mem_cons, hn, false_or]

theorem beginSeqs_frame (names : List (Nat × Nat)) (f : Nat → Nat → NbuSeq) (s : State) :
    s.beginSeqs names f = { s with nbus := (s.beginSeqs names f).nbus } := by
  induction names generalizing s with
  | nil => rfl
  | cons n ns ih => exact (ih (s.setNbu n.1 n.2 (some (f n.1 n.2)))).trans rfl

/-! ### Dispatch -/

/-- A sequence of a command that has just begun on its NBU. -/
def Fresh (id : Nat) (f : Nat → Nat → NbuSeq) : Prop := ∀ x y, (f x y).cmd = id ∧ (f x y).col = x ∧ (f x y).bank = y ∧ (f x y).pc = 0 ∧ (f x y).ended = false

/-- A command without a retired unit leaves the ready queue, and a sequence of it begins on each of its NBUs. -/
theorem dispatch_begins {s : State} {c : Cmd} (h : s.retiredOf c = none) : ∃ f w, Fresh c.id f ∧
    s.dispatch c = ({ s with nbuReady := s.nbuReady.filter (· != c.id) }.beginSeqs (s.nbusOf c) f).setWork c.id w := by
  unfold State.dispatch
  rw [h]
  dsimp only
  split
  next => exact ⟨_, _, fun _ _ => ⟨rfl, rfl, rfl, rfl, rfl⟩, rfl⟩
  next => exact ⟨_, _, fun _ _ => ⟨rfl, rfl, rfl, rfl, rfl⟩, rfl⟩
  next => exact ⟨_, _, fun _ _ => ⟨rfl, rfl, rfl, rfl, rfl⟩, rfl⟩

theorem dispatch_nbuRun {s : State} {c : Cmd} (h : s.retiredOf c = none) (hw : c.work = .nbu []) : s.dispatch c =
    ({ s with nbuReady := s.nbuReady.filter (· != c.id) }.beginSeqs (nbuNamed c.desc) (fun col bank =>
      newSeq c.id col bank ((s.program (dfld c.desc 0x10 2)).getD []) (dfld c.desc 0x1C 4) (dfld c.desc 0x20 4) (dfld c.desc 0x24 4)
        (dfld c.desc 0x28 4) ((List.range 4).map (fun i => BitVec.ofNat 32 (dfld c.desc (0x30 + 4 * i) 4))))).setWork c.id
      (.nbu (nbuNamed c.desc)) := by
  have hnames : s.nbusOf c = nbuNamed c.desc := by rw [State.nbusOf, hw]
  unfold State.dispatch
  rw [h, hw, hnames]
  rfl

theorem doNbuDispatch_some {s : State} {id : Nat} {c : Cmd} (hc : s.cmd? id = some c) :
    doNbuDispatch id s = if s.mayDispatch c then s.dispatch c else s := by rw [doNbuDispatch, hc]

theorem mayDispatch_running {s : State} {c : Cmd} (h : s.mayDispatch c = true) : c.phase = .running := by
  simp only [State.mayDispatch, Bool.and_eq_true, decide_eq_true_eq] at h
  exact h.1.1.2

theorem failCmd_ends {s : State} {id : Nat} {c : Cmd} (hc : s.cmd? id = some c) (hph : ∀ st since, c.phase ≠ .stopping st since) (e : Nat × Nat) :
    Ends (s.failCmd id e) id e.1 := by
  refine ⟨_, cmd?_updCmd_same hc (fun c => by split <;> rfl), ?_⟩
  split
  next st' since h => exact absurd h (hph st' since)
  next => rfl

/-! ### The end of a sequence -/

theorem doNbuSequenceEnd_some {s : State} {col bank : Nat} {q : NbuSeq} (hq : s.nbu col bank = some q) :
    doNbuSequenceEnd col bank s = if q.prog.length ≤ q.pc && (q.ended || s.firmwareIssues q) then s.sequenceEnd q else s := by
  rw [doNbuSequenceEnd, hq]

theorem doNbuSequenceEnd_ends {s : State} {col bank : Nat} {q : NbuSeq} (hq : s.nbu col bank = some q) (hpc : q.prog.length ≤ q.pc)
    (hend : q.ended = true ∨ s.firmwareIssues q = true) : doNbuSequenceEnd col bank s = s.sequenceEnd q := by
  rw [doNbuSequenceEnd_some hq, decide_eq_true hpc, Bool.true_and, if_pos (Bool.or_eq_true_iff.mpr hend)]

theorem nbu_of_nbus {s t : State} (h : t.nbus = s.nbus) (col bank : Nat) : t.nbu col bank = s.nbu col bank := by
  rw [State.nbu, State.nbu, h]

theorem sequenceEnd_nbu {s : State} {q : NbuSeq} {c : Cmd} {left : List (Nat × Nat)} (hc : s.cmd? q.cmd = some c) (hph : c.phase = .running)
    (hw : c.work = .nbu left) : s.sequenceEnd q = if (left.filter (· != (q.col, q.bank))).isEmpty
      then (((s.runOwed q.col q.bank).setNbu q.col q.bank none).setWork c.id (.nbu (left.filter (· != (q.col, q.bank))))).endCmd c.id St.ok none
      else ((s.runOwed q.col q.bank).setNbu q.col q.bank none).setWork c.id (.nbu (left.filter (· != (q.col, q.bank)))) := by
  unfold State.sequenceEnd
  rw [hc]
  dsimp only
  rw [if_neg (not_not_intro hph), hw]

theorem sequenceEnd_attn {s : State} {q : NbuSeq} {c : Cmd} {dim : _} {l : _} {plan : _} {left : List (Nat × Nat)}
    (hc : s.cmd? q.cmd = some c) (hph : c.phase = .running) (hw : c.work = .attn dim l plan left) (hl : left.contains (q.col, q.bank) = true) :
    s.sequenceEnd q = (((s.runOwed q.col q.bank).firmwareWork q c).setWork c.id (.attn dim l plan (left.filter (· != (q.col, q.bank))))).setNbu
      q.col q.bank ((((s.runOwed q.col q.bank).firmwareWork q c).nbu q.col q.bank).map (fun x => { x with ended := true })) := by
  unfold State.sequenceEnd
  rw [hc]
  dsimp only
  rw [if_neg (not_not_intro hph), hw]
  dsimp only
  rw [if_pos hl]
  rfl

/-- What the sending of a step's deltas may change. -/
def DeltaFrame (s t : State) : Prop :=
  t = { s with freeCtr := t.freeCtr, regs := t.regs, cnts := t.cnts, fab := t.fab, parity := t.parity, out := t.out }

theorem DeltaFrame.trans {s t u : State} (h : DeltaFrame s t) (k : DeltaFrame t u) : DeltaFrame s u := by
  unfold DeltaFrame at *
  rw [k]; simp only; rw [h]

theorem DeltaFrame.foldl {β : Type} (f : State → β → State) (h : ∀ s x, DeltaFrame s (f s x)) (l : List β) (s : State) : DeltaFrame s (l.foldl f s) := by
  induction l generalizing s with
  | nil => rfl
  | cons x xs ih => exact (h s x).trans (ih _)

theorem Sent.deltaFrame {s t : State} (h : Sent s t) : DeltaFrame s t := by
  unfold DeltaFrame
  rw [show t = _ from h]

theorem deltaFrame_addCnt (s : State) (a n : Nat) : DeltaFrame s (s.addCnt a n) := rfl
theorem deltaFrame_parity (s : State) (p : Parity) : DeltaFrame s { s with parity := p } := rfl

theorem sendDelta_frame (s : State) (g r unit step : Nat) (bytes : List Byte) (cmd : Option Nat) : DeltaFrame s (s.sendDelta g r unit step bytes cmd) := by
  unfold State.sendDelta
  extract_lets d psn i k area t t'
  have hsent : DeltaFrame s t := Sent.deltaFrame (sendSeq_sends s d 0x30 0 0 area _ none).1.1
  exact (hsent.trans (deltaFrame_addCnt t _ _)).trans (deltaFrame_parity _ _)

theorem sendDeltas_frame (s : State) (g step : Nat) (delta : Mem) (cmd : Option Nat) : DeltaFrame s (s.sendDeltas g step delta cmd) := by
  unfold State.sendDeltas
  extract_lets units t
  have hsent : DeltaFrame s t := DeltaFrame.foldl _ (fun s u => .foldl _ (fun s r => sendDelta_frame s g r u step _ cmd) _ s) units s
  split
  · exact hsent.trans rfl
  · exact hsent

/-- A step that has ended sends its deltas: its command and the memories stay. -/
theorem optSend_ends {s : State} {id st : Nat} (h : Ends s id st) (waits : Bool) :
    Ends (s.optSend id waits) id st ∧ (s.optSend id waits).nbus = s.nbus ∧ (s.optSend id waits).mem = s.mem := by
  obtain ⟨c, hc, hph⟩ := h
  unfold State.optSend
  rw [hc]
  dsimp only
  split
  next l td n delta hw =>
    have hupd : Ends (s.updCmd id (fun x => { x with work := .opt l td n [] })) id st := ⟨_, cmd?_updCmd_same hc (fun _ => rfl), hph⟩
    split
    · exact ⟨hupd, rfl, rfl⟩
    · have hframe := sendDeltas_frame (s.updCmd id (fun x => { x with work := .opt l td n [] })) (tdGroup td) (opStep c.desc) delta (if waits then some id else none)
      obtain ⟨d, hd, hdph⟩ := hupd
      exact ⟨⟨d, (cmd?_of_cmds (congrArg State.cmds hframe) id).trans hd, hdph⟩, (congrArg State.nbus hframe).trans rfl, (congrArg State.mem hframe).trans rfl⟩
  next => exact ⟨⟨c, hc, hph⟩, rfl, rfl⟩

/-- The slot of an NBU is taken off what is left of a step. -/
def slotDone (here : Nat × Nat) (x : Cmd) : Cmd := match x.work with
  | .opt l td n delta => { x with work := .opt (l.filter (· != here)) td n delta }
  | _ => x

theorem slotDone_keeps (here : Nat × Nat) (x : Cmd) : (slotDone here x).id = x.id ∧ (slotDone here x).phase = x.phase := by
  unfold slotDone
  split
  · exact ⟨rfl, rfl⟩
  · exact ⟨rfl, rfl⟩

/-- What is left when the last slot of a step is done. -/
theorem sequenceEnd_opt {s w : State} {q : NbuSeq} {c k : Cmd} {td : List Byte} {n : Bool} {delta : Mem}
    (hc : s.cmd? q.cmd = some c) (hph : c.phase = .running) (hw : c.work = .opt [(q.col, q.bank)] td n delta)
    (hrun : (((s.runOwed q.col q.bank).resolveClash q).firmwareWork q c).resolveClash { q with stored := [] } = w)
    (hk : w.cmd? c.id = some k) (hkph : k.phase = .running) : ∃ v waits, v.nbus = (w.setNbu q.col q.bank none).nbus ∧ v.mem = w.mem ∧
      Ends v c.id St.ok ∧ s.sequenceEnd q = v.optSend c.id waits := by
  have hupd : (w.updCmd c.id (slotDone (q.col, q.bank))).cmd? c.id = some (slotDone (q.col, q.bank) k) :=
    cmd?_updCmd_same hk (fun x => (slotDone_keeps _ x).1)
  have hphase : (slotDone (q.col, q.bank) k).phase = .running := (slotDone_keeps _ k).2.trans hkph
  have hdone : ((w.updCmd c.id (slotDone (q.col, q.bank))).setNbu q.col q.bank none).cmd? c.id = some (slotDone (q.col, q.bank) k) := hupd
  refine ⟨((w.updCmd c.id (slotDone (q.col, q.bank))).setNbu q.col q.bank none).endCmd c.id St.ok none,
    (((w.updCmd c.id (slotDone (q.col, q.bank))).setNbu q.col q.bank none).endCmd c.id St.ok none).endedOk c.id, rfl, rfl,
    endCmd_ends hdone (Cmd.not_stopping_of_running hphase) _ _, ?_⟩
  unfold State.sequenceEnd
  rw [hc]
  dsimp only
  rw [if_neg (not_not_intro hph), hw]
  dsimp only
  rw [if_neg (by simp), hrun]
  split
  next x hx =>
    have hxk : x = slotDone (q.col, q.bank) k := Option.some.inj (hx.symm.trans hdone)
    rw [if_neg (by rw [hxk]; exact not_not_intro hphase), if_pos rfl]
    rfl
  next hnone => exact absurd (hnone.symm.trans hdone) (by simp)

end Sys2Proof.Machine

namespace Sys2Proof.Proofs
open Sys2Proof.Machine

/-- Settles O30: a command of the near-bank units from its start over its dispatch to the end of each of its sequences. -/
theorem nbuCommands : Obligations.NbuCommands := by
  unfold Obligations.NbuCommands
  intro s id env c
  refine ⟨fun hstart => ⟨?_, ?_⟩, fun hc hmay => ⟨fun hret => ⟨fun hw => ?_, ?_⟩, fun a hret => ?_⟩, fun hc hmay => ?_,
    fun col bank q hcol hbank hq hc => ⟨fun hpc hend hph => ⟨fun left hw => ⟨?_, ?_⟩, fun dim l plan left w hw hl hrun hk => ?_,
      fun left td n delta w hw hl hrun hk => ?_⟩, fun hpc => ?_⟩⟩
  · exact becomes_of (exec_nbuRun id env s) rfl (by rw [doNbuRun, hstart])
  · refine completes_apart (fun _ _ h => h) (exec_nbuRun id env s) rfl ?_
    rw [doNbuRun, hstart]
    dsimp only
    have hcmd : (s.arrive env).cmd? id = some c := (starts_iff hstart).1
    rw [cmd?_id hcmd]
    exact ⟨beginCmd_works (s := s.arrive env) (by rw [hcmd]; rfl) (.nbu []), rfl⟩
  · refine becomes_of (exec_nbuDispatch id s) rfl ?_
    rw [doNbuDispatch_some hc, if_pos hmay, dispatch_nbuRun hret hw]
  · obtain ⟨f, w, hf, hdispatch⟩ := dispatch_begins hret
    refine completes_apart (fun _ _ h => h) (exec_nbuDispatch id s) rfl ?_
    rw [doNbuDispatch_some hc, if_pos hmay, hdispatch, cmd?_id hc]
    have hframe := beginSeqs_frame (s.nbusOf c) f { s with nbuReady := s.nbuReady.filter (· != id) }
    refine ⟨(congrArg State.nbuReady hframe :), (congrArg State.mem hframe :), (congrArg State.regs hframe :), fun n hn h1 h2 => ?_, fun n hn h1 h2 _ => ?_⟩
    · obtain ⟨h3, h4, h5, h6, h7⟩ := hf n.1 n.2
      refine ⟨f n.1 n.2, (nbu_beginSeqs f (fun x y => ⟨(hf x y).2.1, (hf x y).2.2.1⟩) h1 h2 _ (fun m hm => nbusOf_bank hm) _).trans (if_pos hn), ?_, h6, h7⟩
      rw [h3, cmd?_id hc]
    · exact (nbu_beginSeqs f (fun x y => ⟨(hf x y).2.1, (hf x y).2.2.1⟩) h1 h2 _ (fun m hm => nbusOf_bank hm) _).trans (if_neg hn)
  · refine completes_apart (fun _ _ h => h) (exec_nbuDispatch id s) rfl ?_
    rw [doNbuDispatch_some hc, if_pos hmay, State.dispatch, hret, cmd?_id hc]
    exact ⟨failCmd_ends hc (Cmd.not_stopping_of_running (mayDispatch_running hmay)) (St.retired, a), rfl, rfl⟩
  · refine becomes_of (exec_nbuDispatch id s) rfl ?_
    rw [doNbuDispatch_some hc, hmay]
    rfl
  · obtain ⟨rfl, rfl, -, -⟩ := nbu_site hq
    refine becomes_of (exec_nbuSequenceEnd q.col q.bank s) (decide_eq_true ⟨hcol, hbank⟩) ?_
    rw [doNbuSequenceEnd_ends hq hpc hend, sequenceEnd_nbu hc hph hw]
    rfl
  · obtain ⟨rfl, rfl, -, -⟩ := nbu_site hq
    refine completes_apart (fun _ _ h => h) (exec_nbuSequenceEnd q.col q.bank s) (decide_eq_true ⟨hcol, hbank⟩) ?_
    rw [doNbuSequenceEnd_ends hq hpc hend, sequenceEnd_nbu hc hph hw]
    have hwork : (((s.runOwed q.col q.bank).setNbu q.col q.bank none).setWork c.id (.nbu (left.filter (· != (q.col, q.bank))))).cmd? c.id =
        some { c with work := .nbu (left.filter (· != (q.col, q.bank))) } := cmd?_updCmd_same ((cmd?_id hc).symm ▸ hc) (fun _ => rfl)
    have howed : SMap.get (fun _ => 0) (s.runOwed q.col q.bank).mem.owed (32 * q.col + q.bank) = 0 :=
      SMap.get_set_same (fun _ => 0) s.mem.owed (32 * q.col + q.bank) 0
    split
    next hempty => exact ⟨nbu_setNbu_none _ _ _, fun _ => endCmd_ends hwork (Cmd.not_stopping_of_running hph) _ _, howed, rfl⟩
    next hempty => exact ⟨nbu_setNbu_none _ _ _, fun h => absurd (List.isEmpty_iff.mpr h) hempty, howed, rfl⟩
  · obtain ⟨rfl, rfl, -, -⟩ := nbu_site hq
    refine completes_apart (fun _ _ h => h) (exec_nbuSequenceEnd q.col q.bank s) (decide_eq_true ⟨hcol, hbank⟩) ?_
    obtain ⟨k, hk, hkph⟩ := hk
    rw [doNbuSequenceEnd_ends hq hpc hend, sequenceEnd_attn hc hph hw hl, show (s.runOwed q.col q.bank).firmwareWork q c = w from hrun]
    refine ⟨⟨_, cmd?_updCmd_same (f := fun x => { x with work := _ }) hk (fun _ => rfl), hkph, rfl⟩, ?_, rfl⟩
    cases hx : w.nbu q.col q.bank with
    | none => exact nbu_setNbu_none _ _ _
    | some x =>
      obtain ⟨h1, h2, -, -⟩ := nbu_site hx
      exact nbu_setNbu_same _ _ hcol hbank h1 h2
  · obtain ⟨rfl, rfl, -, -⟩ := nbu_site hq
    subst hl
    refine completes_apart (P := fun t => t.nbu q.col q.bank = none ∧ Ends t c.id St.ok ∧ t.mem = w.mem) (fun _ _ h => h)
      (exec_nbuSequenceEnd q.col q.bank s) (decide_eq_true ⟨hcol, hbank⟩) ?_
    obtain ⟨k, -, -, -, -, hk, hkph, -⟩ := hk
    obtain ⟨v, waits, hnbus, hmem, hends, hrow⟩ := sequenceEnd_opt hc hph hw hrun hk hkph
    obtain ⟨hsent, hsentNbus, hsentMem⟩ := optSend_ends hends waits
    rw [doNbuSequenceEnd_ends hq hpc hend, hrow]
    refine ⟨?_, hsent, hsentMem.trans hmem⟩
    rw [nbu_of_nbus (hsentNbus.trans hnbus)]
    exact nbu_setNbu_none _ _ _
  · refine becomes_of (exec_nbuSequenceEnd col bank s) (decide_eq_true ⟨hcol, hbank⟩) ?_
    rw [doNbuSequenceEnd_some hq, decide_eq_false (by omega)]
    rfl

end Sys2Proof.Proofs
end

section
/-! PROOF. A RESTORE of a parity group keeps the group's RESTORING bit to its commit (R598). -/
namespace Sys2Proof.Machine

/-- A RESTORE of parity group 1 from host memory: its digest record lies at the first byte of the host's space. -/
def restoring1 : Cmd :=
  { id := 1, ctx := 0, slot := 1, desc := BitVec.ofNat 512 (0x71 + 2 ^ 128 * (0x10 * 2 ^ 40) + 2 ^ 320 * (0x10 * 2 ^ 40) + 2 ^ 384), fetched := 0, vigilFrom := 0,
    vigilMs := 100000, roundDefault := 0, phase := .waiting, warn := 0, wrote := false, errAddr := none, errMem := false, quiesced := false,
    replayed := false, work := .none }

/-- A module after reset with that command in flight, its parity group of no unit, and the record of the harvest of nothing in host memory: its
mark, and the group's number. -/
def restoresNothing : State :=
  { State.reset.setReg (Reg.parGrpCtrl 1) 0x80000000 with
    cmds := [restoring1], host := ⟨Mem.write [] 0 [0x48, 0x52, 0x56, 0x31, 0, 0, 0, 0, 0, 0, 0, 0, 0, 0, 0, 0, 1], [], []⟩ }
/-- What arrives with it, and the state in which its run begins. -/
abbrev restoresBegun : State := ((restoresNothing.arrive nothingArrives).beginCmd restoring1.id (.restore [] [])).setBit (Reg.parGrpCtrl (hvGroup restoring1.desc)) 30 true

/-- Its run: the record, and the chunks of a harvest of that length. -/
abbrev restoreRun : Run (List Nat) := do
  let rec' ← Run.read (fun _ => reqBdDma restoring1) ((restoresNothing.arrive nothingArrives).polderOf restoring1) (restoring1.addr 0x28)
    (recordLen ((restoresNothing.arrive nothingArrives).hvTotal restoring1.desc))
  Run.restoreBody restoring1 ((restoresNothing.arrive nothingArrives).polderOf restoring1) rec'
    (fun k => Run.read (fun _ => reqBdDma restoring1) ((restoresNothing.arrive nothingArrives).polderOf restoring1) (restoring1.addr 0x10 + k * hvChunk)
      (chunkLen ((restoresNothing.arrive nothingArrives).hvTotal restoring1.desc) k))

/-- The chunks that a run found bad, where it met no failure. -/
def badChunks : EStateM.Result Fail State (List Nat) → Option (List Nat)
  | .ok l _ => some l
  | .error _ _ => none

theorem badChunks_some {r : EStateM.Result Fail State (List Nat)} {l : List Nat} (h : badChunks r = some l) : ∃ t, r = .ok l t := by
  cases r with
  | ok l' t => exact ⟨t, congrArg (EStateM.Result.ok · t) (Option.some.inj h)⟩
  | error e t => cases h

theorem restoresNothing_starts : restoresNothing.starts 1 0x71 = some restoring1 ∧ restoresNothing.meetsDike restoring1 = false ∧
    (restoresNothing.arrive nothingArrives).parValid (hvGroup restoring1.desc) = true ∧ hvHasGroup restoring1.desc = true ∧
    addrSpace (restoring1.addr 0x10) ≠ 0x20 ∧ addrSpace (restoring1.addr 0x28) ≠ 0x20 := by decide +kernel

/-- Every chunk is whole, and the bit stands when the row is done. -/
theorem restoresNothing_ends : badChunks (restoreRun restoresBegun) = some [] ∧
    (doRestore 1 nothingArrives restoresNothing).bit (Reg.parGrpCtrl (hvGroup restoring1.desc)) 30 = true := by decide +kernel

end Sys2Proof.Machine

namespace Sys2Proof.Proofs
open Sys2Proof.Machine

/-- Refutes O34: its clause on a RESTORE of a group whose chunks are all whole says that the group's RESTORING bit reads 0 when the command has ended, but
the bit stands until the command commits. -/
theorem not_collectivesAndHarvests : ¬ Obligations.CollectivesAndHarvests := by
  unfold Obligations.CollectivesAndHarvests
  intro h
  obtain ⟨hstart, hdike, hvalid, hgroup, hsource, hrecord⟩ := restoresNothing_starts
  obtain ⟨hwhole, hstands⟩ := restoresNothing_ends
  obtain ⟨t, ht⟩ := badChunks_some hwhole
  obtain ⟨-, hrestore, -⟩ := h.2 restoresNothing 1 nothingArrives restoring1 hdike
  obtain ⟨-, hends, -⟩ := ((hrestore hstart).2 (fun _ => hvalid)).1 hsource hrecord
  rw [if_pos hgroup] at hends
  obtain ⟨x, hexec, -, -, -, hbit⟩ := hends t ht
  injection ((exec_restore 1 nothingArrives restoresNothing).trans (guarded_next (s := restoresNothing) rfl)).symm.trans hexec with hstates
  have hclear := hbit hgroup
  rw [← hstates, State.withQueue_read_bit, hstands] at hclear
  cases hclear

end Sys2Proof.Proofs
end

section
/-! PROOF. What every run keeps: an order of states that every access and every change of a run goes up (R49, R162). -/
namespace Sys2Proof.Machine

/-! ### Orders of states -/

/-- A relation of a state to a later one that the accesses to memory respect. -/
structure AccessOrder where
  rel : State → State → Prop
  refl : ∀ s, rel s s
  trans : ∀ {s t u}, rel s t → rel t u → rel s u
  chanRead : ∀ s rq addr col q n, rel s (s.chanRead rq addr col q n).2
  chanWrite : ∀ s rq addr col q bs, rel s (s.chanWrite rq addr col q bs).2
  wrote : ∀ s id, rel s (s.wroteCmd id)
  localRead : ∀ s core off n, rel s (s.localRead core off n).2
  sharedRead : ∀ s cl off n, rel s (s.sharedRead cl off n).2
  setMem : ∀ (s : State) m, rel s { s with mem := m }
  setHost : ∀ (s : State) h, rel s { s with host := h }

/-- Such a relation that looks at the commands and the cores alone, and not at the generators of a core. -/
structure RunOrder extends AccessOrder where
  same : ∀ {s t : State}, t.cmds = s.cmds → t.cores = s.cores → rel s t
  gen : ∀ s n id g, rel s (s.setGen n id g)
  upd : ∀ (s : State) id f, (∀ c : Cmd, (f c).id = c.id ∧ (f c).phase = c.phase) → rel s (s.updCmd id f)

theorem AccessOrder.foldl_via (O : AccessOrder) {α β : Type} (g : α → State) (f : α → β → α) (h : ∀ a x, O.rel (g a) (g (f a x))) (l : List β) (a : α) :
    O.rel (g a) (g (l.foldl f a)) := by
  induction l generalizing a with
  | nil => exact O.refl _
  | cons x l ih => exact O.trans (h a x) (ih (f a x))

/-! ### Ranges -/

theorem AccessOrder.readPiece (O : AccessOrder) (s : State) (rq : Nat → Req) (polder addr n : Nat) : O.rel s (s.readPiece rq polder addr n).st := by
  unfold State.readPiece
  dsimp only
  split
  · exact O.refl s
  · split
    · split
      · exact O.refl s
      · rename_i c q _ _
        have hread := O.chanRead s (rq c) addr c q n
        split <;>
        next heq =>
          rw [heq] at hread
          exact hread
    · split
      · have hread : O.rel s (if addrSpace addr = 1 then s.sharedRead (bits addr 36 32) (addrOff addr) n else s.localRead (addrCore addr) (addrOff addr) n).2 := by
          split
          · exact O.sharedRead ..
          · exact O.localRead ..
        split <;>
        next heq =>
          rw [heq] at hread
          exact hread
      · split
        · exact O.refl s
        · exact O.refl s

theorem AccessOrder.writePiece (O : AccessOrder) (s : State) (rq : Nat → Req) (polder addr : Nat) (bs : List Byte) :
    O.rel s (s.writePiece rq polder addr bs).st := by
  unfold State.writePiece
  dsimp only
  split
  · exact O.refl s
  · split
    · split
      · exact O.refl s
      · rename_i c q _ _
        have hwrite := O.chanWrite s (rq c) addr c q bs
        split <;>
        next heq =>
          rw [heq] at hwrite
          exact hwrite
    · split
      · exact O.setMem ..
      · split
        · exact O.setMem ..
        · exact O.setHost ..

theorem AccessOrder.readRange (O : AccessOrder) (s : State) (rq : Nat → Req) (polder addr n : Nat) : O.rel s (s.readRange rq polder addr n).st := by
  unfold State.readRange
  refine O.foldl_via (fun a : Acc => a.st) _ (fun a p => ?_) _ ⟨[], none, s⟩
  dsimp only
  split
  · exact O.refl _
  · exact O.readPiece ..

theorem AccessOrder.writeRange (O : AccessOrder) (s : State) (rq : Nat → Req) (id polder addr : Nat) (bs : List Byte) :
    O.rel s (s.writeRange rq id polder addr bs).st := by
  unfold State.writeRange
  refine O.foldl_via (fun a : Acc => a.st) _ (fun a p => ?_) _ ⟨[], none, s⟩
  dsimp only
  split
  · exact O.refl _
  · have hwrite := O.writePiece a.st rq polder p.2.1 (lslice bs p.1 p.2.2)
    split
    · exact hwrite
    · exact O.trans hwrite (O.wrote ..)

/-! ### Runs that go up an order -/

/-- The state in which a run ends, whether it meets a failure or not. -/
def after {α : Type} : EStateM.Result Fail State α → State
  | .ok _ t => t
  | .error _ t => t

/-- A run goes up an order from every state. -/
def Run.Climbs {α : Type} (O : AccessOrder) (r : Run α) : Prop := ∀ s, O.rel s (after (r s))

section
variable {O : AccessOrder} {α β : Type}

theorem Run.Climbs.ok {r : Run α} (h : Run.Climbs O r) {s t : State} {a : α} (e : r s = .ok a t) : O.rel s t := by
  have hs := h s
  rw [e] at hs
  exact hs

theorem Run.Climbs.error {r : Run α} (h : Run.Climbs O r) {s t : State} {f : Fail} (e : r s = .error f t) : O.rel s t := by
  have hs := h s
  rw [e] at hs
  exact hs

theorem Run.climbs_pure (a : α) : Run.Climbs O (pure a) := fun s => O.refl s
theorem Run.climbs_throw (f : Fail) : Run.Climbs O (throw f : Run α) := fun s => O.refl s
theorem Run.climbs_get : Run.Climbs O (get : Run State) := fun s => O.refl s
theorem Run.climbs_stop (st : Nat) : Run.Climbs O (Run.stop st : Run α) := fun s => O.refl s
theorem Run.climbs_stopAt (st a : Nat) : Run.Climbs O (Run.stopAt st a : Run α) := fun s => O.refl s
theorem Run.climbs_pageStop (reason : Nat) (page : Option Nat) : Run.Climbs O (Run.pageStop reason page : Run α) := fun s => O.refl s

theorem Run.climbs_modify {f : State → State} (h : ∀ s, O.rel s (f s)) : Run.Climbs O (modify f : Run PUnit) := fun s => h s

theorem Run.Climbs.bind {r : Run α} {f : α → Run β} (h : Run.Climbs O r) (k : ∀ a, Run.Climbs O (f a)) : Run.Climbs O (r >>= f) := fun s => by
  have hs := h s
  show O.rel s (after (EStateM.bind r f s))
  unfold EStateM.bind
  cases hr : r s with
  | ok a t =>
    rw [hr] at hs
    exact O.trans hs (k a t)
  | error e t =>
    rw [hr] at hs
    exact hs

/-- After the state is read, a run may depend on the state it starts from. -/
theorem Run.climbs_get_bind {f : State → Run β} (h : ∀ s, O.rel s (after (f s s))) : Run.Climbs O ((get : Run State) >>= f) := h

theorem Run.climbs_ite {c : Prop} [Decidable c] {x y : Run α} (h : Run.Climbs O x) (k : Run.Climbs O y) : Run.Climbs O (if c then x else y) := by
  split
  · exact h
  · exact k

theorem Run.climbs_forIn {σ : Type} {f : β → σ → Run (ForInStep σ)} (h : ∀ x b, Run.Climbs O (f x b)) (l : List β) (b : σ) :
    Run.Climbs O (forIn l b f) := by
  induction l generalizing b with
  | nil => exact Run.climbs_pure b
  | cons x l ih =>
    rw [List.forIn_cons]
    refine (h x b).bind fun y => ?_
    cases y with
    | done c => exact Run.climbs_pure c
    | yield c => exact ih c

theorem Run.climbs_mapM {f : β → Run α} (h : ∀ x, Run.Climbs O (f x)) (l : List β) : Run.Climbs O (l.mapM f) := by
  induction l with
  | nil => exact Run.climbs_pure _
  | cons x l ih =>
    rw [List.mapM_cons]
    exact (h x).bind fun a => ih.bind fun as => Run.climbs_pure _

/-! ### The accesses of runs -/

theorem Run.climbs_need (ok : Bool) (st : Nat) : Run.Climbs O (Run.need ok st) := Run.climbs_ite (Run.climbs_pure _) (Run.climbs_stop st)

theorem Run.climbs_pageNeed (ok : Bool) (reason : Nat) (page : Option Nat) : Run.Climbs O (Run.pageNeed ok reason page) :=
  Run.climbs_ite (Run.climbs_pure _) (Run.climbs_pageStop reason page)

theorem Run.climbs_ofAcc {f : State → Acc} (h : ∀ s, O.rel s (f s).st) : Run.Climbs O (Run.ofAcc f) := fun s => by
  have hs := h s
  unfold Run.ofAcc
  dsimp only
  split <;> exact hs

theorem Run.climbs_read (rq : Nat → Req) (p a n : Nat) : Run.Climbs O (Run.read rq p a n) := Run.climbs_ofAcc fun s => O.readRange s rq p a n

theorem Run.climbs_write (rq : Nat → Req) (id p a : Nat) (bs : List Byte) : Run.Climbs O (Run.write rq id p a bs) :=
  (Run.climbs_ofAcc fun s => O.writeRange s rq id p a bs).bind fun _ => Run.climbs_pure _

theorem Run.climbs_report (rq : Nat → Req) (p a : Nat) (bs : List Byte) : Run.Climbs O (Run.report rq p a bs) :=
  (Run.climbs_ofAcc fun s => O.writeRange s rq (2 ^ 64) p a bs).bind fun _ => Run.climbs_pure _

theorem Run.climbs_mayTouch (rc : Reach) (p a n need : Nat) : Run.Climbs O (Run.mayTouch rc p a n need) := Run.climbs_get.bind fun s => by
  split
  · exact Run.climbs_stopAt _ _
  · exact Run.climbs_pure _

theorem Run.climbs_pread (rq : Req) (a n : Nat) : Run.Climbs O (Run.pread rq a n) := fun s => by
  unfold Run.pread
  dsimp only
  have hread := O.foldl_via (fun (x : List Byte × Option Nat × State) => x.2.2)
    (fun (y : List Byte × Option Nat × State) (x : Nat × Nat × Nat) => match y.2.1 with
      | some _ => y
      | none => match y.2.2.chanRead rq x.2.1 (addrCore a) (y.2.2.cellOf (addrCore a) (addrOff x.2.1)) x.2.2 with
        | (some bs, s) => (y.1 ++ bs, none, s)
        | (none, s) => (y.1, some x.2.1, s))
    (fun y x => by
      split
      · exact O.refl _
      · have hchan := O.chanRead y.2.2 rq x.2.1 (addrCore a) (y.2.2.cellOf (addrCore a) (addrOff x.2.1)) x.2.2
        split <;>
        next heq =>
          rw [heq] at hchan
          exact hchan) (pieces a n) ([], none, s)
  split <;> exact hread

theorem Run.climbs_pwrite (rq : Req) (id a : Nat) (bs : List Byte) : Run.Climbs O (Run.pwrite rq id a bs) := fun s => by
  unfold Run.pwrite
  dsimp only
  have hwrite := O.foldl_via (fun (x : Option Nat × State) => x.2)
    (fun (y : Option Nat × State) (x : Nat × Nat × Nat) => match y.1 with
      | some _ => y
      | none => match y.2.chanWrite rq x.2.1 (addrCore a) (y.2.cellOf (addrCore a) (addrOff x.2.1)) (lslice bs x.1 x.2.2) with
        | (true, s) => (none, s.wroteCmd id)
        | (false, s) => (some x.2.1, s))
    (fun y x => by
      split
      · exact O.refl _
      · have hchan := O.chanWrite y.2 rq x.2.1 (addrCore a) (y.2.cellOf (addrCore a) (addrOff x.2.1)) (lslice bs x.1 x.2.2)
        split
        next heq =>
          rw [heq] at hchan
          exact O.trans hchan (O.wrote _ _)
        next heq =>
          rw [heq] at hchan
          exact hchan) (pieces a bs.length) (none, s)
  split <;> exact hwrite

theorem Run.climbs_kvp (p : Nat) : Run.Climbs O (Run.kvp p) := fun s => O.refl s

theorem Run.climbs_seq (p n : Nat) : Run.Climbs O (Run.seq p n) := (Run.climbs_kvp p).bind fun k => by
  split
  · exact Run.climbs_pure _
  · exact Run.climbs_pageStop _ _

theorem Run.climbs_hdr (rq : Req) (p page off n : Nat) : Run.Climbs O (Run.hdr rq p page off n) :=
  (Run.climbs_kvp p).bind fun _ => (Run.climbs_pread _ _ _).bind fun _ => Run.climbs_pure _

theorem Run.climbs_setHdr (rq : Req) (id p page off n v : Nat) : Run.Climbs O (Run.setHdr rq id p page off n v) :=
  (Run.climbs_kvp p).bind fun _ => Run.climbs_pwrite _ _ _ _

end

/-! ### The order of the commands that may still end -/

/-- A command is in flight, and no stop has been asked of it. -/
def MayEnd (s : State) (id : Nat) : Prop := ∃ c, s.cmd? id = some c ∧ ∀ st since, c.phase ≠ .stopping st since

theorem MayEnd.of_cmds {s t : State} {id : Nat} (h : MayEnd s id) (k : t.cmds = s.cmds) : MayEnd t id := by
  obtain ⟨c, hc, hph⟩ := h
  exact ⟨c, (cmd?_of_cmds k id).trans hc, hph⟩

theorem MayEnd.kept {s t : State} {id : Nat} (h : MayEnd s id) (k : PhasesKept s t) : MayEnd t id := by
  obtain ⟨c, hc, hph⟩ := h
  obtain ⟨d, hd, -, hkept⟩ := k id c hc
  refine ⟨d, hd, fun st since => ?_⟩
  rcases hkept with hkept | ⟨-, hkept | hkept⟩
  · rw [hkept]
    exact hph st since
  · rw [hkept]
    exact nofun
  · rw [hkept]
    exact nofun

theorem MayEnd.updCmd {s : State} {j : Nat} (h : MayEnd s j) (id : Nat) {f : Cmd → Cmd} (hf : ∀ c, (f c).id = c.id ∧ (f c).phase = c.phase) :
    MayEnd (s.updCmd id f) j := by
  obtain ⟨c, hc, hph⟩ := h
  refine ⟨if c.id = id then f c else c, by rw [cmd?_updCmd s id j (fun c => (hf c).1), hc]; rfl, ?_⟩
  split
  · rw [(hf c).2]
    exact hph
  · exact hph

/-- Such a command ends with the status it is given. -/
theorem MayEnd.endCmd {s : State} {id : Nat} (h : MayEnd s id) (st : Nat) (a : Option Nat) : Ends (s.endCmd id st a) id st := by
  obtain ⟨c, hc, hph⟩ := h
  exact endCmd_ends hc hph st a

theorem MayEnd.failCmd {s : State} {id : Nat} (h : MayEnd s id) (e : Nat × Nat) : Ends (s.failCmd id e) id e.1 := by
  obtain ⟨c, hc, hph⟩ := h
  exact failCmd_ends hc hph e

theorem MayEnd.beginCmd {s : State} {id : Nat} (h : MayEnd s id) (w : Work) : Works (s.beginCmd id w) id w := by
  obtain ⟨c, hc, -⟩ := h
  exact beginCmd_works (by rw [hc]; rfl) w

theorem Works.mayEnd {s : State} {id : Nat} {w : Work} (h : Works s id w) : MayEnd s id := by
  obtain ⟨c, hc, hph, -⟩ := h
  exact ⟨c, hc, Cmd.not_stopping_of_running hph⟩

/-- A command that starts is one that may end. -/
theorem starts_mayEnd {s : State} {id op : Nat} {c : Cmd} (h : s.starts id op = some c) : MayEnd s id := by
  obtain ⟨hc, -, hph⟩ := starts_iff h
  exact ⟨c, hc, Cmd.not_stopping_of_waiting hph⟩

theorem PhasesKept.noteTorn (s : State) (rq : Req) (addr col q n : Nat) : PhasesKept s (s.noteTorn rq addr col q n) := by
  simp only [State.noteTorn]
  split
  · split
    · exact (PhasesKept.warnCmd s _ _).trans (.of_cmds (State.firstNote_cmds _ _ _ _ _ _ _ _))
    · exact .refl s
  · exact .refl s

theorem PhasesKept.chanRead (s : State) (rq : Req) (addr col q n : Nat) : PhasesKept s (s.chanRead rq addr col q n).2 := by
  simp only [State.chanRead]
  exact ((PhasesKept.countYield _ _ _).trans (.noteTorn _ _ _ _ _ _)).trans (.of_cmds (State.readBlock_cmds _ _ _ _ _ _))

theorem PhasesKept.chanWrite (s : State) (rq : Req) (addr col q : Nat) (bs : List Byte) : PhasesKept s (s.chanWrite rq addr col q bs).2 := by
  simp only [State.chanWrite]
  exact ((PhasesKept.countYield _ _ _).trans (.noteClash _ _ _ _ _ _)).trans (.of_cmds (State.writeBlock_cmds _ _ _ _ _ _ _))

/-- Every command that may end before may end after. -/
def endsOrder : RunOrder where
  rel s t := ∀ id, MayEnd s id → MayEnd t id
  refl _ _ h := h
  trans h k id hs := k id (h id hs)
  chanRead s rq addr col q n _ h := h.kept (.chanRead s rq addr col q n)
  chanWrite s rq addr col q bs _ h := h.kept (.chanWrite s rq addr col q bs)
  wrote s id _ h := h.kept (.wroteCmd s id)
  localRead _ _ _ _ _ h := h
  sharedRead _ _ _ _ _ h := h
  setMem _ _ _ h := h
  setHost _ _ _ h := h
  same e _ _ h := h.of_cmds e
  gen _ _ _ _ _ h := h
  upd _ id _ hf _ h := h.updCmd id hf

/-- A run that goes up every such order leaves a command that may end. -/
theorem Run.Climbs.mayEnd_ok {α : Type} {r : Run α} (h : Run.Climbs endsOrder.toAccessOrder r) {s t : State} {a : α} {id : Nat} (hs : MayEnd s id)
    (e : r s = .ok a t) : MayEnd t id := h.ok e id hs

theorem Run.Climbs.mayEnd_error {α : Type} {r : Run α} (h : Run.Climbs endsOrder.toAccessOrder r) {s t : State} {f : Fail} {id : Nat} (hs : MayEnd s id)
    (e : r s = .error f t) : MayEnd t id := h.error e id hs

/-- The end of a command whose run has stopped. -/
theorem MayEnd.failed {s : State} {id : Nat} (h : MayEnd s id) (e : Fail) :
    Ends (match e.addr with
      | some a => s.failCmd id (e.status, a)
      | none => s.endCmd id e.status none) id e.status := by
  split
  · exact h.failCmd _
  · exact h.endCmd _ _

end Sys2Proof.Machine
end

section
/-! PROOF. The runs of the page manager (R372–R390). -/
namespace Sys2Proof.Machine
section
variable {O : RunOrder} {α β : Type}

/-- What a run changes of neither the commands nor the cores is of no account to such an order. -/
theorem Run.climbs_touch {f : State → State} (h : ∀ s, (f s).cmds = s.cmds ∧ (f s).cores = s.cores) : Run.Climbs O.toAccessOrder (modify f : Run PUnit) :=
  Run.climbs_modify fun s => O.same (h s).1 (h s).2

theorem Run.climbs_setKv (p : Nat) (k : KvPolder) : Run.Climbs O.toAccessOrder (Run.setKv p k) := Run.climbs_touch fun _ => ⟨rfl, rfl⟩

theorem Run.climbs_forAll (p : Nat) (f : KvPolder → Nat → Except Nat KvPolder) (ns : List Nat) : Run.Climbs O.toAccessOrder (Run.forAll p f ns) :=
  (Run.climbs_kvp p).bind fun k => by
    split
    · exact Run.climbs_setKv p _
    · exact Run.climbs_pageStop _ _

/-! ### Tables and headers -/

theorem Run.climbs_tableFrom (rq : Req) (q : Seq) (l h n x : Nat) : Run.Climbs O.toAccessOrder (Run.tableFrom rq q l h n x) := by
  induction n generalizing x with
  | zero => exact Run.climbs_pure _
  | succ n ih =>
    refine (Run.climbs_pread _ _ _).bind fun bs => ?_
    dsimp only
    split
    · exact (ih _).bind fun _ => Run.climbs_pure _
    · exact Run.climbs_pure _

theorem Run.climbs_table (rq : Req) (p : Nat) (q : Seq) (l h : Nat) : Run.Climbs O.toAccessOrder (Run.table rq p q l h) :=
  (Run.climbs_tableFrom _ _ _ _ _ _).bind fun t => (Run.climbs_kvp p).bind fun k => by
    split
    · exact Run.climbs_pageStop _ _
    · exact Run.climbs_pure _

theorem Run.climbs_tableLen (rq : Req) (p : Nat) (t : List Nat) : Run.Climbs O.toAccessOrder (Run.tableLen rq p t) := by
  unfold Run.tableLen
  split
  · exact Run.climbs_pure _
  · exact (Run.climbs_hdr _ _ _ _ _).bind fun _ => (Run.climbs_hdr _ _ _ _ _).bind fun _ => Run.climbs_pure _

theorem Run.climbs_setEntry (rq : Req) (id : Nat) (q : Seq) (l h x : Nat) (page : Option Nat) : Run.Climbs O.toAccessOrder (Run.setEntry rq id q l h x page) :=
  Run.climbs_pwrite _ _ _ _

theorem Run.climbs_initHdr (rq : Req) (id p page fmt d start seq layer head count flags ds : Nat) (digest : List Byte) :
    Run.Climbs O.toAccessOrder (Run.initHdr rq id p page fmt d start seq layer head count flags ds digest) :=
  (Run.climbs_kvp p).bind fun _ => (Run.climbs_pwrite _ _ _ _).bind fun _ => Run.climbs_pwrite _ _ _ _

/-! ### The index -/

theorem Run.climbs_entry (rq : Req) (p i : Nat) : Run.Climbs O.toAccessOrder (Run.entry rq p i) :=
  (Run.climbs_kvp p).bind fun _ => Run.climbs_ite (Run.climbs_pread _ _ _) (Run.climbs_pure _)

theorem Run.climbs_putEntry (rq : Req) (id p i : Nat) (e : List Byte) : Run.Climbs O.toAccessOrder (Run.putEntry rq id p i e) :=
  (Run.climbs_kvp p).bind fun _ => (Run.climbs_pwrite _ _ _ _).bind fun _ => Run.climbs_setKv _ _

theorem Run.climbs_entriesAt (rq : Req) (p : Nat) (is : List Nat) : Run.Climbs O.toAccessOrder (Run.entriesAt rq p is) := by
  induction is with
  | nil => exact Run.climbs_pure _
  | cons i is ih => exact (Run.climbs_entry _ _ _).bind fun _ => ih.bind fun _ => Run.climbs_pure _

theorem Run.climbs_entries (rq : Req) (p : Nat) : Run.Climbs O.toAccessOrder (Run.entries rq p) := (Run.climbs_kvp p).bind fun _ => Run.climbs_entriesAt _ _ _

theorem Run.climbs_removeEntry (rq : Req) (id p i : Nat) (e : List Byte) : Run.Climbs O.toAccessOrder (Run.removeEntry rq id p i e) :=
  (Run.climbs_forAll _ _ _).bind fun _ => (Run.climbs_kvp p).bind fun _ => (Run.climbs_pwrite _ _ _ _).bind fun _ =>
    (Run.climbs_hdr _ _ _ _ _).bind fun _ => (Run.climbs_setHdr _ _ _ _ _ _ _).bind fun _ => (Run.climbs_setHdr _ _ _ _ _ _ _).bind fun _ =>
      (Run.climbs_kvp p).bind fun _ => Run.climbs_setKv _ _

theorem Run.climbs_sweep (rq : Req) (id p : Nat) : Run.Climbs O.toAccessOrder (Run.sweep rq id p) :=
  Run.climbs_get.bind fun s => (Run.climbs_entries rq p).bind fun es => (Run.climbs_kvp p).bind fun k => by
    dsimp only
    split
    · exact Run.climbs_pageStop _ _
    · refine (Run.climbs_removeEntry _ _ _ _ _).bind fun _ => (Run.climbs_kvp p).bind fun _ => (Run.climbs_setKv _ _).bind fun _ => ?_
      exact Run.climbs_touch fun _ => ⟨rfl, rfl⟩

theorem Run.climbs_makeRoomFuel (rq : Req) (id p n k : Nat) : Run.Climbs O.toAccessOrder (Run.makeRoomFuel rq id p n k) := by
  induction k with
  | zero => exact Run.climbs_pageStop _ _
  | succ k ih =>
    exact Run.climbs_get.bind fun s => Run.climbs_ite (Run.climbs_pure _) ((Run.climbs_sweep _ _ _).bind fun _ => ih)

theorem Run.climbs_makeRoom (rq : Req) (id p n : Nat) : Run.Climbs O.toAccessOrder (Run.makeRoom rq id p n) := Run.climbs_makeRoomFuel _ _ _ _ _

/-! ### Pages taken, copied and admitted -/

theorem Run.climbs_alloc (p : Nat) : Run.Climbs O.toAccessOrder (Run.alloc p) := Run.climbs_get_bind fun s => by
  dsimp only
  split
  · exact O.refl s
  · exact O.same rfl rfl

theorem Run.climbs_copyOnWrite (rq : Req) (id p seq : Nat) (q : Seq) (l h x old count : Nat) :
    Run.Climbs O.toAccessOrder (Run.copyOnWrite rq id p seq q l h x old count) := by
  refine (Run.climbs_alloc p).bind fun _ => (Run.climbs_hdr _ _ _ _ _).bind fun _ => (Run.climbs_hdr _ _ _ _ _).bind fun _ =>
    (Run.climbs_hdr _ _ _ _ _).bind fun _ => (Run.climbs_hdr _ _ _ _ _).bind fun _ => (Run.climbs_hdr _ _ _ _ _).bind fun _ =>
      (Run.climbs_kvp p).bind fun _ => (Run.climbs_pread _ _ _).bind fun _ => (Run.climbs_initHdr _ _ _ _ _ _ _ _ _ _ _ _ _ _).bind fun _ =>
        (Run.climbs_forAll _ _ _).bind fun _ => (Run.climbs_setEntry _ _ _ _ _ _ _).bind fun _ => (Run.climbs_forAll _ _ _).bind fun _ =>
          Run.Climbs.bind ?_ fun _ => Run.climbs_pure _
  exact Run.climbs_touch fun _ => ⟨rfl, rfl⟩

theorem Run.climbs_copyPage {O : AccessOrder} (rq : Req) (c : PageCopy) : Run.Climbs O (Run.copyPage rq c) :=
  (Run.climbs_hdr _ _ _ _ _).bind fun _ => (Run.climbs_hdr _ _ _ _ _).bind fun _ => by
    refine (Run.climbs_forIn (fun r _ => ?_) _ _).bind fun _ => Run.climbs_pure _
    exact (Run.climbs_kvp _).bind fun _ => (Run.climbs_pread _ _ _).bind fun _ => (Run.climbs_pwrite _ _ _ _).bind fun _ => Run.climbs_pure _

theorem Run.climbs_admitTable (rq : Req) (id p seq : Nat) (q : Seq) (l h pos m : Nat) (t : List Nat) :
    Run.Climbs O.toAccessOrder (Run.admitTable rq id p seq q l h pos m t) := by
  unfold Run.admitTable
  refine Run.Climbs.bind ?_ fun x => Run.Climbs.bind ?_ fun cur => Run.Climbs.bind (Run.climbs_forIn (fun j y => ?_) _ _) fun y => Run.climbs_pure _
  · split
    · exact Run.climbs_pure _
    · exact (Run.climbs_hdr _ _ _ _ _).bind fun _ => (Run.climbs_hdr _ _ _ _ _).bind fun _ => (Run.climbs_hdr _ _ _ _ _).bind fun _ => Run.climbs_pure _
  · split
    · refine (Run.climbs_kvp p).bind fun _ => ?_
      split
      · exact (Run.climbs_copyOnWrite _ _ _ _ _ _ _ _ _ _).bind fun _ => Run.climbs_pure _
      · exact Run.climbs_pure _
    · exact Run.climbs_pure _
  · exact (Run.climbs_alloc p).bind fun _ => (Run.climbs_initHdr _ _ _ _ _ _ _ _ _ _ _ _ _ _).bind fun _ => Run.climbs_pure _

theorem Run.climbs_appendNeeds (rq : Req) (p : Nat) (q : Seq) (m : Nat) (t : List Nat) : Run.Climbs O.toAccessOrder (Run.appendNeeds rq p q m t) := by
  unfold Run.appendNeeds
  dsimp only
  split
  · exact Run.climbs_pure _
  · exact (Run.climbs_hdr _ _ _ _ _).bind fun _ => (Run.climbs_hdr _ _ _ _ _).bind fun _ => (Run.climbs_hdr _ _ _ _ _).bind fun _ =>
      (Run.climbs_kvp p).bind fun _ => Run.climbs_pure _

/-! ### Sub-operations -/

theorem Run.climbs_layerOk (q : Seq) (layer : Nat) : Run.Climbs O.toAccessOrder (Run.layerOk q layer) := Run.climbs_need _ _

theorem Run.climbs_kvRegister (c : Cmd) (p : Nat) : Run.Climbs O.toAccessOrder (Run.kvRegister c p) := by
  unfold Run.kvRegister
  refine (Run.climbs_kvp p).bind fun _ => (Run.climbs_pageNeed _ _ _).bind fun _ => Run.climbs_get.bind fun _ => (Run.climbs_pageNeed _ _ _).bind fun _ => Run.climbs_get.bind fun s => ?_
  dsimp only
  split
  · exact (Run.climbs_stopAt _ _).bind fun _ => (Run.climbs_pwrite _ _ _ _).bind fun _ => (Run.climbs_kvp p).bind fun _ => (Run.climbs_setKv _ _).bind fun _ =>
      Run.climbs_pure _
  · exact (Run.climbs_pwrite _ _ _ _).bind fun _ => (Run.climbs_kvp p).bind fun _ => (Run.climbs_setKv _ _).bind fun _ => Run.climbs_pure _

theorem Run.climbs_allPages (rq : Req) (p : Nat) (q : Seq) (ts : List (Nat × Nat)) : Run.Climbs O.toAccessOrder (Run.allPages rq p q ts) :=
  (Run.climbs_forIn (fun _ _ => (Run.climbs_table _ _ _ _ _).bind fun _ => Run.climbs_pure _) _ _).bind fun _ => Run.climbs_pure _

theorem Run.climbs_kvRelease (c : Cmd) (p : Nat) : Run.Climbs O.toAccessOrder (Run.kvRelease c p) :=
  (Run.climbs_seq _ _).bind fun _ => (Run.climbs_pageNeed _ _ _).bind fun _ => (Run.climbs_allPages _ _ _ _).bind fun _ =>
    (Run.climbs_forAll _ _ _).bind fun _ => (Run.climbs_kvp p).bind fun _ => (Run.climbs_setKv _ _).bind fun _ => Run.climbs_pure _

theorem Run.climbs_kvActivate (c : Cmd) (p : Nat) : Run.Climbs O.toAccessOrder (Run.kvActivate c p) :=
  (Run.climbs_seq _ _).bind fun _ => Run.climbs_ite (Run.climbs_pure _) ((Run.climbs_kvp p).bind fun _ => Run.climbs_get.bind fun _ =>
    (Run.climbs_pageNeed _ _ _).bind fun _ => (Run.climbs_setKv _ _).bind fun _ => Run.climbs_pure _)

theorem Run.climbs_kvDeactivate (c : Cmd) (p : Nat) : Run.Climbs O.toAccessOrder (Run.kvDeactivate c p) :=
  (Run.climbs_seq _ _).bind fun _ => (Run.climbs_pageNeed _ _ _).bind fun _ => (Run.climbs_kvp p).bind fun _ => (Run.climbs_setKv _ _).bind fun _ =>
    Run.climbs_pure _

theorem Run.climbs_below (rq : Req) (p len : Nat) (t : List Nat) : Run.Climbs O.toAccessOrder (Run.below rq p len t) := by
  refine (Run.climbs_forIn (fun n b => ?_) _ _).bind fun b => ?_
  · refine (Run.climbs_hdr _ _ _ _ _).bind fun st => ?_
    dsimp only
    split
    · split
      · exact Run.climbs_pure _
      · exact Run.climbs_pure _
    · split
      · exact Run.climbs_pure _
      · exact Run.climbs_pure _
  · exact (Run.climbs_tableLen _ _ _).bind fun _ => Run.climbs_pure _

theorem Run.climbs_kvFork (c : Cmd) (p : Nat) : Run.Climbs O.toAccessOrder (Run.kvFork c p) := by
  refine (Run.climbs_seq _ _).bind fun q => (Run.climbs_seq _ _).bind fun src => (Run.climbs_pageNeed _ _ _).bind fun _ =>
    (Run.climbs_forIn (fun t adds => ?_) _ _).bind fun adds => (Run.climbs_forAll _ _ _).bind fun _ =>
      (Run.climbs_forIn (fun x b => ?_) _ _).bind fun _ => Run.climbs_pure _
  · exact (Run.climbs_table _ _ _ _ _).bind fun _ => (Run.climbs_pageNeed _ _ _).bind fun _ => (Run.climbs_table _ _ _ _ _).bind fun _ =>
      (Run.climbs_below _ _ _ _).bind fun _ => (Run.climbs_pageNeed _ _ _).bind fun _ => (Run.climbs_pageNeed _ _ _).bind fun _ => Run.climbs_pure _
  · exact (Run.climbs_forIn (fun _ _ => (Run.climbs_setEntry _ _ _ _ _ _ _).bind fun _ => Run.climbs_pure _) _ _).bind fun _ => Run.climbs_pure _

theorem Run.climbs_truncPlan (rq : Req) (p len : Nat) (t : List Nat) : Run.Climbs O.toAccessOrder (Run.truncPlan rq p len t) := by
  refine (Run.climbs_forIn (fun n b => ?_) _ _).bind fun _ => Run.climbs_pure _
  refine (Run.climbs_hdr _ _ _ _ _).bind fun st => (Run.climbs_hdr _ _ _ _ _).bind fun ct => ?_
  dsimp only
  split
  · exact Run.climbs_pure _
  · split
    · exact (Run.climbs_kvp p).bind fun _ => Run.climbs_pure _
    · exact Run.climbs_pure _

theorem Run.climbs_kvTruncate (c : Cmd) (p : Nat) : Run.Climbs O.toAccessOrder (Run.kvTruncate c p) := by
  refine (Run.climbs_seq _ _).bind fun q => (Run.climbs_layerOk _ _).bind fun _ => (Run.climbs_pageNeed _ _ _).bind fun _ =>
    (Run.climbs_forIn (fun t plans => ?_) _ _).bind fun plans => (Run.climbs_makeRoom _ _ _ _).bind fun _ =>
      (Run.climbs_forIn (fun x b => ?_) _ _).bind fun _ => Run.climbs_pure _
  · exact (Run.climbs_table _ _ _ _ _).bind fun _ => (Run.climbs_tableLen _ _ _).bind fun _ => (Run.climbs_pageNeed _ _ _).bind fun _ =>
      (Run.climbs_truncPlan _ _ _ _).bind fun _ => Run.climbs_pure _
  · refine (Run.climbs_forIn (fun _ _ => (Run.climbs_setEntry _ _ _ _ _ _ _).bind fun _ => (Run.climbs_forAll _ _ _).bind fun _ => Run.climbs_pure _) _ _).bind
      fun _ => ?_
    dsimp only
    split
    · exact Run.climbs_pure _
    · exact (Run.climbs_copyOnWrite _ _ _ _ _ _ _ _ _ _).bind fun _ => Run.climbs_pure _
    · exact (Run.climbs_setHdr _ _ _ _ _ _ _).bind fun _ => Run.climbs_pure _

theorem Run.climbs_kvSetFormat (c : Cmd) (p : Nat) : Run.Climbs O.toAccessOrder (Run.kvSetFormat c p) := by
  refine (Run.climbs_seq _ _).bind fun q => (Run.climbs_pageNeed _ _ _).bind fun _ => (Run.climbs_pageNeed _ _ _).bind fun _ =>
    (Run.climbs_forIn (fun t b => ?_) _ _).bind fun _ => (Run.climbs_forIn (fun n b => ?_) _ _).bind fun _ =>
      (Run.climbs_kvp p).bind fun _ => (Run.climbs_setKv _ _).bind fun _ => Run.climbs_pure _
  · exact (Run.climbs_table _ _ _ _ _).bind fun _ => Run.climbs_pure _
  · exact (Run.climbs_hdr _ _ _ _ _).bind fun _ => (Run.climbs_setHdr _ _ _ _ _ _ _).bind fun _ => Run.climbs_pure _

theorem Run.climbs_pageTokens (rq : Req) (p n count : Nat) : Run.Climbs O.toAccessOrder (Run.pageTokens rq p n count) :=
  (Run.climbs_kvp p).bind fun _ => (Run.climbs_pread _ _ _).bind fun _ => Run.climbs_pure _

theorem Run.climbs_entryMatches (rq : Req) (p : Nat) (b : BlockId) (e : List Byte) : Run.Climbs O.toAccessOrder (Run.entryMatches rq p b e) := by
  refine Run.climbs_ite (Run.climbs_pure _) ((Run.climbs_kvp p).bind fun k => Run.climbs_ite (Run.climbs_pure _) ?_)
  exact (Run.climbs_hdr _ _ _ _ _).bind fun _ => (Run.climbs_hdr _ _ _ _ _).bind fun _ => Run.climbs_ite (Run.climbs_pure _)
    ((Run.climbs_pageTokens _ _ _ _).bind fun _ => Run.climbs_pure _)

theorem Run.climbs_probe (rq : Req) (p : Nat) (b : BlockId) (n i col : Nat) : Run.Climbs O.toAccessOrder (Run.probe rq p b n i col) := by
  induction n generalizing i col with
  | zero => exact Run.climbs_pure _
  | succ n ih =>
    refine Run.climbs_get.bind fun s => (Run.climbs_entry _ _ _).bind fun e => Run.climbs_ite (Run.climbs_pure _) (Run.climbs_ite ?_ (ih _ _))
    refine (Run.climbs_entryMatches _ _ _ _).bind fun m => Run.climbs_ite (Run.climbs_pure _) (Run.Climbs.bind ?_ fun _ => ih _ _)
    exact Run.climbs_touch fun _ => ⟨rfl, rfl⟩

theorem Run.climbs_lookup (rq : Req) (p : Nat) (b : BlockId) : Run.Climbs O.toAccessOrder (Run.lookup rq p b) :=
  Run.climbs_get.bind fun _ => Run.climbs_probe _ _ _ _ _ _

theorem Run.climbs_publishFrom (rq : Req) (c : Cmd) (p layer head count fmt dim cap : Nat) (ns : List Nat) (j chain parent : Nat) :
    Run.Climbs O.toAccessOrder (Run.publishFrom rq c p layer head count fmt dim cap ns j chain parent) := by
  induction ns generalizing j chain parent with
  | nil => exact Run.climbs_pure _
  | cons n ns ih =>
    refine (Run.climbs_hdr _ _ _ _ _).bind fun _ => (Run.climbs_hdr _ _ _ _ _).bind fun _ => (Run.climbs_hdr _ _ _ _ _).bind fun _ =>
      (Run.climbs_hdr _ _ _ _ _).bind fun _ => (Run.climbs_hdr _ _ _ _ _).bind fun _ => Run.climbs_ite (Run.climbs_pure _)
        ((Run.climbs_pageTokens _ _ _ _).bind fun _ => Run.climbs_ite (ih _ _ _) ((Run.climbs_lookup _ _ _).bind fun r => ?_))
    split
    · exact ih _ _ _
    · refine Run.Climbs.bind ?_ fun _ => Run.climbs_pure _
      exact Run.climbs_touch fun _ => ⟨rfl, rfl⟩
    · exact (Run.climbs_forAll _ _ _).bind fun _ => (Run.climbs_putEntry _ _ _ _ _).bind fun _ => (Run.climbs_setHdr _ _ _ _ _ _ _).bind fun _ =>
        (Run.climbs_setHdr _ _ _ _ _ _ _).bind fun _ => (Run.climbs_kvp p).bind fun _ => (Run.climbs_setKv _ _).bind fun _ =>
          (ih _ _ _).bind fun _ => Run.climbs_pure _

theorem Run.climbs_kvPublish (c : Cmd) (p : Nat) : Run.Climbs O.toAccessOrder (Run.kvPublish c p) := by
  refine (Run.climbs_seq _ _).bind fun q => (Run.climbs_layerOk _ _).bind fun _ => (Run.climbs_forIn (fun t b => ?_) _ _).bind fun _ => Run.climbs_pure _
  refine (Run.climbs_table _ _ _ _ _).bind fun ps => ?_
  dsimp only
  split
  · exact Run.climbs_pure _
  · exact (Run.climbs_hdr _ _ _ _ _).bind fun _ => (Run.climbs_hdr _ _ _ _ _).bind fun _ => (Run.climbs_hdr _ _ _ _ _).bind fun _ =>
      (Run.climbs_publishFrom _ _ _ _ _ _ _ _ _ _ _ _ _).bind fun _ => Run.climbs_pure _

theorem Run.climbs_kvEvict (c : Cmd) (p : Nat) : Run.Climbs O.toAccessOrder (Run.kvEvict c p) :=
  (Run.climbs_entries _ _).bind fun _ => (Run.climbs_forIn (fun _ _ => (Run.climbs_removeEntry _ _ _ _ _).bind fun _ => Run.climbs_pure _) _ _).bind fun _ =>
    Run.climbs_pure _

theorem Run.climbs_kvPages (c : Cmd) (p : Nat) : Run.Climbs O.toAccessOrder (Run.kvPages c p) := by
  refine Run.climbs_ite (Run.climbs_pure _) ((Run.climbs_read _ _ _ _).bind fun bs => Run.climbs_get.bind fun s => ?_)
  dsimp only
  split
  · exact Run.climbs_stopAt _ _
  · exact Run.climbs_pure _

theorem Run.climbs_kvRef (c : Cmd) (p : Nat) : Run.Climbs O.toAccessOrder (Run.kvRef c p) :=
  (Run.climbs_kvPages _ _).bind fun _ => (Run.climbs_forAll _ _ _).bind fun _ => Run.climbs_pure _

theorem Run.climbs_kvFree (c : Cmd) (p : Nat) : Run.Climbs O.toAccessOrder (Run.kvFree c p) :=
  (Run.climbs_kvPages _ _).bind fun _ => (Run.climbs_forAll _ _ _).bind fun _ => Run.climbs_pure _

/-! ### PREFIX_LOOKUP -/

theorem Run.climbs_matchBlocks (rq : Req) (p : Nat) (q : Seq) (tables : List (Nat × Nat)) (cap : Nat) (bs : List (List Nat)) (j chain : Nat)
    (parents : List Nat) (col : Nat) : Run.Climbs O.toAccessOrder (Run.matchBlocks rq p q tables cap bs j chain parents col) := by
  induction bs generalizing j chain parents col with
  | nil => exact Run.climbs_pure _
  | cons b bs ih =>
    refine Run.climbs_ite (Run.climbs_pure _) ((Run.climbs_forIn (fun t y => ?_) _ _).bind fun y => ?_)
    · refine Run.climbs_ite ?_ (Run.climbs_pure _)
      refine (Run.climbs_lookup _ _ _).bind fun r => ?_
      dsimp only
      split
      · exact Run.climbs_pure _
      · exact Run.climbs_pure _
    · exact Run.climbs_ite (Run.climbs_pure _) ((ih _ _ _ _).bind fun _ => Run.climbs_pure _)

theorem Run.climbs_prefixLookup (c : Cmd) (p : Nat) : Run.Climbs O.toAccessOrder (Run.prefixLookup c p) := by
  refine (Run.climbs_seq _ _).bind fun q => (Run.climbs_layerOk _ _).bind fun _ => (Run.climbs_forIn (fun t b => ?_) _ _).bind fun _ =>
    (Run.climbs_read _ _ _ _).bind fun bs => (Run.climbs_matchBlocks _ _ _ _ _ _ _ _ _ _).bind fun r => (Run.climbs_forAll _ _ _).bind fun _ =>
      (Run.climbs_forIn (fun b y => ?_) _ _).bind fun _ => Run.Climbs.bind ?_ fun _ => Run.climbs_write _ _ _ _ _
  · exact (Run.climbs_table _ _ _ _ _).bind fun _ => (Run.climbs_pageNeed _ _ _).bind fun _ => Run.climbs_pure _
  · exact (Run.climbs_forIn (fun _ _ => (Run.climbs_setEntry _ _ _ _ _ _ _).bind fun _ => Run.climbs_pure _) _ _).bind fun _ => Run.climbs_pure _
  · exact Run.climbs_touch fun _ => ⟨rfl, rfl⟩

end
end Sys2Proof.Machine
end

section
/-! PROOF. KV_PAGE_OP and PREFIX_LOOKUP, each sub-operation to its end (R373–R376, R389). -/
namespace Sys2Proof.Machine

/-! ### How a sub-operation ends -/

/-- The sub-operations: row, code of R373 and run. -/
def pageRows (id : Nat) (env : Env) : List (Instr × Nat × (Cmd → Nat → Run Nat)) :=
  [(.kvRegister id env, 0x01, Run.kvRegister), (.kvRelease id env, 0x02, Run.kvRelease),
   (.kvActivate id env, 0x03, Run.kvActivate), (.kvDeactivate id env, 0x04, Run.kvDeactivate), (.kvFork id env, 0x05, Run.kvFork),
   (.kvTruncate id env, 0x06, Run.kvTruncate), (.kvSetFormat id env, 0x07, Run.kvSetFormat), (.kvPublish id env, 0x08, Run.kvPublish),
   (.kvEvict id env, 0x09, Run.kvEvict), (.kvRef id env, 0x0A, Run.kvRef), (.kvFree id env, 0x0B, Run.kvFree)]

/-- Each of them runs its sub-operation, whose run leaves commands that may end so. -/
theorem pageRows_run (s : State) (id : Nat) (env : Env) (c : Cmd) : ∀ r ∈ pageRows id env,
    (∀ p, Run.Climbs endsOrder.toAccessOrder (r.2.2 c p)) ∧ (s.kvStarts id r.2.1 = some c → Becomes r.1 s ((s.arrive env).kvOp c r.2.2)) := by
  simp only [pageRows, List.forall_mem_cons]
  exact ⟨⟨Run.climbs_kvRegister c, fun h => becomes_of (exec_kvRegister id env s) rfl (by rw [doKvRegister, h])⟩,
    ⟨Run.climbs_kvRelease c, fun h => becomes_of (exec_kvRelease id env s) rfl (by rw [doKvRelease, h])⟩,
    ⟨Run.climbs_kvActivate c, fun h => becomes_of (exec_kvActivate id env s) rfl (by rw [doKvActivate, h])⟩,
    ⟨Run.climbs_kvDeactivate c, fun h => becomes_of (exec_kvDeactivate id env s) rfl (by rw [doKvDeactivate, h])⟩,
    ⟨Run.climbs_kvFork c, fun h => becomes_of (exec_kvFork id env s) rfl (by rw [doKvFork, h])⟩,
    ⟨Run.climbs_kvTruncate c, fun h => becomes_of (exec_kvTruncate id env s) rfl (by rw [doKvTruncate, h])⟩,
    ⟨Run.climbs_kvSetFormat c, fun h => becomes_of (exec_kvSetFormat id env s) rfl (by rw [doKvSetFormat, h])⟩,
    ⟨Run.climbs_kvPublish c, fun h => becomes_of (exec_kvPublish id env s) rfl (by rw [doKvPublish, h])⟩,
    ⟨Run.climbs_kvEvict c, fun h => becomes_of (exec_kvEvict id env s) rfl (by rw [doKvEvict, h])⟩,
    ⟨Run.climbs_kvRef c, fun h => becomes_of (exec_kvRef id env s) rfl (by rw [doKvRef, h])⟩,
    ⟨Run.climbs_kvFree c, fun h => becomes_of (exec_kvFree id env s) rfl (by rw [doKvFree, h])⟩, nofun⟩

theorem kvStarts_starts {s : State} {id sub : Nat} {c : Cmd} (h : s.kvStarts id sub = some c) : s.starts id 0x12 = some c := by
  unfold State.kvStarts at h
  split at h
  next d hd =>
    obtain ⟨-, rfl⟩ := Option.ite_none_right_eq_some.mp h |>.imp_right Option.some.inj
    exact hd
  next => cases h

section
variable {s t : State} {c : Cmd} {op : Cmd → Nat → Run Nat} {v : Nat}

theorem kvOp_ok (h : op c (s.polderOf c) (s.beginCmd c.id .none) = .ok v t) (ha : c.addr 0x28 = 0) : s.kvOp c op = t.endCmd c.id St.ok none := by
  unfold State.kvOp
  dsimp only
  rw [h, if_pos ha]
  rfl

theorem kvOp_reports {w : State} (h : op c (s.polderOf c) (s.beginCmd c.id .none) = .ok v t) (ha : c.addr 0x28 ≠ 0)
    (hw : Run.report (fun _ => reqBd c) (s.polderOf c) (c.addr 0x28)
      (leBytes 4 v ++ leBytes 1 0 ++ [0, 0, 0] ++ leBytes 4 0xFFFFFFFF ++ leBytes 4 (t.freePages (s.polderOf c)).length) t = .ok () w) :
    s.kvOp c op = w.endCmd c.id St.ok none := by
  unfold State.kvOp
  dsimp only
  rw [h, if_neg ha]
  dsimp only [Option.map_none, Option.bind_none, Option.getD_none]
  rw [hw]

/-- A sub-operation undone, its failure noted. -/
def kvUndone (s t : State) (c : Cmd) (n : Nat) (e : Fail) : State := ((s.beginCmd c.id .none).undoKv t c.id).noteKv (s.polderOf c) n e

theorem kvOp_failed {e : Fail} (h : op c (s.polderOf c) (s.beginCmd c.id .none) = .error e t) (ha : c.addr 0x28 = 0) :
    s.kvOp c op = match e.addr with
      | some a => (kvUndone s t c (kvSeq c.desc) e).failCmd c.id (e.status, a)
      | none => (kvUndone s t c (kvSeq c.desc) e).endCmd c.id e.status none := by
  unfold State.kvOp
  dsimp only
  rw [h, if_pos ha]
  rfl

/-- What is left when a sub-operation is undone: pages, sequences, copies and stack memory are as before it. -/
theorem kvUndone_keeps (s t : State) (c : Cmd) (n : Nat) (e : Fail) : (kvUndone s t c n e).kv = s.kv ∧ (kvUndone s t c n e).copies = s.copies ∧
    (kvUndone s t c n e).mem.dram = s.mem.dram := by
  unfold kvUndone State.noteKv State.kvErr
  split
  · split
    · exact ⟨rfl, rfl, rfl⟩
    · exact ⟨rfl, rfl, rfl⟩
  · exact ⟨rfl, rfl, rfl⟩

theorem kvUndone_mayEnd {id : Nat} (h : MayEnd t id) (n : Nat) (e : Fail) : MayEnd (kvUndone s t c n e) id := by
  have hundo : MayEnd ((s.beginCmd c.id .none).undoKv t c.id) id := by
    refine (h.of_cmds (t := { t with kv := (s.beginCmd c.id .none).kv }) rfl).kept ?_
    exact (PhasesKept.of_cmds rfl).trans (.updCmd _ _ (fun _ => rfl) fun _ _ => ⟨rfl, .inl rfl⟩)
  unfold kvUndone State.noteKv State.kvErr
  split
  · split
    · exact hundo
    · exact hundo
  · exact hundo
end

/-! ### What some sub-operations leave in the page manager -/

theorem kvp_setKv_same (s : State) (p : Nat) (k : KvPolder) : (s.setKv p k).kvp p = k := SMap.get_set_same _ _ _ _

theorem kv_seq_setSeq_same (k : KvPolder) (n : Nat) (q : Option Seq) : (k.setSeq n q).seq n = q := SMap.get_set_same (fun _ => (none : Option Seq)) _ _ _

theorem kv_seq_setSeq_ne (k : KvPolder) {n m : Nat} (h : m ≠ n) (q : Option Seq) : (k.setSeq n q).seq m = k.seq m :=
  SMap.get_set_ne (fun _ => (none : Option Seq)) _ _ _ h

theorem kv_page_setPage_same (k : KvPolder) (n : Nat) (g : Page) : (k.setPage n g).page n = g := SMap.get_set_same (fun _ => (⟨.free, 0, 0⟩ : Page)) _ _ _

theorem kv_page_setPage_ne (k : KvPolder) {n m : Nat} (h : m ≠ n) (g : Page) : (k.setPage n g).page m = k.page m :=
  SMap.get_set_ne (fun _ => (⟨.free, 0, 0⟩ : Page)) _ _ _ h

theorem Run.seq_bind_ok {β : Type} {p n : Nat} {f : Seq → Run β} {s : State} {q : Seq} (h : (s.kvp p).seq n = some q) :
    (Run.seq p n >>= f) s = f q s := by
  have hseq : Run.seq p n s = .ok q s := by
    show (match (s.kvp p).seq n with
      | some q => (pure q : Run Seq)
      | none => Run.pageStop Pr.seqUnknown none) s = _
    rw [h]
    rfl
  show EStateM.bind (Run.seq p n) f s = _
  unfold EStateM.bind
  rw [hseq]

theorem Run.pageNeed_bind_ok {β : Type} {b : Bool} {reason : Nat} {page : Option Nat} {f : Unit → Run β} {s : State} (h : b = true) :
    (Run.pageNeed b reason page >>= f) s = f () s := by
  subst h
  rfl

theorem Run.kvp_bind_ok {β : Type} {p : Nat} {f : KvPolder → Run β} {s : State} : (Run.kvp p >>= f) s = f (s.kvp p) s := rfl
theorem Run.get_bind_ok {β : Type} {f : State → Run β} {s : State} : ((get : Run State) >>= f) s = f s s := rfl

/-- The page manager's state of a polder after a run without a failure that touches nothing else. -/
def KvBecomes (r : Run Nat) (s : State) (p : Nat) (k : KvPolder) : Prop := ∃ v t, r s = .ok v t ∧ t.kvp p = k ∧ t.mem = s.mem

theorem kvActivate_active {c : Cmd} {p : Nat} {s : State} {q : Seq} (hq : (s.kvp p).seq (kvSeq c.desc) = some q) (ha : q.active = true) :
    KvBecomes (Run.kvActivate c p) s p (s.kvp p) := by
  refine ⟨0, s, ?_, rfl, rfl⟩
  unfold Run.kvActivate
  rw [Run.seq_bind_ok hq, if_pos ha]
  rfl

theorem kvActivate_activates {c : Cmd} {p : Nat} {s : State} {q : Seq} (hq : (s.kvp p).seq (kvSeq c.desc) = some q) (ha : q.active = false)
    (hm : (s.kvp p).activeSeqs < ((s.attnRec p).map (fun r => r.maxActive)).getD 0) :
    KvBecomes (Run.kvActivate c p) s p ((s.kvp p).setSeq (kvSeq c.desc) (some { q with active := true })) := by
  refine ⟨0, s.setKv p ((s.kvp p).setSeq (kvSeq c.desc) (some { q with active := true })), ?_, kvp_setKv_same _ _ _, rfl⟩
  unfold Run.kvActivate
  rw [Run.seq_bind_ok hq, if_neg (by rw [ha]; exact Bool.false_ne_true), Run.kvp_bind_ok, Run.get_bind_ok, Run.pageNeed_bind_ok (decide_eq_true hm)]
  rfl

theorem kvDeactivate_deactivates {c : Cmd} {p : Nat} {s : State} {q : Seq} (hq : (s.kvp p).seq (kvSeq c.desc) = some q) (ha : q.appending = []) :
    KvBecomes (Run.kvDeactivate c p) s p ((s.kvp p).setSeq (kvSeq c.desc) (some { q with active := false })) := by
  refine ⟨0, s.setKv p ((s.kvp p).setSeq (kvSeq c.desc) (some { q with active := false })), ?_, kvp_setKv_same _ _ _, rfl⟩
  unfold Run.kvDeactivate
  rw [Run.seq_bind_ok hq, Run.pageNeed_bind_ok (by rw [ha]; rfl)]
  rfl

theorem kvPages_one {c : Cmd} {p : Nat} (h : kvCount c.desc = 0) (s : State) : Run.kvPages c p s = .ok [kvPage c.desc] s := by
  unfold Run.kvPages
  dsimp only
  rw [if_pos h]
  rfl

theorem forAll_one {f : KvPolder → Nat → Except Nat KvPolder} {p n : Nat} {s : State} {k : KvPolder} (h : f (s.kvp p) n = .ok k) :
    Run.forAll p f [n] s = .ok () (s.setKv p k) := by
  show (match (s.kvp p).forAll f [n] with
    | .ok k => Run.setKv p k
    | .error e => (Run.pageStop e.1 (some e.2) : Run Unit)) s = _
  rw [KvPolder.forAll, h]
  rfl

/-- The end of REF and of FREE with one page. -/
theorem onePage_becomes {c : Cmd} {p : Nat} {s : State} {k : KvPolder} {f : KvPolder → Nat → Except Nat KvPolder} (h0 : kvCount c.desc = 0)
    (h : f (s.kvp p) (kvPage c.desc) = .ok k) :
    KvBecomes (do let ps ← Run.kvPages c p; Run.forAll p f ps; return ps.length) s p k := by
  refine ⟨1, s.setKv p k, ?_, kvp_setKv_same _ _ _, rfl⟩
  show EStateM.bind (Run.kvPages c p) _ s = _
  unfold EStateM.bind
  rw [kvPages_one h0]
  show EStateM.bind (Run.forAll p f [kvPage c.desc]) _ s = _
  unfold EStateM.bind
  rw [forAll_one h]
  rfl

theorem refAdd_live {k : KvPolder} {n : Nat} (hl : (k.page n).state = .live) (hr : (k.page n).refs < 65535) :
    k.refAdd n = .ok (k.setPage n { k.page n with refs := (k.page n).refs + 1 }) := by
  simp [KvPolder.refAdd, hl, Nat.ne_of_lt hr]

theorem refDrop_many {k : KvPolder} {n : Nat} (hl : (k.page n).state = .live) (hr : 1 < (k.page n).refs) :
    k.refDrop n = .ok (k.setPage n { k.page n with refs := (k.page n).refs - 1 }) := by
  simp [KvPolder.refDrop, hl, hr]

/-! ### Their rows -/

section
variable {s : State} {id : Nat} {env : Env} {c : Cmd} {r : Instr × Nat × (Cmd → Nat → Run Nat)}

theorem pageRows_becomes (hr : r ∈ pageRows id env) (hstart : s.kvStarts id r.2.1 = some c) : Becomes r.1 s ((s.arrive env).kvOp c r.2.2) :=
  (pageRows_run s id env c r hr).2 hstart

theorem pageRows_mayEnd {n : Nat} (hstart : s.kvStarts id n = some c) : MayEnd ((s.arrive env).beginCmd c.id .none) id :=
  (starts_works (s := s.arrive env) (kvStarts_starts hstart) .none).mayEnd

/-- A sub-operation whose run leaves its command to be ended ends it with ST_OK. -/
theorem pageRows_ends {t : State} (hr : r ∈ pageRows id env) (hstart : s.kvStarts id r.2.1 = some c)
    (h : Run.Climbs endsOrder.toAccessOrder (r.2.2 c ((s.arrive env).polderOf c)) → MayEnd t id) : Ends (t.endCmd c.id St.ok none) id St.ok := by
  rw [cmd?_id (starts_iff (kvStarts_starts hstart)).1]
  exact (h ((pageRows_run s id env c r hr).1 _)).endCmd _ _

end

/-- A sub-operation undone ends with the status of its failure. -/
theorem kvUndone_fails {s t : State} {c : Cmd} {id : Nat} (hid : c.id = id) (h : MayEnd t id) (n : Nat) (e : Fail) :
    let x := match e.addr with
      | some a => (kvUndone s t c n e).failCmd c.id (e.status, a)
      | none => (kvUndone s t c n e).endCmd c.id e.status none
    Ends x id e.status ∧ x.kv = s.kv ∧ x.copies = s.copies ∧ x.mem.dram = s.mem.dram := by
  subst hid
  obtain ⟨hkv, hcopies, hdram⟩ := kvUndone_keeps s t c n e
  refine ⟨(kvUndone_mayEnd h n e).failed e, ?_⟩
  split
  · exact ⟨hkv, hcopies, hdram⟩
  · exact ⟨hkv, hcopies, hdram⟩

theorem doPrefixLookup_ok {s t : State} {id : Nat} {env : Env} {c : Cmd} (h : s.starts id 0x13 = some c)
    (hrun : Run.prefixLookup c ((s.arrive env).polderOf c) ((s.arrive env).beginCmd c.id .none) = .ok () t) :
    doPrefixLookup id env s = t.endCmd id St.ok none := by
  unfold doPrefixLookup
  rw [h]
  dsimp only
  rw [show Run.prefixLookup c (s.polderOf c) ((s.arrive env).beginCmd c.id .none) = .ok () t from hrun]

theorem doPrefixLookup_failed {s t : State} {id : Nat} {env : Env} {c : Cmd} {e : Fail} (h : s.starts id 0x13 = some c)
    (hrun : Run.prefixLookup c ((s.arrive env).polderOf c) ((s.arrive env).beginCmd c.id .none) = .error e t) :
    doPrefixLookup id env s = match e.addr with
      | some a => (kvUndone (s.arrive env) t c (dfld c.desc 0x24 2) e).failCmd c.id (e.status, a)
      | none => (kvUndone (s.arrive env) t c (dfld c.desc 0x24 2) e).endCmd c.id e.status none := by
  unfold doPrefixLookup
  rw [h]
  dsimp only
  rw [show Run.prefixLookup c (s.polderOf c) ((s.arrive env).beginCmd c.id .none) = .error e t from hrun, ← cmd?_id (starts_iff h).1]
  rfl

/-- What a sub-operation leaves that touches only the page manager's state and asks for no result record. -/
theorem pageRow_leaves {s : State} {id : Nat} {env : Env} {c : Cmd} {r : Instr × Nat × (Cmd → Nat → Run Nat)} (hr : r ∈ pageRows id env)
    (hstart : s.kvStarts id r.2.1 = some c) (ha : c.addr 0x28 = 0) {k : KvPolder}
    (h : KvBecomes (r.2.2 c ((s.arrive env).polderOf c)) ((s.arrive env).beginCmd c.id .none) ((s.arrive env).polderOf c) k) :
    Completes r.1 s (fun x => Ends x id St.ok ∧ x.kvp ((s.arrive env).polderOf c) = k ∧ x.mem = (s.arrive env).mem) := by
  obtain ⟨v, t, hrun, hk, hm⟩ := h
  obtain ⟨hclimbs, hrow⟩ := pageRows_run s id env c r hr
  have hstarts := kvStarts_starts hstart
  have hmay : MayEnd ((s.arrive env).beginCmd c.id .none) id := (starts_works (s := s.arrive env) hstarts .none).mayEnd
  refine (hrow hstart).completes ?_
  rw [kvOp_ok hrun ha]
  have hid : c.id = id := cmd?_id (starts_iff hstarts).1
  rw [hid]
  exact ⟨((hclimbs _).mayEnd_ok hmay hrun).endCmd St.ok none, hk, hm⟩

end Sys2Proof.Machine

namespace Sys2Proof.Proofs
open Sys2Proof.Machine

/-- Settles O27: each sub-operation by the run of its row, whose failures are undone and whose accesses leave the command to be ended. -/
theorem pageOperationsComplete : Obligations.PageOperationsComplete := by
  unfold Obligations.PageOperationsComplete
  intro s id env c u p rows
  refine ⟨fun r hr hstart => ⟨fun v t hrun => ⟨fun ha => ⟨?_, ?_⟩, fun w ha hw => ?_⟩, fun e t hrun ha => ?_⟩, fun hstart => ⟨fun t hrun => ⟨?_, ?_⟩, fun e t hrun => ?_⟩,
    fun ha => ⟨fun q hstart hq hact => ?_, fun q hstart hq happ => ?_, fun hcount hlive => ⟨fun hstart hrefs => ?_, fun hstart hrefs => ?_⟩⟩⟩
  · rw [← kvOp_ok hrun ha]
    exact pageRows_becomes hr hstart
  · refine (pageRows_becomes hr hstart).completes ?_
    rw [kvOp_ok hrun ha]
    exact ⟨pageRows_ends hr hstart (fun h => h.mayEnd_ok (pageRows_mayEnd hstart) hrun), rfl, rfl, rfl, rfl⟩
  · refine (pageRows_becomes hr hstart).completes ?_
    rw [kvOp_reports hrun ha hw]
    exact ⟨pageRows_ends hr hstart (fun h => (Run.climbs_report _ _ _ _).mayEnd_ok (h.mayEnd_ok (pageRows_mayEnd hstart) hrun) hw), rfl, rfl, rfl, rfl⟩
  · refine (pageRows_becomes hr hstart).completes ?_
    rw [kvOp_failed hrun ha]
    exact kvUndone_fails (cmd?_id (starts_iff (kvStarts_starts hstart)).1) (((pageRows_run s id env c r hr).1 p).mayEnd_error (pageRows_mayEnd hstart) hrun) _ e
  · exact becomes_of (exec_prefixLookup id env s) rfl (doPrefixLookup_ok hstart hrun)
  · refine completes_apart (fun _ _ h => h) (exec_prefixLookup id env s) rfl ?_
    rw [doPrefixLookup_ok hstart hrun]
    exact ⟨((Run.climbs_prefixLookup c p).mayEnd_ok (starts_works (s := s.arrive env) hstart .none).mayEnd hrun).endCmd _ _, rfl, rfl, rfl⟩
  · refine completes_apart (fun _ _ h => h) (exec_prefixLookup id env s) rfl ?_
    rw [doPrefixLookup_failed hstart hrun]
    obtain ⟨hends, hkv, -, hdram⟩ := kvUndone_fails (s := s.arrive env) (cmd?_id (starts_iff hstart).1)
      ((Run.climbs_prefixLookup c p).mayEnd_error (starts_works (s := s.arrive env) hstart .none).mayEnd hrun) (dfld c.desc 0x24 2) e
    exact ⟨hends, hkv, hdram⟩
  · cases hactive : q.active with
    | true =>
      obtain ⟨x, hexec, hends, hk, hm⟩ := pageRow_leaves (r := (.kvActivate id env, 0x03, Run.kvActivate)) (by simp [pageRows]) hstart ha (kvActivate_active hq hactive)
      refine ⟨x, hexec, hends, ?_, ?_, fun n _ => ?_, hm⟩
      · rw [hk]
        exact hq.trans (by rw [← hactive])
      · rw [hk]
        rfl
      · rw [hk]
        rfl
    | false =>
      have hmax := hact.resolve_left (by rw [hactive]; exact Bool.false_ne_true)
      obtain ⟨x, hexec, hends, hk, hm⟩ := pageRow_leaves (r := (.kvActivate id env, 0x03, Run.kvActivate)) (by simp [pageRows]) hstart ha
        (kvActivate_activates hq hactive hmax)
      refine ⟨x, hexec, hends, ?_, ?_, fun n hn => ?_, hm⟩
      · rw [hk]
        exact kv_seq_setSeq_same _ _ _
      · rw [hk]
        rfl
      · rw [hk]
        exact kv_seq_setSeq_ne _ hn _
  · obtain ⟨x, hexec, hends, hk, hm⟩ := pageRow_leaves (r := (.kvDeactivate id env, 0x04, Run.kvDeactivate)) (by simp [pageRows]) hstart ha
      (kvDeactivate_deactivates hq happ)
    refine ⟨x, hexec, hends, ?_, ?_, fun n hn => ?_, hm⟩
    · rw [hk]
      exact kv_seq_setSeq_same _ _ _
    · rw [hk]
      rfl
    · rw [hk]
      exact kv_seq_setSeq_ne _ hn _
  · obtain ⟨x, hexec, hends, hk, hm⟩ := pageRow_leaves (r := (.kvRef id env, 0x0A, Run.kvRef)) (by simp [pageRows]) hstart ha
      (onePage_becomes hcount (refAdd_live hlive hrefs))
    refine ⟨x, hexec, hends, ?_, fun n hn => ?_, ?_, hm⟩
    · rw [hk]
      exact kv_page_setPage_same _ _ _
    · rw [hk]
      exact kv_page_setPage_ne _ hn _
    · rw [hk]
      rfl
  · obtain ⟨x, hexec, hends, hk, hm⟩ := pageRow_leaves (r := (.kvFree id env, 0x0B, Run.kvFree)) (by simp [pageRows]) hstart ha
      (onePage_becomes hcount (refDrop_many hlive hrefs))
    refine ⟨x, hexec, hends, ?_, fun n hn => ?_, ?_, hm⟩
    · rw [hk]
      exact kv_page_setPage_same _ _ _
    · rw [hk]
      exact kv_page_setPage_ne _ hn _
    · rw [hk]
      rfl

end Sys2Proof.Proofs
end

section
/-! PROOF. The runs of the vector unit and the admission of an append (R199–R211, R261–R263, R379). -/
namespace Sys2Proof.Machine

/-! ### Elements gathered and scales read -/

theorem AccessOrder.gather (O : AccessOrder) (s : State) (rq : Nat → Req) (polder : Nat) (addrs : List Nat) : O.rel s (s.gather rq polder addrs).2.2 := by
  unfold State.gather
  refine O.foldl_via (fun a : Mem × Option (Nat × Nat) × State => a.2.2) _ (fun a b => ?_) _ ([], none, s)
  dsimp only
  split
  · exact O.refl _
  · exact O.readPiece ..

theorem AccessOrder.tensorScale (O : AccessOrder) (s : State) (rq : Nat → Req) (polder : Nat) (t : Tensor) : O.rel s (s.tensorScale rq polder t).2.2 := by
  unfold State.tensorScale
  dsimp only
  have hread := O.readRange s rq polder (t.addr + t.scaleOff) 4
  split
  · exact O.refl s
  · split
    · exact hread
    · split
      · exact hread
      · exact hread

section
variable {O : AccessOrder}

theorem Run.climbs_gather (rq : Nat → Req) (p : Nat) (addrs : List Nat) : Run.Climbs O (Run.gather rq p addrs) := fun s => by
  have hs := O.gather s rq p addrs
  unfold Run.gather
  split <;>
  next heq =>
    rw [heq] at hs
    exact hs

theorem Run.climbs_tensorScale (rq : Nat → Req) (p : Nat) (t : Tensor) : Run.Climbs O (Run.tensorScale rq p t) := fun s => by
  have hs := O.tensorScale s rq p t
  unfold Run.tensorScale
  split <;>
  next heq =>
    rw [heq] at hs
    exact hs

theorem Run.climbs_writeBytes (rq : Nat → Req) (id p : Nat) (bs : List (Nat × Byte)) : Run.Climbs O (Run.writeBytes rq id p bs) :=
  (Run.climbs_forIn (fun _ _ => (Run.climbs_write _ _ _ _ _).bind fun _ => Run.climbs_pure _) _ _).bind fun _ => Run.climbs_pure _

/-! ### Lines drained -/

theorem Run.climbs_putDrained (rq : Nat → Req) (id p : Nat) (t : Tensor) (x : Drained) : Run.Climbs O (Run.putDrained rq id p t x) :=
  (Run.climbs_gather _ _ _).bind fun _ => Run.climbs_writeBytes _ _ _ _

theorem Run.climbs_accumulate (rq : Nat → Req) (p : Nat) (t : Tensor) (st : Num) (lines : List ((Nat → List Nat) × Nat × List Num)) :
    Run.Climbs O (Run.accumulate rq p t st lines) :=
  (Run.climbs_gather _ _ _).bind fun _ => Run.climbs_pure _

end

section
variable {O : RunOrder}

theorem Run.climbs_countDrained (id core : Nat) (x : Drained) : Run.Climbs O.toAccessOrder (Run.countDrained id core x) := Run.climbs_modify fun s => by
  dsimp only
  split
  · refine O.trans (t := { (s.addCnt (Reg.precCntSat core) x.sat).addCnt (Reg.precCntNan core) x.nan with freeCtr := max s.freeCtr x.free }) ?_ ?_
    · exact O.same rfl rfl
    · exact O.upd _ _ _ fun _ => ⟨rfl, rfl⟩
  · exact O.same rfl rfl

theorem Run.climbs_drainTo (rq : Nat → Req) (c : Cmd) (core p : Nat) (t : Tensor) (gen : Nat) (lines : List ((Nat → List Nat) × Nat × List Num)) :
    Run.Climbs O.toAccessOrder (Run.drainTo rq c core p t gen lines) := by
  unfold Run.drainTo
  refine (Run.climbs_tensorScale _ _ _).bind fun st => ?_
  extract_lets rest
  have hrest : ∀ ls, Run.Climbs O.toAccessOrder (rest ls) := fun ls => Run.climbs_get.bind fun s =>
    (Run.climbs_putDrained _ _ _ _ _).bind fun _ => (Run.climbs_countDrained _ _ _).bind fun _ => Run.climbs_pure _
  exact Run.climbs_ite ((Run.climbs_accumulate _ _ _ _ _).bind hrest) (hrest _)

theorem Run.climbs_tensorMax (rq : Nat → Req) (id p : Nat) (t : Tensor) (m : Word) : Run.Climbs O.toAccessOrder (Run.tensorMax rq id p t m) :=
  Run.climbs_get.bind fun _ => (Run.climbs_write _ _ _ _ _).bind fun _ => fun _ => O.same rfl rfl

/-! ### The vector unit -/

theorem Run.climbs_vecPiece (t : Tmpl) (c : Cmd) (n p : Nat) (t0 t1 : Num) (start len gen : Nat) :
    Run.Climbs O.toAccessOrder (Run.vecPiece t c n p t0 t1 start len gen) := by
  unfold Run.vecPiece
  refine (Run.climbs_gather _ _ _).bind fun m0 => Run.Climbs.bind ?_ fun m1 => Run.climbs_get.bind fun s => Run.Climbs.bind ?_ fun _ =>
    (Run.climbs_drainTo _ _ _ _ _ _ _).bind fun y => Run.Climbs.bind ?_ fun _ => Run.climbs_pure _
  · exact Run.climbs_ite (Run.climbs_gather _ _ _) (Run.climbs_pure _)
  · exact Run.climbs_touch fun _ => ⟨rfl, rfl⟩
  · exact Run.climbs_touch fun _ => ⟨rfl, rfl⟩

theorem Run.climbs_elementwise (t : Tmpl) (c : Cmd) (p : Nat) : Run.Climbs O.toAccessOrder (Run.elementwise t c p) := by
  unfold Run.elementwise
  refine Run.climbs_get.bind fun s => (Run.climbs_tensorScale _ _ _).bind fun t0 => Run.Climbs.bind ?_ fun t1 => (Run.climbs_forIn (fun x top => ?_) _ _).bind fun top =>
    Run.climbs_ite (Run.climbs_tensorMax _ _ _ _ _) (Run.climbs_pure _)
  · exact Run.climbs_ite (Run.climbs_tensorScale _ _ _) (Run.climbs_pure _)
  · refine (Run.climbs_forIn (fun y b => ?_) _ _).bind fun b => Run.Climbs.bind ?_ fun _ => Run.climbs_pure _
    · exact (Run.climbs_vecPiece _ _ _ _ _ _ _ _ _).bind fun _ => Run.climbs_pure _
    · exact Run.climbs_modify fun s => O.gen _ _ _ _

/-! ### The admission of an append -/

theorem Run.climbs_admission (rq : Req) (c : Cmd) (p m n fmt : Nat) (rowMajor : Bool) : Run.Climbs O.toAccessOrder (Run.admission rq c p m n fmt rowMajor) := by
  unfold Run.admission
  refine (Run.climbs_read _ _ _ _).bind fun r => (Run.climbs_need _ _).bind fun _ => (Run.climbs_seq _ _).bind fun q => (Run.climbs_need _ _).bind fun _ =>
    (Run.climbs_mayTouch _ _ _ _ _).bind fun _ => (Run.climbs_pageNeed _ _ _).bind fun _ => (Run.climbs_pageNeed _ _ _).bind fun _ =>
      (Run.climbs_forIn (fun h b => ?_) _ _).bind fun b => (Run.climbs_makeRoom _ _ _ _).bind fun _ =>
        (Run.climbs_forIn (fun x b => (Run.climbs_admitTable _ _ _ _ _ _ _ _ _ _).bind fun _ => Run.climbs_pure _) _ _).bind fun _ =>
          (Run.climbs_kvp _).bind fun _ => (Run.climbs_setKv _ _).bind fun _ => Run.climbs_pure _
  exact (Run.climbs_table _ _ _ _ _).bind fun _ => (Run.climbs_tableLen _ _ _).bind fun _ => (Run.climbs_pageNeed _ _ _).bind fun _ =>
    (Run.climbs_appendNeeds _ _ _ _ _).bind fun _ => (Run.climbs_pageNeed _ _ _).bind fun _ => Run.climbs_pure _

end
end Sys2Proof.Machine
end

section
/-! PROOF. GEMM, CONV and ELEMENTWISE (R185, R198, R261–R263, R379). -/
namespace Sys2Proof.Machine

/-- The notes of the spans of several cores leave every command's phase and work alone. -/
theorem spanStarts_kept (xs : List (Nat × List Tile)) (s : State) (c : Cmd) : WorkKept s (xs.foldl (fun (s : State) x => s.spanStart x.1 c) s) := by
  induction xs generalizing s with
  | nil => exact .of_cmds rfl
  | cons x xs ih => exact (spanStart_frame s x.1 c).2.trans (ih _)

theorem MayEnd.workKept {s t : State} {id : Nat} (h : MayEnd s id) (k : WorkKept s t) : MayEnd t id := by
  obtain ⟨c, hc, hph⟩ := h
  obtain ⟨d, hd, hph', -⟩ := k id c hc
  exact ⟨d, hd, fun st since => by rw [hph']; exact hph st since⟩

/-! ### GEMM and CONV -/

/-- The tiles that an array command's template cuts over the participating cores. -/
def arrayTiles (s : State) (c : Cmd) (p : Nat) (t : Tmpl) : List (Nat × List Tile) := coreTiles t c.desc (s.partCores p t.cores) (passTiles t)

/-- An array command as it begins to run. -/
def arrayBegun (s : State) (c : Cmd) (p : Nat) (t : Tmpl) (kv : Option KvReserve) : State :=
  (arrayTiles s c p t).foldl (fun (s : State) x => s.spanStart x.1 c) (s.beginCmd c.id (.array (arrayTiles s c p t) 0 kv (s.nat (Reg.precSeed c.ctx))))

theorem arrayBegun_works {s : State} {c : Cmd} (h : MayEnd s c.id) (p : Nat) (t : Tmpl) (kv : Option KvReserve) :
    Works (arrayBegun s c p t kv) c.id (.array (arrayTiles s c p t) 0 kv (s.nat (Reg.precSeed c.ctx))) := (h.beginCmd _).kept (spanStarts_kept _ _ _)

/-- The admission of an array command's append. -/
def admissionOf (s : State) (c : Cmd) (t : Tmpl) : EStateM.Result Fail State KvReserve :=
  Run.admission (reqBd c) c (s.polderOf c) (extent c.desc 0) (extent c.desc 1) (fmtDst c.desc) (decide (t.layD = 0)) s

section
variable {s v : State} {c : Cmd} {t : Tmpl}

theorem startArray_untemplated (h : s.template c = none) : s.startArray c = s.endCmd c.id St.badDescriptor none := by
  unfold State.startArray
  dsimp only
  rw [h]

theorem startArray_plain (h : s.template c = some t) (ha : tfAppend c.desc = false) : s.startArray c = arrayBegun s c (s.polderOf c) t none := by
  unfold State.startArray
  dsimp only
  rw [h]
  dsimp only
  rw [ha]
  rfl

theorem startArray_appends {r : KvReserve} (h : s.template c = some t) (ha : tfAppend c.desc = true) (hr : admissionOf s c t = .ok r v) :
    s.startArray c = arrayBegun (v.updCmd c.id (fun x => { x with wrote := false })) c (s.polderOf c) t (some r) := by
  unfold State.startArray
  dsimp only
  rw [h]
  dsimp only
  rw [if_pos ha]
  unfold admissionOf at hr
  rw [hr]
  rfl

/-- The page manager after an append that was not admitted. -/
def appendUndone (s v : State) (c : Cmd) (e : Fail) : State := (s.undoKv v c.id).noteKv (s.polderOf c)
  (match Run.read (fun _ => reqBd c) (s.polderOf c) (c.addr 0x20) 2 v with
    | .ok bs _ => leNat bs
    | .error _ _ => 0) e

theorem startArray_refused {e : Fail} (h : s.template c = some t) (ha : tfAppend c.desc = true) (hr : admissionOf s c t = .error e v) :
    s.startArray c = match e.addr with
      | some a => (appendUndone s v c e).failCmd c.id (e.status, a)
      | none => (appendUndone s v c e).endCmd c.id e.status none := by
  unfold State.startArray
  dsimp only
  rw [h]
  dsimp only
  rw [if_pos ha]
  unfold admissionOf at hr
  rw [hr]
  rfl

theorem MayEnd.undone {id : Nat} (h : MayEnd v id) (n m : Nat) (e : Fail) : MayEnd ((s.undoKv v c.id).noteKv n m e) id := by
  have hundo : MayEnd (s.undoKv v c.id) id :=
    (h.of_cmds (t := { v with kv := s.kv }) rfl).kept ((PhasesKept.of_cmds rfl).trans (.updCmd _ _ (fun _ => rfl) fun _ _ => ⟨rfl, .inl rfl⟩))
  unfold State.noteKv State.kvErr
  split
  · split
    · exact hundo
    · exact hundo
  · exact hundo

end

/-- An array command that may start behind no dike. -/
theorem arrayRow_becomes {s : State} {id op : Nat} {env : Env} {c : Cmd} {i : Instr} (hd : s.meetsDike c = false)
    (hi : (i = Instr.gemm id env ∧ op = 0x01) ∨ (i = Instr.conv id env ∧ op = 0x02)) (h : s.starts id op = some c) :
    Becomes i s ((s.arrive env).startArray c) := by
  rcases hi with ⟨rfl, rfl⟩ | ⟨rfl, rfl⟩
  · exact becomes_of (exec_gemm id env s) rfl (by rw [doGemm, h]; simp only [State.launch, hd]; rfl)
  · exact becomes_of (exec_conv id env s) rfl (by rw [doConv, h]; simp only [State.launch, hd]; rfl)

/-! ### ELEMENTWISE -/

/-- On a core whose half runs, a span leaves the registers and the clocks as they are. -/
theorem spanStart_keeps {s : State} {n : Nat} (h : s.half (n / 32) = .run) (c : Cmd) :
    (s.spanStart n c).regs = s.regs ∧ (s.spanStart n c).clocks = s.clocks := by
  have hwake : ∀ t : State, t.regs = s.regs → t.clocks = s.clocks → (t.wakeHalf (n / 32)).regs = s.regs ∧ (t.wakeHalf (n / 32)).clocks = s.clocks := by
    intro t hregs hclocks
    have hrun : t.half (n / 32) = .run := by rw [State.half, hclocks]; exact h
    unfold State.wakeHalf
    rw [hrun]
    exact ⟨hregs, hclocks⟩
  unfold State.spanStart
  split
  · exact ⟨rfl, rfl⟩
  · refine hwake _ ?_ ?_
    · split <;> rfl
    · split <;> rfl

theorem warm_half {s : State} {n : Nat} (h : s.warm n = true) : s.half (n / 32) = .run := by
  simp only [State.warm, State.arrayCold, State.clocked, Bool.and_eq_true, Bool.not_eq_true', Bool.or_eq_false_iff, Bool.not_eq_false', decide_eq_true_eq] at h
  obtain ⟨⟨⟨⟨⟨-, hrun⟩, -⟩, -⟩, -⟩, -⟩ := h
  exact hrun

/-- The spans of cores whose halves run leave the registers as they are. -/
theorem spanStarts_regs (xs : List (Nat × List Tile)) (s : State) (c : Cmd) (h : ∀ x ∈ xs, s.half (x.1 / 32) = .run) :
    (xs.foldl (fun (s : State) x => s.spanStart x.1 c) s).regs = s.regs := by
  induction xs generalizing s with
  | nil => rfl
  | cons x xs ih =>
    obtain ⟨hregs, hclocks⟩ := spanStart_keeps (h x (.head _)) c
    refine (ih (s.spanStart x.1 c) fun y hy => ?_).trans hregs
    rw [State.half, hclocks]
    exact h y (.tail _ hy)

/-- An elementwise command as its cores begin it. -/
def vectorBegun (s : State) (id : Nat) (c : Cmd) (t : Tmpl) : State :=
  (coreTiles t c.desc (s.partCores (s.polderOf c) t.cores) (fun x => [x])).foldl (fun (s : State) x => s.spanStart x.1 c) (s.beginCmd id .none)

section
variable {s : State} {id : Nat} {env : Env} {c : Cmd} {t : Tmpl}

theorem elementwise_untemplated (h : s.starts id 0x03 = some c) (hd : s.meetsDike c = false) (ht : (s.arrive env).template c = none) :
    Becomes (.elementwise id env) s ((s.arrive env).endCmd id St.badDescriptor none) :=
  becomes_of (exec_elementwise id env s) rfl (by rw [doElementwise, h]; simp only [State.launch, hd, ht]; rfl)

theorem elementwise_waits (h : s.starts id 0x03 = some c) (hd : s.meetsDike c = false) (ht : (s.arrive env).template c = some t)
    (hw : (s.arrive env).coresWarm ((coreTiles t c.desc ((s.arrive env).partCores ((s.arrive env).polderOf c) t.cores) (fun x => [x])).map (fun x => x.1)) = false) :
    Becomes (.elementwise id env) s (s.arrive env) :=
  becomes_of (exec_elementwise id env s) rfl (by rw [doElementwise, h]; simp only [State.launch, hd, ht, hw]; rfl)

theorem elementwise_runs (h : s.starts id 0x03 = some c) (hd : s.meetsDike c = false) (ht : (s.arrive env).template c = some t)
    (hw : (s.arrive env).coresWarm ((coreTiles t c.desc ((s.arrive env).partCores ((s.arrive env).polderOf c) t.cores) (fun x => [x])).map (fun x => x.1)) = true) :
    Becomes (.elementwise id env) s
      (((vectorBegun (s.arrive env) id c t).runEnd id (Run.elementwise t c ((s.arrive env).polderOf c))).spanEnd id) := by
  have hpolder : (vectorBegun (s.arrive env) id c t).polderOf c = (s.arrive env).polderOf c := by
    refine fld_congr_regs (spanStarts_regs _ ((s.arrive env).beginCmd id .none) c fun x hx => ?_) _ _ _
    exact warm_half (s := s.arrive env) (List.all_eq_true.mp hw _ (List.mem_map_of_mem hx))
  refine becomes_of (exec_elementwise id env s) rfl ?_
  rw [← hpolder, doElementwise, h]
  simp only [State.launch, hd, ht, hw]
  rfl

end

theorem SeamFrame.mem {s t : State} (h : SeamFrame s t) : t.mem = s.mem := (congrArg State.mem h).trans rfl
theorem SeamFrame.host {s t : State} (h : SeamFrame s t) : t.host = s.host := (congrArg State.host h).trans rfl
theorem SeamFrame.cores {s t : State} (h : SeamFrame s t) : t.cores = s.cores := (congrArg State.cores h).trans rfl

theorem runEnd_ok {s t : State} {r : Run Unit} {id : Nat} (h : r s = .ok () t) : s.runEnd id r = t.endCmd id St.ok none := by
  unfold State.runEnd
  rw [h]

theorem runEnd_error {s t : State} {r : Run Unit} {id : Nat} {e : Fail} (h : r s = .error e t) : s.runEnd id r = match e.addr with
    | some a => t.failCmd id (e.status, a)
    | none => t.endCmd id e.status none := by
  unfold State.runEnd
  rw [h] <;> rfl

end Sys2Proof.Machine

namespace Sys2Proof.Proofs
open Sys2Proof.Machine

/-- Settles O24: the tiles are those of the template, and neither the admission nor the run takes the command from its end. -/
theorem arrayAndVectorCommands : Obligations.ArrayAndVectorCommands := by
  unfold Obligations.ArrayAndVectorCommands
  refine ⟨fun s id env c hd i op hi h => ?_, fun s id env c h hd => ⟨elementwise_untemplated h hd, fun t ht => ⟨elementwise_waits h hd ht, fun hw => ?_⟩⟩⟩
  · have hrow := arrayRow_becomes (env := env) hd hi h
    have hmay : MayEnd (s.arrive env) id := starts_mayEnd h
    obtain rfl : c.id = id := cmd?_id (starts_iff h).1
    refine ⟨hrow, fun ht => ?_, fun t ht ha => ?_, fun t ht ha => ⟨fun r v hr => ?_, fun e v hr => ?_⟩⟩
    · refine hrow.completes ?_
      rw [startArray_untemplated ht]
      exact ⟨hmay.endCmd _ _, rfl⟩
    · refine hrow.completes ?_
      rw [startArray_plain ht ha]
      exact arrayBegun_works hmay _ _ _
    · refine hrow.completes ?_
      rw [startArray_appends ht ha hr]
      have hadmitted : MayEnd v c.id := (Run.climbs_admission _ _ _ _ _ _ _).mayEnd_ok hmay hr
      exact arrayBegun_works (hadmitted.updCmd c.id (f := fun x => { x with wrote := false }) fun _ => ⟨rfl, rfl⟩) _ _ _
    · refine hrow.completes ?_
      rw [startArray_refused ht ha hr]
      exact (((Run.climbs_admission _ _ _ _ _ _ _).mayEnd_error hmay hr).undone _ _ _).failed e
  · have hrow := elementwise_runs h hd ht hw
    have hmay : MayEnd (vectorBegun (s.arrive env) id c t) id := by
      refine MayEnd.workKept (Works.mayEnd (w := .none) ?_) (spanStarts_kept _ _ _)
      exact (starts_mayEnd h : MayEnd (s.arrive env) id).beginCmd _
    refine ⟨fun v hv => hrow.completes ?_, fun e v hv => hrow.completes ?_⟩
    · rw [runEnd_ok (s := vectorBegun (s.arrive env) id c t) hv]
      have hseam := spanEnd_frame (v.endCmd id St.ok none) id
      have hends := (((Run.climbs_elementwise _ _ _).mayEnd_ok hmay hv).endCmd St.ok none).kept hseam.spanFrame.2
      exact ⟨hends, hseam.mem, hseam.regs, hseam.cores, hseam.host⟩
    · rw [runEnd_error (s := vectorBegun (s.arrive env) id c t) hv]
      have hends := ((Run.climbs_elementwise _ _ _).mayEnd_error hmay hv).failed e
      refine ⟨hends.kept (spanEnd_frame _ id).spanFrame.2, ?_⟩
      have hseam := spanEnd_frame (match e.addr with
        | some a => v.failCmd id (e.status, a)
        | none => v.endCmd id e.status none) id
      refine ⟨hseam.mem.trans ?_, hseam.regs.trans ?_⟩
      · split <;> rfl
      · split <;> rfl

end Sys2Proof.Proofs
end

section
/-! PROOF. Page copies and OPT_STEP (R383, R404, R412, R422). -/
namespace Sys2Proof.Machine

/-! ### The end of a page copy -/

theorem Touched.chanRead (s : State) (rq : Req) (addr col q n : Nat) : Touched s (s.chanRead rq addr col q n).2 := by
  simp only [State.chanRead]
  exact (((Steady.countYield _ _ _).trans (.noteTorn _ _ _ _ _ _)).trans (.addCnt _ _ _)).touched.trans (.readBlock _ _ _ _ _ _)

theorem Touched.chanWrite (s : State) (rq : Req) (addr col q : Nat) (bs : List Byte) : Touched s (s.chanWrite rq addr col q bs).2 := by
  simp only [State.chanWrite]
  exact (((Steady.countYield _ _ _).trans (.noteClash _ _ _ _ _ _)).trans (.addCnt _ _ _)).touched.trans (.writeBlock _ _ _ _ _ _ _)

/-- Accesses touch what an access may touch, and nothing else. -/
def touchedOrder : AccessOrder where
  rel := Touched
  refl := .refl
  trans := .trans
  chanRead := .chanRead
  chanWrite := .chanWrite
  wrote _ _ := rfl
  localRead _ _ _ _ := rfl
  sharedRead _ _ _ _ := rfl
  setMem _ _ := rfl
  setHost _ _ := rfl

theorem Touched.copies {s t : State} (h : Touched s t) : t.copies = s.copies := (congrArg State.copies h).trans rfl
theorem Touched.kv {s t : State} (h : Touched s t) : t.kv = s.kv := (congrArg State.kv h).trans rfl

/-- The requester of a page copy: the command that asked for it, where it is still in flight. -/
def copyReq (s : State) (c : PageCopy) : Req := ⟨5, (s.cmd? c.cmd).map (fun x => x.ctx), (s.cmd? c.cmd).map (fun x => x.id), .bd⟩

section
variable {s t : State} {p new : Nat} {env : Env} {c : PageCopy}

theorem copyOnWriteEnd_waits (h : s.copies.find? (fun x => x.polder == p && x.new == new) = some c) (hb : (s.arrive env).copying p c.old = true) :
    doCopyOnWriteEnd p new env s = s.arrive env := by
  simp only [doCopyOnWriteEnd, h, hb]
  rfl

theorem copyOnWriteEnd_copies (h : s.copies.find? (fun x => x.polder == p && x.new == new) = some c) (hb : (s.arrive env).copying p c.old = false)
    (hrun : Run.copyPage (copyReq s c) c { s.arrive env with copies := (s.arrive env).copies.erase c } = .ok () t) :
    doCopyOnWriteEnd p new env s = t.unleaseAll p [c.old] := by
  simp only [doCopyOnWriteEnd, h, hb]
  rw [if_neg Bool.false_ne_true]
  unfold copyReq at hrun
  simp only [show ∀ j, State.cmd? { s.arrive env with copies := (s.arrive env).copies.erase c } j = s.cmd? j from fun _ => rfl, hrun]

theorem copyOnWriteEnd_fails {e : Fail} (h : s.copies.find? (fun x => x.polder == p && x.new == new) = some c)
    (hb : (s.arrive env).copying p c.old = false)
    (hrun : Run.copyPage (copyReq s c) c { s.arrive env with copies := (s.arrive env).copies.erase c } = .error e t) :
    doCopyOnWriteEnd p new env s = (t.failCmd c.cmd (e.status, e.addr.getD 0)).unleaseAll p [c.old] := by
  simp only [doCopyOnWriteEnd, h, hb]
  rw [if_neg Bool.false_ne_true]
  unfold copyReq at hrun
  simp only [show ∀ j, State.cmd? { s.arrive env with copies := (s.arrive env).copies.erase c } j = s.cmd? j from fun _ => rfl, hrun]

end

/-! ### OPT_STEP -/

section
variable {O : AccessOrder}

theorem Run.climbs_optCheck (c : Cmd) (p : Nat) : Run.Climbs O (Run.optCheck c p) := Run.climbs_get.bind fun s => (Run.climbs_need _ _).bind fun _ => by
  split
  · exact Run.climbs_stop _
  · exact (Run.climbs_need _ _).bind fun _ => (Run.climbs_need _ _).bind fun _ => (Run.climbs_read _ _ _ _).bind fun _ => (Run.climbs_need _ _).bind fun _ =>
      (Run.climbs_need _ _).bind fun _ => (Run.climbs_need _ _).bind fun _ => Run.climbs_pure _

end

/-- What a step's note of a skew leaves alone. -/
def SkewFrame (s t : State) : Prop := WorkKept s t ∧ t.nbuReady = s.nbuReady ∧ t.mem = s.mem

theorem SkewFrame.trans {s t u : State} (h : SkewFrame s t) (k : SkewFrame t u) : SkewFrame s u :=
  ⟨h.1.trans k.1, k.2.1.trans h.2.1, k.2.2.trans h.2.2⟩

theorem SkewFrame.of_cmds {s t : State} (hc : t.cmds = s.cmds) (hn : t.nbuReady = s.nbuReady) (hm : t.mem = s.mem) : SkewFrame s t := ⟨.of_cmds hc, hn, hm⟩

theorem SkewFrame.event (s : State) (code : Nat) (src : Nat × Nat) (k : Option Nat) (data : Nat) : SkewFrame s (s.event code src k data) :=
  .of_cmds (s.event_cmds _ _ _ _) (s.event_nbuReady _ _ _ _) (s.event_mem _ _ _ _)

theorem SkewFrame.setNat (s : State) (a n : Nat) : SkewFrame s (s.setNat a n) := .of_cmds rfl rfl rfl

theorem optSkew_frame (s : State) (c : Cmd) (p : Nat) (t : List Byte) : SkewFrame s (s.optSkew c p t) := by
  unfold State.optSkew
  dsimp only
  split
  · exact .of_cmds rfl rfl rfl
  · refine SkewFrame.trans (t := s.warnCmd c.id Wn.stepSkew) ⟨.updCmd s c.id fun _ => ⟨rfl, rfl, rfl⟩, rfl, rfl⟩ ?_
    refine SkewFrame.trans (t := (s.warnCmd c.id Wn.stepSkew).addCnt Reg.optCntSkew 1) (.of_cmds rfl rfl rfl) ?_
    refine (SkewFrame.event _ 0x0501 (Src.polder p) (some c.ctx) (dataOf [(0, tdLast t), (4, opStep c.desc)])).trans ?_
    split
    · exact .of_cmds rfl rfl rfl
    · exact ((SkewFrame.setNat _ _ _).trans (.setNat _ _ _)).trans (.setNat _ _ _)

theorem spanAll_frame (s : State) (c : Cmd) : SpanFrame s (s.spanAll c) := by
  unfold State.spanAll
  generalize s.partCores (s.polderOf c) 0 = ns
  induction ns generalizing s with
  | nil => exact .of_cmds rfl
  | cons n ns ih => exact (spanStart_frame s n c).trans (ih _)

theorem setGens_frame (ns : List Nat) (s : State) (f : State → Nat → Nat) (id : Nat) :
    SkewFrame s (ns.foldl (fun (s : State) n => s.setGen n id (f s n)) s) := by
  induction ns generalizing s with
  | nil => exact .of_cmds rfl rfl rfl
  | cons n ns ih => exact SkewFrame.trans (t := s.setGen n id (f s n)) (.of_cmds rfl rfl rfl) (ih _)

section
variable {s t : State} {c : Cmd} {td : List Byte} {r : RuleRec}

theorem optStart_nbus (h : Run.optCheck c (s.polderOf c) s = .ok (td, r) t) (hn : (tdBanked td && t.cap 0) = true) :
    s.optStart c = { (t.beginCmd c.id (.opt [] td true [])).optSkew c (s.polderOf c) td with
      nbuReady := ((t.beginCmd c.id (.opt [] td true [])).optSkew c (s.polderOf c) td).nbuReady ++ [c.id] } := by
  unfold State.optStart
  simp only [h, hn]
  rfl

theorem optStart_cores (h : Run.optCheck c (s.polderOf c) s = .ok (td, r) t) (hn : (tdBanked td && t.cap 0) = false) :
    SkewFrame (t.beginCmd c.id (.opt [] td false [])) (s.optStart c) := by
  unfold State.optStart
  simp only [h, hn]
  refine (optSkew_frame _ c (s.polderOf c) td).trans ?_
  generalize (t.beginCmd c.id (.opt [] td false [])).optSkew c (s.polderOf c) td = u
  have hspan := spanAll_frame u c
  refine SkewFrame.trans ⟨hspan.2, (congrArg State.nbuReady hspan.1).trans rfl, hspan.mem⟩ ?_
  exact setGens_frame _ _ (fun w n => w.coreGen n c _) c.id

theorem optStart_fails {e : Fail} (h : Run.optCheck c (s.polderOf c) s = .error e t) : s.optStart c = match e.addr with
    | some a => t.failCmd c.id (e.status, a)
    | none => t.endCmd c.id e.status none := by
  unfold State.optStart
  simp only [h] <;> rfl

end

end Sys2Proof.Machine

namespace Sys2Proof.Proofs
open Sys2Proof.Machine

/-- Settles O29: accesses leave the pages and copies alone, and a step's checks leave its command to begin or to end. -/
theorem copiesAndSteps : Obligations.CopiesAndSteps := by
  unfold Obligations.CopiesAndSteps
  intro s env u
  refine ⟨fun p new c hp h => ⟨fun hb => ?_, fun t hb hrun => ⟨?_, ?_⟩, fun e t hb hrun => ?_⟩, fun p new hp h => ?_, fun id c h => ⟨fun td r t hrun => ⟨fun hbank hcap => ?_, fun hn => ?_⟩,
    fun e t hrun => ?_⟩⟩
  · exact becomes_of (exec_copyOnWriteEnd p new env s) (decide_eq_true hp) (copyOnWriteEnd_waits h hb)
  · exact becomes_of (exec_copyOnWriteEnd p new env s) (decide_eq_true hp) (copyOnWriteEnd_copies h hb hrun)
  · refine completes_of (exec_copyOnWriteEnd p new env s) (decide_eq_true hp) ?_
    rw [copyOnWriteEnd_copies h hb hrun]
    have htouched : Touched _ t := (Run.climbs_copyPage (O := touchedOrder) _ _).ok hrun
    refine ⟨htouched.copies, rfl, (kvp_setKv_same _ _ _).trans ?_⟩
    show (t.kvp p).unlease c.old = _
    rw [State.kvp, htouched.kv]
    rfl
  · exact becomes_of (exec_copyOnWriteEnd p new env s) (decide_eq_true hp) (copyOnWriteEnd_fails h hb hrun)
  · exact becomes_of (exec_copyOnWriteEnd p new env s) (decide_eq_true hp) (by rw [doCopyOnWriteEnd, h])
  all_goals
    have hrow : Becomes (.optStep id env) s (u.optStart c) := becomes_of (exec_optStep id env s) rfl (by rw [doOptStep, h])
    have hmay : MayEnd u id := starts_mayEnd h
    obtain rfl : c.id = id := cmd?_id (starts_iff h).1
    refine hrow.completes ?_
  · have hmay' := (Run.climbs_optCheck _ _).mayEnd_ok hmay hrun
    rw [optStart_nbus hrun (by rw [hbank, hcap]; rfl)]
    obtain ⟨hkept, hready, hmem⟩ := optSkew_frame (t.beginCmd c.id (.opt [] td true [])) c (u.polderOf c) td
    exact ⟨(hmay'.beginCmd _).kept hkept, congrArg (· ++ [c.id]) hready, hmem⟩
  · obtain ⟨hkept, hready, hmem⟩ := optStart_cores hrun hn
    exact ⟨(((Run.climbs_optCheck _ _).mayEnd_ok hmay hrun).beginCmd _).kept hkept, hready, hmem⟩
  · rw [optStart_fails hrun]
    refine ⟨((Run.climbs_optCheck _ _).mayEnd_error hmay hrun).failed e, ?_⟩
    split <;> rfl

end Sys2Proof.Proofs
end

section
/-! PROOF. The runs of the attention commands (R391–R401). -/
namespace Sys2Proof.Machine
section
variable {O : AccessOrder}

/-- A step of a run that is taken only under a condition. -/
theorem Run.climbs_when {α : Type} {c : Prop} [Decidable c] {x : Run Unit} {k : Unit → Run α} (h : Run.Climbs O x) (hk : ∀ u, Run.Climbs O (k u)) :
    Run.Climbs O (if c then x >>= k else k ()) := Run.climbs_ite (h.bind hk) (hk ())

/-! ### Pages read -/

theorem Run.climbs_pageView (rq : Req) (p n : Nat) : Run.Climbs O (Run.pageView rq p n) :=
  (Run.climbs_hdr _ _ _ _ _).bind fun _ => (Run.climbs_hdr _ _ _ _ _).bind fun _ => (Run.climbs_hdr _ _ _ _ _).bind fun _ =>
    (Run.climbs_hdr _ _ _ _ _).bind fun _ => (Run.climbs_hdr _ _ _ _ _).bind fun _ => Run.climbs_pure _

theorem Run.climbs_pageViews (rq : Req) (p : Nat) (ns : List Nat) : Run.Climbs O (Run.pageViews rq p ns) := by
  induction ns with
  | nil => exact Run.climbs_pure _
  | cons n ns ih => exact (Run.climbs_pageView _ _ _).bind fun _ => ih.bind fun _ => Run.climbs_pure _

theorem Run.climbs_pageVec {get' : Nat → Nat → Run (List Byte)} (h : ∀ x n, Run.Climbs O (get' x n)) (p d page fmt slot : Nat) (key : Bool) :
    Run.Climbs O (Run.pageVec get' p d page fmt slot key) := by
  unfold Run.pageVec
  refine (Run.climbs_kvp p).bind fun k => (h _ _).bind fun bs => Run.Climbs.bind ?_ fun sc => Run.climbs_pure _
  exact Run.climbs_ite (h _ _) (Run.climbs_pure _)

theorem Run.climbs_pairs {get' : Nat → Nat → Run (List Byte)} (h : ∀ x n, Run.Climbs O (get' x n)) (p dim : Nat) (pages : List PageView)
    (l : List (Nat × Nat)) : Run.Climbs O (Run.pairs get' p dim pages l) := by
  induction l with
  | nil => exact Run.climbs_pure _
  | cons x xs ih => exact (Run.climbs_pageVec h _ _ _ _ _ _).bind fun _ => (Run.climbs_pageVec h _ _ _ _ _ _).bind fun _ => ih.bind fun _ => Run.climbs_pure _

theorem Run.climbs_attnRows {get' : Nat → Nat → Run (List Byte)} (h : ∀ x n, Run.Climbs O (get' x n)) (ctr : Nat) (arrays : Bool) (c : Cmd) (p dim : Nat)
    (pages : List PageView) (qs : List Byte) (ls : List (List (Nat × Nat))) (i : Nat) :
    Run.Climbs O (Run.attnRows get' ctr arrays c p dim pages qs ls i) := by
  induction ls generalizing i with
  | nil => exact Run.climbs_pure _
  | cons l ls ih => exact (Run.climbs_pairs h _ _ _ _).bind fun _ => (ih _).bind fun _ => Run.climbs_pure _

theorem Run.climbs_digests (rq : Req) (p : Nat) (vs : List PageView) : Run.Climbs O (Run.digests rq p vs) := by
  induction vs with
  | nil => exact Run.climbs_pure _
  | cons v vs ih => exact (Run.climbs_kvp p).bind fun _ => (Run.climbs_pread _ _ _).bind fun _ => ih.bind fun _ => Run.climbs_pure _

theorem Run.climbs_rows32 (rq : Req) (p addr n : Nat) : Run.Climbs O (Run.rows32 rq p addr n) := (Run.climbs_read _ _ _ _).bind fun _ => Run.climbs_pure _

end

section
variable {O : RunOrder}

theorem Run.climbs_attended (rq : Req) (p dim : Nat) (d : Desc) (q : List Byte) (vs : List PageView) :
    Run.Climbs O.toAccessOrder (Run.attended rq p dim d q vs) := by
  unfold Run.attended
  refine Run.climbs_ite ((Run.climbs_digests _ _ _).bind fun digs => Run.Climbs.bind ?_ fun _ => Run.climbs_get_bind fun s => ?_) (Run.climbs_pure _)
  · exact Run.climbs_touch fun _ => ⟨rfl, rfl⟩
  · exact O.same rfl rfl

/-! ### The start -/

theorem Run.climbs_attnStart (rq : Req) (c : Cmd) (p : Nat) : Run.Climbs O.toAccessOrder (Run.attnStart rq c p) := by
  unfold Run.attnStart
  refine (Run.climbs_seq _ _).bind fun q => (Run.climbs_need _ _).bind fun _ => (Run.climbs_pageNeed _ _ _).bind fun _ =>
    (Run.climbs_mayTouch _ _ _ _ _).bind fun _ => ?_
  refine Run.climbs_when (Run.climbs_mayTouch _ _ _ _ _) fun _ => Run.climbs_when (Run.climbs_mayTouch _ _ _ _ _) fun _ =>
    (Run.climbs_table _ _ _ _ _).bind fun t => (Run.climbs_pageViews _ _ _).bind fun vs => Run.Climbs.bind ?_ fun qs =>
      (Run.climbs_attended _ _ _ _ _ _).bind fun plan => ?_
  · exact Run.climbs_ite (Run.climbs_read _ _ _ _) (Run.climbs_pure _)
  · dsimp only
    split
    · exact Run.climbs_throw _
    · refine (Run.climbs_forAll _ _ _).bind fun _ => Run.Climbs.bind ?_ fun _ => Run.climbs_pure _
      exact Run.climbs_touch fun _ => ⟨rfl, rfl⟩

/-! ### Results -/

theorem Run.climbs_usePicks (rows : Nat) : Run.Climbs O.toAccessOrder (Run.usePicks rows) := Run.climbs_touch fun _ => ⟨rfl, rfl⟩

theorem Run.climbs_attnWrite (rq : Nat → Req) (c : Cmd) (p : Nat) (rows : List (Num × Num × List Num)) :
    Run.Climbs O.toAccessOrder (Run.attnWrite rq c p rows) := by
  unfold Run.attnWrite
  refine Run.climbs_get.bind fun s => Run.Climbs.bind ?_ fun _ => ?_
  · exact Run.climbs_touch fun _ => ⟨rfl, rfl⟩
  · refine Run.climbs_when ?_ fun _ => (Run.climbs_write _ _ _ _ _).bind fun _ => Run.climbs_ite (Run.climbs_write _ _ _ _ _) (Run.climbs_pure _)
    exact Run.climbs_modify fun s => O.upd _ _ _ fun _ => ⟨rfl, rfl⟩

theorem Run.climbs_attnCore (rq : Req) (c : Cmd) (p : Nat) (a : AttnStart) : Run.Climbs O.toAccessOrder (Run.attnCore rq c p a) :=
  (Run.climbs_read _ _ _ _).bind fun _ => Run.climbs_get.bind fun _ => (Run.climbs_usePicks _).bind fun _ =>
    (Run.climbs_attnRows (fun _ _ => Run.climbs_pread _ _ _) _ _ _ _ _ _ _ _ _).bind fun _ => Run.climbs_attnWrite _ _ _ _

theorem Run.climbs_attnCombine (rq : Req) (c : Cmd) (p dim : Nat) (leases : List Nat) (nbus : List (Nat × Nat)) :
    Run.Climbs O.toAccessOrder (Run.attnCombine rq c p dim leases nbus) :=
  Run.climbs_get.bind fun _ => (Run.climbs_forIn (fun _ _ => (Run.climbs_pread _ _ _).bind fun _ => Run.climbs_pure _) _ _).bind fun _ =>
    Run.climbs_get.bind fun _ => (Run.climbs_usePicks _).bind fun _ => Run.climbs_attnWrite _ _ _ _

theorem Run.climbs_attnBack (rq : Req) (c : Cmd) (p : Nat) (a : AttnStart) : Run.Climbs O.toAccessOrder (Run.attnBack rq c p a) := by
  unfold Run.attnBack
  refine (Run.climbs_read _ _ _ _).bind fun arg => (Run.climbs_need _ _).bind fun _ => (Run.climbs_mayTouch _ _ _ _ _).bind fun _ =>
    (Run.climbs_mayTouch _ _ _ _ _).bind fun _ => (Run.climbs_mayTouch _ _ _ _ _).bind fun _ => (Run.climbs_read _ _ _ _).bind fun qs =>
      (Run.climbs_read _ _ _ _).bind fun dos => (Run.climbs_read _ _ _ _).bind fun os => (Run.climbs_rows32 _ _ _ _).bind fun stats =>
        (Run.climbs_pairs (fun _ _ => Run.climbs_pread _ _ _) _ _ _ _).bind fun kv => Run.climbs_get.bind fun _ => (Run.climbs_usePicks _).bind fun _ =>
          Run.climbs_get.bind fun _ => Run.Climbs.bind ?_ fun _ => (Run.climbs_write _ _ _ _ _).bind fun _ =>
            (Run.climbs_forIn (fun side b => ?_) _ _).bind fun _ => Run.climbs_pure _
  · exact Run.climbs_touch fun _ => ⟨rfl, rfl⟩
  · refine (Run.climbs_forIn (fun i b => ?_) _ _).bind fun _ => Run.climbs_pure _
    refine Run.climbs_ite ?_ (Run.climbs_ite ?_ (Run.climbs_pure _))
    · refine Run.Climbs.bind (Run.climbs_ite (Run.climbs_rows32 _ _ _ _) (Run.climbs_pure _)) fun old => Run.climbs_get.bind fun s =>
        Run.Climbs.bind ?_ fun _ => (Run.climbs_write _ _ _ _ _).bind fun _ => Run.climbs_pure _
      exact Run.climbs_touch fun _ => ⟨rfl, rfl⟩
    · exact (Run.climbs_write _ _ _ _ _).bind fun _ => Run.climbs_pure _

end
end Sys2Proof.Machine
end

section
/-! PROOF. ATTN_FWD, ATTN_COMBINE and ATTN_BWD (R384, R391–R401). -/
namespace Sys2Proof.Machine

/-! ### The start that fails -/

theorem noteKv_keeps (s : State) (p n : Nat) (e : Fail) : (s.noteKv p n e).cmds = s.cmds ∧ (s.noteKv p n e).mem = s.mem ∧ (s.noteKv p n e).kv = s.kv := by
  unfold State.noteKv State.kvErr
  split
  · split
    · exact ⟨rfl, rfl, rfl⟩
    · exact ⟨rfl, rfl, rfl⟩
  · exact ⟨rfl, rfl, rfl⟩

theorem kvErr_keeps (s : State) (p st reason n : Nat) (page : Option Nat) :
    (s.kvErr p st reason n page).cmds = s.cmds ∧ (s.kvErr p st reason n page).mem = s.mem ∧ (s.kvErr p st reason n page).kv = s.kv := by
  unfold State.kvErr
  split
  · exact ⟨rfl, rfl, rfl⟩
  · exact ⟨rfl, rfl, rfl⟩

theorem attnFail_ends {s : State} {c : Cmd} (h : MayEnd s c.id) (e : Fail) :
    Ends (s.attnFail c e) c.id e.status ∧ (s.attnFail c e).mem = s.mem ∧ (s.attnFail c e).kv = s.kv := by
  have hnoted : ∀ t : State, t.cmds = s.cmds ∧ t.mem = s.mem ∧ t.kv = s.kv →
      Ends (match e.addr with
        | some a => t.failCmd c.id (e.status, a)
        | none => t.endCmd c.id e.status none) c.id e.status ∧
      State.mem (match e.addr with
        | some a => t.failCmd c.id (e.status, a)
        | none => t.endCmd c.id e.status none) = s.mem ∧
      State.kv (match e.addr with
        | some a => t.failCmd c.id (e.status, a)
        | none => t.endCmd c.id e.status none) = s.kv := by
    rintro t ⟨hcmds, hmem, hkv⟩
    refine ⟨(h.of_cmds hcmds).failed e, ?_⟩
    split
    · exact ⟨hmem, hkv⟩
    · exact ⟨hmem, hkv⟩
  refine hnoted (if e.status = St.keyFormat then (s.addCnt Reg.kvpCntKeyFormat 1).kvErr (s.polderOf c) e.status 0 (atSeq c.desc) e.page
    else s.noteKv (s.polderOf c) (atSeq c.desc) e) ?_
  split
  · exact kvErr_keeps (s.addCnt Reg.kvpCntKeyFormat 1) _ _ _ _ _
  · exact noteKv_keeps _ _ _ _

/-! ### The start that runs -/

/-- The work of an attention command. -/
def attnWork (a : AttnStart) : Work := .attn a.q.headDim (a.pages.map (fun v => v.page)) a.plan []

/-- An attention command as the cores begin it. -/
def attnBegun (t : State) (c : Cmd) (a : AttnStart) : State := ((t.beginCmd c.id (attnWork a)).spanAll c).countVec c

theorem countVec_cmds (s : State) (c : Cmd) : (s.countVec c).cmds = s.cmds :=
  foldl_keeps State.cmds (f := fun (s : State) n => (s.addCnt (Reg.coreCntVec n) (Config.freeNat s.freeCtr)).fresh) (fun _ _ => rfl) _ _

theorem attnBegun_mayEnd {t : State} {c : Cmd} (h : MayEnd t c.id) (a : AttnStart) : MayEnd (attnBegun t c a) c.id :=
  (((h.beginCmd (attnWork a)).kept (spanAll_frame _ c).2).mayEnd).of_cmds (countVec_cmds _ c)

/-- The run on the cores. -/
def attnRun (op : Nat) (rq : Req) (c : Cmd) (p : Nat) (a : AttnStart) : Run Unit := if op = 0x11 then Run.attnBack rq c p a else Run.attnCore rq c p a

theorem attnRun_eq (op : Nat) (rq : Req) (c : Cmd) (p : Nat) (a : AttnStart) (s : State) :
    attnRun op rq c p a s = if op = 0x11 then Run.attnBack rq c p a s else Run.attnCore rq c p a s := by
  unfold attnRun
  split <;> rfl

theorem climbs_attnRun (op : Nat) (rq : Req) (c : Cmd) (p : Nat) (a : AttnStart) : Run.Climbs endsOrder.toAccessOrder (attnRun op rq c p a) :=
  Run.climbs_ite (Run.climbs_attnBack _ _ _ _) (Run.climbs_attnCore _ _ _ _)

/-- Whether an attention command runs on the cores. -/
def attnCores (u : State) (op : Nat) (c : Cmd) : Bool := decide (op = 0x11) || !u.nbuPath c.desc

/-- An attention command that has been launched: ATTN_FWD and ATTN_BWD. -/
def attnLaunched (u : State) (op : Nat) (c : Cmd) : State := if op = 0x11 then u.attnBackward c else u.attnForward c

section
variable {u t : State} {op : Nat} {c : Cmd} {a : AttnStart} {e : Fail}

theorem attnLaunched_fails (h : Run.attnStart (u.attnReq c (attnCores u op c)) c (u.polderOf c) u = .error e t) : attnLaunched u op c = t.attnFail c e := by
  unfold attnLaunched attnCores at *
  split
  next hop =>
    subst hop
    unfold State.attnBackward
    simp only [decide_true, Bool.true_or] at h
    simp only [h]
  next hop =>
    unfold State.attnForward
    simp only [decide_eq_false hop, Bool.false_or] at h
    simp only [h]

theorem attnLaunched_waits (h : Run.attnStart (u.attnReq c (attnCores u op c)) c (u.polderOf c) u = .ok a t)
    (hw : (t.attnWaits (u.polderOf c) a || (attnCores u op c && !u.partWarm c)) = true) : attnLaunched u op c = u := by
  unfold attnLaunched attnCores at *
  split
  next hop =>
    subst hop
    unfold State.attnBackward
    simp only [decide_true, Bool.true_or, Bool.true_and] at h hw
    simp only [h, hw, if_true]
  next hop =>
    unfold State.attnForward
    simp only [decide_eq_false hop, Bool.false_or] at h hw
    simp only [h, hw, if_true]

theorem attnLaunched_readies (h : Run.attnStart (u.attnReq c (attnCores u op c)) c (u.polderOf c) u = .ok a t)
    (hw : t.attnWaits (u.polderOf c) a = false) (hc : attnCores u op c = false) :
    attnLaunched u op c = { t.beginCmd c.id (attnWork a) with nbuReady := t.nbuReady ++ [c.id] } := by
  unfold attnLaunched attnCores at *
  obtain ⟨hop, hnbu⟩ := Bool.or_eq_false_iff.mp hc
  rw [if_neg (of_decide_eq_false hop)]
  rw [hc] at h
  unfold State.attnForward
  simp only [Bool.not_eq_false'] at hnbu
  simp only [hnbu, Bool.not_true, h, hw, Bool.false_and, Bool.or_self, Bool.false_eq_true, if_false, if_true]
  rfl

theorem attnLaunched_runs (h : Run.attnStart (u.attnReq c (attnCores u op c)) c (u.polderOf c) u = .ok a t)
    (hw : t.attnWaits (u.polderOf c) a = false) (hc : attnCores u op c = true) (hwarm : u.partWarm c = true) :
    attnLaunched u op c = ((attnBegun t c a).runEnd c.id (attnRun op (u.attnReq c (attnCores u op c)) c (u.polderOf c) a)).spanEnd c.id := by
  unfold attnLaunched attnRun
  rw [hc] at h ⊢
  split
  next hop =>
    unfold State.attnBackward
    simp only [h, hw, hwarm, Bool.not_true, Bool.or_self, Bool.false_eq_true, if_false]
    rfl
  next hop =>
    unfold attnCores at hc
    simp only [decide_eq_false hop, Bool.false_or, Bool.not_eq_true'] at hc
    unfold State.attnForward
    simp only [hc, Bool.not_false, h, hw, hwarm, Bool.not_true, Bool.true_and, Bool.or_self, Bool.false_eq_true, if_false]
    rfl

end

theorem attnRow_becomes {s : State} {id op : Nat} {env : Env} {c : Cmd} {i : Instr}
    (hi : (i = Instr.attnFwd id env ∧ op = 0x10) ∨ (i = Instr.attnBwd id env ∧ op = 0x11)) (h : s.starts id op = some c) (hd : s.meetsDike c = false) :
    Becomes i s (attnLaunched (s.arrive env) op c) := by
  rcases hi with ⟨rfl, rfl⟩ | ⟨rfl, rfl⟩
  · exact becomes_of (exec_attnFwd id env s) rfl (by rw [doAttnFwd, h]; simp only [State.launch, hd]; rfl)
  · exact becomes_of (exec_attnBwd id env s) rfl (by rw [doAttnBwd, h]; simp only [State.launch, hd]; rfl)

/-- A run to the end of its command, and of the spans of its cores. -/
theorem runEnd_spanEnd {s v : State} {r : Run Unit} {id : Nat} (hv : MayEnd v id) :
    (r s = .ok () v → Ends ((s.runEnd id r).spanEnd id) id St.ok ∧ ((s.runEnd id r).spanEnd id).mem = v.mem ∧
      ((s.runEnd id r).spanEnd id).host = v.host ∧ ((s.runEnd id r).spanEnd id).kv = v.kv) ∧
    (∀ e, r s = .error e v → Ends ((s.runEnd id r).spanEnd id) id e.status ∧ ((s.runEnd id r).spanEnd id).mem = v.mem) := by
  have hseam := spanEnd_frame (s.runEnd id r) id
  refine ⟨fun h => ?_, fun e h => ?_⟩
  · rw [runEnd_ok h] at hseam ⊢
    exact ⟨(hv.endCmd St.ok none).kept hseam.spanFrame.2, hseam.mem, hseam.host, (congrArg State.kv hseam).trans rfl⟩
  · rw [runEnd_error h] at hseam ⊢
    refine ⟨(hv.failed e).kept hseam.spanFrame.2, hseam.mem.trans ?_⟩
    split <;> rfl

/-! ### ATTN_COMBINE -/

section
variable {s : State} {id dim : Nat} {env : Env} {c : Cmd} {leases : List Nat} {plan : List (List (Nat × Nat))}

theorem doAttnCombine_combines (hc : s.cmd? id = some c) (hop : c.op = 0x10) (hw : c.work = .attn dim leases plan []) (hph : c.phase = .running)
    (hr : s.nbuReady.contains c.id = false) : doAttnCombine id env s = (s.arrive env).runEnd c.id
      (Run.attnCombine (reqBd c) c ((s.arrive env).polderOf c) dim leases ((s.arrive env).attnNbus ((s.arrive env).polderOf c) leases)) := by
  have hready : (s.arrive env).nbuReady.contains c.id = false := hr
  simp only [doAttnCombine, hc, hop, if_true, State.combine, hw, hph, decide_true, hready, Bool.not_false, Bool.and_self]

theorem doAttnCombine_waits {left : List (Nat × Nat)} (hc : s.cmd? id = some c) (hop : c.op = 0x10) (hw : c.work = .attn dim leases plan left)
    (h : left ≠ [] ∨ c.phase ≠ .running ∨ s.nbuReady.contains c.id = true) : doAttnCombine id env s = s.arrive env := by
  have hready : (s.arrive env).nbuReady = s.nbuReady := rfl
  simp only [doAttnCombine, hc, hop, if_true, State.combine, hw, hready]
  split
  next heq =>
    obtain ⟨rfl, rfl, rfl, rfl⟩ := Work.attn.inj heq
    refine if_neg fun hgo => ?_
    simp only [Bool.and_eq_true, decide_eq_true_eq, Bool.not_eq_true'] at hgo
    rcases h with h | h | h
    · exact h rfl
    · exact h hgo.1
    · rw [h] at hgo
      cases hgo.2
  next => rfl

end

end Sys2Proof.Machine

namespace Sys2Proof.Proofs
open Sys2Proof.Machine

/-- Settles O26: the start, the attention on the cores and the combiner leave their command to begin or to end. -/
theorem attentionCommands : Obligations.AttentionCommands := by
  unfold Obligations.AttentionCommands
  intro s id env c u p
  refine ⟨fun i op hi h hd => ?_, fun dim leases plan hc hop hw hph hr => ?_, fun dim leases plan left hc hop hw h => ?_⟩
  · have hrow : Becomes i s (attnLaunched u op c) := attnRow_becomes hi h hd
    have hmay : MayEnd u id := starts_mayEnd h
    obtain rfl : c.id = id := cmd?_id (starts_iff h).1
    intro cores
    refine ⟨fun e t hrun => ?_, fun a t hrun => ?_⟩
    · refine hrow.completes ?_
      rw [attnLaunched_fails hrun]
      exact attnFail_ends ((Run.climbs_attnStart _ _ _).mayEnd_error hmay hrun) e
    · intro w r run
      refine ⟨fun hwaits => ?_, fun hwaits hcores => ?_, fun hwaits hcores hwarm => ?_⟩
      · have hsame := attnLaunched_waits hrun hwaits
        rw [hsame] at hrow
        exact hrow
      · refine hrow.completes ?_
        rw [attnLaunched_readies hrun hwaits hcores]
        exact ⟨((Run.climbs_attnStart _ _ _).mayEnd_ok hmay hrun).beginCmd _, rfl, rfl, rfl⟩
      · have hbegun := attnBegun_mayEnd ((Run.climbs_attnStart _ _ _).mayEnd_ok hmay hrun) a
        refine ⟨fun v hv => hrow.completes ?_, fun e v hv => hrow.completes ?_⟩
        all_goals
          unfold run at hv
          rw [← attnRun_eq] at hv
        · rw [attnLaunched_runs hrun hwaits hcores hwarm]
          exact (runEnd_spanEnd ((climbs_attnRun op _ c p a).mayEnd_ok hbegun hv)).1 hv
        · rw [attnLaunched_runs hrun hwaits hcores hwarm]
          exact (runEnd_spanEnd ((climbs_attnRun op _ c p a).mayEnd_error hbegun hv)).2 e hv
  · obtain rfl : c.id = id := cmd?_id hc
    have hrow := becomes_of (exec_attnCombine c.id env s) rfl (doAttnCombine_combines hc hop hw hph hr)
    have hmay : MayEnd u c.id := ⟨c, hc, Cmd.not_stopping_of_running hph⟩
    refine ⟨fun t ht => ?_, fun e t ht => hrow.completes ?_⟩
    · have hends := ((Run.climbs_attnCombine _ _ _ _ _ _).mayEnd_ok hmay ht).endCmd St.ok none
      rw [runEnd_ok ht] at hrow
      exact ⟨hrow, hrow.completes ⟨hends, rfl, rfl⟩⟩
    · have hends := ((Run.climbs_attnCombine _ _ _ _ _ _).mayEnd_error hmay ht).failed e
      rw [runEnd_error ht]
      refine ⟨hends, ?_⟩
      split <;> rfl
  · exact becomes_of (exec_attnCombine id env s) rfl (doAttnCombine_waits hc hop hw h)

end Sys2Proof.Proofs
end

section
/-! PROOF. The runs of a transfer (R265–R267, R457). -/
namespace Sys2Proof.Machine
section
variable {O : RunOrder}

theorem Run.climbs_dmaRead (c : Cmd) (p : Nat) (x : Nat × Nat × Nat) : Run.Climbs O.toAccessOrder (Run.dmaRead c p x) := Run.climbs_read _ _ _ _

theorem Run.climbs_dmaPut (c : Cmd) (p : Nat) (x : Nat × Nat × Nat) (bs : List Byte) : Run.Climbs O.toAccessOrder (Run.dmaPut c p x bs) :=
  (Run.climbs_write _ _ _ _ _).bind fun _ => Run.climbs_touch fun _ => ⟨rfl, rfl⟩

theorem Run.climbs_dmaLocal (c : Cmd) (p : Nat) : Run.Climbs O.toAccessOrder (Run.dmaLocal c p) := by
  unfold Run.dmaLocal
  refine Run.climbs_get.bind fun s => Run.climbs_ite ?_ ?_
  · refine (Run.climbs_mapM (fun x => Run.climbs_dmaRead c p x) _).bind fun data => Run.climbs_get.bind fun s => Run.Climbs.bind ?_ fun _ =>
      (Run.climbs_forIn (fun x b => (Run.climbs_dmaPut _ _ _ _).bind fun _ => Run.climbs_pure _) _ _).bind fun _ => Run.climbs_pure _
    exact Run.climbs_touch fun _ => ⟨rfl, rfl⟩
  · exact (Run.climbs_forIn (fun x b => (Run.climbs_dmaRead _ _ _).bind fun _ => (Run.climbs_dmaPut _ _ _ _).bind fun _ => Run.climbs_pure _) _ _).bind
      fun _ => Run.climbs_pure _

theorem Run.climbs_dmaTree (c : Cmd) (p : Nat) (t : TreeRec) : Run.Climbs O.toAccessOrder (Run.dmaTree c p t) := by
  unfold Run.dmaTree
  refine (Run.climbs_read _ _ _ _).bind fun bs => (Run.climbs_forIn (fun n bad => Run.climbs_get_bind fun s => ?_) _ _).bind fun bad => ?_
  · dsimp only
    cases heq : Run.write (fun col => if t.bdRoot then reqBdDma c else reqDma c t.source col) c.id p (2 * 2 ^ 40 + n * 2 ^ 32 + addrOff (c.addr 0x18)) bs s with
    | ok u v =>
      refine O.trans ((Run.climbs_write _ _ _ _ _).ok heq) ?_
      dsimp only
      show O.rel v (if t.bdRoot then v else v.addCnt (Reg.coreCntDma t.source) (dmaLen c.desc))
      split
      · exact O.refl v
      · exact O.same rfl rfl
    | error e v =>
      refine O.trans ((Run.climbs_write _ _ _ _ _).error heq) ?_
      dsimp only
      split
      · exact O.refl v
      · exact O.refl v
  · dsimp only
    split
    · exact Run.climbs_throw _
    · exact Run.climbs_pure _

theorem sendWrites_sent (s : State) (c : Cmd) (base : Nat) (data : List Byte) (final : Bool) : Sent s (s.sendWrites c base data final) := by
  unfold State.sendWrites
  dsimp only
  refine Sent.trans (t := { s with fab := { s.fab with msg := (s.fab.msg + 1) % 2 ^ 32 } }) rfl ?_
  exact Sent.foldl _ (fun s x => (sendSeq_sends s _ _ _ _ _ _ _).1.1) _ _

theorem Run.climbs_dmaOut (c : Cmd) (p : Nat) : Run.Climbs O.toAccessOrder (Run.dmaOut c p) := by
  unfold Run.dmaOut
  refine (Run.climbs_forIn (fun x b => Run.climbs_get.bind fun s => (Run.climbs_read _ _ _ _).bind fun bs => Run.Climbs.bind ?_ fun _ => Run.climbs_pure _) _ _).bind
    fun _ => Run.climbs_pure _
  refine Run.climbs_touch fun u => ?_
  have hsent := sendWrites_sent u c x.1.1 bs (decide (x.2 + 1 = (dmaSegs (dmaLen c.desc)).length))
  exact ⟨(congrArg State.cmds hsent).trans rfl, (congrArg State.cores hsent).trans rfl⟩

end
end Sys2Proof.Machine
end

section
/-! PROOF. DMA, FENCE and the counters (R265–R272, R286, R457). -/
namespace Sys2Proof.Machine

/-! ### A transfer inside the module -/

theorem MayEnd.spanStart {s : State} {id : Nat} (h : MayEnd s id) (n : Nat) (c : Cmd) : MayEnd (s.spanStart n c) id := h.workKept (spanStart_frame s n c).2

theorem dmaSpans_frame (s : State) (c : Cmd) : SpanFrame s (s.dmaSpans c) := by
  unfold State.dmaSpans
  generalize ((s.dmaShares c).map (fun x => x.1)).eraseDups = ns
  induction ns generalizing s with
  | nil => exact .of_cmds rfl
  | cons n ns ih => exact (spanStart_frame s n c).trans (ih _)

/-- What is left of a transfer whose run has stopped, or ended. -/
def dmaEnded (c : Cmd) : EStateM.Result Fail State Unit → State
  | .ok _ s => (s.dmaEnd c).spanEnd c.id
  | .error e s => (match e.addr with
    | some a => s.failCmd c.id (e.status, a)
    | none => s.endCmd c.id e.status none).spanEnd c.id

section
variable {s t : State} {c : Cmd} {tr : TreeRec}

theorem dmaRun_local (hd : addrSpace (c.addr 0x18) ≠ 0x20) (hs : addrSpace (c.addr 0x10) ≠ 0x20) (ht : dmaTree c.desc = 0xFFFF) :
    s.dmaRun c = dmaEnded c (Run.dmaLocal c (s.polderOf c) ((s.beginCmd c.id .none).dmaSpans c)) := by
  unfold State.dmaRun
  simp only [if_neg hd, if_neg hs, if_pos ht]
  rfl

theorem dmaRun_tree (hd : addrSpace (c.addr 0x18) ≠ 0x20) (hs : addrSpace (c.addr 0x10) ≠ 0x20) (ht : dmaTree c.desc ≠ 0xFFFF)
    (h : s.tree? (dmaTree c.desc) = some tr) : s.dmaRun c = dmaEnded c (Run.dmaTree c (s.polderOf c) tr
      (if tr.bdRoot then s.beginCmd c.id .none else (s.beginCmd c.id .none).spanStart tr.source c)) := by
  unfold State.dmaRun
  have htree : (s.beginCmd c.id .none).tree? (dmaTree c.desc) = some tr := h
  simp only [if_neg hd, if_neg hs, if_neg ht, htree]
  rfl

theorem dmaRun_in (hd : addrSpace (c.addr 0x18) ≠ 0x20) (hs : addrSpace (c.addr 0x10) = 0x20) :
    s.dmaRun c = ((s.beginCmd c.id (.fabric [])).dmaSpans c).dmaIn c := by
  unfold State.dmaRun
  simp only [if_neg hd, if_pos hs]

theorem dmaRun_out (hd : addrSpace (c.addr 0x18) = 0x20) (h : Run.dmaOut c (s.polderOf c) ((s.beginCmd c.id (.fabric [])).dmaSpans c) = .ok () t) :
    s.dmaRun c = t := by
  unfold State.dmaRun
  simp only [if_pos hd, h]

theorem dmaRun_out_fails {e : Fail} (hd : addrSpace (c.addr 0x18) = 0x20)
    (h : Run.dmaOut c (s.polderOf c) ((s.beginCmd c.id (.fabric [])).dmaSpans c) = .error e t) :
    s.dmaRun c = (t.failCmd c.id (e.status, e.addr.getD 0)).spanEnd c.id := by
  unfold State.dmaRun
  simp only [if_pos hd, h]

/-- A transfer without a signal whose run met no failure. -/
theorem dmaEnded_ok (h : MayEnd t c.id) (hs : dmaSignal c.desc = false) : let x := dmaEnded c (.ok () t)
    Ends x c.id St.ok ∧ x.mem = t.mem ∧ x.host = t.host ∧ x.kv = t.kv := by
  have hend : t.dmaEnd c = t.endCmd c.id St.ok none := by rw [State.dmaEnd, hs]; rfl
  have hseam := spanEnd_frame (t.endCmd c.id St.ok none) c.id
  simp only [dmaEnded, hend]
  exact ⟨(h.endCmd _ _).kept hseam.spanFrame.2, hseam.mem, hseam.host, (congrArg State.kv hseam).trans rfl⟩

theorem dmaEnded_error (h : MayEnd t c.id) (e : Fail) : Ends (dmaEnded c (.error e t)) c.id e.status ∧ (dmaEnded c (.error e t)).mem = t.mem := by
  have hseam := spanEnd_frame (match e.addr with
    | some a => t.failCmd c.id (e.status, a)
    | none => t.endCmd c.id e.status none) c.id
  refine ⟨(h.failed e).kept hseam.spanFrame.2, hseam.mem.trans ?_⟩
  split <;> rfl

end

/-! ### A transfer from a peer -/

/-- The request for a segment is sent, the `n` segments being those of the transfer. -/
def dmaAsked (c : Cmd) (n : Nat) (s : State) (x : (Nat × Nat) × Nat) : State :=
  let u := { s with fab := { s.fab with msg := (s.fab.msg + 1) % 2 ^ 32 } }
  u.sendSeq (addrDevice (c.addr 0x10)) 0x02 (if decide (x.2 + 1 = n) && dmaSignal c.desc then 5 else 1) u.fab.msg
    (beBytes 2 (dmaEp c.desc) ++ [0, 0] ++ beBytes 4 (addrPeerOff (c.addr 0x10) + x.1.1) ++ beBytes 4 x.1.2) [] (some c.id)

theorem dmaAsked_sent (c : Cmd) (n : Nat) (s : State) (x : (Nat × Nat) × Nat) : Sent s (dmaAsked c n s x) :=
  Sent.trans (t := { s with fab := { s.fab with msg := (s.fab.msg + 1) % 2 ^ 32 } }) rfl (sendSeq_sends _ _ _ _ _ _ _ _).1.1

/-- What a request adds to those that its command waits for. -/
def dmaWant (c : Cmd) (s : State) (x : Nat × Nat) : Nat × Nat × Nat :=
  (2 ^ 32 * addrDevice (c.addr 0x10) + (s.flow (addrDevice (c.addr 0x10))).next, x.1, x.2)

/-- A request for a segment. -/
def dmaAsk (c : Cmd) (n : Nat) (s : State) (x : (Nat × Nat) × Nat) : State := (dmaAsked c n s x).updCmd c.id (fun k => match k.work with
  | .fabric w => { k with work := .fabric (w ++ [dmaWant c s x.1]) }
  | _ => k)

theorem dmaIn_eq (s : State) (c : Cmd) : s.dmaIn c = (dmaSegs (dmaLen c.desc)).zipIdx.foldl (dmaAsk c (dmaSegs (dmaLen c.desc)).length) s := rfl

/-- A request leaves the memories alone, and joins those that its command waits for. -/
theorem dmaAsk_works {s : State} {c : Cmd} {w : List (Nat × Nat × Nat)} (h : Works s c.id (.fabric w)) (n : Nat) (x : (Nat × Nat) × Nat) :
    (dmaAsk c n s x).mem = s.mem ∧ (dmaAsk c n s x).host = s.host ∧ Works (dmaAsk c n s x) c.id (.fabric (w ++ [dmaWant c s x.1])) := by
  have hsent := dmaAsked_sent c n s x
  obtain ⟨k, hk, hph, hw⟩ := h
  refine ⟨(congrArg State.mem hsent).trans rfl, (congrArg State.host hsent).trans rfl, ?_⟩
  have hasked : (dmaAsked c n s x).cmd? c.id = some k := (cmd?_of_cmds ((congrArg State.cmds hsent).trans rfl) _).trans hk
  refine ⟨_, cmd?_updCmd_same hasked (fun j => by split <;> rfl), ?_, ?_⟩
  · rw [hw]
    exact hph
  · rw [hw]

theorem dmaAsks_work (c : Cmd) (n : Nat) (l : List ((Nat × Nat) × Nat)) {s : State} {w : List (Nat × Nat × Nat)} (h : Works s c.id (.fabric w)) :
    (l.foldl (dmaAsk c n) s).mem = s.mem ∧ (l.foldl (dmaAsk c n) s).host = s.host ∧
      ∃ v, Works (l.foldl (dmaAsk c n) s) c.id (.fabric v) ∧ v.map (fun r => (r.2.1, r.2.2)) = w.map (fun r => (r.2.1, r.2.2)) ++ l.map (fun x => x.1) := by
  induction l generalizing s w with
  | nil => exact ⟨rfl, rfl, w, h, (List.append_nil _).symm⟩
  | cons x l ih =>
    obtain ⟨hmem, hhost, hworks⟩ := dmaAsk_works h n x
    obtain ⟨hmem', hhost', v, hv, hmap⟩ := ih hworks
    refine ⟨hmem'.trans hmem, hhost'.trans hhost, v, hv, ?_⟩
    rw [hmap, List.map_append, List.append_assoc]
    rfl

/-! ### Counters -/

theorem MayEnd.endOther {s : State} {id : Nat} (h : MayEnd s id) (j st : Nat) (a : Option Nat) : MayEnd (s.endCmd j st a) id := by
  obtain ⟨c, hc, hph⟩ := h
  refine ⟨_, (cmd?_updCmd s j id (fun k => by split <;> rfl)).trans (by rw [hc]; rfl), fun st' since => ?_⟩
  dsimp only
  split
  · split
    next heq => exact absurd heq (hph _ _)
    next => exact nofun
  · exact hph st' since

/-- What waiting commands that end leave: the rest of the state, and a command that may end. -/
theorem wake_keeps (s : State) (key : Nat × Nat × Nat) (v : Nat) :
    (s.wake key v).mem = s.mem ∧ (s.wake key v).regs = s.regs ∧ ∀ id, MayEnd s id → MayEnd (s.wake key v) id := by
  unfold State.wake
  generalize (s.cmds.filter (fun c => decide (c.phase = .running) && decide (c.work = .wait) &&
    decide (ctrKey (s.polderOf c) (ctrRef c.desc 0x10) = key) && waitHolds v (ctrValue c.desc))).map (fun c => c.id) = ids
  induction ids generalizing s with
  | nil => exact ⟨rfl, rfl, fun _ h => h⟩
  | cons i ids ih =>
    obtain ⟨hmem, hregs, hmay⟩ := ih (s.endCmd i St.ok none)
    exact ⟨hmem, hregs, fun id h => hmay id (h.endOther i _ _)⟩

section
variable {s t : State} {p : Nat} {ref : CtrRef}

theorem ctrGet_keeps (s : State) (p : Nat) (ref : CtrRef) : (s.ctrGet p ref).2.mem = s.mem ∧ (s.ctrGet p ref).2.cmds = s.cmds := by
  unfold State.ctrGet
  split
  · exact ⟨rfl, rfl⟩
  · split
    · exact ⟨rfl, rfl⟩
    · split
      · exact ⟨rfl, rfl⟩
      · exact ⟨rfl, rfl⟩

theorem ctrSet_cmds (s : State) (p : Nat) (ref : CtrRef) (v : Nat) : (s.ctrSet p ref v).cmds = s.cmds := by
  unfold State.ctrSet
  split
  · rfl
  · split
    · rfl
    · split <;> rfl

theorem ctrAdd_fenced (h : s.ctrFenced ref p = true) (v : Nat) : s.ctrAdd p ref v = (St.fenced, s) := if_pos h

theorem ctrAdd_reads {x : Nat} (h : s.ctrFenced ref p = false) (hg : s.ctrGet p ref = (some x, t)) (v : Nat) :
    s.ctrAdd p ref v = (St.ok, (t.ctrSet p ref ((x + v) % 2 ^ 32)).wake (ctrKey p ref) ((x + v) % 2 ^ 32)) := by
  unfold State.ctrAdd
  rw [if_neg (by rw [h]; exact Bool.false_ne_true), hg]

theorem ctrAdd_unread (h : s.ctrFenced ref p = false) (hg : s.ctrGet p ref = (none, t)) (v : Nat) : s.ctrAdd p ref v = (St.uncorrectable, t) := by
  unfold State.ctrAdd
  rw [if_neg (by rw [h]; exact Bool.false_ne_true), hg]

theorem ctrEnd_correctable (s : State) (id p : Nat) (ref : CtrRef) {st : Nat} (h : st ≠ St.uncorrectable) : s.ctrEnd id p ref st = s.endCmd id st none :=
  if_neg h

theorem ctrEnd_uncorrectable (s : State) (id p : Nat) (ref : CtrRef) :
    s.ctrEnd id p ref St.uncorrectable = s.failCmd id (St.uncorrectable, s.ctrAddr p ref) := if_pos rfl

theorem nat_addMod (s : State) (a v : Nat) : (s.setNat a (v % 2 ^ 32)).nat a = v % 2 ^ 32 := by
  rw [State.nat_setNat_same, Nat.mod_mod]

/-- A counter of a core, and of a cluster, holds what was written. -/
theorem ctrSet_core (h : ref.scope = 0) (v : Nat) : s.ctrSet p ref v = s.setNat (Reg.coreCounter ref.unit ref.index) v := if_pos h

theorem ctrSet_cluster (h : ref.scope = 1) (v : Nat) : s.ctrSet p ref v = s.setNat (Reg.coreClusterCounter ref.unit ref.index) v := by
  unfold State.ctrSet
  rw [if_neg (by omega), if_pos h]

theorem ctrGet_core (h : ref.scope = 0) : s.ctrGet p ref = (some (s.nat (Reg.coreCounter ref.unit ref.index)), s) := if_pos h

theorem ctrGet_cluster (h : ref.scope = 1) : s.ctrGet p ref = (some (s.nat (Reg.coreClusterCounter ref.unit ref.index)), s) := by
  unfold State.ctrGet
  rw [if_neg (by omega), if_pos h]

end

theorem counterStarts_starts {s : State} {id op : Nat} {c : Cmd} (h : s.counterStarts id op = some c) : s.starts id 0x61 = some c := by
  unfold State.counterStarts at h
  split at h
  next d hd =>
    obtain ⟨-, rfl⟩ := Option.ite_none_right_eq_some.mp h |>.imp_right Option.some.inj
    exact hd
  next => cases h

/-- A WAIT_GE as it opens. -/
def waitOpened (s : State) (id : Nat) (ref : CtrRef) : State := if ref.scope = 0 then (s.beginCmd id .wait).waitOpens ref.unit else s.beginCmd id .wait

theorem waitOpened_keeps (s : State) (id : Nat) (ref : CtrRef) : (waitOpened s id ref).mem = s.mem ∧ (waitOpened s id ref).regs = s.regs ∧
    (waitOpened s id ref).cmds = (s.beginCmd id .wait).cmds := by
  unfold waitOpened State.waitOpens
  split
  · split
    · exact ⟨rfl, rfl, rfl⟩
    · exact ⟨rfl, rfl, rfl⟩
  · exact ⟨rfl, rfl, rfl⟩

/-! ### The rows -/

section
variable {s : State} {id : Nat} {env : Env} {c : Cmd}

/-- A command that meets a raised dike. -/
def refused (s : State) (c : Cmd) : State := (s.endCmd c.id St.fenced none).addCnt Reg.dikeCntFenced 1

theorem launch_refused (h : s.meetsDike c = true) (f : Cmd → State) : s.launch c f = refused s c := if_pos h

theorem launch_runs (h : s.meetsDike c = false) (f : Cmd → State) : s.launch c f = f c := if_neg (by rw [h]; exact Bool.false_ne_true)

theorem dma_becomes (h : s.starts id 0x50 = some c) (hd : s.meetsDike c = false) : Becomes (.dma id env) s ((s.arrive env).dmaRun c) :=
  becomes_of (exec_dma id env s) rfl (by rw [doDma, h]; exact launch_runs hd _)

theorem fence_ends (h : s.starts id 0x60 = some c) (hp : dbyte c.desc 0x10 = 2 → s.peerWrites c.ctx = 0) :
    Becomes (.fence id) s ((s.beginCmd id .none).endCmd id St.ok none) := by
  refine becomes_of (exec_fence id s) rfl ?_
  rw [doFence, h]
  refine if_neg fun hwait => ?_
  simp only [Bool.and_eq_true, decide_eq_true_eq] at hwait
  exact absurd (hp hwait.1) (Nat.ne_of_gt hwait.2)

theorem fence_waits (h : s.starts id 0x60 = some c) (hp : dbyte c.desc 0x10 = 2) (hw : 0 < s.peerWrites c.ctx) : Becomes (.fence id) s s := by
  refine becomes_of (exec_fence id s) rfl ?_
  rw [doFence, h]
  exact if_pos (by rw [decide_eq_true hp, decide_eq_true hw]; rfl)

/-- What a COUNTER_OP adds, and how it ends. -/
theorem counterAdd_becomes (h : s.counterStarts id 0 = some c) {st : Nat} {t : State}
    (hadd : (s.beginCmd id .none).ctrAdd (s.polderOf c) (ctrRef c.desc 0x10) (ctrValue c.desc) = (st, t)) :
    Becomes (.counterAdd id) s (t.ctrEnd id (s.polderOf c) (ctrRef c.desc 0x10) st) :=
  becomes_of (exec_counterAdd id s) rfl (by rw [doCounterAdd, h]; dsimp only; rw [hadd])

theorem counterWait_fenced (h : s.counterStarts id 1 = some c) (hf : (waitOpened s id (ctrRef c.desc 0x10)).ctrFenced (ctrRef c.desc 0x10) (s.polderOf c) = true) :
    Becomes (.counterWaitGe id) s ((waitOpened s id (ctrRef c.desc 0x10)).endCmd id St.fenced none) :=
  becomes_of (exec_counterWaitGe id s) rfl (by rw [doCounterWaitGe, h]; exact if_pos hf)

theorem counterWait_unread (h : s.counterStarts id 1 = some c) (hf : (waitOpened s id (ctrRef c.desc 0x10)).ctrFenced (ctrRef c.desc 0x10) (s.polderOf c) = false)
    {t : State} (hg : (waitOpened s id (ctrRef c.desc 0x10)).ctrGet (s.polderOf c) (ctrRef c.desc 0x10) = (none, t)) :
    Becomes (.counterWaitGe id) s (t.ctrEnd id (s.polderOf c) (ctrRef c.desc 0x10) St.uncorrectable) := by
  refine becomes_of (exec_counterWaitGe id s) rfl ?_
  rw [doCounterWaitGe, h]
  refine (if_neg (by rw [Bool.not_eq_true]; exact hf)).trans ?_
  unfold waitOpened at hg
  rw [hg]

theorem counterWait_reads (h : s.counterStarts id 1 = some c) (hf : (waitOpened s id (ctrRef c.desc 0x10)).ctrFenced (ctrRef c.desc 0x10) (s.polderOf c) = false)
    {x : Nat} {t : State} (hg : (waitOpened s id (ctrRef c.desc 0x10)).ctrGet (s.polderOf c) (ctrRef c.desc 0x10) = (some x, t)) :
    Becomes (.counterWaitGe id) s (if waitHolds x (ctrValue c.desc) then t.endCmd id St.ok none else t) := by
  refine becomes_of (exec_counterWaitGe id s) rfl ?_
  rw [doCounterWaitGe, h]
  refine (if_neg (by rw [Bool.not_eq_true]; exact hf)).trans ?_
  unfold waitOpened at hg
  rw [hg]

end

/-! ### What each row leaves -/

section
variable {s t : State} {id : Nat} {env : Env} {c : Cmd}

/-- A transfer whose run ended, from a state in which it may end. -/
theorem dma_completes {r : Run Unit} {b : State} (hr : Run.Climbs endsOrder.toAccessOrder r) (hb : MayEnd b c.id) (h : Becomes (.dma id env) s (dmaEnded c (r b))) :
    (∀ t, r b = .ok () t → Becomes (.dma id env) s ((t.dmaEnd c).spanEnd c.id) ∧
      (dmaSignal c.desc = false → Completes (.dma id env) s (fun x => Ends x c.id St.ok ∧ x.mem = t.mem ∧ x.host = t.host ∧ x.kv = t.kv))) ∧
    (∀ e t, r b = .error e t → Completes (.dma id env) s (fun x => Ends x c.id e.status ∧ x.mem = t.mem)) := by
  refine ⟨fun t hrun => ?_, fun e t hrun => ?_⟩
  · rw [hrun] at h
    exact ⟨h, fun hs => h.completes (dmaEnded_ok (hr.mayEnd_ok hb hrun) hs)⟩
  · rw [hrun] at h
    exact h.completes (dmaEnded_error (hr.mayEnd_error hb hrun) e)

theorem dmaIn_completes {b : State} (hb : Works b c.id (.fabric [])) (h : Becomes (.dma id env) s (b.dmaIn c)) :
    Completes (.dma id env) s (fun x => x.mem = b.mem ∧ x.host = b.host ∧ ∃ w, Works x c.id (.fabric w) ∧
      w.map (fun r => (r.2.1, r.2.2)) = dmaSegs (dmaLen c.desc)) := by
  rw [dmaIn_eq] at h
  obtain ⟨hmem, hhost, w, hw, hmap⟩ := dmaAsks_work c (dmaSegs (dmaLen c.desc)).length (dmaSegs (dmaLen c.desc)).zipIdx hb
  exact h.completes ⟨hmem, hhost, w, hw, hmap.trans (List.zipIdx_map_fst _ _)⟩

theorem dmaOut_fails (h : MayEnd t c.id) (e : Fail) : let x := (t.failCmd c.id (e.status, e.addr.getD 0)).spanEnd c.id
    Ends x c.id e.status ∧ x.mem = t.mem := by
  have hseam := spanEnd_frame (t.failCmd c.id (e.status, e.addr.getD 0)) c.id
  exact ⟨(h.failCmd _).kept hseam.spanFrame.2, hseam.mem⟩

/-- A fence that ends changes nothing but its own place. -/
theorem fence_completes (h : s.starts id 0x60 = some c) (hp : dbyte c.desc 0x10 = 2 → s.peerWrites c.ctx = 0) :
    Completes (.fence id) s (fun t => Ends t id St.ok ∧ { t with cmds := s.cmds, arbs := s.arbs } = s ∧ ∀ n, n ≠ id → t.cmd? n = s.cmd? n) := by
  have hends := (((starts_mayEnd h).beginCmd .none).mayEnd).endCmd St.ok none
  have hframe : { (s.beginCmd id .none).endCmd id St.ok none with cmds := s.cmds, arbs := s.arbs } = s := rfl
  refine (fence_ends h hp).completes ?_
  rw [withQueue_self (s := s) (t := (s.beginCmd id .none).endCmd id St.ok none) rfl]
  refine ⟨hends, hframe, fun n hn => ?_⟩
  have hend : ((s.beginCmd id .none).endCmd id St.ok none).cmd? n = (s.beginCmd id .none).cmd? n := cmd?_updCmd_ne _ hn (fun k => by split <;> rfl)
  have hbegin : (s.beginCmd id .none).cmd? n = s.cmd? n := cmd?_updCmd_ne s hn (fun _ => rfl)
  exact hend.trans hbegin

theorem ctrGet_mayEnd {b : State} {p : Nat} {ref : CtrRef} {x : Option Nat} (h : MayEnd b id) (hg : b.ctrGet p ref = (x, t)) :
    MayEnd t id ∧ t.mem = b.mem := by
  obtain ⟨hmem, hcmds⟩ := ctrGet_keeps b p ref
  rw [hg] at hmem hcmds
  exact ⟨h.of_cmds hcmds, hmem⟩

/-- A counter that is added to holds the sum. -/
theorem ctrSet_sums {b : State} {p : Nat} {ref : CtrRef} {x v : Nat} (hg : b.ctrGet p ref = (some x, t)) :
    (ref.scope = 0 → (t.ctrSet p ref ((x + v) % 2 ^ 32)).nat (Reg.coreCounter ref.unit ref.index) = (b.nat (Reg.coreCounter ref.unit ref.index) + v) % 2 ^ 32) ∧
    (ref.scope = 1 → (t.ctrSet p ref ((x + v) % 2 ^ 32)).nat (Reg.coreClusterCounter ref.unit ref.index) =
      (b.nat (Reg.coreClusterCounter ref.unit ref.index) + v) % 2 ^ 32) := by
  refine ⟨fun h => ?_, fun h => ?_⟩
  · obtain ⟨hx, rfl⟩ := Prod.mk.inj ((ctrGet_core h).symm.trans hg)
    obtain rfl := Option.some.inj hx
    rw [ctrSet_core h, nat_addMod]
  · obtain ⟨hx, rfl⟩ := Prod.mk.inj ((ctrGet_cluster h).symm.trans hg)
    obtain rfl := Option.some.inj hx
    rw [ctrSet_cluster h, nat_addMod]

theorem nat_congr_regs {u : State} (h : u.regs = t.regs) (a : Nat) : u.nat a = t.nat a := congrArg (fun r => (SMap.get regDefault r a).toNat) h

theorem counterAdd_completes (h : s.counterStarts id 0 = some c) {x : Nat}
    (hf : (s.beginCmd id .none).ctrFenced (ctrRef c.desc 0x10) (s.polderOf c) = false)
    (hg : (s.beginCmd id .none).ctrGet (s.polderOf c) (ctrRef c.desc 0x10) = (some x, t)) :
    Completes (.counterAdd id) s (fun y => Ends y id St.ok ∧
      y.mem = (t.ctrSet (s.polderOf c) (ctrRef c.desc 0x10) ((x + ctrValue c.desc) % 2 ^ 32)).mem ∧
      y.regs = (t.ctrSet (s.polderOf c) (ctrRef c.desc 0x10) ((x + ctrValue c.desc) % 2 ^ 32)).regs) := by
  have hmay : MayEnd (s.beginCmd id .none) id := ((starts_mayEnd (counterStarts_starts h)).beginCmd _).mayEnd
  refine (counterAdd_becomes h (ctrAdd_reads hf hg _)).completes ?_
  rw [ctrEnd_correctable _ _ _ _ (by decide)]
  obtain ⟨hmem, hregs, hwoken⟩ := wake_keeps (t.ctrSet (s.polderOf c) (ctrRef c.desc 0x10) ((x + ctrValue c.desc) % 2 ^ 32))
    (ctrKey (s.polderOf c) (ctrRef c.desc 0x10)) ((x + ctrValue c.desc) % 2 ^ 32)
  exact ⟨(hwoken id ((ctrGet_mayEnd hmay hg).1.of_cmds (ctrSet_cmds _ _ _ _))).endCmd St.ok none, hmem, hregs⟩

theorem waitOpened_works (h : s.counterStarts id 1 = some c) (ref : CtrRef) : Works (waitOpened s id ref) id .wait :=
  ((starts_mayEnd (counterStarts_starts h)).beginCmd .wait).kept (.of_cmds (waitOpened_keeps s id ref).2.2)

theorem counterWait_completes (h : s.counterStarts id 1 = some c) {x : Nat}
    (hf : (waitOpened s id (ctrRef c.desc 0x10)).ctrFenced (ctrRef c.desc 0x10) (s.polderOf c) = false)
    (hg : (waitOpened s id (ctrRef c.desc 0x10)).ctrGet (s.polderOf c) (ctrRef c.desc 0x10) = (some x, t)) :
    (waitHolds x (ctrValue c.desc) = true → Becomes (.counterWaitGe id) s (t.endCmd id St.ok none) ∧
      Completes (.counterWaitGe id) s (fun y => Ends y id St.ok ∧ y.mem = s.mem)) ∧
    (waitHolds x (ctrValue c.desc) = false → Becomes (.counterWaitGe id) s t ∧ Completes (.counterWaitGe id) s (fun y => Works y id .wait ∧ y.mem = s.mem)) := by
  have hrow := counterWait_reads h hf hg
  obtain ⟨hmem, hcmds⟩ := ctrGet_keeps (waitOpened s id (ctrRef c.desc 0x10)) (s.polderOf c) (ctrRef c.desc 0x10)
  rw [hg] at hmem hcmds
  have hread : Works t id .wait := (waitOpened_works h _).kept (.of_cmds hcmds)
  have hsame : t.mem = s.mem := hmem.trans (waitOpened_keeps s id _).1
  refine ⟨fun hx => ?_, fun hx => ?_⟩
  · rw [if_pos hx] at hrow
    exact ⟨hrow, hrow.completes ⟨hread.mayEnd.endCmd _ _, hsame⟩⟩
  · rw [if_neg (by rw [hx]; exact Bool.false_ne_true)] at hrow
    exact ⟨hrow, hrow.completes ⟨hread, hsame⟩⟩

end

end Sys2Proof.Machine

namespace Sys2Proof.Proofs
open Sys2Proof.Machine

/-- Settles O33: transfers by their runs, requests to a peer by induction on the segments, counters by what their words hold. -/
theorem moveAndSync : Obligations.MoveAndSync := by
  unfold Obligations.MoveAndSync
  refine ⟨fun s id env c hd => ⟨fun h => ?_, fun h => ?_, fun h => ?_, fun h => ?_, fun h => ?_, fun h => ?_⟩,
    fun s id env c => ⟨fun h hd => ?_, fun h => ⟨fence_completes h, fence_waits h⟩, fun h => ?_, fun h => ?_⟩⟩
  · exact becomes_of (exec_gemm id env s) rfl (by rw [doGemm, h]; exact launch_refused hd _)
  · exact becomes_of (exec_conv id env s) rfl (by rw [doConv, h]; exact launch_refused hd _)
  · exact becomes_of (exec_elementwise id env s) rfl (by rw [doElementwise, h]; exact launch_refused hd _)
  · exact becomes_of (exec_attnFwd id env s) rfl (by rw [doAttnFwd, h]; exact launch_refused hd _)
  · exact becomes_of (exec_attnBwd id env s) rfl (by rw [doAttnBwd, h]; exact launch_refused hd _)
  · exact becomes_of (exec_dma id env s) rfl (by rw [doDma, h]; exact launch_refused hd _)
  · have hrow : Becomes (.dma id env) s ((s.arrive env).dmaRun c) := dma_becomes h hd
    have hmay : MayEnd (s.arrive env) id := starts_mayEnd h
    obtain rfl : c.id = id := cmd?_id (starts_iff h).1
    have hbegun := (hmay.beginCmd .none).mayEnd
    have hasks : Works (((s.arrive env).beginCmd c.id (.fabric [])).dmaSpans c) c.id (.fabric []) := (hmay.beginCmd _).kept (dmaSpans_frame _ c).2
    refine ⟨fun hdst hsrc => ⟨fun ht => ?_, fun tr ht htree => ?_⟩, fun hdst hsrc => ?_, fun hdst => ⟨fun t hrun => ?_, fun e t hrun => ?_⟩⟩
    · rw [dmaRun_local hdst hsrc ht] at hrow
      exact dma_completes (Run.climbs_dmaLocal _ _) (hbegun.workKept (dmaSpans_frame _ c).2) hrow
    · have hspan : MayEnd (if tr.bdRoot then (s.arrive env).beginCmd c.id .none else ((s.arrive env).beginCmd c.id .none).spanStart tr.source c) c.id := by
        split
        · exact hbegun
        · exact hbegun.spanStart _ _
      rw [dmaRun_tree hdst hsrc ht htree] at hrow
      obtain ⟨hok, herror⟩ := dma_completes (Run.climbs_dmaTree _ _ _) hspan hrow
      refine ⟨fun t hrun => ⟨(hok t hrun).1, fun hs => ?_⟩, herror⟩
      obtain ⟨x, hx, hends, hmem, -, hkv⟩ := (hok t hrun).2 hs
      exact ⟨x, hx, hends, hmem, hkv⟩
    · rw [dmaRun_in hdst hsrc] at hrow
      obtain ⟨x, hx, hmem, hhost, hwork⟩ := dmaIn_completes hasks hrow
      have hspans := dmaSpans_frame ((s.arrive env).beginCmd c.id (.fabric [])) c
      exact ⟨hrow, x, hx, hmem.trans hspans.mem, hhost.trans ((congrArg State.host hspans.1).trans rfl), hwork⟩
    · rw [dmaRun_out hdst hrun] at hrow
      exact hrow
    · rw [dmaRun_out_fails hdst hrun] at hrow
      exact hrow.completes (dmaOut_fails ((Run.climbs_dmaOut _ _).mayEnd_error hasks.mayEnd hrun) e)
  · have hmay : MayEnd (s.beginCmd id .none) id := ((starts_mayEnd (counterStarts_starts h)).beginCmd _).mayEnd
    intro ref b
    refine ⟨fun hf => ?_, fun hf => ⟨fun x t hg => ?_, fun t hg => ?_⟩⟩
    · exact (counterAdd_becomes h (ctrAdd_fenced hf _)).completes ⟨hmay.endCmd St.fenced none, rfl, rfl⟩
    · obtain ⟨y, hy, hends, hmem, hregs⟩ := counterAdd_completes h hf hg
      obtain ⟨hcore, hcluster⟩ := ctrSet_sums (v := ctrValue c.desc) hg
      exact ⟨y, hy, hends, hmem, hregs, fun hscope => (nat_congr_regs hregs _).trans (hcore hscope),
        fun hscope => (nat_congr_regs hregs _).trans (hcluster hscope)⟩
    · refine (counterAdd_becomes h (ctrAdd_unread hf hg _)).completes ?_
      rw [ctrEnd_uncorrectable]
      obtain ⟨hread, hmem⟩ := ctrGet_mayEnd hmay hg
      exact ⟨hread.failCmd (St.uncorrectable, _), hmem⟩
  · have hwaits := waitOpened_works h (ctrRef c.desc 0x10)
    obtain ⟨hmem, hregs, -⟩ := waitOpened_keeps s id (ctrRef c.desc 0x10)
    intro ref w b
    refine ⟨fun hf => ?_, fun hf => ⟨fun x t hg => counterWait_completes h hf hg, fun t hg => ?_⟩⟩
    · exact (counterWait_fenced h hf).completes ⟨hwaits.mayEnd.endCmd _ _, hmem, hregs⟩
    · refine (counterWait_unread h hf hg).completes ?_
      rw [ctrEnd_uncorrectable]
      obtain ⟨hread, hmem'⟩ := ctrGet_mayEnd (b := waitOpened s id ref) hwaits.mayEnd hg
      exact ⟨hread.failCmd (St.uncorrectable, _), hmem'.trans hmem⟩

end Sys2Proof.Proofs
end

section
/-! PROOF. The reset of a core that ends the reset of a context (R563). -/
namespace Sys2Proof.Machine

/-- A reset of core 228 that a context asked for, its sluice closed: the address of that context's vigil is the address of the dikes of
cores 224 to 255. -/
def coreReset : ResetJob :=
  { level := 2, unit := 228, trigger := 0, ctx := some 61568, slot := 0, dossier := [], begun := 0, closed := some 0, suspects := [], expired := none }

/-- A module after reset with that reset in progress, and with the context under reset. -/
def coreResetting : State :=
  { State.reset with
    resets := { State.reset.resets with jobs := [coreReset] }, ctxs := [(61568, ⟨[], 0, none, false, some 1⟩)] }

/-- Bring-up without a failure. -/
def quietBoot : BootIn := ⟨[], [], false, true, 0⟩

theorem coreResetting_ready :
    coreResetting.resets.jobs.find? (fun j => decide (j.level = 2) && (decide (j.unit = 228) || decide (4 ≤ 2))) = some coreReset ∧
    coreResetting.flowStopped = false ∧ coreResetting.scopeEmpty 2 coreReset.unit = true ∧ coreResetting.resets.queued = [] ∧
    coreResetting.resets.replay = none := by decide +kernel

/-- With the reset's end the context's reset ends too, and the default of its vigil raises the dike again. -/
theorem coreResetting_dike : (doResetComplete 2 228 quietBoot coreResetting).flag (Reg.dikeEngine 0) coreReset.unit = true := by decide +kernel

end Sys2Proof.Machine

namespace Sys2Proof.Proofs
open Sys2Proof.Machine

/-- Refutes O42: its clause on the end of a core's reset says that the core's dike is down, in every state; where the reset is that of a context whose
number is beyond the last, its vigil's address is the dike's, and the default that is loaded there raises the dike. -/
theorem not_resetCourse : ¬ Obligations.ResetCourse := by
  unfold Obligations.ResetCourse
  intro h
  obtain ⟨hjob, hflow, hscope, hqueued, hreplay⟩ := coreResetting_ready
  obtain ⟨-, -, -, hcomplete, -⟩ := h.1 coreResetting 2 228 coreReset (by decide) (by decide) hjob
  obtain ⟨hcore, -⟩ := hcomplete quietBoot rfl hflow hscope hqueued rfl
  obtain ⟨t, hexec, -, -, hdike, -⟩ := hcore rfl (by decide) hreplay
  injection ((exec_resetComplete 2 228 quietBoot coreResetting).trans (guarded_next (s := coreResetting) rfl)).symm.trans hexec with hstates
  have hraised := coreResetting_dike
  rw [← hstates, State.flag, State.withQueue_read_bit] at hdike
  rw [State.flag, hdike] at hraised
  cases hraised

end Sys2Proof.Proofs
end

section
/-! PROOF. Accesses leave the cores alone, and so do the micro-operations that they wait for (R49, R341–R345). -/
namespace Sys2Proof.Machine

/-- The cores are as they were. -/
def CoresKept (s t : State) : Prop := t.cores = s.cores

theorem CoresKept.refl (s : State) : CoresKept s s := rfl

theorem CoresKept.trans {s t u : State} (h : CoresKept s t) (k : CoresKept t u) : CoresKept s u := Eq.trans k h

theorem CoresKept.core {s t : State} (h : CoresKept s t) (n : Nat) : t.core n = s.core n := congrArg (fun m => SMap.get (fun _ => CoreState.clear) m n) h

theorem CoresKept.foldl_via {α β : Type} (g : α → State) {f : α → β → α} (h : ∀ a x, CoresKept (g a) (g (f a x))) (l : List β) (a : α) :
    CoresKept (g a) (g (l.foldl f a)) := foldl_keeps (fun a => (g a).cores) h l a

theorem CoresKept.putBlock (s : State) (col q : Nat) (bs : List Byte) (x : Pattern) : CoresKept s (s.putBlock col q bs x) := rfl
theorem CoresKept.addCnt (s : State) (a n : Nat) : CoresKept s (s.addCnt a n) := rfl
theorem CoresKept.warnCmd (s : State) (id b : Nat) : CoresKept s (s.warnCmd id b) := rfl
theorem CoresKept.setNbus (s : State) (m : SMap (Option NbuSeq)) : CoresKept s { s with nbus := m } := rfl
theorem CoresKept.fresh (s : State) : CoresKept s s.fresh := rfl
theorem CoresKept.setNat (s : State) (a v : Nat) : CoresKept s (s.setNat a v) := rfl
theorem CoresKept.setBit (s : State) (a i : Nat) (b : Bool) : CoresKept s (s.setBit a i b) := rfl
theorem CoresKept.event (s : State) (code : Nat) (src : Nat × Nat) (k : Option Nat) (data : Nat) : CoresKept s (s.event code src k data) :=
  s.event_cores code src k data

/-! ### Blocks -/

theorem CoresKept.ueRecord (s : State) (rq : Req) (addr col q : Nat) : CoresKept s (s.ueRecord rq addr col q) := by
  simp [CoresKept, State.ueRecord]

theorem CoresKept.ceLog (s : State) (col q n : Nat) : CoresKept s (s.ceLog col q n) := by
  simp only [CoresKept, State.ceLog]
  split <;> simp

theorem CoresKept.hardFault (s : State) (col q : Nat) : CoresKept s (s.hardFault col q) := by
  simp only [CoresKept, State.hardFault]
  have hentry : (match s.ceEntry col (locatorOf q) with
      | some i => s.setBit (Reg.memCeInfo col i) 3 true
      | none => s).cores = s.cores := by
    split <;> rfl
  split
  · exact hentry
  · exact hentry
  · rw [State.event_cores]
    exact hentry

theorem CoresKept.readBlock (s : State) (rq : Req) (addr col q : Nat) (w : Bool) : CoresKept s (s.readBlock rq addr col q w).2 := by
  simp only [State.readBlock]
  split
  · exact .ueRecord s rq addr col q
  · split
    · exact .ueRecord s rq addr col q
    next n left _ =>
      split
      · exact .refl s
      · have hlog := CoresKept.ceLog s col q n
        generalize s.ceLog col q n = t at hlog ⊢
        generalize leBytes 64 (leNat (s.blockData col q) ^^^ left.toNat) = bs
        refine hlog.trans ?_
        split <;>
        · split
          · exact .refl t
          · have hput := CoresKept.putBlock t col q bs (t.blockErr col q).hard
            generalize t.putBlock col q bs (t.blockErr col q).hard = v at hput ⊢
            refine hput.trans ?_
            split
            · exact .refl v
            · exact .hardFault _ _ _
            · exact .ueRecord _ _ _ _ _

theorem CoresKept.flipDone (s : State) (col q : Nat) : CoresKept s (s.flipDone col q) := by
  unfold CoresKept State.flipDone
  rw [State.event_cores]
  exact foldl_keeps State.cores (f := fun s i => s.setReg (Reg.memFlipmask i) 0) (fun _ _ => rfl) _ _

theorem CoresKept.storeBlock (s : State) (col q : Nat) (bs : List Byte) : CoresKept s (s.storeBlock col q bs) := by
  simp only [State.storeBlock]
  split
  · exact CoresKept.trans (t := s.putBlock col q bs _) rfl (.flipDone _ _ _)
  · rfl

theorem CoresKept.writeBlock (s : State) (rq : Req) (addr col q off : Nat) (bs : List Byte) : CoresKept s (s.writeBlock rq addr col q off bs).2 := by
  unfold State.writeBlock
  split
  · exact .ueRecord s rq addr col q
  · split
    · exact .storeBlock _ _ _ _
    · have hread := CoresKept.readBlock s rq addr col q true
      split
      next heq =>
        rw [heq] at hread
        exact hread.trans (.storeBlock _ _ _ _)
      next heq =>
        rw [heq] at hread
        exact hread

/-! ### Micro-operations -/

theorem CoresKept.openRow (s : State) (q : NbuSeq) (row : Nat) : CoresKept s (s.openRow q row).1 := by
  unfold State.openRow
  split <;> rfl

theorem CoresKept.resolveClash (s : State) (q : NbuSeq) : CoresKept s (s.resolveClash q) := by
  simp only [State.resolveClash]
  generalize (q.clashed ++ (q.stored.filter (fun e => e.2.any (fun b => q.clashed.contains b))).map (fun e => e.1)).eraseDups = l
  induction l generalizing s with
  | nil => rfl
  | cons k l ih =>
    rw [List.foldl_cons]
    exact ((CoresKept.putBlock s _ _ _ _).trans (.fresh _)).trans (ih _)

theorem CoresKept.nbuFail (s : State) (q : NbuSeq) (st addr : Nat) : CoresKept s (s.nbuFail q st addr) := by
  have hfail : ∀ t : State, t.cores = s.cores → CoresKept s (match t.cmd? q.cmd with
      | some c => if c.phase = .running then t.failCmd q.cmd (st, addr) else t
      | none => t) := by
    intro t ht
    split
    · split <;> exact ht
    · exact ht
  refine hfail _ ?_
  split <;> rfl

theorem CoresKept.nbuLoad (s : State) (q : NbuSeq) (u : DWord) : CoresKept s (s.nbuLoad q u) := by
  unfold State.nbuLoad
  split
  · exact (CoresKept.nbuFail _ _ _ _).trans rfl
  · exact .refl _
  next p n c _ _ =>
    dsimp only
    have hopen := CoresKept.openRow s q (cellRow (s.cellOf q.col p))
    generalize s.openRow q (cellRow (s.cellOf q.col p)) = x at hopen ⊢
    have hread := CoresKept.foldl_via (fun (a : List Byte × Option Nat × State) => a.2.2)
      (f := fun (a : List Byte × Option Nat × State) (y : Nat × Nat × Nat) => match a.2.1 with
        | some _ => a
        | none =>
          let cell := a.2.2.cellOf q.col y.2.1
          match a.2.2.readBlock (reqNbu c) (2 ^ 32 * q.col + y.2.1 / 64 * 64) q.col cell false with
          | (some bs, s) => (a.1 ++ lslice bs (cell % 64) y.2.2, none, s)
          | (none, s) => (a.1, some (y.2.1 / 64 * 64), s))
      (by
        intro a y
        dsimp only
        split
        · exact .refl _
        · have hblock := CoresKept.readBlock a.2.2 (reqNbu c) (2 ^ 32 * q.col + y.2.1 / 64 * 64) q.col (a.2.2.cellOf q.col y.2.1) false
          split <;>
          next heq =>
            rw [heq] at hblock
            exact hblock)
      (pieces p n) ([], none, x.1)
    refine hopen.trans (hread.trans ?_)
    generalize (pieces p n).foldl _ (([], none, x.1) : List Byte × Option Nat × State) = r
    split
    · exact (CoresKept.nbuFail _ _ _ _).trans rfl
    · exact rfl

theorem CoresKept.nbuStore (s : State) (q : NbuSeq) (u : DWord) : CoresKept s (s.nbuStore q u) := by
  unfold State.nbuStore
  split
  · exact (CoresKept.nbuFail _ _ _ _).trans rfl
  · exact .refl _
  next p n c _ _ =>
    dsimp only
    have hopen : CoresKept s { (s.openRow q (cellRow (s.cellOf q.col p))).1 with freeCtr := s.freeCtr + 16 * (uCnt u + 1) } :=
      (CoresKept.openRow s q _).trans rfl
    generalize ({ (s.openRow q (cellRow (s.cellOf q.col p))).1 with freeCtr := s.freeCtr + 16 * (uCnt u + 1) } : State) = s0 at hopen ⊢
    generalize ((List.range (uCnt u + 1)).map (fun j => storeGroup (uFmt u) (s.freeCtr + 16 * j) (q.v (uVd u + j)))) = gs
    have hwrite := CoresKept.foldl_via (fun (a : List Nat × State) => a.2)
      (f := fun (a : List Nat × State) (y : Nat × Nat × Nat) =>
        let cell := a.2.cellOf q.col y.2.1
        if q.bad.contains (blockKey q.col cell) then a
        else match a.2.writeBlock (reqNbu c) (2 ^ 32 * q.col + y.2.1 / 64 * 64) q.col cell (cell % 64)
            (lslice (gs.flatMap (fun y => y.1)) y.1 y.2.2) with
          | (true, s) => (a.1, s.wroteCmd c.id)
          | (false, s) => (blockKey q.col cell :: a.1, s.nbuFail q St.uncorrectable (2 ^ 32 * q.col + y.2.1 / 64 * 64)))
      (by
        intro a y
        dsimp only
        split
        · exact .refl _
        · have hblock := CoresKept.writeBlock a.2 (reqNbu c) (2 ^ 32 * q.col + y.2.1 / 64 * 64) q.col (a.2.cellOf q.col y.2.1)
            (a.2.cellOf q.col y.2.1 % 64) (lslice (gs.flatMap (fun y => y.1)) y.1 y.2.2)
          split
          next heq =>
            rw [heq] at hblock
            exact hblock.trans rfl
          next heq =>
            rw [heq] at hblock
            exact hblock.trans (.nbuFail _ _ _ _))
      (pieces p n) ([], s0)
    refine hopen.trans (hwrite.trans ?_)
    generalize (pieces p n).foldl _ (([], s0) : List Nat × State) = r
    show (if gs.any (fun y => y.2) then (r.2.addCnt Reg.nbuCntBytes n).warnCmd c.id Wn.saturated else r.2.addCnt Reg.nbuCntBytes n).cores = r.2.cores
    split <;> rfl

theorem CoresKept.runMicro (s : State) (q : NbuSeq) (u : DWord) : CoresKept s (s.runMicro q u) := by
  unfold State.runMicro
  split
  · exact (CoresKept.resolveClash s q).trans rfl
  · split
    · exact .nbuLoad _ _ _
    · split
      · exact .nbuStore _ _ _
      · exact rfl

theorem CoresKept.toBoundary (k : Nat) (s : State) (col bank : Nat) : CoresKept s (State.toBoundary k s col bank) := by
  induction k generalizing s with
  | zero => exact .refl s
  | succ k ih =>
    unfold State.toBoundary
    split
    · split
      · split
        · exact (CoresKept.runMicro _ _ _).trans (ih _)
        · exact .refl s
      · exact .refl s
    · exact .refl s

theorem CoresKept.stopSeqs (s : State) (id : Nat) : CoresKept s (s.stopSeqs id) := by
  have hdrop : ∀ (t : State) (n : Nat × Nat), CoresKept t (t.dropSeq n.1 n.2) := by
    intro t n
    unfold State.dropSeq
    split
    · exact (CoresKept.resolveClash t _).trans rfl
    · exact .refl t
  unfold State.stopSeqs
  have hbounds := CoresKept.foldl_via (fun t => t) (f := fun (s : State) (n : Nat × Nat) => State.toBoundary 2 s n.1 n.2)
    (fun t n => .toBoundary 2 t n.1 n.2) (s.seqsOf id) s
  generalize (s.seqsOf id).foldl (fun (s : State) (n : Nat × Nat) => State.toBoundary 2 s n.1 n.2) s = t at hbounds ⊢
  exact hbounds.trans ((CoresKept.foldl_via (fun t => t) (f := fun (s : State) (n : Nat × Nat) => s.dropSeq n.1 n.2) hdrop (t.seqsOf id) t).trans rfl)

/-! ### Accesses -/

theorem CoresKept.countYield (s : State) (col q : Nat) : CoresKept s (s.countYield col q) := by
  have hyield : CoresKept s (s.yieldTo col q) := by
    simp only [State.yieldTo]
    split
    · exact .refl s
    · split
      · exact .refl s
      · have hafter : ∀ (t : State) (id : Nat), CoresKept t (t.afterMicro id) := by
          intro t id
          unfold State.afterMicro
          split
          · split
            · exact .refl t
            · exact .stopSeqs t id
          · exact .refl t
        refine CoresKept.trans ?_ (hafter _ _)
        have hbound := CoresKept.toBoundary 2 s col (cellBankIdx q)
        generalize State.toBoundary 2 s col (cellBankIdx q) = t at hbound ⊢
        refine hbound.trans ?_
        split
        · split
          · split
            · exact (CoresKept.runMicro _ _ _).trans (.toBoundary _ _ _ _)
            · exact .refl t
          · exact .refl t
        · exact .refl t
  simp only [State.countYield]
  refine hyield.trans ?_
  split
  · split
    · exact .refl _
    · exact rfl
  · exact .refl _

theorem CoresKept.firstNote (s : State) (b lo hi code addr col : Nat) (ctx : Option Nat) : CoresKept s (s.firstNote b lo hi code addr col ctx) := by
  unfold State.firstNote
  split
  · exact .refl s
  · exact (((CoresKept.setNat s _ _).trans (.setNat _ _ _)).trans (.setBit _ _ _ _)).trans (.event _ _ _ _ _)

theorem CoresKept.noteTorn (s : State) (rq : Req) (addr col q n : Nat) : CoresKept s (s.noteTorn rq addr col q n) := by
  simp only [State.noteTorn]
  split
  · split
    · exact ((CoresKept.warnCmd s _ _).trans (.addCnt _ _ _)).trans (.firstNote _ _ _ _ _ _ _ _)
    · exact .refl s
  · exact .refl s

theorem CoresKept.noteClash (s : State) (rq : Req) (addr col q n : Nat) : CoresKept s (s.noteClash rq addr col q n) := by
  simp only [State.noteClash]
  split
  · split
    · exact (((CoresKept.warnCmd s _ _).trans (.addCnt _ _ _)).trans (.setNbus _ _)).trans (.firstNote _ _ _ _ _ _ _ _)
    · exact .refl s
  · exact .refl s

theorem CoresKept.chanRead (s : State) (rq : Req) (addr col q n : Nat) : CoresKept s (s.chanRead rq addr col q n).2 := by
  simp only [State.chanRead]
  exact (((CoresKept.countYield _ _ _).trans (.noteTorn _ _ _ _ _ _)).trans (.addCnt _ _ _)).trans (.readBlock _ _ _ _ _ _)

theorem CoresKept.chanWrite (s : State) (rq : Req) (addr col q : Nat) (bs : List Byte) : CoresKept s (s.chanWrite rq addr col q bs).2 := by
  simp only [State.chanWrite]
  exact (((CoresKept.countYield _ _ _).trans (.noteClash _ _ _ _ _ _)).trans (.addCnt _ _ _)).trans (.writeBlock _ _ _ _ _ _ _)

/-- Accesses keep the cores. -/
def coresOrder : AccessOrder where
  rel := CoresKept
  refl := .refl
  trans := .trans
  chanRead := .chanRead
  chanWrite := .chanWrite
  wrote _ _ := rfl
  localRead _ _ _ _ := rfl
  sharedRead _ _ _ _ := rfl
  setMem _ _ := rfl
  setHost _ _ := rfl

/-- What a run that keeps a core's accumulator sets may change of that core. -/
def setsOrder (n : Nat) : RunOrder where
  rel s t := (t.core n).sets = (s.core n).sets
  refl _ := rfl
  trans h k := k.trans h
  chanRead s rq addr col q m := congrArg CoreState.sets ((CoresKept.chanRead s rq addr col q m).core n)
  chanWrite s rq addr col q bs := congrArg CoreState.sets ((CoresKept.chanWrite s rq addr col q bs).core n)
  wrote _ _ := rfl
  localRead _ _ _ _ := rfl
  sharedRead _ _ _ _ := rfl
  setMem _ _ := rfl
  setHost _ _ := rfl
  same _ e := congrArg CoreState.sets (CoresKept.core e n)
  gen s m id g := by
    unfold State.setGen
    by_cases h : m = n
    · rw [h, core_setCore_same]
    · exact congrArg CoreState.sets (SMap.get_set_ne (fun _ => CoreState.clear) _ _ _ (Ne.symm h))
  upd _ _ _ _ := rfl

end Sys2Proof.Machine
end

section
/-! PROOF. The write of a tile (R233, R380). -/
namespace Sys2Proof.Machine
section
variable {O : RunOrder}

theorem Run.climbs_noteKey (id d at' : Nat) (vals : List (Nat × Num)) : Run.Climbs O.toAccessOrder (Run.noteKey id d at' vals) := by
  unfold Run.noteKey
  refine Run.climbs_get.bind fun s => ?_
  split
  · refine Run.Climbs.bind ?_ fun _ => Run.climbs_pure _
    exact Run.climbs_modify fun s => O.upd _ _ _ fun c => by split <;> exact ⟨rfl, rfl⟩
  · exact Run.climbs_pure _

theorem Run.climbs_putPart (rq : Req) (c : Cmd) (polder fmt d page slot at' : Nat) (key : Bool) (comp : Nat) (xs : List Num) (x : Drained) :
    Run.Climbs O.toAccessOrder (Run.putPart rq c polder fmt d page slot at' key comp xs x) := by
  unfold Run.putPart
  refine (Run.climbs_kvp _).bind fun k => (Run.climbs_forIn (fun e b => ?_) _ _).bind fun _ =>
    (Run.climbs_forIn (fun w b => (Run.climbs_pwrite _ _ _ _).bind fun _ => Run.climbs_pure _) _ _).bind fun _ => ?_
  · refine Run.Climbs.bind ?_ fun _ => (Run.climbs_pwrite _ _ _ _).bind fun _ => Run.climbs_pure _
    exact Run.climbs_ite (Run.climbs_pure _) ((Run.climbs_pread _ _ _).bind fun _ => Run.climbs_pure _)
  · refine Run.climbs_ite ((Run.climbs_noteKey _ _ _ _).bind fun r => ?_) (Run.climbs_pure _)
    split
    · exact Run.climbs_pure _
    · exact (Run.climbs_hdr _ _ _ _ _).bind fun _ => (Run.climbs_hdr _ _ _ _ _).bind fun _ => (Run.climbs_pread _ _ _).bind fun _ =>
        (Run.climbs_setHdr _ _ _ _ _ _ _).bind fun _ => (Run.climbs_setHdr _ _ _ _ _ _ _).bind fun _ => (Run.climbs_pwrite _ _ _ _).bind fun _ =>
          Run.climbs_pure _

theorem Run.climbs_drainAppend (c : Cmd) (core : Nat) (r : KvReserve) (gen : Nat) (lines : List (Nat × Nat × List Num)) :
    Run.Climbs O.toAccessOrder (Run.drainAppend c core r gen lines) := by
  unfold Run.drainAppend
  refine Run.climbs_get.bind fun s => Run.climbs_get.bind fun u => (Run.climbs_forIn (fun l b => ?_) _ _).bind fun b =>
    (Run.climbs_countDrained _ _ _).bind fun _ => Run.climbs_pure _
  refine (Run.climbs_forIn (fun h b => ?_) _ _).bind fun b => Run.climbs_pure _
  exact (Run.climbs_putPart _ _ _ _ _ _ _ _ _ _ _ _).bind fun y => (Run.climbs_read _ _ _ _).bind fun tok => (Run.climbs_kvp _).bind fun _ =>
    (Run.climbs_pwrite _ _ _ _).bind fun _ => Run.climbs_pure _

end

/-! ### The accumulator sets of a core -/

theorem core_setCore_ne (s : State) {n m : Nat} (h : m ≠ n) (k : CoreState) : (s.setCore n k).core m = s.core m := SMap.get_set_ne _ _ _ _ h

/-- A core that is written keeps its sets where it is given them again. -/
theorem setCore_sets (s : State) (m n : Nat) {k : CoreState} (h : k.sets = (s.core m).sets) : ((s.setCore m k).core n).sets = (s.core n).sets := by
  by_cases heq : n = m
  · rw [heq, core_setCore_same, h]
  · rw [core_setCore_ne s heq]

theorem shadowTile_sets (s : State) (m n p : Nat) (c : Cmd) (b : Bool) (q r : List Num) : ((s.shadowTile m p c b q r).core n).sets = (s.core n).sets := by
  unfold State.shadowTile
  dsimp only
  split
  · exact setCore_sets s m n rfl
  · rfl

theorem climbs_writeTile (m n : Nat) (t : Tmpl) (c : Cmd) (set : AccSet) (acc : List (List Word)) :
    Run.Climbs (setsOrder m).toAccessOrder (Run.writeTile n t c set acc) := by
  unfold Run.writeTile
  refine Run.climbs_get.bind fun s => (Run.climbs_tensorScale _ _ _).bind fun t0 => (Run.climbs_tensorScale _ _ _).bind fun t1 => ?_
  have hgen : ∀ (u : State) (g : Nat) (b : Bool) (q r : List Num),
      (((u.setGen n c.id g).shadowTile n (s.polderOf c) c b q r).core m).sets = (u.core m).sets := fun u g b q r =>
    (shadowTile_sets _ _ _ _ _ _ _ _).trans ((setsOrder m).gen u n c.id g)
  dsimp only
  split
  · exact (Run.climbs_drainAppend _ _ _ _ _).bind fun y => Run.climbs_modify fun u => hgen u _ _ _ _
  · refine (Run.climbs_drainTo _ _ _ _ _ _ _).bind fun y => Run.Climbs.bind ?_ fun st => Run.climbs_modify fun u => hgen u _ _ _ _
    exact Run.climbs_ite (Run.climbs_tensorScale _ _ _) (Run.climbs_pure _)
  · exact Run.climbs_pure _

end Sys2Proof.Machine
end

section
/-! PROOF. Passes and drains of a core (R189, R208–R217, R233). -/
namespace Sys2Proof.Machine

/-! ### The cores of a command that is cleared from them -/

theorem SMap.get_mem {β : Type} (d : Nat → β) (m : SMap β) (k : Nat) : SMap.get d m k = d k ∨ ∃ e ∈ m, SMap.get d m k = e.2 := by
  induction m with
  | nil => exact .inl rfl
  | cons e m ih =>
    unfold SMap.get
    split
    · exact .inr ⟨e, .head _, rfl⟩
    · rcases ih with h | ⟨x, hx, h⟩
      · exact .inl h
      · exact .inr ⟨x, .tail _ hx, h⟩

/-- What holds of a core without anything and of every core that is changed holds of all cores after the change. -/
theorem mapCores_core {P : CoreState → Prop} {f : CoreState → CoreState} (h0 : P CoreState.clear) (hf : ∀ k, P (f k)) (s : State) (n : Nat) :
    P ((s.mapCores f).core n) := by
  rcases SMap.get_mem (fun _ => CoreState.clear) (s.mapCores f).cores n with h | ⟨e, he, h⟩
  · rw [State.core, h]
    exact h0
  · rw [State.core, h]
    obtain ⟨x, -, rfl⟩ := List.mem_map.mp (List.mem_filter.mp he).1
    exact hf _

theorem clearArray_sets (s : State) (id n : Nat) : ∀ x ∈ ((s.clearArray id).core n).sets, x.cmd ≠ id := by
  refine mapCores_core (P := fun k => ∀ x ∈ k.sets, x.cmd ≠ id) nofun (fun k x hx => ?_) s n
  exact bne_iff_ne.mp (List.mem_filter.mp hx).2

theorem endArray_ends {s : State} {id : Nat} (h : MayEnd s id) (st : Nat) (a : Option Nat) (n : Nat) :
    Ends (s.endArray id st a) id st ∧ (∀ x ∈ ((s.endArray id st a).core n).sets, x.cmd ≠ id) ∧ (s.endArray id st a).mem = s.mem := by
  have hseam := spanEnd_frame ((s.clearArray id).endCmd id st a) id
  have hends := ((h.of_cmds (t := s.clearArray id) rfl).endCmd st a).kept hseam.spanFrame.2
  refine ⟨hends, ?_, hseam.mem⟩
  have hcore : (s.endArray id st a).core n = (s.clearArray id).core n := CoresKept.core (s := s.clearArray id) hseam.cores n
  rw [hcore]
  exact clearArray_sets s id n

/-! ### A pass -/

/-- A core that has begun a pass of a command. -/
def Passing (k k' : CoreState) (id : Nat) (retry : Bool) : Prop :=
  k'.sets = k.sets ∧ k'.passCmd = some id ∧ k'.passesOf id = k.passesOf id + 1 ∧ k'.redo = (if retry then k.redo.drop 1 else k.redo)

theorem settleFill_core (s : State) (n : Nat) : (s.settleFill n).core n = { s.core n with filled := s.tick } := core_setCore_same _ _ _

theorem settleFill_cmds (s : State) (n : Nat) : (s.settleFill n).cmds = s.cmds := by
  unfold State.settleFill
  dsimp only
  split <;> rfl

theorem countFreezes_kept (s : State) (n m : Nat) : CoresKept s (s.countFreezes n m) ∧ (s.countFreezes n m).cmds = s.cmds := by
  unfold State.countFreezes
  dsimp only
  split
  · exact ⟨rfl, rfl⟩
  · exact ⟨rfl, rfl⟩

/-- A core as it begins a pass. -/
def CoreState.begun (k : CoreState) (id : Nat) (retry : Bool) : CoreState :=
  { k with redo := if retry then k.redo.drop 1 else k.redo, passCmd := some id, passes := SMap.set (fun _ => 0) k.passes id (k.passesOf id + 1) }

theorem CoreState.begun_passing (k : CoreState) (id : Nat) (retry : Bool) : Passing k (k.begun id retry) id retry :=
  ⟨rfl, rfl, SMap.get_set_same (fun _ => 0) k.passes id (k.passesOf id + 1), rfl⟩

/-- The state in which a core begins a pass. -/
def coreBegun (s : State) (n : Nat) (c : Cmd) (retry : Bool) : State := (s.settleFill n).setCore n (((s.settleFill n).core n).begun c.id retry)

theorem coreBegun_passing (s : State) (n : Nat) (c : Cmd) (retry : Bool) : Passing (s.core n) ((coreBegun s n c retry).core n) c.id retry := by
  unfold coreBegun
  rw [core_setCore_same, settleFill_core]
  exact CoreState.begun_passing { s.core n with filled := s.tick } c.id retry

/-- The tile of a pass is taken off what its command has to do. -/
def todoTaken (s : State) (n : Nat) (c : Cmd) (retry : Bool) : State := match c.work with
  | .array todo m kv seed => if retry then s else s.setWork c.id (.array (takeTodo todo n) m kv seed)
  | _ => s

theorem todoTaken_kept (s : State) (n : Nat) (c : Cmd) (retry : Bool) :
    CoresKept s (todoTaken s n c retry) ∧ ∀ id, MayEnd s id → MayEnd (todoTaken s n c retry) id := by
  unfold todoTaken
  split
  · split
    · exact ⟨.refl s, fun _ h => h⟩
    · exact ⟨rfl, fun _ h => h.updCmd _ fun _ => ⟨rfl, rfl⟩⟩
  · exact ⟨.refl s, fun _ h => h⟩

theorem beginPass_kept (s : State) (n : Nat) (c : Cmd) (retry : Bool) (l : Nat) :
    CoresKept (coreBegun s n c retry) (s.beginPass n c retry l) ∧ ∀ id, MayEnd (coreBegun s n c retry) id → MayEnd (s.beginPass n c retry l) id := by
  obtain ⟨hcores, hmay⟩ := todoTaken_kept (coreBegun s n c retry) n c retry
  have hfreeze := fun m => countFreezes_kept (todoTaken (coreBegun s n c retry) n c retry) n m
  have hbump : ∀ t : State, CoresKept t (if retry then t.bumpFld (Reg.arrAbft n) 31 16 1 else t) ∧
      (if retry then t.bumpFld (Reg.arrAbft n) 31 16 1 else t).cmds = t.cmds := by
    intro t
    split
    · exact ⟨rfl, rfl⟩
    · exact ⟨rfl, rfl⟩
  exact ⟨(hcores.trans (hfreeze _).1).trans (hbump _).1, fun id h => ((hmay id h).of_cmds (hfreeze _).2).of_cmds (hbump _).2⟩

theorem beginPass_passing (s : State) (n : Nat) (c : Cmd) (retry : Bool) (l : Nat) :
    Passing (s.core n) ((s.beginPass n c retry l).core n) c.id retry := by
  rw [(beginPass_kept s n c retry l).1.core]
  exact coreBegun_passing s n c retry

theorem beginPass_mayEnd {s : State} {id : Nat} (h : MayEnd s id) (n : Nat) (c : Cmd) (retry : Bool) (l : Nat) : MayEnd (s.beginPass n c retry l) id :=
  (beginPass_kept s n c retry l).2 id (h.of_cmds (settleFill_cmds s n))

/-- Staging changes nothing of its core but what is staged, and leaves a command that may end. -/
theorem stagePiece_keeps (s : State) (n : Nat) (c : Cmd) (t : Tmpl) (tile : Tile) :
    (∃ g, (s.stagePiece n c t tile).2.core n = { s.core n with staged := g }) ∧ ∀ id, MayEnd s id → MayEnd (s.stagePiece n c t tile).2 id := by
  have hgather : ∀ (u : State) rq p addrs, CoresKept u (u.gather rq p addrs).2.2 ∧ ∀ id, MayEnd u id → MayEnd (u.gather rq p addrs).2.2 id :=
    fun u rq p addrs => ⟨coresOrder.gather u rq p addrs, endsOrder.toAccessOrder.gather u rq p addrs⟩
  unfold State.stagePiece
  dsimp only
  split
  · exact ⟨⟨(s.core n).staged, rfl⟩, fun _ h => h⟩
  · have hfirst := hgather s (reqCore c n) (s.polderOf c)
      (((passTiles t (((outerPieces t c.desc (max 1 (s.partCores (s.polderOf c) t.cores).length)).find? (fun x => tileIn x tile)).getD tile)).map
        (passNeeds t c.desc)).flatMap (fun x => x.1))
    split
    next heq =>
      rw [heq] at hfirst
      exact ⟨⟨(s.core n).staged, hfirst.1.core n⟩, hfirst.2⟩
    next m0 u heq =>
      rw [heq] at hfirst
      have hsecond := hgather u (fun col => { reqCore c n col with reach := u.weightReach t (.core n) }) (s.polderOf c)
        (((passTiles t (((outerPieces t c.desc (max 1 (s.partCores (s.polderOf c) t.cores).length)).find? (fun x => tileIn x tile)).getD tile)).map
          (passNeeds t c.desc)).flatMap (fun x => x.2))
      have hcores := hfirst.1.trans hsecond.1
      split
      next heq2 =>
        rw [heq2] at hsecond hcores
        exact ⟨⟨(s.core n).staged, hcores.core n⟩, fun id h => hsecond.2 id (hfirst.2 id h)⟩
      next heq2 =>
        rw [heq2] at hsecond hcores
        exact ⟨⟨some _, by rw [core_setCore_same, hcores.core n]⟩, fun id h => hsecond.2 id (hfirst.2 id h)⟩

theorem Passing.staged {k k' k'' : CoreState} {id : Nat} {retry : Bool} (h : Passing k k' id retry) {g : Option Staged}
    (hg : k'' = { k' with staged := g }) : Passing k k'' id retry := by
  subst hg
  exact h

/-- What a pass that is filled leaves: its set, and nothing else of the memories and registers. -/
theorem fillSet_keeps (s : State) (n : Nat) (c : Cmd) (t : Tmpl) (tile : Tile) (retry : Bool) (l fill : Nat) (g : Staged) :
    (∃ x : AccSet, ((s.fillSet n c t tile retry l fill g).core n).sets = (s.core n).sets ++ [x] ∧ x.cmd = c.id ∧ x.tile = tile ∧ x.retry = retry) ∧
    ((s.fillSet n c t tile retry l fill g).core n).passCmd = (s.core n).passCmd ∧
    ((s.fillSet n c t tile retry l fill g).core n).passes = (s.core n).passes ∧
    ((s.fillSet n c t tile retry l fill g).core n).redo = (s.core n).redo ∧
    (s.fillSet n c t tile retry l fill g).mem = s.mem ∧ (s.fillSet n c t tile retry l fill g).regs = s.regs := by
  have hcount : ∀ u : State, CoresKept u (if retry then u.addCnt (Reg.arrCntRetryCycles n) l else u) ∧
      (if retry then u.addCnt (Reg.arrCntRetryCycles n) l else u).mem = u.mem ∧ (if retry then u.addCnt (Reg.arrCntRetryCycles n) l else u).regs = u.regs := by
    intro u
    split
    · exact ⟨rfl, rfl, rfl⟩
    · exact ⟨rfl, rfl, rfl⟩
  obtain ⟨hcores, hmem, hregs⟩ := hcount ((s.addCnt (Reg.arrCntBusy n) (l + fill)).addCnt (Reg.arrCntPasses n) 1)
  unfold State.fillSet
  dsimp only
  rw [core_setCore_same]
  generalize (if retry then ((s.addCnt (Reg.arrCntBusy n) (l + fill)).addCnt (Reg.arrCntPasses n) 1).addCnt (Reg.arrCntRetryCycles n) l
    else (s.addCnt (Reg.arrCntBusy n) (l + fill)).addCnt (Reg.arrCntPasses n) 1) = u at hcores hmem hregs ⊢
  have hcore : u.core n = s.core n := hcores.core n
  have hsets : (u.core n).sets = (s.core n).sets := congrArg CoreState.sets hcore
  have hcmd : (u.core n).passCmd = (s.core n).passCmd := congrArg CoreState.passCmd hcore
  have hpasses : (u.core n).passes = (s.core n).passes := congrArg CoreState.passes hcore
  have hredo : (u.core n).redo = (s.core n).redo := congrArg CoreState.redo hcore
  exact ⟨⟨_, congrArg (· ++ [_]) hsets, rfl, rfl, rfl⟩, hcmd, hpasses, hredo, hmem, hregs⟩

theorem dropPass_ends {s : State} {c : Cmd} (h : MayEnd s c.id) (n m : Nat) (retry : Bool) (l fill : Nat) (e : Nat × Nat) :
    Ends (s.dropPass n c retry l fill e) c.id e.1 ∧ (∀ x ∈ ((s.dropPass n c retry l fill e).core m).sets, x.cmd ≠ c.id) ∧
      (s.dropPass n c retry l fill e).mem = s.mem := by
  have hcount : ∀ u : State, u.cmds = s.cmds → u.mem = s.mem →
      Ends ((u.clearArray c.id).failCmd c.id e) c.id e.1 ∧ (∀ x ∈ (((u.clearArray c.id).failCmd c.id e).core m).sets, x.cmd ≠ c.id) ∧
        ((u.clearArray c.id).failCmd c.id e).mem = s.mem :=
    fun u hc hm => ⟨(h.of_cmds (t := u.clearArray c.id) hc).failCmd e, clearArray_sets u c.id m, hm⟩
  unfold State.dropPass
  dsimp only
  refine hcount _ ?_ ?_
  · split <;> rfl
  · split <;> rfl

/-! ### A drain -/

theorem popSet_core (s : State) (n : Nat) (rest : List AccSet) (vs : List Nat) : (s.popSet n rest vs).core n = { s.core n with sets := rest } :=
  core_setCore_same _ _ _

/-- What a mismatch leaves alone. -/
def MismatchFrame (n : Nat) (s t : State) : Prop :=
  (∃ l, t.core n = { s.core n with mismatch := l }) ∧ t.mem = s.mem ∧ t.image = s.image ∧ t.cmds = s.cmds

theorem MismatchFrame.of_cores {n : Nat} {s t : State} (h : t.cores = s.cores) (hm : t.mem = s.mem) (hi : t.image = s.image) (hc : t.cmds = s.cmds) :
    MismatchFrame n s t := ⟨⟨(s.core n).mismatch, CoresKept.core h n⟩, hm, hi, hc⟩

theorem MismatchFrame.trans {n : Nat} {s t u : State} (h : MismatchFrame n s t) (k : MismatchFrame n t u) : MismatchFrame n s u := by
  obtain ⟨⟨l, hl⟩, hm, hi, hc⟩ := h
  obtain ⟨⟨l', kl⟩, km, ki, kc⟩ := k
  refine ⟨⟨l', ?_⟩, km.trans hm, ki.trans hi, kc.trans hc⟩
  rw [kl, hl]

theorem MismatchFrame.event (n : Nat) (s : State) (code : Nat) (src : Nat × Nat) (k : Option Nat) (data : Nat) : MismatchFrame n s (s.event code src k data) :=
  .of_cores (s.event_cores ..) (s.event_mem ..) (s.event_image ..) (s.event_cmds ..)

theorem MismatchFrame.noted (n : Nat) (s : State) (l : List Nat) : MismatchFrame n s (s.setCore n { s.core n with mismatch := l }) :=
  ⟨⟨l, core_setCore_same _ _ _⟩, rfl, rfl, rfl⟩

theorem MismatchFrame.refl (n : Nat) (s : State) : MismatchFrame n s s := .of_cores rfl rfl rfl rfl

theorem MismatchFrame.dated (n : Nat) (s : State) (a hi lo m b c v : Nat) : MismatchFrame n s ((s.bumpFld a hi lo m).setPair b c v) :=
  .of_cores rfl rfl rfl rfl

theorem MismatchFrame.lowered (n : Nat) (s : State) (v a hi lo m : Nat) : MismatchFrame n s (((s.setCeiling n v).setAbftCap n v).bumpFld a hi lo m) :=
  .of_cores rfl rfl rfl rfl

theorem suspectCore_frame (s : State) (n : Nat) : MismatchFrame n s (s.suspectCore n) := by
  unfold State.suspectCore
  split
  · exact .of_cores rfl rfl rfl rfl
  · exact MismatchFrame.trans (.of_cores (t := s.setBit (Reg.arrHealth n) 31 true) rfl rfl rfl rfl) (.event _ _ _ _ _ _)

theorem mismatch_frame (s : State) (n addr : Nat) (retry : Bool) : MismatchFrame n s (s.mismatch n addr retry) := by
  have hrecorded := (MismatchFrame.dated n s (Reg.arrHealth n) 7 0 1 (Reg.arrMismatchTickLo n) (Reg.arrMismatchTickHi n) ((s.bumpFld (Reg.arrHealth n) 7 0 1).tick % 2 ^ 64)).trans
    (.event n _ 0x0301 (Src.core n) none (dataOf [(0, addr % 2 ^ 48), (8, b2n retry)]))
  unfold State.mismatch
  dsimp only
  generalize ((s.bumpFld (Reg.arrHealth n) 7 0 1).setPair (Reg.arrMismatchTickLo n) (Reg.arrMismatchTickHi n)
    ((s.bumpFld (Reg.arrHealth n) 7 0 1).tick % 2 ^ 64)).event 0x0301 (Src.core n) none (dataOf [(0, addr % 2 ^ 48), (8, b2n retry)]) = t at hrecorded ⊢
  have hsuspected : ∀ u : State, MismatchFrame n t u → MismatchFrame n t (if 8 ≤ u.fld (Reg.arrHealth n) 7 0 then u.suspectCore n else u) := by
    intro u h
    split
    · exact h.trans (suspectCore_frame _ _)
    · exact h
  refine hrecorded.trans (hsuspected _ ?_)
  split
  · exact .noted _ _ _
  · refine (MismatchFrame.noted n t []).trans ?_
    split
    · exact suspectCore_frame _ _
    · exact (MismatchFrame.lowered n _ _ _ _ _ _).trans (.event _ _ _ _ _ _)

end Sys2Proof.Machine
end

section
/-! PROOF. PASS_START and DRAIN_COMPLETE by what they meet (R189, R208–R217, R233). -/
namespace Sys2Proof.Machine

/-! ### PASS_START -/

section
variable {s : State} {n id : Nat} {env : Env} {tile : Tile} {retry : Bool} {c : Cmd} {t : Tmpl}

/-- A pass as its operands and weights have been staged. -/
def staged (s : State) (n : Nat) (env : Env) (c : Cmd) (t : Tmpl) (tile : Tile) (retry : Bool) : Except (Nat × Nat) Staged × State :=
  ((s.arrive env).beginPass n c retry (passCycles t c.desc)).stagePiece n c t tile

theorem passStart_runs (hp : s.canPass n = true) (hn : s.nextPass n = some (id, tile, retry)) (hh : s.idHeld id = false) :
    doPassStart n env s = (s.arrive env).runPass n id tile retry := by
  unfold doPassStart
  simp only [hp, hn, hh, if_true, Bool.false_eq_true, if_false]

theorem runPass_fills {g : Staged} (hc : s.cmd? id = some c) (ht : s.template c = some t) (hg : (staged s n env c t tile retry).1 = .ok g) :
    (s.arrive env).runPass n id tile retry = (staged s n env c t tile retry).2.fillSet n c t tile retry (passCycles t c.desc)
      ((s.arrive env).fillCycles n c.id) g := by
  have hc' : (s.arrive env).cmd? id = some c := hc
  have ht' : (s.arrive env).template c = some t := ht
  unfold staged at hg ⊢
  unfold State.runPass
  simp only [hc', ht']
  generalize ((s.arrive env).beginPass n c retry (passCycles t c.desc)).stagePiece n c t tile = x at hg ⊢
  obtain ⟨r, v⟩ := x
  obtain rfl : r = .ok g := hg
  rfl

theorem runPass_drops {e : Nat × Nat} (hc : s.cmd? id = some c) (ht : s.template c = some t) (hg : (staged s n env c t tile retry).1 = .error e) :
    (s.arrive env).runPass n id tile retry = (staged s n env c t tile retry).2.dropPass n c retry (passCycles t c.desc)
      ((s.arrive env).fillCycles n c.id) e := by
  have hc' : (s.arrive env).cmd? id = some c := hc
  have ht' : (s.arrive env).template c = some t := ht
  unfold staged at hg ⊢
  unfold State.runPass
  simp only [hc', ht']
  generalize ((s.arrive env).beginPass n c retry (passCycles t c.desc)).stagePiece n c t tile = x at hg ⊢
  obtain ⟨r, v⟩ := x
  obtain rfl : r = .error e := hg
  rfl

/-- The core of a pass once staged. -/
theorem staged_passing (s : State) (n : Nat) (env : Env) (c : Cmd) (t : Tmpl) (tile : Tile) (retry : Bool) :
    Passing (s.core n) ((staged s n env c t tile retry).2.core n) c.id retry := by
  obtain ⟨⟨g, hg⟩, -⟩ := stagePiece_keeps ((s.arrive env).beginPass n c retry (passCycles t c.desc)) n c t tile
  exact (beginPass_passing (s.arrive env) n c retry _).staged hg

theorem staged_mayEnd (h : MayEnd s id) : MayEnd (staged s n env c t tile retry).2 id :=
  (stagePiece_keeps _ n c t tile).2 id (beginPass_mayEnd (s := s.arrive env) (h.of_cmds rfl) n c retry _)

/-- What a pass that is filled leaves. -/
theorem passStart_fills (hn : n < 256) (hp : s.canPass n = true) (hnext : s.nextPass n = some (id, tile, retry)) (hh : s.idHeld id = false)
    (hc : s.cmd? id = some c) (ht : s.template c = some t) {g : Staged} (hg : (staged s n env c t tile retry).1 = .ok g) :
    Completes (.passStart n env) s (fun u => (∃ x, (u.core n).sets = (s.core n).sets ++ [x] ∧ x.cmd = id ∧ x.tile = tile ∧ x.retry = retry) ∧
      (u.core n).passCmd = some id ∧ (u.core n).passesOf id = (s.core n).passesOf id + 1 ∧
      (u.core n).redo = (if retry then (s.core n).redo.drop 1 else (s.core n).redo) ∧
      u.mem = (staged s n env c t tile retry).2.mem ∧ u.regs = (staged s n env c t tile retry).2.regs) := by
  obtain rfl : c.id = id := cmd?_id hc
  refine completes_of (exec_passStart n env s) (decide_eq_true hn) ?_
  rw [passStart_runs hp hnext hh, runPass_fills hc ht hg, State.withQueue_read_core]
  obtain ⟨hsets, hcmd, hpasses, hredo⟩ := staged_passing s n env c t tile retry
  obtain ⟨⟨x, hx, hid, htile, hretry⟩, kcmd, kpasses, kredo, hmem, hregs⟩ := fillSet_keeps (staged s n env c t tile retry).2 n c t tile retry
    (passCycles t c.desc) ((s.arrive env).fillCycles n c.id) g
  refine ⟨⟨x, by rw [hx, hsets], hid, htile, hretry⟩, kcmd.trans hcmd, ?_, kredo.trans hredo, hmem, hregs⟩
  rw [CoreState.passesOf, kpasses]
  exact hpasses

theorem passStart_drops (hn : n < 256) (hp : s.canPass n = true) (hnext : s.nextPass n = some (id, tile, retry)) (hh : s.idHeld id = false)
    (hc : s.cmd? id = some c) (ht : s.template c = some t) {st a : Nat} (hg : (staged s n env c t tile retry).1 = .error (st, a)) (hr : c.phase = .running) :
    Completes (.passStart n env) s (fun u => Ends u id st ∧ (∀ x ∈ (u.core n).sets, x.cmd ≠ id) ∧ u.mem = (staged s n env c t tile retry).2.mem) := by
  obtain rfl : c.id = id := cmd?_id hc
  refine completes_of (exec_passStart n env s) (decide_eq_true hn) ?_
  rw [passStart_runs hp hnext hh, runPass_drops hc ht hg, State.withQueue_read_core]
  have hmay : MayEnd s c.id := ⟨c, hc, Cmd.not_stopping_of_running hr⟩
  exact dropPass_ends (staged_mayEnd hmay) n n retry _ _ (st, a)

end

/-! ### DRAIN_COMPLETE -/

section
variable {s u : State} {n : Nat} {env : Env} {defects : List Defect} {set : AccSet} {rest : List AccSet} {c : Cmd} {t : Tmpl}

theorem drainComplete_drains (h : (s.core n).sets = set :: rest) (hf : s.fencedCore n = false) (hh : s.halted = false) (hi : s.idHeld set.cmd = false) :
    doDrainComplete n defects env s = (s.arrive env).drainSet n defects set rest := by
  unfold doDrainComplete
  simp only [h, hf, hh, hi, Bool.or_self, Bool.false_eq_true, if_false]

theorem drainSet_gone (h : u.cmd? set.cmd = none) : u.drainSet n defects set rest = u.setCore n { u.core n with sets := rest } := by
  unfold State.drainSet
  rw [h]

theorem drainSet_waits (hc : u.cmd? set.cmd = some c) (ht : u.template c = some t) (hr : c.phase = .running) (hw : u.drainWaits n t c set = true) :
    u.drainSet n defects set rest = u := by
  unfold State.drainSet
  simp only [hc, ht, hr, hw, if_true]

theorem drainSet_redoes (hc : u.cmd? set.cmd = some c) (ht : u.template c = some t) (hr : c.phase = .running) (hw : u.drainWaits n t c set = false)
    (hv : (drainVerdicts t c.desc defects set).contains 1 = true) :
    u.drainSet n defects set rest = (u.popSet n rest (drainVerdicts t c.desc defects set)).redoTile n t c set := by
  unfold State.drainSet
  simp only [hc, ht, hr, hw, hv, if_true, Bool.false_eq_true, if_false]

theorem drainSet_passes (hc : u.cmd? set.cmd = some c) (ht : u.template c = some t) (hr : c.phase = .running) (hw : u.drainWaits n t c set = false)
    (hv : (drainVerdicts t c.desc defects set).contains 1 = false) :
    u.drainSet n defects set rest = (u.popSet n rest (drainVerdicts t c.desc defects set)).passTile n t c set
      (((drainRows defects set).zip set.acc).map (fun x => x.1.take x.2.length)) := by
  unfold State.drainSet
  simp only [hc, ht, hr, hw, hv, Bool.false_eq_true, if_false]

/-- The tile of a first execution that failed is put up for another. -/
theorem redoTile_again {v : State} (hr : set.retry = false) : ((v.redoTile n t c set).core n).sets = (v.core n).sets ∧
    ((v.redoTile n t c set).core n).redo = (v.core n).redo ++ [(c.id, set.tile)] ∧ (v.redoTile n t c set).mem = v.mem ∧
    (v.redoTile n t c set).image = v.image := by
  obtain ⟨⟨l, hl⟩, hmem, himage, -⟩ := mismatch_frame v n (v.tileAddr t c set.tile) set.retry
  unfold State.redoTile
  simp only [hr, Bool.false_eq_true, if_false]
  rw [hr] at hl hmem himage
  generalize v.mismatch n (v.tileAddr t c set.tile) false = w at hl hmem himage ⊢
  rw [core_setCore_same]
  have hcore : (w.warnCmd c.id Wn.abftRetry).core n = { v.core n with mismatch := l } := hl
  rw [hcore]
  exact ⟨rfl, rfl, hmem, himage⟩

/-- A second execution that failed ends the command. -/
theorem redoTile_ends {v : State} (hr : set.retry = true) (h : MayEnd v c.id) : Ends (v.redoTile n t c set) c.id St.uncorrectable ∧
    (∀ x ∈ ((v.redoTile n t c set).core n).sets, x.cmd ≠ c.id) ∧ (v.redoTile n t c set).mem = v.mem := by
  obtain ⟨-, hmem, -, hcmds⟩ := mismatch_frame v n (v.tileAddr t c set.tile) set.retry
  unfold State.redoTile
  simp only [hr, if_true]
  rw [hr] at hmem hcmds
  generalize v.mismatch n (v.tileAddr t c set.tile) true = w at hmem hcmds ⊢
  have hwarned : MayEnd (w.warnCmd c.id Wn.abftRetry) c.id := (h.of_cmds hcmds).updCmd c.id (f := fun k => { k with warn := setWarn k.warn Wn.abftRetry })
    fun _ => ⟨rfl, rfl⟩
  obtain ⟨hends, hsets, kmem⟩ := endArray_ends hwarned St.uncorrectable (some (v.tileAddr t c set.tile)) n
  exact ⟨hends, hsets, kmem.trans hmem⟩

/-- A tile that is written and is not its command's last one. -/
theorem passTile_writes {v w : State} {acc : List (List Word)} (hrun : Run.writeTile n t c set acc v = .ok () w) (hd : w.arrayDone c.id = false)
    (hk : ∃ k, w.cmd? c.id = some k ∧ k.phase = .running) : v.passTile n t c set acc = w := by
  obtain ⟨k, hk, hph⟩ := hk
  have hon : v.runOn c.id (Run.writeTile n t c set acc) = w := by
    unfold State.runOn
    rw [hrun]
  unfold State.passTile
  simp only [hon, hk, hph, decide_true, if_true]
  unfold State.finishArray
  simp only [hk, hd, Bool.not_false, if_true]

end

end Sys2Proof.Machine
end

section
/-! PROOF. The shadow lane and the clears of a core's registers (R222, R243–R247, R255, R258). -/
namespace Sys2Proof.Machine

/-! ### The drift of a polder -/

/-- D of a polder after a sample. -/
def driftAfter (s : State) (p : Nat) (e : Word) : Word :=
  if SMap.get (fun _ => false) s.drifted p then
    ((f32 (s.reg (Reg.precDrift p))).fadd (((f32 e).fsub (f32 (s.reg (Reg.precDrift p)))).fmul (.fin false 1 (-4)))).bits32
  else e

/-- What a sample may change besides D. -/
def DriftFrame (p : Nat) (s t : State) : Prop :=
  t.cmds = s.cmds ∧ t.mem = s.mem ∧ t.cores = s.cores ∧
    ∀ a, a ≠ Reg.precDriftPeak p → a ≠ Reg.precDriftStatus p → a ≠ Reg.almLost → a ≠ Reg.almStatus → t.reg a = s.reg a

theorem DriftFrame.refl (p : Nat) (s : State) : DriftFrame p s s := ⟨rfl, rfl, rfl, fun _ _ _ _ _ => rfl⟩

theorem DriftFrame.trans {p : Nat} {s t u : State} (h : DriftFrame p s t) (k : DriftFrame p t u) : DriftFrame p s u :=
  ⟨k.1.trans h.1, k.2.1.trans h.2.1, k.2.2.1.trans h.2.2.1, fun a h1 h2 h3 h4 => (k.2.2.2 a h1 h2 h3 h4).trans (h.2.2.2 a h1 h2 h3 h4)⟩

theorem DriftFrame.peak (p : Nat) (s : State) (v : Word) : DriftFrame p s (s.setReg (Reg.precDriftPeak p) v) :=
  ⟨rfl, rfl, rfl, fun _ h _ _ _ => State.reg_setReg_ne s v h⟩

theorem DriftFrame.status (p : Nat) (s : State) (b : Bool) : DriftFrame p s (s.setBit (Reg.precDriftStatus p) 0 b) :=
  ⟨rfl, rfl, rfl, fun _ _ h _ _ => State.reg_setBit_ne s 0 b h⟩

theorem DriftFrame.crossed (p : Nat) (s : State) (sentinel : SMap Bool) (code : Nat) (src : Nat × Nat) (k : Option Nat) (data : Nat) :
    DriftFrame p s ({ s.bumpFld (Reg.precDriftStatus p) 31 16 1 with sentinel := sentinel }.event code src k data) := by
  refine DriftFrame.trans (t := { s.bumpFld (Reg.precDriftStatus p) 31 16 1 with sentinel := sentinel })
    ⟨rfl, rfl, rfl, fun _ _ h _ _ => State.reg_setFld_ne s _ _ _ h⟩ ?_
  exact ⟨State.event_cmds .., State.event_mem .., State.event_cores .., fun a _ _ h1 h2 => State.reg_event _ _ _ _ _ a h1 h2⟩

/-- A sample may raise the peak. -/
def peakRaised (s : State) (p : Nat) (v : Word) : State :=
  if (f32 (s.reg (Reg.precDriftPeak p))).lt (f32 v) then s.setReg (Reg.precDriftPeak p) v else s

theorem peakRaised_frame (s : State) (p : Nat) (v : Word) : DriftFrame p s (peakRaised s p v) := by
  unfold peakRaised
  split
  · exact .peak p s v
  · exact .refl p s

/-- The drift after a sample judged against its limit: ABOVE set with its event, cleared, or left. -/
def driftJudged (s : State) (p : Nat) (sh : Shadow) (old new : Word) : State :=
  let limit := BitVec.ofNat 32 (((s.formatRec p).map (fun r => r.driftLimit)).getD 0)
  if (f32 old).le (f32 limit) && (f32 limit).lt (f32 new) && !s.bit (Reg.precDriftStatus p) 0 then
    { (s.setBit (Reg.precDriftStatus p) 0 true).bumpFld (Reg.precDriftStatus p) 31 16 1 with
      sentinel := SMap.set (fun _ => false) s.sentinel p true }.event 0x0304 (Src.polder p) (some sh.ctx)
        (dataOf [(0, new.toNat), (4, limit.toNat), (8, sh.slot)])
  else if (f32 new).le ((f32 limit).mul (.fin false 3 (-2))) then s.setBit (Reg.precDriftStatus p) 0 false
  else s

theorem driftJudged_frame (s : State) (p : Nat) (sh : Shadow) (old new : Word) : DriftFrame p s (driftJudged s p sh old new) := by
  unfold driftJudged
  dsimp only
  split
  · exact (DriftFrame.status p s true).trans (.crossed p _ _ _ _ _ _)
  · split
    · exact .status p s false
    · exact .refl p s

/-- D of a polder with its first-sample mark. -/
def driftTaken (s : State) (p : Nat) (v : Word) : State :=
  State.setReg { s with drifted := SMap.set (fun _ => false) s.drifted p true } (Reg.precDrift p) v

theorem driftUpdate_eq (s : State) (p : Nat) (sh : Shadow) (e : Word) : s.driftUpdate p sh e =
    driftJudged (peakRaised (driftTaken s p (driftAfter s p e)) p (driftAfter s p e)) p sh (s.reg (Reg.precDrift p)) (driftAfter s p e) := rfl

theorem driftUpdate_frame (s : State) (p : Nat) (sh : Shadow) (e : Word) :
    DriftFrame p (driftTaken s p (driftAfter s p e)) (s.driftUpdate p sh e) := by
  rw [driftUpdate_eq]
  exact (peakRaised_frame _ p _).trans (driftJudged_frame _ p sh _ _)

theorem driftUpdate_drift (s : State) (p : Nat) (sh : Shadow) (e : Word) (hp : p < 32) :
    (s.driftUpdate p sh e).reg (Reg.precDrift p) = driftAfter s p e := by
  obtain ⟨-, -, -, hregs⟩ := driftUpdate_frame s p sh e
  rw [hregs _ (by show 0x494000 + 0x10 * p ≠ 0x494004 + 0x10 * p; omega) (by show 0x494000 + 0x10 * p ≠ 0x494008 + 0x10 * p; omega)
    (by show 0x494000 + 0x10 * p ≠ 0x600010; omega) (by show 0x494000 + 0x10 * p ≠ 0x600000; omega)]
  exact State.reg_setReg_same ..

/-! ### SHADOW_SAMPLE_END -/

/-- The lane of a core free again, and its sample counted in a field of PREC_SHADOW. -/
def laneFreed (s : State) (n hi lo : Nat) : State := (s.setCore n { s.core n with shadow := none }).bumpFld (Reg.precShadow n) hi lo 1

section
variable {s : State} {n : Nat} {sh : Shadow}

theorem shadowSampleEnd_skips (h : (s.core n).shadow = some sh) (he : sh.err = none) : doShadowSampleEnd n s = laneFreed s n 31 16 := by
  unfold doShadowSampleEnd
  simp only [h, he]
  rfl

theorem shadowSampleEnd_samples {e : Word} (h : (s.core n).shadow = some sh) (he : sh.err = some e) :
    doShadowSampleEnd n s = (laneFreed s n 15 0).driftUpdate sh.polder sh e := by
  unfold doShadowSampleEnd
  simp only [h, he]
  rfl

theorem laneFreed_core (s : State) (n hi lo : Nat) : (laneFreed s n hi lo).core n = { s.core n with shadow := none } ∧
    ∀ m, m ≠ n → (laneFreed s n hi lo).core m = s.core m := ⟨core_setCore_same _ _ _, fun _ h => core_setCore_ne s h _⟩

theorem laneFreed_reg (s : State) (n hi lo : Nat) {a : Nat} (h : a ≠ Reg.precShadow n) : (laneFreed s n hi lo).reg a = s.reg a :=
  State.reg_setFld_ne (s.setCore n { s.core n with shadow := none }) hi lo _ h

end

/-! ### The clears -/

theorem foldl_setCnt (l : List Nat) (s : State) : (∀ a ∈ l, (l.foldl (fun s a => s.setCnt a 0) s).cnt a = 0) ∧
    (∀ a, a ∉ l → (l.foldl (fun s a => s.setCnt a 0) s).cnt a = s.cnt a) := by
  induction l generalizing s with
  | nil => exact ⟨nofun, fun _ _ => rfl⟩
  | cons b l ih =>
    obtain ⟨hin, hout⟩ := ih (s.setCnt b 0)
    refine ⟨fun a ha => ?_, fun a ha => ?_⟩
    · by_cases hl : a ∈ l
      · exact hin a hl
      · obtain rfl : a = b := (List.mem_cons.mp ha).resolve_right hl
        exact (hout a hl).trans ((State.cnt_setCnt s a 0 a).trans (if_pos rfl))
    · obtain ⟨hne, hl⟩ := not_or.mp (fun h => ha (List.mem_cons.mpr h))
      exact (hout a hl).trans ((State.cnt_setCnt s b 0 a).trans (if_neg hne))

/-- A state that differs in its counters alone. -/
def CntsOnly (s t : State) : Prop := t = { s with cnts := t.cnts }

theorem CntsOnly.trans {s t u : State} (h : CntsOnly s t) (k : CntsOnly t u) : CntsOnly s u := by
  unfold CntsOnly at *
  rw [k, h]

theorem foldl_setCnt_only (l : List Nat) (s : State) : CntsOnly s (l.foldl (fun s a => s.setCnt a 0) s) := by
  induction l generalizing s with
  | nil => exact rfl
  | cons b l ih => exact CntsOnly.trans (t := s.setCnt b 0) rfl (ih _)

theorem clearDrift_clears (s : State) (p : Nat) : (s.clearDrift p).reg (Reg.precDrift p) = 0 ∧ (s.clearDrift p).reg (Reg.precDriftPeak p) = 0 ∧
    (s.clearDrift p).bit (Reg.precDriftStatus p) 0 = false ∧
    ∀ a, a ≠ Reg.precDrift p → a ≠ Reg.precDriftPeak p → a ≠ Reg.precDriftStatus p → (s.clearDrift p).reg a = s.reg a := by
  have hreg : ∀ a, (s.clearDrift p).reg a =
      (((s.setReg (Reg.precDrift p) 0).setReg (Reg.precDriftPeak p) 0).setBit (Reg.precDriftStatus p) 0 false).reg a := fun _ => rfl
  have hbit : ∀ a i, (s.clearDrift p).bit a i =
      (((s.setReg (Reg.precDrift p) 0).setReg (Reg.precDriftPeak p) 0).setBit (Reg.precDriftStatus p) 0 false).bit a i := fun _ _ => rfl
  refine ⟨?_, ?_, ?_, fun a h1 h2 h3 => ?_⟩
  · rw [hreg, State.reg_setBit_ne _ _ _ (by show 0x494000 + 0x10 * p ≠ 0x494008 + 0x10 * p; omega),
      State.reg_setReg_ne _ _ (by show 0x494000 + 0x10 * p ≠ 0x494004 + 0x10 * p; omega), State.reg_setReg_same]
  · rw [hreg, State.reg_setBit_ne _ _ _ (by show 0x494004 + 0x10 * p ≠ 0x494008 + 0x10 * p; omega), State.reg_setReg_same]
  · rw [hbit]
    exact State.bit_setBit_same _ _ _ _ (by decide)
  · rw [hreg, State.reg_setBit_ne _ _ _ h3, State.reg_setReg_ne _ _ h2, State.reg_setReg_ne _ _ h1]

theorem clearDrift_rest (s : State) (p : Nat) : (s.clearDrift p).pending = s.pending ∧
    { s.clearDrift p with regs := s.regs, drifted := s.drifted } = s := by
  have honly : RegsOnly s (((s.setReg (Reg.precDrift p) 0).setReg (Reg.precDriftPeak p) 0).setBit (Reg.precDriftStatus p) 0 false) :=
    (((RegsOnly.refl s).setReg _ _).setReg _ _).setBit _ _ _
  unfold State.clearDrift
  dsimp only
  generalize ((s.setReg (Reg.precDrift p) 0).setReg (Reg.precDriftPeak p) 0).setBit (Reg.precDriftStatus p) 0 false = t at honly ⊢
  rw [honly]
  exact ⟨rfl, rfl⟩

end Sys2Proof.Machine
end

section
/-! PROOF. PASS_START, DRAIN_COMPLETE, SHADOW_SAMPLE_END and the clears as rows (O25). -/
namespace Sys2Proof.Machine

section
variable {s : State} {n : Nat} {env : Env} {defects : List Defect} {set : AccSet} {rest : List AccSet} {c : Cmd} {t : Tmpl}

/-- The oldest set of a core that may be drained: nothing holds the core or the set's command back. -/
def Drains (s : State) (n : Nat) (set : AccSet) (rest : List AccSet) : Prop :=
  (s.core n).sets = set :: rest ∧ s.fencedCore n = false ∧ s.halted = false ∧ s.idHeld set.cmd = false

theorem Drains.row (h : Drains s n set rest) (hn : n < 256) : Becomes (.drainComplete n defects env) s ((s.arrive env).drainSet n defects set rest) := by
  obtain ⟨hset, hf, hh, hi⟩ := h
  exact becomes_of (exec_drainComplete n defects env s) (decide_eq_true hn) (drainComplete_drains hset hf hh hi)

theorem popSet_cmds (s : State) (n : Nat) (rest : List AccSet) (vs : List Nat) : (s.popSet n rest vs).cmds = s.cmds := rfl

theorem popSet_mem (s : State) (n : Nat) (rest : List AccSet) (vs : List Nat) : (s.popSet n rest vs).mem = s.mem := rfl

theorem popSet_image (s : State) (n : Nat) (rest : List AccSet) (vs : List Nat) : (s.popSet n rest vs).image = s.image := rfl

/-- A tile that fails its check, in either execution. -/
theorem Drains.fails (h : Drains s n set rest) (hn : n < 256) (hc : s.cmd? set.cmd = some c) (ht : s.template c = some t) (hr : c.phase = .running)
    (hw : (s.arrive env).drainWaits n t c set = false) (hv : (drainVerdicts t c.desc defects set).contains 1 = true) :
    (set.retry = false → Completes (.drainComplete n defects env) s (fun w =>
      (w.core n).sets = rest ∧ (w.core n).redo = (s.core n).redo ++ [(c.id, set.tile)] ∧ w.mem = (s.arrive env).mem ∧ w.image = s.image)) ∧
    (set.retry = true → Completes (.drainComplete n defects env) s (fun w =>
      Ends w c.id St.uncorrectable ∧ (∀ x ∈ (w.core n).sets, x.cmd ≠ c.id) ∧ w.mem = (s.arrive env).mem)) := by
  have hrow : Becomes (.drainComplete n defects env) s _ := h.row hn
  rw [drainSet_redoes (u := s.arrive env) hc ht hr hw hv] at hrow
  have hcore : ((s.arrive env).popSet n rest (drainVerdicts t c.desc defects set)).core n = { s.core n with sets := rest } := popSet_core (s.arrive env) n rest _
  have hmem := popSet_mem (s.arrive env) n rest (drainVerdicts t c.desc defects set)
  have himage := popSet_image (s.arrive env) n rest (drainVerdicts t c.desc defects set)
  have hmay : MayEnd ((s.arrive env).popSet n rest (drainVerdicts t c.desc defects set)) c.id :=
    MayEnd.of_cmds (s := s) ⟨c, by rw [cmd?_id hc]; exact hc, Cmd.not_stopping_of_running hr⟩ (popSet_cmds (s.arrive env) n rest _)
  generalize (s.arrive env).popSet n rest (drainVerdicts t c.desc defects set) = v at hrow hcore hmem himage hmay
  refine ⟨fun hretry => hrow.completes ?_, fun hretry => hrow.completes ?_⟩
  · obtain ⟨hsets, hredo, kmem, kimage⟩ := redoTile_again (n := n) (c := c) (t := t) (v := v) hretry
    rw [State.withQueue_read_core]
    exact ⟨hsets.trans (congrArg CoreState.sets hcore), by rw [hredo, hcore], kmem.trans hmem, kimage.trans himage⟩
  · obtain ⟨hends, hsets, kmem⟩ := redoTile_ends (n := n) (t := t) hretry hmay
    rw [State.withQueue_read_core]
    exact ⟨hends, hsets, kmem.trans hmem⟩

/-- A tile whose rows all pass is written. -/
theorem Drains.passes (h : Drains s n set rest) (hn : n < 256) (hc : s.cmd? set.cmd = some c) (ht : s.template c = some t) (hr : c.phase = .running)
    (hw : (s.arrive env).drainWaits n t c set = false) (hv : (drainVerdicts t c.desc defects set).contains 1 = false) :
    Becomes (.drainComplete n defects env) s (((s.arrive env).popSet n rest (drainVerdicts t c.desc defects set)).passTile n t c set
      (((drainRows defects set).zip set.acc).map (fun x => x.1.take x.2.length))) := by
  have hrow : Becomes (.drainComplete n defects env) s _ := h.row hn
  rw [drainSet_passes (u := s.arrive env) hc ht hr hw hv] at hrow
  exact hrow

end

/-! ### The clears as rows -/

section
variable {s : State} (ho : s.hostOpen = true)
include ho

theorem arrClrCounters_completes {n : Nat} (hn : n < 256) (cs : List Nat) (hcs : cs = [Reg.arrCntBusy n, Reg.arrCntFrzOperand n, Reg.arrCntFrzWeight n,
      Reg.arrCntFrzScale n, Reg.arrCntFrzDrain n, Reg.arrCntFiller n, Reg.arrCntPasses n, Reg.arrCntRetryCycles n]) :
    Completes (.arrClrCounters n) s (fun t => t.reg (Reg.arrAbft n) = 0 ∧ (∀ a ∈ cs, t.cnt a = 0) ∧ (∀ a, a ∉ cs → t.cnt a = s.cnt a) ∧
      (∀ a, a ≠ Reg.arrAbft n → t.reg a = s.reg a) ∧ { t with regs := s.regs, cnts := s.cnts } = s) := by
  have hrow : doArrClrCounters n s = cs.foldl (fun s a => s.setCnt a 0) (s.setReg (Reg.arrAbft n) 0) := by
    subst hcs
    unfold doArrClrCounters
    simp only [ho, Bool.not_true, Bool.false_eq_true, if_false]
  refine completes_of (exec_arrClrCounters n s) (decide_eq_true hn) ?_
  rw [hrow]
  obtain ⟨hin, hout⟩ := foldl_setCnt cs (s.setReg (Reg.arrAbft n) 0)
  have hregs := foldl_setCnt_only cs (s.setReg (Reg.arrAbft n) 0)
  generalize cs.foldl (fun s a => s.setCnt a 0) (s.setReg (Reg.arrAbft n) 0) = t at hin hout hregs
  rw [hregs]
  exact ⟨State.reg_setReg_same .., fun a ha => hin a ha, fun a ha => hout a ha, fun a ha => State.reg_setReg_ne _ _ ha, rfl⟩

theorem precClr_completes {n : Nat} (hn : n < 256) : Completes (.precClr n) s (fun t => t.cnt (Reg.precCntSat n) = 0 ∧ t.cnt (Reg.precCntNan n) = 0 ∧
    t.reg (Reg.precShadow n) = 0 ∧ (∀ a, a ≠ Reg.precShadow n → t.reg a = s.reg a) ∧
    (∀ a, a ≠ Reg.precCntSat n → a ≠ Reg.precCntNan n → t.cnt a = s.cnt a) ∧ { t with regs := s.regs, cnts := s.cnts } = s) := by
  refine completes_of (exec_precClr n s) (decide_eq_true hn) ?_
  rw [doPrecClr, if_pos ho]
  have hcnt : ∀ a, ((((s.setCnt (Reg.precCntSat n) 0).setCnt (Reg.precCntNan n) 0).setReg (Reg.precShadow n) 0).withQueue s.pending).cnt a =
      ((s.setCnt (Reg.precCntSat n) 0).setCnt (Reg.precCntNan n) 0).cnt a := fun _ => rfl
  refine ⟨?_, ?_, State.reg_setReg_same .., fun a ha => State.reg_setReg_ne _ _ ha, fun a h1 h2 => ?_, rfl⟩
  · rw [hcnt, State.cnt_setCnt, if_neg (by show 0x4800A0 + 0x100 * n ≠ 0x4800A8 + 0x100 * n; omega), State.cnt_setCnt, if_pos rfl]
    rfl
  · rw [hcnt, State.cnt_setCnt, if_pos rfl]
    rfl
  · rw [hcnt, State.cnt_setCnt, if_neg h2, State.cnt_setCnt, if_neg h1]

theorem precClear_completes {p : Nat} (hp : p < 32) (hr : (s.polderRec p).isSome = true) : Completes (.precClear p) s (fun t =>
    t.reg (Reg.precDrift p) = 0 ∧ t.reg (Reg.precDriftPeak p) = 0 ∧ t.bit (Reg.precDriftStatus p) 0 = false ∧
    (∀ a, a ≠ Reg.precDrift p → a ≠ Reg.precDriftPeak p → a ≠ Reg.precDriftStatus p → t.reg a = s.reg a) ∧
    { t with regs := s.regs, drifted := s.drifted } = s) := by
  refine completes_of (exec_precClear p s) (decide_eq_true hp) ?_
  have hrow : doPrecClear p s = s.clearDrift p := by rw [doPrecClear, ho, hr]; rfl
  obtain ⟨hd, hpk, hst, hregs⟩ := clearDrift_clears s p
  obtain ⟨hpending, hrest⟩ := clearDrift_rest s p
  rw [hrow, withQueue_self hpending]
  exact ⟨hd, hpk, hst, hregs, hrest⟩

end

/-! ### The shadow lane as a row -/

section
variable {s : State} {n : Nat} {sh : Shadow}

theorem laneFreed_skipped (s : State) (n : Nat) : (laneFreed s n 31 16).fld (Reg.precShadow n) 31 16 = min (s.fld (Reg.precShadow n) 31 16 + 1) 65535 ∧
    (laneFreed s n 31 16).fld (Reg.precShadow n) 15 0 = s.fld (Reg.precShadow n) 15 0 :=
  ⟨fld_bumpFld_same (s.setCore n { s.core n with shadow := none }) (Reg.precShadow n) 31 16 1 (by decide) (by decide),
    State.fld_setFld_ne (s.setCore n { s.core n with shadow := none }) _ (by decide) (.inr (.inr (by decide)))⟩

theorem laneFreed_sampled (s : State) (n : Nat) : (laneFreed s n 15 0).fld (Reg.precShadow n) 15 0 = min (s.fld (Reg.precShadow n) 15 0 + 1) 65535 :=
  fld_bumpFld_same (s.setCore n { s.core n with shadow := none }) (Reg.precShadow n) 15 0 1 (by decide) (by decide)

theorem laneFreed_rest (s : State) (n hi lo : Nat) : { laneFreed s n hi lo with cores := s.cores, regs := s.regs } = s := rfl

theorem laneFreed_pending (s : State) (n hi lo : Nat) : (laneFreed s n hi lo).pending = s.pending := rfl

theorem shadowSampleEnd_skipped (hn : n < 256) (h : (s.core n).shadow = some sh) (he : sh.err = none) :
    Completes (.shadowSampleEnd n) s (fun t => (t.core n).shadow = none ∧ (∀ m, m ≠ n → t.core m = s.core m) ∧
      (t.core n) = { s.core n with shadow := none } ∧ { t with cores := s.cores, regs := s.regs } = s ∧
      t.fld (Reg.precShadow n) 31 16 = min (s.fld (Reg.precShadow n) 31 16 + 1) 65535 ∧
      t.fld (Reg.precShadow n) 15 0 = s.fld (Reg.precShadow n) 15 0 ∧ ∀ a, a ≠ Reg.precShadow n → t.reg a = s.reg a) := by
  refine completes_of (exec_shadowSampleEnd n s) (decide_eq_true hn) ?_
  rw [shadowSampleEnd_skips h he, withQueue_self (laneFreed_pending s n 31 16)]
  obtain ⟨hcore, hcores⟩ := laneFreed_core s n 31 16
  obtain ⟨hskip, hsample⟩ := laneFreed_skipped s n
  exact ⟨by rw [hcore], hcores, hcore, laneFreed_rest s n 31 16, hskip, hsample, fun a ha => laneFreed_reg s n 31 16 ha⟩

theorem driftAfter_laneFreed (hn : n < 256) {p : Nat} (hp : p < 32) (e : Word) : driftAfter (laneFreed s n 15 0) p e = driftAfter s p e := by
  have hreg : (laneFreed s n 15 0).reg (Reg.precDrift p) = s.reg (Reg.precDrift p) :=
    laneFreed_reg s n 15 0 (by show 0x494000 + 0x10 * p ≠ 0x4800B0 + 0x100 * n; omega)
  unfold driftAfter
  rw [hreg]
  rfl

theorem shadowSampleEnd_sampled (hn : n < 256) {e : Word} (h : (s.core n).shadow = some sh) (he : sh.err = some e) (hp : sh.polder < 32) :
    Completes (.shadowSampleEnd n) s (fun t => (t.core n).shadow = none ∧
      t.fld (Reg.precShadow n) 15 0 = min (s.fld (Reg.precShadow n) 15 0 + 1) 65535 ∧
      t.reg (Reg.precDrift sh.polder) = driftAfter s sh.polder e ∧ t.cmds = s.cmds ∧ t.mem = s.mem) := by
  refine completes_of (exec_shadowSampleEnd n s) (decide_eq_true hn) ?_
  rw [shadowSampleEnd_samples h he]
  obtain ⟨hcmds, hmem, hcores, hregs⟩ := driftUpdate_frame (laneFreed s n 15 0) sh.polder sh e
  have hdrift := (driftUpdate_drift (laneFreed s n 15 0) sh.polder sh e hp).trans (driftAfter_laneFreed hn hp e)
  have hlane : ((laneFreed s n 15 0).driftUpdate sh.polder sh e).reg (Reg.precShadow n) = (laneFreed s n 15 0).reg (Reg.precShadow n) := by
    rw [hregs _ (by show 0x4800B0 + 0x100 * n ≠ 0x494004 + 0x10 * sh.polder; omega) (by show 0x4800B0 + 0x100 * n ≠ 0x494008 + 0x10 * sh.polder; omega)
      (by show 0x4800B0 + 0x100 * n ≠ 0x600010; omega) (by show 0x4800B0 + 0x100 * n ≠ 0x600000; omega)]
    exact State.reg_setReg_ne _ _ (by show 0x4800B0 + 0x100 * n ≠ 0x494000 + 0x10 * sh.polder; omega)
  generalize (laneFreed s n 15 0).driftUpdate sh.polder sh e = t at hcmds hmem hcores hregs hdrift hlane
  refine ⟨?_, ?_, hdrift, hcmds, hmem⟩
  · have hcore : (t.withQueue s.pending).core n = (laneFreed s n 15 0).core n := CoresKept.core hcores n
    rw [hcore, (laneFreed_core s n 15 0).1]
  · have hfld : (t.withQueue s.pending).fld (Reg.precShadow n) 15 0 = (laneFreed s n 15 0).fld (Reg.precShadow n) 15 0 := by
      show t.fld (Reg.precShadow n) 15 0 = _
      rw [State.fld, hlane]
      rfl
    rw [hfld, laneFreed_sampled]

end

end Sys2Proof.Machine
namespace Sys2Proof.Proofs
open Sys2Proof.Machine

/-- Settles O25: passes by what beginning and staging keep, drains by the verdicts of their rows, the lane and the clears by the registers they write. -/
theorem corePassesAndClears : Obligations.CorePassesAndClears := by
  unfold Obligations.CorePassesAndClears
  refine ⟨fun s n env hn => ⟨fun id tile retry c t hp hnext hh hc ht => ⟨?_, fun g hg => ?_, fun st a hg hr => ?_⟩, fun hp => ?_,
      fun defects set rest hset hf hh hi => ?_, fun sh h he => shadowSampleEnd_skipped hn h he, fun sh e h he hp => ⟨?_, ?_⟩⟩,
    fun s ho => ⟨fun n hn => arrClrCounters_completes ho hn _ rfl, fun n hn => precClr_completes ho hn, fun p hp hr => precClear_completes ho hp hr,
      fun p hp hr => ?_⟩⟩
  case refine_1 => exact becomes_of (exec_passStart n env s) (decide_eq_true hn) (passStart_runs hp hnext hh)
  case refine_2 => exact passStart_fills hn hp hnext hh hc ht hg
  case refine_3 => exact passStart_drops hn hp hnext hh hc ht hg hr
  case refine_4 =>
    refine becomes_of (exec_passStart n env s) (decide_eq_true hn) ?_
    rw [doPassStart, if_neg (by rw [hp]; decide)]
  case refine_5 =>
    have hd : Drains s n set rest := ⟨hset, hf, hh, hi⟩
    refine ⟨hd.row hn, fun hc => ?_, fun c t hc ht hr => ⟨fun hw => ?_, fun hw => ⟨fun hv => (hd.fails hn hc ht hr hw hv).1,
      fun hv => (hd.fails hn hc ht hr hw hv).2, hd.passes hn hc ht hr hw, fun hv w hrun hdone hk => ?_⟩⟩⟩
    · have hrow : Becomes (.drainComplete n defects env) s _ := hd.row hn
      rw [drainSet_gone (u := s.arrive env) hc] at hrow
      exact hrow
    · have hrow : Becomes (.drainComplete n defects env) s _ := hd.row hn
      rw [drainSet_waits (u := s.arrive env) hc ht hr hw] at hrow
      exact hrow
    · have hrow := hd.passes hn hc ht hr hw hv
      rw [passTile_writes hrun hdone hk] at hrow
      refine hrow.completes ⟨rfl, ?_⟩
      have hsets : (w.core n).sets = _ := (climbs_writeTile n n t c set _).ok hrun
      rw [State.withQueue_read_core, hsets, popSet_core]
  case refine_6 => exact becomes_of (exec_shadowSampleEnd n s) (decide_eq_true hn) (shadowSampleEnd_samples h he)
  case refine_7 => exact shadowSampleEnd_sampled hn h he hp
  case refine_8 =>
    refine becomes_of (exec_precClear p s) (decide_eq_true hp) ?_
    rw [doPrecClear, hr, if_neg (by simp)]

end Sys2Proof.Proofs
end
